-- ==== Sys2Proof/Word.lean ====
section
/-! DEFINITION. The word types of the model: a 32-bit register or parameter word and a byte, with the plainest
readings of them. Registers are 32 bits wide and memory structures are little-endian (R12). -/
namespace Sys2Proof

/-- A register or parameter word (R12). -/
abbrev Word := BitVec 32

/-- One byte. -/
abbrev Byte := BitVec 8

/-- A run of bytes, lowest address first. -/
abbrev Bytes := List Byte

/-- A function number: F0 the physical function, F1 to F63 the virtual functions. -/
abbrev Fn := Fin 64

end Sys2Proof
end

