-- ==== Sys2Proof/Syntax.lean ====
section
/-! DEFINITION. The commands of the block: one constructor per row of spec/opcode_table.json, in the table's order, each
with the operands the rule named beside it gives. Mailbox commands carry no operand: they act on the command in service (R96, R99). -/
namespace Sys2Proof

/-- The commands. -/
inductive Instr where
  /-- REGISTER_WRITE (R132). A host write to a register field that has no behaviour row of its own takes effect under its access type at the instant the register mutex grants it. -/
  | registerWrite (f : Fn) (off width : Nat) (v : Word)
  /-- PAIR_LO_READ (R133). A read of the _LO half of a 64-bit register pair latches the whole value for that function and returns bits [31:0]. -/
  | pairLoRead (f : Fn) (off : Nat)
  /-- PAIR_HI_WRITE (R134). A write to the _HI half of a writable pair loads both halves, using any held _LO value. -/
  | pairHiWrite (f : Fn) (off : Nat) (v : Word)
  /-- PAIR_LO_WRITE (R134). A write to the _LO half of a writable pair is held until the following _HI write. -/
  | pairLoWrite (f : Fn) (off : Nat) (v : Word)
  /-- HUB_LOCK (R135). Setting HUB_LOCK.LOCK makes every RWL field read only until power-on reset. -/
  | hubLock (v : Word)
  /-- EVT_STATUS_WRITE (R152). A W1C write to an event status word clears bits, and sends a further message for each touched vector whose summary stays 1. -/
  | evtStatusWrite (f : Fn) (k : Fin 8) (v : Word)
  /-- EVT_MASK_WRITE (R152). A write to an event mask word changes which sources are signalled, and updates the summaries and messages of touched vectors. -/
  | evtMaskWrite (f : Fn) (k : Fin 8) (v : Word)
  /-- EVT_FORCE_WRITE (R152). A write to EVT_FORCE sets status bits as a hardware set would, counting each in EVT_LOG_COUNT. -/
  | evtForceWrite (k : Fin 8) (v : Word)
  /-- EVT_ROUTE_WRITE (R150). A write to EVT_ROUTE is checked when it sets EN, and is either stored or refused with ROUTE_ERR set. -/
  | evtRouteWrite (e : Fin 256) (v : Word)
  /-- EVT_LOCAL_WRITE (R154). A write to EVT_LOCAL selects the vectors of the DMA descriptor IRQ and of clip-store task completion, refusing an out-of-range vector. -/
  | evtLocalWrite (f : Fn) (v : Word)
  /-- EVT_VF_ROUTE_SELF (R157). A VF writes EN and VECTOR of the route of its private completion source. -/
  | evtVfRouteSelf (f : Fn) (v : Word)
  /-- MBX_DOORBELL (R96). A doorbell write copies the command area into Armature memory and sets BUSY, or is refused with RING_LOST set. -/
  | mbxDoorbell (f : Fn) (v : Word)
  /-- MBX_SERVICE_START (R99). The Armature starts the service turn of the next rung mailbox in round-robin order, applying the sequence checks of R95 and R93. -/
  | mbxServiceStart
  /-- SYS_INFO (R108). Returns part, stepping, grade, PKG_ID, function, firmware release and rights mask. -/
  | sysInfo
  /-- PRM_GET (R145). Returns the value in force of each named parameter, marking entries with staged values ST_STAGED. -/
  | prmGet
  /-- PRM_SET (R146). Validates every entry and then writes all of them, applying, staging or saving each according to its mark. -/
  | prmSet
  /-- CFG_COMMIT (R112). Copies and empties the caller's staged set, and answers ST_PENDING with a ticket for the commit. -/
  | cfgCommit
  /-- CFG_DISCARD (R114). Empties the caller's staged set without affecting a pending commit. -/
  | cfgDiscard
  /-- CFG_STATUS (R108). Returns the count of staged items, the pending ticket and the last applied frame. -/
  | cfgStatus
  /-- TKT_GET (R110). Returns and frees a completed ticket's result, or reports an open ticket as pending. -/
  | tktGet
  /-- PIPE_DESCRIBE (R803). Returns the stage and unit description of one pipeline of the configuration in force. -/
  | pipeDescribe
  /-- COMMIT_VALIDATED (R116). Firmware finishes validating a commit and either arms it for its boundary or completes the ticket with the refusal. -/
  | commitValidated (p : Fin 96) (peer : Option (Nat × Nat))
  /-- ARMATURE_LOCKSTEP_MISMATCH (R85). The lockstep checker halts both cores, raises E067 and passes recovery to the Plinth sentinel. -/
  | armatureLockstepMismatch
  /-- ARMATURE_WATCHDOG_EXPIRY (R86). The Armature watchdog expires, E066 is raised, and the cores are halted and recovered as for a mismatch. -/
  | armatureWatchdogExpiry
  /-- ARMATURE_RECOVERED (R87). The other firmware image restores state and resumes mailbox service, settling interrupted commands and raising E068. -/
  | armatureRecovered (otherOk firstOk : Bool) (ms : Nat)
  /-- ABT_GO (R126). A write of GO to ABT_CTRL asserts the stop inputs of the target's work, or queues the abort behind the one in progress. -/
  | abtGo (writer f : Fn) (v : Word)
  /-- ABORT_COMPLETE (R122). An abort finishes draining its target, sets RESULT and DONE, raises E000 + f and E064, and starts any queued abort. -/
  | abortComplete (f : Fn)
  /-- ABORT_TIMEOUT (R123). An abort that has not completed within 2 ms is finished anyway, and E065 is raised. -/
  | abortTimeout (f : Fn)
  /-- PACE_WINDOW_END (R70). A unit's pace monitor ends its 100 µs window and reports the unit's rate, which hardware checks against the thermal thresholds. -/
  | paceWindowEnd (p : Fin 2176) (rate : Nat)
  /-- HK_SAMPLE (R733). The housekeeping orbit samples its next channel and updates THM_CHAN, the supply limits and the class readings. -/
  | hkSample (value : Nat)
  /-- THM_CONV (R734). A write of GO to THM_CONV requests a conversion of one channel, or is dropped with OVERRUN if one is pending. -/
  | thmConv (v : Word)
  /-- CONV_DONE (R734). The requested channel is sampled, and the result is placed in THM_CONV_RESULT with DONE set. -/
  | convDone (value : Nat)
  /-- THROTTLE_ENFORCE (R740). The grace time runs out with the work fraction above TARGET, and the device sheds work levels in order. -/
  | throttleEnforce
  /-- THROTTLE_CHECK (R741). The once-per-second check during enforcement lowers TARGET and sheds the next level if a cause still holds. -/
  | throttleCheck
  /-- THROTTLE_RELEASE (R739). The release condition holds for THM_RELEASE_S, and the request is cleared or restoration begins. -/
  | throttleRelease
  /-- SHED_RESTORE (R743). One shed level is restored per second in reverse order, and the request ends at level 0. -/
  | shedRestore
  /-- CLUSTER_RESTART (R745). A stopped cluster whose summary has stayed below THM_RELEASE_C is restarted at the next frame boundary. -/
  | clusterRestart (c : Fin 128)
  /-- PIN_FAULT (R749). A single-ended output's pad level disagrees with its drive for the stated time, and a short or open is reported. -/
  | pinFault (n : Fin 68) (present : Bool)
  /-- HOURLY_REANCHOR (R72). Firmware re-anchors the ageing term of the pace monitors and updates the lifetime mean of Tj. -/
  | hourlyReanchor
  /-- VCORE_STEP (R81). Firmware commands one VCORE step of at most 10 mV and confirms it with READ_VOUT, stopping steering after three failures. -/
  | vcoreStep (die : Fin 4) (mv : Nat) (readback : Option Nat)
  /-- SAL_PORT_MODE (R190). A write of MODE to SAL_PORT_CTRL switches a SAL port between off, train and run. -/
  | salPortMode (n : Fin 4) (v : Word)
  /-- LANE_SLIP (R189). A write of SLIP moves a lane's block boundary one bit later. -/
  | laneSlip (tlk : Bool) (n : Fin 128) (v : Word)
  /-- SAL_ALIGN_COLUMN (R166). An ALIGN column arrives on a SAL port, and the receiver deskews the lanes and sets READY after two consistent columns. -/
  | salAlignColumn (n : Fin 4) (skew : Nat) (lanes : List (Nat × Bool))
  /-- SAL_BLOCK_LOCK_LOST (R190). A lane loses block lock, so the port drops READY, returns to train mode and ends every frame in progress. -/
  | salBlockLockLost (n : Fin 4) (k : Fin 8)
  /-- SAL_PACKET (R184). A SAL raw, metadata or statistics packet is assembled and checked, then passed on, filled or dropped, possibly starting or ending a frame. -/
  | salPacket (n : Fin 4) (framing : Bool) (full : Option (Fin 8)) (at4 : Nat) (bytes : Bytes)
  /-- SAL_CTRL_REPLY (R185). A WRITE_ACK or READ_DATA reply arrives and completes the outstanding back-channel command of its tag. -/
  | salCtrlReply (n : Fin 4) (bytes : Bytes)
  /-- SAL_PAIR_WAIT_TIMEOUT (R177). A half line of a paired sensor waits more than 8 line times for its partner, and the missing part is filled. -/
  | salPairWaitTimeout (sn : Fin 8)
  /-- SAL_FRAME_TIMEOUT (R179). SAL_SNS_TIMEOUT_US passes without a packet of the frame, and the frame ends and is filled. -/
  | salFrameTimeout (sn : Fin 8)
  /-- SAL_BC_TIMEOUT (R185). No reply arrives within SAL_BC_TIMEOUT_US, so the command is resent, or after the third timeout fails with ST_TIMEOUT. -/
  | salBcTimeout (n : Fin 4)
  /-- SAL_UPSTREAM_TRIGGER (R191). An upstream TRIGGER block passes the medium boundary and is captured as a trigger. -/
  | salUpstreamTrigger (sn : Fin 8)
  /-- TRIG_IN_EDGE (R542). A qualifying edge on TRIG_IN is time-stamped and captured, and serves any SAL trigger that names it. -/
  | trigInEdge (n : Fin 8) (falling : Bool) (widthNs : Nat)
  /-- SAL_TRIGGER_SEND (R191). A TRIGGER block is sent on the sensor's back channel at the capture time plus SAL_TRIG_DELAY_NS. -/
  | salTriggerSend (sn : Fin 8)
  /-- SAL_BC_WRITE (R185). Sends a REG_WRITE back-channel command to a sensor head under a new tag. -/
  | salBcWrite
  /-- SAL_BC_READ (R185). Sends a REG_READ back-channel command to a sensor head under a new tag. -/
  | salBcRead
  /-- SAL_FRAME_INFO (R187). Returns the flags, time-stamp and ring addresses of one of a sensor's last 8 frames. -/
  | salFrameInfo
  /-- RFE_TABLE_LOAD (R235). Checks a front-end table image in device memory and copies it into the staged set. -/
  | rfeTableLoad
  /-- RFE_TABLE_READ (R238). Copies a front-end table in force to a buffer in device memory. -/
  | rfeTableRead
  /-- RFE_STAT_INFO (R237). Returns the addresses and last sequence of a sensor's statistics rings. -/
  | rfeStatInfo
  /-- STAT_RECORD_DONE (R232). A statistics record is complete in device memory and, if set, copied to host, and E128 + s is raised. -/
  | statRecordDone (sn : Fin 8)
  /-- CC_TABLE_LOAD (R283). Checks a colour table image and loads its staged copy. -/
  | ccTableLoad
  /-- CC_TABLE_READ (R283). Copies a colour table in force to a buffer. -/
  | ccTableRead
  /-- OUT_INFO (R284). Returns the ring layout and counters of a scaled or triad output. -/
  | outInfo
  /-- TRIAD_RELEASE (R279). F0 releases a triad output from its owner. -/
  | triadRelease
  /-- OUTPUT_FRAME_DONE (R275). A scaled or triad output frame is complete in its ring, and E140 or E138 + t is raised. -/
  | outputFrameDone (o : Fin 18)
  /-- CAST_OPEN (R306). Opens a Cast job under the lowest free handle and, for record and RTP jobs, takes its engines. -/
  | castOpen
  /-- CAST_RUN (R317). Queues an encode or decode run of a run job. -/
  | castRun
  /-- CAST_CLOSE (R318). Stops a job taking new frames, and frees it after the frame in progress. -/
  | castClose
  /-- CAST_INFO (R316). Returns the state and counters of a Cast job. -/
  | castInfo
  /-- CAST_RUN_START (R307). A waiting run takes free shared engines and starts, in doorbell order. -/
  | castRunStart
  /-- CAST_RUN_DONE (R317). A run completes or fails, and its ticket completes with the valid bytes. -/
  | castRunDone (h : Fin 4096)
  /-- CAST_SLOT_DONE (R314). A record or RTP decode frame's slot is written complete or failed, and E144 + e is raised. -/
  | castSlotDone (h : Fin 4096)
  /-- CAST_CLOSE_DONE (R318). The frame in progress of a closing job ends, and its engines and handle are freed. -/
  | castCloseDone (h : Fin 4096)
  /-- CAST_RTP_PACKET (R320). A Cast RTP payload is placed at its offset, completing or failing the frame being received. -/
  | castRtpPacket (h : Fin 4096) (ts : Nat) (payload : Bytes)
  /-- STR_CTX_CREATE (R335). Creates a stream context under the lowest free index and returns its cache set. -/
  | strCtxCreate
  /-- STR_CTX_DELETE (R338). Waits for the context's packets to drain and frees its index. -/
  | strCtxDelete
  /-- STR_CTX_ENABLE (R339). Enables a stream context immediately. -/
  | strCtxEnable
  /-- STR_CTX_DISABLE (R339). Disables a stream context immediately, keeping its entry and counters. -/
  | strCtxDisable
  /-- STR_CTX_PIN (R342). Loads a context entry into the cache and keeps it there. -/
  | strCtxPin
  /-- STR_CTX_UNPIN (R342). Releases a pinned context entry to normal replacement. -/
  | strCtxUnpin
  /-- STR_CTX_INFO (R363). Returns the state and counters of a context. -/
  | strCtxInfo
  /-- STR_RULE_WRITE (R347). Stages a classification rule at one index in the caller's staged set. -/
  | strRuleWrite
  /-- STR_RULE_CLEAR (R347). Stages the clearing of one rule index. -/
  | strRuleClear
  /-- STR_RULE_READ (R363). Returns the owner, state and, to its owner, the content of a rule index. -/
  | strRuleRead
  /-- PRN_SCOPE_SET (R333). F0 sets a VF's scope and its context and rule quotas. -/
  | prnScopeSet
  /-- PRN_INFO (R363). Returns a function's rights, holdings, quotas and scope. -/
  | prnInfo
  /-- ETH_FRAME_RX (R351). An Ethernet frame is received, answered if it is ARP, ND or a query, or classified and put through the ingress steps of its context. -/
  | ethFrameRx (p : Fin 4) (fcsOk room : Bool) (frame : Bytes)
  /-- CTX_MISS_FILL (R340). A context entry fetched on a cache miss arrives, evicts the LRU unpinned way and releases the waiting packets. -/
  | ctxMissFill
  /-- MISS_STORM_WINDOW (R343). A 1 ms window ends, and E088 is raised if its misses exceeded STR_MISS_STORM_T. -/
  | missStormWindow
  /-- PATH_LOSS (R356). An ST 2022-7 path delivers no accepted packet for ETH_PATH_LOSS_US and is declared lost. -/
  | pathLoss (n : Fin 4096) (pathB : Bool)
  /-- STREAM_FRAME_TIMEOUT (R353). Two frame periods pass without a packet, and the ingress video frame in progress ends. -/
  | streamFrameTimeout (n : Fin 4096)
  /-- EGRESS_PACKET (R360). The pacer reaches the time of the next egress packet and sends it, or ends the frame as an underflow. -/
  | egressPacket (n : Fin 4096) (len : Nat) (ready : Bool)
  /-- ETH_LINK_CHANGE (R681). An Ethernet port's link state changes, and E080 + port is raised. -/
  | ethLinkChange (p : Fin 4) (up fec aligned : Bool)
  /-- XPL_MBX_FORWARD (R43). A mailbox command forwarded over XPL is executed with the rights granted to its remote principal, or refused with E095. -/
  | xplMbxForward (pkg : Fin 16) (f : Fn) (header payload : Bytes)
  /-- MQT_LOAD (R369). Checks a maquette image and places it in F0's staged set. -/
  | mqtLoad
  /-- MQT_READ (R408). Copies the maquette image in force to a buffer. -/
  | mqtRead
  /-- WIN_SET (R377). Stages the setting or clearing of one window of a principal. -/
  | winSet
  /-- LYR_SET (R378). Stages a layer descriptor at a named or the lowest free layer index. -/
  | lyrSet
  /-- LYR_CLEAR (R378). Stages the clearing of a layer. -/
  | lyrClear
  /-- LYR_INFO (R408). Returns the state and counters of a layer. -/
  | lyrInfo
  /-- CMD_PUSH (R402). Computes one rectangle of a tile in command mode and sends it to the tile's pending buffer. -/
  | cmdPush
  /-- CMD_PUSH_DONE (R402). The last packet of a push leaves, the ticket completes, and E165 is raised. -/
  | cmdPushDone
  /-- CMD_LATCH (R402). Sends a conjunction to every tile of a command-mode group at a given time or as soon as possible. -/
  | cmdLatch
  /-- FRAME_BOUNDARY (R391). Every gating layer of a group is ready after GRP_PERIOD_MIN, or a chase sensor starts a frame, and the group starts a frame. -/
  | frameBoundary (g : Fin 4)
  /-- ALIGNED_BOUNDARY (R394). Device time reaches k × period + GRP_PHASE_NS of an aligned group, and a boundary occurs. -/
  | alignedBoundary (g : Fin 4)
  /-- GRP_PERIOD_MAX_EXPIRY (R393). GRP_PERIOD_MAX passes since the last boundary, and a boundary occurs, with late layers or a HOLD frame. -/
  | grpPeriodMaxExpiry (g : Fin 4)
  /-- TILE_MISS_STORM_WINDOW (R374). A 1 ms window ends, and E163 is raised if its tile-entry misses exceeded TILE_MISS_STORM_T. -/
  | tileMissStormWindow
  /-- UNIT_TOKEN (R23). A unit receives a token across a handshake, checks its CRC, runs its stage program on it and passes the result on. -/
  | unitToken (p : Fin 2176) (sender : Option (Fin 2176)) (data : BitVec 256) (crc : BitVec 16) (frame y x : Nat) (late denied : Bool)
  /-- LATCH_DEADLINE (R494). A tile's last lamp data cannot leave by its deadline, and a HOLD conjunction is sent in its place. -/
  | latchDeadline (t : Fin 1024)
  /-- CONJUNCTION_SEND (R494). The device sends a tile's conjunction after the tile's last lamp data of the latch. -/
  | conjunctionSend (t : Fin 1024)
  /-- PAT_LOAD (R421). Checks a patina image, folds its gains into the inactive bank, sends the drive settings and stages a bank switch. -/
  | patLoad
  /-- PAT_READ (R440). Copies records or drive entries of a patina bank to a buffer. -/
  | patRead
  /-- PAT_TABLE_LOAD (R437). Checks a correction table and places it in F0's staged set. -/
  | patTableLoad
  /-- PAT_TABLE_READ (R440). Copies a correction table in force to a buffer. -/
  | patTableRead
  /-- PAT_INFO (R440). Returns the bank state, the writer of the inactive bank and PAT_GEN. -/
  | patInfo
  /-- PAT_LAMP_READ (R440). Returns one lamp's record, drive entries and last grey values. -/
  | patLampRead
  /-- PAT_SYNC_DONE (R418). The background copy of the active bank into the inactive bank ends, and the inactive bank is free. -/
  | patSyncDone
  /-- LIB_MAP_BUILD (R459). Starts a three-phase witness-map build for a range of tiles. -/
  | libMapBuild
  /-- LIB_MAP_LOAD (R461). Checks a witness-map image and stages it. -/
  | libMapLoad
  /-- LIB_MAP_READ (R479). Copies witness-map entries to a buffer. -/
  | libMapRead
  /-- LIB_ROLLBACK (R474). Restores the baseline or a committed generation into the inactive bank and arms its switch. -/
  | libRollback
  /-- LIB_INFO (R479). Returns the libration state and history. -/
  | libInfo
  /-- LIB_LAMP_INFO (R479). Returns one lamp's map entry, accumulators and estimates. -/
  | libLampInfo
  /-- LIB_RESET (R480). Clears every accumulator at the next boundary of LIB_GROUP. -/
  | libReset
  /-- LIB_COMMIT (R472). Arms a written libration update for a boundary of LIB_GROUP. -/
  | libCommit
  /-- LIB_WITNESS_FRAME (R463). The correlation of a witness frame or photosensor reading is added to the accumulators of every block not excluded. -/
  | libWitnessFrame (w : Fin 2) (photo : Option (Fin 64 × Fin 32)) (frame : Nat) (started : Bool)
  /-- LIB_PERIOD_END (R466). A code period ends, and the device estimates gains and confidence and decides the updates. -/
  | libPeriodEnd
  /-- LIB_UPDATE_WRITTEN (R470). The rows of an update are written into the inactive bank with their undo log, E177 is raised, and the update is armed if AUTO_COMMIT is set. -/
  | libUpdateWritten
  /-- LIB_MAP_BUILD_DONE (R459). The last phase of a map build ends, its entries are written, and E182 is raised. -/
  | libMapBuildDone (found : List (Nat × Bytes))
  /-- TLK_LINK_MODE (R510). A write of MODE to TLK_LINK_CTRL switches a tile link between off, train and run. -/
  | tlkLinkMode (l : Fin 64) (v : Word)
  /-- TLK_LINK_READY (R510). A link meets its READY condition, and discovery starts by itself. -/
  | tlkLinkReady (l : Fin 64) (skew : Nat)
  /-- TLK_BLOCK_LOCK_LOST (R510). A tile link loses block lock, drops READY with E192 and starts a retrain. -/
  | tlkBlockLockLost (l : Fin 64) (k : Fin 2) (los : Bool)
  /-- TIME_SYNC_SEND (R497). Every 1 ms each serving end sends a TIME_SYNC down its chain. -/
  | timeSyncSend (l : Fin 64)
  /-- SYNC_REPLY (R500). A tile's SYNC_REPLY arrives, and the device computes the tile's offset and checks latch skew. -/
  | syncReply (l : Fin 64) (crcOk : Bool) (hop : Fin 32) (seq : Fin 256) (cd cu t2 t3 : Nat)
  /-- TELEMETRY (R503). A tile's status or photosensor telemetry packet arrives and updates errors, faults and zone temperatures. -/
  | telemetry (l : Fin 64) (crcOk : Bool) (hop : Fin 32) (photo : Bool) (payload : Bytes)
  /-- CTRL_ACK (R501). A CTRL_ACK or CTRL_DATA reply completes the outstanding control packet of its tag. -/
  | ctrlAck (l : Fin 64) (crcOk : Bool) (hop : Fin 32) (tag status : Nat) (values : Bytes)
  /-- CTRL_TIMEOUT (R501). No control reply arrives within TLK_CTRL_TIMEOUT_US, so the packet is resent or fails with E194. -/
  | ctrlTimeout (l : Fin 64)
  /-- DISCOVER_SEND (R504). The device sends DISCOVER on a ready link at bring-up or every TLK_DISCOVER_MS. -/
  | discoverSend (l : Fin 64)
  /-- DISCOVER_REPLY (R505). A tile's DISCOVER_REPLY is compared with its tile entry, and changes or mismatches are reported. -/
  | discoverReply (l : Fin 64) (crcOk : Bool) (hop : Fin 32) (payload : Bytes)
  /-- TLK_BREAK (R506). A break is declared on a link, and a ring is split at the next frame boundary. -/
  | tlkBreak (l : Fin 64) (hop : Fin 32)
  /-- TRAIN_REQ (R508). A TRAIN_REQ arrives on a hop and is answered with TRAIN_ACK carrying the agreed width. -/
  | trainReq (l : Fin 64) (tag width : Fin 256) (rate : Bool)
  /-- TRAIN_ACK (R508). A TRAIN_ACK arrives, and the width changes at the next ALIGN column. -/
  | trainAck (l : Fin 64) (tag width : Fin 256) (rate : Bool) (agreed : Fin 256)
  /-- TLK_RETRAIN_DONE (R509). A retrain or width change of a link completes, and E202 is raised. -/
  | tlkRetrainDone (l : Fin 64)
  /-- TLK_DISCOVER (R516). Runs discovery on one link. -/
  | tlkDiscover
  /-- TLK_TILE_INFO (R516). Returns a tile's discovery reply, state, telemetry and offset. -/
  | tlkTileInfo
  /-- TLK_CTRL_WRITE (R501). Writes a tile vendor's registers by acknowledged CTRL_WRITE. -/
  | tlkCtrlWrite
  /-- TLK_CTRL_READ (R501). Reads a tile's registers by CTRL_READ. -/
  | tlkCtrlRead
  /-- TLK_RETRAIN (R508). Starts a retrain or width change of a link. -/
  | tlkRetrain
  /-- DDP_INFO (R516). Returns the status of a direct drive port. -/
  | ddpInfo
  /-- DDP_LATCH (R512). At a latch time a direct drive port pulses DDP_LAT after its shifted grey frame, or counts a HOLD. -/
  | ddpLatch (p : Fin 16) (mismatch : Bool)
  /-- TIM_NOW_READ (R521). A read of TIM_NOW_NS latches all 96 bits of device time for the reading function. -/
  | timNowRead
  /-- TIM_CAP_READ (R542). A read of TIM_CAP_NS moves the oldest capture of the FIFO into the function's latch. -/
  | timCapRead (n : Fin 8)
  /-- TIM_GET (R549). Returns device time, servo state, offset, rate and master. -/
  | timGet
  /-- TIM_ACQUIRE (R524). Steps device time to an explicit time, or waits for the source's next measurement. -/
  | timAcquire
  /-- TIM_ADJUST (R549). Sets the rate ρ in host servo mode. -/
  | timAdjust
  /-- TIM_PTP_INFO (R549). Returns the PTP state of one port. -/
  | timPtpInfo
  /-- TIM_PEERS (R549). Returns the packages reachable over XPL and their offsets. -/
  | timPeers
  /-- PTP_MESSAGE (R523). A PTP message arrives, and the servo steps or steers device time and updates its lock state. -/
  | ptpMessage (p : Fin 4) (msg : Bytes)
  /-- PTP_SEND (R529). A PTP port in master state sends its scheduled Announce, Sync or Delay message. -/
  | ptpSend (p : Fin 4) (kind : Fin 3)
  /-- PTP_ANNOUNCE_TIMEOUT (R526). No accepted time message arrives for TIM_PTP_ANN_TIMEOUT intervals, and the servo enters holdover. -/
  | ptpAnnounceTimeout (p : Option (Fin 4))
  /-- XPL_TIME_EXCHANGE (R533). Every 1 ms a package sends a two-way time exchange toward the master and steers by its result. -/
  | xplTimeExchange (peer : Fin 16) (candidate locked holdover : Bool) (t1 t2 t3 t4 cd cu : Nat)
  /-- TPO_ARM (R537). A write of ARM loads a time-pulse output's shadows and starts its schedule, or sets CFG_ERR. -/
  | tpoArm (n : Fin 16) (v : Word)
  /-- TPO_STOP (R538). A write of STOP ends a pulse schedule after any pulse in progress. -/
  | tpoStop (n : Fin 16) (v : Word)
  /-- TPO_EDGE (R536). A scheduled pulse edge leaves the ball, and FIRED, E212 and any trigger capture follow. -/
  | tpoEdge (n : Fin 16)
  /-- AUD_CS_READ (R560). Returns a channel's last channel status and user bits. -/
  | audCsRead
  /-- AUD_CS_WRITE (R561). Replaces bytes 0–22 of an output's channel status at the next block start. -/
  | audCsWrite
  /-- AUD_INFO (R562). Returns the state, ratio, delay and ring counters of an audio port. -/
  | audInfo
  /-- AUD_CLOCK_LOSS (R555). The clock that a port follows is lost, and the port mutes with E216. -/
  | audClockLoss (p : Fin 8)
  /-- AUD_RATIO_ERROR (R553). A measured line rate leaves its tolerance, and the port mutes with E217. -/
  | audRatioError (p : Fin 8) (hz : Nat)
  /-- AUD_UNMUTE (R555). A port's clock has been stable for AUD_UNMUTE_MS, and the port unmutes at the next zero crossing. -/
  | audUnmute (p : Fin 8) (hz : Nat)
  /-- AUD_ZC_TIMEOUT (R558). A change waits 10 ms for a zero crossing and takes effect anyway, with E219. -/
  | audZcTimeout (p : Fin 8)
  /-- AUD_CS_BLOCK (R560). An input block's channel status is decoded, CRC-checked and compared with the last accepted block. -/
  | audCsBlock (p : Fin 8) (chan : Fin 2) (status user : Bytes)
  /-- AUD_FRAME_NEEDED (R557). An output checks whether the frame it needs is in its ring and plays it or zeros. -/
  | audFrameNeeded (p : Fin 8)
  /-- CST_TASK_READ (R575). GO with OP READ starts a clip-store read task. -/
  | cstTaskRead (f : Fn) (v : Word)
  /-- CST_TASK_WRITE (R575). GO with OP WRITE starts a clip-store write task. -/
  | cstTaskWrite (f : Fn) (v : Word)
  /-- CST_TASK_FLUSH (R578). GO with OP FLUSH makes the function's earlier writes durable. -/
  | cstTaskFlush (f : Fn) (v : Word)
  /-- CST_TASK_DEALLOCATE (R575). GO with OP DEALLOCATE makes a block range read as zero. -/
  | cstTaskDeallocate (f : Fn) (v : Word)
  /-- CST_PIECE_DONE (R577). A drive command of a task piece ends with success or an error. -/
  | cstPieceDone (f : Fn) (lba : Nat) (ok : Bool)
  /-- CST_TASK_DONE (R577). A task's last piece ends, and STATUS, RESULT and DONE are set and the local vector signalled. -/
  | cstTaskDone (f : Fn)
  /-- DRV_CMD_TIMEOUT (R580). A drive command exceeds DRV_CMD_TIMEOUT_MS and is aborted, or the drive is reset. -/
  | drvCmdTimeout (f : Fn) (lba : Nat)
  /-- CST_IDLE_ENTRY (R581). No piece is issued for CST_IDLE_MS, and the store enters IDLE. -/
  | cstIdleEntry
  /-- CST_SLEEP_ENTRY (R581). No piece is issued for a further CST_SLEEP_MS, and the store enters SLEEP. -/
  | cstSleepEntry
  /-- CST_STORE_INFO (R567). Returns the store state, capacity and exit latencies. -/
  | cstStoreInfo
  /-- CST_STORE_FORMAT (R566). Formats the usable drives into a new store. -/
  | cstStoreFormat
  /-- CST_NS_CREATE (R570). Creates a namespace under the lowest free number. -/
  | cstNsCreate
  /-- CST_NS_DELETE (R572). Deletes a namespace after its tasks in flight end. -/
  | cstNsDelete
  /-- CST_NS_INFO (R571). Returns a namespace's owner, holder and size. -/
  | cstNsInfo
  /-- CST_NS_QUOTA (R570). F0 sets a VF's namespace-count and size quotas. -/
  | cstNsQuota
  /-- REC_OPEN (R584). Opens a recorder on a record job and namespace, recovering any open clip. -/
  | recOpen
  /-- REC_TAKE_START (R588). Opens a clip entry, and the take begins with the next completed slot. -/
  | recTakeStart
  /-- REC_TAKE_STOP (R588). Ends a take after its last slot, then writes the index, the entry and the directory header. -/
  | recTakeStop
  /-- REC_CLOSE (R584). Closes a recorder outside a take. -/
  | recClose
  /-- REC_SLOT (R586). A recorder takes a completed record slot and writes its frame and index entry during a take. -/
  | recSlot (r : Fin 4) (ok : Bool)
  /-- PLAY_OPEN (R591). Opens a playback of a clip into a ring. -/
  | playOpen
  /-- PLAY_RUN (R592). Starts a playback running. -/
  | playRun
  /-- PLAY_STOP (R592). Stops a running playback. -/
  | playStop
  /-- PLAY_LOOP_ON (R592). Sets LOOP on a playback. -/
  | playLoopOn
  /-- PLAY_LOOP_OFF (R592). Clears LOOP on a playback. -/
  | playLoopOff
  /-- PLAY_CLOSE (R593). Closes a playback that no committed layer names. -/
  | playClose
  /-- PLAY_INFO (R591). Returns a playback's frame and counters. -/
  | playInfo
  /-- PLAY_DECODE_DONE (R592). A playback frame's decode completes into a ring slot, or the frame is skipped. -/
  | playDecodeDone (h : Fin 16)
  /-- MEM_ALLOC (R616). Reserves a run of pool granules, then zeroes and tags it. -/
  | memAlloc
  /-- MEM_ALLOC_DONE (R616). An allocation's zeroing ends, it is tagged for the caller, and its ticket completes. -/
  | memAllocDone (f : Fn) (ticket : Nat)
  /-- MEM_FREE (R617). Returns an allocation's granules to the pool. -/
  | memFree
  /-- MEM_QUOTA (R616). F0 sets a VF's memory quota. -/
  | memQuota
  /-- MEM_INFO (R618). Returns the caller's allocations, quota and the free pool. -/
  | memInfo
  /-- MEM_REQUEST (R600). A line access reaches a controller front end, is checked against its granule tag, ordered, and served by urgency. -/
  | memRequest (port : Fin 16) (tag : Option Fn) (addr : Nat) (write : Option Bytes) (len age : Nat) (waited : Bool) (depth : Fin 65) (ecc : Fin 3)
  /-- SCRUB_LINE (R608). The patrol scrubber reads, corrects or poisons the next line of its stack. -/
  | scrubLine (m : Fin 4) (line : Nat) (ecc : Fin 3)
  /-- MEM_CE_WINDOW (R605). A second of device time ends, and E224 is raised if corrections exceeded MEM_CE_THRESH. -/
  | memCeWindow
  /-- MEM_PD_ENTRY (R609). A pseudo-channel idle for MEM_PD_IDLE_NS or MEM_SR_IDLE_US enters power-down or self-refresh. -/
  | memPdEntry (m : Fin 4) (pc : Fin 32) (self : Bool)
  /-- MEM_RETRAIN (R613). Once a second a pseudo-channel is retrained in place. -/
  | memRetrain (m : Fin 4) (pc : Fin 32)
  /-- DMA_ENABLE (R634). A write of EN = 1 latches DMA_HEAD and starts the channel. -/
  | dmaEnable (f : Fn) (v : Word)
  /-- DMA_DISABLE (R634). A write of EN = 0 disables a parked or paused channel, or is ignored. -/
  | dmaDisable (f : Fn) (v : Word)
  /-- DMA_PAUSE (R635). Setting PAUSE stops new reads of a channel. -/
  | dmaPause (f : Fn) (v : Word)
  /-- DMA_RESUME (R635). Clearing PAUSE resumes a channel from the next byte. -/
  | dmaResume (f : Fn) (v : Word)
  /-- DMA_PAUSED (R635). The last outstanding read of a pausing channel is written, and PAUSED is set. -/
  | dmaPaused (f : Fn) (bytes : Nat)
  /-- DMA_DOORBELL (R630). A doorbell re-reads a parked tail, or sets DB_PENDING while the channel runs. -/
  | dmaDoorbell (f : Fn) (v : Word)
  /-- DMA_DESC_FETCH (R626). The engine reads the next descriptor of a chain, parking at a tail mark or halting on an error. -/
  | dmaDescFetch (f : Fn) (fail : Fin 3)
  /-- DMA_DESC_DONE (R627). A descriptor's last data write leaves, its status is written and OWN cleared, and IRQ set. -/
  | dmaDescDone (f : Fn) (fail : Fin 3) (bytes : Nat)
  /-- SEC_INFO (R647). Returns the security state and self-test result. -/
  | secInfo
  /-- SEC_CHALLENGE (R644). Returns a fresh login nonce. -/
  | secChallenge
  /-- SEC_LOGIN (R644). Opens a CO or User session on a verified signature. -/
  | secLogin
  /-- SEC_LOGOUT (R645). Ends the caller's session. -/
  | secLogout
  /-- SEC_SELFTEST (R648). Runs the island self-tests on demand. -/
  | secSelftest
  /-- SEC_ZEROISE (R657). Zeroises the island by command. -/
  | secZeroise
  /-- SEC_CO_PROVISION (R646). Fuses the Crypto Officer public key once. -/
  | secCoProvision
  /-- SEC_USER_ENROL (R647). Sets or clears the User key of a function. -/
  | secUserEnrol
  /-- SEC_KEX_BEGIN (R652). Opens a key exchange with a signed ephemeral key. -/
  | secKexBegin
  /-- SEC_KEY_IMPORT (R653). Unwraps a stream key into a free key slot and returns its handle. -/
  | secKeyImport
  /-- SEC_KEY_DESTROY (R656). Destroys a key that no context holds. -/
  | secKeyDestroy
  /-- SEC_CTX_KEY (R654). Installs a key as a context's next key. -/
  | secCtxKey
  /-- SEC_ATTEST (R664). Returns a signed attestation report. -/
  | secAttest
  /-- SEC_ID_CERT (R658). Returns the identity certificate chain, or loads a new identity certificate. -/
  | secIdCert
  /-- SEC_ID_CSR (R658). Generates new identity and proof-of-play keys under the new epoch and returns a request. -/
  | secIdCsr
  /-- SEC_FW_WRITE (R662). Verifies and writes a firmware image into the slot that is not running. -/
  | secFwWrite
  /-- SEC_FW_CONFIRM (R663). Prefers the running image and advances the anti-rollback counter. -/
  | secFwConfirm
  /-- POP_READ (R667). Returns a layer's oldest unread proof-of-play records. -/
  | popRead
  /-- SEC_MODE (R643). Zeroises and enters debug mode. -/
  | secMode
  /-- SEC_ZEROISE_REG (R657). A write of the key to the SEC_ZEROISE register zeroises in hardware. -/
  | secZeroiseReg (v : Word)
  /-- ZEROISE_N (R657). A low level of at least 1 µs on ZEROISE_N zeroises in hardware. -/
  | zeroiseN
  /-- TAMPER_DETECT (R660). A tamper condition sets its cause bit, raises E251 and starts zeroisation. -/
  | tamperDetect (cause : Fin 4)
  /-- SEC_SESSION_TIMEOUT (R645). SEC_SESSION_S passes without a security command, and the session ends. -/
  | secSessionTimeout (f : Fn)
  /-- SEC_PERIODIC_SELFTEST (R648). The self-tests run every SEC_SELFTEST_PERIOD_H hours. -/
  | secPeriodicSelftest (failed : Nat)
  /-- SEC_KEX_EXPIRY (R652). An exchange key is destroyed 3,600 s after its creation. -/
  | secKexExpiry (f : Fn)
  /-- POP_INTERVAL_END (R665). A proof-of-play interval ends, and its signed record is made ready or merged. -/
  | popIntervalEnd (l : Fin 64)
  /-- LAN_CTRL_TEST_WRITE (R678). A write of the loopback or PRBS fields of a lane applies them, or is refused with TEST_REFUSED. -/
  | lanCtrlTestWrite (n : Fin 160) (v : Word)
  /-- LAN_EYE_SCAN (R691). Scans a lane's receive eye into a grid of error counts. -/
  | lanEyeScan
  /-- LANE_LOS (R681). A lane loses signal, and LOS_EVENTS is counted and the protocol's event raised. -/
  | laneLos (n : Fin 160)
  /-- XPL_FLIT (R682). An XPL flit arrives, and is accepted in order or replayed after a CRC failure. -/
  | xplFlit (x : Fin 4) (seq ack : Nat) (crcOk : Bool) (badLane : Option (Fin 8)) (cls dst src : Nat) (payload : Bytes)
  /-- XPL_RETRAIN (R688). A write of RETRAIN starts a full retrain of an XPL link. -/
  | xplRetrain (x : Fin 4) (v : Word)
  /-- XPL_WIDTH_REQUEST (R689). An XPL width-change or retrain request arrives and is answered, or aborted as a collision. -/
  | xplWidthRequest (x : Fin 4) (width : Nat) (full : Bool)
  /-- XPL_COLLISION_RETRY (R689). 10 µs after a collision the end with the lower PKG_ID sends its request again. -/
  | xplCollisionRetry (x : Fin 4)
  /-- XPL_RETRAIN_DONE (R690). A width change or retrain completes, and held flits are replayed. -/
  | xplRetrainDone (x : Fin 4) (ok : Bool) (peer : Nat) (good : BitVec 8)
  /-- XPL_BER_WINDOW (R688). A second ends, and a lane whose uncorrectable codewords exceeded XPL_BER_MAX is marked bad. -/
  | xplBerWindow (x : Fin 4)
  /-- XPL_REGROW (R688). XPL_REGROW_S after a lane was marked bad, the lane is checked and the link may widen. -/
  | xplRegrow (x : Fin 4) (lane : Fin 8) (passed : Bool)
  /-- XPL_DISCOVER (R686). A trained link exchanges identities and the package builds the system graph. -/
  | xplDiscover (x : Fin 4) (peerPkg : Fin 16) (peerLink : Fin 4) (edges : List (Nat × Nat × Nat × Nat))
  /-- XPL_ROUTE_REBUILD (R687). Firmware rebuilds the routing table after a link change. -/
  | xplRouteRebuild
  /-- UNIT_FAULT (R696). A unit fault powers up the spare, loads it from the shadow and resends the retained token, or fences the unit. -/
  | unitFault (p : Fin 2176) (kind : Fin 4) (tiles : List Nat)
  /-- SPARE_LOADED (R698). The spare finishes loading and holds the role, and SPARE_BUSY reads 1. -/
  | spareLoaded (c : Fin 128)
  /-- FENCE_RETEST (R703). FLT_RETEST_S after fencing, a fenced slot starts its built-in self-test. -/
  | fenceRetest (p : Fin 2176)
  /-- RETEST_DONE (R703). A retest ends, and the slot returns, stays fenced or is retested again. -/
  | retestDone (p : Fin 2176) (passed : Bool)
  /-- ECLIPSE_ROTATION (R706). At a cluster's rotation instant the spare self-tests and takes the next role. -/
  | eclipseRotation (c : Fin 128)
  /-- SENTINEL_CHECK (R711). Every 10 µs the P2 sentinel checks P0, and takes over after three missed answers. -/
  | sentinelCheck (answered : Bool)
  /-- POISON_OWNER_LOOKUP (R713). The owner of a poisoned line is found, and its repair is started or queued. -/
  | poisonOwnerLookup (line : Nat)
  /-- PATINA_LINE_RESTORE (R715). A poisoned line of the bank in force is rewritten from the best source, and E228 is raised. -/
  | patinaLineRestore (line : Nat)
  /-- CTX_QUARANTINE_REBUILD (R716). A quarantined context entry is rebuilt from its descriptor and re-enabled. -/
  | ctxQuarantineRebuild (idx : Fin 4096)
  /-- FLT_INJECT (R696). A write of GO to FLT_INJECT injects one fault of the chosen kind, handled as a real one. -/
  | fltInject (v : Word) (tiles : List Nat)
  /-- FLT_INFO (R730). Returns the fault state of a cluster. -/
  | fltInfo
  /-- FLT_UNFENCE (R703). Retests a fenced slot and returns it if it passes. -/
  | fltUnfence
  /-- FLT_FENCE (R730). Fences a slot at the next frame start of its role. -/
  | fltFence
  /-- FLT_PAIR_SWAP (R726). Starts a planned swap of the active role. -/
  | fltPairSwap
  /-- FLT_PAIR_INFO (R730). Returns the pair state and checkpoint sequence. -/
  | fltPairInfo
  /-- PAIR_HEARTBEAT (R721). Every 50 µs a paired package sends a heartbeat on every XPL path. -/
  | pairHeartbeat
  /-- PAIR_DETECT_TIMEOUT (R721). The standby receives no heartbeat and no B-end traffic for the detect times and declares the active failed. -/
  | pairDetectTimeout (ring : Bool)
  /-- PAIR_YIELD (R722). The active meets a fault it cannot absorb, sends a yield and stops sending conjunctions. -/
  | pairYield (cause : Fin 3)
  /-- PAIR_TAKEOVER (R723). The standby binds units, restores the checkpoint and serves every ring from its B ends. -/
  | pairTakeover (us : Nat)
  /-- PAIR_MIRROR_ITEM (R719). The standby receives a mirrored item, validates and places it, and acknowledges it. -/
  | pairMirrorItem (seq : Nat) (p : Fin 96) (group : Fin 4) (frame : Option Nat) (prms : List (Nat × Word)) (objs : List (Nat × Nat × Option Bytes))
  /-- PAIR_CHECKPOINT (R720). The standby receives the checkpoint of a group boundary and keeps the last two. -/
  | pairCheckpoint (seq : Nat) (group : Fin 4) (frame : Nat) (content : Bytes)
  /-- PAIR_SWAP_TIMER (R726). A planned swap starts at a scheduled swap time. -/
  | pairSwapTimer
  /-- PAIR_REVERT (R727). A preferred package that failed takes the active role back after FLT_PAIR_REVERT_S. -/
  | pairRevert
  /-- SYS_PWROK (R753). SYS_PWROK low is a power-on reset, and its rise starts the boot from STRAP. -/
  | sysPwrok (level : Bool)
  /-- PKG_RESET_N (R767). A low level on PKG_RESET_N resets the package, which boots again from BOOT. -/
  | pkgResetN (level : Bool)
  /-- HUB_PKG_RESET (R769). A keyed write of PKG_RESET to HUB_RESET resets the package. -/
  | hubPkgReset (v : Word)
  /-- ARM_REBOOT (R801). A keyed write of ARM_REBOOT reboots the Armature and clears GAVE_UP. -/
  | armReboot (v : Word)
  /-- HOST_PERST_N (R767). A host reset resets the endpoint and aborts all host work of every function. -/
  | hostPerstN (level : Bool)
  /-- FUNCTION_LEVEL_RESET (R334). A PCIe FLR aborts all work of the function and disables its contexts. -/
  | functionLevelReset (f : Fn)
  /-- STRAP_END (R755). Straps are sampled and the clocks lock, and BOOT begins. -/
  | strapEnd
  /-- BOOT_END (R760). Self-tests and verification pass, the NVS bank is restored, and mailbox service starts. -/
  | bootEnd (dies : Fin 16) (failedTest : Nat) (imgA imgB : Bool)
  /-- TRAIN_END (R755). Every enabled controller, link and port is ready or has failed three times, and DISCOVER begins. -/
  | trainEnd (lost : Fin 16)
  /-- DISCOVER_END (R755). Discovery completes or BOOT_DISCOVER_MS passes, and COMMAND-MODE begins with the restore of images. -/
  | discoverEnd (partner : Option Bool)
  /-- FIRST_IMAGE_LATCHED (R761). The boot look is pushed and latched on every group. -/
  | firstImageLatched
  /-- BOOT_TIME_WAIT_EXPIRY (R761). BOOT_TIME_WAIT_S passes in COMMAND-MODE without time acquisition. -/
  | bootTimeWaitExpiry
  /-- NVS_BANK_WRITE_DONE (R764). A bank write completes, and the written bank becomes the selected bank. -/
  | nvsBankWriteDone
  /-- NVS_SAVE_DEFERRED (R765). A deferred save falls due 1 s after the previous bank write and writes the latest content. -/
  | nvsSaveDeferred
  /-- TICKETED_WORK_COMPLETE (R103). Firmware-run ticketed work (table loads and reads, maquette, patina and map loads, store format, namespace create and delete, REC_OPEN, SEC_SELFTEST, SEC_FW_WRITE, LAN_EYE_SCAN, TLK_DISCOVER) ends, its result is stored, TICKETS_DONE rises and E000 + f is raised. -/
  | ticketedWorkComplete (f : Fin 96) (ticket status : Nat) (data : Bytes)
  /-- TIM_ACQUIRE_TIMEOUT (R549). A TIM_ACQUIRE with TO_SOURCE that sees no source measurement within 10 s completes its ticket with ST_TIMEOUT. -/
  | timAcquireTimeout
  /-- BUS_MASTER_ENABLE_CLEAR (R639). Host software clears a function's Bus Master Enable, which stops its host DMA channel, discards host-bound granules and halts the channel with ST_DENIED. -/
  | busMasterEnableClear (f : Fn)
  /-- VF_ENABLE_CLEAR (R334). Clearing VF Enable aborts all work of each affected VF as target 15, disables its contexts and settles its tickets. -/
  | vfEnableClear
  /-- XPL_LINK_LOCK_LOST (R688). An XPL link loses lock, and its end starts a full retrain. -/
  | xplLinkLockLost (x : Fin 4)
  /-- PRBS_LOCK (R679). A lane's PRBS checker sees 1,024 consecutive error-free bits of the pattern or its complement, locks, sets PRBS_LOCK and starts counting. -/
  | prbsLock (n : Fin 160) (inverted : Bool)
  /-- PRBS_LOCK_LOSS (R679). A locked PRBS checker sees 64 or more errors within 1,024 bits, loses lock, counts LOCK_LOSSES and reseeds. -/
  | prbsLockLoss (n : Fin 160) (bits errs : Nat)
  /-- TRAIN_LOCK (R189). A SAL or tile-link lane in training receives 64 consecutive TRAIN blocks at its current boundary and sets TRAIN_LOCK. -/
  | trainLock (tlk : Bool) (n : Fin 128)
  /-- AUD_INPUT_SAMPLE (R557). An input port writes the system sample of its converted line into its ring, advancing its producer index, counting overruns and applying changes that wait for a zero crossing. -/
  | audInputSample (p : Fin 8) (a b : BitVec 24) (valid parityOk biphaseOk : Bool)
  /-- ROTATION_SELFTEST_DONE (R708). The spare's self-test of an eclipse rotation ends, and the rotation either loads the role's shadow and hands over or is abandoned with E246. -/
  | rotationSelftestDone (c : Fin 128) (passed : Bool)
  /-- PAIR_MIRROR_ACK (R719). The active package receives the standby's acknowledgement of a mirrored item, and only then arms it. -/
  | pairMirrorAck (seq : Nat)
  /-- NVME_ABORT_TIMEOUT (R580). An NVMe Abort does not complete within 1 s, so the device resets the drive's controller and fails every piece outstanding on it with ST_TIMEOUT. -/
  | nvmeAbortTimeout (d : Fin 8)
  deriving DecidableEq, Repr

end Sys2Proof
end

