-- ==== Sys2Proof/Config.lean ====
section
/-! DEFINITION. What the spec leaves to the part and the values it leaves open. Every constant here is opaque: no proof
can see its value, so a theorem holds whatever it is (notes/assumptions: the free-value rows). -/
namespace Sys2Proof.Config

/-- The n-th open 32-bit value of a run. The step reads State.freeCtr, uses freeWord at it and advances it. -/
opaque freeWord : Nat → Word

/-- An open value that depends on operands only: the kind of value, then the operands.
Used where the spec gives a value up to a tolerance or not at all. -/
opaque freeAt : Nat → List Nat → Nat

/-- R72: the fused two-point calibration of a unit: physical index, rate in 1/16 tok/µs, die VCORE in mV and the hours
since the last re-anchoring give the temperature equivalent in 1/16 °C plus 1024 (so that it is a natural number). -/
opaque paceToTemp : Nat → Nat → Nat → Nat → Nat

/-- R738: the activity model fused at test: the power of a rail in 0.1 W from the rail number and the bound units. -/
opaque railModel : Nat → Nat → Nat

/-- R357: AES-256-GCM opening: key, IV, additional data, ciphertext and tag give the plaintext, or none where the tag fails. The
cipher is a published standard that the spec names and does not restate. -/
opaque gcmOpen : Bytes → Bytes → Bytes → Bytes → Bytes → Option Bytes

/-- AES-256-GCM sealing: key, IV, additional data and plaintext give the ciphertext followed by the 16-byte tag. -/
opaque gcmSeal : Bytes → Bytes → Bytes → Bytes → Bytes

/-- SHA-384 of a message. -/
opaque sha384 : Bytes → Bytes

/-- HMAC-SHA-384 of a key and a message. -/
opaque hmac384 : Bytes → Bytes → Bytes

/-- ECDSA P-384: a public key, a message and a signature that verifies. -/
opaque ecdsaVerify : Bytes → Bytes → Bytes → Bool

/-- ECDSA P-384: the signature of a message under an identified key (its kind, epoch and number) with the n-th nonce. -/
opaque ecdsaSign : Nat → Bytes → Nat → Bytes

/-- The public key of an identified key pair of the island. -/
opaque publicKey : Nat → Bytes

/-- ECDH P-384: the shared secret of an identified key pair and a peer's public key. -/
opaque ecdh : Nat → Bytes → Bytes

/-- The public key of the signer of firmware images, whose digest is fused. -/
opaque signingKey : Bytes

/-- SHA-384 of the island ROM, and of the body of the image of manufacture. -/
opaque romDigest : Bytes
opaque factoryDigest : Bytes

/-- The certificate chain of manufacture. -/
opaque factoryCert : Bytes

/-- The PKCS #10 request for a key pair by its number and a subject serial. -/
opaque pkcs10 : Nat → Bytes → Bytes

/-- The n-th block of the island's random generator. -/
opaque drbg : Nat → Bytes

end Sys2Proof.Config
end

