-- ==== Sys2Proof/Machine/RegTable.lean ====
section
/-! DEFINITION. The register map: every 32-bit register the chapters of spec/ define, as families of words in the
F0 window (BAR0), with their reset values and the access type of every field. R129, R132 and the register tables of
each chapter. Every row follows the register table of the chapter named above it; offsets no row covers hold no register (R15). -/
namespace Sys2Proof.Machine

/-- Access types of a register field (R132). -/
inductive Access where
  | ro | rw | wo | w1c | w1s | sc | rwl
  deriving DecidableEq, Repr

/-- How the reset value of the n-th word of a family is found. -/
inductive ResetKind where
  /-- The same value for every word. -/
  | c (v : Nat)
  /-- FLT_UNIT: 0x40 + slot for slots 0 to 15, 0x10 for slot 16; slot = index mod 17. -/
  | unit
  /-- EVT_MASK: the table of reset values of chapter 04. -/
  | mask
  /-- EVT_ROUTE: e * 0x1_0000 for e below 64, else 0. -/
  | route
  deriving DecidableEq, Repr

/-- One field of a register: bits hi down to lo, and its access type. -/
structure FieldRow where
  hi : Nat
  lo : Nat
  acc : Access
  deriving DecidableEq, Repr

/-- One family of registers: count words, stride bytes apart, the first at base. -/
structure RegRow where
  base : Nat
  stride : Nat
  count : Nat
  reset : ResetKind
  fields : List FieldRow
  deriving DecidableEq, Repr

/-- A named field of a register: its highest and lowest bit. -/
structure Fld where
  hi : Nat
  lo : Nat
  deriving DecidableEq, Repr

/-- Registers of chapter 00 of spec/. -/
def regsHub : List RegRow := [
  ⟨0x0, 0x4, 1, (.c 0x948000B1), [⟨31, 16, .ro⟩, ⟨7, 4, .ro⟩, ⟨3, 0, .ro⟩]⟩,
  ⟨0x4, 0x4, 1, (.c 0x0), [⟨1, 0, .ro⟩]⟩]

/-- Registers of chapter 01 of spec/. -/
def regsLevels : List RegRow := [
  ⟨0x1A0000, 0x4, 128, (.c 0x10), [⟨18, 18, .ro⟩, ⟨17, 17, .ro⟩, ⟨16, 16, .ro⟩, ⟨12, 8, .ro⟩, ⟨4, 0, .ro⟩]⟩,
  ⟨0x1A1000, 0x4, 2176, .unit, [⟨31, 24, .rw⟩, ⟨23, 16, .rw⟩, ⟨15, 8, .rw⟩, ⟨6, 6, .ro⟩, ⟨5, 5, .ro⟩, ⟨4, 4, .ro⟩, ⟨3, 0, .ro⟩]⟩,
  ⟨0x1A0200, 0x4, 16, (.c 0x0), [⟨31, 0, .rw⟩]⟩,
  ⟨0x8, 0x4, 1, (.c 0xF0000), [⟨19, 16, .ro⟩, ⟨12, 8, .ro⟩, ⟨3, 0, .ro⟩]⟩]

/-- Registers of chapter 02 of spec/. -/
def regsCore : List RegRow := [
  ⟨0xF1000, 0x4, 128, (.c 0x0), [⟨31, 24, .ro⟩, ⟨20, 16, .ro⟩, ⟨15, 0, .ro⟩]⟩,
  ⟨0xF2000, 0x4, 2176, (.c 0x0), [⟨31, 31, .ro⟩, ⟨15, 0, .ro⟩]⟩,
  ⟨0xF8000, 0x4, 4, (.c 0x320), [⟨31, 31, .w1c⟩, ⟨30, 30, .ro⟩, ⟨25, 16, .ro⟩, ⟨9, 0, .ro⟩]⟩]

/-- Registers of chapter 03 of spec/. -/
def regsArm : List RegRow := [
  ⟨0x21FF0, 0x2000, 64, (.c 0x0), [⟨31, 31, .wo⟩, ⟨15, 0, .wo⟩]⟩,
  ⟨0x21FF4, 0x2000, 64, (.c 0x0), [⟨31, 30, .ro⟩, ⟨29, 29, .w1c⟩, ⟨25, 21, .ro⟩, ⟨20, 16, .ro⟩, ⟨15, 0, .ro⟩]⟩,
  ⟨0xA0000, 0x4, 64, (.c 0x0), [⟨31, 31, .ro⟩, ⟨30, 30, .w1c⟩, ⟨29, 28, .ro⟩, ⟨27, 16, .rw⟩, ⟨15, 15, .ro⟩, ⟨11, 8, .rw⟩, ⟨0, 0, .sc⟩]⟩]

/-- Registers of chapter 04 of spec/. -/
def regsEvt : List RegRow := [
  ⟨0x10, 0x4, 1, (.c 0x0), [⟨0, 0, .w1s⟩]⟩,
  ⟨0x10000, 0x4, 8, (.c 0x0), [⟨31, 0, .w1c⟩]⟩,
  ⟨0x10020, 0x4, 8, .mask, [⟨31, 0, .rw⟩]⟩,
  ⟨0x10040, 0x4, 8, (.c 0x0), [⟨31, 0, .w1s⟩]⟩,
  ⟨0x10060, 0x4, 1, (.c 0x0), [⟨31, 0, .ro⟩]⟩,
  ⟨0x10064, 0x4, 1, (.c 0), [⟨31, 0, .ro⟩]⟩,
  ⟨0x10400, 0x4, 256, .route, [⟨31, 31, .rw⟩, ⟨30, 30, .w1c⟩, ⟨21, 16, .rw⟩, ⟨5, 0, .rw⟩]⟩,
  ⟨0x10800, 0x4, 64, (.c 0x0), [⟨15, 15, .rw⟩, ⟨13, 8, .rw⟩, ⟨7, 7, .rw⟩, ⟨5, 0, .rw⟩]⟩]

/-- Registers of chapter 05 of spec/. -/
def regsSal : List RegRow := [
  ⟨0x160000, 0x40, 4, (.c 0x0), [⟨1, 0, .rw⟩]⟩,
  ⟨0x160004, 0x40, 4, (.c 0x0), [⟨31, 31, .ro⟩, ⟨30, 30, .ro⟩, ⟨29, 29, .w1c⟩, ⟨15, 8, .ro⟩, ⟨7, 0, .ro⟩]⟩,
  ⟨0x160008, 0x40, 4, (.c 0x0), [⟨31, 16, .rw⟩, ⟨15, 0, .rw⟩]⟩,
  ⟨0x16000C, 0x40, 4, (.c 0x0), [⟨31, 0, .rw⟩]⟩,
  ⟨0x160100, 0x4, 32, (.c 0x0), [⟨31, 31, .ro⟩, ⟨30, 30, .ro⟩, ⟨29, 29, .ro⟩, ⟨22, 16, .ro⟩, ⟨0, 0, .sc⟩]⟩,
  ⟨0x160200, 0x20, 8, (.c 0x0), [⟨31, 31, .ro⟩, ⟨30, 30, .ro⟩, ⟨29, 29, .ro⟩, ⟨28, 28, .ro⟩, ⟨27, 27, .ro⟩, ⟨15, 0, .rw⟩]⟩,
  ⟨0x160204, 0x20, 8, (.c 0x0), [⟨31, 2, .ro⟩, ⟨1, 0, .ro⟩]⟩,
  ⟨0x160208, 0x20, 8, (.c 0), [⟨31, 0, .ro⟩]⟩,
  ⟨0x16020C, 0x20, 8, (.c 0x0), [⟨31, 0, .ro⟩]⟩,
  ⟨0x160210, 0x20, 8, (.c 0x0), [⟨31, 31, .ro⟩, ⟨30, 30, .ro⟩, ⟨27, 16, .rw⟩, ⟨15, 0, .rw⟩]⟩]

/-- Registers of chapter 13 of spec/. -/
def regsTlk : List RegRow := [
  ⟨0x150000, 0x40, 64, (.c 0x0), [⟨1, 0, .rw⟩]⟩,
  ⟨0x150004, 0x40, 64, (.c 0x0), [⟨31, 31, .ro⟩, ⟨30, 30, .ro⟩, ⟨29, 29, .w1c⟩, ⟨28, 28, .ro⟩, ⟨27, 27, .ro⟩, ⟨26, 26, .ro⟩, ⟨20, 16, .ro⟩, ⟨13, 8, .ro⟩, ⟨4, 4, .ro⟩, ⟨3, 3, .ro⟩, ⟨1, 0, .ro⟩]⟩,
  ⟨0x150008, 0x40, 64, (.c 0x0), [⟨31, 16, .rw⟩, ⟨15, 0, .rw⟩]⟩,
  ⟨0x151000, 0x4, 128, (.c 0x0), [⟨31, 31, .ro⟩, ⟨30, 30, .ro⟩, ⟨29, 29, .ro⟩, ⟨22, 16, .ro⟩, ⟨0, 0, .sc⟩]⟩,
  ⟨0x152000, 0x10, 16, (.c 0x0), [⟨31, 31, .ro⟩, ⟨30, 30, .w1c⟩, ⟨29, 29, .ro⟩, ⟨15, 0, .rw⟩]⟩]

/-- Registers of chapter 14 of spec/. -/
def regsTim : List RegRow := [
  ⟨0xD0000, 0x10, 1, (.c 0), [⟨31, 0, .ro⟩]⟩,
  ⟨0xD0004, 0x10, 1, (.c 0), [⟨31, 0, .ro⟩]⟩,
  ⟨0xD0008, 0x10, 1, (.c 0), [⟨31, 16, .ro⟩, ⟨15, 0, .ro⟩]⟩,
  ⟨0xD0010, 0x4, 1, (.c 0x0), [⟨31, 31, .ro⟩, ⟨30, 30, .ro⟩, ⟨29, 29, .ro⟩, ⟨28, 28, .ro⟩, ⟨27, 27, .ro⟩, ⟨26, 26, .ro⟩, ⟨25, 24, .ro⟩, ⟨19, 16, .ro⟩, ⟨10, 10, .ro⟩, ⟨9, 8, .ro⟩, ⟨7, 0, .ro⟩]⟩,
  ⟨0xD0014, 0x4, 1, (.c 0x0), [⟨31, 0, .ro⟩]⟩,
  ⟨0xD0018, 0x4, 1, (.c 0x0), [⟨31, 0, .ro⟩]⟩,
  ⟨0xD001C, 0x4, 1, (.c 0), [⟨31, 0, .ro⟩]⟩,
  ⟨0xD1000, 0x20, 16, (.c 0x0), [⟨7, 7, .rw⟩, ⟨6, 6, .rw⟩, ⟨5, 4, .rw⟩, ⟨1, 1, .sc⟩, ⟨0, 0, .sc⟩]⟩,
  ⟨0xD1004, 0x20, 16, (.c 0), [⟨31, 0, .rw⟩]⟩,
  ⟨0xD1008, 0x20, 16, (.c 0), [⟨31, 0, .rw⟩]⟩,
  ⟨0xD100C, 0x20, 16, (.c 0), [⟨31, 16, .rw⟩, ⟨15, 0, .rw⟩]⟩,
  ⟨0xD1010, 0x20, 16, (.c 0x0), [⟨31, 0, .rw⟩]⟩,
  ⟨0xD1014, 0x20, 16, (.c 0), [⟨31, 0, .rw⟩]⟩,
  ⟨0xD1018, 0x20, 16, (.c 0x0), [⟨31, 0, .rw⟩]⟩,
  ⟨0xD101C, 0x20, 16, (.c 0x0), [⟨31, 31, .ro⟩, ⟨30, 30, .w1c⟩, ⟨29, 29, .w1c⟩, ⟨28, 28, .w1c⟩, ⟨27, 27, .ro⟩, ⟨15, 0, .rw⟩]⟩,
  ⟨0xD2000, 0x10, 8, (.c 0), [⟨31, 0, .ro⟩]⟩,
  ⟨0xD2004, 0x10, 8, (.c 0), [⟨31, 0, .ro⟩]⟩,
  ⟨0xD2008, 0x10, 8, (.c 0), [⟨31, 16, .ro⟩, ⟨15, 0, .ro⟩]⟩,
  ⟨0xD200C, 0x10, 8, (.c 0x0), [⟨31, 31, .ro⟩, ⟨18, 16, .ro⟩, ⟨15, 0, .rw⟩]⟩]

/-- Registers of chapter 15 of spec/. -/
def regsAud : List RegRow := [
  ⟨0xE0000, 0x20, 8, (.c 0x0), [⟨0, 0, .rw⟩]⟩,
  ⟨0xE0004, 0x20, 8, (.c 0x0), [⟨31, 31, .ro⟩, ⟨30, 30, .ro⟩, ⟨29, 29, .ro⟩, ⟨28, 28, .ro⟩, ⟨27, 27, .w1c⟩, ⟨26, 26, .ro⟩, ⟨3, 0, .ro⟩]⟩,
  ⟨0xE0008, 0x20, 8, (.c 0x0), [⟨31, 0, .ro⟩]⟩,
  ⟨0xE000C, 0x20, 8, (.c 0x0), [⟨31, 0, .rw⟩]⟩]

/-- Registers of chapter 16 of spec/. -/
def regsCst : List RegRow := [
  ⟨0xC0000, 0x40, 64, (.c 0x0), [⟨31, 31, .sc⟩, ⟨30, 30, .rw⟩, ⟨27, 24, .rw⟩, ⟨21, 16, .rw⟩]⟩,
  ⟨0xC000C, 0x40, 64, (.c 0x0), [⟨16, 0, .rw⟩]⟩,
  ⟨0xC0018, 0x40, 64, (.c 0x0), [⟨31, 31, .w1c⟩, ⟨30, 30, .ro⟩, ⟨29, 29, .w1c⟩, ⟨15, 0, .ro⟩]⟩,
  ⟨0xC001C, 0x40, 64, (.c 0x0), [⟨31, 0, .ro⟩]⟩,
  ⟨0xC0020, 0x40, 64, (.c 0), [⟨31, 0, .ro⟩]⟩,
  ⟨0xC0024, 0x40, 64, (.c 0), [⟨31, 0, .ro⟩]⟩,
  ⟨0xC1000, 0x4, 1, (.c 0x0), [⟨31, 31, .ro⟩, ⟨30, 30, .ro⟩, ⟨29, 28, .ro⟩, ⟨27, 27, .ro⟩, ⟨11, 8, .ro⟩, ⟨7, 0, .ro⟩]⟩,
  ⟨0xC0004, 0x40, 64, (.c 0), [⟨31, 0, .rw⟩]⟩,
  ⟨0xC0008, 0x40, 64, (.c 0), [⟨31, 0, .rw⟩]⟩,
  ⟨0xC0010, 0x40, 64, (.c 0), [⟨31, 0, .rw⟩]⟩,
  ⟨0xC0014, 0x40, 64, (.c 0), [⟨31, 0, .rw⟩]⟩]

/-- Registers of chapter 17 of spec/. -/
def regsMem : List RegRow := [
  ⟨0x180000, 0x40, 4, (.c 0x0), [⟨31, 31, .ro⟩, ⟨30, 30, .ro⟩, ⟨29, 29, .ro⟩, ⟨28, 23, .ro⟩, ⟨22, 16, .ro⟩, ⟨15, 8, .ro⟩]⟩,
  ⟨0x180004, 0x40, 4, (.c 0x0), [⟨31, 16, .rw⟩, ⟨15, 0, .rw⟩]⟩,
  ⟨0x180008, 0x40, 4, (.c 0x0), [⟨31, 6, .ro⟩]⟩,
  ⟨0x18000C, 0x40, 4, (.c 0), [⟨31, 31, .ro⟩, ⟨30, 29, .ro⟩, ⟨7, 0, .ro⟩]⟩,
  ⟨0x180010, 0x40, 4, (.c 0x0), [⟨31, 31, .ro⟩, ⟨14, 0, .ro⟩]⟩]

/-- Registers of chapter 18 of spec/. -/
def regsDma : List RegRow := [
  ⟨0xB0000, 0x40, 80, (.c 0x40), [⟨31, 31, .rw⟩, ⟨30, 30, .rw⟩, ⟨6, 0, .rw⟩]⟩,
  ⟨0xB000C, 0x40, 80, (.c 0x0), [⟨31, 31, .wo⟩]⟩,
  ⟨0xB0010, 0x40, 80, (.c 0x0), [⟨31, 31, .ro⟩, ⟨30, 30, .ro⟩, ⟨29, 29, .ro⟩, ⟨28, 28, .ro⟩, ⟨27, 27, .w1c⟩, ⟨26, 26, .ro⟩, ⟨15, 0, .ro⟩]⟩,
  ⟨0xB001C, 0x40, 80, (.c 0x0), [⟨23, 0, .ro⟩]⟩,
  ⟨0xB0020, 0x40, 80, (.c 0x0), [⟨31, 0, .rw⟩]⟩,
  ⟨0xB0004, 0x40, 80, (.c 0), [⟨31, 0, .rw⟩]⟩,
  ⟨0xB0008, 0x40, 80, (.c 0), [⟨31, 0, .rw⟩]⟩,
  ⟨0xB0014, 0x40, 80, (.c 0), [⟨31, 0, .ro⟩]⟩,
  ⟨0xB0018, 0x40, 80, (.c 0), [⟨31, 0, .ro⟩]⟩,
  ⟨0xB0024, 0x40, 80, (.c 0), [⟨31, 0, .ro⟩]⟩,
  ⟨0xB0028, 0x40, 80, (.c 0), [⟨31, 0, .ro⟩]⟩]

/-- Registers of chapter 19 of spec/. -/
def regsSec : List RegRow := [
  ⟨0x170000, 0x4, 1, (.c 0x0), [⟨31, 31, .ro⟩, ⟨30, 30, .ro⟩, ⟨29, 29, .ro⟩, ⟨28, 28, .ro⟩, ⟨27, 27, .ro⟩, ⟨26, 26, .ro⟩, ⟨25, 25, .ro⟩, ⟨15, 8, .ro⟩, ⟨7, 4, .ro⟩]⟩,
  ⟨0x170004, 0x4, 1, (.c 0x0), [⟨4, 4, .w1c⟩, ⟨3, 3, .w1c⟩, ⟨2, 2, .w1c⟩, ⟨1, 1, .w1c⟩, ⟨0, 0, .w1c⟩]⟩,
  ⟨0x170008, 0x4, 1, (.c 0x0), [⟨31, 0, .wo⟩]⟩]

/-- Registers of chapter 20 of spec/. -/
def regsLan : List RegRow := [
  ⟨0x100000, 0x400, 160, (.c 0x0), [⟨31, 30, .rw⟩, ⟨26, 24, .rw⟩, ⟨22, 20, .rw⟩]⟩,
  ⟨0x100004, 0x400, 160, (.c 0x0), [⟨31, 31, .ro⟩, ⟨30, 30, .ro⟩, ⟨29, 29, .ro⟩, ⟨28, 28, .ro⟩, ⟨27, 27, .w1c⟩, ⟨26, 24, .ro⟩, ⟨18, 16, .ro⟩, ⟨15, 4, .ro⟩, ⟨3, 0, .ro⟩]⟩,
  ⟨0x100008, 0x400, 160, (.c 0x0), [⟨31, 0, .rw⟩]⟩,
  ⟨0x100014, 0x400, 160, (.c 0x0), [⟨31, 16, .rw⟩, ⟨15, 0, .rw⟩]⟩,
  ⟨0x128000, 0x40, 20, (.c 0x0), [⟨31, 31, .ro⟩, ⟨30, 30, .ro⟩, ⟨7, 4, .ro⟩, ⟨3, 0, .ro⟩]⟩,
  ⟨0x140000, 0x40, 4, (.c 0x0), [⟨0, 0, .sc⟩]⟩,
  ⟨0x140004, 0x40, 4, (.c 0x0), [⟨31, 31, .ro⟩, ⟨30, 30, .ro⟩, ⟨29, 29, .ro⟩, ⟨28, 28, .w1c⟩, ⟨27, 24, .ro⟩, ⟨23, 22, .ro⟩, ⟨15, 8, .ro⟩, ⟨3, 0, .ro⟩]⟩,
  ⟨0x140008, 0x40, 4, (.c 0x0), [⟨31, 16, .rw⟩, ⟨15, 0, .rw⟩]⟩,
  ⟨0x141000, 0x4, 16, (.c 0x0), [⟨31, 31, .ro⟩, ⟨30, 30, .ro⟩, ⟨29, 28, .ro⟩, ⟨3, 0, .ro⟩]⟩,
  ⟨0x10000C, 0x400, 160, (.c 0), [⟨31, 0, .ro⟩]⟩,
  ⟨0x100010, 0x400, 160, (.c 0), [⟨31, 0, .ro⟩]⟩]

/-- Registers of chapter 21 of spec/. -/
def regsFlt : List RegRow := [
  ⟨0x1A4000, 0x4, 1, (.c 0x0), [⟨31, 31, .ro⟩, ⟨30, 30, .ro⟩, ⟨29, 29, .ro⟩, ⟨28, 28, .ro⟩, ⟨27, 27, .ro⟩, ⟨26, 26, .ro⟩, ⟨25, 24, .ro⟩, ⟨19, 16, .ro⟩, ⟨15, 0, .ro⟩]⟩,
  ⟨0x1A4004, 0x4, 1, (.c 0x0), [⟨31, 31, .ro⟩, ⟨30, 30, .ro⟩, ⟨29, 29, .ro⟩, ⟨28, 28, .ro⟩, ⟨27, 27, .ro⟩, ⟨19, 16, .ro⟩, ⟨15, 0, .ro⟩]⟩,
  ⟨0x1A4008, 0x4, 1, (.c 0x0), [⟨31, 31, .sc⟩, ⟨26, 24, .rwl⟩, ⟨11, 0, .rwl⟩]⟩]

/-- Registers of chapter 22 of spec/. -/
def regsThm : List RegRow := [
  ⟨0xF0000, 0x4, 1, (.c 0x0), [⟨31, 24, .ro⟩, ⟨23, 16, .ro⟩, ⟨15, 15, .ro⟩, ⟨14, 14, .ro⟩, ⟨11, 0, .ro⟩]⟩,
  ⟨0xF0004, 0x4, 1, (.c 0x0), [⟨31, 31, .ro⟩, ⟨30, 30, .ro⟩, ⟨29, 28, .ro⟩, ⟨27, 24, .ro⟩, ⟨23, 8, .ro⟩, ⟨7, 0, .ro⟩]⟩,
  ⟨0xF0008, 0x4, 1, (.c 0x0), [⟨31, 31, .sc⟩, ⟨30, 30, .ro⟩, ⟨29, 29, .w1c⟩, ⟨28, 28, .w1c⟩, ⟨7, 0, .rw⟩]⟩,
  ⟨0xF000C, 0x4, 1, (.c 0x0), [⟨31, 31, .ro⟩, ⟨23, 16, .ro⟩, ⟨15, 0, .ro⟩]⟩,
  ⟨0xF0100, 0x4, 3, (.c 0x0), [⟨31, 0, .ro⟩]⟩,
  ⟨0xF0400, 0x4, 256, (.c 0x0), [⟨31, 31, .ro⟩, ⟨30, 30, .ro⟩, ⟨15, 0, .ro⟩]⟩]

/-- Registers of chapter 23 of spec/. -/
def regsBoot : List RegRow := [
  ⟨0x14, 0x4, 1, (.c 0x20000000), [⟨31, 29, .ro⟩, ⟨28, 28, .ro⟩, ⟨27, 26, .ro⟩, ⟨25, 24, .ro⟩, ⟨23, 23, .ro⟩, ⟨22, 22, .ro⟩, ⟨15, 0, .ro⟩]⟩,
  ⟨0x18, 0x4, 1, (.c 0x0), [⟨31, 16, .wo⟩, ⟨1, 1, .wo⟩, ⟨0, 0, .wo⟩]⟩,
  ⟨0x190000, 0x4, 1, (.c 0x0), [⟨31, 31, .ro⟩, ⟨30, 30, .ro⟩, ⟨29, 29, .ro⟩, ⟨28, 28, .ro⟩, ⟨27, 27, .ro⟩]⟩,
  ⟨0x190004, 0x4, 1, (.c 0x0), [⟨31, 0, .ro⟩]⟩,
  ⟨0x190008, 0x4, 1, (.c 0x0), [⟨11, 0, .rw⟩]⟩,
  ⟨0x19000C, 0x4, 1, (.c 0x0), [⟨11, 0, .ro⟩]⟩,
  ⟨0x190040, 0x4, 16, (.c 0x0), [⟨31, 0, .ro⟩]⟩]

/-- Every register family of the device. -/
def regTable : List RegRow :=
  regsHub ++ regsLevels ++ regsCore ++ regsArm ++ regsEvt ++ regsSal ++ regsTlk ++ regsTim ++ regsAud ++ regsCst ++ regsMem ++ regsDma ++ regsSec ++ regsLan ++ regsFlt ++ regsThm ++ regsBoot

def Reg.HUB_ID : Nat := 0x0
def Fld.HUB_ID.PART : Fld := ⟨31, 16⟩
def Fld.HUB_ID.STEP_LETTER : Fld := ⟨7, 4⟩
def Fld.HUB_ID.STEP_NUMBER : Fld := ⟨3, 0⟩
def Reg.HUB_GRADE : Nat := 0x4
def Fld.HUB_GRADE.GRADE : Fld := ⟨1, 0⟩
def Reg.FLT_CLUSTER (n : Nat) : Nat := 0x1A0000 + 0x4 * n
def Fld.FLT_CLUSTER.SPARE_BUSY : Fld := ⟨18, 18⟩
def Fld.FLT_CLUSTER.DEGRADED : Fld := ⟨17, 17⟩
def Fld.FLT_CLUSTER.NO_SPARE : Fld := ⟨16, 16⟩
def Fld.FLT_CLUSTER.FENCED_COUNT : Fld := ⟨12, 8⟩
def Fld.FLT_CLUSTER.SPARE_SLOT : Fld := ⟨4, 0⟩
def Reg.FLT_UNIT (n : Nat) : Nat := 0x1A1000 + 0x4 * n
def Fld.FLT_UNIT.CRC_ERRS : Fld := ⟨31, 24⟩
def Fld.FLT_UNIT.PARITY_ERRS : Fld := ⟨23, 16⟩
def Fld.FLT_UNIT.RESIDUE_ERRS : Fld := ⟨15, 8⟩
def Fld.FLT_UNIT.POWERED : Fld := ⟨6, 6⟩
def Fld.FLT_UNIT.FENCED : Fld := ⟨5, 5⟩
def Fld.FLT_UNIT.IS_SPARE : Fld := ⟨4, 4⟩
def Fld.FLT_UNIT.ROLE : Fld := ⟨3, 0⟩
def Reg.FLT_GATE_DENY (n : Nat) : Nat := 0x1A0200 + 0x4 * n
def Fld.FLT_GATE_DENY.COUNT : Fld := ⟨31, 0⟩
def Reg.HUB_TOPOLOGY : Nat := 0x8
def Fld.HUB_TOPOLOGY.PIXEL_DIES : Fld := ⟨19, 16⟩
def Fld.HUB_TOPOLOGY.PKG_COUNT : Fld := ⟨12, 8⟩
def Fld.HUB_TOPOLOGY.PKG_ID : Fld := ⟨3, 0⟩
def Reg.THM_PACE_CLUSTER (n : Nat) : Nat := 0xF1000 + 0x4 * n
def Fld.THM_PACE_CLUSTER.TJ_EQ_MAX : Fld := ⟨31, 24⟩
def Fld.THM_PACE_CLUSTER.SLOWEST_SLOT : Fld := ⟨20, 16⟩
def Fld.THM_PACE_CLUSTER.MIN_RATE : Fld := ⟨15, 0⟩
def Reg.THM_PACE_UNIT (n : Nat) : Nat := 0xF2000 + 0x4 * n
def Fld.THM_PACE_UNIT.VALID : Fld := ⟨31, 31⟩
def Fld.THM_PACE_UNIT.RATE : Fld := ⟨15, 0⟩
def Reg.PWR_VCORE (n : Nat) : Nat := 0xF8000 + 0x4 * n
def Fld.PWR_VCORE.STEER_FAULT : Fld := ⟨31, 31⟩
def Fld.PWR_VCORE.THROTTLED : Fld := ⟨30, 30⟩
def Fld.PWR_VCORE.MEASURED_MV : Fld := ⟨25, 16⟩
def Fld.PWR_VCORE.COMMANDED_MV : Fld := ⟨9, 0⟩
def Reg.MBX_DOORBELL (n : Nat) : Nat := 0x21FF0 + 0x2000 * n
def Fld.MBX_DOORBELL.RING : Fld := ⟨31, 31⟩
def Fld.MBX_DOORBELL.SEQ : Fld := ⟨15, 0⟩
def Reg.MBX_STATE (n : Nat) : Nat := 0x21FF4 + 0x2000 * n
def Fld.MBX_STATE.STATE : Fld := ⟨31, 30⟩
def Fld.MBX_STATE.RING_LOST : Fld := ⟨29, 29⟩
def Fld.MBX_STATE.TICKETS_OPEN : Fld := ⟨25, 21⟩
def Fld.MBX_STATE.TICKETS_DONE : Fld := ⟨20, 16⟩
def Fld.MBX_STATE.LAST_SEQ : Fld := ⟨15, 0⟩
def Reg.ABT_CTRL (n : Nat) : Nat := 0xA0000 + 0x4 * n
def Fld.ABT_CTRL.BUSY : Fld := ⟨31, 31⟩
def Fld.ABT_CTRL.DONE : Fld := ⟨30, 30⟩
def Fld.ABT_CTRL.RESULT : Fld := ⟨29, 28⟩
def Fld.ABT_CTRL.INDEX : Fld := ⟨27, 16⟩
def Fld.ABT_CTRL.QUEUED : Fld := ⟨15, 15⟩
def Fld.ABT_CTRL.TARGET : Fld := ⟨11, 8⟩
def Fld.ABT_CTRL.GO : Fld := ⟨0, 0⟩
def Reg.HUB_LOCK : Nat := 0x10
def Fld.HUB_LOCK.LOCK : Fld := ⟨0, 0⟩
def Reg.EVT_STATUS (n : Nat) : Nat := 0x10000 + 0x4 * n
def Fld.EVT_STATUS.PENDING : Fld := ⟨31, 0⟩
def Reg.EVT_MASK (n : Nat) : Nat := 0x10020 + 0x4 * n
def Fld.EVT_MASK.MASKED : Fld := ⟨31, 0⟩
def Reg.EVT_FORCE (n : Nat) : Nat := 0x10040 + 0x4 * n
def Fld.EVT_FORCE.FORCE : Fld := ⟨31, 0⟩
def Reg.EVT_LOG_COUNT_LO : Nat := 0x10060
def Fld.EVT_LOG_COUNT_LO.COUNT : Fld := ⟨31, 0⟩
def Reg.EVT_LOG_COUNT_HI : Nat := 0x10064
def Fld.EVT_LOG_COUNT_HI.COUNT : Fld := ⟨31, 0⟩
def Reg.EVT_ROUTE (n : Nat) : Nat := 0x10400 + 0x4 * n
def Fld.EVT_ROUTE.EN : Fld := ⟨31, 31⟩
def Fld.EVT_ROUTE.ROUTE_ERR : Fld := ⟨30, 30⟩
def Fld.EVT_ROUTE.FUNC : Fld := ⟨21, 16⟩
def Fld.EVT_ROUTE.VECTOR : Fld := ⟨5, 0⟩
def Reg.EVT_LOCAL (n : Nat) : Nat := 0x10800 + 0x4 * n
def Fld.EVT_LOCAL.CST_EN : Fld := ⟨15, 15⟩
def Fld.EVT_LOCAL.CST_VEC : Fld := ⟨13, 8⟩
def Fld.EVT_LOCAL.DMA_EN : Fld := ⟨7, 7⟩
def Fld.EVT_LOCAL.DMA_VEC : Fld := ⟨5, 0⟩
def Reg.SAL_PORT_CTRL (n : Nat) : Nat := 0x160000 + 0x40 * n
def Fld.SAL_PORT_CTRL.MODE : Fld := ⟨1, 0⟩
def Reg.SAL_PORT_STAT (n : Nat) : Nat := 0x160004 + 0x40 * n
def Fld.SAL_PORT_STAT.READY : Fld := ⟨31, 31⟩
def Fld.SAL_PORT_STAT.LOS : Fld := ⟨30, 30⟩
def Fld.SAL_PORT_STAT.DESKEW_ERR : Fld := ⟨29, 29⟩
def Fld.SAL_PORT_STAT.TRAIN_LOCKED : Fld := ⟨15, 8⟩
def Fld.SAL_PORT_STAT.BLOCK_LOCKED : Fld := ⟨7, 0⟩
def Reg.SAL_PORT_ERRS (n : Nat) : Nat := 0x160008 + 0x40 * n
def Fld.SAL_PORT_ERRS.CRC_ERRS : Fld := ⟨31, 16⟩
def Fld.SAL_PORT_ERRS.LOST_PKTS : Fld := ⟨15, 0⟩
def Reg.SAL_PORT_DROPS (n : Nat) : Nat := 0x16000C + 0x40 * n
def Fld.SAL_PORT_DROPS.DROPS : Fld := ⟨31, 0⟩
def Reg.SAL_LANE_ALIGN (n : Nat) : Nat := 0x160100 + 0x4 * n
def Fld.SAL_LANE_ALIGN.TRAIN_LOCK : Fld := ⟨31, 31⟩
def Fld.SAL_LANE_ALIGN.BLOCK_LOCK : Fld := ⟨30, 30⟩
def Fld.SAL_LANE_ALIGN.LOS : Fld := ⟨29, 29⟩
def Fld.SAL_LANE_ALIGN.SLIPS : Fld := ⟨22, 16⟩
def Fld.SAL_LANE_ALIGN.SLIP : Fld := ⟨0, 0⟩
def Reg.SAL_SNS_STAT (n : Nat) : Nat := 0x160200 + 0x20 * n
def Fld.SAL_SNS_STAT.IN_FRAME : Fld := ⟨31, 31⟩
def Fld.SAL_SNS_STAT.LAST_INCOMPLETE : Fld := ⟨30, 30⟩
def Fld.SAL_SNS_STAT.LAST_SIZE_ERR : Fld := ⟨29, 29⟩
def Fld.SAL_SNS_STAT.LAST_EARLY : Fld := ⟨28, 28⟩
def Fld.SAL_SNS_STAT.TS_VALID : Fld := ⟨27, 27⟩
def Fld.SAL_SNS_STAT.MISSED_FRAMES : Fld := ⟨15, 0⟩
def Reg.SAL_SOF_TS_LO (n : Nat) : Nat := 0x160204 + 0x20 * n
def Fld.SAL_SOF_TS_LO.NS : Fld := ⟨31, 2⟩
def Fld.SAL_SOF_TS_LO.QNS : Fld := ⟨1, 0⟩
def Reg.SAL_SOF_TS_HI (n : Nat) : Nat := 0x160208 + 0x20 * n
def Fld.SAL_SOF_TS_HI.SEC : Fld := ⟨31, 0⟩
def Reg.SAL_SNS_FRAME (n : Nat) : Nat := 0x16020C + 0x20 * n
def Fld.SAL_SNS_FRAME.FRAME : Fld := ⟨31, 0⟩
def Reg.SAL_TRIG_STAT (n : Nat) : Nat := 0x160210 + 0x20 * n
def Fld.SAL_TRIG_STAT.SEQ_RUNNING : Fld := ⟨31, 31⟩
def Fld.SAL_TRIG_STAT.PENDING : Fld := ⟨30, 30⟩
def Fld.SAL_TRIG_STAT.LATE : Fld := ⟨27, 16⟩
def Fld.SAL_TRIG_STAT.OVERRUNS : Fld := ⟨15, 0⟩
def Reg.TLK_LINK_CTRL (n : Nat) : Nat := 0x150000 + 0x40 * n
def Fld.TLK_LINK_CTRL.MODE : Fld := ⟨1, 0⟩
def Reg.TLK_LINK_STAT (n : Nat) : Nat := 0x150004 + 0x40 * n
def Fld.TLK_LINK_STAT.READY : Fld := ⟨31, 31⟩
def Fld.TLK_LINK_STAT.LOS : Fld := ⟨30, 30⟩
def Fld.TLK_LINK_STAT.DESKEW_ERR : Fld := ⟨29, 29⟩
def Fld.TLK_LINK_STAT.RETRAINING : Fld := ⟨28, 28⟩
def Fld.TLK_LINK_STAT.SPLIT : Fld := ⟨27, 27⟩
def Fld.TLK_LINK_STAT.OVERLENGTH : Fld := ⟨26, 26⟩
def Fld.TLK_LINK_STAT.BREAK_HOP : Fld := ⟨20, 16⟩
def Fld.TLK_LINK_STAT.TILES : Fld := ⟨13, 8⟩
def Fld.TLK_LINK_STAT.WIDTH : Fld := ⟨4, 4⟩
def Fld.TLK_LINK_STAT.RATE : Fld := ⟨3, 3⟩
def Fld.TLK_LINK_STAT.BLOCK_LOCKED : Fld := ⟨1, 0⟩
def Reg.TLK_LINK_ERRS (n : Nat) : Nat := 0x150008 + 0x40 * n
def Fld.TLK_LINK_ERRS.UP_CRC_ERRS : Fld := ⟨31, 16⟩
def Fld.TLK_LINK_ERRS.CTRL_RETRIES : Fld := ⟨15, 0⟩
def Reg.TLK_LANE_ALIGN (n : Nat) : Nat := 0x151000 + 0x4 * n
def Fld.TLK_LANE_ALIGN.TRAIN_LOCK : Fld := ⟨31, 31⟩
def Fld.TLK_LANE_ALIGN.BLOCK_LOCK : Fld := ⟨30, 30⟩
def Fld.TLK_LANE_ALIGN.LOS : Fld := ⟨29, 29⟩
def Fld.TLK_LANE_ALIGN.SLIPS : Fld := ⟨22, 16⟩
def Fld.TLK_LANE_ALIGN.SLIP : Fld := ⟨0, 0⟩
def Reg.DDP_PORT_STAT (n : Nat) : Nat := 0x152000 + 0x10 * n
def Fld.DDP_PORT_STAT.RUNNING : Fld := ⟨31, 31⟩
def Fld.DDP_PORT_STAT.CHAIN_FAULT : Fld := ⟨30, 30⟩
def Fld.DDP_PORT_STAT.PIN_FAULT : Fld := ⟨29, 29⟩
def Fld.DDP_PORT_STAT.HOLDS : Fld := ⟨15, 0⟩
def Reg.TIM_NOW_NS : Nat := 0xD0000
def Fld.TIM_NOW_NS.NS : Fld := ⟨31, 0⟩
def Reg.TIM_NOW_SEC_LO : Nat := 0xD0004
def Fld.TIM_NOW_SEC_LO.SEC : Fld := ⟨31, 0⟩
def Reg.TIM_NOW_SEC_HI : Nat := 0xD0008
def Fld.TIM_NOW_SEC_HI.FRAC : Fld := ⟨31, 16⟩
def Fld.TIM_NOW_SEC_HI.SEC : Fld := ⟨15, 0⟩
def Reg.TIM_STATE : Nat := 0xD0010
def Fld.TIM_STATE.ACQUIRED : Fld := ⟨31, 31⟩
def Fld.TIM_STATE.LOCKED : Fld := ⟨30, 30⟩
def Fld.TIM_STATE.HOLDOVER : Fld := ⟨29, 29⟩
def Fld.TIM_STATE.AT_LIMIT : Fld := ⟨28, 28⟩
def Fld.TIM_STATE.XPL_MASTER : Fld := ⟨27, 27⟩
def Fld.TIM_STATE.STEP_DEFERRED : Fld := ⟨26, 26⟩
def Fld.TIM_STATE.SERVO : Fld := ⟨25, 24⟩
def Fld.TIM_STATE.MASTER_PKG : Fld := ⟨19, 16⟩
def Fld.TIM_STATE.SLAVE_VALID : Fld := ⟨10, 10⟩
def Fld.TIM_STATE.SLAVE_PORT : Fld := ⟨9, 8⟩
def Fld.TIM_STATE.GM_CLASS : Fld := ⟨7, 0⟩
def Reg.TIM_OFFSET : Nat := 0xD0014
def Fld.TIM_OFFSET.OFFSET : Fld := ⟨31, 0⟩
def Reg.TIM_RATE_LO : Nat := 0xD0018
def Fld.TIM_RATE_LO.RHO : Fld := ⟨31, 0⟩
def Reg.TIM_RATE_HI : Nat := 0xD001C
def Fld.TIM_RATE_HI.RHO : Fld := ⟨31, 0⟩
def Reg.TPO_CTRL (n : Nat) : Nat := 0xD1000 + 0x20 * n
def Fld.TPO_CTRL.REPORT : Fld := ⟨7, 7⟩
def Fld.TPO_CTRL.POL : Fld := ⟨6, 6⟩
def Fld.TPO_CTRL.MODE : Fld := ⟨5, 4⟩
def Fld.TPO_CTRL.STOP : Fld := ⟨1, 1⟩
def Fld.TPO_CTRL.ARM : Fld := ⟨0, 0⟩
def Reg.TPO_START_NS (n : Nat) : Nat := 0xD1004 + 0x20 * n
def Fld.TPO_START_NS.NS : Fld := ⟨31, 0⟩
def Reg.TPO_START_SEC_LO (n : Nat) : Nat := 0xD1008 + 0x20 * n
def Fld.TPO_START_SEC_LO.SEC : Fld := ⟨31, 0⟩
def Reg.TPO_START_SEC_HI (n : Nat) : Nat := 0xD100C + 0x20 * n
def Fld.TPO_START_SEC_HI.FRAC : Fld := ⟨31, 16⟩
def Fld.TPO_START_SEC_HI.SEC : Fld := ⟨15, 0⟩
def Reg.TPO_PERIOD_LO (n : Nat) : Nat := 0xD1010 + 0x20 * n
def Fld.TPO_PERIOD_LO.PERIOD : Fld := ⟨31, 0⟩
def Reg.TPO_PERIOD_HI (n : Nat) : Nat := 0xD1014 + 0x20 * n
def Fld.TPO_PERIOD_HI.PERIOD : Fld := ⟨31, 0⟩
def Reg.TPO_WIDTH (n : Nat) : Nat := 0xD1018 + 0x20 * n
def Fld.TPO_WIDTH.WIDTH : Fld := ⟨31, 0⟩
def Reg.TPO_STAT (n : Nat) : Nat := 0xD101C + 0x20 * n
def Fld.TPO_STAT.ACTIVE : Fld := ⟨31, 31⟩
def Fld.TPO_STAT.LATE : Fld := ⟨30, 30⟩
def Fld.TPO_STAT.SKIPPED : Fld := ⟨29, 29⟩
def Fld.TPO_STAT.CFG_ERR : Fld := ⟨28, 28⟩
def Fld.TPO_STAT.LEVEL : Fld := ⟨27, 27⟩
def Fld.TPO_STAT.FIRED : Fld := ⟨15, 0⟩
def Reg.TIM_CAP_NS (n : Nat) : Nat := 0xD2000 + 0x10 * n
def Fld.TIM_CAP_NS.NS : Fld := ⟨31, 0⟩
def Reg.TIM_CAP_SEC_LO (n : Nat) : Nat := 0xD2004 + 0x10 * n
def Fld.TIM_CAP_SEC_LO.SEC : Fld := ⟨31, 0⟩
def Reg.TIM_CAP_SEC_HI (n : Nat) : Nat := 0xD2008 + 0x10 * n
def Fld.TIM_CAP_SEC_HI.FRAC : Fld := ⟨31, 16⟩
def Fld.TIM_CAP_SEC_HI.SEC : Fld := ⟨15, 0⟩
def Reg.TIM_CAP_STAT (n : Nat) : Nat := 0xD200C + 0x10 * n
def Fld.TIM_CAP_STAT.VALID : Fld := ⟨31, 31⟩
def Fld.TIM_CAP_STAT.DEPTH : Fld := ⟨18, 16⟩
def Fld.TIM_CAP_STAT.OVERRUNS : Fld := ⟨15, 0⟩
def Reg.AUD_PORT_CTRL (n : Nat) : Nat := 0xE0000 + 0x20 * n
def Fld.AUD_PORT_CTRL.CONS_EN : Fld := ⟨0, 0⟩
def Reg.AUD_PORT_STAT (n : Nat) : Nat := 0xE0004 + 0x20 * n
def Fld.AUD_PORT_STAT.LOCKED : Fld := ⟨31, 31⟩
def Fld.AUD_PORT_STAT.MUTED : Fld := ⟨30, 30⟩
def Fld.AUD_PORT_STAT.WAITING_ZC : Fld := ⟨29, 29⟩
def Fld.AUD_PORT_STAT.RATIO_ERR : Fld := ⟨28, 28⟩
def Fld.AUD_PORT_STAT.CLOCK_LOST : Fld := ⟨27, 27⟩
def Fld.AUD_PORT_STAT.DELAY_RAISED : Fld := ⟨26, 26⟩
def Fld.AUD_PORT_STAT.RATE : Fld := ⟨3, 0⟩
def Reg.AUD_RING_PROD (n : Nat) : Nat := 0xE0008 + 0x20 * n
def Fld.AUD_RING_PROD.PROD : Fld := ⟨31, 0⟩
def Reg.AUD_RING_CONS (n : Nat) : Nat := 0xE000C + 0x20 * n
def Fld.AUD_RING_CONS.CONS : Fld := ⟨31, 0⟩
def Reg.CST_TASK_CMD (n : Nat) : Nat := 0xC0000 + 0x40 * n
def Fld.CST_TASK_CMD.GO : Fld := ⟨31, 31⟩
def Fld.CST_TASK_CMD.FUA : Fld := ⟨30, 30⟩
def Fld.CST_TASK_CMD.OP : Fld := ⟨27, 24⟩
def Fld.CST_TASK_CMD.NS : Fld := ⟨21, 16⟩
def Reg.CST_TASK_BLOCKS (n : Nat) : Nat := 0xC000C + 0x40 * n
def Fld.CST_TASK_BLOCKS.BLOCKS : Fld := ⟨16, 0⟩
def Reg.CST_TASK_STATUS (n : Nat) : Nat := 0xC0018 + 0x40 * n
def Fld.CST_TASK_STATUS.DONE : Fld := ⟨31, 31⟩
def Fld.CST_TASK_STATUS.BUSY : Fld := ⟨30, 30⟩
def Fld.CST_TASK_STATUS.GO_LOST : Fld := ⟨29, 29⟩
def Fld.CST_TASK_STATUS.STATUS : Fld := ⟨15, 0⟩
def Reg.CST_TASK_RESULT (n : Nat) : Nat := 0xC001C + 0x40 * n
def Fld.CST_TASK_RESULT.BLOCKS_DONE : Fld := ⟨31, 0⟩
def Reg.CST_TASK_ERR_LBA_LO (n : Nat) : Nat := 0xC0020 + 0x40 * n
def Fld.CST_TASK_ERR_LBA_LO.LBA : Fld := ⟨31, 0⟩
def Reg.CST_TASK_ERR_LBA_HI (n : Nat) : Nat := 0xC0024 + 0x40 * n
def Fld.CST_TASK_ERR_LBA_HI.LBA : Fld := ⟨31, 0⟩
def Reg.CST_STORE_STAT : Nat := 0xC1000
def Fld.CST_STORE_STAT.READY : Fld := ⟨31, 31⟩
def Fld.CST_STORE_STAT.UNAVAILABLE : Fld := ⟨30, 30⟩
def Fld.CST_STORE_STAT.PSTATE : Fld := ⟨29, 28⟩
def Fld.CST_STORE_STAT.ENTERING : Fld := ⟨27, 27⟩
def Fld.CST_STORE_STAT.DRIVES : Fld := ⟨11, 8⟩
def Fld.CST_STORE_STAT.INFLIGHT : Fld := ⟨7, 0⟩
def Reg.MEM_STAT (n : Nat) : Nat := 0x180000 + 0x40 * n
def Fld.MEM_STAT.READY : Fld := ⟨31, 31⟩
def Fld.MEM_STAT.THREE_STACK : Fld := ⟨30, 30⟩
def Fld.MEM_STAT.REFRESH_2X : Fld := ⟨29, 29⟩
def Fld.MEM_STAT.PCS_DOWN : Fld := ⟨28, 23⟩
def Fld.MEM_STAT.WQ_DEPTH : Fld := ⟨22, 16⟩
def Fld.MEM_STAT.TEMP : Fld := ⟨15, 8⟩
def Reg.MEM_ECC (n : Nat) : Nat := 0x180004 + 0x40 * n
def Fld.MEM_ECC.CE : Fld := ⟨31, 16⟩
def Fld.MEM_ECC.UE : Fld := ⟨15, 0⟩
def Reg.MEM_ERR_ADDR_LO (n : Nat) : Nat := 0x180008 + 0x40 * n
def Fld.MEM_ERR_ADDR_LO.LINE : Fld := ⟨31, 6⟩
def Reg.MEM_ERR_ADDR_HI (n : Nat) : Nat := 0x18000C + 0x40 * n
def Fld.MEM_ERR_ADDR_HI.VALID : Fld := ⟨31, 31⟩
def Fld.MEM_ERR_ADDR_HI.KIND : Fld := ⟨30, 29⟩
def Fld.MEM_ERR_ADDR_HI.LINE : Fld := ⟨7, 0⟩
def Reg.MEM_SCRUB (n : Nat) : Nat := 0x180010 + 0x40 * n
def Fld.MEM_SCRUB.RUNNING : Fld := ⟨31, 31⟩
def Fld.MEM_SCRUB.POS_MIB : Fld := ⟨14, 0⟩
def Reg.DMA_CTRL (n : Nat) : Nat := 0xB0000 + 0x40 * n
def Fld.DMA_CTRL.EN : Fld := ⟨31, 31⟩
def Fld.DMA_CTRL.PAUSE : Fld := ⟨30, 30⟩
def Fld.DMA_CTRL.SHARE : Fld := ⟨6, 0⟩
def Reg.DMA_DOORBELL (n : Nat) : Nat := 0xB000C + 0x40 * n
def Fld.DMA_DOORBELL.RING : Fld := ⟨31, 31⟩
def Reg.DMA_STAT (n : Nat) : Nat := 0xB0010 + 0x40 * n
def Fld.DMA_STAT.RUNNING : Fld := ⟨31, 31⟩
def Fld.DMA_STAT.PARKED : Fld := ⟨30, 30⟩
def Fld.DMA_STAT.PAUSED : Fld := ⟨29, 29⟩
def Fld.DMA_STAT.HALTED : Fld := ⟨28, 28⟩
def Fld.DMA_STAT.IRQ : Fld := ⟨27, 27⟩
def Fld.DMA_STAT.DB_PENDING : Fld := ⟨26, 26⟩
def Fld.DMA_STAT.LAST_STATUS : Fld := ⟨15, 0⟩
def Reg.DMA_CUR_DONE (n : Nat) : Nat := 0xB001C + 0x40 * n
def Fld.DMA_CUR_DONE.BYTES : Fld := ⟨23, 0⟩
def Reg.DMA_COUNT (n : Nat) : Nat := 0xB0020 + 0x40 * n
def Fld.DMA_COUNT.DESCS : Fld := ⟨31, 0⟩
def Reg.SEC_STATE : Nat := 0x170000
def Fld.SEC_STATE.APPROVED : Fld := ⟨31, 31⟩
def Fld.SEC_STATE.ERROR : Fld := ⟨30, 30⟩
def Fld.SEC_STATE.ZEROISED : Fld := ⟨29, 29⟩
def Fld.SEC_STATE.SELFTEST_RUNNING : Fld := ⟨28, 28⟩
def Fld.SEC_STATE.CO_PROVISIONED : Fld := ⟨27, 27⟩
def Fld.SEC_STATE.DEBUG : Fld := ⟨26, 26⟩
def Fld.SEC_STATE.FW_SLOT : Fld := ⟨25, 25⟩
def Fld.SEC_STATE.ARB_COUNT : Fld := ⟨15, 8⟩
def Fld.SEC_STATE.EPOCH : Fld := ⟨7, 4⟩
def Reg.SEC_TAMPER : Nat := 0x170004
def Fld.SEC_TAMPER.SHIELD : Fld := ⟨4, 4⟩
def Fld.SEC_TAMPER.VOLTAGE : Fld := ⟨3, 3⟩
def Fld.SEC_TAMPER.TEMP : Fld := ⟨2, 2⟩
def Fld.SEC_TAMPER.CLOCK : Fld := ⟨1, 1⟩
def Fld.SEC_TAMPER.PIN : Fld := ⟨0, 0⟩
def Reg.SEC_ZEROISE : Nat := 0x170008
def Fld.SEC_ZEROISE.KEY : Fld := ⟨31, 0⟩
def Reg.LAN_CTRL (n : Nat) : Nat := 0x100000 + 0x400 * n
def Fld.LAN_CTRL.LOOPBACK : Fld := ⟨31, 30⟩
def Fld.LAN_CTRL.PRBS_GEN : Fld := ⟨26, 24⟩
def Fld.LAN_CTRL.PRBS_CHK : Fld := ⟨22, 20⟩
def Reg.LAN_STAT (n : Nat) : Nat := 0x100004 + 0x400 * n
def Fld.LAN_STAT.SIGNAL : Fld := ⟨31, 31⟩
def Fld.LAN_STAT.CDR_LOCK : Fld := ⟨30, 30⟩
def Fld.LAN_STAT.PRBS_LOCK : Fld := ⟨29, 29⟩
def Fld.LAN_STAT.RX_INVERTED : Fld := ⟨28, 28⟩
def Fld.LAN_STAT.TEST_REFUSED : Fld := ⟨27, 27⟩
def Fld.LAN_STAT.OWNER : Fld := ⟨26, 24⟩
def Fld.LAN_STAT.LOGICAL : Fld := ⟨18, 16⟩
def Fld.LAN_STAT.LOCK_LOSSES : Fld := ⟨15, 4⟩
def Fld.LAN_STAT.RATE : Fld := ⟨3, 0⟩
def Reg.LAN_PRBS_ERRS (n : Nat) : Nat := 0x100008 + 0x400 * n
def Fld.LAN_PRBS_ERRS.ERRS : Fld := ⟨31, 0⟩
def Reg.LAN_OVF (n : Nat) : Nat := 0x100014 + 0x400 * n
def Fld.LAN_OVF.OVF : Fld := ⟨31, 16⟩
def Fld.LAN_OVF.LOS_EVENTS : Fld := ⟨15, 0⟩
def Reg.LAN_OCTET_STAT (n : Nat) : Nat := 0x128000 + 0x40 * n
def Fld.LAN_OCTET_STAT.PLL0_LOCK : Fld := ⟨31, 31⟩
def Fld.LAN_OCTET_STAT.PLL1_LOCK : Fld := ⟨30, 30⟩
def Fld.LAN_OCTET_STAT.PLL1_RATE : Fld := ⟨7, 4⟩
def Fld.LAN_OCTET_STAT.PLL0_RATE : Fld := ⟨3, 0⟩
def Reg.XPL_LINK_CTRL (n : Nat) : Nat := 0x140000 + 0x40 * n
def Fld.XPL_LINK_CTRL.RETRAIN : Fld := ⟨0, 0⟩
def Reg.XPL_LINK_STAT (n : Nat) : Nat := 0x140004 + 0x40 * n
def Fld.XPL_LINK_STAT.UP : Fld := ⟨31, 31⟩
def Fld.XPL_LINK_STAT.RETRAINING : Fld := ⟨30, 30⟩
def Fld.XPL_LINK_STAT.DUP_ID : Fld := ⟨29, 29⟩
def Fld.XPL_LINK_STAT.COLLISION : Fld := ⟨28, 28⟩
def Fld.XPL_LINK_STAT.PEER_PKG : Fld := ⟨27, 24⟩
def Fld.XPL_LINK_STAT.PEER_LINK : Fld := ⟨23, 22⟩
def Fld.XPL_LINK_STAT.GOOD_LANES : Fld := ⟨15, 8⟩
def Fld.XPL_LINK_STAT.WIDTH : Fld := ⟨3, 0⟩
def Reg.XPL_LINK_ERRS (n : Nat) : Nat := 0x140008 + 0x40 * n
def Fld.XPL_LINK_ERRS.REPLAYS : Fld := ⟨31, 16⟩
def Fld.XPL_LINK_ERRS.FEC_UNCORR : Fld := ⟨15, 0⟩
def Reg.XPL_ROUTE (n : Nat) : Nat := 0x141000 + 0x4 * n
def Fld.XPL_ROUTE.VALID : Fld := ⟨31, 31⟩
def Fld.XPL_ROUTE.LOCAL : Fld := ⟨30, 30⟩
def Fld.XPL_ROUTE.LINK : Fld := ⟨29, 28⟩
def Fld.XPL_ROUTE.HOPS : Fld := ⟨3, 0⟩
def Reg.FLT_PAIR_STAT : Nat := 0x1A4000
def Fld.FLT_PAIR_STAT.EN : Fld := ⟨31, 31⟩
def Fld.FLT_PAIR_STAT.ACTIVE : Fld := ⟨30, 30⟩
def Fld.FLT_PAIR_STAT.PROTECTED : Fld := ⟨29, 29⟩
def Fld.FLT_PAIR_STAT.WARM : Fld := ⟨28, 28⟩
def Fld.FLT_PAIR_STAT.SWAP_PENDING : Fld := ⟨27, 27⟩
def Fld.FLT_PAIR_STAT.YIELDED : Fld := ⟨26, 26⟩
def Fld.FLT_PAIR_STAT.LAST_EVENT : Fld := ⟨25, 24⟩
def Fld.FLT_PAIR_STAT.PARTNER_PKG : Fld := ⟨19, 16⟩
def Fld.FLT_PAIR_STAT.TAKEOVER_US : Fld := ⟨15, 0⟩
def Reg.FLT_PLINTH : Nat := 0x1A4004
def Fld.FLT_PLINTH.P0_ALIVE : Fld := ⟨31, 31⟩
def Fld.FLT_PLINTH.P2_ALIVE : Fld := ⟨30, 30⟩
def Fld.FLT_PLINTH.PRIMARY : Fld := ⟨29, 29⟩
def Fld.FLT_PLINTH.RECOVERING : Fld := ⟨28, 28⟩
def Fld.FLT_PLINTH.GAVE_UP : Fld := ⟨27, 27⟩
def Fld.FLT_PLINTH.RECENT : Fld := ⟨19, 16⟩
def Fld.FLT_PLINTH.RECOVERIES : Fld := ⟨15, 0⟩
def Reg.FLT_INJECT : Nat := 0x1A4008
def Fld.FLT_INJECT.GO : Fld := ⟨31, 31⟩
def Fld.FLT_INJECT.KIND : Fld := ⟨26, 24⟩
def Fld.FLT_INJECT.UNIT : Fld := ⟨11, 0⟩
def Reg.THM_STAT : Nat := 0xF0000
def Fld.THM_STAT.TJ_LOGIC : Fld := ⟨31, 24⟩
def Fld.THM_STAT.TJ_IO : Fld := ⟨23, 16⟩
def Fld.THM_STAT.TRIP : Fld := ⟨15, 15⟩
def Fld.THM_STAT.ALERT : Fld := ⟨14, 14⟩
def Fld.THM_STAT.ORBIT : Fld := ⟨11, 0⟩
def Reg.THM_THROTTLE : Nat := 0xF0004
def Fld.THM_THROTTLE.REQUESTED : Fld := ⟨31, 31⟩
def Fld.THM_THROTTLE.ENFORCING : Fld := ⟨30, 30⟩
def Fld.THM_THROTTLE.CAUSE : Fld := ⟨29, 28⟩
def Fld.THM_THROTTLE.SHED_LEVEL : Fld := ⟨27, 24⟩
def Fld.THM_THROTTLE.GRACE_LEFT_MS : Fld := ⟨23, 8⟩
def Fld.THM_THROTTLE.TARGET : Fld := ⟨7, 0⟩
def Reg.THM_CONV : Nat := 0xF0008
def Fld.THM_CONV.GO : Fld := ⟨31, 31⟩
def Fld.THM_CONV.PENDING : Fld := ⟨30, 30⟩
def Fld.THM_CONV.OVERRUN : Fld := ⟨29, 29⟩
def Fld.THM_CONV.DONE : Fld := ⟨28, 28⟩
def Fld.THM_CONV.CHANNEL : Fld := ⟨7, 0⟩
def Reg.THM_CONV_RESULT : Nat := 0xF000C
def Fld.THM_CONV_RESULT.VALID : Fld := ⟨31, 31⟩
def Fld.THM_CONV_RESULT.CHANNEL : Fld := ⟨23, 16⟩
def Fld.THM_CONV_RESULT.VALUE : Fld := ⟨15, 0⟩
def Reg.THM_PIN_FAULT (n : Nat) : Nat := 0xF0100 + 0x4 * n
def Fld.THM_PIN_FAULT.FAULT : Fld := ⟨31, 0⟩
def Reg.THM_CHAN (n : Nat) : Nat := 0xF0400 + 0x4 * n
def Fld.THM_CHAN.VALID : Fld := ⟨31, 31⟩
def Fld.THM_CHAN.OUT_OF_RANGE : Fld := ⟨30, 30⟩
def Fld.THM_CHAN.VALUE : Fld := ⟨15, 0⟩
def Reg.HUB_BOOT : Nat := 0x14
def Fld.HUB_BOOT.STATE : Fld := ⟨31, 29⟩
def Fld.HUB_BOOT.IMG_SLOT : Fld := ⟨28, 28⟩
def Fld.HUB_BOOT.NVS_BANK : Fld := ⟨27, 26⟩
def Fld.HUB_BOOT.LAST_RESET : Fld := ⟨25, 24⟩
def Fld.HUB_BOOT.WAIT_TIME : Fld := ⟨23, 23⟩
def Fld.HUB_BOOT.RESTORE_FAIL : Fld := ⟨22, 22⟩
def Fld.HUB_BOOT.BOOT_MS : Fld := ⟨15, 0⟩
def Reg.HUB_RESET : Nat := 0x18
def Fld.HUB_RESET.KEY : Fld := ⟨31, 16⟩
def Fld.HUB_RESET.ARM_REBOOT : Fld := ⟨1, 1⟩
def Fld.HUB_RESET.PKG_RESET : Fld := ⟨0, 0⟩
def Reg.NVS_STAT : Nat := 0x190000
def Fld.NVS_STAT.READY : Fld := ⟨31, 31⟩
def Fld.NVS_STAT.WRITING : Fld := ⟨30, 30⟩
def Fld.NVS_STAT.DEFERRED : Fld := ⟨29, 29⟩
def Fld.NVS_STAT.A_VALID : Fld := ⟨28, 28⟩
def Fld.NVS_STAT.B_VALID : Fld := ⟨27, 27⟩
def Reg.NVS_SEQ : Nat := 0x190004
def Fld.NVS_SEQ.SEQ : Fld := ⟨31, 0⟩
def Reg.NVS_RING_SEL : Nat := 0x190008
def Fld.NVS_RING_SEL.INDEX : Fld := ⟨11, 0⟩
def Reg.NVS_RING_HEAD : Nat := 0x19000C
def Fld.NVS_RING_HEAD.NEXT : Fld := ⟨11, 0⟩
def Reg.NVS_RING_DATA (n : Nat) : Nat := 0x190040 + 0x4 * n
def Fld.NVS_RING_DATA.WORD : Fld := ⟨31, 0⟩
def Reg.LAN_PRBS_BITS_LO (n : Nat) : Nat := 0x10000C + 0x400 * n
def Fld.LAN_PRBS_BITS_LO.BITS : Fld := ⟨31, 0⟩
def Reg.LAN_PRBS_BITS_HI (n : Nat) : Nat := 0x100010 + 0x400 * n
def Fld.LAN_PRBS_BITS_HI.BITS : Fld := ⟨31, 0⟩
def Reg.DMA_HEAD_LO (n : Nat) : Nat := 0xB0004 + 0x40 * n
def Fld.DMA_HEAD_LO.HEAD : Fld := ⟨31, 0⟩
def Reg.DMA_HEAD_HI (n : Nat) : Nat := 0xB0008 + 0x40 * n
def Fld.DMA_HEAD_HI.HEAD : Fld := ⟨31, 0⟩
def Reg.DMA_CUR_LO (n : Nat) : Nat := 0xB0014 + 0x40 * n
def Fld.DMA_CUR_LO.CUR : Fld := ⟨31, 0⟩
def Reg.DMA_CUR_HI (n : Nat) : Nat := 0xB0018 + 0x40 * n
def Fld.DMA_CUR_HI.CUR : Fld := ⟨31, 0⟩
def Reg.DMA_BYTES_LO (n : Nat) : Nat := 0xB0024 + 0x40 * n
def Fld.DMA_BYTES_LO.BYTES : Fld := ⟨31, 0⟩
def Reg.DMA_BYTES_HI (n : Nat) : Nat := 0xB0028 + 0x40 * n
def Fld.DMA_BYTES_HI.BYTES : Fld := ⟨31, 0⟩
def Reg.CST_TASK_LBA_LO (n : Nat) : Nat := 0xC0004 + 0x40 * n
def Fld.CST_TASK_LBA_LO.LBA : Fld := ⟨31, 0⟩
def Reg.CST_TASK_LBA_HI (n : Nat) : Nat := 0xC0008 + 0x40 * n
def Fld.CST_TASK_LBA_HI.LBA : Fld := ⟨31, 0⟩
def Reg.CST_TASK_ADDR_LO (n : Nat) : Nat := 0xC0010 + 0x40 * n
def Fld.CST_TASK_ADDR_LO.ADDR : Fld := ⟨31, 0⟩
def Reg.CST_TASK_ADDR_HI (n : Nat) : Nat := 0xC0014 + 0x40 * n
def Fld.CST_TASK_ADDR_HI.ADDR : Fld := ⟨31, 0⟩

end Sys2Proof.Machine
end

