-- ==== Sys2Proof/Machine/PrmTable.lean ====
section
/-! DEFINITION. The parameter index: the 4,533 parameters of R143, as families of IDs, with default, range and the
mark that says when a new value takes effect (R142, R146 and the parameter tables of each chapter). -/
namespace Sys2Proof.Machine

/-- The "Takes effect" mark of a parameter (R146). ro: no write is ever accepted. -/
inductive Mark where
  | ro
  /-- Immediately. -/
  | imm
  /-- Next commit. -/
  | commit
  /-- Next boot. -/
  | boot
  /-- Any other mark: stored before the response, read by the device at the named moment. -/
  | later
  deriving DecidableEq, Repr

/-- One checked field of a parameter: bits hi to lo hold a value from min to max. -/
structure PFld where
  hi : Nat
  lo : Nat
  min : Nat
  max : Nat
  deriving DecidableEq, Repr

/-- The listed range of a parameter (R142, R796, R797). -/
inductive PRange where
  /-- Read only. -/
  | ro
  /-- Each field within its range, every other bit 0. With en, bit 31 is EN and the ranges hold only while EN = 1 (R797). -/
  | flds (en : Bool) (fs : List PFld)
  /-- The 32 bits read as a signed number lie between lo and hi. -/
  | signed (lo hi : Int)
  /-- Binary16 values whose lowest bits stand at los are finite (R796); fs are further fields; every other bit 0. -/
  | fin16 (los : List Nat) (fs : List PFld)
  deriving DecidableEq, Repr

/-- One family of parameters: count IDs, stride apart, the first at base. -/
structure PrmRow where
  base : Nat
  stride : Nat
  count : Nat
  default : Nat
  mark : Mark
  range : PRange
  deriving DecidableEq, Repr

/-- Parameters 0x01xx of R143, part 0. -/
def prms01_0 : List PrmRow := [
  ⟨0x100, 1, 1, 0x30400, .ro, .ro⟩,
  ⟨0x101, 1, 1, 0x948000B1, .ro, .ro⟩,
  ⟨0x102, 1, 1, 0x0, .ro, .ro⟩,
  ⟨0x110, 1, 1, 0x64, .boot, .flds false [⟨31, 0, 10, 1000⟩]⟩,
  ⟨0x111, 1, 1, 0x10000, .imm, .flds false [⟨31, 0, 1, 65536⟩]⟩,
  ⟨0x120, 1, 1, 0x1, .imm, .flds false [⟨0, 0, 0, 1⟩]⟩,
  ⟨0x121, 1, 1, 0x7D0, .boot, .flds false [⟨31, 0, 100, 10000⟩]⟩,
  ⟨0x122, 1, 1, 0xA, .boot, .flds false [⟨31, 0, 0, 120⟩]⟩,
  ⟨0x123, 2, 4, 0x0, .boot, .fin16 [16, 0] []⟩,
  ⟨0x124, 2, 4, 0x0, .boot, .fin16 [0] []⟩]

/-- Parameters 0x01xx of R143. -/
def prms01 : List PrmRow := prms01_0

/-- Parameters 0x02xx of R143, part 0. -/
def prms02_0 : List PrmRow := [
  ⟨0x200, 1, 4, 0x0, .commit, .flds true [⟨31, 31, 0, 1⟩, ⟨16, 16, 0, 1⟩, ⟨11, 8, 1, 8⟩, ⟨4, 0, 8, 19⟩]⟩,
  ⟨0x250, 1, 1, 0x3E8, .imm, .flds false [⟨31, 0, 100, 10000⟩]⟩,
  ⟨0x210, 1, 8, 0x80, .commit, .flds false [⟨7, 7, 0, 1⟩, ⟨4, 4, 0, 1⟩, ⟨1, 0, 0, 3⟩]⟩,
  ⟨0x218, 1, 8, 0x0, .commit, .flds false [⟨31, 16, 1, 16384⟩, ⟨15, 0, 0, 65535⟩]⟩,
  ⟨0x220, 1, 8, 0x3, .commit, .flds false [⟨7, 0, 0, 255⟩]⟩,
  ⟨0x228, 1, 8, 0x411A, .commit, .flds false [⟨31, 0, 100, 1000000⟩]⟩,
  ⟨0x230, 1, 8, 0x186A0, .commit, .flds false [⟨31, 0, 1000, 2000000⟩]⟩,
  ⟨0x238, 1, 8, 0x0, .commit, .flds false [⟨7, 0, 0, 255⟩]⟩,
  ⟨0x240, 1, 8, 0x0, .commit, .flds false [⟨31, 0, 0, 10000000⟩]⟩,
  ⟨0x248, 1, 8, 0x0, .commit, .flds false [⟨31, 0, 0, 1000000⟩]⟩]

/-- Parameters 0x02xx of R143. -/
def prms02 : List PrmRow := prms02_0

/-- Parameters 0x03xx of R143, part 0. -/
def prms03_0 : List PrmRow := [
  ⟨0x300, 32, 8, 0xFF, .commit, .flds false [⟨7, 0, 0, 255⟩]⟩,
  ⟨0x301, 32, 8, 0x1000, .commit, .flds false [⟨31, 0, 0, 65535⟩]⟩,
  ⟨0x302, 32, 8, 0x1000, .commit, .flds false [⟨31, 0, 0, 65535⟩]⟩,
  ⟨0x303, 32, 8, 0x1000, .commit, .flds false [⟨31, 0, 0, 65535⟩]⟩,
  ⟨0x304, 32, 8, 0x1000, .commit, .flds false [⟨31, 0, 0, 65535⟩]⟩,
  ⟨0x305, 32, 8, 0x1000, .commit, .flds false [⟨31, 0, 0, 65535⟩]⟩,
  ⟨0x306, 32, 8, 0xFFC0, .commit, .flds false [⟨31, 0, 1, 65535⟩]⟩,
  ⟨0x307, 32, 8, 0x100, .commit, .flds false [⟨31, 0, 0, 65535⟩]⟩,
  ⟨0x308, 32, 8, 0xCCD, .commit, .flds false [⟨31, 0, 0, 65535⟩]⟩,
  ⟨0x309, 32, 8, 0x100, .commit, .flds false [⟨31, 0, 0, 256⟩]⟩,
  ⟨0x30A, 32, 8, 0x800, .commit, .flds false [⟨31, 0, 0, 65535⟩]⟩,
  ⟨0x30B, 32, 8, 0x199A, .commit, .flds false [⟨31, 0, 0, 65535⟩]⟩,
  ⟨0x30C, 32, 8, 0x800, .commit, .flds false [⟨31, 0, 0, 65535⟩]⟩,
  ⟨0x30D, 32, 8, 0x199A, .commit, .flds false [⟨31, 0, 0, 65535⟩]⟩,
  ⟨0x30E, 32, 8, 0x10000, .commit, .flds false [⟨31, 0, 0, 1048576⟩]⟩,
  ⟨0x30F, 32, 8, 0x202, .commit, .flds false [⟨14, 8, 2, 65⟩, ⟨7, 0, 2, 129⟩]⟩,
  ⟨0x310, 32, 8, 0x1020, .commit, .flds false [⟨13, 8, 1, 32⟩, ⟨6, 0, 1, 64⟩]⟩,
  ⟨0x311, 32, 8, 0x4340, .commit, .flds false [⟨31, 0, 0, 65536⟩]⟩,
  ⟨0x312, 32, 8, 0xAD91, .commit, .flds false [⟨31, 0, 0, 65536⟩]⟩,
  ⟨0x313, 32, 8, 0xF2E, .commit, .flds false [⟨31, 0, 0, 65536⟩]⟩,
  ⟨0x314, 32, 8, 0x0, .commit, .flds false [⟨31, 0, 0, 4294967295⟩]⟩,
  ⟨0x315, 32, 8, 0x0, .commit, .flds false [⟨31, 0, 0, 4294967295⟩]⟩,
  ⟨0x316, 32, 8, 0x1, .commit, .flds false [⟨31, 0, 1, 16⟩]⟩,
  ⟨0x317, 32, 8, 0x0, .commit, .flds false [⟨29, 16, 0, 16383⟩, ⟨14, 0, 0, 32767⟩]⟩,
  ⟨0x318, 32, 8, 0x0, .commit, .flds false [⟨30, 16, 0, 32767⟩, ⟨15, 0, 0, 65535⟩]⟩,
  ⟨0x319, 32, 8, 0x0, .ro, .ro⟩,
  ⟨0x31A, 32, 8, 0x0, .ro, .ro⟩,
  ⟨0x31B, 32, 8, 0x0, .ro, .ro⟩,
  ⟨0x31C, 32, 8, 0x0, .ro, .ro⟩,
  ⟨0x31D, 32, 8, 0x0, .ro, .ro⟩]

/-- Parameters 0x03xx of R143. -/
def prms03 : List PrmRow := prms03_0

/-- Parameters 0x04xx of R143, part 0. -/
def prms04_0 : List PrmRow := [
  ⟨0x400, 8, 8, 0x20, .commit, .flds false [⟨1, 0, 0, 2⟩, ⟨2, 2, 0, 1⟩, ⟨4, 4, 0, 1⟩, ⟨5, 5, 0, 1⟩]⟩,
  ⟨0x401, 8, 8, 0x1000, .commit, .flds false [⟨31, 0, 0, 65535⟩]⟩,
  ⟨0x402, 8, 8, 0x1000, .commit, .flds false [⟨31, 0, 0, 65535⟩]⟩,
  ⟨0x403, 8, 8, 0x1000, .commit, .flds false [⟨31, 0, 0, 65535⟩]⟩,
  ⟨0x404, 8, 8, 0x1000, .commit, .flds false [⟨31, 0, 0, 65535⟩]⟩,
  ⟨0x405, 8, 8, 0x1000, .commit, .flds false [⟨31, 0, 0, 65535⟩]⟩,
  ⟨0x406, 8, 8, 0x199A, .commit, .flds false [⟨31, 0, 0, 65535⟩]⟩,
  ⟨0x407, 8, 8, 0x0, .ro, .ro⟩,
  ⟨0x440, 16, 2, 0x0, .commit, .flds true [⟨31, 31, 0, 1⟩, ⟨2, 0, 0, 7⟩]⟩,
  ⟨0x441, 16, 2, 0x0, .commit, .flds false [⟨29, 16, 0, 16383⟩, ⟨14, 0, 0, 32767⟩]⟩,
  ⟨0x442, 16, 2, 0x0, .commit, .flds false [⟨30, 16, 0, 32767⟩, ⟨15, 0, 0, 65535⟩]⟩,
  ⟨0x443, 16, 2, 0x0, .commit, .flds false [⟨30, 16, 0, 32767⟩, ⟨15, 0, 0, 65535⟩]⟩,
  ⟨0x444, 16, 2, 0x2000, .commit, .flds false [⟨3, 0, 0, 15⟩, ⟨13, 12, 0, 2⟩, ⟨14, 14, 0, 1⟩, ⟨17, 16, 0, 3⟩, ⟨18, 18, 0, 1⟩, ⟨19, 19, 0, 1⟩, ⟨22, 20, 0, 3⟩]⟩,
  ⟨0x445, 16, 2, 0x0, .commit, .flds true [⟨31, 31, 0, 1⟩, ⟨1, 0, 0, 2⟩]⟩,
  ⟨0x446, 16, 2, 0x0, .commit, .flds false [⟨31, 0, 0, 4294967295⟩]⟩,
  ⟨0x447, 16, 2, 0x0, .commit, .flds false [⟨31, 0, 0, 4294967295⟩]⟩,
  ⟨0x448, 16, 2, 0x0, .commit, .flds false [⟨31, 0, 0, 4294967295⟩]⟩,
  ⟨0x449, 16, 2, 0x0, .commit, .flds false [⟨31, 0, 0, 4294967295⟩]⟩,
  ⟨0x44A, 16, 2, 0x0, .commit, .flds false [⟨31, 0, 0, 4294967295⟩]⟩,
  ⟨0x44B, 16, 2, 0x0, .commit, .flds false [⟨31, 0, 0, 4294967295⟩]⟩,
  ⟨0x44C, 16, 2, 0x10003, .commit, .flds false [⟨20, 16, 1, 16⟩, ⟨3, 0, 2, 8⟩]⟩,
  ⟨0x44D, 16, 2, 0x0, .ro, .ro⟩,
  ⟨0x44E, 16, 2, 0x0, .ro, .ro⟩,
  ⟨0x44F, 16, 2, 0x0, .ro, .ro⟩,
  ⟨0x460, 10, 16, 0x0, .commit, .flds true [⟨31, 31, 0, 1⟩, ⟨27, 16, 0, 4095⟩, ⟨6, 4, 0, 7⟩, ⟨2, 0, 0, 7⟩]⟩,
  ⟨0x461, 10, 16, 0x0, .commit, .flds false [⟨29, 16, 0, 16383⟩, ⟨14, 0, 0, 32767⟩]⟩,
  ⟨0x462, 10, 16, 0x0, .commit, .flds false [⟨30, 16, 0, 32767⟩, ⟨15, 0, 0, 65535⟩]⟩,
  ⟨0x463, 10, 16, 0x0, .commit, .flds false [⟨30, 16, 0, 32767⟩, ⟨15, 0, 0, 65535⟩]⟩,
  ⟨0x464, 10, 16, 0x2301, .commit, .flds false [⟨3, 0, 0, 15⟩, ⟨5, 4, 0, 2⟩, ⟨6, 6, 0, 1⟩, ⟨7, 7, 0, 1⟩, ⟨10, 8, 0, 4⟩, ⟨13, 12, 0, 2⟩, ⟨14, 14, 0, 1⟩, ⟨17, 16, 0, 3⟩, ⟨18, 18, 0, 1⟩, ⟨19, 19, 0, 1⟩, ⟨22, 20, 0, 3⟩]⟩,
  ⟨0x465, 10, 16, 0x1010003, .commit, .flds false [⟨31, 24, 0, 255⟩, ⟨20, 16, 1, 16⟩, ⟨3, 0, 2, 8⟩]⟩,
  ⟨0x466, 10, 16, 0x0, .commit, .flds false [⟨31, 0, 0, 4294967295⟩]⟩,
  ⟨0x467, 10, 16, 0x0, .commit, .flds false [⟨31, 0, 0, 4294967295⟩]⟩,
  ⟨0x468, 10, 16, 0x0, .commit, .flds false [⟨31, 0, 0, 262144⟩]⟩,
  ⟨0x469, 10, 16, 0x0, .ro, .ro⟩]

/-- Parameters 0x04xx of R143. -/
def prms04 : List PrmRow := prms04_0

/-- Parameters 0x05xx of R143, part 0. -/
def prms05_0 : List PrmRow := [
  ⟨0x500, 32, 8, 0x1, .later, .flds false [⟨1, 0, 0, 3⟩]⟩,
  ⟨0x501, 32, 8, 0x2, .later, .flds false [⟨31, 0, 0, 7⟩]⟩,
  ⟨0x502, 32, 8, 0x0, .later, .flds false [⟨31, 0, 0, 7⟩]⟩,
  ⟨0x503, 32, 8, 0x70, .commit, .flds false [⟨31, 0, 96, 127⟩]⟩,
  ⟨0x504, 32, 8, 0x594, .commit, .flds false [⟨31, 0, 576, 8960⟩]⟩,
  ⟨0x505, 32, 8, 0x0, .ro, .ro⟩,
  ⟨0x506, 32, 8, 0x0, .ro, .ro⟩,
  ⟨0x507, 32, 8, 0x0, .ro, .ro⟩,
  ⟨0x508, 32, 8, 0x0, .ro, .ro⟩,
  ⟨0x509, 32, 8, 0x0, .ro, .ro⟩,
  ⟨0x50A, 32, 8, 0x0, .ro, .ro⟩,
  ⟨0x50B, 32, 8, 0x0, .ro, .ro⟩,
  ⟨0x50C, 32, 8, 0x0, .ro, .ro⟩,
  ⟨0x50D, 32, 8, 0x0, .ro, .ro⟩,
  ⟨0x50E, 32, 8, 0x0, .ro, .ro⟩,
  ⟨0x50F, 32, 8, 0x0, .ro, .ro⟩,
  ⟨0x510, 32, 8, 0x0, .ro, .ro⟩,
  ⟨0x511, 32, 8, 0x0, .ro, .ro⟩,
  ⟨0x512, 32, 8, 0x0, .ro, .ro⟩,
  ⟨0x513, 32, 8, 0x0, .ro, .ro⟩,
  ⟨0x514, 32, 8, 0x0, .ro, .ro⟩,
  ⟨0x515, 32, 8, 0x0, .ro, .ro⟩,
  ⟨0x516, 32, 8, 0x0, .ro, .ro⟩,
  ⟨0x517, 32, 8, 0x0, .ro, .ro⟩,
  ⟨0x518, 32, 8, 0x0, .ro, .ro⟩,
  ⟨0x519, 32, 8, 0x0, .ro, .ro⟩,
  ⟨0x51A, 32, 8, 0x0, .ro, .ro⟩,
  ⟨0x51B, 32, 8, 0x0, .ro, .ro⟩,
  ⟨0x51C, 32, 8, 0x0, .ro, .ro⟩,
  ⟨0x51D, 32, 8, 0x0, .ro, .ro⟩,
  ⟨0x51E, 32, 8, 0x0, .ro, .ro⟩]

/-- Parameters 0x05xx of R143. -/
def prms05 : List PrmRow := prms05_0

/-- Parameters 0x06xx of R143, part 0. -/
def prms06_0 : List PrmRow := [
  ⟨0x600, 32, 4, 0x0, .commit, .flds true [⟨31, 31, 0, 1⟩, ⟨18, 16, 0, 4⟩, ⟨4, 0, 8, 19⟩]⟩,
  ⟨0x601, 32, 4, 0x0, .commit, .flds false [⟨31, 0, 0, 4294967295⟩]⟩,
  ⟨0x602, 32, 4, 0x0, .commit, .flds false [⟨15, 0, 0, 65535⟩]⟩,
  ⟨0x603, 32, 4, 0x0, .commit, .flds false [⟨15, 15, 0, 1⟩, ⟨14, 12, 0, 7⟩, ⟨11, 0, 0, 4095⟩]⟩,
  ⟨0x604, 32, 4, 0x0, .commit, .flds false [⟨31, 0, 0, 4294967295⟩]⟩,
  ⟨0x605, 32, 4, 0x0, .commit, .flds false [⟨31, 0, 0, 4294967295⟩]⟩,
  ⟨0x606, 32, 4, 0x0, .commit, .flds false [⟨31, 0, 0, 4294967295⟩]⟩,
  ⟨0x607, 32, 4, 0x0, .commit, .flds false [⟨31, 0, 0, 4294967295⟩]⟩,
  ⟨0x608, 32, 4, 0x0, .commit, .flds false [⟨31, 0, 0, 4294967295⟩]⟩,
  ⟨0x609, 32, 4, 0x2240, .commit, .flds false [⟨7, 0, 1, 255⟩, ⟨13, 8, 0, 63⟩]⟩,
  ⟨0x60A, 32, 4, 0x5DC, .commit, .flds false [⟨31, 0, 1500, 9216⟩]⟩,
  ⟨0x60B, 32, 4, 0x2710, .imm, .flds false [⟨31, 0, 1000, 1000000⟩]⟩,
  ⟨0x60C, 32, 4, 0x0, .ro, .ro⟩,
  ⟨0x60D, 32, 4, 0x0, .ro, .ro⟩,
  ⟨0x60E, 32, 4, 0x0, .ro, .ro⟩,
  ⟨0x60F, 32, 4, 0x0, .ro, .ro⟩,
  ⟨0x610, 32, 4, 0x0, .ro, .ro⟩,
  ⟨0x611, 32, 4, 0x0, .ro, .ro⟩,
  ⟨0x612, 32, 4, 0x0, .ro, .ro⟩,
  ⟨0x613, 32, 4, 0x0, .ro, .ro⟩,
  ⟨0x614, 32, 4, 0x0, .ro, .ro⟩,
  ⟨0x615, 32, 4, 0x0, .ro, .ro⟩,
  ⟨0x616, 32, 4, 0x0, .ro, .ro⟩,
  ⟨0x617, 32, 4, 0x0, .ro, .ro⟩,
  ⟨0x618, 32, 4, 0x0, .ro, .ro⟩,
  ⟨0x619, 32, 4, 0x0, .ro, .ro⟩,
  ⟨0x61A, 32, 4, 0x0, .ro, .ro⟩,
  ⟨0x61B, 32, 4, 0x0, .ro, .ro⟩,
  ⟨0x61C, 32, 4, 0x0, .ro, .ro⟩,
  ⟨0x61D, 32, 4, 0x0, .ro, .ro⟩,
  ⟨0x61E, 32, 4, 0x0, .ro, .ro⟩,
  ⟨0x61F, 32, 4, 0x0, .ro, .ro⟩,
  ⟨0x680, 1, 1, 0x0, .ro, .ro⟩,
  ⟨0x681, 1, 1, 0x0, .ro, .ro⟩,
  ⟨0x682, 1, 1, 0x0, .ro, .ro⟩,
  ⟨0x683, 1, 1, 0x0, .ro, .ro⟩,
  ⟨0x684, 1, 1, 0x0, .ro, .ro⟩,
  ⟨0x685, 1, 1, 0x7D0, .imm, .flds false [⟨31, 0, 1, 1000000⟩]⟩,
  ⟨0x686, 1, 1, 0x0, .ro, .ro⟩,
  ⟨0x687, 1, 1, 0x0, .ro, .ro⟩]

/-- Parameters 0x06xx of R143, part 1. -/
def prms06_1 : List PrmRow := [
  ⟨0x688, 1, 1, 0x0, .ro, .ro⟩,
  ⟨0x689, 1, 1, 0x0, .ro, .ro⟩,
  ⟨0x68A, 1, 1, 0x0, .ro, .ro⟩,
  ⟨0x68B, 1, 1, 0x0, .ro, .ro⟩,
  ⟨0x68C, 1, 1, 0x0, .ro, .ro⟩,
  ⟨0x68D, 1, 1, 0x0, .ro, .ro⟩,
  ⟨0x68E, 1, 1, 0x0, .ro, .ro⟩,
  ⟨0x68F, 1, 1, 0x0, .ro, .ro⟩,
  ⟨0x690, 1, 32, 0x0, .imm, .flds false [⟨31, 31, 0, 1⟩, ⟨27, 24, 0, 15⟩, ⟨21, 16, 0, 63⟩, ⟨5, 0, 0, 63⟩]⟩,
  ⟨0x6B0, 1, 1, 0x3F, .ro, .ro⟩,
  ⟨0x6B1, 1, 63, 0x0, .imm, .flds false [⟨5, 0, 0, 63⟩]⟩]

/-- Parameters 0x06xx of R143. -/
def prms06 : List PrmRow := prms06_0 ++ prms06_1

/-- Parameters 0x07xx of R143, part 0. -/
def prms07_0 : List PrmRow := [
  ⟨0x700, 1, 64, 0x0, .ro, .ro⟩,
  ⟨0x740, 1, 64, 0x0, .ro, .ro⟩,
  ⟨0x780, 12, 4, 0x0, .commit, .flds false [⟨1, 0, 0, 2⟩, ⟨6, 4, 0, 7⟩, ⟨8, 8, 0, 1⟩, ⟨21, 16, 0, 63⟩]⟩,
  ⟨0x781, 12, 4, 0x1003C, .commit, .flds false [⟨31, 16, 1, 65535⟩, ⟨15, 0, 1, 65535⟩]⟩,
  ⟨0x782, 12, 4, 0x1003C, .commit, .flds false [⟨31, 16, 1, 65535⟩, ⟨15, 0, 1, 65535⟩]⟩,
  ⟨0x783, 12, 4, 0x0, .commit, .flds false [⟨31, 0, 0, 999999999⟩]⟩,
  ⟨0x784, 12, 4, 0x64, .commit, .flds false [⟨31, 0, 0, 10000⟩]⟩,
  ⟨0x785, 12, 4, 0x3E8, .commit, .flds false [⟨31, 0, 0, 100000⟩]⟩,
  ⟨0x786, 12, 4, 0x0, .ro, .ro⟩,
  ⟨0x787, 12, 4, 0x0, .ro, .ro⟩,
  ⟨0x788, 12, 4, 0x0, .ro, .ro⟩,
  ⟨0x789, 12, 4, 0x0, .ro, .ro⟩,
  ⟨0x78A, 12, 4, 0x0, .ro, .ro⟩,
  ⟨0x78B, 12, 4, 0x0, .ro, .ro⟩,
  ⟨0x7B0, 1, 1, 0x0, .ro, .ro⟩,
  ⟨0x7B1, 1, 1, 0x0, .ro, .ro⟩,
  ⟨0x7B2, 1, 1, 0x0, .ro, .ro⟩,
  ⟨0x7B3, 1, 1, 0x40, .imm, .flds false [⟨31, 0, 1, 100000⟩]⟩,
  ⟨0x7B4, 1, 1, 0x0, .ro, .ro⟩,
  ⟨0x7B5, 1, 1, 0x0, .ro, .ro⟩,
  ⟨0x7B6, 1, 1, 0x0, .ro, .ro⟩,
  ⟨0x7B7, 1, 1, 0x0, .ro, .ro⟩,
  ⟨0x7B8, 1, 1, 0x0, .ro, .ro⟩,
  ⟨0x7B9, 1, 1, 0x0, .ro, .ro⟩,
  ⟨0x7BA, 1, 1, 0x0, .ro, .ro⟩,
  ⟨0x7BB, 1, 1, 0x0, .ro, .ro⟩,
  ⟨0x7BC, 1, 1, 0x0, .commit, .fin16 [16, 0] []⟩,
  ⟨0x7BD, 1, 1, 0x0, .commit, .fin16 [0] []⟩,
  ⟨0x7BE, 1, 1, 0x0, .ro, .ro⟩,
  ⟨0x7BF, 1, 1, 0x0, .ro, .ro⟩,
  ⟨0x7C0, 1, 64, 0x0, .ro, .ro⟩]

/-- Parameters 0x07xx of R143. -/
def prms07 : List PrmRow := prms07_0

/-- Parameters 0x08xx of R143, part 0. -/
def prms08_0 : List PrmRow := [
  ⟨0x800, 1, 1, 0x2000, .later, .flds false [⟨31, 0, 0, 32768⟩]⟩,
  ⟨0x801, 1, 1, 0x7D0, .imm, .flds false [⟨31, 0, 100, 8000⟩]⟩,
  ⟨0x802, 1, 1, 0x0, .ro, .ro⟩,
  ⟨0x803, 1, 1, 0x0, .ro, .ro⟩,
  ⟨0x804, 1, 1, 0x0, .ro, .ro⟩,
  ⟨0x805, 1, 1, 0x0, .ro, .ro⟩,
  ⟨0x806, 1, 1, 0x0, .ro, .ro⟩,
  ⟨0x807, 1, 1, 0x0, .ro, .ro⟩,
  ⟨0x810, 12, 4, 0x1F, .commit, .flds false [⟨4, 0, 0, 31⟩]⟩,
  ⟨0x811, 12, 4, 0x3C00, .commit, .flds false [⟨15, 0, 0, 15360⟩]⟩,
  ⟨0x812, 12, 4, 0x1F4, .later, .flds false [⟨31, 0, 10, 10000⟩]⟩,
  ⟨0x813, 12, 4, 0x280, .later, .flds false [⟨31, 0, 0, 1600⟩]⟩,
  ⟨0x814, 12, 4, 0x0, .ro, .ro⟩,
  ⟨0x815, 12, 4, 0x0, .ro, .ro⟩,
  ⟨0x816, 12, 4, 0x0, .ro, .ro⟩,
  ⟨0x817, 12, 4, 0x0, .ro, .ro⟩,
  ⟨0x818, 12, 4, 0x0, .ro, .ro⟩,
  ⟨0x819, 12, 4, 0x0, .ro, .ro⟩,
  ⟨0x81A, 12, 4, 0x0, .ro, .ro⟩,
  ⟨0x81B, 12, 4, 0x0, .ro, .ro⟩,
  ⟨0x848, 8, 7, 0xFF, .later, .flds false [⟨31, 0, 1, 255⟩]⟩,
  ⟨0x849, 8, 7, 0x1, .later, .flds false [⟨31, 0, 1, 255⟩]⟩,
  ⟨0x84A, 8, 7, 0x8, .later, .flds false [⟨31, 0, 0, 255⟩]⟩,
  ⟨0x84B, 8, 7, 0x0, .ro, .ro⟩,
  ⟨0x84C, 8, 7, 0x0, .ro, .ro⟩,
  ⟨0x84D, 8, 7, 0x0, .ro, .ro⟩,
  ⟨0x84E, 8, 7, 0x0, .ro, .ro⟩,
  ⟨0x84F, 8, 7, 0x4000, .ro, .ro⟩,
  ⟨0x880, 1, 64, 0x0, .ro, .ro⟩,
  ⟨0x8C0, 1, 64, 0x0, .ro, .ro⟩]

/-- Parameters 0x08xx of R143. -/
def prms08 : List PrmRow := prms08_0

/-- Parameters 0x09xx of R143, part 0. -/
def prms09_0 : List PrmRow := [
  ⟨0x900, 1, 1, 0xE, .commit, .flds false [⟨3, 0, 0, 15⟩]⟩,
  ⟨0x901, 1, 1, 0x22, .commit, .flds false [⟨1, 0, 0, 3⟩, ⟨5, 4, 0, 3⟩]⟩,
  ⟨0x902, 1, 1, 0x0, .commit, .flds false [⟨31, 0, 0, 3⟩]⟩,
  ⟨0x903, 1, 1, 0xFF, .commit, .flds false [⟨31, 0, 1, 255⟩]⟩,
  ⟨0x904, 1, 1, 0xF, .commit, .flds false [⟨31, 0, 1, 25⟩]⟩,
  ⟨0x905, 1, 1, 0x320, .commit, .flds false [⟨31, 0, 1, 65535⟩]⟩,
  ⟨0x906, 1, 1, 0x8000, .commit, .flds false [⟨31, 0, 1, 65536⟩]⟩,
  ⟨0x907, 1, 1, 0xA4, .commit, .flds false [⟨31, 0, 1, 164⟩]⟩,
  ⟨0x908, 1, 1, 0x1EB8, .commit, .flds false [⟨31, 0, 1, 7864⟩]⟩,
  ⟨0x909, 1, 1, 0x21, .commit, .flds false [⟨31, 0, 0, 164⟩]⟩,
  ⟨0x90A, 1, 1, 0x40, .commit, .flds false [⟨31, 0, 2, 128⟩]⟩,
  ⟨0x90B, 1, 1, 0x400, .commit, .flds false [⟨31, 0, 0, 65535⟩]⟩,
  ⟨0x90C, 1, 1, 0x2000, .commit, .flds false [⟨31, 0, 0, 65535⟩]⟩,
  ⟨0x90D, 1, 1, 0x80, .commit, .flds false [⟨31, 0, 0, 256⟩]⟩,
  ⟨0x90E, 1, 1, 0x40, .commit, .flds false [⟨31, 0, 0, 65535⟩]⟩,
  ⟨0x90F, 1, 1, 0x8000, .commit, .flds false [⟨31, 0, 0, 65536⟩]⟩,
  ⟨0x910, 1, 1, 0x1, .imm, .flds false [⟨31, 0, 1, 3600⟩]⟩,
  ⟨0x911, 1, 1, 0x10, .later, .flds false [⟨31, 0, 4, 64⟩]⟩,
  ⟨0x912, 1, 1, 0x0, .ro, .ro⟩,
  ⟨0x913, 1, 1, 0x0, .ro, .ro⟩,
  ⟨0x914, 1, 1, 0x0, .ro, .ro⟩,
  ⟨0x915, 1, 1, 0x0, .ro, .ro⟩,
  ⟨0x916, 1, 1, 0x0, .ro, .ro⟩,
  ⟨0x917, 1, 1, 0x0, .ro, .ro⟩,
  ⟨0x918, 2, 8, 0x0, .ro, .ro⟩,
  ⟨0x919, 2, 8, 0x0, .ro, .ro⟩,
  ⟨0x928, 1, 1, 0x0, .ro, .ro⟩,
  ⟨0x929, 1, 1, 0x0, .ro, .ro⟩,
  ⟨0x92A, 1, 1, 0x0, .ro, .ro⟩,
  ⟨0x92B, 1, 1, 0x0, .ro, .ro⟩,
  ⟨0x92C, 1, 1, 0x0, .ro, .ro⟩,
  ⟨0x92D, 1, 1, 0x0, .ro, .ro⟩,
  ⟨0x92E, 1, 1, 0x0, .ro, .ro⟩,
  ⟨0x92F, 1, 1, 0x0, .ro, .ro⟩,
  ⟨0x930, 1, 1, 0x0, .ro, .ro⟩,
  ⟨0x931, 1, 1, 0x0, .ro, .ro⟩,
  ⟨0x932, 1, 1, 0x0, .ro, .ro⟩,
  ⟨0x933, 1, 1, 0x0, .ro, .ro⟩,
  ⟨0x934, 1, 1, 0x0, .ro, .ro⟩,
  ⟨0x935, 1, 1, 0x0, .ro, .ro⟩]

/-- Parameters 0x09xx of R143, part 1. -/
def prms09_1 : List PrmRow := [
  ⟨0x936, 1, 1, 0x0, .ro, .ro⟩,
  ⟨0x937, 1, 1, 0x0, .ro, .ro⟩,
  ⟨0x948, 8, 7, 0x18, .commit, .flds false [⟨31, 0, 1, 256⟩]⟩,
  ⟨0x949, 8, 7, 0x10001000, .commit, .flds false [⟨31, 0, 0, 4294967295⟩]⟩,
  ⟨0x94A, 8, 7, 0x10001000, .commit, .flds false [⟨31, 0, 0, 4294967295⟩]⟩,
  ⟨0x94B, 8, 7, 0x0, .ro, .ro⟩,
  ⟨0x94C, 8, 7, 0x0, .ro, .ro⟩,
  ⟨0x94D, 8, 7, 0x0, .ro, .ro⟩,
  ⟨0x94E, 8, 7, 0x0, .ro, .ro⟩,
  ⟨0x94F, 8, 7, 0x0, .ro, .ro⟩,
  ⟨0x980, 32, 2, 0x0, .commit, .flds true [⟨31, 31, 0, 1⟩, ⟨2, 0, 0, 7⟩]⟩,
  ⟨0x981, 32, 2, 0xFA0, .commit, .flds false [⟨31, 0, 10, 1000000⟩]⟩,
  ⟨0x982, 32, 2, 0x0, .commit, .signed (-10000000) (10000000)⟩,
  ⟨0x983, 32, 2, 0x0, .commit, .flds false [⟨31, 0, 0, 1000000⟩]⟩,
  ⟨0x984, 32, 2, 0x0, .ro, .ro⟩,
  ⟨0x985, 32, 2, 0x0, .ro, .ro⟩,
  ⟨0x986, 32, 2, 0x0, .ro, .ro⟩,
  ⟨0x987, 32, 2, 0x0, .ro, .ro⟩,
  ⟨0x988, 32, 2, 0x0, .ro, .ro⟩,
  ⟨0x989, 32, 2, 0x0, .ro, .ro⟩,
  ⟨0x98A, 32, 2, 0x0, .ro, .ro⟩,
  ⟨0x98B, 32, 2, 0x0, .ro, .ro⟩,
  ⟨0x98C, 32, 2, 0x0, .ro, .ro⟩,
  ⟨0x98D, 32, 2, 0x0, .ro, .ro⟩,
  ⟨0x98E, 32, 2, 0x0, .ro, .ro⟩,
  ⟨0x98F, 32, 2, 0x0, .ro, .ro⟩,
  ⟨0x990, 32, 2, 0x0, .ro, .ro⟩,
  ⟨0x991, 32, 2, 0x0, .ro, .ro⟩,
  ⟨0x992, 32, 2, 0x0, .ro, .ro⟩,
  ⟨0x993, 32, 2, 0x0, .ro, .ro⟩,
  ⟨0x994, 32, 2, 0x0, .ro, .ro⟩,
  ⟨0x995, 32, 2, 0x0, .ro, .ro⟩,
  ⟨0x996, 32, 2, 0x0, .ro, .ro⟩,
  ⟨0x997, 32, 2, 0x0, .ro, .ro⟩,
  ⟨0x998, 32, 2, 0x0, .ro, .ro⟩,
  ⟨0x999, 32, 2, 0x0, .ro, .ro⟩,
  ⟨0x99A, 32, 2, 0x0, .ro, .ro⟩,
  ⟨0x99B, 32, 2, 0x0, .ro, .ro⟩,
  ⟨0x99C, 32, 2, 0x0, .ro, .ro⟩,
  ⟨0x99D, 32, 2, 0x0, .ro, .ro⟩]

/-- Parameters 0x09xx of R143, part 2. -/
def prms09_2 : List PrmRow := [
  ⟨0x99E, 32, 2, 0x0, .ro, .ro⟩,
  ⟨0x99F, 32, 2, 0x0, .ro, .ro⟩,
  ⟨0x9C0, 1, 64, 0x0, .commit, .flds true [⟨31, 31, 0, 1⟩]⟩]

/-- Parameters 0x09xx of R143. -/
def prms09 : List PrmRow := prms09_0 ++ prms09_1 ++ prms09_2

/-- Parameters 0x0Axx of R143, part 0. -/
def prms0A_0 : List PrmRow := [
  ⟨0xA00, 8, 32, 0x0, .later, .flds true [⟨31, 31, 0, 1⟩, ⟨1, 0, 0, 2⟩]⟩,
  ⟨0xA01, 8, 32, 0x0, .later, .fin16 [16, 0] []⟩,
  ⟨0xA02, 8, 32, 0x0, .later, .fin16 [0] [⟨31, 16, 0, 65535⟩]⟩,
  ⟨0xA03, 8, 32, 0x3D0900, .later, .flds false [⟨31, 0, 1000, 600000000⟩]⟩,
  ⟨0xA04, 8, 32, 0x0, .later, .flds false [⟨31, 0, 0, 599999999⟩]⟩,
  ⟨0xA05, 8, 32, 0x1000000, .later, .flds false [⟨31, 16, 1, 65535⟩, ⟨1, 0, 0, 3⟩]⟩,
  ⟨0xA06, 8, 32, 0x3E8, .later, .flds false [⟨31, 0, 0, 1000000⟩]⟩,
  ⟨0xA07, 8, 32, 0x0, .ro, .ro⟩]

/-- Parameters 0x0Axx of R143. -/
def prms0A : List PrmRow := prms0A_0

/-- Parameters 0x0Bxx of R143, part 0. -/
def prms0B_0 : List PrmRow := [
  ⟨0xB00, 1, 64, 0x0, .commit, .flds true [⟨31, 31, 0, 1⟩, ⟨30, 30, 0, 1⟩, ⟨29, 29, 0, 1⟩, ⟨24, 24, 0, 1⟩, ⟨20, 20, 0, 1⟩, ⟨13, 8, 0, 63⟩, ⟨7, 0, 64, 159⟩]⟩,
  ⟨0xB40, 1, 64, 0x0, .ro, .ro⟩,
  ⟨0xB80, 1, 64, 0x0, .ro, .ro⟩,
  ⟨0xBC0, 1, 16, 0x1004, .commit, .flds true [⟨31, 31, 0, 1⟩, ⟨30, 30, 0, 1⟩, ⟨15, 8, 4, 64⟩, ⟨7, 0, 4, 255⟩]⟩,
  ⟨0xBD0, 1, 16, 0x20401, .commit, .flds false [⟨31, 24, 0, 255⟩, ⟨23, 16, 1, 255⟩, ⟨15, 8, 1, 16⟩, ⟨7, 0, 1, 16⟩]⟩,
  ⟨0xBE0, 1, 1, 0xC8, .imm, .flds false [⟨31, 0, 10, 10000⟩]⟩,
  ⟨0xBE1, 1, 1, 0xA, .commit, .flds false [⟨31, 0, 1, 1000⟩]⟩,
  ⟨0xBE2, 1, 1, 0x3E8, .imm, .flds false [⟨31, 0, 100, 60000⟩]⟩,
  ⟨0xBE3, 1, 1, 0x550, .imm, .flds false [⟨31, 0, 0, 2000⟩]⟩,
  ⟨0xBE4, 1, 1, 0x2, .imm, .flds false [⟨31, 0, 1, 100⟩]⟩,
  ⟨0xBE5, 1, 1, 0x0, .ro, .ro⟩,
  ⟨0xBE6, 1, 1, 0x0, .ro, .ro⟩,
  ⟨0xBE7, 1, 1, 0x0, .ro, .ro⟩,
  ⟨0xBE8, 1, 1, 0x0, .ro, .ro⟩,
  ⟨0xBE9, 1, 1, 0x0, .ro, .ro⟩,
  ⟨0xBEA, 1, 1, 0x0, .ro, .ro⟩,
  ⟨0xBEB, 1, 1, 0x0, .ro, .ro⟩,
  ⟨0xBEC, 1, 1, 0x0, .ro, .ro⟩,
  ⟨0xBED, 1, 1, 0x0, .ro, .ro⟩,
  ⟨0xBEE, 1, 1, 0x0, .ro, .ro⟩,
  ⟨0xBEF, 1, 1, 0x0, .ro, .ro⟩,
  ⟨0xBF0, 1, 16, 0x0, .ro, .ro⟩]

/-- Parameters 0x0Bxx of R143. -/
def prms0B : List PrmRow := prms0B_0

/-- Parameters 0x0Cxx of R143, part 0. -/
def prms0C_0 : List PrmRow := [
  ⟨0xC00, 1, 1, 0x1, .commit, .flds false [⟨1, 0, 0, 3⟩, ⟨4, 4, 0, 1⟩]⟩,
  ⟨0xC01, 1, 1, 0x0, .commit, .flds false [⟨3, 0, 0, 15⟩, ⟨8, 8, 0, 1⟩]⟩,
  ⟨0xC02, 1, 1, 0x7F, .commit, .flds false [⟨31, 0, 0, 127⟩]⟩,
  ⟨0xC03, 1, 1, 0x8080, .commit, .flds false [⟨31, 0, 0, 65535⟩]⟩,
  ⟨0xC04, 1, 1, 0xF8, .commit, .flds false [⟨31, 0, 6, 255⟩]⟩,
  ⟨0xC05, 1, 1, 0xFEFDFD, .commit, .flds false [⟨23, 0, 0, 16777215⟩]⟩,
  ⟨0xC06, 1, 1, 0x3, .imm, .flds false [⟨31, 0, 2, 10⟩]⟩,
  ⟨0xC07, 1, 1, 0x64, .imm, .flds false [⟨31, 0, 10, 100000⟩]⟩,
  ⟨0xC08, 1, 1, 0x4, .imm, .flds false [⟨31, 0, 1, 60⟩]⟩,
  ⟨0xC09, 1, 1, 0x3E8, .imm, .flds false [⟨31, 0, 100, 10000000⟩]⟩,
  ⟨0xC0A, 1, 1, 0x64, .imm, .flds false [⟨31, 0, 1, 1000⟩]⟩,
  ⟨0xC0B, 1, 1, 0x3C, .imm, .flds false [⟨31, 0, 1, 3600⟩]⟩,
  ⟨0xC0C, 1, 1, 0x25, .imm, .flds false [⟨31, 0, 0, 4294967295⟩]⟩,
  ⟨0xC0D, 1, 1, 0xA, .imm, .flds false [⟨31, 0, 2, 1000⟩]⟩,
  ⟨0xC0E, 1, 1, 0x0, .ro, .ro⟩,
  ⟨0xC0F, 1, 1, 0x0, .ro, .ro⟩,
  ⟨0xC10, 1, 1, 0x0, .ro, .ro⟩,
  ⟨0xC11, 1, 1, 0x0, .ro, .ro⟩,
  ⟨0xC12, 1, 1, 0x0, .ro, .ro⟩,
  ⟨0xC13, 1, 1, 0x0, .ro, .ro⟩,
  ⟨0xC14, 1, 1, 0x0, .ro, .ro⟩,
  ⟨0xC15, 1, 1, 0x0, .ro, .ro⟩,
  ⟨0xC16, 1, 1, 0x0, .ro, .ro⟩,
  ⟨0xC17, 1, 1, 0x0, .ro, .ro⟩,
  ⟨0xC20, 16, 4, 0x1, .commit, .flds false [⟨2, 0, 0, 7⟩]⟩,
  ⟨0xC21, 16, 4, 0x0, .imm, .signed (-1000000) (1000000)⟩,
  ⟨0xC22, 16, 4, 0x0, .ro, .ro⟩,
  ⟨0xC23, 16, 4, 0x0, .ro, .ro⟩,
  ⟨0xC24, 16, 4, 0x0, .ro, .ro⟩,
  ⟨0xC25, 16, 4, 0x0, .ro, .ro⟩,
  ⟨0xC26, 16, 4, 0x0, .ro, .ro⟩,
  ⟨0xC27, 16, 4, 0x0, .ro, .ro⟩,
  ⟨0xC28, 16, 4, 0x0, .ro, .ro⟩,
  ⟨0xC29, 16, 4, 0x0, .ro, .ro⟩,
  ⟨0xC2A, 16, 4, 0x0, .ro, .ro⟩,
  ⟨0xC2B, 16, 4, 0x0, .ro, .ro⟩,
  ⟨0xC2C, 16, 4, 0x0, .ro, .ro⟩,
  ⟨0xC2D, 16, 4, 0x0, .ro, .ro⟩,
  ⟨0xC2E, 16, 4, 0x0, .ro, .ro⟩,
  ⟨0xC2F, 16, 4, 0x0, .ro, .ro⟩]

/-- Parameters 0x0Cxx of R143, part 1. -/
def prms0C_1 : List PrmRow := [
  ⟨0xC60, 4, 16, 0x1, .commit, .flds true [⟨31, 31, 0, 1⟩, ⟨29, 28, 0, 3⟩, ⟨27, 27, 0, 1⟩, ⟨26, 24, 0, 7⟩, ⟨7, 0, 1, 255⟩]⟩,
  ⟨0xC61, 4, 16, 0x0, .commit, .signed (-1000000000) (1000000000)⟩,
  ⟨0xC62, 4, 16, 0x0, .ro, .ro⟩,
  ⟨0xC63, 4, 16, 0x0, .ro, .ro⟩,
  ⟨0xCA0, 16, 4, 0x0, .commit, .flds true [⟨31, 31, 0, 1⟩]⟩,
  ⟨0xCA1, 16, 4, 0x0, .commit, .flds false [⟨31, 0, 0, 999999999⟩]⟩,
  ⟨0xCA2, 16, 4, 0x0, .commit, .flds false [⟨31, 0, 0, 999999999⟩]⟩,
  ⟨0xCA3, 16, 4, 0x0, .commit, .flds false [⟨31, 0, 0, 999999999⟩]⟩,
  ⟨0xCA4, 16, 4, 0x0, .commit, .flds false [⟨31, 0, 0, 999999999⟩]⟩,
  ⟨0xCA5, 16, 4, 0x0, .commit, .flds false [⟨31, 0, 0, 999999999⟩]⟩,
  ⟨0xCA6, 16, 4, 0x0, .commit, .flds false [⟨31, 0, 0, 999999999⟩]⟩,
  ⟨0xCA7, 16, 4, 0x0, .commit, .flds false [⟨31, 0, 0, 999999999⟩]⟩,
  ⟨0xCA8, 16, 4, 0x0, .commit, .flds true [⟨31, 31, 0, 1⟩, ⟨26, 24, 0, 7⟩, ⟨19, 0, 0, 1000000⟩]⟩,
  ⟨0xCA9, 16, 4, 0x0, .commit, .flds true [⟨31, 31, 0, 1⟩, ⟨26, 24, 0, 7⟩, ⟨19, 0, 0, 1000000⟩]⟩,
  ⟨0xCAA, 16, 4, 0x0, .commit, .flds true [⟨31, 31, 0, 1⟩, ⟨26, 24, 0, 7⟩, ⟨19, 0, 0, 1000000⟩]⟩,
  ⟨0xCAB, 16, 4, 0x0, .commit, .flds true [⟨31, 31, 0, 1⟩, ⟨26, 24, 0, 7⟩, ⟨19, 0, 0, 1000000⟩]⟩,
  ⟨0xCAC, 16, 4, 0xF4240, .commit, .flds false [⟨31, 0, 1, 999999999⟩]⟩,
  ⟨0xCAD, 16, 4, 0xF4240, .commit, .flds false [⟨31, 0, 1, 999999999⟩]⟩,
  ⟨0xCAE, 16, 4, 0xF4240, .commit, .flds false [⟨31, 0, 1, 999999999⟩]⟩,
  ⟨0xCAF, 16, 4, 0xF4240, .commit, .flds false [⟨31, 0, 1, 999999999⟩]⟩,
  ⟨0xCE0, 4, 8, 0x0, .imm, .flds false [⟨2, 0, 0, 7⟩]⟩,
  ⟨0xCE1, 4, 8, 0x0, .ro, .ro⟩,
  ⟨0xCE2, 4, 8, 0x0, .ro, .ro⟩,
  ⟨0xCE3, 4, 8, 0x0, .ro, .ro⟩]

/-- Parameters 0x0Cxx of R143. -/
def prms0C : List PrmRow := prms0C_0 ++ prms0C_1

/-- Parameters 0x0Dxx of R143, part 0. -/
def prms0D_0 : List PrmRow := [
  ⟨0xD00, 32, 8, 0x20000002, .commit, .flds true [⟨31, 31, 0, 1⟩, ⟨30, 30, 0, 1⟩, ⟨29, 29, 0, 1⟩, ⟨26, 24, 0, 7⟩, ⟨3, 0, 0, 6⟩]⟩,
  ⟨0xD01, 32, 8, 0x0, .commit, .flds false [⟨1, 0, 0, 2⟩, ⟨27, 16, 0, 4095⟩, ⟨13, 8, 0, 62⟩]⟩,
  ⟨0xD02, 32, 8, 0x0, .commit, .flds false [⟨31, 0, 0, 4294967295⟩]⟩,
  ⟨0xD03, 32, 8, 0x0, .commit, .flds false [⟨31, 0, 0, 4294967295⟩]⟩,
  ⟨0xD04, 32, 8, 0x10000, .commit, .flds false [⟨31, 0, 1024, 1048576⟩]⟩,
  ⟨0xD05, 32, 8, 0x1, .commit, .flds false [⟨31, 0, 0, 1⟩]⟩,
  ⟨0xD06, 32, 8, 0x40004000, .imm, .flds false [⟨31, 0, 0, 4294967295⟩]⟩,
  ⟨0xD07, 32, 8, 0x0, .imm, .flds false [⟨1, 0, 0, 3⟩]⟩,
  ⟨0xD08, 32, 8, 0x0, .commit, .flds false [⟨31, 31, 0, 1⟩, ⟨29, 28, 0, 3⟩, ⟨19, 0, 0, 1000000⟩]⟩,
  ⟨0xD09, 32, 8, 0x0, .commit, .signed (-100000) (100000)⟩,
  ⟨0xD0A, 32, 8, 0x3E8, .imm, .flds false [⟨31, 0, 50, 125000⟩]⟩,
  ⟨0xD0B, 32, 8, 0x64, .imm, .flds false [⟨31, 0, 1, 1000⟩]⟩,
  ⟨0xD0C, 32, 8, 0x0, .ro, .ro⟩,
  ⟨0xD0D, 32, 8, 0x0, .ro, .ro⟩,
  ⟨0xD0E, 32, 8, 0x0, .ro, .ro⟩,
  ⟨0xD0F, 32, 8, 0x0, .ro, .ro⟩,
  ⟨0xD10, 32, 8, 0x0, .ro, .ro⟩,
  ⟨0xD11, 32, 8, 0x0, .ro, .ro⟩,
  ⟨0xD12, 32, 8, 0x0, .ro, .ro⟩,
  ⟨0xD13, 32, 8, 0x0, .ro, .ro⟩,
  ⟨0xD14, 32, 8, 0x0, .ro, .ro⟩,
  ⟨0xD15, 32, 8, 0x0, .ro, .ro⟩,
  ⟨0xD16, 32, 8, 0x0, .ro, .ro⟩,
  ⟨0xD17, 32, 8, 0x0, .ro, .ro⟩,
  ⟨0xD18, 32, 8, 0x0, .ro, .ro⟩,
  ⟨0xD19, 32, 8, 0x0, .ro, .ro⟩,
  ⟨0xD1A, 32, 8, 0x0, .ro, .ro⟩,
  ⟨0xD1B, 32, 8, 0x0, .ro, .ro⟩,
  ⟨0xD1C, 32, 8, 0x0, .ro, .ro⟩,
  ⟨0xD1D, 32, 8, 0x0, .ro, .ro⟩,
  ⟨0xD1E, 1, 1, 0x0, .commit, .flds false [⟨31, 0, 0, 1⟩]⟩,
  ⟨0xD1F, 1, 1, 0x1, .commit, .flds false [⟨31, 0, 0, 1⟩]⟩,
  ⟨0xD3E, 1, 1, 0x10, .imm, .flds false [⟨31, 0, 0, 65535⟩]⟩,
  ⟨0xD3F, 1, 1, 0x0, .ro, .ro⟩,
  ⟨0xD5E, 1, 1, 0x0, .ro, .ro⟩,
  ⟨0xD5F, 1, 1, 0x0, .ro, .ro⟩,
  ⟨0xD7E, 1, 1, 0x0, .ro, .ro⟩,
  ⟨0xD7F, 1, 1, 0x0, .ro, .ro⟩]

/-- Parameters 0x0Dxx of R143. -/
def prms0D : List PrmRow := prms0D_0

/-- Parameters 0x0Exx of R143, part 0. -/
def prms0E_0 : List PrmRow := [
  ⟨0xE00, 1, 1, 0x80000002, .boot, .flds true [⟨31, 31, 0, 1⟩, ⟨1, 0, 0, 3⟩]⟩,
  ⟨0xE01, 1, 1, 0x64, .imm, .flds false [⟨31, 0, 1, 600000⟩]⟩,
  ⟨0xE02, 1, 1, 0x2710, .imm, .flds false [⟨31, 0, 0, 3600000⟩]⟩,
  ⟨0xE03, 1, 1, 0x3E8, .imm, .flds false [⟨31, 0, 10, 100000⟩]⟩,
  ⟨0xE04, 1, 1, 0x1, .imm, .flds false [⟨31, 0, 0, 1⟩]⟩,
  ⟨0xE05, 1, 1, 0x4, .imm, .flds false [⟨31, 0, 1, 16⟩]⟩,
  ⟨0xE06, 1, 1, 0x0, .ro, .ro⟩,
  ⟨0xE07, 1, 1, 0x0, .ro, .ro⟩,
  ⟨0xE08, 1, 1, 0x0, .ro, .ro⟩,
  ⟨0xE09, 1, 1, 0x0, .ro, .ro⟩,
  ⟨0xE0A, 1, 1, 0x0, .ro, .ro⟩,
  ⟨0xE0B, 1, 1, 0x0, .ro, .ro⟩,
  ⟨0xE0C, 1, 1, 0x0, .ro, .ro⟩,
  ⟨0xE0D, 1, 1, 0x0, .ro, .ro⟩,
  ⟨0xE0E, 1, 1, 0x0, .ro, .ro⟩,
  ⟨0xE0F, 1, 1, 0x0, .ro, .ro⟩,
  ⟨0xE10, 1, 1, 0x0, .ro, .ro⟩,
  ⟨0xE11, 1, 1, 0x0, .ro, .ro⟩,
  ⟨0xE12, 1, 1, 0x0, .ro, .ro⟩,
  ⟨0xE13, 1, 1, 0x0, .ro, .ro⟩,
  ⟨0xE14, 1, 1, 0x0, .ro, .ro⟩,
  ⟨0xE15, 1, 1, 0x0, .ro, .ro⟩,
  ⟨0xE16, 1, 1, 0x0, .ro, .ro⟩,
  ⟨0xE17, 1, 1, 0x0, .ro, .ro⟩,
  ⟨0xE18, 1, 1, 0x0, .ro, .ro⟩,
  ⟨0xE19, 1, 1, 0x0, .ro, .ro⟩,
  ⟨0xE1A, 1, 1, 0x0, .ro, .ro⟩,
  ⟨0xE1B, 1, 1, 0x0, .ro, .ro⟩,
  ⟨0xE1C, 1, 1, 0x0, .ro, .ro⟩,
  ⟨0xE1D, 1, 1, 0x0, .ro, .ro⟩,
  ⟨0xE1E, 1, 1, 0x0, .imm, .flds false [⟨31, 0, 0, 200000⟩]⟩,
  ⟨0xE1F, 1, 1, 0x0, .imm, .flds false [⟨31, 0, 0, 200000⟩]⟩,
  ⟨0xE20, 16, 8, 0x0, .ro, .ro⟩,
  ⟨0xE21, 16, 8, 0x0, .ro, .ro⟩,
  ⟨0xE22, 16, 8, 0x0, .ro, .ro⟩,
  ⟨0xE23, 16, 8, 0x0, .ro, .ro⟩,
  ⟨0xE24, 16, 8, 0x0, .ro, .ro⟩,
  ⟨0xE25, 16, 8, 0x0, .ro, .ro⟩,
  ⟨0xE26, 16, 8, 0x0, .ro, .ro⟩,
  ⟨0xE27, 16, 8, 0x0, .ro, .ro⟩]

/-- Parameters 0x0Exx of R143, part 1. -/
def prms0E_1 : List PrmRow := [
  ⟨0xE28, 16, 8, 0x0, .ro, .ro⟩,
  ⟨0xE29, 16, 8, 0x0, .ro, .ro⟩,
  ⟨0xE2A, 16, 8, 0x0, .ro, .ro⟩,
  ⟨0xE2B, 16, 8, 0x1388, .imm, .flds false [⟨31, 0, 100, 60000⟩]⟩,
  ⟨0xE2C, 16, 8, 0x0, .ro, .ro⟩,
  ⟨0xE2D, 16, 8, 0x0, .ro, .ro⟩,
  ⟨0xE2E, 16, 8, 0x0, .ro, .ro⟩,
  ⟨0xE2F, 16, 8, 0x0, .ro, .ro⟩,
  ⟨0xEA0, 16, 4, 0x0, .ro, .ro⟩,
  ⟨0xEA1, 16, 4, 0x0, .ro, .ro⟩,
  ⟨0xEA2, 16, 4, 0x0, .ro, .ro⟩,
  ⟨0xEA3, 16, 4, 0x0, .ro, .ro⟩,
  ⟨0xEA4, 16, 4, 0x0, .ro, .ro⟩,
  ⟨0xEA5, 16, 4, 0x0, .ro, .ro⟩,
  ⟨0xEA6, 16, 4, 0x0, .ro, .ro⟩,
  ⟨0xEA7, 16, 4, 0x0, .ro, .ro⟩,
  ⟨0xEA8, 16, 4, 0x0, .ro, .ro⟩,
  ⟨0xEA9, 16, 4, 0x100, .later, .flds false [⟨31, 0, 16, 4096⟩]⟩,
  ⟨0xEAA, 16, 4, 0x0, .later, .flds true [⟨31, 31, 0, 1⟩, ⟨2, 0, 0, 7⟩]⟩,
  ⟨0xEAB, 16, 4, 0x3E8, .later, .flds false [⟨31, 0, 1, 200000⟩]⟩,
  ⟨0xEAC, 16, 4, 0x0, .ro, .ro⟩,
  ⟨0xEAD, 16, 4, 0x0, .ro, .ro⟩,
  ⟨0xEAE, 16, 4, 0x0, .ro, .ro⟩,
  ⟨0xEAF, 16, 4, 0x0, .ro, .ro⟩,
  ⟨0xEE0, 1, 16, 0x0, .ro, .ro⟩]

/-- Parameters 0x0Exx of R143. -/
def prms0E : List PrmRow := prms0E_0 ++ prms0E_1

/-- Parameters 0x0Fxx of R143, part 0. -/
def prms0F_0 : List PrmRow := [
  ⟨0xF00, 2, 11, 0x0, .boot, .flds false [⟨31, 0, 0, 4294967295⟩]⟩,
  ⟨0xF01, 2, 11, 0x0, .boot, .flds false [⟨31, 0, 0, 4294967295⟩]⟩,
  ⟨0xF16, 1, 1, 0x0, .ro, .ro⟩,
  ⟨0xF17, 1, 1, 0x0, .ro, .ro⟩,
  ⟨0xF18, 1, 1, 0x0, .ro, .ro⟩,
  ⟨0xF19, 1, 1, 0x0, .ro, .ro⟩,
  ⟨0xF1A, 1, 1, 0xE10, .later, .flds false [⟨31, 0, 600, 86400⟩]⟩,
  ⟨0xF1B, 1, 1, 0x64, .imm, .flds false [⟨31, 0, 1, 1000000⟩]⟩,
  ⟨0xF1C, 1, 1, 0xC8, .imm, .flds false [⟨31, 0, 50, 100000⟩]⟩,
  ⟨0xF1D, 1, 1, 0x0, .imm, .flds false [⟨31, 0, 0, 1000000⟩]⟩,
  ⟨0xF1E, 1, 1, 0x0, .ro, .ro⟩,
  ⟨0xF1F, 1, 1, 0x0, .ro, .ro⟩,
  ⟨0xF20, 1, 1, 0xC0000BB8, .commit, .flds false [⟨31, 30, 0, 3⟩, ⟨23, 0, 100, 16000000⟩]⟩,
  ⟨0xF21, 1, 1, 0xC00005DC, .commit, .flds false [⟨31, 30, 0, 3⟩, ⟨23, 0, 100, 16000000⟩]⟩,
  ⟨0xF22, 1, 1, 0xC0002710, .commit, .flds false [⟨31, 30, 0, 3⟩, ⟨23, 0, 100, 16000000⟩]⟩,
  ⟨0xF23, 1, 1, 0xC0002710, .commit, .flds false [⟨31, 30, 0, 3⟩, ⟨23, 0, 100, 16000000⟩]⟩,
  ⟨0xF24, 1, 1, 0xC0002710, .commit, .flds false [⟨31, 30, 0, 3⟩, ⟨23, 0, 100, 16000000⟩]⟩,
  ⟨0xF25, 1, 1, 0xC00003E8, .commit, .flds false [⟨31, 30, 0, 3⟩, ⟨23, 0, 100, 16000000⟩]⟩,
  ⟨0xF26, 1, 1, 0xC00003E8, .commit, .flds false [⟨31, 30, 0, 3⟩, ⟨23, 0, 100, 16000000⟩]⟩,
  ⟨0xF27, 1, 1, 0xC0002710, .commit, .flds false [⟨31, 30, 0, 3⟩, ⟨23, 0, 100, 16000000⟩]⟩,
  ⟨0xF28, 1, 1, 0xC0002710, .commit, .flds false [⟨31, 30, 0, 3⟩, ⟨23, 0, 100, 16000000⟩]⟩,
  ⟨0xF29, 1, 1, 0xC0002710, .commit, .flds false [⟨31, 30, 0, 3⟩, ⟨23, 0, 100, 16000000⟩]⟩,
  ⟨0xF2A, 1, 1, 0xF42400, .commit, .flds false [⟨23, 0, 100, 16000000⟩]⟩,
  ⟨0xF2B, 1, 1, 0xC0002710, .commit, .flds false [⟨31, 30, 0, 3⟩, ⟨23, 0, 100, 16000000⟩]⟩,
  ⟨0xF2C, 1, 1, 0xC0002710, .commit, .flds false [⟨31, 30, 0, 3⟩, ⟨23, 0, 100, 16000000⟩]⟩,
  ⟨0xF2D, 1, 1, 0xC0002710, .commit, .flds false [⟨31, 30, 0, 3⟩, ⟨23, 0, 100, 16000000⟩]⟩,
  ⟨0xF2E, 1, 1, 0xF42400, .commit, .flds false [⟨23, 0, 100, 16000000⟩]⟩,
  ⟨0xF2F, 1, 1, 0xC0002710, .commit, .flds false [⟨31, 30, 0, 3⟩, ⟨23, 0, 100, 16000000⟩]⟩,
  ⟨0xF30, 1, 1, 0x0, .ro, .ro⟩,
  ⟨0xF31, 1, 1, 0x0, .ro, .ro⟩,
  ⟨0xF32, 1, 1, 0x0, .ro, .ro⟩,
  ⟨0xF33, 1, 1, 0x0, .ro, .ro⟩,
  ⟨0xF34, 1, 1, 0x0, .ro, .ro⟩,
  ⟨0xF35, 1, 1, 0x0, .ro, .ro⟩,
  ⟨0xF36, 1, 1, 0x0, .ro, .ro⟩,
  ⟨0xF37, 1, 1, 0x0, .ro, .ro⟩,
  ⟨0xF40, 1, 16, 0x0, .ro, .ro⟩,
  ⟨0xF50, 1, 16, 0x0, .ro, .ro⟩,
  ⟨0xF70, 1, 16, 0x0, .ro, .ro⟩,
  ⟨0xF80, 1, 16, 0x0, .ro, .ro⟩]

/-- Parameters 0x0Fxx of R143, part 1. -/
def prms0F_1 : List PrmRow := [
  ⟨0xFA0, 1, 16, 0x0, .ro, .ro⟩,
  ⟨0xFB0, 1, 16, 0x0, .ro, .ro⟩,
  ⟨0xFD0, 1, 16, 0x0, .ro, .ro⟩,
  ⟨0xFE0, 1, 16, 0x0, .ro, .ro⟩,
  ⟨0xF60, 48, 4, 0x0, .ro, .ro⟩,
  ⟨0xF61, 48, 4, 0x0, .ro, .ro⟩,
  ⟨0xF62, 48, 4, 0x0, .ro, .ro⟩,
  ⟨0xF63, 48, 4, 0x0, .ro, .ro⟩,
  ⟨0xF64, 48, 4, 0x0, .ro, .ro⟩,
  ⟨0xF65, 48, 4, 0x0, .ro, .ro⟩,
  ⟨0xF66, 48, 4, 0x0, .ro, .ro⟩,
  ⟨0xF67, 48, 4, 0x0, .ro, .ro⟩,
  ⟨0xF68, 48, 4, 0x0, .ro, .ro⟩,
  ⟨0xF69, 48, 4, 0x0, .ro, .ro⟩,
  ⟨0xF6A, 48, 4, 0x0, .ro, .ro⟩,
  ⟨0xF6B, 48, 4, 0x0, .ro, .ro⟩,
  ⟨0xF6C, 48, 4, 0x0, .ro, .ro⟩,
  ⟨0xF6D, 48, 4, 0x0, .ro, .ro⟩,
  ⟨0xF6E, 48, 4, 0x0, .ro, .ro⟩,
  ⟨0xF6F, 48, 4, 0x0, .ro, .ro⟩]

/-- Parameters 0x0Fxx of R143. -/
def prms0F : List PrmRow := prms0F_0 ++ prms0F_1

/-- Parameters 0x10xx of R143, part 0. -/
def prms10_0 : List PrmRow := [
  ⟨0x1000, 3, 80, 0x0, .ro, .ro⟩,
  ⟨0x1001, 3, 80, 0x0, .ro, .ro⟩,
  ⟨0x1002, 3, 80, 0x40, .imm, .flds false [⟨31, 0, 1, 64⟩]⟩]

/-- Parameters 0x10xx of R143. -/
def prms10 : List PrmRow := prms10_0

/-- Parameters 0x11xx of R143, part 0. -/
def prms11_0 : List PrmRow := [
  ⟨0x1100, 1, 64, 0xE10, .commit, .flds true [⟨31, 31, 0, 1⟩, ⟨16, 0, 1, 86400⟩]⟩,
  ⟨0x1140, 1, 64, 0x0, .ro, .ro⟩,
  ⟨0x1180, 1, 64, 0x0, .imm, .flds false [⟨13, 0, 0, 8192⟩]⟩,
  ⟨0x11C0, 1, 1, 0xF00, .boot, .flds false [⟨0, 0, 0, 1⟩, ⟨15, 8, 1, 255⟩]⟩,
  ⟨0x11C1, 1, 1, 0x0, .ro, .ro⟩,
  ⟨0x11C2, 1, 1, 0x18, .imm, .flds false [⟨31, 0, 1, 168⟩]⟩,
  ⟨0x11C3, 1, 1, 0x0, .ro, .ro⟩,
  ⟨0x11C4, 1, 1, 0x0, .ro, .ro⟩,
  ⟨0x11C5, 1, 1, 0x0, .boot, .flds false [⟨31, 0, 0, 1⟩]⟩,
  ⟨0x11C6, 1, 1, 0x0, .ro, .ro⟩,
  ⟨0x11C7, 1, 1, 0x0, .ro, .ro⟩,
  ⟨0x11C8, 1, 1, 0x0, .ro, .ro⟩,
  ⟨0x11C9, 1, 1, 0x0, .ro, .ro⟩,
  ⟨0x11CA, 1, 1, 0x0, .ro, .ro⟩,
  ⟨0x11CB, 1, 1, 0x0, .ro, .ro⟩,
  ⟨0x11CC, 1, 1, 0x2000, .ro, .ro⟩,
  ⟨0x11CD, 1, 1, 0x0, .ro, .ro⟩,
  ⟨0x11CE, 1, 1, 0x4000, .ro, .ro⟩,
  ⟨0x11CF, 1, 1, 0x0, .ro, .ro⟩,
  ⟨0x11D0, 1, 12, 0x0, .ro, .ro⟩,
  ⟨0x11DC, 1, 12, 0x0, .ro, .ro⟩,
  ⟨0x11E8, 1, 1, 0x0, .ro, .ro⟩,
  ⟨0x11E9, 1, 1, 0x0, .ro, .ro⟩,
  ⟨0x11EA, 1, 1, 0x0, .ro, .ro⟩,
  ⟨0x11EB, 1, 1, 0x0, .ro, .ro⟩,
  ⟨0x11EC, 1, 1, 0x0, .ro, .ro⟩,
  ⟨0x11ED, 1, 1, 0x0, .ro, .ro⟩,
  ⟨0x11EE, 1, 1, 0x0, .ro, .ro⟩,
  ⟨0x11EF, 1, 1, 0x0, .ro, .ro⟩,
  ⟨0x11F0, 1, 1, 0x0, .ro, .ro⟩,
  ⟨0x11F1, 1, 1, 0x0, .ro, .ro⟩,
  ⟨0x11F2, 1, 1, 0x0, .ro, .ro⟩,
  ⟨0x11F3, 1, 1, 0x0, .ro, .ro⟩,
  ⟨0x11F4, 1, 1, 0x0, .ro, .ro⟩,
  ⟨0x11F5, 1, 1, 0x0, .ro, .ro⟩,
  ⟨0x11F6, 1, 1, 0x0, .ro, .ro⟩,
  ⟨0x11F7, 1, 1, 0x0, .ro, .ro⟩]

/-- Parameters 0x11xx of R143. -/
def prms11 : List PrmRow := prms11_0

/-- Parameters 0x12xx of R143, part 0. -/
def prms12_0 : List PrmRow := [
  ⟨0x1200, 1, 32, 0x6400, .ro, .ro⟩,
  ⟨0x1220, 1, 128, 0x6400, .commit, .flds false [⟨31, 31, 0, 1⟩, ⟨19, 16, 0, 15⟩, ⟨15, 8, 50, 100⟩, ⟨4, 0, 0, 31⟩]⟩,
  ⟨0x12A0, 16, 4, 0x80000008, .boot, .flds true [⟨31, 31, 0, 1⟩, ⟨3, 0, 1, 8⟩]⟩,
  ⟨0x12A1, 16, 4, 0x0, .ro, .ro⟩,
  ⟨0x12A2, 16, 4, 0x0, .ro, .ro⟩,
  ⟨0x12A3, 16, 4, 0x0, .ro, .ro⟩,
  ⟨0x12A4, 16, 4, 0x0, .ro, .ro⟩,
  ⟨0x12A5, 16, 4, 0x0, .ro, .ro⟩,
  ⟨0x12A6, 16, 4, 0x0, .ro, .ro⟩,
  ⟨0x12A7, 16, 4, 0x0, .ro, .ro⟩,
  ⟨0x12A8, 16, 4, 0x0, .ro, .ro⟩,
  ⟨0x12A9, 16, 4, 0x0, .ro, .ro⟩,
  ⟨0x12AA, 16, 4, 0x0, .ro, .ro⟩,
  ⟨0x12AB, 16, 4, 0x0, .ro, .ro⟩,
  ⟨0x12AC, 16, 4, 0x0, .ro, .ro⟩,
  ⟨0x12AD, 16, 4, 0x0, .ro, .ro⟩,
  ⟨0x12AE, 16, 4, 0x0, .ro, .ro⟩,
  ⟨0x12AF, 16, 4, 0x0, .ro, .ro⟩,
  ⟨0x12E0, 1, 1, 0x4B, .commit, .flds false [⟨31, 0, 10, 90⟩]⟩,
  ⟨0x12E1, 1, 1, 0xF, .commit, .flds false [⟨31, 0, 5, 50⟩]⟩,
  ⟨0x12E2, 1, 1, 0x64, .imm, .flds false [⟨31, 0, 1, 1000000⟩]⟩,
  ⟨0x12E3, 1, 1, 0x12C, .imm, .flds false [⟨31, 0, 10, 86400⟩]⟩,
  ⟨0x12E4, 1, 1, 0x0, .ro, .ro⟩,
  ⟨0x12E5, 1, 1, 0x0, .ro, .ro⟩,
  ⟨0x12E6, 1, 1, 0x0, .ro, .ro⟩,
  ⟨0x12E7, 1, 1, 0x0, .ro, .ro⟩,
  ⟨0x12E8, 1, 1, 0x0, .ro, .ro⟩,
  ⟨0x12E9, 1, 1, 0x0, .ro, .ro⟩,
  ⟨0x12EA, 1, 1, 0x0, .ro, .ro⟩,
  ⟨0x12EB, 1, 1, 0x0, .ro, .ro⟩,
  ⟨0x12EC, 1, 20, 0x0, .ro, .ro⟩]

/-- Parameters 0x12xx of R143. -/
def prms12 : List PrmRow := prms12_0

/-- Parameters 0x13xx of R143, part 0. -/
def prms13_0 : List PrmRow := [
  ⟨0x1300, 1, 1, 0x3, .imm, .flds false [⟨1, 0, 0, 3⟩]⟩,
  ⟨0x1301, 1, 1, 0x3C, .imm, .flds false [⟨31, 0, 10, 3600⟩]⟩,
  ⟨0x1302, 1, 1, 0x3C, .imm, .flds false [⟨31, 0, 10, 3600⟩]⟩,
  ⟨0x1303, 1, 1, 0xA, .imm, .flds false [⟨31, 0, 1, 255⟩]⟩,
  ⟨0x1304, 1, 1, 0x3, .imm, .flds false [⟨31, 0, 1, 16⟩]⟩,
  ⟨0x1305, 1, 1, 0x258, .imm, .flds false [⟨31, 0, 60, 86400⟩]⟩,
  ⟨0x1306, 1, 1, 0x0, .boot, .flds false [⟨31, 31, 0, 1⟩, ⟨19, 16, 0, 15⟩, ⟨0, 0, 0, 1⟩]⟩,
  ⟨0x1307, 1, 1, 0xC8, .imm, .flds false [⟨31, 0, 100, 10000⟩]⟩,
  ⟨0x1308, 1, 1, 0x5DC, .imm, .flds false [⟨31, 0, 1100, 10000⟩]⟩,
  ⟨0x1309, 1, 1, 0x15180, .imm, .flds false [⟨31, 0, 0, 604800⟩]⟩,
  ⟨0x130A, 1, 1, 0x2A30, .imm, .flds false [⟨31, 0, 0, 604799⟩]⟩,
  ⟨0x130B, 1, 1, 0x3C, .imm, .flds false [⟨31, 0, 0, 86400⟩]⟩,
  ⟨0x130C, 1, 1, 0x10, .imm, .flds false [⟨31, 0, 2, 1000⟩]⟩,
  ⟨0x130D, 1, 1, 0x0, .ro, .ro⟩,
  ⟨0x130E, 1, 1, 0x0, .ro, .ro⟩,
  ⟨0x130F, 1, 1, 0x0, .ro, .ro⟩,
  ⟨0x1310, 1, 1, 0x0, .ro, .ro⟩,
  ⟨0x1311, 1, 1, 0x0, .ro, .ro⟩,
  ⟨0x1312, 1, 1, 0x0, .ro, .ro⟩,
  ⟨0x1313, 1, 1, 0x0, .ro, .ro⟩,
  ⟨0x1314, 1, 1, 0x0, .ro, .ro⟩,
  ⟨0x1315, 1, 1, 0x0, .ro, .ro⟩,
  ⟨0x1316, 1, 1, 0x0, .ro, .ro⟩,
  ⟨0x1317, 1, 1, 0x0, .ro, .ro⟩,
  ⟨0x1318, 1, 1, 0x0, .ro, .ro⟩,
  ⟨0x1319, 1, 1, 0x0, .ro, .ro⟩,
  ⟨0x131A, 1, 1, 0x0, .ro, .ro⟩,
  ⟨0x131B, 1, 1, 0x0, .ro, .ro⟩,
  ⟨0x131C, 1, 1, 0x0, .ro, .ro⟩,
  ⟨0x131D, 1, 1, 0x0, .ro, .ro⟩,
  ⟨0x131E, 1, 1, 0x0, .ro, .ro⟩,
  ⟨0x131F, 1, 1, 0x0, .ro, .ro⟩,
  ⟨0x1320, 1, 128, 0x0, .ro, .ro⟩,
  ⟨0x13A0, 1, 1, 0x0, .ro, .ro⟩,
  ⟨0x13A1, 1, 1, 0x3, .imm, .flds false [⟨31, 0, 1, 10⟩]⟩,
  ⟨0x13A2, 1, 1, 0x258, .imm, .flds false [⟨31, 0, 60, 3600⟩]⟩,
  ⟨0x13A3, 1, 1, 0x0, .ro, .ro⟩,
  ⟨0x13A4, 1, 1, 0x0, .ro, .ro⟩,
  ⟨0x13A5, 1, 1, 0x0, .ro, .ro⟩,
  ⟨0x13A6, 1, 1, 0x0, .ro, .ro⟩]

/-- Parameters 0x13xx of R143, part 1. -/
def prms13_1 : List PrmRow := [
  ⟨0x13A7, 1, 8, 0x0, .ro, .ro⟩,
  ⟨0x13AF, 1, 1, 0x0, .ro, .ro⟩,
  ⟨0x13B0, 2, 16, 0x0, .ro, .ro⟩,
  ⟨0x13B1, 2, 16, 0x0, .ro, .ro⟩,
  ⟨0x13D0, 1, 1, 0x0, .ro, .ro⟩,
  ⟨0x13D1, 1, 1, 0x0, .ro, .ro⟩,
  ⟨0x13D2, 1, 1, 0x0, .ro, .ro⟩,
  ⟨0x13D3, 1, 1, 0x0, .ro, .ro⟩,
  ⟨0x13D4, 1, 1, 0x0, .ro, .ro⟩,
  ⟨0x13D5, 1, 1, 0x0, .ro, .ro⟩,
  ⟨0x13D6, 1, 1, 0x0, .ro, .ro⟩,
  ⟨0x13D7, 1, 1, 0x0, .ro, .ro⟩,
  ⟨0x13D8, 1, 1, 0x0, .ro, .ro⟩,
  ⟨0x13D9, 1, 1, 0x0, .ro, .ro⟩,
  ⟨0x13DA, 1, 1, 0x0, .ro, .ro⟩,
  ⟨0x13DB, 1, 1, 0x0, .ro, .ro⟩,
  ⟨0x13DC, 1, 1, 0x0, .ro, .ro⟩,
  ⟨0x13DD, 1, 1, 0x0, .ro, .ro⟩,
  ⟨0x13DE, 1, 1, 0x0, .ro, .ro⟩,
  ⟨0x13DF, 1, 1, 0x0, .ro, .ro⟩,
  ⟨0x13E0, 1, 16, 0x0, .ro, .ro⟩]

/-- Parameters 0x13xx of R143. -/
def prms13 : List PrmRow := prms13_0 ++ prms13_1

/-- Parameters 0x14xx of R143, part 0. -/
def prms14_0 : List PrmRow := [
  ⟨0x1400, 1, 1, 0x7D0, .later, .flds false [⟨31, 0, 100, 30000⟩]⟩,
  ⟨0x1401, 1, 1, 0x1, .commit, .flds false [⟨31, 0, 0, 1⟩]⟩,
  ⟨0x1402, 1, 1, 0x320, .commit, .flds false [⟨31, 0, 720, 900⟩]⟩,
  ⟨0x1403, 1, 1, 0x64, .commit, .flds false [⟨31, 0, 10, 100⟩]⟩,
  ⟨0x1404, 1, 1, 0x5, .commit, .flds false [⟨31, 0, 0, 20⟩]⟩,
  ⟨0x1405, 1, 1, 0x5F, .imm, .flds false [⟨31, 0, 80, 98⟩]⟩,
  ⟨0x1406, 1, 1, 0xA, .imm, .flds false [⟨31, 0, 1, 600⟩]⟩,
  ⟨0x1407, 1, 1, 0xA, .later, .flds false [⟨31, 0, 1, 50⟩]⟩,
  ⟨0x1408, 1, 1, 0x6E, .imm, .flds false [⟨31, 0, 105, 114⟩]⟩,
  ⟨0x1409, 1, 1, 0x0, .ro, .ro⟩,
  ⟨0x140A, 1, 1, 0x0, .ro, .ro⟩,
  ⟨0x140B, 1, 1, 0x0, .ro, .ro⟩,
  ⟨0x140C, 1, 1, 0x0, .ro, .ro⟩,
  ⟨0x140D, 1, 1, 0x0, .ro, .ro⟩,
  ⟨0x140E, 1, 1, 0x0, .ro, .ro⟩,
  ⟨0x140F, 1, 1, 0x0, .ro, .ro⟩,
  ⟨0x1410, 1, 1, 0x40, .boot, .flds false [⟨31, 0, 0, 127⟩]⟩,
  ⟨0x1411, 1, 1, 0x41, .boot, .flds false [⟨31, 0, 0, 127⟩]⟩,
  ⟨0x1412, 1, 1, 0x42, .boot, .flds false [⟨31, 0, 0, 127⟩]⟩,
  ⟨0x1413, 1, 1, 0x43, .boot, .flds false [⟨31, 0, 0, 127⟩]⟩,
  ⟨0x1414, 1, 1, 0x17C, .imm, .flds false [⟨31, 0, 150, 380⟩]⟩,
  ⟨0x1415, 1, 1, 0x3, .imm, .flds false [⟨1, 0, 0, 3⟩]⟩,
  ⟨0x1416, 1, 1, 0x0, .ro, .ro⟩,
  ⟨0x1417, 1, 1, 0x0, .ro, .ro⟩,
  ⟨0x1418, 1, 1, 0x0, .ro, .ro⟩,
  ⟨0x1419, 1, 1, 0x0, .ro, .ro⟩,
  ⟨0x141A, 1, 1, 0x0, .ro, .ro⟩,
  ⟨0x141B, 1, 1, 0x0, .ro, .ro⟩,
  ⟨0x141C, 1, 1, 0x0, .ro, .ro⟩,
  ⟨0x141D, 1, 1, 0x0, .ro, .ro⟩,
  ⟨0x141E, 1, 1, 0x0, .ro, .ro⟩,
  ⟨0x141F, 1, 1, 0x0, .ro, .ro⟩,
  ⟨0x1420, 2, 16, 0x23A, .imm, .flds false [⟨31, 0, 0, 4000⟩]⟩,
  ⟨0x1421, 2, 16, 0x3A2, .imm, .flds false [⟨31, 0, 0, 4000⟩]⟩,
  ⟨0x1440, 2, 14, 0x2C8, .imm, .flds false [⟨31, 0, 0, 4000⟩]⟩,
  ⟨0x1441, 2, 14, 0x314, .imm, .flds false [⟨31, 0, 0, 4000⟩]⟩,
  ⟨0x145C, 2, 10, 0x474, .imm, .flds false [⟨31, 0, 0, 4000⟩]⟩,
  ⟨0x145D, 2, 10, 0x4EC, .imm, .flds false [⟨31, 0, 0, 4000⟩]⟩,
  ⟨0x1470, 2, 4, 0x415, .imm, .flds false [⟨31, 0, 0, 4000⟩]⟩,
  ⟨0x1471, 2, 4, 0x483, .imm, .flds false [⟨31, 0, 0, 4000⟩]⟩]

/-- Parameters 0x14xx of R143, part 1. -/
def prms14_1 : List PrmRow := [
  ⟨0x1478, 2, 2, 0x6AE, .imm, .flds false [⟨31, 0, 0, 4000⟩]⟩,
  ⟨0x1479, 2, 2, 0x762, .imm, .flds false [⟨31, 0, 0, 4000⟩]⟩,
  ⟨0x147C, 2, 2, 0xC3F, .imm, .flds false [⟨31, 0, 0, 4000⟩]⟩,
  ⟨0x147D, 2, 2, 0xD89, .imm, .flds false [⟨31, 0, 0, 4000⟩]⟩,
  ⟨0x1480, 1, 32, 0x0, .ro, .ro⟩,
  ⟨0x14A0, 1, 48, 0x0, .ro, .ro⟩,
  ⟨0x14D0, 1, 16, 0x0, .ro, .ro⟩,
  ⟨0x14E0, 1, 10, 0x0, .ro, .ro⟩,
  ⟨0x14EA, 1, 3, 0x0, .ro, .ro⟩,
  ⟨0x14ED, 1, 11, 0x0, .ro, .ro⟩]

/-- Parameters 0x14xx of R143. -/
def prms14 : List PrmRow := prms14_0 ++ prms14_1

/-- The families of one high byte of the ID (R143). -/
def prmTable : Nat → List PrmRow
  | 0x01 => prms01
  | 0x02 => prms02
  | 0x03 => prms03
  | 0x04 => prms04
  | 0x05 => prms05
  | 0x06 => prms06
  | 0x07 => prms07
  | 0x08 => prms08
  | 0x09 => prms09
  | 0x0A => prms0A
  | 0x0B => prms0B
  | 0x0C => prms0C
  | 0x0D => prms0D
  | 0x0E => prms0E
  | 0x0F => prms0F
  | 0x10 => prms10
  | 0x11 => prms11
  | 0x12 => prms12
  | 0x13 => prms13
  | 0x14 => prms14
  | _ => []

def Prm.FW_RELEASE : Nat := 0x100
def Prm.PART_ID : Nat := 0x101
def Prm.GRADE : Nat := 0x102
def Prm.ARM_WDOG_MS : Nat := 0x110
def Prm.COMMIT_MAX_AHEAD : Nat := 0x111
def Prm.BOOT_CFG : Nat := 0x120
def Prm.BOOT_DISCOVER_MS : Nat := 0x121
def Prm.BOOT_TIME_WAIT_S : Nat := 0x122
def Prm.BOOT_LOOK_RG (n : Nat) : Nat := 0x123 + 2 * n
def Prm.BOOT_LOOK_B (n : Nat) : Nat := 0x124 + 2 * n
def Prm.SAL_PORT_CFG (n : Nat) : Nat := 0x200 + 1 * n
def Prm.SAL_BC_TIMEOUT_US : Nat := 0x250
def Prm.SAL_SNS_PORT (n : Nat) : Nat := 0x210 + 1 * n
def Prm.SAL_SNS_SIZE (n : Nat) : Nat := 0x218 + 1 * n
def Prm.SAL_SNS_FORMAT (n : Nat) : Nat := 0x220 + 1 * n
def Prm.SAL_SNS_MIN_PERIOD_US (n : Nat) : Nat := 0x228 + 1 * n
def Prm.SAL_SNS_TIMEOUT_US (n : Nat) : Nat := 0x230 + 1 * n
def Prm.SAL_TRIG_SRC (n : Nat) : Nat := 0x238 + 1 * n
def Prm.SAL_TRIG_DELAY_NS (n : Nat) : Nat := 0x240 + 1 * n
def Prm.SAL_SNS_LINE_NS (n : Nat) : Nat := 0x248 + 1 * n
def Prm.RFE_EN (n : Nat) : Nat := 0x300 + 32 * n
def Prm.RFE_BLACK_R (n : Nat) : Nat := 0x301 + 32 * n
def Prm.RFE_BLACK_G (n : Nat) : Nat := 0x302 + 32 * n
def Prm.RFE_BLACK_B (n : Nat) : Nat := 0x303 + 32 * n
def Prm.RFE_BLACK_C (n : Nat) : Nat := 0x304 + 32 * n
def Prm.RFE_BLACK_I (n : Nat) : Nat := 0x305 + 32 * n
def Prm.RFE_SAT_LEVEL (n : Nat) : Nat := 0x306 + 32 * n
def Prm.RFE_GI_FLOOR (n : Nat) : Nat := 0x307 + 32 * n
def Prm.RFE_GI_LIMIT (n : Nat) : Nat := 0x308 + 32 * n
def Prm.RFE_GI_STRENGTH (n : Nat) : Nat := 0x309 + 32 * n
def Prm.RFE_DYN_HOT_T (n : Nat) : Nat := 0x30A + 32 * n
def Prm.RFE_DYN_HOT_K (n : Nat) : Nat := 0x30B + 32 * n
def Prm.RFE_DYN_COLD_T (n : Nat) : Nat := 0x30C + 32 * n
def Prm.RFE_DYN_COLD_K (n : Nat) : Nat := 0x30D + 32 * n
def Prm.RFE_DYN_LIMIT (n : Nat) : Nat := 0x30E + 32 * n
def Prm.RFE_SHADE_GRID (n : Nat) : Nat := 0x30F + 32 * n
def Prm.RFE_STAT_ZONES (n : Nat) : Nat := 0x310 + 32 * n
def Prm.RFE_STAT_LUMA_WR (n : Nat) : Nat := 0x311 + 32 * n
def Prm.RFE_STAT_LUMA_WG (n : Nat) : Nat := 0x312 + 32 * n
def Prm.RFE_STAT_LUMA_WB (n : Nat) : Nat := 0x313 + 32 * n
def Prm.RFE_STAT_HOST_LO (n : Nat) : Nat := 0x314 + 32 * n
def Prm.RFE_STAT_HOST_HI (n : Nat) : Nat := 0x315 + 32 * n
def Prm.RFE_STAT_DIVIDER (n : Nat) : Nat := 0x316 + 32 * n
def Prm.RFE_STAT_ORIGIN (n : Nat) : Nat := 0x317 + 32 * n
def Prm.RFE_STAT_SIZE (n : Nat) : Nat := 0x318 + 32 * n
def Prm.RFE_DEFECT_COUNT (n : Nat) : Nat := 0x319 + 32 * n
def Prm.RFE_DYN_LAST (n : Nat) : Nat := 0x31A + 32 * n
def Prm.RFE_UNCORR_LAST (n : Nat) : Nat := 0x31B + 32 * n
def Prm.RFE_STAT_LAST (n : Nat) : Nat := 0x31C + 32 * n
def Prm.RFE_TABLE_STATE (n : Nat) : Nat := 0x31D + 32 * n
def Prm.CC_CTRL (n : Nat) : Nat := 0x400 + 8 * n
def Prm.CC_WB_R (n : Nat) : Nat := 0x401 + 8 * n
def Prm.CC_WB_G (n : Nat) : Nat := 0x402 + 8 * n
def Prm.CC_WB_B (n : Nat) : Nat := 0x403 + 8 * n
def Prm.CC_WB_C (n : Nat) : Nat := 0x404 + 8 * n
def Prm.CC_WB_I (n : Nat) : Nat := 0x405 + 8 * n
def Prm.DM_EDGE_T (n : Nat) : Nat := 0x406 + 8 * n
def Prm.CC_STATE (n : Nat) : Nat := 0x407 + 8 * n
def Prm.TRI_SRC (n : Nat) : Nat := 0x440 + 16 * n
def Prm.TRI_CROP_ORIGIN (n : Nat) : Nat := 0x441 + 16 * n
def Prm.TRI_CROP_SIZE (n : Nat) : Nat := 0x442 + 16 * n
def Prm.TRI_SIZE (n : Nat) : Nat := 0x443 + 16 * n
def Prm.TRI_FORMAT (n : Nat) : Nat := 0x444 + 16 * n
def Prm.TRI_VISION (n : Nat) : Nat := 0x445 + 16 * n
def Prm.TRI_DISP_ADDR_LO (n : Nat) : Nat := 0x446 + 16 * n
def Prm.TRI_DISP_ADDR_HI (n : Nat) : Nat := 0x447 + 16 * n
def Prm.TRI_CODE_ADDR_LO (n : Nat) : Nat := 0x448 + 16 * n
def Prm.TRI_CODE_ADDR_HI (n : Nat) : Nat := 0x449 + 16 * n
def Prm.TRI_VIS_ADDR_LO (n : Nat) : Nat := 0x44A + 16 * n
def Prm.TRI_VIS_ADDR_HI (n : Nat) : Nat := 0x44B + 16 * n
def Prm.TRI_RING (n : Nat) : Nat := 0x44C + 16 * n
def Prm.TRI_OWNER (n : Nat) : Nat := 0x44D + 16 * n
def Prm.TRI_LATE_COUNT (n : Nat) : Nat := 0x44E + 16 * n
def Prm.TRI_LAST_SEQ (n : Nat) : Nat := 0x44F + 16 * n
def Prm.OUT_SRC (n : Nat) : Nat := 0x460 + 10 * n
def Prm.OUT_CROP_ORIGIN (n : Nat) : Nat := 0x461 + 10 * n
def Prm.OUT_CROP_SIZE (n : Nat) : Nat := 0x462 + 10 * n
def Prm.OUT_SIZE (n : Nat) : Nat := 0x463 + 10 * n
def Prm.OUT_FORMAT (n : Nat) : Nat := 0x464 + 10 * n
def Prm.OUT_RING (n : Nat) : Nat := 0x465 + 10 * n
def Prm.OUT_ADDR_LO (n : Nat) : Nat := 0x466 + 10 * n
def Prm.OUT_ADDR_HI (n : Nat) : Nat := 0x467 + 10 * n
def Prm.OUT_PITCH (n : Nat) : Nat := 0x468 + 10 * n
def Prm.OUT_LATE_COUNT (n : Nat) : Nat := 0x469 + 10 * n
def Prm.CAST_CTRL (n : Nat) : Nat := 0x500 + 32 * n
def Prm.CAST_DEF_LEVEL (n : Nat) : Nat := 0x501 + 32 * n
def Prm.CAST_DEF_DELTA (n : Nat) : Nat := 0x502 + 32 * n
def Prm.CAST_RTP_PT (n : Nat) : Nat := 0x503 + 32 * n
def Prm.CAST_RTP_MTU (n : Nat) : Nat := 0x504 + 32 * n
def Prm.CAST_JOB (n : Nat) : Nat := 0x505 + 32 * n
def Prm.CAST_SAMPLES_LO (n : Nat) : Nat := 0x506 + 32 * n
def Prm.CAST_SAMPLES_HI (n : Nat) : Nat := 0x507 + 32 * n
def Prm.CAST_BYTES_IN_LO (n : Nat) : Nat := 0x508 + 32 * n
def Prm.CAST_BYTES_IN_HI (n : Nat) : Nat := 0x509 + 32 * n
def Prm.CAST_BYTES_OUT_LO (n : Nat) : Nat := 0x50A + 32 * n
def Prm.CAST_BYTES_OUT_HI (n : Nat) : Nat := 0x50B + 32 * n
def Prm.CAST_END_OK (n : Nat) : Nat := 0x50C + 32 * n
def Prm.CAST_END_OUTPUT_FULL (n : Nat) : Nat := 0x50D + 32 * n
def Prm.CAST_END_EXPANSION (n : Nat) : Nat := 0x50E + 32 * n
def Prm.CAST_END_CORRUPT (n : Nat) : Nat := 0x50F + 32 * n
def Prm.CAST_END_ABORTED (n : Nat) : Nat := 0x510 + 32 * n
def Prm.CAST_END_DROPPED (n : Nat) : Nat := 0x511 + 32 * n
def Prm.CAST_END_TIMEOUT (n : Nat) : Nat := 0x512 + 32 * n
def Prm.CAST_END_OTHER (n : Nat) : Nat := 0x513 + 32 * n
def Prm.CAST_MATCHES (n : Nat) : Nat := 0x514 + 32 * n
def Prm.CAST_ESCAPES (n : Nat) : Nat := 0x515 + 32 * n
def Prm.CAST_RATE_LAST (n : Nat) : Nat := 0x516 + 32 * n
def Prm.CAST_SLICE_US_MAX (n : Nat) : Nat := 0x517 + 32 * n
def Prm.CAST_RTP_TX (n : Nat) : Nat := 0x518 + 32 * n
def Prm.CAST_RTP_RX (n : Nat) : Nat := 0x519 + 32 * n
def Prm.CAST_RTP_LOST (n : Nat) : Nat := 0x51A + 32 * n
def Prm.CAST_RTP_BAD (n : Nat) : Nat := 0x51B + 32 * n
def Prm.CAST_LAST_HANDLE (n : Nat) : Nat := 0x51C + 32 * n
def Prm.CAST_LAST_STATUS (n : Nat) : Nat := 0x51D + 32 * n
def Prm.CAST_LAST_BYTES (n : Nat) : Nat := 0x51E + 32 * n
def Prm.ETH_PORT_CFG (n : Nat) : Nat := 0x600 + 32 * n
def Prm.ETH_MAC_LO (n : Nat) : Nat := 0x601 + 32 * n
def Prm.ETH_MAC_HI (n : Nat) : Nat := 0x602 + 32 * n
def Prm.ETH_VLAN (n : Nat) : Nat := 0x603 + 32 * n
def Prm.ETH_IPV4 (n : Nat) : Nat := 0x604 + 32 * n
def Prm.ETH_IPV6_0 (n : Nat) : Nat := 0x605 + 32 * n
def Prm.ETH_IPV6_1 (n : Nat) : Nat := 0x606 + 32 * n
def Prm.ETH_IPV6_2 (n : Nat) : Nat := 0x607 + 32 * n
def Prm.ETH_IPV6_3 (n : Nat) : Nat := 0x608 + 32 * n
def Prm.ETH_IP_CFG (n : Nat) : Nat := 0x609 + 32 * n
def Prm.ETH_MTU (n : Nat) : Nat := 0x60A + 32 * n
def Prm.ETH_PATH_LOSS_US (n : Nat) : Nat := 0x60B + 32 * n
def Prm.ETH_STATE (n : Nat) : Nat := 0x60C + 32 * n
def Prm.ETH_LINK_CHANGES (n : Nat) : Nat := 0x60D + 32 * n
def Prm.ETH_RX_FRAMES_LO (n : Nat) : Nat := 0x60E + 32 * n
def Prm.ETH_RX_FRAMES_HI (n : Nat) : Nat := 0x60F + 32 * n
def Prm.ETH_TX_FRAMES_LO (n : Nat) : Nat := 0x610 + 32 * n
def Prm.ETH_TX_FRAMES_HI (n : Nat) : Nat := 0x611 + 32 * n
def Prm.ETH_RX_BYTES_LO (n : Nat) : Nat := 0x612 + 32 * n
def Prm.ETH_RX_BYTES_HI (n : Nat) : Nat := 0x613 + 32 * n
def Prm.ETH_TX_BYTES_LO (n : Nat) : Nat := 0x614 + 32 * n
def Prm.ETH_TX_BYTES_HI (n : Nat) : Nat := 0x615 + 32 * n
def Prm.ETH_FCS_ERRS (n : Nat) : Nat := 0x616 + 32 * n
def Prm.ETH_FEC_CORR (n : Nat) : Nat := 0x617 + 32 * n
def Prm.ETH_FEC_UNCORR (n : Nat) : Nat := 0x618 + 32 * n
def Prm.ETH_UNCLASSIFIED (n : Nat) : Nat := 0x619 + 32 * n
def Prm.ETH_CLASS_DROPS (n : Nat) : Nat := 0x61A + 32 * n
def Prm.ETH_MISS_DROPS (n : Nat) : Nat := 0x61B + 32 * n
def Prm.ETH_SIZE_ERRS (n : Nat) : Nat := 0x61C + 32 * n
def Prm.ETH_CTRL_RX (n : Nat) : Nat := 0x61D + 32 * n
def Prm.ETH_GROUPS (n : Nat) : Nat := 0x61E + 32 * n
def Prm.ETH_TX_DROPS (n : Nat) : Nat := 0x61F + 32 * n
def Prm.STR_CTX_BASE_LO : Nat := 0x680
def Prm.STR_CTX_BASE_HI : Nat := 0x681
def Prm.STR_CTX_USED : Nat := 0x682
def Prm.STR_CTX_PINNED : Nat := 0x683
def Prm.STR_RULES_USED : Nat := 0x684
def Prm.STR_MISS_STORM_T : Nat := 0x685
def Prm.STR_MISSES_LO : Nat := 0x686
def Prm.STR_MISSES_HI : Nat := 0x687
def Prm.STR_EVICTIONS_LO : Nat := 0x688
def Prm.STR_EVICTIONS_HI : Nat := 0x689
def Prm.STR_STORMS : Nat := 0x68A
def Prm.STR_MALFORMED_TOTAL : Nat := 0x68B
def Prm.STR_POLICED_TOTAL : Nat := 0x68C
def Prm.STR_AUTH_FAIL_TOTAL : Nat := 0x68D
def Prm.STR_DISABLED_DROPS : Nat := 0x68E
def Prm.STR_EGRESS_UNDERFLOWS : Nat := 0x68F
def Prm.PRN_REMOTE (n : Nat) : Nat := 0x690 + 1 * n
def Prm.PRN_RIGHTS_0 : Nat := 0x6B0
def Prm.PRN_RIGHTS_1 (n : Nat) : Nat := 0x6B1 + 1 * n
def Prm.PE_CTRL (n : Nat) : Nat := 0xA00 + 8 * n
def Prm.PE_RG (n : Nat) : Nat := 0xA01 + 8 * n
def Prm.PE_B_LOW (n : Nat) : Nat := 0xA02 + 8 * n
def Prm.PE_PERIOD_US (n : Nat) : Nat := 0xA03 + 8 * n
def Prm.PE_PHASE_US (n : Nat) : Nat := 0xA04 + 8 * n
def Prm.PE_CHASE (n : Nat) : Nat := 0xA05 + 8 * n
def Prm.PE_SPEED (n : Nat) : Nat := 0xA06 + 8 * n
def Prm.PE_STATE (n : Nat) : Nat := 0xA07 + 8 * n
def Prm.LYR_UNDERRUNS (n : Nat) : Nat := 0x700 + 1 * n
def Prm.LYR_STATE (n : Nat) : Nat := 0x740 + 1 * n
def Prm.GRP_MODE (n : Nat) : Nat := 0x780 + 12 * n
def Prm.GRP_PERIOD_MIN (n : Nat) : Nat := 0x781 + 12 * n
def Prm.GRP_PERIOD_MAX (n : Nat) : Nat := 0x782 + 12 * n
def Prm.GRP_PHASE_NS (n : Nat) : Nat := 0x783 + 12 * n
def Prm.GRP_HOP_NS (n : Nat) : Nat := 0x784 + 12 * n
def Prm.GRP_LATCH_MARGIN_NS (n : Nat) : Nat := 0x785 + 12 * n
def Prm.GRP_FRAME_LO (n : Nat) : Nat := 0x786 + 12 * n
def Prm.GRP_FRAME_HI (n : Nat) : Nat := 0x787 + 12 * n
def Prm.GRP_LATCH_OFFSET_NS (n : Nat) : Nat := 0x788 + 12 * n
def Prm.GRP_LATE_FRAMES (n : Nat) : Nat := 0x789 + 12 * n
def Prm.GRP_HOLDS (n : Nat) : Nat := 0x78A + 12 * n
def Prm.GRP_STATE (n : Nat) : Nat := 0x78B + 12 * n
def Prm.MQT_TILES : Nat := 0x7B0
def Prm.MQT_LAMPS : Nat := 0x7B1
def Prm.MQT_CANVAS : Nat := 0x7B2
def Prm.TILE_MISS_STORM_T : Nat := 0x7B3
def Prm.TILE_MISSES_LO : Nat := 0x7B4
def Prm.TILE_MISSES_HI : Nat := 0x7B5
def Prm.TILE_STORMS : Nat := 0x7B6
def Prm.LYR_USED : Nat := 0x7B7
def Prm.LYR_UNDERRUN_TOTAL : Nat := 0x7B8
def Prm.LYR_OVERLAPS : Nat := 0x7B9
def Prm.CMD_PUSHES : Nat := 0x7BA
def Prm.MQT_IMAGE_CRC : Nat := 0x7BB
def Prm.MQT_BG_RG : Nat := 0x7BC
def Prm.MQT_BG_B : Nat := 0x7BD
def Prm.LYR_ALIASED : Nat := 0x7BE
def Prm.MQT_STATE : Nat := 0x7BF
def Prm.BAND_LATCH_OFFSET (n : Nat) : Nat := 0x7C0 + 1 * n
def Prm.PAT_FOLD_HEADROOM : Nat := 0x800
def Prm.PAT_SYNC_MBS : Nat := 0x801
def Prm.PAT_GEN_LO : Nat := 0x802
def Prm.PAT_GEN_HI : Nat := 0x803
def Prm.PAT_LAMPS_DEAD : Nat := 0x804
def Prm.PAT_LAMPS_STUCK : Nat := 0x805
def Prm.PAT_LOAD_CRC : Nat := 0x806
def Prm.PAT_TABLE_STATE : Nat := 0x807
def Prm.PAT_CTRL (n : Nat) : Nat := 0x810 + 12 * n
def Prm.PAT_LIMIT (n : Nat) : Nat := 0x811 + 12 * n
def Prm.PAT_TEMP_STALE_MS (n : Nat) : Nat := 0x812 + 12 * n
def Prm.PAT_TEMP_DEFAULT (n : Nat) : Nat := 0x813 + 12 * n
def Prm.PAT_MATRIX_SAT (n : Nat) : Nat := 0x814 + 12 * n
def Prm.PAT_TEMP_CLIPS (n : Nat) : Nat := 0x815 + 12 * n
def Prm.PAT_LIMITED (n : Nat) : Nat := 0x816 + 12 * n
def Prm.PAT_LIB_SKIPS (n : Nat) : Nat := 0x817 + 12 * n
def Prm.PAT_STALE_ZONES (n : Nat) : Nat := 0x818 + 12 * n
def Prm.PAT_ZONE_MAX (n : Nat) : Nat := 0x819 + 12 * n
def Prm.PAT_GEN_IN_FORCE (n : Nat) : Nat := 0x81A + 12 * n
def Prm.PAT_DRIVE_PENDING (n : Nat) : Nat := 0x81B + 12 * n
def Prm.PAT_GC_MAX (n : Nat) : Nat := 0x848 + 8 * n
def Prm.PAT_GC_MIN (n : Nat) : Nat := 0x849 + 8 * n
def Prm.PAT_DC_MIN (n : Nat) : Nat := 0x84A + 8 * n
def Prm.PAT_FOLDED (n : Nat) : Nat := 0x84B + 8 * n
def Prm.PAT_DEAD (n : Nat) : Nat := 0x84C + 8 * n
def Prm.PAT_GC_MEAN (n : Nat) : Nat := 0x84D + 8 * n
def Prm.PAT_GREY_SAT (n : Nat) : Nat := 0x84E + 8 * n
def Prm.PAT_TEMP_GAIN (n : Nat) : Nat := 0x84F + 8 * n
def Prm.PAT_DRIVE_STATE (n : Nat) : Nat := 0x880 + 1 * n
def Prm.PAT_CLIP (n : Nat) : Nat := 0x8C0 + 1 * n
def Prm.LIB_CTRL : Nat := 0x900
def Prm.LIB_CODE : Nat := 0x901
def Prm.LIB_GROUP : Nat := 0x902
def Prm.LIB_SLOT_MASK : Nat := 0x903
def Prm.LIB_UNIT_CAP : Nat := 0x904
def Prm.LIB_SNR_MIN : Nat := 0x905
def Prm.LIB_LOOP_GAIN : Nat := 0x906
def Prm.LIB_STEP_MAX : Nat := 0x907
def Prm.LIB_CUM_MAX : Nat := 0x908
def Prm.LIB_DEADBAND : Nat := 0x909
def Prm.LIB_MAX_PERIODS : Nat := 0x90A
def Prm.LIB_MASK_BLACK : Nat := 0x90B
def Prm.LIB_MASK_FULL : Nat := 0x90C
def Prm.LIB_MASK_TEX_FLOOR : Nat := 0x90D
def Prm.LIB_MASK_TEX_GAIN : Nat := 0x90E
def Prm.LIB_REG_MIN : Nat := 0x90F
def Prm.LIB_COMMIT_MIN_S : Nat := 0x910
def Prm.LIB_MAP_BETA_PERIODS : Nat := 0x911
def Prm.LIB_STATE : Nat := 0x912
def Prm.LIB_PERIODS : Nat := 0x913
def Prm.LIB_CHIP : Nat := 0x914
def Prm.LIB_GEN_LO : Nat := 0x915
def Prm.LIB_GEN_HI : Nat := 0x916
def Prm.LIB_HIST_DEPTH : Nat := 0x917
def Prm.LIB_HIST_GEN_LO (n : Nat) : Nat := 0x918 + 2 * n
def Prm.LIB_HIST_GEN_HI (n : Nat) : Nat := 0x919 + 2 * n
def Prm.LIB_LAMPS_MAPPED : Nat := 0x928
def Prm.LIB_LAMPS_CODED : Nat := 0x929
def Prm.LIB_UNASSIGNED : Nat := 0x92A
def Prm.LIB_UPDATED_LAST : Nat := 0x92B
def Prm.LIB_WITHHELD_LAST : Nat := 0x92C
def Prm.LIB_OUTLIERS_LAST : Nat := 0x92D
def Prm.LIB_BOUND_HITS : Nat := 0x92E
def Prm.LIB_DEFERRED : Nat := 0x92F
def Prm.LIB_SHED_COUNT : Nat := 0x930
def Prm.LIB_SKIP_EXCL : Nat := 0x931
def Prm.LIB_HOLD_EXCL : Nat := 0x932
def Prm.LIB_UNITS_BOUND : Nat := 0x933
def Prm.LIB_ACC_BASE_LO : Nat := 0x934
def Prm.LIB_ACC_BASE_HI : Nat := 0x935
def Prm.LIB_MAP_BASE_LO : Nat := 0x936
def Prm.LIB_MAP_BASE_HI : Nat := 0x937
def Prm.LIB_AMP (n : Nat) : Nat := 0x948 + 8 * n
def Prm.LIB_PROJ_RG (n : Nat) : Nat := 0x949 + 8 * n
def Prm.LIB_PROJ_BA (n : Nat) : Nat := 0x94A + 8 * n
def Prm.LIB_QMEAN_0 (n : Nat) : Nat := 0x94B + 8 * n
def Prm.LIB_QMEAN_1 (n : Nat) : Nat := 0x94C + 8 * n
def Prm.LIB_CONF (n : Nat) : Nat := 0x94D + 8 * n
def Prm.LIB_AT_BOUND (n : Nat) : Nat := 0x94E + 8 * n
def Prm.LIB_STEP_MEAN (n : Nat) : Nat := 0x94F + 8 * n
def Prm.LIB_WIT_SENSOR (n : Nat) : Nat := 0x980 + 32 * n
def Prm.LIB_WIT_EXPOSURE_US (n : Nat) : Nat := 0x981 + 32 * n
def Prm.LIB_WIT_OFFSET_NS (n : Nat) : Nat := 0x982 + 32 * n
def Prm.LIB_WIT_LINE_NS (n : Nat) : Nat := 0x983 + 32 * n
def Prm.LIB_REG_SCORE (n : Nat) : Nat := 0x984 + 32 * n
def Prm.LIB_WIT_FRAMES (n : Nat) : Nat := 0x985 + 32 * n
def Prm.LIB_WIT_EXCL_EDGE (n : Nat) : Nat := 0x986 + 32 * n
def Prm.LIB_WIT_EXCL_FRAME (n : Nat) : Nat := 0x987 + 32 * n
def Prm.LIB_WIT_STATE (n : Nat) : Nat := 0x988 + 32 * n
def Prm.LIB_WIT_LAMPS (n : Nat) : Nat := 0x989 + 32 * n
def Prm.LIB_WIT_SNR_P50 (n : Nat) : Nat := 0x98A + 32 * n
def Prm.LIB_WIT_HIST_0 (n : Nat) : Nat := 0x98B + 32 * n
def Prm.LIB_WIT_HIST_1 (n : Nat) : Nat := 0x98C + 32 * n
def Prm.LIB_WIT_HIST_2 (n : Nat) : Nat := 0x98D + 32 * n
def Prm.LIB_WIT_HIST_3 (n : Nat) : Nat := 0x98E + 32 * n
def Prm.LIB_WIT_HIST_4 (n : Nat) : Nat := 0x98F + 32 * n
def Prm.LIB_WIT_HIST_5 (n : Nat) : Nat := 0x990 + 32 * n
def Prm.LIB_WIT_HIST_6 (n : Nat) : Nat := 0x991 + 32 * n
def Prm.LIB_WIT_HIST_7 (n : Nat) : Nat := 0x992 + 32 * n
def Prm.LIB_WIT_HIST_8 (n : Nat) : Nat := 0x993 + 32 * n
def Prm.LIB_WIT_HIST_9 (n : Nat) : Nat := 0x994 + 32 * n
def Prm.LIB_WIT_HIST_10 (n : Nat) : Nat := 0x995 + 32 * n
def Prm.LIB_WIT_HIST_11 (n : Nat) : Nat := 0x996 + 32 * n
def Prm.LIB_WIT_HIST_12 (n : Nat) : Nat := 0x997 + 32 * n
def Prm.LIB_WIT_HIST_13 (n : Nat) : Nat := 0x998 + 32 * n
def Prm.LIB_WIT_HIST_14 (n : Nat) : Nat := 0x999 + 32 * n
def Prm.LIB_WIT_HIST_15 (n : Nat) : Nat := 0x99A + 32 * n
def Prm.LIB_WIT_HIST_16 (n : Nat) : Nat := 0x99B + 32 * n
def Prm.LIB_WIT_HIST_17 (n : Nat) : Nat := 0x99C + 32 * n
def Prm.LIB_WIT_HIST_18 (n : Nat) : Nat := 0x99D + 32 * n
def Prm.LIB_WIT_HIST_19 (n : Nat) : Nat := 0x99E + 32 * n
def Prm.LIB_WIT_HIST_20 (n : Nat) : Nat := 0x99F + 32 * n
def Prm.LIB_PHOTO (n : Nat) : Nat := 0x9C0 + 1 * n
def Prm.TLK_LINK_CFG (n : Nat) : Nat := 0xB00 + 1 * n
def Prm.TLK_LINK_INFO (n : Nat) : Nat := 0xB40 + 1 * n
def Prm.TLK_TILE_ERRS (n : Nat) : Nat := 0xB80 + 1 * n
def Prm.DDP_CFG (n : Nat) : Nat := 0xBC0 + 1 * n
def Prm.DDP_TIMING (n : Nat) : Nat := 0xBD0 + 1 * n
def Prm.TLK_CTRL_TIMEOUT_US : Nat := 0xBE0
def Prm.TLK_TELEM_MS : Nat := 0xBE1
def Prm.TLK_DISCOVER_MS : Nat := 0xBE2
def Prm.TLK_ZONE_TEMP_MAX : Nat := 0xBE3
def Prm.TLK_BREAK_MS : Nat := 0xBE4
def Prm.TLK_HOLDS_LO : Nat := 0xBE5
def Prm.TLK_HOLDS_HI : Nat := 0xBE6
def Prm.TLK_LATE_CONJ : Nat := 0xBE7
def Prm.TLK_SKEW_EVENTS : Nat := 0xBE8
def Prm.TLK_CTRL_FAILS : Nat := 0xBE9
def Prm.TLK_DISCOVER_CHANGES : Nat := 0xBEA
def Prm.TLK_SPLITS : Nat := 0xBEB
def Prm.TLK_RETRAINS : Nat := 0xBEC
def Prm.TLK_TILES_DRIVEN : Nat := 0xBED
def Prm.TLK_LINKS_READY_LO : Nat := 0xBEE
def Prm.TLK_LINKS_READY_HI : Nat := 0xBEF
def Prm.TLK_SKEW_HIST (n : Nat) : Nat := 0xBF0 + 1 * n
def Prm.TIM_SERVO : Nat := 0xC00
def Prm.TIM_PTP_PORTS : Nat := 0xC01
def Prm.TIM_PTP_DOMAIN : Nat := 0xC02
def Prm.TIM_PTP_PRIORITY : Nat := 0xC03
def Prm.TIM_PTP_CLASS : Nat := 0xC04
def Prm.TIM_PTP_INTERVALS : Nat := 0xC05
def Prm.TIM_PTP_ANN_TIMEOUT : Nat := 0xC06
def Prm.TIM_LOCK_NS : Nat := 0xC07
def Prm.TIM_LOCK_S : Nat := 0xC08
def Prm.TIM_UNLOCK_NS : Nat := 0xC09
def Prm.TIM_SERVO_BW_MILLIHZ : Nat := 0xC0A
def Prm.TIM_HOLDOVER_AVG_S : Nat := 0xC0B
def Prm.TIM_UTC_OFFSET : Nat := 0xC0C
def Prm.TIM_AGREE_NS : Nat := 0xC0D
def Prm.TIM_STATE_INFO : Nat := 0xC0E
def Prm.TIM_MASTER_PKG : Nat := 0xC0F
def Prm.TIM_STEPS : Nat := 0xC10
def Prm.TIM_LOCK_LOSSES : Nat := 0xC11
def Prm.TIM_SLEW_LIMIT_S : Nat := 0xC12
def Prm.TIM_MASTER_CHANGES : Nat := 0xC13
def Prm.TIM_AGREE_EVENTS : Nat := 0xC14
def Prm.TIM_GM_ID_LO : Nat := 0xC15
def Prm.TIM_GM_ID_HI : Nat := 0xC16
def Prm.TIM_OFFSET_LAST : Nat := 0xC17
def Prm.PTP_PORT_CFG (n : Nat) : Nat := 0xC20 + 16 * n
def Prm.PTP_ASYM_NS (n : Nat) : Nat := 0xC21 + 16 * n
def Prm.PTP_PORT_STATE (n : Nat) : Nat := 0xC22 + 16 * n
def Prm.PTP_MEAN_DELAY (n : Nat) : Nat := 0xC23 + 16 * n
def Prm.PTP_SYNC_RX (n : Nat) : Nat := 0xC24 + 16 * n
def Prm.PTP_FUP_RX (n : Nat) : Nat := 0xC25 + 16 * n
def Prm.PTP_DREQ_TX (n : Nat) : Nat := 0xC26 + 16 * n
def Prm.PTP_DRESP_RX (n : Nat) : Nat := 0xC27 + 16 * n
def Prm.PTP_ANN_RX (n : Nat) : Nat := 0xC28 + 16 * n
def Prm.PTP_SYNC_TX (n : Nat) : Nat := 0xC29 + 16 * n
def Prm.PTP_ANN_TX (n : Nat) : Nat := 0xC2A + 16 * n
def Prm.PTP_DREQ_RX (n : Nat) : Nat := 0xC2B + 16 * n
def Prm.PTP_DRESP_TX (n : Nat) : Nat := 0xC2C + 16 * n
def Prm.PTP_BAD_RX (n : Nat) : Nat := 0xC2D + 16 * n
def Prm.PTP_ANN_TIMEOUTS (n : Nat) : Nat := 0xC2E + 16 * n
def Prm.PTP_BMCA_CHANGES (n : Nat) : Nat := 0xC2F + 16 * n
def Prm.TPO_GROUP (n : Nat) : Nat := 0xC60 + 4 * n
def Prm.TPO_GROUP_OFS_NS (n : Nat) : Nat := 0xC61 + 4 * n
def Prm.TPO_FIRED (n : Nat) : Nat := 0xC62 + 4 * n
def Prm.TPO_LATE (n : Nat) : Nat := 0xC63 + 4 * n
def Prm.SHT_SLOT_START_0 (n : Nat) : Nat := 0xCA0 + 16 * n
def Prm.SHT_SLOT_START_1 (n : Nat) : Nat := 0xCA1 + 16 * n
def Prm.SHT_SLOT_START_2 (n : Nat) : Nat := 0xCA2 + 16 * n
def Prm.SHT_SLOT_START_3 (n : Nat) : Nat := 0xCA3 + 16 * n
def Prm.SHT_SLOT_START_4 (n : Nat) : Nat := 0xCA4 + 16 * n
def Prm.SHT_SLOT_START_5 (n : Nat) : Nat := 0xCA5 + 16 * n
def Prm.SHT_SLOT_START_6 (n : Nat) : Nat := 0xCA6 + 16 * n
def Prm.SHT_SLOT_START_7 (n : Nat) : Nat := 0xCA7 + 16 * n
def Prm.SHT_CAM_0 (n : Nat) : Nat := 0xCA8 + 16 * n
def Prm.SHT_CAM_1 (n : Nat) : Nat := 0xCA9 + 16 * n
def Prm.SHT_CAM_2 (n : Nat) : Nat := 0xCAA + 16 * n
def Prm.SHT_CAM_3 (n : Nat) : Nat := 0xCAB + 16 * n
def Prm.SHT_CAM_LEN_0 (n : Nat) : Nat := 0xCAC + 16 * n
def Prm.SHT_CAM_LEN_1 (n : Nat) : Nat := 0xCAD + 16 * n
def Prm.SHT_CAM_LEN_2 (n : Nat) : Nat := 0xCAE + 16 * n
def Prm.SHT_CAM_LEN_3 (n : Nat) : Nat := 0xCAF + 16 * n
def Prm.TRIG_CFG (n : Nat) : Nat := 0xCE0 + 4 * n
def Prm.TRIG_CAPTURES (n : Nat) : Nat := 0xCE1 + 4 * n
def Prm.TRIG_OVERRUNS (n : Nat) : Nat := 0xCE2 + 4 * n
def Prm.TRIG_FILTERED (n : Nat) : Nat := 0xCE3 + 4 * n
def Prm.AUD_CFG (n : Nat) : Nat := 0xD00 + 32 * n
def Prm.AUD_SRC (n : Nat) : Nat := 0xD01 + 32 * n
def Prm.AUD_RING_ADDR_LO (n : Nat) : Nat := 0xD02 + 32 * n
def Prm.AUD_RING_ADDR_HI (n : Nat) : Nat := 0xD03 + 32 * n
def Prm.AUD_RING_FRAMES (n : Nat) : Nat := 0xD04 + 32 * n
def Prm.AUD_PACK (n : Nat) : Nat := 0xD05 + 32 * n
def Prm.AUD_GAIN (n : Nat) : Nat := 0xD06 + 32 * n
def Prm.AUD_MUTE (n : Nat) : Nat := 0xD07 + 32 * n
def Prm.AUD_DELAY (n : Nat) : Nat := 0xD08 + 32 * n
def Prm.AUD_DELAY_TRIM_US (n : Nat) : Nat := 0xD09 + 32 * n
def Prm.AUD_RATIO_TOL_PPM (n : Nat) : Nat := 0xD0A + 32 * n
def Prm.AUD_UNMUTE_MS (n : Nat) : Nat := 0xD0B + 32 * n
def Prm.AUD_RATIO (n : Nat) : Nat := 0xD0C + 32 * n
def Prm.AUD_RATE_HZ (n : Nat) : Nat := 0xD0D + 32 * n
def Prm.AUD_DELAY_IN_FORCE (n : Nat) : Nat := 0xD0E + 32 * n
def Prm.AUD_CLOCK_LOSSES (n : Nat) : Nat := 0xD0F + 32 * n
def Prm.AUD_RATIO_ERRS (n : Nat) : Nat := 0xD10 + 32 * n
def Prm.AUD_CRCC_ERRS (n : Nat) : Nat := 0xD11 + 32 * n
def Prm.AUD_PARITY_ERRS (n : Nat) : Nat := 0xD12 + 32 * n
def Prm.AUD_BIPHASE_ERRS (n : Nat) : Nat := 0xD13 + 32 * n
def Prm.AUD_INVALID (n : Nat) : Nat := 0xD14 + 32 * n
def Prm.AUD_UNDERRUNS (n : Nat) : Nat := 0xD15 + 32 * n
def Prm.AUD_OVERRUNS (n : Nat) : Nat := 0xD16 + 32 * n
def Prm.AUD_ZC_TIMEOUTS (n : Nat) : Nat := 0xD17 + 32 * n
def Prm.AUD_CS_CHANGES (n : Nat) : Nat := 0xD18 + 32 * n
def Prm.AUD_PEAK_A (n : Nat) : Nat := 0xD19 + 32 * n
def Prm.AUD_PEAK_B (n : Nat) : Nat := 0xD1A + 32 * n
def Prm.AUD_BLOCKS (n : Nat) : Nat := 0xD1B + 32 * n
def Prm.AUD_STATE (n : Nat) : Nat := 0xD1C + 32 * n
def Prm.AUD_LAST_K (n : Nat) : Nat := 0xD1D + 32 * n
def Prm.AUD_SYS_RATE : Nat := 0xD1E
def Prm.AUD_STREAM_PACK : Nat := 0xD1F
def Prm.AUD_ZC_THRESH : Nat := 0xD3E
def Prm.AUD_PORTS_LOCKED : Nat := 0xD3F
def Prm.AUD_CLOCK_LOSSES_TOTAL : Nat := 0xD5E
def Prm.AUD_ZC_TIMEOUTS_TOTAL : Nat := 0xD5F
def Prm.AUD_UNDERRUNS_TOTAL : Nat := 0xD7E
def Prm.AUD_OVERRUNS_TOTAL : Nat := 0xD7F
def Prm.CST_CFG : Nat := 0xE00
def Prm.CST_IDLE_MS : Nat := 0xE01
def Prm.CST_SLEEP_MS : Nat := 0xE02
def Prm.CST_IDLE_EXIT_MAX_US : Nat := 0xE03
def Prm.CST_SLEEP_L1SS : Nat := 0xE04
def Prm.CST_INT_WEIGHT : Nat := 0xE05
def Prm.CST_STATE : Nat := 0xE06
def Prm.CST_EXIT_US_IDLE : Nat := 0xE07
def Prm.CST_EXIT_US_SLEEP : Nat := 0xE08
def Prm.CST_CAPACITY_LO : Nat := 0xE09
def Prm.CST_CAPACITY_HI : Nat := 0xE0A
def Prm.CST_FREE_LO : Nat := 0xE0B
def Prm.CST_FREE_HI : Nat := 0xE0C
def Prm.CST_NS_USED : Nat := 0xE0D
def Prm.CST_READ_BLOCKS_LO : Nat := 0xE0E
def Prm.CST_READ_BLOCKS_HI : Nat := 0xE0F
def Prm.CST_WRITE_BLOCKS_LO : Nat := 0xE10
def Prm.CST_WRITE_BLOCKS_HI : Nat := 0xE11
def Prm.CST_TASKS_OK : Nat := 0xE12
def Prm.CST_TASKS_FAILED : Nat := 0xE13
def Prm.CST_MEDIA_ERRS : Nat := 0xE14
def Prm.CST_ABORTS : Nat := 0xE15
def Prm.CST_GO_LOST : Nat := 0xE16
def Prm.CST_PS_ENTRIES : Nat := 0xE17
def Prm.CST_PS_EXITS : Nat := 0xE18
def Prm.CST_DELAYED_REPLIES : Nat := 0xE19
def Prm.CST_INFLIGHT_MAX : Nat := 0xE1A
def Prm.CST_SYS_NS_STATE : Nat := 0xE1B
def Prm.CST_BASELINE_GEN_LO : Nat := 0xE1C
def Prm.CST_BASELINE_GEN_HI : Nat := 0xE1D
def Prm.CST_WRITE_MBS : Nat := 0xE1E
def Prm.CST_READ_MBS : Nat := 0xE1F
def Prm.DRV_STATE (n : Nat) : Nat := 0xE20 + 16 * n
def Prm.DRV_CAP_LO (n : Nat) : Nat := 0xE21 + 16 * n
def Prm.DRV_CAP_HI (n : Nat) : Nat := 0xE22 + 16 * n
def Prm.DRV_AWUPF (n : Nat) : Nat := 0xE23 + 16 * n
def Prm.DRV_TEMP (n : Nat) : Nat := 0xE24 + 16 * n
def Prm.DRV_PCT_USED (n : Nat) : Nat := 0xE25 + 16 * n
def Prm.DRV_MEDIA_ERRS (n : Nat) : Nat := 0xE26 + 16 * n
def Prm.DRV_TIMEOUTS (n : Nat) : Nat := 0xE27 + 16 * n
def Prm.DRV_RESETS (n : Nat) : Nat := 0xE28 + 16 * n
def Prm.DRV_LAT_MAX_US (n : Nat) : Nat := 0xE29 + 16 * n
def Prm.DRV_QDEPTH (n : Nat) : Nat := 0xE2A + 16 * n
def Prm.DRV_CMD_TIMEOUT_MS (n : Nat) : Nat := 0xE2B + 16 * n
def Prm.DRV_VID (n : Nat) : Nat := 0xE2C + 16 * n
def Prm.DRV_FW_REV_LO (n : Nat) : Nat := 0xE2D + 16 * n
def Prm.DRV_FW_REV_HI (n : Nat) : Nat := 0xE2E + 16 * n
def Prm.DRV_IDLE_LAT_US (n : Nat) : Nat := 0xE2F + 16 * n
def Prm.REC_STATE (n : Nat) : Nat := 0xEA0 + 16 * n
def Prm.REC_CLIP (n : Nat) : Nat := 0xEA1 + 16 * n
def Prm.REC_FRAMES (n : Nat) : Nat := 0xEA2 + 16 * n
def Prm.REC_DROPPED (n : Nat) : Nat := 0xEA3 + 16 * n
def Prm.REC_FAILED (n : Nat) : Nat := 0xEA4 + 16 * n
def Prm.REC_HELD_SLOTS (n : Nat) : Nat := 0xEA5 + 16 * n
def Prm.REC_BYTES_LO (n : Nat) : Nat := 0xEA6 + 16 * n
def Prm.REC_BYTES_HI (n : Nat) : Nat := 0xEA7 + 16 * n
def Prm.REC_BACKLOG_US (n : Nat) : Nat := 0xEA8 + 16 * n
def Prm.REC_INDEX_EVERY (n : Nat) : Nat := 0xEA9 + 16 * n
def Prm.REC_AUDIO (n : Nat) : Nat := 0xEAA + 16 * n
def Prm.REC_RATE_MBS (n : Nat) : Nat := 0xEAB + 16 * n
def Prm.REC_NS_FULL (n : Nat) : Nat := 0xEAC + 16 * n
def Prm.REC_MEDIA_ERRS (n : Nat) : Nat := 0xEAD + 16 * n
def Prm.REC_LAST_STATUS (n : Nat) : Nat := 0xEAE + 16 * n
def Prm.REC_TAKES (n : Nat) : Nat := 0xEAF + 16 * n
def Prm.PLAY_STATE (n : Nat) : Nat := 0xEE0 + 1 * n
def Prm.MEM_MASK_LO (n : Nat) : Nat := 0xF00 + 2 * n
def Prm.MEM_MASK_HI (n : Nat) : Nat := 0xF01 + 2 * n
def Prm.MEM_MAP_STATE : Nat := 0xF16
def Prm.MEM_DEV_BASE_LO : Nat := 0xF17
def Prm.MEM_DEV_BASE_HI : Nat := 0xF18
def Prm.MEM_POOL_FREE_MIB : Nat := 0xF19
def Prm.MEM_SCRUB_PERIOD_S : Nat := 0xF1A
def Prm.MEM_CE_THRESH : Nat := 0xF1B
def Prm.MEM_PD_IDLE_NS : Nat := 0xF1C
def Prm.MEM_SR_IDLE_US : Nat := 0xF1D
def Prm.MEM_ALLOCS : Nat := 0xF1E
def Prm.MEM_SCRUB_PASSES : Nat := 0xF1F
def Prm.MEM_PORT_TARGET_NS_0 : Nat := 0xF20
def Prm.MEM_PORT_TARGET_NS_1 : Nat := 0xF21
def Prm.MEM_PORT_TARGET_NS_2 : Nat := 0xF22
def Prm.MEM_PORT_TARGET_NS_3 : Nat := 0xF23
def Prm.MEM_PORT_TARGET_NS_4 : Nat := 0xF24
def Prm.MEM_PORT_TARGET_NS_5 : Nat := 0xF25
def Prm.MEM_PORT_TARGET_NS_6 : Nat := 0xF26
def Prm.MEM_PORT_TARGET_NS_7 : Nat := 0xF27
def Prm.MEM_PORT_TARGET_NS_8 : Nat := 0xF28
def Prm.MEM_PORT_TARGET_NS_9 : Nat := 0xF29
def Prm.MEM_PORT_TARGET_NS_10 : Nat := 0xF2A
def Prm.MEM_PORT_TARGET_NS_11 : Nat := 0xF2B
def Prm.MEM_PORT_TARGET_NS_12 : Nat := 0xF2C
def Prm.MEM_PORT_TARGET_NS_13 : Nat := 0xF2D
def Prm.MEM_PORT_TARGET_NS_14 : Nat := 0xF2E
def Prm.MEM_PORT_TARGET_NS_15 : Nat := 0xF2F
def Prm.MEM_CE_TOTAL : Nat := 0xF30
def Prm.MEM_UE_TOTAL : Nat := 0xF31
def Prm.MEM_POISON_TOTAL : Nat := 0xF32
def Prm.MEM_DENY_TOTAL : Nat := 0xF33
def Prm.MEM_RAW_WAITS_LO : Nat := 0xF34
def Prm.MEM_RAW_WAITS_HI : Nat := 0xF35
def Prm.MEM_LATE_TOTAL : Nat := 0xF36
def Prm.MEM_RETRAINS : Nat := 0xF37
def Prm.MEM_PORT_LATE_0 (n : Nat) : Nat := 0xF40 + 1 * n
def Prm.MEM_PORT_MAXLAT_0 (n : Nat) : Nat := 0xF50 + 1 * n
def Prm.MEM_PORT_LATE_1 (n : Nat) : Nat := 0xF70 + 1 * n
def Prm.MEM_PORT_MAXLAT_1 (n : Nat) : Nat := 0xF80 + 1 * n
def Prm.MEM_PORT_LATE_2 (n : Nat) : Nat := 0xFA0 + 1 * n
def Prm.MEM_PORT_MAXLAT_2 (n : Nat) : Nat := 0xFB0 + 1 * n
def Prm.MEM_PORT_LATE_3 (n : Nat) : Nat := 0xFD0 + 1 * n
def Prm.MEM_PORT_MAXLAT_3 (n : Nat) : Nat := 0xFE0 + 1 * n
def Prm.MEM_STATE (n : Nat) : Nat := 0xF60 + 48 * n
def Prm.MEM_CE (n : Nat) : Nat := 0xF61 + 48 * n
def Prm.MEM_UE (n : Nat) : Nat := 0xF62 + 48 * n
def Prm.MEM_POISON (n : Nat) : Nat := 0xF63 + 48 * n
def Prm.MEM_SCRUB_UE (n : Nat) : Nat := 0xF64 + 48 * n
def Prm.MEM_SCRUB_POS (n : Nat) : Nat := 0xF65 + 48 * n
def Prm.MEM_WQ_MAX (n : Nat) : Nat := 0xF66 + 48 * n
def Prm.MEM_PD_ENTRIES (n : Nat) : Nat := 0xF67 + 48 * n
def Prm.MEM_SR_ENTRIES (n : Nat) : Nat := 0xF68 + 48 * n
def Prm.MEM_DENY (n : Nat) : Nat := 0xF69 + 48 * n
def Prm.MEM_REFRESH_2X_S (n : Nat) : Nat := 0xF6A + 48 * n
def Prm.MEM_RETRAIN (n : Nat) : Nat := 0xF6B + 48 * n
def Prm.MEM_REQS_LO (n : Nat) : Nat := 0xF6C + 48 * n
def Prm.MEM_REQS_HI (n : Nat) : Nat := 0xF6D + 48 * n
def Prm.MEM_PC_DOWN (n : Nat) : Nat := 0xF6E + 48 * n
def Prm.MEM_TRAIN_FAILS (n : Nat) : Nat := 0xF6F + 48 * n
def Prm.DMA_DESC_ERRS (n : Nat) : Nat := 0x1000 + 3 * n
def Prm.DMA_ABORTS (n : Nat) : Nat := 0x1001 + 3 * n
def Prm.DMA_MAX_SHARE (n : Nat) : Nat := 0x1002 + 3 * n
def Prm.POP_CFG (n : Nat) : Nat := 0x1100 + 1 * n
def Prm.POP_STATE (n : Nat) : Nat := 0x1140 + 1 * n
def Prm.SEC_KEY_QUOTA (n : Nat) : Nat := 0x1180 + 1 * n
def Prm.SEC_CTRL : Nat := 0x11C0
def Prm.SEC_STATE_INFO : Nat := 0x11C1
def Prm.SEC_SELFTEST_PERIOD_H : Nat := 0x11C2
def Prm.SEC_ARB_COUNT : Nat := 0x11C3
def Prm.SEC_EPOCH : Nat := 0x11C4
def Prm.SEC_FW_PREFER : Nat := 0x11C5
def Prm.SEC_FW_RUNNING : Nat := 0x11C6
def Prm.SEC_FW_RELEASE_A : Nat := 0x11C7
def Prm.SEC_FW_RELEASE_B : Nat := 0x11C8
def Prm.SEC_ARB_A : Nat := 0x11C9
def Prm.SEC_ARB_B : Nat := 0x11CA
def Prm.SEC_KEYS_USED : Nat := 0x11CB
def Prm.SEC_KEYS_FREE : Nat := 0x11CC
def Prm.POP_UNREAD_TOTAL : Nat := 0x11CD
def Prm.POP_RING_FREE : Nat := 0x11CE
def Prm.SEC_TAMPER_LAST : Nat := 0x11CF
def Prm.SEC_CO_KEY_HASH (n : Nat) : Nat := 0x11D0 + 1 * n
def Prm.SEC_ID_KEY_HASH (n : Nat) : Nat := 0x11DC + 1 * n
def Prm.SEC_SELFTEST_RUNS : Nat := 0x11E8
def Prm.SEC_SELFTEST_FAILS : Nat := 0x11E9
def Prm.SEC_ZEROISATIONS : Nat := 0x11EA
def Prm.SEC_TAMPER_EVENTS : Nat := 0x11EB
def Prm.SEC_AUTH_FAILS : Nat := 0x11EC
def Prm.SEC_FW_VERIFY_FAILS : Nat := 0x11ED
def Prm.SEC_ARB_ADVANCES : Nat := 0x11EE
def Prm.SEC_ATTESTS : Nat := 0x11EF
def Prm.SEC_SIGNATURES : Nat := 0x11F0
def Prm.SEC_KEY_IMPORTS : Nat := 0x11F1
def Prm.SEC_KEY_DESTROYS : Nat := 0x11F2
def Prm.POP_RECORDS : Nat := 0x11F3
def Prm.POP_MERGED : Nat := 0x11F4
def Prm.SEC_DRBG_RESEEDS : Nat := 0x11F5
def Prm.SEC_GCM_OPS_LO : Nat := 0x11F6
def Prm.SEC_GCM_OPS_HI : Nat := 0x11F7
def Prm.LAN_CFG_RO (n : Nat) : Nat := 0x1200 + 1 * n
def Prm.LAN_CFG_32 (n : Nat) : Nat := 0x1220 + 1 * n
def Prm.XPL_CFG (n : Nat) : Nat := 0x12A0 + 16 * n
def Prm.XPL_INFO (n : Nat) : Nat := 0x12A1 + 16 * n
def Prm.XPL_FLITS_TX_LO (n : Nat) : Nat := 0x12A2 + 16 * n
def Prm.XPL_FLITS_TX_HI (n : Nat) : Nat := 0x12A3 + 16 * n
def Prm.XPL_FLITS_RX_LO (n : Nat) : Nat := 0x12A4 + 16 * n
def Prm.XPL_FLITS_RX_HI (n : Nat) : Nat := 0x12A5 + 16 * n
def Prm.XPL_REPLAYS (n : Nat) : Nat := 0x12A6 + 16 * n
def Prm.XPL_FEC_CORR (n : Nat) : Nat := 0x12A7 + 16 * n
def Prm.XPL_FEC_UNCORR (n : Nat) : Nat := 0x12A8 + 16 * n
def Prm.XPL_RETRAINS (n : Nat) : Nat := 0x12A9 + 16 * n
def Prm.XPL_WIDTH_CHANGES (n : Nat) : Nat := 0x12AA + 16 * n
def Prm.XPL_COLLISIONS (n : Nat) : Nat := 0x12AB + 16 * n
def Prm.XPL_DOWN_EVENTS (n : Nat) : Nat := 0x12AC + 16 * n
def Prm.XPL_TOKEN_LOAD (n : Nat) : Nat := 0x12AD + 16 * n
def Prm.XPL_CLASS_DROPS (n : Nat) : Nat := 0x12AE + 16 * n
def Prm.XPL_UTIL (n : Nat) : Nat := 0x12AF + 16 * n
def Prm.XPL_TOKEN_SHARE : Nat := 0x12E0
def Prm.XPL_CKPT_SHARE : Nat := 0x12E1
def Prm.XPL_BER_MAX : Nat := 0x12E2
def Prm.XPL_REGROW_S : Nat := 0x12E3
def Prm.XPL_TOPOLOGY : Nat := 0x12E4
def Prm.XPL_PKGS : Nat := 0x12E5
def Prm.XPL_REROUTES : Nat := 0x12E6
def Prm.XPL_UNROUTABLE : Nat := 0x12E7
def Prm.XPL_DUP_IDS : Nat := 0x12E8
def Prm.LAN_OVF_TOTAL : Nat := 0x12E9
def Prm.LAN_LOS_TOTAL : Nat := 0x12EA
def Prm.LAN_INVERTED : Nat := 0x12EB
def Prm.LAN_OCTET (n : Nat) : Nat := 0x12EC + 1 * n
def Prm.FLT_CTRL : Nat := 0x1300
def Prm.FLT_FENCE_WINDOW_S : Nat := 0x1301
def Prm.FLT_RETEST_S : Nat := 0x1302
def Prm.FLT_RETEST_MAX : Nat := 0x1303
def Prm.FLT_RETURN_MAX_24H : Nat := 0x1304
def Prm.FLT_ECLIPSE_S : Nat := 0x1305
def Prm.FLT_PAIR_CFG : Nat := 0x1306
def Prm.FLT_PAIR_DETECT_US : Nat := 0x1307
def Prm.FLT_PAIR_RING_US : Nat := 0x1308
def Prm.FLT_PAIR_SWAP_S : Nat := 0x1309
def Prm.FLT_PAIR_SWAP_PHASE_S : Nat := 0x130A
def Prm.FLT_PAIR_REVERT_S : Nat := 0x130B
def Prm.FLT_PAIR_WARM_FRAMES : Nat := 0x130C
def Prm.FLT_RX_TOTAL : Nat := 0x130D
def Prm.FLT_RX_HOLDS : Nat := 0x130E
def Prm.FLT_FENCES : Nat := 0x130F
def Prm.FLT_RETURNS : Nat := 0x1310
def Prm.FLT_RETEST_FAILS : Nat := 0x1311
def Prm.FLT_ECLIPSES : Nat := 0x1312
def Prm.FLT_ECLIPSE_FAILS : Nat := 0x1313
def Prm.FLT_ECLIPSE_DEFERRED : Nat := 0x1314
def Prm.FLT_TAKEOVERS : Nat := 0x1315
def Prm.FLT_SWAPS : Nat := 0x1316
def Prm.FLT_SWAP_ABORTS : Nat := 0x1317
def Prm.FLT_CKPT_MISSED : Nat := 0x1318
def Prm.FLT_PAIR_DECLINED : Nat := 0x1319
def Prm.FLT_SCRUB_REPAIRS : Nat := 0x131A
def Prm.FLT_POISON_HOLDS : Nat := 0x131B
def Prm.FLT_CTX_QUARANTINES : Nat := 0x131C
def Prm.FLT_MIDBURST_DISCARDS : Nat := 0x131D
def Prm.FLT_YIELDS : Nat := 0x131E
def Prm.FLT_PAIR_FWD_MBS : Nat := 0x131F
def Prm.FLT_RX (n : Nat) : Nat := 0x1320 + 1 * n
def Prm.PLN_STATE : Nat := 0x13A0
def Prm.PLN_RECOVERY_MAX : Nat := 0x13A1
def Prm.PLN_RECOVERY_WINDOW_S : Nat := 0x13A2
def Prm.PLN_RECOVERIES : Nat := 0x13A3
def Prm.PLN_LAST_MS : Nat := 0x13A4
def Prm.PLN_HANDOVERS : Nat := 0x13A5
def Prm.PLN_GIVEUPS : Nat := 0x13A6
def Prm.PLN_HIST (n : Nat) : Nat := 0x13A7 + 1 * n
def Prm.PLN_QUEUED_REPAIRS : Nat := 0x13AF
def Prm.FLT_POISON_LO (n : Nat) : Nat := 0x13B0 + 2 * n
def Prm.FLT_POISON_HI (n : Nat) : Nat := 0x13B1 + 2 * n
def Prm.FLT_PAIR_STATE : Nat := 0x13D0
def Prm.FLT_CKPT_SEQ_LO : Nat := 0x13D1
def Prm.FLT_CKPT_SEQ_HI : Nat := 0x13D2
def Prm.FLT_CKPT_BYTES : Nat := 0x13D3
def Prm.FLT_CKPT_US_MAX : Nat := 0x13D4
def Prm.FLT_CKPT_LATE : Nat := 0x13D5
def Prm.FLT_PAIR_HB_LOST : Nat := 0x13D6
def Prm.FLT_PAIR_WARM_MISMATCH : Nat := 0x13D7
def Prm.FLT_PAIR_SWAP_FRAME_LO : Nat := 0x13D8
def Prm.FLT_PAIR_SWAP_FRAME_HI : Nat := 0x13D9
def Prm.FLT_PAIR_BENDS_SERVED : Nat := 0x13DA
def Prm.FLT_PAIR_MIRROR_PENDING : Nat := 0x13DB
def Prm.FLT_PAIR_MIRROR_LATE : Nat := 0x13DC
def Prm.FLT_PAIR_HEALTHY_S : Nat := 0x13DD
def Prm.FLT_PAIR_LAST_CAUSE : Nat := 0x13DE
def Prm.FLT_PAIR_TAKEOVER_US_MAX : Nat := 0x13DF
def Prm.FLT_RX_REGION (n : Nat) : Nat := 0x13E0 + 1 * n
def Prm.THM_GRACE_MS : Nat := 0x1400
def Prm.VCORE_MODE : Nat := 0x1401
def Prm.VCORE_FIXED_MV : Nat := 0x1402
def Prm.THROUGHPUT_TARGET : Nat := 0x1403
def Prm.PACE_MARGIN : Nat := 0x1404
def Prm.THM_RELEASE_C : Nat := 0x1405
def Prm.THM_RELEASE_S : Nat := 0x1406
def Prm.THM_TARGET_STEP : Nat := 0x1407
def Prm.THM_CLUSTER_STOP_C : Nat := 0x1408
def Prm.THM_REQ_STATE : Nat := 0x1409
def Prm.THM_TARGET_FRACTION : Nat := 0x140A
def Prm.THM_SHED_LEVEL : Nat := 0x140B
def Prm.THM_TJ_MAX : Nat := 0x140C
def Prm.THM_TJ_LIFE_AVG : Nat := 0x140D
def Prm.THM_LIFE_HOURS : Nat := 0x140E
def Prm.PWR_PACKAGE_W : Nat := 0x140F
def Prm.PMB_ADDR_P0 : Nat := 0x1410
def Prm.PMB_ADDR_P1 : Nat := 0x1411
def Prm.PMB_ADDR_P2 : Nat := 0x1412
def Prm.PMB_ADDR_P3 : Nat := 0x1413
def Prm.PWR_LIMIT_W : Nat := 0x1414
def Prm.THM_ALERT_CFG : Nat := 0x1415
def Prm.THM_REQUESTS : Nat := 0x1416
def Prm.THM_ENFORCEMENTS : Nat := 0x1417
def Prm.THM_RELEASES : Nat := 0x1418
def Prm.THM_UNIT_SHUTDOWNS : Nat := 0x1419
def Prm.THM_CLUSTER_STOPS : Nat := 0x141A
def Prm.THM_CONV_OVERRUNS : Nat := 0x141B
def Prm.PWR_MON_EVENTS : Nat := 0x141C
def Prm.PWR_LIMIT_EVENTS : Nat := 0x141D
def Prm.THM_PIN_FAULTS : Nat := 0x141E
def Prm.THM_STEER_FAULTS : Nat := 0x141F
def Prm.PWR_MON_LO (n : Nat) : Nat := 0x1420 + 2 * n
def Prm.PWR_MON_HI (n : Nat) : Nat := 0x1421 + 2 * n
def Prm.PWR_MON_LO_16 (n : Nat) : Nat := 0x1440 + 2 * n
def Prm.PWR_MON_HI_16 (n : Nat) : Nat := 0x1441 + 2 * n
def Prm.PWR_MON_LO_30 (n : Nat) : Nat := 0x145C + 2 * n
def Prm.PWR_MON_HI_30 (n : Nat) : Nat := 0x145D + 2 * n
def Prm.PWR_MON_LO_40 (n : Nat) : Nat := 0x1470 + 2 * n
def Prm.PWR_MON_HI_40 (n : Nat) : Nat := 0x1471 + 2 * n
def Prm.PWR_MON_LO_44 (n : Nat) : Nat := 0x1478 + 2 * n
def Prm.PWR_MON_HI_44 (n : Nat) : Nat := 0x1479 + 2 * n
def Prm.PWR_MON_LO_46 (n : Nat) : Nat := 0x147C + 2 * n
def Prm.PWR_MON_HI_46 (n : Nat) : Nat := 0x147D + 2 * n
def Prm.THM_DIODE (n : Nat) : Nat := 0x1480 + 1 * n
def Prm.THM_MISC (n : Nat) : Nat := 0x14A0 + 1 * n
def Prm.THM_REGION_TJ (n : Nat) : Nat := 0x14D0 + 1 * n
def Prm.PWR_RAIL_W (n : Nat) : Nat := 0x14E0 + 1 * n
def Prm.THM_PIN_FAULT (n : Nat) : Nat := 0x14EA + 1 * n
def Prm.THM_SHED (n : Nat) : Nat := 0x14ED + 1 * n

end Sys2Proof.Machine
end

