-- ==== Sys2Proof/Machine/State.lean ====
section
/-! DEFINITION. The state of the block, every register, parameter, memory, queue, counter, mode and pin that spec/ gives
it, as plain data; the reasons a command can stop; and the state right after reset. -/
namespace Sys2Proof.Machine

/-- Why the block stops with a fault. No rule of spec/ stops the whole block, so no command raises one: the type has the
one constructor that the interface needs. Safe. -/
inductive Fault where
  /-- Raised by no command. Safe. -/
  | halted
  deriving DecidableEq, Repr

/-- Why a command has no meaning. -/
inductive Refusal where
  /-- Raised by Dispatch for a row that has no meaning yet. Safe. -/
  | notModelled (mnemonic : String)
  deriving DecidableEq, Repr

/-- A sparse map from numbers to values: entries in rising order of key. -/
structure FMap (α : Type) where
  entries : List (Nat × α)
  deriving DecidableEq, Repr

/-- A byte memory: (address, byte) pairs, addresses strictly rising, no entry 0; an unlisted address reads 0. -/
abbrev Mem := List Host.Cell

/-- What the block sends to the outside, in order (lanes, pins, the endpoint). -/
inductive Out where
  /-- One MSI-X message to a vector of a function (R152). -/
  | msix (f vec : Nat)
  /-- A PMBus command of the VCORE of a pixel die in mV (R81). -/
  | pmbus (die mv : Nat)
  /-- A packet of a port: kind 0 SAL back channel, 1 Tile Link, 2 Ethernet, 3 XPL by link (by package for forwarded commands and
  answers and for messages of a pair), 4 NVMe command, 5 audio frame, 6 PTP message, 7 direct drive frame, 8 line data to a
  memory port. -/
  | packet (kind port : Nat) (bytes : Bytes)
  /-- A pin drive: pin number of the table of R749 (0 to 67), level. -/
  | pin (n : Nat) (level : Bool)
  /-- A latch pulse of a direct drive port at a device time in 2^-16 ns; true for a configuration frame (R512, R513). -/
  | ddpLatch (port time : Nat) (cfg : Bool)
  /-- The value a host read answers: function, BAR0 offset, word (R133). -/
  | readData (f off : Nat) (v : Word)
  /-- A raw line delivered to the front end of a sensor (R177): samples with the mark of R178. -/
  | rawLine (sensor frame line : Nat) (samples : List (Nat × Bool))
  /-- One token passed on by a unit: physical index, pipeline, its four pixels (R23). -/
  | token (unit pipe frame y x : Nat) (data : BitVec 256)
  deriving DecidableEq, Repr

/-! ### Armature, mailboxes, commits, aborts (chapter 03) -/

/-- The Armature's copy of a command area (R96) with the doorbell's sequence. -/
structure Cmd where
  opcode : Nat
  flags : Nat
  seq : Nat
  len : Nat
  /-- TICKET and the reserved header bytes are all 0 (R91). -/
  clean : Bool
  payload : Bytes
  dbSeq : Nat
  deriving DecidableEq, Repr

/-- A ticket of a function (R101 to R104). -/
structure Ticket where
  id : Nat
  opcode : Nat
  poll : Bool
  payload : Bytes
  done : Bool
  status : Nat
  result : Bytes
  /-- Completion order (R110). -/
  order : Nat
  /-- Its work is past its point of no return (R125). -/
  pnr : Bool
  deriving DecidableEq, Repr

/-- The Armature's side of one mailbox. -/
structure Mbx where
  rung : Option Cmd
  /-- The next command is accepted whatever its sequence (R94). -/
  anySeq : Bool
  /-- The stored response of the last command accepted (R93): header and payload. -/
  stored : Bytes
  nextTicket : Nat
  tickets : List Ticket
  deriving DecidableEq, Repr

/-- The command in service: whose it is, and the rights it acts with. -/
structure Svc where
  f : Nat
  cmd : Cmd
  /-- A command forwarded over XPL: (sending PKG_ID, function, rights granted) (R43). -/
  remote : Option (Nat × Nat × Nat)
  deriving DecidableEq, Repr

/-- One item of a staged set: a parameter, or an object (a table, descriptor or rule) by kind and index;
none clears the object. -/
inductive Staged where
  | prm (id : Nat) (v : Word)
  | obj (kind idx : Nat) (data : Option Bytes)
  deriving DecidableEq, Repr

/-- A commit from its acceptance to its boundary (R112 to R120). -/
structure Commit where
  ticket : Nat
  poll : Bool
  group : Nat
  requested : Nat
  next : Bool
  late : Bool
  items : List Staged
  /-- Uptime at which it was armed for its boundary (R117). -/
  armed : Option Nat
  /-- Order of validation, 0 before it (R119). -/
  order : Nat
  deriving DecidableEq, Repr

/-- An abort in progress and the one queued behind it (R124). -/
structure Abort where
  /-- RESULT as settled when the stop inputs were asserted (R126). -/
  result : Nat
  queued : Option (Nat × Nat)
  /-- A reset is in progress: ABT_CTRL returns to reset when the last abort completes (R802). -/
  reset : Bool
  deriving DecidableEq, Repr

/-- The Armature (chapter 03). -/
structure Arm where
  boxes : FMap Mbx
  staged : FMap (List Staged)
  commits : FMap Commit
  /-- Group frame at which the last commit of each function was applied. -/
  lastApplied : FMap Nat
  aborts : FMap Abort
  inService : Option Svc
  lastServed : Nat
  /-- Mailbox service runs. -/
  serving : Bool
  /-- The cores are halted or recovering (R89). -/
  halted : Bool
  /-- Cause of the recovery in progress: 1 mismatch, 2 watchdog, 3 verify fail, 4 ARM_REBOOT. -/
  cause : Nat
  /-- Image slot running: false A, true B (R87). -/
  slotB : Bool
  /-- Both images failed, or recoveries stopped: every mailbox answers ST_SELFTEST_FAIL (R88, R712). -/
  dead : Bool
  /-- Counts completions and validations, to order them. -/
  clock : Nat
  deriving DecidableEq, Repr

/-! ### Thermal and power (chapters 02 and 22) -/

structure Thm where
  /-- The next orbit channel (R733). -/
  nextChan : Nat
  /-- A host-triggered conversion that waits: its channel (R734). -/
  conv : Option Nat
  /-- Consecutive orbits with the power estimate above PWR_LIMIT_W (R737). -/
  overOrbits : Nat
  /-- Units bound when the request was raised, and the step of TARGET that it took (R737, R741). -/
  n0 : Nat
  step : Nat
  /-- Uptime since which Tj has stayed below THM_RELEASE_C (R739). -/
  coolSince : Option Nat
  /-- Uptime since which the power estimate has stayed below PWR_LIMIT_W (R739). -/
  powSince : Option Nat
  /-- The grace time has ended. -/
  graceOver : Bool
  /-- Restoration after enforcement is under way (R743). -/
  restoring : Bool
  /-- Clusters stopped under R745. -/
  stopped : List Nat
  /-- Uptime since which a stopped cluster's summary has stayed below THM_RELEASE_C. -/
  stopCool : FMap Nat
  /-- Temperature equivalent of each unit at its last window, 1/16 °C + 1024 (R72). -/
  unitTemp : FMap Nat
  /-- Hours since the ageing term was last re-anchored count from this uptime (R72). -/
  anchor : Nat
  /-- Failed VCORE attempts in a row per die (R83). -/
  vfail : FMap Nat
  /-- Steering of the die has stopped until a commit (R83). -/
  steerOff : List Nat
  /-- ALERT_N asserted for a throttle request and for a supply excursion. -/
  alertThrottle : Bool
  alertSupply : Bool
  /-- Shed level at which the units were last bound (R740). -/
  shedAt : Nat
  deriving DecidableEq, Repr

/-! ### Units, clusters, sentinels, pairs (chapters 01 and 21) -/

/-- Fault history of one physical slot. -/
structure UnitF where
  lastFault : Option Nat
  /-- Role the slot held when it was fenced (R703). -/
  role : Nat
  returns : List Nat
  retestFails : Nat
  /-- Stays fenced until FLT_UNFENCE (R703, R704). -/
  noRetest : Bool
  testing : Bool
  /-- FLT_FENCE: fenced at the next frame start of its role. -/
  wantFence : Bool
  /-- Takes its role back at the next frame start (R703). -/
  wantReturn : Bool
  /-- It returns through FLT_UNFENCE, which R704 does not count. -/
  unfenced : Bool
  /-- It shut itself down (R746): its retest waits for its cluster to cool. -/
  hot : Bool
  /-- The token in its buffer, kept until acknowledged (R23), and how often it was refused. -/
  token : Option (BitVec 256)
  refused : Nat
  deriving DecidableEq, Repr

/-- A re-execution in a cluster (R696). -/
structure Reexec where
  role : Nat
  slot : Nat
  loaded : Bool
  deriving DecidableEq, Repr

structure ClusterF where
  reexec : Option Reexec
  /-- A rotation whose spare is testing: the role chosen (R707). -/
  rotation : Option Nat
  /-- Role rotated last (R706). -/
  lastRole : Option Nat
  deriving DecidableEq, Repr

/-- What a logical unit is bound to (R25): pipeline number, stage code (R803), owner, and what a frame start of its pipeline is
(R696): a sensor 0 to 7, 64 + an output group, or 255 for any group's boundary. -/
structure Binding where
  pipe : Nat
  stage : Nat
  owner : Nat
  start : Nat
  deriving DecidableEq, Repr

/-- A checkpoint of a pair (R720). -/
structure Checkpoint where
  seq : Nat
  group : Nat
  frame : Nat
  content : Bytes
  deriving DecidableEq, Repr

structure Flt where
  units : FMap UnitF
  clusters : FMap ClusterF
  /-- Bindings of logical units of the configuration in force. -/
  bind : FMap Binding
  /-- Roles with no slot, moved by R29: logical unit to the logical unit that serves it. -/
  moved : FMap Nat
  /-- Shadow of each bound unit (R697): the last acknowledged token and its context words. -/
  shadow : FMap (BitVec 256)
  /-- Owner of the last binding of each logical unit, whose token buffer it may still hold (R25). -/
  lastOwner : FMap Nat
  /-- Line stores: pixels that a stage holds, by (((32 * kind + index of its pipeline) * 16 + place in it) * 2^15 + row) * 2^15 + column. -/
  lines : FMap Nat
  /-- Quarantined contexts: whether each was enabled (R716). -/
  quarantine : FMap Bool
  /-- Missed checks of the P2 sentinel in a row (R711). -/
  missed : Nat
  /-- Uptimes of the recoveries (R712). -/
  recoveries : List Nat
  /-- Lines waiting for repair (R713), with the owner row. -/
  queue : List (Nat × Nat)
  checkpoints : List Checkpoint
  /-- Items sent to the standby and not acknowledged (R719): sequence and the function whose commit waits. -/
  mirror : List (Nat × Nat)
  mirrorSeq : Nat
  /-- Heartbeats still withheld by an injection (FLT_INJECT kind 4). -/
  beatHold : Nat
  /-- The active has been declared failed, and the takeover is to come (R721, R723). -/
  declared : Bool
  /-- Bytes of lamp data forwarded in the second in progress (R725). -/
  forwarded : Nat
  /-- A planned swap (R726): frames of the warm-up still to come, then the frame it takes place at. -/
  warm : Option Nat
  swap : Option Nat
  swapTicket : Option (Nat × Nat)
  /-- Uptime at which this package became a healthy standby (R727). -/
  healthy : Option Nat
  deriving DecidableEq, Repr

/-! ### Lanes and package links (chapter 20) -/

structure XplLink where
  /-- Width of our request outstanding (R689); none if none. -/
  request : Option Nat
  /-- A full retrain and not a width change. -/
  full : Bool
  agreed : Nat
  /-- The retry 10 µs after a collision is due (R689). -/
  retry : Bool
  fails : Nat
  /-- Next receive sequence (R682). -/
  rxSeq : Nat
  txSeq : Nat
  /-- Flits sent and not acknowledged, oldest first (R682). -/
  replay : List (Nat × Bytes)
  /-- Uncorrectable codewords of each lane in this second (R688). -/
  uncorr : FMap Nat
  /-- Flits sent when this second began. -/
  mark : Nat
  deriving DecidableEq, Repr

structure Lan where
  links : FMap XplLink
  /-- The graph of the system: (package, link, package, link) (R686). -/
  graph : List (Nat × Nat × Nat × Nat)
  /-- Committed class 1 routes: (source package, destination package, link) (R44, R687). -/
  routes : List (Nat × Nat × Nat)
  deriving DecidableEq, Repr

/-! ### Boot, NVS, OTP, pins (chapters 23 and 25) -/

structure NvsBank where
  valid : Bool
  seq : Nat
  prms : FMap Word
  objs : FMap Bytes
  deriving DecidableEq, Repr

/-- A firmware image in the SPI NOR (chapter 19): its signature and digest verify; signed for development; its header fields. -/
structure FwImage where
  good : Bool
  dev : Bool
  release : Nat
  arb : Nat
  /-- SHA-384 of the body; empty for the image of manufacture, whose digest the spec does not give. -/
  digest : Bytes
  deriving DecidableEq, Repr

structure Nvs where
  a : NvsBank
  b : NvsBank
  /-- The selected bank: some false A, some true B (R763). -/
  sel : Option Bool
  lastWrite : Option Nat
  /-- Values of Next boot parameters that the next bank write takes up. -/
  owed : FMap Word
  /-- The content a bank write in progress carries (R764). -/
  writing : Option NvsBank
  deferred : Bool
  /-- The event-record ring: slot to the 64 bytes of its record (R766). -/
  ring : FMap Bytes
  nextRec : Nat
  bootCount : Nat
  /-- Lifetime mean of Tj in 1/16 °C + 1024 times the hours it covers, and powered hours (R750). -/
  lifeSum : Nat
  lifeHours : Nat
  /-- Firmware images A and B. -/
  fwA : FwImage
  fwB : FwImage
  /-- Enrolled User keys by function (R644, R646). -/
  users : FMap Bytes
  /-- Number of the identity key, and of the proof-of-play key; none after zeroisation (R657, R658). -/
  idKey : Option Nat
  /-- The identity key's certificate is loaded, and the chain as SEC_ID_CERT took it; empty for the chain of manufacture. -/
  certOk : Bool
  cert : Bytes
  /-- The answer of a PRM_SET that waits for its bank write (R109, R146): status and payload. -/
  reply : Option (Nat × Bytes)
  deriving DecidableEq, Repr

/-- One-time-programmable content and what is fused at manufacture. No reset clears it (R767). -/
structure Otp where
  grade : Nat
  serial : Nat
  epoch : Nat
  arb : Nat
  coKey : Option Bytes
  mac : Nat
  deriving DecidableEq, Repr

/-- Levels at the reset and strap balls (chapter 25). -/
structure Pins where
  sysPwrok : Bool
  pkgResetN : Bool
  hostPerstN : Bool
  zeroiseN : Bool
  strapPkg : Nat
  strapTest : Bool
  deriving DecidableEq, Repr

structure Boot where
  /-- Pixel dies that failed the boot self-test (R38). -/
  excluded : List Nat
  firstImage : Bool
  timeWaited : Bool
  /-- Uptime at which SYS_PWROK rose. -/
  riseAt : Nat
  debug : Bool
  /-- Functions whose Bus Master Enable the host has cleared (R639; notes/assumptions/82). -/
  masterOff : List Nat
  deriving DecidableEq, Repr

/-! ### Sensors (chapter 05) -/

/-- A back-channel command outstanding on a SAL port (R185, R186). -/
structure BcCmd where
  tag : Nat
  owner : Nat
  ticket : Nat
  /-- Message kind: 1 REG_WRITE, 2 REG_READ. -/
  kind : Nat
  sensor : Nat
  count : Nat
  packet : Bytes
  /-- Times sent. -/
  sent : Nat
  deriving DecidableEq, Repr

structure SalPort where
  /-- Consistent ALIGN columns in a row (R190). -/
  columns : Nat
  /-- PKT_SEQ of the last packet received, and of the next one sent (R168). -/
  rxSeq : Option Nat
  txSeq : Nat
  tag : Nat
  bc : Option BcCmd
  deriving DecidableEq, Repr

/-- One half of a sensor's lines: an unpaired sensor uses the first half only (R173). -/
structure SnsHalf where
  /-- Line and column expected next, and whether EOF came. -/
  line : Nat
  col : Nat
  eof : Bool
  deriving DecidableEq, Repr

/-- What SAL_FRAME_INFO tells of a frame (R187). -/
structure FrameInfo where
  frame : Nat
  incomplete : Bool
  sizeErr : Bool
  early : Bool
  metaTrunc : Bool
  tsValid : Bool
  ts : Nat
  metaLen : Nat
  statLen : Nat
  deriving DecidableEq, Repr

/-- Statistics of one frame as they accumulate (R225 to R229). -/
structure StatAcc where
  /-- Histogram bins: 2048 * k + bin with k = 0 R, 1 G, 2 B, 3 C, 4 I. -/
  hist : FMap Nat
  /-- Luma cells: 8 * cell + j with j = 0 to 2 the sums and 3 to 5 the counts of R, G, B (R227). -/
  cells : FMap Nat
  /-- Zones: 16 * (5 * zone + channel) + j with j = 0 sum, 1 count, 2 saturated (R229). -/
  zones : FMap Nat
  filled : Nat
  dynCount : Nat
  dynList : List Nat
  uncorrected : Nat
  deriving DecidableEq, Repr

structure Sns where
  /-- The frame in progress; none between frames. -/
  frame : Option Nat
  /-- The number of the last frame that started, once there was one. -/
  prev : Option Nat
  /-- The frame's packets are discarded (R181). -/
  early : Bool
  lastSof : Option Nat
  lo : SnsHalf
  hi : SnsHalf
  /-- Samples received and not yet delivered: line * 32768 + column. -/
  got : FMap Nat
  /-- Lines delivered, and the last lines as delivered (R177, R178). -/
  deliv : Nat
  recent : FMap (List Nat)
  incomplete : Bool
  sizeErr : Bool
  /-- The last 8 frames, the newest first. -/
  info : List FrameInfo
  /-- Triggers (R191 to R194): sequence running, its frame has started, pending capture, blocks to send, count. -/
  running : Bool
  seqFrame : Bool
  pending : Option Nat
  sends : List (Nat × Bool)
  count : Nat
  /-- Statistics by frame, frames since the last record, records written (R230, R231). -/
  stats : FMap StatAcc
  /-- Frames whose record is due: frame, flags, time-stamp. -/
  due : List (Nat × Bool × Nat)
  divider : Nat
  records : Nat
  lastStat : Nat
  /-- E136 was raised for the frame. -/
  dynOver : Bool
  deriving DecidableEq, Repr

/-! ### Camera tables and outputs (chapters 06 and 07) -/

/-- A scaled output (0 to 15) or a triad (16, 17). -/
structure CamOut where
  /-- The sensor frame it is producing. -/
  cur : Option Nat
  /-- Frames begun and complete. -/
  seq : Nat
  done : Nat
  /-- Largest and summed light level of the frame in cd/m², and pixels counted (R271). -/
  maxLl : Nat
  sumLl : Nat
  pixels : Nat
  /-- A released triad stops at the next frame start (R279). -/
  stop : Bool
  deriving DecidableEq, Repr

structure Cam where
  sal : FMap SalPort
  sns : FMap Sns
  outs : FMap CamOut
  /-- Parameters and tables in effect for the frame in progress of their sensor (R236, R281), by ID and by object key. -/
  active : FMap Word
  tables : FMap Bytes
  deriving DecidableEq, Repr

/-! ### Cast (chapter 08) -/

/-- A run of a run job (R317). -/
structure CastRun where
  ticket : Nat
  inAddr : Nat
  inLen : Nat
  outAddr : Nat
  limit : Nat
  pitch : Nat
  /-- Order of its doorbell (R307). -/
  order : Nat
  started : Bool
  deriving DecidableEq, Repr

/-- A frame that a record job has accepted (R313): samples by plane * 2^30 + line * 2^15 + column. -/
structure CastFrame where
  frame : Nat
  ts : Nat
  samples : FMap Nat
  deriving DecidableEq, Repr

/-- A frame arriving over RTP (R320): its timestamp and its bytes. -/
structure CastRx where
  ts : Nat
  bytes : FMap Byte
  deriving DecidableEq, Repr

structure CastJob where
  kind : Nat
  owner : Nat
  /-- Engines asked for, and held or running. -/
  want : Nat
  engines : List Nat
  level : Nat
  delta : Nat
  fmt : Nat
  depth : Nat
  pw : Nat
  ph : Nat
  width : Nat
  height : Nat
  sliceLines : Nat
  reset : Nat
  raw : Option Nat
  slots : Nat
  ring : Nat
  slotSize : Nat
  done : Nat
  failed : Nat
  dropped : Nat
  /-- WRITE_SEQ of the last slot, and FRAME_SEQ of the next frame. -/
  writeSeq : Nat
  frameSeq : Nat
  run : Option CastRun
  frames : List CastFrame
  rx : Option CastRx
  /-- CAST_CLOSE waits for the frame in progress: its ticket. -/
  closing : Option Nat
  deriving DecidableEq, Repr

structure Cast where
  jobs : FMap CastJob
  doorbells : Nat
  deriving DecidableEq, Repr

/-! ### Streams (chapter 09) -/

/-- The counters of a context (STR_CTX_INFO). -/
structure StrCnt where
  packets : Nat
  bytes : Nat
  frames : Nat
  incomplete : Nat
  lost : Nat
  dups : Nat
  malformed : Nat
  policed : Nat
  auth : Nat
  disabled : Nat
  misses : Nat
  deriving DecidableEq, Repr

/-- One path of a context. -/
structure StrPath where
  up : Bool
  /-- Uptime of its last accepted packet. -/
  last : Nat
  /-- Its token bucket in 10^-6 bit, and the uptime of that level. -/
  level : Nat
  levelAt : Nat
  deriving DecidableEq, Repr

/-- A frame being received: RTP timestamp, slot record number, arrival of its first packet, packets missing. -/
structure StrRx where
  ts : Nat
  seq : Nat
  first : Nat
  gap : Bool
  deriving DecidableEq, Repr

/-- A frame in the pacing buffer of an egress context. -/
structure StrTx where
  frame : Nat
  ts : Nat
  /-- Samples by plane, line and column; or the bytes of a Cast frame. -/
  samples : FMap Nat
  bytes : Bytes
  /-- The next line and sample group, or the next byte. -/
  line : Nat
  pos : Nat
  deriving DecidableEq, Repr

structure StrCtx where
  owner : Nat
  desc : Bytes
  enabled : Bool
  /-- Disabled by an abort or a withdrawal (R339). -/
  barred : Bool
  pinned : Bool
  a : StrPath
  b : StrPath
  cnt : StrCnt
  lastTs : Nat
  arrival : Nat
  /-- Highest extended RTP sequence accepted and those seen in the window (R355). -/
  high : Option Nat
  seen : List Nat
  /-- Current and next key; highest counter authenticated and those seen; next counter to send (R357 to R359). -/
  key : Nat
  nextKey : Nat
  ctrHigh : Option Nat
  ctrSeen : List Nat
  ctrNext : Nat
  rx : Option StrRx
  /-- Slots written, and the number of the last complete frame. -/
  writeSeq : Nat
  lastDone : Nat
  /-- Extended RTP sequence at which the last frame ended (R354). -/
  base : Option Nat
  tx : Option StrTx
  rtpSeq : Nat
  deriving DecidableEq, Repr

/-- A packet that waits for a context miss: its port, context, arrival time and bytes. -/
structure Waiting where
  port : Nat
  ctx : Nat
  arrived : Nat
  bytes : Bytes
  deriving DecidableEq, Repr

structure Str where
  ctxs : FMap StrCtx
  /-- Cached contexts, the most recently used first (R340). -/
  cache : List Nat
  waiting : List Waiting
  /-- Misses in the 1 ms window in progress (R343). -/
  missWin : Nat
  deriving DecidableEq, Repr
/-! ### The wall (chapter 10) -/

/-- What a layer in force is doing. -/
structure LayerSt where
  /-- Switched off for the rest of the frame (R404). -/
  off : Bool
  lost : Bool
  /-- A fallback pattern engine is shown (R405). -/
  fallback : Bool
  aliased : Bool
  filter : Nat
  late : Nat
  /-- WRITE_SEQ of the slot held (R392), and of the last one shown. -/
  held : Option Nat
  /-- Boundaries without a new complete frame (R405). -/
  stale : Nat
  ahead : Nat
  /-- Shed by the throttle (R740), since a boundary of its group. -/
  shed : Bool
  deriving DecidableEq, Repr

/-- A conjunction that a group owes (R396, R398). -/
structure Latch where
  slot : Nat
  band : Option Nat
  time : Nat
  /-- The frame is a HOLD frame (R393). -/
  hold : Bool
  /-- It comes from CMD_LATCH (R492). -/
  cmd : Bool
  /-- Tiles whose conjunction is still owed. -/
  todo : List Nat
  deriving DecidableEq, Repr

/-- A CMD_PUSH whose lamps are not all sent: its ticket and the rectangle (R402). -/
structure Push where
  f : Nat
  ticket : Nat
  payload : Bytes
  deriving DecidableEq, Repr

structure GroupSt where
  /-- Device time of the last boundary. -/
  last : Option Nat
  /-- The frame is a HOLD frame (R393). -/
  hold : Bool
  /-- Waits for the next start of frame of the chase layer (R400). -/
  waits : Bool
  latches : List Latch
  /-- Capture frame that the camera layers of the group show. -/
  shown : Option Nat
  deriving DecidableEq, Repr

structure Wall where
  layers : FMap LayerSt
  groups : FMap GroupSt
  pushes : List Push
  /-- Misses of tile entries in the 1 ms window in progress (R374), and the entries cached, the most recently used first. -/
  missWin : Nat
  tiles : List Nat
  /-- Pixels of the wall layer outputs in the frame in progress: output * 2^32 + row * 2^16 + column. -/
  pix : FMap Nat
  deriving DecidableEq, Repr

/-! ### Patina (chapter 11) -/

/-- A patina bank (R415): records, drive entries and tile drive entries; an entry not listed is all 0. -/
structure PatBank where
  recs : FMap Bytes
  drive : FMap Bytes
  tile : FMap Bytes
  deriving DecidableEq, Repr

/-- What one group reads (R417, R427, R437), and its counts of the frame in progress. -/
structure PatGroup where
  /-- Reads bank B. -/
  bankB : Bool
  /-- Correction tables in effect: 256 * kind + index. -/
  tabs : FMap Bytes
  /-- Sampled temperatures: 16 * tile + zone. -/
  temps : FMap Nat
  matrixSat : Nat
  tempClips : Nat
  limited : Nat
  libSkips : Nat
  /-- Emitters sent 65,535 by type, and emitters saturated by link (64 + link). -/
  sat : FMap Nat
  /-- A lamp has held because of a poisoned line (R714). -/
  poisoned : Bool
  deriving DecidableEq, Repr

structure Pat where
  a : PatBank
  b : PatBank
  /-- Bank B is active. -/
  activeB : Bool
  /-- Writer of the inactive bank: 0 none, 1 load, 2 libration, 3 sync. -/
  writer : Nat
  /-- A switch is armed or applied and groups still have to switch. -/
  switching : Bool
  switched : List Nat
  /-- The switch comes from a PAT_LOAD, and not from libration. -/
  fromLoad : Bool
  gen : Nat
  /-- The device's copy of the baseline records (R420, R469). -/
  baseline : FMap Bytes
  /-- Temperature last reported, and its uptime: 16 * tile + zone. -/
  zones : FMap (Int × Nat)
  /-- Tiles whose drive settings of the bank in force have not been acknowledged (R424). -/
  unacked : List Nat
  /-- Tiles whose next conjunction carries DRIVE_APPLY (R423). -/
  applyDue : List Nat
  /-- Tiles of the loaded range, and the ticket of a load in progress. -/
  loaded : List Nat
  groups : FMap PatGroup
  /-- Last grey sent: 8 * patina index + emitter position. -/
  grey : FMap Nat
  deriving DecidableEq, Repr

/-! ### Libration (chapter 12) -/

/-- An update or rollback written into the inactive bank (R470, R474). -/
structure LibUpdate where
  /-- Index and previous record of each lamp changed. -/
  log : List (Nat × Bytes)
  /-- Group frame it is armed for. -/
  armed : Option Nat
  /-- A rollback: ticket holder, ticket, logs that it drops, STOP. -/
  rollback : Option (Nat × Nat × Nat × Bool)
  /-- Writing has ended. -/
  written : Bool
  deriving DecidableEq, Repr

structure LibGen where
  gen : Nat
  time : Nat
  log : List (Nat × Bytes)
  deriving DecidableEq, Repr

structure LibBuild where
  f : Nat
  ticket : Nat
  src : Nat
  first : Nat
  count : Nat
  phase : Nat
  /-- Periods left in the phase. -/
  periods : Nat
  deriving DecidableEq, Repr

/-- A witness source (R468). -/
structure LibWit where
  lost : Bool
  /-- Period ends in a row with the score below, and at or above, LIB_REG_MIN. -/
  below : Nat
  above : Nat
  built : Bool
  deriving DecidableEq, Repr

structure Lib where
  /-- Witness map by patina index; an entry not listed is all 0. -/
  map : FMap Bytes
  /-- Accumulator blocks of 670 bytes; a block not listed is all 0. -/
  acc : FMap Bytes
  /-- Masking factors in force: 8 * block + slot (R447). -/
  mu : FMap Nat
  /-- Brightness of each lamp after stage K5 in the frame in progress: 8 * patina index + slot. -/
  luma : FMap Nat
  /-- Code periods ended since libration was enabled. -/
  since : Nat
  /-- Blocks that accumulated in the period in progress. -/
  touched : List Nat
  /-- Blocks with a skipped code, and tiles held, with the device time (R451, R452). -/
  skips : List (Nat × Nat)
  holds : List (Nat × Nat)
  /-- Latches of the group, the newest first: device time, slot, frame number (R454). -/
  shown : List (Nat × Nat × Nat)
  /-- Pixels of witness sources after stage C2: source * 2^40 + frame mod 8 * 2^32 + row * 2^16 + column. -/
  wpix : FMap Nat
  /-- Photosensor readings accepted in the period in progress, by link. -/
  photos : FMap Nat
  wits : FMap LibWit
  update : Option LibUpdate
  history : List LibGen
  /-- UPD_EN in force has been cleared by a rollback with STOP (R474). -/
  stopped : Bool
  shed : Bool
  /-- The throttle asks for libration to be shed (R477); a boundary follows it. -/
  shedWant : Bool
  /-- A rollback that waits for the inactive bank (R478): ticket holder, ticket, target generation, STOP. -/
  wait : Option (Nat × Nat × Nat × Bool)
  build : Option LibBuild
  resetDue : Bool
  /-- Codes restart at the next frame whose number is a multiple of L (R446). -/
  restart : Bool
  /-- Device time of the last libration switch. -/
  lastSwitch : Nat
  deriving DecidableEq, Repr

/-! ### Tile links and direct drive ports (chapter 13) -/

/-- A control packet outstanding or waiting (R501). -/
structure TlkCtrl where
  tag : Nat
  hop : Nat
  /-- 4 CTRL_WRITE, 5 CTRL_READ. -/
  type : Nat
  payload : Bytes
  sent : Nat
  /-- Ticket holder and ticket of a host command; none for the device's own settings. -/
  owner : Option (Nat × Nat)
  /-- The last packet of a tile's drive settings. -/
  drive : Bool
  deriving DecidableEq, Repr

/-- A tile as the device knows it, by 32 * link + hop. -/
structure TlkTile where
  present : Bool
  reply : Bytes
  mismatch : Bool
  /-- Last status telemetry since it appeared (R502), and last photosensor telemetry (R456). -/
  telem : Option Bytes
  photo : Bytes
  /-- Last θ in 2^-17 ns (R498). -/
  theta : Int
  /-- LATCH_SEQ of the last conjunction. -/
  seq : Nat
  /-- t4 - c_u of the last SYNC_REPLY, in 2^-16 ns. -/
  t4 : Option Nat
  /-- Rows of the latch in progress that are sent. -/
  rows : List Nat
  /-- Lamp data of those rows, and the CRC-32 of the last complete lamp data of each slot (R720). -/
  data : FMap Bytes
  crcs : FMap Nat
  deriving DecidableEq, Repr

structure TlkLink where
  ctrl : Option TlkCtrl
  queue : List TlkCtrl
  tag : Nat
  /-- The one host command of R516 pending: function, ticket. -/
  op : Option (Nat × Nat)
  syncSeq : Nat
  t1 : Nat
  /-- Changes that the discovery in progress has found. -/
  changes : Nat
  discovering : Bool
  /-- Hops that have answered it. -/
  seen : List Nat
  /-- The break declared: the last hop before it (R506), and one that a discovery has healed. -/
  breakAt : Option Nat
  healed : Bool
  /-- Request outstanding of ours: tag and width (R508); the width to take at the next ALIGN column. -/
  request : Option (Nat × Nat)
  width : Option Nat
  deriving DecidableEq, Repr

structure DdpPort where
  /-- Grey codes of the frame being shifted, by channel; complete when every channel is listed. -/
  next : FMap Nat
  /-- Grey codes last shifted, and whether they came of a complete shift, so that the next frame may be compared (R515). -/
  shown : FMap Nat
  whole : Bool
  /-- Mismatches in a row. -/
  mismatches : Nat
  /-- A latch has been held to make room for a configuration frame (R513). -/
  cfgHeld : Bool
  /-- Time in ns that the last frame took to shift. -/
  shift : Nat
  deriving DecidableEq, Repr

structure Tlk where
  links : FMap TlkLink
  tiles : FMap TlkTile
  ddp : FMap DdpPort
  /-- Lamps of rows not yet complete: (tile * 1024 + row) * 8192 + column * 8 + emitter position. -/
  rows : FMap Nat
  deriving DecidableEq, Repr


/-! ### Time (chapter 14) -/

/-- A PTP port (R528, R529). -/
structure PtpPort where
  /-- IEEE 1588 portState: 0 before the first message, 4 listening, 6 master, 7 passive, 9 slave. -/
  state : Nat
  /-- An Announce has been received and not timed out; the fields down to steps are its data set. -/
  heard : Bool
  /-- Parent port identity (10 bytes as a number) and the data set of its Announce. -/
  parent : Nat
  gmId : Nat
  gmClass : Nat
  gmAcc : Nat
  gmVar : Nat
  prio1 : Nat
  prio2 : Nat
  steps : Nat
  /-- A two-step Sync that waits for its Follow_Up: sequence and arrival time. -/
  waiting : Option (Nat × Int)
  /-- Last t2 - t1 in 2^-16 ns and the delay request outstanding: sequence and departure time. -/
  ms : Option Int
  req : Option (Nat × Int)
  /-- Mean path delay once measured, and offset, 2^-16 ns. -/
  delay : Option Int
  offset : Int
  tlv : Bytes
  seqOut : Nat
  deriving DecidableEq, Repr

/-- A package reachable over XPL as the time exchange sees it (R532, R533). -/
structure Peer where
  hops : Nat
  theta : Int
  candidate : Bool
  locked : Bool
  holdover : Bool
  reachable : Bool
  deriving DecidableEq, Repr

/-- A schedule in force on a time-pulse output (R536, R537). -/
structure Tpo where
  mode : Nat
  start : Nat
  period : Nat
  width : Nat
  pol : Bool
  active : Bool
  /-- Scheduled leading edges, earliest first, 2^-16 ns; of a periodic schedule the next one only. -/
  edges : List Nat
  /-- A pulse in progress: the time of its closing edge. -/
  pulse : Option Nat
  /-- The schedule ends when the pulse in progress does. -/
  stopping : Bool
  deriving DecidableEq, Repr

structure Tim where
  /-- Device time in 2^-48 ns: the 96 visible bits and the 32 hidden ones (R518, R519). -/
  now : Nat
  /-- The rate in force, 2^-48 (R519). -/
  rho : Int
  /-- ρ at each second of lock, the newest first, for holdover (R526). -/
  rhoHist : List Int
  /-- Uptime since which the offset has stayed within TIM_LOCK_NS (the lock criterion of the mode table). -/
  lockSince : Option Nat
  /-- A first measurement or TIM_ACQUIRE with TO_SOURCE waits: tickets. -/
  acquire : List (Nat × Nat)
  ports : FMap PtpPort
  peers : FMap Peer
  /-- The capture FIFO of each TRIG_IN pin, oldest first, in 2^-16 ns (R542). -/
  caps : FMap (List Nat)
  /-- The time master over XPL: its PKG_ID, once one is reached (R532). -/
  master : Option Nat
  tpo : FMap Tpo
  /-- CMD_LATCH with AT pending: group and device time in 2^-16 ns (R402, R524). -/
  latches : List (Nat × Nat)
  deriving DecidableEq, Repr

/-! ### Audio ports (chapter 15) -/

/-- What one channel of a port has in effect (R558), and its previous sample. -/
structure AudCh where
  run : Bool
  gain : Nat
  mute : Bool
  src : Nat
  delay : Nat
  last : Int
  deriving DecidableEq, Repr

/-- Channel status and user bits of one channel (R560, R561). -/
structure AudCs where
  status : Bytes
  user : Bytes
  blocks : Nat
  accepted : Bool
  crcOk : Bool
  /-- A table of AUD_CS_WRITE that waits for the next block start. -/
  next : Option Bytes
  deriving DecidableEq, Repr

structure AudPort where
  a : AudCh
  b : AudCh
  /-- Uptime of the first change that waits for a zero crossing (R558). -/
  since : Option Nat
  /-- The clock has been stable for AUD_UNMUTE_MS since the last muting (R555). -/
  stable : Bool
  /-- D due in µs (R559). -/
  due : Nat
  /-- A run of missing frames, or of overrunning writes, goes on (R557). -/
  missing : Bool
  past : Bool
  /-- Frame of the 192-frame block sent next. -/
  frame : Nat
  csA : AudCs
  csB : AudCs
  deriving DecidableEq, Repr

structure Aud where
  ports : FMap AudPort
  deriving DecidableEq, Repr
/-! ### Clip store (chapter 16) -/

/-- A namespace: owner, blocks, its chunks on every drive, and the ticket of a deletion that waits. -/
structure Namespace where
  owner : Nat
  blocks : Nat
  chunks : List Nat
  deleting : Option (Nat × Nat)
  deriving DecidableEq, Repr

/-- What stands on the drives: no reset clears it. -/
structure Disk where
  /-- The root port position of the drive at each position of the store; empty with no store. -/
  ports : List Nat
  /-- Chunks of 1 GiB on each drive. -/
  chunks : Nat
  spaces : FMap Namespace
  /-- Blocks of 4 KiB that are not all 0: namespace * 2^40 + LBA. -/
  blocks : FMap Bytes
  /-- What blocks written without FUA and not yet flushed held before (R578), with the writer (a function, or 64 + r for
  recorder r) + 128 * the number of the write. -/
  dirty : FMap (Nat × Bytes)
  /-- The baseline copies A and B of the system namespace: PAT_GEN and the image (R583). -/
  baseA : Option (Nat × Bytes)
  baseB : Option (Nat × Bytes)
  /-- Tile and lamp drive entries that belong to the newer copy: the baseline is laid out as a bank (R614). -/
  baseTile : FMap Bytes
  baseDrive : FMap Bytes
  /-- Images saved for the restore at boot (R760), by object key. -/
  images : FMap Bytes
  deriving DecidableEq, Repr

/-- A piece of a task (R576): its first LBA and blocks. -/
structure Piece where
  lba : Nat
  blocks : Nat
  issued : Bool
  deriving DecidableEq, Repr

structure Task where
  op : Nat
  fua : Bool
  space : Nat
  lba : Nat
  blocks : Nat
  addr : Nat
  pieces : List Piece
  done : Nat
  /-- Lowest failing piece: its first LBA and status (R577). -/
  fail : Option (Nat × Nat)
  /-- Order in which tasks passed check 6 (R579). -/
  order : Nat
  deriving DecidableEq, Repr

/-- A take (R588). -/
structure Take where
  entry : Nat
  clip : Nat
  first : Nat
  /-- Blocks from the first LBA written so far. -/
  wp : Nat
  /-- Index entries, the newest first. -/
  index : List Bytes
  /-- The job's dropped count when the take opened. -/
  dropped : Nat
  failed : Nat
  firstSeq : Nat
  startTs : Bytes
  endTs : Bytes
  /-- The first frame's Cast header. -/
  head : Bytes
  name : Bytes
  audio : Option Nat
  every : Nat
  /-- WRITE_SEQ of the job when the take began, and when its stop was served. -/
  begin : Nat
  stop : Option Nat
  full : Bool
  deriving DecidableEq, Repr

structure Recorder where
  job : Nat
  space : Nat
  rate : Nat
  /-- WRITE_SEQ of the last slot released. -/
  last : Nat
  take : Option Take
  deriving DecidableEq, Repr

structure Playback where
  owner : Nat
  space : Nat
  clip : Bytes
  ring : Nat
  slots : Nat
  group : Nat
  divider : Nat
  /-- The next frame to begin, the one being decoded, and the last one decoded. -/
  next : Nat
  decoding : Option Nat
  shown : Nat
  running : Bool
  loop : Bool
  late : Nat
  skipped : Nat
  /-- Records written to the ring. -/
  writeSeq : Nat
  /-- Ticket of PLAY_OPEN until frame 0 is decoded. -/
  opening : Option (Nat × Nat)
  deriving DecidableEq, Repr

structure Cst where
  disk : Disk
  tasks : FMap Task
  order : Nat
  lastServed : Nat
  recs : FMap Recorder
  plays : FMap Playback
  /-- Drives whose Abort command is outstanding. -/
  aborting : List Nat
  deriving DecidableEq, Repr


/-! ### Memory (chapter 17) -/

structure MemSt where
  /-- Line at which each patrol scrubber goes on, in lines of its stack (R608). -/
  scrub : FMap Nat
  /-- Corrections of each controller in the second in progress (R605). -/
  window : FMap Nat
  deriving DecidableEq, Repr

/-! ### DMA (chapter 18) -/

/-- A descriptor as the engine read it (R623). -/
structure DmaDesc where
  ctrl : Word
  src : Nat
  dst : Nat
  next : Nat
  deriving DecidableEq, Repr

/-- What a channel holds besides its registers: the descriptor in progress or parked, none where the one at DMA_CUR is still to be
read; and the bytes of it that are moved. -/
structure DmaCh where
  desc : Option DmaDesc
  moved : Nat
  deriving DecidableEq, Repr

structure Dma where
  chans : FMap DmaCh
  deriving DecidableEq, Repr

/-! ### Security island (chapter 19) -/

/-- A key of the key store: owner, AES key, salt. -/
structure SecKey where
  owner : Nat
  key : Bytes
  salt : Bytes
  deriving DecidableEq, Repr

/-- A session: role 1 CO, 2 User, and the uptime of its last security command (R645). -/
structure SecSession where
  role : Nat
  last : Nat
  deriving DecidableEq, Repr

/-- An open key exchange: its ID and the number of its ephemeral key (R652). -/
structure Kex where
  id : Nat
  key : Nat
  deriving DecidableEq, Repr

/-- A proof-of-play interval in progress (R665, R666): its start, its four counts, and its content entries. -/
structure Pop where
  start : Nat
  latches : Nat
  shown : Nat
  underruns : Nat
  fallback : Nat
  content : Bytes
  /-- The entry added last. -/
  entry : Bytes
  merged : Bool
  deriving DecidableEq, Repr

structure Sec where
  /-- The key store by slot, and slot generations other than 1 (R651). -/
  keys : FMap SecKey
  gens : FMap Nat
  sessions : FMap SecSession
  /-- Login nonces: 48 bytes and the uptime of their challenge (R644). -/
  nonces : FMap (Bytes × Nat)
  /-- Failed logins in a row, and the uptime until which logins are refused. -/
  fails : FMap Nat
  locked : FMap Nat
  kex : FMap Kex
  nextKex : Nat
  /-- Number of the test that failed last, 0 none. -/
  testResult : Nat
  /-- Open intervals by layer, unread records by layer, the oldest first, with their owner, and the next record sequence. -/
  pop : FMap Pop
  popRecs : FMap (List (Nat × Bytes))
  popSeq : Nat
  deriving DecidableEq, Repr

/-- The whole block. -/
structure State where
  /-- Commands waiting, first in first out. The block's own queue, not the spec's. -/
  pending : List Instr
  /-- Registers that differ from their reset value, by BAR0 offset. -/
  regs : FMap Word
  /-- Parameter values in force (or stored) that differ from their default, by ID. -/
  prms : FMap Word
  /-- Tables, descriptors, rules, windows and images in force, by kind * 2^20 + index. -/
  objs : FMap Bytes
  /-- Device memory (chapter 17). -/
  devMem : Mem
  /-- Host memory as the block's DMA and rings see it. -/
  hostMem : Mem
  /-- The 64 mailbox pages, by BAR0 offset (R90). -/
  pageMem : Mem
  /-- Lines of device memory marked poisoned, by line number (R606). -/
  poison : FMap Bool
  /-- High words latched by reads of pairs, by function * 2^26 + offset of _LO (R133). -/
  pairLatch : FMap Word
  /-- Words held by writes of _LO, by function * 2^26 + offset of _LO (R134). -/
  pairHeld : FMap Word
  /-- How many free values have been drawn. The model's own field. -/
  freeCtr : Nat
  /-- Core clock ticks of 4 ns since power-on. -/
  uptime : Nat
  /-- What the block has sent. -/
  out : List Out
  arm : Arm
  thm : Thm
  flt : Flt
  lan : Lan
  nvs : Nvs
  otp : Otp
  pins : Pins
  boot : Boot
  cam : Cam
  cast : Cast
  str : Str
  wall : Wall
  pat : Pat
  lib : Lib
  tlk : Tlk
  tim : Tim
  aud : Aud
  cst : Cst
  mem : MemSt
  dma : Dma
  sec : Sec
  deriving DecidableEq, Repr

/-- An empty map. -/
def FMap.empty {α : Type} : FMap α := ⟨[]⟩

def Cam.init : Cam := ⟨.empty, .empty, .empty, .empty, .empty⟩

def Cast.init : Cast := ⟨.empty, 0⟩

def Str.init : Str := ⟨.empty, [], [], 0⟩

def Wall.init : Wall := ⟨.empty, .empty, [], 0, [], .empty⟩

def PatBank.init : PatBank := ⟨.empty, .empty, .empty⟩

def Pat.init : Pat := ⟨.init, .init, false, 0, false, [], false, 0, .empty, .empty, [], [], [], .empty, .empty⟩

def Lib.init : Lib :=
  ⟨.empty, .empty, .empty, .empty, 0, [], [], [], [], .empty, .empty, .empty, none, [], false, false, false, none, none, false, false, 0⟩

def Tlk.init : Tlk := ⟨.empty, .empty, .empty, .empty⟩

/-- Time at power-on: 0 s, ρ = 0 (R520). -/
def Tim.init : Tim := ⟨0, 0, [], none, [], .empty, .empty, .empty, none, .empty, []⟩

def Aud.init : Aud := ⟨.empty⟩

def Disk.init : Disk := ⟨[], 0, .empty, .empty, .empty, none, none, .empty, .empty, .empty⟩

def Cst.init : Cst := ⟨.init, .empty, 0, 63, .empty, .empty, []⟩

def MemSt.init : MemSt := ⟨.empty, .empty⟩

def DmaCh.init : DmaCh := ⟨none, 0⟩

def Dma.init : Dma := ⟨.empty⟩

def Sec.init : Sec := ⟨.empty, .empty, .empty, .empty, .empty, .empty, .empty, 0, 0, .empty, .empty, 0⟩

/-- The Armature at power-on: no service yet (R757), ticket counts at 1 (R101), the first command free (R94). -/
def Arm.init : Arm :=
  ⟨.empty, .empty, .empty, .empty, .empty, none, 63, false, false, 0, false, false, 0⟩

/-- Thermal state at power-on: the orbit begins with channel 0 (R733). -/
def Thm.init : Thm :=
  ⟨0, none, 0, 0, 0, none, none, false, false, [], .empty, .empty, 0, .empty, [], false, false, 0⟩

def Flt.init : Flt :=
  ⟨.empty, .empty, .empty, .empty, .empty, .empty, .empty, .empty, 0, [], [], [], [], 0, 0, false, 0, none, none, none, none⟩

def Lan.init : Lan := ⟨.empty, [], []⟩

def NvsBank.init : NvsBank := ⟨false, 0, .empty, .empty⟩

/-- The image of manufacture: the release that FW_RELEASE names. -/
def FwImage.init : FwImage := ⟨true, false, 0x030400, 0, []⟩

def Nvs.init : Nvs :=
  ⟨.init, .init, none, none, .empty, none, false, .empty, 0, 0, 0, 0, .init, .init, .empty, some 0, true, [], none⟩

def Otp.init : Otp := ⟨0, 0, 0, 0, none, 0⟩

def Pins.init : Pins := ⟨true, true, true, true, 0, false⟩

def Boot.init : Boot := ⟨[], false, false, 0, false, []⟩

/-- The block right after a power-on reset (R767): every register and parameter at its reset value, nothing in memory,
no command waiting; the mailboxes read RECOVERING until service starts (R757). The values the spec does not give are named in notes/assumptions. -/
def State.reset : State where
  pending := []
  regs := ⟨(List.range 64).map fun f => (0x21FF4 + 0x2000 * f, 0xC0000000#32)⟩
  prms := .empty
  objs := .empty
  devMem := []
  hostMem := []
  pageMem := []
  poison := .empty
  pairLatch := .empty
  pairHeld := .empty
  freeCtr := 0
  uptime := 0
  out := []
  arm := .init
  thm := .init
  flt := .init
  lan := .init
  nvs := .init
  otp := .init
  pins := .init
  boot := .init
  cam := .init
  cast := .init
  str := .init
  wall := .init
  pat := .init
  lib := .init
  tlk := .init
  tim := .init
  aud := .init
  cst := .init
  mem := .init
  dma := .init
  sec := .init

end Sys2Proof.Machine
end

