-- ==== Sys2Proof/Machine/Ops.lean ====
section
/-! DEFINITION. The named operations over the state: sparse maps, byte memory, register fields, parameters, the event
matrix, and the effects a command is made of. A command's meaning is an Act: from the state it finds it answers the list of
effects it has, in order. -/
namespace Sys2Proof.Machine

/-! ### Sparse maps -/

/-- Entries of a map with key k set to v, keeping the order. -/
def mapInsert {α : Type} (k : Nat) (v : α) : List (Nat × α) → List (Nat × α)
  | [] => [(k, v)]
  | (k', v') :: t => if k < k' then (k, v) :: (k', v') :: t else if k = k' then (k, v) :: t else (k', v') :: mapInsert k v t

/-- The value first listed under k. -/
def mapFind {α : Type} (k : Nat) : List (Nat × α) → Option α
  | [] => none
  | (k', v) :: t => if k = k' then some v else mapFind k t

/-- Entries of a map without key k. -/
def mapErase {α : Type} (k : Nat) : List (Nat × α) → List (Nat × α)
  | [] => []
  | (k', v) :: t => if k = k' then mapErase k t else (k', v) :: mapErase k t

def FMap.find {α : Type} (m : FMap α) (k : Nat) : Option α := mapFind k m.entries

def FMap.getD {α : Type} (m : FMap α) (k : Nat) (d : α) : α := (m.find k).getD d

def FMap.put {α : Type} (m : FMap α) (k : Nat) (v : α) : FMap α := ⟨mapInsert k v m.entries⟩

def FMap.del {α : Type} (m : FMap α) (k : Nat) : FMap α := ⟨mapErase k m.entries⟩

/-- Put or delete. -/
def FMap.putOpt {α : Type} (m : FMap α) (k : Nat) : Option α → FMap α
  | some v => m.put k v
  | none => m.del k

/-- The value under k (or d) changed by g. -/
def FMap.upd {α : Type} (m : FMap α) (k : Nat) (d : α) (g : α → α) : FMap α := m.put k (g (m.getD k d))

/-- The value under k changed by g, if there is one. -/
def FMap.alter {α : Type} (m : FMap α) (k : Nat) (g : α → α) : FMap α :=
  match m.find k with
  | some v => m.put k (g v)
  | none => m

def FMap.keys {α : Type} (m : FMap α) : List Nat := m.entries.map (·.1)

def FMap.has {α : Type} (m : FMap α) (k : Nat) : Bool := (m.find k).isSome

def FMap.size {α : Type} (m : FMap α) : Nat := m.entries.length

/-- Entries whose key and value pass a test. -/
def FMap.filter {α : Type} (m : FMap α) (p : Nat → α → Bool) : FMap α := ⟨m.entries.filter fun e => p e.1 e.2⟩

/-! ### Byte memory -/

/-- The byte at an address; 0 where none is listed. -/
def memRead (m : Mem) (a : Nat) : Byte := (mapFind a m).getD 0

/-- A memory with one byte written; writing 0 removes the entry. -/
def memWrite (m : Mem) (a : Nat) (b : Byte) : Mem := if b = 0 then mapErase a m else mapInsert a b m

/-- Bytes written at consecutive addresses from a. -/
def memWriteBytes (m : Mem) (a : Nat) : Bytes → Mem
  | [] => m
  | b :: t => memWriteBytes (memWrite m a b) (a + 1) t

/-- n bytes read from a. -/
def memReadBytes (m : Mem) (a : Nat) : Nat → Bytes
  | 0 => []
  | n + 1 => memRead m a :: memReadBytes m (a + 1) n

/-- The canonical form: addresses strictly rising from lo, no entry 0. -/
def memWfFrom (lo : Nat) : Mem → Bool
  | [] => true
  | (a, b) :: t => decide (lo ≤ a) && decide (b ≠ 0) && memWfFrom (a + 1) t

/-- A memory is in canonical form. -/
def Memory.wf (m : Mem) : Bool := memWfFrom 0 m

/-! ### Bits and bytes -/

/-- Bits hi down to lo of a number. -/
def bitsOf (n hi lo : Nat) : Nat := n / 2 ^ lo % 2 ^ (hi + 1 - lo)

/-- One bit of a number. -/
def bitOf (n i : Nat) : Bool := n / 2 ^ i % 2 == 1

/-- A number with bits hi down to lo replaced by v (cut to fit). -/
def putBits (n hi lo v : Nat) : Nat :=
  n / 2 ^ (hi + 1) * 2 ^ (hi + 1) + v % 2 ^ (hi + 1 - lo) * 2 ^ lo + n % 2 ^ lo

/-- A number as 32 bits. -/
def w32 (n : Nat) : Word := BitVec.ofNat 32 n

/-- k bytes of n, least significant first (R12). -/
def leBytes (k n : Nat) : Bytes :=
  match k with
  | 0 => []
  | k + 1 => BitVec.ofNat 8 n :: leBytes k (n / 256)

/-- The number that bytes spell, least significant first (R12). -/
def leNat : Bytes → Nat
  | [] => 0
  | b :: t => b.toNat + 256 * leNat t

/-- The number that bytes spell, most significant first (network order). -/
def beNat (bs : Bytes) : Nat := bs.foldl (fun a b => a * 256 + b.toNat) 0

/-- k bytes of n, most significant first. -/
def beBytes (k n : Nat) : Bytes := (leBytes k n).reverse

/-- n bytes of a payload from offset o; bytes beyond its end read 0. -/
def field (bs : Bytes) (o n : Nat) : Bytes := (bs.drop o ++ List.replicate (o + n - bs.length) 0).take n

/-- The little-endian number in n bytes of a payload from offset o. -/
def fieldN (bs : Bytes) (o n : Nat) : Nat := leNat (field bs o n)

/-- Bytes o to o + n - 1 are all 0. -/
def zeroAt (bs : Bytes) (o n : Nat) : Bool := (field bs o n).all (· == 0)

/-- A signed reading of the low k bits. -/
def sgn (k n : Nat) : Int := let m := n % 2 ^ k; if m < 2 ^ (k - 1) then (m : Int) else (m : Int) - (2 ^ k : Nat)

/-- The low k bits of a signed number. -/
def unsgn (k : Nat) (i : Int) : Nat := (i % ((2 ^ k : Nat) : Int)).toNat

/-- A sum that saturates at a maximum (R138). -/
def satAdd (max n k : Nat) : Nat := if n + k > max then max else n + k

/-- CRC with polynomial p of w bits, most significant bit first, over a list of bits. -/
def crcBits (w p : Nat) (c : Nat) : List Bool → Nat
  | [] => c
  | b :: t =>
    let top := bitOf c (w - 1) != b
    let c' := c * 2 % 2 ^ w
    crcBits w p (if top then c' ^^^ p else c') t

/-- The bits of a byte, most significant first. -/
def byteBits (b : Byte) : List Bool := (List.range 8).map fun i => b.getLsbD (7 - i)

/-- The bits of a byte, least significant first. -/
def byteBitsL (b : Byte) : List Bool := (List.range 8).map fun i => b.getLsbD i

/-- The k low bits of c in reverse order. -/
def reverseBits : Nat → Nat → Nat
  | 0, _ => 0
  | k + 1, c => c % 2 * 2 ^ k + reverseBits k (c / 2)

/-- The CRC-32 of R170: polynomial 0x04C11DB7, reflected input and output, initial value and final inversion all ones. -/
def crc32 (bs : Bytes) : Nat :=
  reverseBits 32 (crcBits 32 0x04C11DB7 0xFFFFFFFF (bs.flatMap byteBitsL)) ^^^ 0xFFFFFFFF

/-- The CRC-16 of R22 over bits, most significant first: 0x1021, initial 0xFFFF, no final inversion. -/
def crc16 (bits : List Bool) : Nat := crcBits 16 0x1021 0xFFFF bits

/-! ### Registers -/

/-- The family that holds a BAR0 offset, with the index of the word in it. -/
def regFind (off : Nat) : List RegRow → Option (RegRow × Nat)
  | [] => none
  | r :: t =>
    if r.base ≤ off ∧ (off - r.base) % r.stride = 0 ∧ (off - r.base) / r.stride < r.count
    then some (r, (off - r.base) / r.stride) else regFind off t

/-- The reset value of the n-th word of a family. -/
def resetOf (k : ResetKind) (n : Nat) : Nat :=
  match k with
  | .c v => v
  | .unit => if n % 17 = 16 then 0x10 else 0x40 + n % 17
  | .mask => [0xFFFFFFFF, 0xFFFFFFFF, 0xFFFF001F, 0xFFFF0000, 0x07FF3FFF, 0x01FF003F, 0x3FFF07FF, 0xFFFFFF3F].getD n 0
  | .route => if n < 64 then n * 0x10000 else 0

/-- The reset value of the register at an offset; 0 where there is none (R15). -/
def regReset (off : Nat) : Word :=
  match regFind off regTable with
  | some (r, n) => w32 (resetOf r.reset n)
  | none => 0

/-- The bits of a family that some field covers; every other bit is reserved and reads 0 (R13). -/
def fieldMask : List FieldRow → Nat
  | [] => 0
  | f :: t => (2 ^ (f.hi + 1) - 2 ^ f.lo) ||| fieldMask t

/-- The bits of the register at an offset that are not reserved; none where there is no register. -/
def regMask (off : Nat) : Word :=
  match regFind off regTable with
  | some (r, _) => w32 (fieldMask r.fields)
  | none => 0

/-- A register file with one register set: reserved bits stay 0, and a register at its reset value is not listed. -/
def regPut (m : FMap Word) (off : Nat) (v : Word) : FMap Word :=
  let v' := v &&& regMask off
  if v' = regReset off then m.del off else m.put off v'

/-- The word in the register at an offset. -/
def State.rd (s : State) (off : Nat) : Word := s.regs.getD off (regReset off)

/-- The value of a field of the register at an offset. -/
def State.fld (s : State) (off : Nat) (f : Fld) : Nat := bitsOf (s.rd off).toNat f.hi f.lo

/-- A one-bit field. -/
def State.flag (s : State) (off : Nat) (f : Fld) : Bool := s.fld off f == 1

/-- A word with a field replaced. -/
def setFld (w : Word) (f : Fld) (v : Nat) : Word := w32 (putBits w.toNat f.hi f.lo v)

/-- A field of a word. -/
def getFld (w : Word) (f : Fld) : Nat := bitsOf w.toNat f.hi f.lo

/-- The word a host write leaves in a register of the given fields (R132): RW loads, W1C clears, W1S sets, RWL loads
while unlocked; RO, WO and SC keep what was there. -/
def accessWord (locked : Bool) : List FieldRow → Nat → Nat → Nat
  | [], _, old => old
  | r :: t, v, old =>
    let o := bitsOf old r.hi r.lo
    let n := bitsOf v r.hi r.lo
    let x := match r.acc with
      | .rw => n
      | .rwl => if locked then o else n
      | .w1c => o - (o &&& n)
      | .w1s => o ||| n
      | _ => o
    putBits (accessWord locked t v old) r.hi r.lo x

/-! ### Parameters -/

/-- The row of a parameter ID and its index in it (R142). -/
def prmFind (id : Nat) : List PrmRow → Option (PrmRow × Nat)
  | [] => none
  | r :: t =>
    if r.base ≤ id ∧ (id - r.base) % r.stride = 0 ∧ (id - r.base) / r.stride < r.count
    then some (r, (id - r.base) / r.stride) else prmFind id t

def prmRow (id : Nat) : Option (PrmRow × Nat) := prmFind id (prmTable (id / 256))

/-- Default masks of R598, low words, in the order PC0 to PC4, stack 0 and 1, BG0, BG1, BA0, BA1. -/
def mapMasks : List Nat :=
  [0x0004020040, 0x0008040080, 0x0010080100, 0x0020100200, 0x0040200400, 0x0080400800, 0x0100801000, 0x0201002000,
   0x0402004000, 0x0804008000, 0x1008010000]

/-- The default of a parameter; 0 for an undefined ID. -/
def prmDefault (id : Nat) : Word :=
  if 0xF00 ≤ id ∧ id ≤ 0xF15 then
    let m := mapMasks.getD ((id - 0xF00) / 2) 0
    w32 (if id % 2 = 0 then m else m / 2 ^ 32)
  else match prmRow id with
    | some (r, _) => w32 r.default
    | none => 0

/-- Parameters that are copies of registers: base, stride, count, register base, register stride, bits. -/
def prmCopies : List (Nat × Nat × Nat × Nat × Nat × Fld) := [
  (0x101, 1, 1, 0x0, 4, ⟨31, 0⟩), (0x102, 1, 1, 0x4, 4, ⟨1, 0⟩),
  (0xB40, 1, 64, 0x150004, 0x40, ⟨31, 0⟩), (0xC0E, 1, 1, 0xD0010, 4, ⟨31, 0⟩), (0xC0F, 1, 1, 0xD0010, 4, ⟨19, 16⟩),
  (0xD1C, 32, 8, 0xE0004, 0x20, ⟨31, 0⟩), (0xE06, 1, 1, 0xC1000, 4, ⟨31, 0⟩),
  (0xF60, 0x30, 4, 0x180000, 0x40, ⟨31, 0⟩), (0x11C1, 1, 1, 0x170000, 4, ⟨31, 0⟩),
  (0x11C3, 1, 1, 0x170000, 4, ⟨15, 8⟩), (0x11C4, 1, 1, 0x170000, 4, ⟨7, 4⟩),
  (0x12A1, 16, 4, 0x140004, 0x40, ⟨31, 0⟩), (0x12EC, 1, 20, 0x128000, 0x40, ⟨31, 0⟩),
  (0x13A0, 1, 1, 0x1A4004, 4, ⟨31, 0⟩), (0x13D0, 1, 1, 0x1A4000, 4, ⟨31, 0⟩),
  (0x1409, 1, 1, 0xF0004, 4, ⟨31, 0⟩), (0x140A, 1, 1, 0xF0004, 4, ⟨7, 0⟩), (0x140B, 1, 1, 0xF0004, 4, ⟨27, 24⟩),
  (0x1480, 1, 32, 0xF0600, 4, ⟨15, 0⟩), (0x14A0, 1, 48, 0xF0740, 4, ⟨15, 0⟩), (0x14EA, 1, 3, 0xF0100, 4, ⟨31, 0⟩)]

def copyFind (id : Nat) : List (Nat × Nat × Nat × Nat × Nat × Fld) → Option (Nat × Fld)
  | [] => none
  | (b, st, c, rb, rs, f) :: t =>
    if b ≤ id ∧ (id - b) % st = 0 ∧ (id - b) / st < c then some (rb + rs * ((id - b) / st), f) else copyFind id t

/-- The value of a parameter: the copy of its register, or the value in force. -/
def State.prm (s : State) (id : Nat) : Word :=
  match copyFind id prmCopies with
  | some (off, f) => w32 (s.fld off f)
  | none => s.prms.getD id (prmDefault id)

/-- The value of a parameter as a number. -/
def State.pn (s : State) (id : Nat) : Nat := (s.prm id).toNat

/-- A parameter map with one parameter set; a parameter at its default is not listed. -/
def prmPut (m : FMap Word) (id : Nat) (v : Word) : FMap Word :=
  if v = prmDefault id then m.del id else m.put id v

/-! ### Objects -/

/-- The key of an object: its kind and its index. -/
def objKey (kind idx : Nat) : Nat := kind * 2 ^ 20 + idx

/-- An object in force. -/
def State.obj (s : State) (kind idx : Nat) : Option Bytes := s.objs.find (objKey kind idx)

/-- The indices of a kind that are in force. -/
def State.objIdx (s : State) (kind : Nat) : List Nat :=
  (s.objs.entries.filter fun e => e.1 / 2 ^ 20 == kind).map fun e => e.1 % 2 ^ 20

/-! ### The event matrix (chapter 04) -/

/-- Reserved sources never set (R156). -/
def evtReserved (e : Nat) : Bool :=
  (69 ≤ e && e ≤ 79) || (96 ≤ e && e ≤ 111) || (142 ≤ e && e ≤ 143) || (155 ≤ e && e ≤ 159) || (166 ≤ e && e ≤ 175) ||
  (185 ≤ e && e ≤ 191) || (203 ≤ e && e ≤ 207) || (222 ≤ e && e ≤ 223) || (230 ≤ e && e ≤ 231) || 256 ≤ e

/-- A bit of a register file. -/
def regBit (regs : FMap Word) (off i : Nat) : Bool := (regs.getD off (regReset off)).getLsbD i

/-- A field of a register file. -/
def regFld (regs : FMap Word) (off : Nat) (f : Fld) : Nat := bitsOf (regs.getD off (regReset off)).toNat f.hi f.lo

/-- Source e is set, unmasked and enabled-routed to vector v of function f (R148, R152). -/
def signals (regs : FMap Word) (f v e : Nat) : Bool :=
  let r := Reg.EVT_ROUTE e
  regBit regs (Reg.EVT_STATUS (e / 32)) (e % 32) && !regBit regs (Reg.EVT_MASK (e / 32)) (e % 32) &&
  regBit regs r 31 && regFld regs r Fld.EVT_ROUTE.FUNC == f && regFld regs r Fld.EVT_ROUTE.VECTOR == v

/-- The descriptor IRQ and the clip-store completion of a function reach vector v (R154). -/
def localSignals (regs : FMap Word) (f v : Nat) : Bool :=
  (regBit regs (Reg.EVT_LOCAL f) 7 && regFld regs (Reg.EVT_LOCAL f) Fld.EVT_LOCAL.DMA_VEC == v
    && regBit regs (Reg.DMA_STAT f) 27) ||
  (regBit regs (Reg.EVT_LOCAL f) 15 && regFld regs (Reg.EVT_LOCAL f) Fld.EVT_LOCAL.CST_VEC == v
    && regBit regs (Reg.CST_TASK_STATUS f) 31)

/-- The summary of a vector (R152). -/
def summary (regs : FMap Word) (f v : Nat) : Bool :=
  (List.range 256).any (signals regs f v) || localSignals regs f v

/-- The vector a source is enabled-routed to. -/
def vectorOf (regs : FMap Word) (e : Nat) : List (Nat × Nat) :=
  let r := Reg.EVT_ROUTE e
  if regBit regs r 31 then [(regFld regs r Fld.EVT_ROUTE.FUNC, regFld regs r Fld.EVT_ROUTE.VECTOR)] else []

/-- The messages of a hardware change of the registers that concerns these vectors: one for each summary that goes
from 0 to 1 (R152). -/
def hwMessages (old new : FMap Word) (vs : List (Nat × Nat)) : List Out :=
  (vs.eraseDups.filter fun v => !summary old v.1 v.2 && summary new v.1 v.2).map fun v => .msix v.1 v.2

/-- The messages of a host write that touches these vectors: one for each whose summary is 1 after it (R152). -/
def hostMessages (new : FMap Word) (vs : List (Nat × Nat)) : List Out :=
  (vs.eraseDups.filter fun v => summary new v.1 v.2).map fun v => .msix v.1 v.2

/-- The register file after a hardware set of source e: the status bit, and EVT_LOG_COUNT one higher (R148, R155). -/
def evtRegs (regs : FMap Word) (e : Nat) : FMap Word :=
  let st := Reg.EVT_STATUS (e / 32)
  let r1 := regPut regs st (regs.getD st (regReset st) ||| BitVec.twoPow 32 (e % 32))
  let lo := r1.getD Reg.EVT_LOG_COUNT_LO 0
  let hi := r1.getD Reg.EVT_LOG_COUNT_HI 0
  let c := hi.toNat * 2 ^ 32 + lo.toNat + 1
  regPut (regPut r1 Reg.EVT_LOG_COUNT_LO (w32 c)) Reg.EVT_LOG_COUNT_HI (w32 (c / 2 ^ 32))

/-- THERMTRIP_N is asserted: every lane transmitter and direct drive port has stopped (R748). -/
def tripped (s : State) : Bool := s.flag Reg.THM_STAT Fld.THM_STAT.TRIP

/-- The state after a hardware set of a source (R148, R152, R155, R156). No message leaves while the lanes are stopped (R748). -/
def raiseEvt (e : Nat) (s : State) : State :=
  if evtReserved e then s
  else
    let regs' := evtRegs s.regs e
    { s with regs := regs', out := if tripped s then s.out else s.out ++ hwMessages s.regs regs' (vectorOf s.regs e) }

/-! ### Effects -/

/-- One effect of a command on the state. Every command's meaning is a list of these. -/
inductive Eff where
  /-- Load a register (reserved bits stay 0). -/
  | reg (off : Nat) (v : Word)
  /-- Load one field of a register. -/
  | fld (off : Nat) (f : Fld) (v : Nat)
  /-- Add to a saturating field (R138). -/
  | inc (off : Nat) (f : Fld) (n : Nat)
  /-- Set a parameter. -/
  | prm (id : Nat) (v : Word)
  /-- Add to a counter parameter that saturates at 0xFFFF_FFFF. -/
  | count (id n : Nat)
  /-- Add to a _LO and _HI pair of counter parameters, which wraps at 2^64. -/
  | count64 (lo n : Nat)
  /-- Put or remove an object in force. -/
  | obj (kind idx : Nat) (v : Option Bytes)
  /-- A hardware set of an event source. -/
  | raise (e : Nat)
  /-- Something sent to the outside. -/
  | emit (o : Out)
  /-- Bytes written to device memory, to host memory or to a mailbox page. -/
  | dev (addr : Nat) (bs : Bytes)
  | host (addr : Nat) (bs : Bytes)
  | page (off : Nat) (bs : Bytes)
  /-- n bytes of device memory from an address made 0 and whole. -/
  | devClear (addr n : Nat)
  /-- A line of device memory poisoned or made whole. -/
  | poison (line : Nat) (p : Bool)
  /-- A pair latch or held word. -/
  | latch (key : Nat) (v : Word)
  | held (key : Nat) (v : Option Word)
  /-- A free value is drawn. -/
  | draw
  | arm (g : Arm → Arm)
  | thm (g : Thm → Thm)
  | flt (g : Flt → Flt)
  | lan (g : Lan → Lan)
  | nvs (g : Nvs → Nvs)
  | otp (g : Otp → Otp)
  | pins (g : Pins → Pins)
  | boot (g : Boot → Boot)
  | tim (g : Tim → Tim)
  | aud (g : Aud → Aud)
  | cam (g : Cam → Cam)
  | cast (g : Cast → Cast)
  | str (g : Str → Str)
  | sec (g : Sec → Sec)
  | wall (g : Wall → Wall)
  | pat (g : Pat → Pat)
  | lib (g : Lib → Lib)
  | tlk (g : Tlk → Tlk)
  | cst (g : Cst → Cst)
  | mem (g : MemSt → MemSt)
  | dma (g : Dma → Dma)
  /-- One cycle of the core clock. -/
  | tick
  /-- Everything that a power-on reset clears (R767). -/
  | powerOn
  /-- Everything that a package reset clears (R767). -/
  | packageReset

/-- The drives after a loss of power: a block written without FUA and not flushed may hold what it held before (R578); which
writes are lost is free. -/
def Disk.afterLoss (d : Disk) (n : Nat) : Disk :=
  { d with
    blocks := d.dirty.entries.foldl (fun m e => if Config.freeAt 50 [n, e.2.1] % 2 = 1 then m.put e.1 e.2.2 else m) d.blocks,
    dirty := .empty }

/-- A bank write that is in progress ends: the bank not selected holds its content and is selected (R764). -/
def Nvs.finish (n : Nvs) : Nvs :=
  match n.writing with
  | none => n
  | some b => if n.sel = some false then { n with b := b, sel := some true, writing := none }
              else { n with a := b, sel := some false, writing := none }

/-- The store after a reset (R764, R767): a write in progress completes, a deferred save and an answer owed are dropped. -/
def Nvs.afterReset (n : Nvs) (last : Option Nat) : Nvs :=
  { n.finish with lastWrite := last, owed := .empty, deferred := false, reply := none, sel := none }

/-- SEC_STATE where nothing but the fuses shows (its reset column). -/
def fuseWord (o : Otp) : Word :=
  setFld (setFld (regReset Reg.SEC_STATE) Fld.SEC_STATE.ARB_COUNT o.arb) Fld.SEC_STATE.EPOCH (min 15 o.epoch)

/-- What a power-on reset leaves: the reset state, with what no reset clears, the outside's memory, drives and balls kept. -/
def afterPowerOn (s : State) : State :=
  { State.reset with
    pending := s.pending, hostMem := s.hostMem, out := s.out, nvs := s.nvs.afterReset (s.nvs.lastWrite.map fun _ => 0),
    otp := s.otp, pins := s.pins, boot := { Boot.init with debug := s.boot.debug }, regs := regPut State.reset.regs Reg.SEC_STATE (fuseWord s.otp),
    freeCtr := s.freeCtr + 1, cst := { Cst.init with disk := s.cst.disk.afterLoss s.freeCtr } }

/-- What a package reset leaves: as power-on, and PKG_ID, HUB_LOCK and debug mode kept as well (R767). -/
def afterPackageReset (s : State) : State :=
  let p := afterPowerOn s
  { p with
    regs := regPut (regPut p.regs Reg.HUB_LOCK (s.rd Reg.HUB_LOCK)) Reg.HUB_TOPOLOGY
      (setFld (regReset Reg.HUB_TOPOLOGY) Fld.HUB_TOPOLOGY.PKG_ID (s.fld Reg.HUB_TOPOLOGY Fld.HUB_TOPOLOGY.PKG_ID)),
    uptime := s.uptime, nvs := s.nvs.afterReset s.nvs.lastWrite, boot := { p.boot with riseAt := s.boot.riseAt } }

/-- What leaves by a lane transmitter or a direct drive port; what goes to a host or a drive leaves by PCIe lanes (DEDUCED,
notes/assumptions/87). -/
def Out.onLane : Out → Bool
  | .packet k _ _ => k != 5 && k != 8
  | .ddpLatch _ _ _ => true
  | .msix _ _ => true
  | .pmbus _ _ => false
  | .pin _ _ => false
  | .readData _ _ _ => true
  | .rawLine _ _ _ _ => false
  | .token _ _ _ _ _ _ => false

/-- One effect applied. -/
def Eff.apply (e : Eff) (s : State) : State :=
  match e with
  | .reg off v => { s with regs := regPut s.regs off v }
  | .fld off f v => { s with regs := regPut s.regs off (setFld (s.rd off) f v) }
  | .inc off f n =>
    { s with regs := regPut s.regs off (setFld (s.rd off) f (satAdd (2 ^ (f.hi + 1 - f.lo) - 1) (s.fld off f) n)) }
  | .prm id v => { s with prms := prmPut s.prms id v }
  | .count id n => { s with prms := prmPut s.prms id (w32 (satAdd 0xFFFFFFFF (s.pn id) n)) }
  | .count64 lo n =>
    let c := s.pn lo + 2 ^ 32 * s.pn (lo + 1) + n
    { s with prms := prmPut (prmPut s.prms lo (w32 c)) (lo + 1) (w32 (c / 2 ^ 32)) }
  | .obj k i v => { s with objs := s.objs.putOpt (objKey k i) v }
  | .raise e => raiseEvt e s
  | .emit o => if o.onLane && tripped s then s else { s with out := s.out ++ [o] }
  | .dev a bs => { s with devMem := memWriteBytes s.devMem a bs }
  | .host a bs => { s with hostMem := memWriteBytes s.hostMem a bs }
  | .page a bs => { s with pageMem := memWriteBytes s.pageMem a bs }
  | .devClear a n =>
    { s with devMem := s.devMem.filter fun c => decide (c.1 < a) || decide (a + n ≤ c.1),
             poison := s.poison.filter fun l _ => decide (l * 64 < a) || decide (a + n ≤ l * 64) }
  | .poison l p => { s with poison := if p then s.poison.put l true else s.poison.del l }
  | .latch k v => { s with pairLatch := s.pairLatch.put k v }
  | .held k v => { s with pairHeld := s.pairHeld.putOpt k v }
  | .draw => { s with freeCtr := s.freeCtr + 1 }
  | .arm g => { s with arm := g s.arm }
  | .thm g => { s with thm := g s.thm }
  | .flt g => { s with flt := g s.flt }
  | .lan g => { s with lan := g s.lan }
  | .nvs g => { s with nvs := g s.nvs }
  | .otp g => { s with otp := g s.otp }
  | .pins g => { s with pins := g s.pins }
  | .boot g => { s with boot := g s.boot }
  | .tim g => { s with tim := g s.tim }
  | .aud g => { s with aud := g s.aud }
  | .cam g => { s with cam := g s.cam }
  | .cast g => { s with cast := g s.cast }
  | .str g => { s with str := g s.str }
  | .sec g => { s with sec := g s.sec }
  | .wall g => { s with wall := g s.wall }
  | .pat g => { s with pat := g s.pat }
  | .lib g => { s with lib := g s.lib }
  | .tlk g => { s with tlk := g s.tlk }
  | .cst g => { s with cst := g s.cst }
  | .mem g => { s with mem := g s.mem }
  | .dma g => { s with dma := g s.dma }
  | .tick => { s with uptime := s.uptime + 1 }
  | .powerOn => afterPowerOn s
  | .packageReset => afterPackageReset s

/-- A list of effects applied in order. -/
def applyAll (es : List Eff) (s : State) : State := es.foldl (fun s e => e.apply s) s

/-- A meaning: the effects a command has in a state. -/
abbrev Act := State → List Eff

/-- One act after another, the second in the state the first leaves. -/
def Act.seq (a b : Act) : Act := fun s => a s ++ b (applyAll (a s) s)

/-- Acts one after another. -/
def acts : List Act → Act
  | [] => fun _ => []
  | a :: t => Act.seq a (acts t)

/-- An act under a condition of the state. -/
def Act.when (c : State → Bool) (a : Act) : Act := fun s => if c s then a s else []

/-- Effects that do not depend on the state. -/
def eff (es : List Eff) : Act := fun _ => es

/-- An act for each element, one after another. -/
def actsFor {α : Type} (l : List α) (a : α → Act) : Act := acts (l.map a)

/-- The state an act leaves. -/
def Act.run (a : Act) (s : State) : State := applyAll (a s) s

/-- The outcome of a command whose meaning is an act. -/
def Act.outcome (a : Act) (s : State) : Host.Outcome State Fault Refusal := .next (a.run s)

/-- The free value the next draw answers. -/
def State.free (s : State) : Word := Config.freeWord s.freeCtr

/-- Uptime of a number of nanoseconds, in ticks of 4 ns. -/
def ticksOfNs (ns : Nat) : Nat := ns / 4

/-- One second in ticks. -/
def secTicks : Nat := 250000000

/-- The rights mask of a function (R328, R329), or of the remote principal that grant f - 64 names (R43). -/
def State.rights (s : State) (f : Nat) : Nat :=
  if f = 0 then 0x3F
  else if f < 64 then s.pn (Prm.PRN_RIGHTS_1 (f - 1))
  else let v := s.pn (Prm.PRN_REMOTE (f - 64)); if bitOf v 31 then v % 64 else 0

/-- A right by its bit (R328): 0 STREAM, 1 WINDOW, 2 TRIAD, 3 CAL, 4 TIME, 5 STORE. -/
def State.holds (s : State) (f right : Nat) : Bool := f == 0 || bitOf (s.rights f) right

end Sys2Proof.Machine
end

