-- ==== Sys2Proof/Machine/Flags.lean ====
section
/-! DEFINITION. The status codes of R105 and the one order in which a command's checks are reported (R106). The block has no
flags of a processor's kind; its status codes and event sources stand here in their place. -/
namespace Sys2Proof.Machine

def ST_OK : Nat := 0x00
def ST_PENDING : Nat := 0x01
def ST_BUSY : Nat := 0x02
def ST_BUSY_RECOVERING : Nat := 0x03
def ST_STAGED : Nat := 0x04
def ST_BAD_OPCODE : Nat := 0x10
def ST_BAD_LENGTH : Nat := 0x11
def ST_BAD_PARAM : Nat := 0x12
def ST_DENIED : Nat := 0x20
def ST_NOT_OWNER : Nat := 0x21
def ST_CONFLICT : Nat := 0x22
def ST_NO_CONTEXT : Nat := 0x30
def ST_TABLE_FULL : Nat := 0x31
def ST_ABORTED : Nat := 0x40
def ST_TIMEOUT : Nat := 0x41
def ST_OUTPUT_FULL : Nat := 0x50
def ST_INPUT_CORRUPT : Nat := 0x51
def ST_EXPANSION_LIMIT : Nat := 0x52
def ST_MEDIA_ERROR : Nat := 0x60
def ST_NO_SPACE : Nat := 0x61
def ST_THROTTLED : Nat := 0x70
def ST_SELFTEST_FAIL : Nat := 0x80
def ST_ZEROISED : Nat := 0x81

/-- Rights bits of R328. -/
def R_STREAM : Nat := 0
def R_WINDOW : Nat := 1
def R_TRIAD : Nat := 2
def R_CAL : Nat := 3
def R_TIME : Nat := 4
def R_STORE : Nat := 5

/-- The first failing check of a list of (fails, status), which is the one reported (R106). -/
def firstBad : List (Bool × Nat) → Option Nat
  | [] => none
  | (b, st) :: t => if b then some st else firstBad t

/-- Opcodes of the groups 0x01 to 0x05. -/
def opcodesA : List Nat := [
  0x100, 0x101, 0x102, 0x110, 0x111, 0x112, 0x120, 0x130, 0x200, 0x201, 0x202, 0x300, 0x301, 0x302, 0x400, 0x401, 0x402, 0x403, 0x500, 0x501, 0x502, 0x503]

/-- Opcodes of the groups 0x06 to 0x0B. -/
def opcodesB : List Nat := [
  0x600, 0x601, 0x602, 0x603, 0x604, 0x605, 0x606, 0x610, 0x611, 0x700, 0x701, 0x702, 0x703, 0x704, 0x705, 0x706, 0x707, 0x800, 0x801, 0x802, 0x803, 0x804, 0x805, 0x900, 0x901, 0x902, 0x903, 0x904, 0x905, 0x906, 0x907, 0xB00, 0xB01, 0xB02, 0xB03, 0xB04, 0xB05]

/-- Opcodes of the groups 0x0C to 0x13. -/
def opcodesC : List Nat := [
  0xC00, 0xC01, 0xC02, 0xC03, 0xC04, 0xD00, 0xD01, 0xD02, 0xE00, 0xE01, 0xE02, 0xE03, 0xE04, 0xE05, 0xE10, 0xE11, 0xE12, 0xE20, 0xE21, 0xE22, 0xE23, 0xF00, 0xF01, 0xF02, 0xF03, 0x1100, 0x1101, 0x1102, 0x1103, 0x1104, 0x1105, 0x1106, 0x1107, 0x1108, 0x1109, 0x110A, 0x110B, 0x110C, 0x110D, 0x110E, 0x1110, 0x1111, 0x1112, 0x1113, 0x1200, 0x1300, 0x1301, 0x1302, 0x1303, 0x1304]

/-- Every opcode of the device (the opcode tables of the chapters). Any other is answered with ST_BAD_OPCODE (R106). -/
def opcodeDefined (op : Nat) : Bool := opcodesA.contains op || opcodesB.contains op || opcodesC.contains op

end Sys2Proof.Machine
end

