-- ==== Sys2Proof/Machine/Operands.lean ====
section
/-! DEFINITION. The operands of mailbox commands and the shared shape of a service turn: the command in service, the checks
of R106, the response (R92, R98), tickets (R101 to R103) and the staged set (R111, R146). -/
namespace Sys2Proof.Machine

/-! ### Mailbox pages -/

/-- BAR0 offset of the page of function f (R129, the page layout of chapter 03). -/
def pageBase (f : Nat) : Nat := 0x20000 + 0x2000 * f

def Mbx.init : Mbx := ⟨none, true, [], 1, []⟩

def State.mbx (s : State) (f : Nat) : Mbx := s.arm.boxes.getD f Mbx.init

/-- Change the Armature's side of a mailbox. -/
def effMbx (f : Nat) (g : Mbx → Mbx) : Eff := .arm fun a => { a with boxes := a.boxes.upd f Mbx.init g }

/-- TICKETS_OPEN and TICKETS_DONE follow the tickets held (MBX_STATE field table). -/
def syncTickets (f : Nat) : Act := fun s =>
  let ts := (s.mbx f).tickets
  if 64 ≤ f then [] else
  [.fld (Reg.MBX_STATE f) Fld.MBX_STATE.TICKETS_OPEN ts.length,
   .fld (Reg.MBX_STATE f) Fld.MBX_STATE.TICKETS_DONE (ts.filter (·.done)).length]

/-- The 32 bytes of a response header (R92). -/
def rspHeader (op status seq len ticket us : Nat) : Bytes :=
  leBytes 2 op ++ leBytes 2 status ++ leBytes 2 seq ++ leBytes 2 len ++ leBytes 4 ticket ++ leBytes 4 us ++
    List.replicate 16 0

/-- A response made valid: payload first, then the header, then DONE, then the completion event (R92, R98). -/
def present (f : Nat) (rsp : Bytes) (poll : Bool) : Act := fun _ =>
  [.page (pageBase f + 0x1020) (rsp.drop 32), .page (pageBase f + 0x1000) (rsp.take 32),
   .fld (Reg.MBX_STATE f) Fld.MBX_STATE.STATE 2] ++ (if poll then [] else [.raise f])

/-- POLL of a command (R91). -/
def Cmd.poll (c : Cmd) : Bool := c.flags % 2 == 1

/-- The Armature's turn ends: the mailbox served last is f, and nothing is in service (R99). -/
def endTurn (f : Nat) : Eff :=
  .arm fun a => { a with inService := none, lastServed := if f < 64 then f else a.lastServed,
                         boxes := a.boxes.upd f Mbx.init fun b => { b with rung := none } }

/-- The answer of the command in service. SERVICE_US is a free value (R92: a measured time). A response becomes the stored
response of its function (R93); the answer of a forwarded command returns over XPL (R43). -/
def respond (c : Svc) (status : Nat) (payload : Bytes) (ticket : Nat) : Act := fun s =>
  let rsp := rspHeader c.cmd.opcode status c.cmd.seq payload.length ticket s.free.toNat ++ payload
  match c.remote with
  | none =>
    [.draw, effMbx c.f fun b => { b with stored := rsp }] ++ present c.f rsp c.cmd.poll s ++ [endTurn c.f]
  | some (pkg, _, _) => [.draw, .emit (.packet 3 pkg rsp), endTurn c.f]

/-! ### Tickets -/

/-- The next ticket of a function (R101). -/
def ticketId (f count : Nat) : Nat := (f % 256) * 2 ^ 24 + count

/-- The count that follows (R101: after 0xFF_FFFF it continues at 1). -/
def nextCount (count : Nat) : Nat := if count ≥ 0xFFFFFF then 1 else count + 1

/-- A ticket issued to the command in service. -/
def openTicket (c : Svc) : Act := fun s =>
  let id := ticketId c.f (s.mbx c.f).nextTicket
  [effMbx c.f fun b =>
    { b with nextTicket := nextCount b.nextTicket,
             tickets := b.tickets ++ [⟨id, c.cmd.opcode, c.cmd.poll, c.cmd.payload, false, 0, [], 0, false⟩] }]

/-- A ticket of a function. -/
def State.ticket (s : State) (f id : Nat) : Option Ticket := (s.mbx f).tickets.find? (·.id == id)

/-- Ticketed work completes (R103): status and result stored, TICKETS_DONE one higher, E000 + f unless POLL. -/
def completeTicket (f id status : Nat) (result : Bytes) : Act := acts [
  (fun s => match s.ticket f id with
    | none => []
    | some t => if t.done then [] else
      let n := s.arm.clock
      [effMbx f fun b => { b with tickets := b.tickets.map fun t =>
          if t.id = id then { t with done := true, status := status, result := result, order := n } else t },
       .arm fun a => { a with clock := a.clock + 1 }] ++ (if t.poll ∨ 64 ≤ f then [] else [.raise f])),
  syncTickets f]

/-- A ticket marked past its point of no return (R125). -/
def passTicket (f id : Nat) : Eff :=
  effMbx f fun b => { b with tickets := b.tickets.map fun t => if t.id = id then { t with pnr := true } else t }

/-! ### The service turn -/

/-- What a turn answers: status, payload, and the effects the command has. -/
structure Reply where
  status : Nat
  payload : Bytes
  act : Act

/-- A refusal has no effect (R106). -/
def Reply.refuse (st : Nat) : Reply := ⟨st, [], fun _ => []⟩

def Reply.ok (payload : Bytes) (a : Act) : Reply := ⟨ST_OK, payload, a⟩

/-- The command answers ST_PENDING with a ticket (R99). -/
def Reply.pending (a : Act) : Reply := ⟨ST_PENDING, [], a⟩

/-- The checks of a command in the order of R106, then what it does. -/
def checks (cs : List (Bool × Nat)) (r : Reply) : Reply :=
  match firstBad cs with
  | some st => .refuse st
  | none => r

/-- R91: a header with a reserved field or flag set, or a TICKET, is refused with ST_BAD_PARAM at the field checks of R106;
a check that comes before them is reported instead. -/
def guardHeader (c : Svc) (r : Reply) : Reply :=
  if c.cmd.clean ∨ r.status = ST_BAD_LENGTH ∨ r.status = ST_NOT_OWNER ∨ r.status = ST_DENIED then r
  else .refuse ST_BAD_PARAM

/-- The service turn of a row's opcode: its handler answers the command in service, if that command carries this opcode;
otherwise the row has no effect (notes/assumptions/3). A command that needs a 17th ticket is refused with ST_BUSY (R102). -/
def turn (op : Nat) (h : Svc → State → Reply) : Act := fun s =>
  match s.arm.inService with
  | none => []
  | some c =>
    if c.cmd.opcode ≠ op then [] else
    let r := guardHeader c (h c s)
    if r.status = ST_PENDING then
      if 16 ≤ (s.mbx c.f).tickets.length then respond c ST_BUSY [] 0 s
      else acts [openTicket c, r.act, syncTickets c.f,
        respond c ST_PENDING r.payload (ticketId c.f (s.mbx c.f).nextTicket)] s
    else acts [r.act, respond c r.status r.payload 0] s

/-- The command acts for F0 (a forwarded command never does, R43). -/
def Svc.isF0 (c : Svc) : Bool := c.f == 0

/-- A right the command acts with (R328, R43). -/
def Svc.holds (c : Svc) (s : State) (r : Nat) : Bool :=
  match c.remote with
  | none => s.holds c.f r
  | some (_, _, g) => bitOf g r

/-- The rights mask the command acts with. -/
def Svc.mask (c : Svc) (s : State) : Nat :=
  match c.remote with
  | none => s.rights c.f
  | some (_, _, g) => g

/-- LENGTH is not n. -/
def Svc.badLen (c : Svc) (n : Nat) : Bool × Nat := (c.cmd.len != n, ST_BAD_LENGTH)

/-- The command is reserved for F0. -/
def Svc.notF0 (c : Svc) : Bool × Nat := (!c.isF0, ST_NOT_OWNER)

/-- The command needs a right. -/
def Svc.lacks (c : Svc) (s : State) (r : Nat) : Bool × Nat := (!c.holds s r, ST_DENIED)

/-- A number in the command's payload. -/
def Svc.n (c : Svc) (o k : Nat) : Nat := fieldN c.cmd.payload o k

/-- Reserved payload bytes that are not 0 (R14, R91). -/
def Svc.rsv (c : Svc) (o k : Nat) : Bool × Nat := (!zeroAt c.cmd.payload o k, ST_BAD_PARAM)

/-! ### Staged sets -/

def State.stagedOf (s : State) (f : Nat) : List Staged := s.arm.staged.getD f []

/-- Two items name the same parameter or object. -/
def Staged.same : Staged → Staged → Bool
  | .prm a _, .prm b _ => a == b
  | .obj k i _, .obj k' i' _ => k == k' && i == i'
  | _, _ => false

/-- A staged set with an item joined: a later item of the same parameter or object replaces the earlier one. -/
def stageInto (l : List Staged) (x : Staged) : List Staged := l.filter (fun y => !x.same y) ++ [x]

/-- An item joins the caller's staged set (R111). -/
def stage (f : Nat) (x : Staged) : Eff :=
  .arm fun a => { a with staged := a.staged.upd f [] fun l => stageInto l x }

/-- The staged value of a parameter in a list of items. -/
def stagedPrm (l : List Staged) (id : Nat) : Option Word :=
  l.foldl (fun r x => match x with | .prm i v => if i = id then some v else r | _ => r) none

/-- The staged object in a list of items: some none is a staged clearing. -/
def stagedObj (l : List Staged) (kind idx : Nat) : Option (Option Bytes) :=
  l.foldl (fun r x => match x with | .obj k i v => if k = kind ∧ i = idx then some v else r | _ => r) none

/-- An item as a pair of packages exchanges it (R719; notes/assumptions/38). -/
def itemBytes : Staged → Bytes
  | .prm id v => [0] ++ leBytes 2 id ++ leBytes 4 v.toNat
  | .obj k i none => [1] ++ leBytes 1 k ++ leBytes 4 i ++ leBytes 4 0xFFFFFFFF
  | .obj k i (some b) => [1] ++ leBytes 1 k ++ leBytes 4 i ++ leBytes 4 b.length ++ b

/-- Every staged set and pending commit with the function that holds it. -/
def State.allStaged (s : State) : List (Nat × Staged) :=
  (s.arm.staged.entries.flatMap fun e => e.2.map fun x => (e.1, x)) ++
  (s.arm.commits.entries.flatMap fun e => e.2.items.map fun x => (e.1, x))

/-- Parameters over an overlay of staged items: what a commit is checked against (R119). -/
def overlayPrm (s : State) (l : List Staged) (id : Nat) : Nat :=
  match stagedPrm l id with
  | some v => v.toNat
  | none => s.pn id

/-- Objects over an overlay of staged items. -/
def overlayObj (s : State) (l : List Staged) (kind idx : Nat) : Option Bytes :=
  match stagedObj l kind idx with
  | some v => v
  | none => s.obj kind idx

/-! ### Object kinds -/

/-- Front-end table k of sensor s: index 8 * s + k. -/
def K_RFE : Nat := 1
def K_CC : Nat := 2
def K_RULE : Nat := 3
def K_MQT : Nat := 4
/-- Window w of function f: index 16 * f + w. -/
def K_WIN : Nat := 5
def K_LAYER : Nat := 6
/-- Correction tables: index 256 * kind + index. -/
def K_PAT : Nat := 7
def K_LIBMAP : Nat := 8
/-- A patina bank switch. -/
def K_SWITCH : Nat := 9
def K_SCOPE : Nat := 10
def K_CTX : Nat := 11
def K_QUOTA : Nat := 12
def K_ROUTE : Nat := 13

/-! ### Two-word values -/

/-- A free value is drawn for each of n uses: the values, in order. -/
def State.frees (s : State) (n : Nat) : List Word := (List.range n).map fun i => Config.freeWord (s.freeCtr + i)

/-- A 64-bit value of a register pair. -/
def State.rd64 (s : State) (lo : Nat) : Nat := (s.rd lo).toNat + 2 ^ 32 * (s.rd (lo + 4)).toNat

/-- Load a 64-bit value into a register pair. -/
def setReg64 (lo v : Nat) : List Eff := [.reg lo (w32 v), .reg (lo + 4) (w32 (v / 2 ^ 32))]

/-- A 64-bit value of a parameter pair. -/
def State.pn64 (s : State) (lo : Nat) : Nat := s.pn lo + 2 ^ 32 * s.pn (lo + 1)

/-! ### Time and addresses -/

/-- Device time as software sees it, in 2^-16 ns (R518). -/
def State.vis (s : State) : Nat := s.tim.now / 2 ^ 32

/-- One nanosecond in the unit of visible device time. -/
def NS : Nat := 65536

/-- One second in the unit of visible device time. -/
def SEC : Nat := 1000000000 * 65536

/-- A stamp of R531: device time with the low 14 bits of the fraction 0. -/
def State.stamp (s : State) : Nat := s.vis / 2 ^ 14 * 2 ^ 14

/-- The 12 bytes of a time (R518): seconds, nanoseconds, fraction. -/
def timeBytes (v : Nat) : Bytes := leBytes 6 (v / SEC) ++ leBytes 4 (v / NS % 1000000000) ++ leBytes 2 (v % NS)

/-- The time that 12 bytes spell. -/
def timeOf (bs : Bytes) : Nat := fieldN bs 0 6 * SEC + fieldN bs 6 4 * NS + fieldN bs 10 2

/-- The nanoseconds and fraction of a time are within their ranges (R518). -/
def timeOk (bs : Bytes) : Bool := fieldN bs 6 4 < 1000000000

/-- R522: the difference a - b of two times in nanoseconds, the seconds taken modulo 2^48 as signed. -/
def timeDiff (a b : Nat) : Int :=
  sgn 48 (a / SEC + 2 ^ 48 - b / SEC % 2 ^ 48) * 1000000000 + ((a / NS % 1000000000 : Nat) : Int) - ((b / NS % 1000000000 : Nat) : Int)

/-- R522: a time that lies 2^62 ns or more from device time is refused. -/
def tooFar (s : State) (t : Nat) : Bool := decide (2 ^ 62 ≤ (timeDiff t s.vis).natAbs)

/-- Bytes written to a ring whose address names host memory with bit 63 = 1 (R274). -/
def ringWrite (addr : Nat) (bs : Bytes) : Eff := if 2 ^ 63 ≤ addr then .host (addr - 2 ^ 63) bs else .dev addr bs

/-- Bytes read from such an address. -/
def State.ringRead (s : State) (addr n : Nat) : Bytes :=
  if 2 ^ 63 ≤ addr then memReadBytes s.hostMem (addr - 2 ^ 63) n else memReadBytes s.devMem addr n

/-- Lines of a range that are poisoned: the offset of the first byte that lies in one. -/
def firstPoison (s : State) (addr len : Nat) : Option Nat :=
  if 2 ^ 63 ≤ addr then none else
  ((List.range ((addr % 64 + len + 63) / 64)).find? fun i => s.poison.has (addr / 64 + i)).map fun i => i * 64 - addr % 64

/-- An event raised if a condition holds. -/
def raiseIf (c : Bool) (e : Nat) : List Eff := if c then [.raise e] else []

end Sys2Proof.Machine
end

