-- ==== Sys2Proof/Machine/HostBus.lean ====
section
/-! DEFINITION. Host accesses to registers that have no behaviour of their own, register pairs, HUB_LOCK, and the writes of
the event matrix (chapter 04; rows REGISTER_WRITE to EVT_VF_ROUTE_SELF). -/
namespace Sys2Proof.Machine

/-- The BAR0 offset that a function's offset names in its window; none where the window holds nothing (R129 to R131). -/
def winOff (f off : Nat) : Option Nat :=
  if f = 0 then (if off < 0x4000000 then some off else none)
  else if off < 0x2000 then some (pageBase f + off)
  else if off = 0x2044 then some (Reg.EVT_LOCAL f)
  else if off = 0x3000 then some (Reg.ABT_CTRL f)
  else if 0x4000 ≤ off ∧ off < 0x4040 then some (0xB0000 + 0x40 * f + (off - 0x4000))
  else if 0x5000 ≤ off ∧ off < 0x5040 then some (0xC0000 + 0x40 * f + (off - 0x5000))
  else none

/-- F0 writes that BAR0 ignores: the pages of the functions 1 to 63 (R90), the DMA registers of channels 1 to 63 and the
read-only internal channels (chapter 18). -/
def bar0Ignored (f off : Nat) : Bool :=
  f == 0 && ((0x22000 ≤ off && off < 0xA0000) || (0xB0040 ≤ off && off < 0xC0000) ||
    (0xC0040 ≤ off && off < 0xC1000))

/-- Registers whose writes are rows of their own: REGISTER_WRITE leaves them alone. -/
def ownRow (off : Nat) : Bool :=
  (0x10000 ≤ off && off < 0x11000) || off == Reg.HUB_LOCK ||
  (0x100000 ≤ off && off < 0x128000 && off % 0x400 == 0) ||
  (0x160000 ≤ off && off < 0x160100 && off % 0x40 == 0) || (0x150000 ≤ off && off < 0x151000 && off % 0x40 == 0)

/-- A write of this word is a row of its own because of the bit that it sets: GO of an abort, a conversion, an injection or a task,
ARM or STOP of a pulse output. -/
def triggers (off : Nat) (v : Word) : Bool :=
  (0xA0000 ≤ off && off < 0xA0100 && getFld v Fld.ABT_CTRL.GO == 1) ||
  (off == Reg.THM_CONV && getFld v Fld.THM_CONV.GO == 1) || (off == Reg.FLT_INJECT && getFld v Fld.FLT_INJECT.GO == 1) ||
  (0xD1000 ≤ off && off < 0xD1200 && off % 0x20 == 0 && (getFld v Fld.TPO_CTRL.ARM == 1 || getFld v Fld.TPO_CTRL.STOP == 1)) ||
  (0xC0000 ≤ off && off < 0xC1000 && off % 0x40 == 0 && getFld v Fld.CST_TASK_CMD.GO == 1)

/-- The words of NVS_RING_DATA for a ring slot (chapter 23). -/
def ringShow (s : State) (slot : Nat) : List Eff :=
  let b := s.nvs.ring.getD slot (List.replicate 64 0)
  (List.range 16).map fun k => .reg (Reg.NVS_RING_DATA k) (w32 (fieldN b (4 * k) 4))

/-- A word a host writes to a register, by the access types of its fields (R132, R140). -/
def hostWord (s : State) (off : Nat) (v : Word) : Word :=
  match regFind off regTable with
  | some (r, _) => w32 (accessWord (s.flag Reg.HUB_LOCK Fld.HUB_LOCK.LOCK) r.fields v.toNat (s.rd off).toNat)
  | none => 0

/-- A page offset of the command area, which the host may write (R92). -/
def inCommandArea (off : Nat) : Bool := 0x20000 ≤ off && off < 0xA0000 && (off - 0x20000) % 0x2000 < 0x1000

/-- DMA_CTRL of a host channel stands at this offset. -/
def isDmaCtrl (off : Nat) : Bool := 0xB0000 ≤ off && off < 0xB1000 && off % 0x40 == 0

/-- DMA_CTRL with the bus share of a written word (R637): 0 is ignored, and a value above DMA_MAX_SHARE is stored as that. -/
def shareWord (s : State) (off : Nat) (v : Word) : Word :=
  let n := getFld v Fld.DMA_CTRL.SHARE
  if n = 0 then s.rd off else setFld (s.rd off) Fld.DMA_CTRL.SHARE (min n (s.pn (Prm.DMA_MAX_SHARE ((off - 0xB0000) / 0x40))))

/-- The producer index of an output port with a ring source, and the consumer index of an input port, are the host's (chapter 15);
the others are the device's. -/
def audIndexRo (s : State) (off : Nat) : Bool :=
  (List.range 8).any fun p =>
    let out := bitOf (s.pn (Prm.AUD_CFG p)) 30
    let ring := (s.aud.ports.find p).all fun x => x.a.src % 4 == 0
    (off == Reg.AUD_RING_PROD p && !(out && ring)) || (off == Reg.AUD_RING_CONS p && out)

/-- R131, R132: a host write of a register field that has no row of its own. Writes narrower than 32 bits are discarded. -/
def actRegisterWrite (f : Fn) (off width : Nat) (v : Word) : Act := fun s =>
  if width ≠ 4 ∨ off % 4 ≠ 0 then [] else
  match winOff f off with
  | none => []
  | some o =>
    if bar0Ignored f o || ownRow o then []
    else if inCommandArea o then [.page o (leBytes 4 v.toNat)]
    else match regFind o regTable with
      | none => []
      | some _ =>
        if isDmaCtrl o then [.reg o (shareWord s o v)]
        else if triggers o v ∨ audIndexRo s o then []
        else .reg o (hostWord s o v) :: (if o = Reg.NVS_RING_SEL then ringShow s (getFld v Fld.NVS_RING_SEL.INDEX) else [])

def execRegisterWrite (f : Fn) (off width : Nat) (v : Word) (s : State) : Host.Outcome State Fault Refusal :=
  (actRegisterWrite f off width v).outcome s

/-! ### Pairs (R133, R134) -/

/-- Register pairs by the offset of their _LO half: base, stride, count, writable. -/
def pairTable : List (Nat × Nat × Nat × Bool) := [
  (0x10060, 4, 1, false), (0x160204, 0x20, 8, false), (0xD0018, 4, 1, false), (0x10000C, 0x400, 160, false),
  (0x180008, 0x40, 4, false), (0xB0004, 0x40, 80, true), (0xB0014, 0x40, 80, false), (0xB0024, 0x40, 80, false),
  (0xC0004, 0x40, 64, true), (0xC0010, 0x40, 64, true), (0xC0020, 0x40, 64, false), (0xD1010, 0x20, 16, true)]

def pairFind (off : Nat) : List (Nat × Nat × Nat × Bool) → Option Bool
  | [] => none
  | (b, st, c, w) :: t => if b ≤ off ∧ (off - b) % st = 0 ∧ (off - b) / st < c then some w else pairFind off t

/-- The _LO half of a pair stands at this offset: some w, w for a writable pair. -/
def pairAt (off : Nat) : Option Bool := pairFind off pairTable

/-- The key of a pair's latch or held word for a function. -/
def pairKey (f off : Nat) : Nat := f * 2 ^ 26 + off

/-- R133: a read of _LO answers bits [31:0] and keeps [63:32] for this pair and this function. -/
def actPairLoRead (f : Fn) (off : Nat) : Act := fun s =>
  match winOff f off with
  | none => []
  | some o =>
    match pairAt o with
    | none => []
    | some _ => [.latch (pairKey f o) (s.rd (o + 4)), .emit (.readData f o (s.rd o))]

def execPairLoRead (f : Fn) (off : Nat) (s : State) : Host.Outcome State Fault Refusal :=
  (actPairLoRead f off).outcome s

/-- What a read of _HI answers: the latch, or 0 before any _LO read by this function (R133). -/
def pairHiRead (s : State) (f off : Nat) : Word := s.pairLatch.getD (pairKey f off) 0

/-- R134: a write of _HI loads both halves, the _LO half from the held word if there is one. -/
def actPairHiWrite (f : Fn) (off : Nat) (v : Word) : Act := fun s =>
  match winOff f off with
  | none => []
  | some o =>
    if o < 4 ∨ bar0Ignored f o then [] else
    match pairAt (o - 4) with
    | some true =>
      let lo := (s.pairHeld.find (pairKey f (o - 4))).getD (s.rd (o - 4))
      [.reg (o - 4) lo, .reg o v, .held (pairKey f (o - 4)) none]
    | _ => []

def execPairHiWrite (f : Fn) (off : Nat) (v : Word) (s : State) : Host.Outcome State Fault Refusal :=
  (actPairHiWrite f off v).outcome s

/-- R134: a write of _LO is held until the following _HI write. -/
def actPairLoWrite (f : Fn) (off : Nat) (v : Word) : Act := fun _ =>
  match winOff f off with
  | none => []
  | some o =>
    if bar0Ignored f o then [] else
    match pairAt o with
    | some true => [.held (pairKey f o) (some v)]
    | _ => []

def execPairLoWrite (f : Fn) (off : Nat) (v : Word) (s : State) : Host.Outcome State Fault Refusal :=
  (actPairLoWrite f off v).outcome s

/-- R135: LOCK is set by writing 1 and stays set until a power-on reset. -/
def actHubLock (v : Word) : Act := fun s => [.reg Reg.HUB_LOCK (hostWord s Reg.HUB_LOCK v)]

def execHubLock (v : Word) (s : State) : Host.Outcome State Fault Refusal := (actHubLock v).outcome s

/-! ### The event matrix (R148 to R157) -/

/-- Bits of status word k that are reserved sources (R156). -/
def evtDefined (k : Nat) : Word := w32 (resetOf .mask k)

/-- Sources routed to VF f in the sense of R157: the route names f and EN = 1, or it is the function's own source. -/
def vfRouted (s : State) (f e : Nat) : Bool :=
  e == f || (s.flag (Reg.EVT_ROUTE e) Fld.EVT_ROUTE.EN && s.fld (Reg.EVT_ROUTE e) Fld.EVT_ROUTE.FUNC == f)

/-- The bits of event word k that a function's view shows (R157); F0 sees every defined source. -/
def evtView (s : State) (f k : Nat) : Word :=
  if f = 0 then evtDefined k
  else w32 ((List.range 32).foldl (fun a j => if vfRouted s f (32 * k + j) then a + 2 ^ j else a) 0) &&& evtDefined k

/-- Vectors touched by a write of a status, mask or force word: those of its enabled-routed sources in the view (R152). -/
def wordVectors (s : State) (f k : Nat) : List (Nat × Nat) :=
  (List.range 32).flatMap fun j =>
    if (evtView s f k).getLsbD j then
      (vectorOf s.regs (32 * k + j)).filter fun v => f == 0 || v.1 == f
    else []

/-- A host write of event registers: the words, then one message for each touched vector whose summary is then 1 (R152). -/
def evtWrite (ws : List (Nat × Word)) (before : List (Nat × Nat)) (after : State → List (Nat × Nat)) : Act := acts [
  eff (ws.map fun w => .reg w.1 w.2),
  fun s => (hostMessages s.regs (before ++ after s)).map .emit]

/-- R152, R157: W1C of a status word through the writer's view. -/
def actEvtStatusWrite (f : Fn) (k : Fin 8) (v : Word) : Act := fun s =>
  let vs := wordVectors s f k
  evtWrite [(Reg.EVT_STATUS k, s.rd (Reg.EVT_STATUS k) &&& ~~~(v &&& evtView s f k))] vs (fun _ => []) s

def execEvtStatusWrite (f : Fn) (k : Fin 8) (v : Word) (s : State) : Host.Outcome State Fault Refusal :=
  (actEvtStatusWrite f k v).outcome s

/-- R152, R156, R157: a mask word through the writer's view; reserved bits stay 0. -/
def actEvtMaskWrite (f : Fn) (k : Fin 8) (v : Word) : Act := fun s =>
  let m := evtView s f k
  evtWrite [(Reg.EVT_MASK k, (s.rd (Reg.EVT_MASK k) &&& ~~~m) ||| (v &&& m))] (wordVectors s f k) (fun _ => []) s

def execEvtMaskWrite (f : Fn) (k : Fin 8) (v : Word) (s : State) : Host.Outcome State Fault Refusal :=
  (actEvtMaskWrite f k v).outcome s

/-- The register file after status bits were forced: each counted in EVT_LOG_COUNT as a hardware set (R155). -/
def forceRegs (regs : FMap Word) (k : Nat) (v : Word) : FMap Word :=
  (List.range 32).foldl (fun r j => if (v &&& evtDefined k).getLsbD j then evtRegs r (32 * k + j) else r) regs

/-- R152: EVT_FORCE sets status bits as hardware sets would. A write touches the vectors of the word's routed sources. -/
def actEvtForceWrite (k : Fin 8) (v : Word) : Act := fun s =>
  let r := forceRegs s.regs k v
  evtWrite [(Reg.EVT_STATUS k, r.getD (Reg.EVT_STATUS k) 0),
            (Reg.EVT_LOG_COUNT_LO, r.getD Reg.EVT_LOG_COUNT_LO 0), (Reg.EVT_LOG_COUNT_HI, r.getD Reg.EVT_LOG_COUNT_HI 0)]
    (wordVectors s 0 k) (fun _ => []) s

def execEvtForceWrite (k : Fin 8) (v : Word) (s : State) : Host.Outcome State Fault Refusal :=
  (actEvtForceWrite k v).outcome s

/-- The right that a function needs for a shared source (R149, R158); none: F0 only. -/
def evtRight (e : Nat) : Option Nat :=
  if 84 ≤ e ∧ e ≤ 93 then some R_STREAM
  else if e = 138 ∨ e = 139 then some R_TRIAD
  else if e = 160 ∨ e = 161 ∨ e = 162 ∨ e = 164 ∨ e = 253 then some R_WINDOW
  else if 176 ≤ e ∧ e ≤ 184 then some R_CAL
  else if 208 ≤ e ∧ e ≤ 215 then some R_TIME
  else none

/-- Vectors of a function: 0 to 63 for F0, 0 to 7 for a VF. -/
def vecRange (f : Nat) : Nat := if f = 0 then 64 else 8

/-- Function f may be named by the route of source e (R149). -/
def mayRoute (s : State) (e f : Nat) : Bool :=
  if e < 64 then f == e
  else f == 0 || (match evtRight e with | some r => s.holds f r | none => false)

/-- R150, R153: a route write by F0. EN = 1 is checked; EN = 0 is stored as written. ROUTE_ERR is W1C. -/
def actEvtRouteWrite (e : Fin 256) (v : Word) : Act := fun s =>
  if evtReserved e then [] else
  let o := Reg.EVT_ROUTE e
  let old := s.rd o
  let f := if e.val < 64 then e.val else getFld v Fld.EVT_ROUTE.FUNC
  let vec := getFld v Fld.EVT_ROUTE.VECTOR
  let err := getFld old Fld.EVT_ROUTE.ROUTE_ERR == 1 && !v.getLsbD 30
  let bad := v.getLsbD 31 && (!mayRoute s e f || vecRange f ≤ vec)
  let word : Word :=
    if bad then setFld old Fld.EVT_ROUTE.ROUTE_ERR 1
    else setFld (setFld (setFld (setFld 0 Fld.EVT_ROUTE.VECTOR vec) Fld.EVT_ROUTE.FUNC f)
      Fld.EVT_ROUTE.ROUTE_ERR (if err then 1 else 0)) Fld.EVT_ROUTE.EN (if v.getLsbD 31 then 1 else 0)
  evtWrite [(o, word)] (vectorOf s.regs e) (fun s' => vectorOf s'.regs e) s

def execEvtRouteWrite (e : Fin 256) (v : Word) (s : State) : Host.Outcome State Fault Refusal :=
  (actEvtRouteWrite e v).outcome s

/-- The vectors EVT_LOCAL selects (R152, R154). -/
def localVectors (s : State) (f : Nat) : List (Nat × Nat) :=
  (if s.flag (Reg.EVT_LOCAL f) Fld.EVT_LOCAL.DMA_EN then [(f, s.fld (Reg.EVT_LOCAL f) Fld.EVT_LOCAL.DMA_VEC)] else []) ++
  (if s.flag (Reg.EVT_LOCAL f) Fld.EVT_LOCAL.CST_EN then [(f, s.fld (Reg.EVT_LOCAL f) Fld.EVT_LOCAL.CST_VEC)] else [])

/-- R154: EVT_LOCAL of a function; a vector out of range is refused and the field keeps its value. -/
def actEvtLocalWrite (f : Fn) (v : Word) : Act := fun s =>
  let o := Reg.EVT_LOCAL f
  let cv := getFld v Fld.EVT_LOCAL.CST_VEC
  let dv := getFld v Fld.EVT_LOCAL.DMA_VEC
  let w := if cv < vecRange f then v else setFld v Fld.EVT_LOCAL.CST_VEC (s.fld o Fld.EVT_LOCAL.CST_VEC)
  let w := if dv < vecRange f then w else setFld w Fld.EVT_LOCAL.DMA_VEC (s.fld o Fld.EVT_LOCAL.DMA_VEC)
  evtWrite [(o, w)] (localVectors s f) (fun s' => localVectors s' f) s

def execEvtLocalWrite (f : Fn) (v : Word) (s : State) : Host.Outcome State Fault Refusal :=
  (actEvtLocalWrite f v).outcome s

/-- R157: a VF writes EN and VECTOR [2:0] of the route of its own completion source. F0 has no such register. -/
def actEvtVfRouteSelf (f : Fn) (v : Word) : Act := fun s =>
  if f.val = 0 then [] else
  let o := Reg.EVT_ROUTE f
  evtWrite [(o, setFld (setFld (s.rd o) Fld.EVT_ROUTE.VECTOR (bitsOf v.toNat 2 0)) Fld.EVT_ROUTE.EN (bitsOf v.toNat 31 31))]
    (vectorOf s.regs f) (fun s' => vectorOf s'.regs f) s

def execEvtVfRouteSelf (f : Fn) (v : Word) (s : State) : Host.Outcome State Fault Refusal :=
  (actEvtVfRouteSelf f v).outcome s

/-- R151: the routes that name function f and need a right it no longer holds are disabled. -/
def dropRoutes (f : Nat) : Act := fun s =>
  (List.range 192).flatMap fun i =>
    let e := i + 64
    let o := Reg.EVT_ROUTE e
    if f ≠ 0 ∧ s.flag o Fld.EVT_ROUTE.EN ∧ s.fld o Fld.EVT_ROUTE.FUNC = f ∧ !mayRoute s e f
    then [.fld o Fld.EVT_ROUTE.EN 0] else []

end Sys2Proof.Machine
end

