-- ==== Sys2Proof/Machine/Audio.lean ====
section
/-! DEFINITION. Audio ports (chapter 15): the system index, muting and zero-crossing changes, input samples, channel status;
rows AUD_CS_READ to AUD_CS_BLOCK and AUD_INPUT_SAMPLE. -/
namespace Sys2Proof.Machine

def AudCh.init : AudCh := ⟨false, 0x4000, false, 0, 0, 0⟩

def AudCs.init : AudCs := ⟨List.replicate 24 0, List.replicate 24 0, 0, false, false, none⟩

def AudPort.init : AudPort := ⟨.init, .init, none, false, 500, false, false, 0, .init, .init⟩

def State.audPort (s : State) (p : Nat) : AudPort := s.aud.ports.getD p AudPort.init

/-- Change what a port holds. -/
def effAud (p : Nat) (g : AudPort → AudPort) : Eff := .aud fun a => { a with ports := a.ports.upd p AudPort.init g }

/-- The system rate in Hz (R551). -/
def sysRate (s : State) : Nat := if s.pn Prm.AUD_SYS_RATE = 1 then 96000 else 48000

/-- The system sample at a device time (R551). -/
def sampleAt (s : State) (v : Nat) : Nat := v * sysRate s / SEC

def audEn (s : State) (p : Nat) : Bool := bitOf (s.pn (Prm.AUD_CFG p)) 31
def audOut (s : State) (p : Nat) : Bool := bitOf (s.pn (Prm.AUD_CFG p)) 30
def audMaster (s : State) (p : Nat) : Bool := bitOf (s.pn (Prm.AUD_CFG p)) 29
def audRef (s : State) (p : Nat) : Nat := bitsOf (s.pn (Prm.AUD_CFG p)) 26 24

/-- The nominal rates of AUD_CFG [3:0]. -/
def nominalHz (code : Nat) : Nat := [32000, 44100, 48000, 88200, 96000, 176400, 192000].getD code 0

/-- The rate code whose nominal rate lies closest to a measured rate; 0xF for none (AUD_PORT_STAT.RATE). -/
def rateCode (hz : Nat) : Nat :=
  if hz = 0 then 15
  else ((List.range 7).foldl (fun r i =>
    let d := ((nominalHz i : Int) - hz).natAbs
    if d < r.2 then (i, d) else r) (15, 10 ^ 9)).1

/-- What a channel should have in effect (R558). -/
def audDue (s : State) (p c : Nat) : AudCh :=
  let ap := s.audPort p
  let old := if c = 0 then ap.a else ap.b
  { run := audEn s p && ap.stable, gain := bitsOf (s.pn (Prm.AUD_GAIN p)) (16 * c + 15) (16 * c),
    mute := bitOf (s.pn (Prm.AUD_MUTE p)) c, src := s.pn (Prm.AUD_SRC p), delay := ap.due, last := old.last }

/-- A change waits on a channel. -/
def audWaits (s : State) (p c : Nat) : Bool :=
  let ap := s.audPort p
  (if c = 0 then ap.a else ap.b) != audDue s p c

/-- MUTED, WAITING_ZC, the waiting time and AUD_DELAY_IN_FORCE follow the channels (R555, R558, R559). -/
def audSync (p : Nat) : Act := fun s =>
  let ap := s.audPort p
  let w := audWaits s p 0 || audWaits s p 1
  [effAud p fun x => { x with since := if w then some (x.since.getD s.uptime) else none },
   .fld (Reg.AUD_PORT_STAT p) Fld.AUD_PORT_STAT.WAITING_ZC (if w then 1 else 0),
   .fld (Reg.AUD_PORT_STAT p) Fld.AUD_PORT_STAT.MUTED (if ap.a.run && ap.b.run then 0 else 1),
   .prm (Prm.AUD_DELAY_IN_FORCE p) (w32 ap.a.delay)]

/-- The waiting changes of the named channels take effect. -/
def audTake (p : Nat) (a b : Bool) : Act := fun s =>
  [effAud p fun x => { x with a := if a then audDue s p 0 else x.a, b := if b then audDue s p 1 else x.b }]

/-- A port mutes at once: both channels stop, and stay so until AUD_UNMUTE (R553, R554, R555). -/
def audMuteNow (p : Nat) : Act := acts [
  eff [effAud p fun x => { x with stable := false, a := { x.a with run := false }, b := { x.b with run := false } }],
  audSync p]

/-- R554: a step of device time mutes every port at once. -/
def audStepMute : Act := actsFor ((List.range 8)) fun p => Act.when (fun s => audEn s p) (audMuteNow p)

/-- LOCKED of a port and its copy in AUD_PORTS_LOCKED. -/
def audLocked (p : Nat) (v : Bool) : Act := fun s =>
  [.fld (Reg.AUD_PORT_STAT p) Fld.AUD_PORT_STAT.LOCKED (if v then 1 else 0),
   .prm Prm.AUD_PORTS_LOCKED (w32 (putBits (s.pn Prm.AUD_PORTS_LOCKED) p p (if v then 1 else 0)))]

/-- The clock that a port follows is lost (R555). -/
def audLose (p : Nat) : Act := acts [
  eff [.fld (Reg.AUD_PORT_STAT p) Fld.AUD_PORT_STAT.CLOCK_LOST 1, .fld (Reg.AUD_PORT_STAT p) Fld.AUD_PORT_STAT.RATE 15,
    .count (Prm.AUD_CLOCK_LOSSES p) 1, .count Prm.AUD_CLOCK_LOSSES_TOTAL 1, .raise 216],
  audLocked p false, audMuteNow p]

/-- R555: the clock of input p is lost, and with it the clock of every output that follows it. An output with MASTER = 1
follows device time and loses no clock. -/
def actAudClockLoss (p : Fin 8) : Act := fun s =>
  if !audEn s p ∨ audOut s p then []
  else acts [audLose p, actsFor ((List.range 8).filter fun q => audEn s q && audOut s q && !audMaster s q && audRef s q == p.val) audLose] s

def execAudClockLoss (p : Fin 8) (s : State) : Host.Outcome State Fault Refusal := (actAudClockLoss p).outcome s

/-- The measured rate departs from the nominal one by more than the tolerance (R553). -/
def ratioBad (s : State) (p hz : Nat) : Bool :=
  let n := nominalHz (bitsOf (s.pn (Prm.AUD_CFG p)) 3 0)
  decide ((((hz : Int) - n).natAbs) * 1000000 > s.pn (Prm.AUD_RATIO_TOL_PPM p) * n)

/-- The ratio reports of a port (R553). -/
def ratioReport (p hz : Nat) : Act := fun s =>
  [.prm (Prm.AUD_RATIO p) (w32 (hz * 2 ^ 24 / sysRate s)), .prm (Prm.AUD_RATE_HZ p) (w32 hz),
   .fld (Reg.AUD_PORT_STAT p) Fld.AUD_PORT_STAT.RATE (rateCode hz)]

/-- R553: a measured line rate; beyond the tolerance the port mutes, sets RATIO_ERR and raises E217. -/
def actAudRatioError (p : Fin 8) (hz : Nat) : Act := fun s =>
  if !audEn s p then [] else
  acts [ratioReport p hz,
    if ratioBad s p hz then acts [
      eff [.fld (Reg.AUD_PORT_STAT p) Fld.AUD_PORT_STAT.RATIO_ERR 1, .count (Prm.AUD_RATIO_ERRS p) 1, .raise 217],
      audMuteNow p]
    else eff [.fld (Reg.AUD_PORT_STAT p) Fld.AUD_PORT_STAT.RATIO_ERR 0]] s

def execAudRatioError (p : Fin 8) (hz : Nat) (s : State) : Host.Outcome State Fault Refusal := (actAudRatioError p hz).outcome s

/-- The clock that an output follows is present: device time, or a locked input (R555). -/
def clockPresent (s : State) (p : Nat) : Bool :=
  !audOut s p || audMaster s p || (audEn s (audRef s p) && s.flag (Reg.AUD_PORT_STAT (audRef s p)) Fld.AUD_PORT_STAT.LOCKED)

/-- R555, R553: the clock has been stable for AUD_UNMUTE_MS at a rate within the tolerance; the port unmutes at the next
zero crossing of each channel. -/
def actAudUnmute (p : Fin 8) (hz : Nat) : Act := fun s =>
  if !audEn s p ∨ ratioBad s p hz ∨ !clockPresent s p then [] else
  acts [ratioReport p hz, audLocked p true,
    eff [.fld (Reg.AUD_PORT_STAT p) Fld.AUD_PORT_STAT.RATIO_ERR 0, effAud p fun x => { x with stable := true }],
    audSync p] s

def execAudUnmute (p : Fin 8) (hz : Nat) (s : State) : Host.Outcome State Fault Refusal := (actAudUnmute p hz).outcome s

/-- R558: 10 ms have passed; the waiting channels take the change, the wait is counted and E219 raised. -/
def actAudZcTimeout (p : Fin 8) : Act := fun s =>
  if (s.audPort p).since.isNone then [] else
  acts [audTake p true true, audSync p,
    eff [.count (Prm.AUD_ZC_TIMEOUTS p) 1, .count Prm.AUD_ZC_TIMEOUTS_TOTAL 1, .raise 219]] s

def execAudZcTimeout (p : Fin 8) (s : State) : Host.Outcome State Fault Refusal := (actAudZcTimeout p).outcome s

/-! ### Samples -/

/-- A zero crossing: the sign differs from the previous sample's, or the magnitude is at most AUD_ZC_THRESH (R558). -/
def zeroCross (s : State) (prev x : Int) : Bool :=
  decide (x < 0) != decide (prev < 0) || decide (x.natAbs ≤ s.pn Prm.AUD_ZC_THRESH)

/-- A sample under a gain of UQ2.14. Exact where the product is a whole number of 24-bit steps within range; otherwise the
spec states no result, and the value is free (notes/assumptions/20). -/
def audGain (g : Nat) (x : Int) : BitVec 24 :=
  let y := x * g
  if y % 16384 = 0 ∧ -8388608 ≤ y / 16384 ∧ y / 16384 ≤ 8388607 then BitVec.ofInt 24 (y / 16384)
  else BitVec.ofNat 24 (Config.freeAt 15 [g, unsgn 24 x])

/-- What a channel passes of a sample: 0 while muted (R555). -/
def audPass (c : AudCh) (x : Int) : BitVec 24 := if c.run && !c.mute then audGain c.gain x else 0

/-- A sample packed (R556): 3 bytes, or 4 bytes with the low byte 0. -/
def packSample (pack : Nat) (x : BitVec 24) : Bytes := if pack = 0 then leBytes 3 x.toNat else 0 :: leBytes 3 x.toNat

/-- A packed sample read back. -/
def unpackSample (pack : Nat) (bs : Bytes) : BitVec 24 :=
  BitVec.ofNat 24 (if pack = 0 then fieldN bs 0 3 else fieldN bs 1 3)

def sampleSize (pack : Nat) : Nat := if pack = 0 then 3 else 4

/-- Address of the frame of sample k in a port's ring (R556). -/
def ringFrame (s : State) (p k : Nat) : Nat :=
  s.pn64 (Prm.AUD_RING_ADDR_LO p) + k % s.pn (Prm.AUD_RING_FRAMES p) * (2 * sampleSize (s.pn (Prm.AUD_PACK p)))

/-- A parameter raised to a value if that is larger (peak registers). -/
def peakUp (s : State) (id v : Nat) : Eff := .prm id (w32 (if s.pn id < v then v else s.pn id))

/-- Samples pass a port: changes that wait take effect at a zero crossing of their channel, and the previous samples are kept
(R558). -/
def audCross (p : Nat) (a b : Int) : Act := fun s =>
  let ap := s.audPort p
  acts [audTake p (audWaits s p 0 && zeroCross s ap.a.last a) (audWaits s p 1 && zeroCross s ap.b.last b), audSync p,
    eff [effAud p fun x => { x with a := { x.a with last := a }, b := { x.b with last := b } }]] s

/-- The signed difference of two ring indices (R557). -/
def ringAhead (a b : Nat) : Int := sgn 32 (a + 2 ^ 32 - b % 2 ^ 32)

/-- The overrun check of an input ring: once CONS_EN is set, a write that leaves more than AUD_RING_FRAMES frames between
the indices is counted, and E221 raised once a run (R557). -/
def audOverrun (p prod : Nat) : Act := fun s =>
  let past := s.flag (Reg.AUD_PORT_CTRL p) Fld.AUD_PORT_CTRL.CONS_EN &&
    decide ((prod + 2 ^ 32 - (s.rd (Reg.AUD_RING_CONS p)).toNat) % 2 ^ 32 > s.pn (Prm.AUD_RING_FRAMES p))
  (if past then [.count (Prm.AUD_OVERRUNS p) 1, .count Prm.AUD_OVERRUNS_TOTAL 1] else []) ++
  raiseIf (past && !(s.audPort p).past) 221 ++ [effAud p fun x => { x with past := past }]

/-- R552, R555, R556, R557, R558: an input port writes the system sample of the present device time into its ring. -/
def actAudInputSample (p : Fin 8) (a b : BitVec 24) (valid parityOk biphaseOk : Bool) : Act := fun s =>
  if audOut s p then [] else
  let k := sampleAt s s.vis
  acts [
    eff ((if valid then [] else [.count (Prm.AUD_INVALID p) 1]) ++ (if parityOk then [] else [.count (Prm.AUD_PARITY_ERRS p) 1]) ++
      (if biphaseOk then [] else [.count (Prm.AUD_BIPHASE_ERRS p) 1])),
    audCross p a.toInt b.toInt,
    (fun s =>
      let ap := s.audPort p
      let pk := s.pn (Prm.AUD_PACK p)
      if !audEn s p ∧ !ap.a.run ∧ !ap.b.run then [] else
      [ringWrite (ringFrame s p k) (packSample pk (audPass ap.a a.toInt) ++ packSample pk (audPass ap.b b.toInt)),
       .reg (Reg.AUD_RING_PROD p) (w32 (k + 1)), .prm (Prm.AUD_LAST_K p) (w32 k),
       peakUp s (Prm.AUD_PEAK_A p) a.toInt.natAbs, peakUp s (Prm.AUD_PEAK_B p) b.toInt.natAbs]),
    Act.when (fun s => audEn s p) (audOverrun p (k + 1))] s

def execAudInputSample (p : Fin 8) (a b : BitVec 24) (valid parityOk biphaseOk : Bool) (s : State) :
    Host.Outcome State Fault Refusal :=
  (actAudInputSample p a b valid parityOk biphaseOk).outcome s

/-! ### Channel status -/

/-- The CRCC of AES3 byte 23 over bytes 0 to 22: x^8 + x^4 + x^3 + x^2 + 1, initial ones, bits in the order sent. -/
def crcc (bs : Bytes) : Nat := reverseBits 8 (crcBits 8 0x1D 0xFF ((bs.take 23).flatMap byteBitsL))

/-- The professional bit of a block (AES3 byte 0 bit 0). -/
def csPro (status : Bytes) : Bool := fieldN status 0 1 % 2 == 1

/-- Channel status of a port. -/
def AudPort.cs (ap : AudPort) (c : Nat) : AudCs := if c = 0 then ap.csA else ap.csB

/-- Change the channel status of a channel. -/
def effCs (p c : Nat) (g : AudCs → AudCs) : Eff :=
  effAud p fun x => if c = 0 then { x with csA := g x.csA } else { x with csB := g x.csB }

/-- R560: a block of an input channel: checked, and accepted or discarded; a change of bytes 0 to 22 raises E218. -/
def actAudCsBlock (p : Fin 8) (chan : Fin 2) (status user : Bytes) : Act := fun s =>
  if !audEn s p ∨ audOut s p then [] else
  let st := field status 0 24
  let us := field user 0 24
  let ok := !csPro st || fieldN st 23 1 == crcc st
  let old := (s.audPort p).cs chan
  let changed := ok && old.accepted && old.status.take 23 != st.take 23
  (if chan.val = 0 then [.count (Prm.AUD_BLOCKS p) 1] else []) ++
  (if ok then [effCs p chan fun c => { c with status := st, user := us, blocks := (c.blocks + 1) % 2 ^ 32, accepted := true, crcOk := csPro st }]
   else [.count (Prm.AUD_CRCC_ERRS p) 1, effCs p chan fun c => { c with user := us, blocks := (c.blocks + 1) % 2 ^ 32, crcOk := false }]) ++
  (if changed then [.count (Prm.AUD_CS_CHANGES p) 1] else []) ++ raiseIf changed 218

def execAudCsBlock (p : Fin 8) (chan : Fin 2) (status user : Bytes) (s : State) : Host.Outcome State Fault Refusal :=
  (actAudCsBlock p chan status user).outcome s

/-- Byte 0 of the default status: professional use, the line rate, emphasis not indicated (R561; the AES3 codes). -/
def defaultByte0 (rate : Nat) : Byte := [0xC1#8, 0x41#8, 0x81#8].getD rate 0x01#8

/-- The status an output sends (R561): the default, or the table written, with byte 23 computed. -/
def sentStatus (s : State) (p : Nat) (table : Option Bytes) : Bytes :=
  let b := match table with
    | some t => field t 0 23
    | none => defaultByte0 (bitsOf (s.pn (Prm.AUD_CFG p)) 3 0) :: 0 :: 0x2C#8 :: List.replicate 20 0
  b ++ leBytes 1 (crcc b)

/-- What AUD_CS_READ shows of an output: the status in force, as accepted tables are kept in the status field. -/
def outStatus (s : State) (p c : Nat) : Bytes :=
  let x := (s.audPort p).cs c
  sentStatus s p (if x.accepted then some x.status else none)

/-- R560, R562. -/
def hAudCsRead (c : Svc) (s : State) : Reply :=
  let p := c.n 0 1
  let ch := c.n 1 1
  let x := (s.audPort p).cs ch
  let out := audOut s p
  let st := if out then outStatus s p ch else x.status
  let fl := (if csPro st then 1 else 0) + (if out || x.crcOk then 2 else 0)
  checks [c.badLen 4, c.notF0, (7 < p || 1 < ch, ST_BAD_PARAM), c.rsv 2 2]
    (.ok (st ++ x.user ++ leBytes 4 x.blocks ++ leBytes 4 fl) (fun _ => []))

def execAudCsRead (s : State) : Host.Outcome State Fault Refusal := (turn 0xD00 hAudCsRead).outcome s

/-- R561, R562: bytes 0 to 22 of an output's channel status, from the next block start. -/
def hAudCsWrite (c : Svc) (s : State) : Reply :=
  let p := c.n 0 1
  let ch := c.n 1 1
  checks [c.badLen 28, c.notF0, (7 < p || 1 < ch || !audOut s p, ST_BAD_PARAM), c.rsv 2 2, c.rsv 27 1]
    (.ok [] (eff [effCs p ch fun x => { x with next := some (field c.cmd.payload 4 23) }]))

def execAudCsWrite (s : State) : Host.Outcome State Fault Refusal := (turn 0xD01 hAudCsWrite).outcome s

/-- R562. -/
def hAudInfo (c : Svc) (s : State) : Reply :=
  let p := c.n 0 1
  checks [c.badLen 4, c.notF0, (7 < p, ST_BAD_PARAM), c.rsv 1 3]
    (.ok ((s.rd (Reg.AUD_PORT_STAT p)).toNat |> leBytes 4 |> fun b => b ++ leBytes 4 (s.pn (Prm.AUD_RATIO p)) ++
      leBytes 4 (s.pn (Prm.AUD_DELAY_IN_FORCE p)) ++ leBytes 4 (s.rd (Reg.AUD_RING_PROD p)).toNat ++
      leBytes 4 (s.rd (Reg.AUD_RING_CONS p)).toNat ++ leBytes 4 (s.pn (Prm.AUD_UNDERRUNS p)) ++
      leBytes 4 (s.pn (Prm.AUD_OVERRUNS p))) (fun _ => []))

def execAudInfo (s : State) : Host.Outcome State Fault Refusal := (turn 0xD02 hAudInfo).outcome s

/-! ### The output side, whose sources stand in other files -/

/-- D in whole µs from its two terms (R559): at least 500. -/
def delayOf (base : Nat) (trim : Int) : Nat × Bool :=
  let d := (base : Int) + trim
  if d < 500 then (500, true) else (d.toNat, false)

/-- The system sample an output needs (R557): the one whose device time is k / rate + D - 250 µs. -/
def neededSample (s : State) (p : Nat) : Nat :=
  let lead := ((s.audPort p).a.delay - 250) * 1000 * NS
  sampleAt s (s.vis - lead)

/-- An output sends a frame (R555, R557): zeros with the validity bit set while muted. x is the frame its source supplies,
none where it is missing. -/
def audSend (p k : Nat) (x : Option (BitVec 24 × BitVec 24)) : Act := acts [
  (fun s => match x with
    | some (a, b) => audCross p a.toInt b.toInt s
    | none => audCross p 0 0 s),
  fun s =>
    let ap := s.audPort p
    let live := ap.a.run || ap.b.run
    let miss := x.isNone && live
    let f := match x with
      | some (a, b) => (audPass ap.a a.toInt, audPass ap.b b.toInt)
      | none => (0#24, 0#24)
    (if miss then [.count (Prm.AUD_UNDERRUNS p) 1, .count Prm.AUD_UNDERRUNS_TOTAL 1] else []) ++
    raiseIf (miss && !ap.missing) 220 ++
    (if ap.frame = 0 then [.count (Prm.AUD_BLOCKS p) 1,
      effAud p fun y => { y with
        csA := { y.csA with status := (y.csA.next.getD y.csA.status), accepted := y.csA.accepted || y.csA.next.isSome, next := none,
                            blocks := (y.csA.blocks + 1) % 2 ^ 32 },
        csB := { y.csB with status := (y.csB.next.getD y.csB.status), accepted := y.csB.accepted || y.csB.next.isSome, next := none,
                            blocks := (y.csB.blocks + 1) % 2 ^ 32 } }] else []) ++
    [effAud p fun y => { y with missing := miss, frame := (y.frame + 1) % 192 },
     .emit (.packet 5 p (leBytes 3 f.1.toNat ++ leBytes 3 f.2.toNat ++ [if live then 0 else 1])),
     .prm (Prm.AUD_LAST_K p) (w32 k)]]

end Sys2Proof.Machine
end

