-- ==== Sys2Proof/Machine/Mailbox.lean ====
section
/-! DEFINITION. The mailboxes: doorbells, the service turn, and the global commands that only read or stage (chapter 03;
rows MBX_DOORBELL to TKT_GET but PRM_SET). -/
namespace Sys2Proof.Machine

/-- The command area of a page as the Armature copies it (R91, R96). -/
def copyCommand (s : State) (f dbSeq : Nat) : Cmd :=
  let h := memReadBytes s.pageMem (pageBase f) 32
  let len := fieldN h 6 2
  ⟨fieldN h 0 2, fieldN h 2 2, fieldN h 4 2, len,
   zeroAt h 8 24 && fieldN h 2 2 < 2,
   memReadBytes s.pageMem (pageBase f + 32) (if len ≤ 4064 then len else 4064), dbSeq⟩

/-- R96, R97: a doorbell copies the command area and sets BUSY, or is refused with RING_LOST set. -/
def actMbxDoorbell (f : Fn) (v : Word) : Act := fun s =>
  if getFld v Fld.MBX_DOORBELL.RING = 0 then [] else
  let st := s.fld (Reg.MBX_STATE f) Fld.MBX_STATE.STATE
  if st = 1 ∨ st = 3 then [.fld (Reg.MBX_STATE f) Fld.MBX_STATE.RING_LOST 1]
  else
    let c := copyCommand s f (getFld v Fld.MBX_DOORBELL.SEQ)
    [effMbx f fun b => { b with rung := some c }, .fld (Reg.MBX_STATE f) Fld.MBX_STATE.STATE 1]

def execMbxDoorbell (f : Fn) (v : Word) (s : State) : Host.Outcome State Fault Refusal := (actMbxDoorbell f v).outcome s

/-- The function served next: the first rung mailbox after the one served last, round robin (R99); a command forwarded
over XPL waits for all of them (R43; DESIGN CHOICE, notes/assumptions/37). -/
def nextRung (s : State) : Option Nat :=
  match ((List.range 64).map fun i => (s.arm.lastServed + 1 + i) % 64).find? fun f => (s.mbx f).rung.isSome with
  | some f => some f
  | none => (s.arm.boxes.entries.find? fun e => decide (64 ≤ e.1) && e.2.rung.isSome).map (·.1)

/-- The key under which a forwarded command waits, by the package and function that sent it. -/
def remoteKey (pkg f : Nat) : Nat := 1024 + 64 * pkg + f

/-- The grant of a pair of package and function: the number of its PRN_REMOTE entry and the rights (R43, R364). A remote principal
is known inside the block as 64 + that number (DESIGN CHOICE, notes/assumptions/37). -/
def grantOf (s : State) (pkg f : Nat) : Option (Nat × Nat) :=
  ((List.range 32).map fun n => (n, s.pn (Prm.PRN_REMOTE n))).findSome? fun x =>
    if bitOf x.2 31 && bitsOf x.2 27 24 == pkg && bitsOf x.2 21 16 == f then some (x.1, x.2 % 64) else none

/-- The service turn of a forwarded command starts (R43, R365). -/
def serveRemote (key : Nat) (c : Cmd) : Act := fun s =>
  let pkg := (key - 1024) / 64
  let f := (key - 1024) % 64
  match grantOf s pkg f with
  | none => .raise 95 :: respond ⟨key, c, some (pkg, f, 0)⟩ ST_DENIED [] 0 s
  | some (n, g) =>
    let svc : Svc := ⟨64 + n, c, some (pkg, f, g)⟩
    acts [eff [effMbx key fun b => { b with rung := none }],
      if s.arm.dead then respond svc ST_SELFTEST_FAIL [] 0
      else if !opcodeDefined c.opcode then respond svc ST_BAD_OPCODE [] 0
      else if 4064 < c.len then respond svc ST_BAD_LENGTH [] 0
      else eff [.arm fun a => { a with inService := some svc }]] s

/-- A refusal under R95 or as stale: written into the response area, never stored (R93). -/
def refuseUnstored (f : Nat) (c : Cmd) (st : Nat) : Act := fun s =>
  .draw :: (present f (rspHeader c.opcode st c.seq 0 0 s.free.toNat) c.poll s ++ [endTurn f])

/-- R95, R93, R94, then the opcode and length checks of R106 that hold for every opcode. -/
def serve (f : Nat) (c : Cmd) : Act := fun s =>
  let last := s.fld (Reg.MBX_STATE f) Fld.MBX_STATE.LAST_SEQ
  let d := (c.seq + 65536 - last) % 65536
  let svc : Svc := ⟨f, c, none⟩
  if s.arm.dead then refuseUnstored f c ST_SELFTEST_FAIL s
  else if c.dbSeq ≠ c.seq then refuseUnstored f c ST_BAD_PARAM s
  else if !(s.mbx f).anySeq ∧ d = 0 then present f (s.mbx f).stored c.poll s ++ [endTurn f]
  else if !(s.mbx f).anySeq ∧ 32768 ≤ d then refuseUnstored f c ST_BAD_PARAM s
  else acts [
    eff [.fld (Reg.MBX_STATE f) Fld.MBX_STATE.LAST_SEQ c.seq, effMbx f fun b => { b with anySeq := false }],
    if !opcodeDefined c.opcode then respond svc ST_BAD_OPCODE [] 0
    else if 4064 < c.len then respond svc ST_BAD_LENGTH [] 0
    else eff [.arm fun a => { a with inService := some svc }]] s

/-- R99: the Armature takes the next rung mailbox, if it serves and no command is in service. After R88 or R712 every command is
answered with ST_SELFTEST_FAIL (notes/assumptions/75). -/
def actMbxServiceStart : Act := fun s =>
  if (!s.arm.dead ∧ (!s.arm.serving ∨ s.arm.halted)) ∨ s.arm.inService.isSome then [] else
  match nextRung s with
  | none => []
  | some f =>
    match (s.mbx f).rung with
    | none => []
    | some c => if f < 64 then serve f c s else serveRemote f c s

def execMbxServiceStart (s : State) : Host.Outcome State Fault Refusal := actMbxServiceStart.outcome s

/-! ### Commands that read -/

/-- R108: part and stepping, grade, PKG_ID, function, firmware release, rights mask. -/
def hSysInfo (c : Svc) (s : State) : Reply :=
  checks [c.badLen 0] (.ok (leBytes 4 (s.rd Reg.HUB_ID).toNat ++ leBytes 1 s.otp.grade ++
    leBytes 1 (s.fld Reg.HUB_TOPOLOGY Fld.HUB_TOPOLOGY.PKG_ID) ++ leBytes 1 (match c.remote with | none => c.f | some (_, f, _) => f) ++ [0] ++
    leBytes 4 (s.pn Prm.FW_RELEASE) ++ leBytes 4 (c.mask s)) (fun _ => []))

def execSysInfo (s : State) : Host.Outcome State Fault Refusal := (turn 0x100 hSysInfo).outcome s

/-- The parameters of triad outputs (R285). -/
def triadPrm (id : Nat) : Bool := 0x440 ≤ id && id < 0x460

/-- The right besides F0 that the range of a parameter names (R143, R285). -/
def prmRight (id : Nat) : Option Nat :=
  if triadPrm id then some R_TRIAD
  else if id / 256 = 0x09 then some R_CAL
  else if id / 256 = 0x0C then some R_TIME
  else if id / 256 = 0x0E then some R_STORE
  else none

/-- The IDs of the ranges of R143. -/
def inRanges (id : Nat) : Bool := 0x100 ≤ id && id < 0x1500 && 0 < id / 256

/-- The command may read a parameter (R144). -/
def mayRead (c : Svc) (s : State) (id : Nat) : Bool :=
  c.isF0 || (0x100 ≤ id && id ≤ 0x102) || (match prmRight id with | some r => c.holds s r | none => false)

/-- The value that the next boot gives a parameter: owed to a bank, in the selected bank, or in force (R145). -/
def bootValue (s : State) (id : Nat) : Word :=
  match s.nvs.owed.find id, s.nvs.sel with
  | some v, _ => v
  | none, none => s.prm id
  | none, some b => ((if b then s.nvs.b else s.nvs.a).prms.find id).getD (s.prm id)

/-- The status of one entry of PRM_GET (R142, R144, R145). -/
def getStatus (c : Svc) (s : State) (id : Nat) : Nat :=
  if inRanges id ∧ !mayRead c s id then ST_DENIED
  else match prmRow id with
    | none => ST_BAD_PARAM
    | some (r, _) =>
      let staged := match stagedPrm (s.stagedOf c.f) id with
        | some v => v != s.prm id
        | none => false
      if staged || (r.mark == .boot && bootValue s id != s.prm id) then ST_STAGED else ST_OK

/-- One entry of the answer: ID, status, value in force; 0 where the status is a refusal. -/
def getEntry (c : Svc) (s : State) (id : Nat) : Bytes :=
  let st := getStatus c s id
  leBytes 2 id ++ leBytes 2 st ++ leBytes 4 (if st = ST_OK ∨ st = ST_STAGED then s.pn id else 0)

/-- A read of AUD_PEAK_A or AUD_PEAK_B clears it (R563). -/
def readClears (id : Nat) : Bool := 0xD00 ≤ id && id < 0xE00 && (id % 32 == 25 || id % 32 == 26)

/-- R108, R145. -/
def hPrmGet (c : Svc) (s : State) : Reply :=
  let n := c.n 0 2
  checks [(c.cmd.len < 4 || c.cmd.len != 4 + 2 * n, ST_BAD_LENGTH), (n == 0 || 256 < n, ST_BAD_PARAM), c.rsv 2 2]
    (.ok ((List.range n).flatMap fun i => getEntry c s (c.n (4 + 2 * i) 2)) (eff
      ((((List.range n).map fun i => c.n (4 + 2 * i) 2).filter fun id => readClears id && mayRead c s id).map fun id => .prm id 0)))

def execPrmGet (s : State) : Host.Outcome State Fault Refusal := (turn 0x101 hPrmGet).outcome s

/-- R114: the staged set is emptied, and a staged patina bank switch with it: the background sync starts (R419). -/
def hCfgDiscard (c : Svc) (s : State) : Reply :=
  let switch := (s.stagedOf c.f).any fun x => match x with | .obj k _ _ => k == K_SWITCH | _ => false
  checks [c.badLen 0] (.ok [] (eff ([.arm fun a => { a with staged := a.staged.del c.f }] ++
    (if switch then [.pat fun p => { p with writer := 3 }] else []))))

def execCfgDiscard (s : State) : Host.Outcome State Fault Refusal := (turn 0x111 hCfgDiscard).outcome s

/-- R108: staged items, pending ticket or 0, last applied frame. -/
def hCfgStatus (c : Svc) (s : State) : Reply :=
  checks [c.badLen 0] (.ok (leBytes 4 (s.stagedOf c.f).length ++
    leBytes 4 (match s.arm.commits.find c.f with | some k => k.ticket | none => 0) ++
    leBytes 8 (s.arm.lastApplied.getD c.f 0)) (fun _ => []))

def execCfgStatus (s : State) : Host.Outcome State Fault Refusal := (turn 0x112 hCfgStatus).outcome s

/-! ### Tickets -/

/-- The completed ticket that completed earliest (R110). -/
def oldestDone (l : List Ticket) : Option Ticket :=
  l.foldl (fun r t => if t.done then (match r with
    | none => some t
    | some u => if t.order < u.order then some t else some u) else r) none

/-- A ticket collected and freed (R110). -/
def collect (c : Svc) (t : Ticket) : Reply :=
  .ok (leBytes 4 t.id ++ leBytes 2 t.status ++ leBytes 2 t.opcode ++ t.result) (acts [
    eff [effMbx c.f fun b => { b with tickets := b.tickets.filter fun u => u.id != t.id }], syncTickets c.f])

/-- R110. An open ticket answers ST_PENDING without a ticket of its own. -/
def hTktGet (c : Svc) (s : State) : Reply :=
  checks [c.badLen 4] (
    if c.n 0 4 = 0xFFFFFFFF then
      match oldestDone (s.mbx c.f).tickets with
      | none => .refuse ST_NO_CONTEXT
      | some t => collect c t
    else match s.ticket c.f (c.n 0 4) with
      | none => .refuse ST_BAD_PARAM
      | some t => if t.done then collect c t
          else ⟨ST_PENDING, leBytes 4 t.id ++ leBytes 2 ST_PENDING ++ leBytes 2 t.opcode, fun _ => []⟩)

/-- The turn of TKT_GET: as any other, but ST_PENDING issues no ticket (R110). -/
def actTktGet : Act := fun s =>
  match s.arm.inService with
  | none => []
  | some c =>
    if c.cmd.opcode ≠ 0x120 then [] else
    let r := guardHeader c (hTktGet c s)
    acts [r.act, respond c r.status r.payload 0] s

def execTktGet (s : State) : Host.Outcome State Fault Refusal := actTktGet.outcome s

/-! ### Commits -/

/-- The frame number of a group (R390). -/
def groupFrame (s : State) (g : Nat) : Nat := s.pn64 (Prm.GRP_FRAME_LO g) % 2 ^ 48

/-- R115: the signed 48-bit distance from a group's frame to a requested one. -/
def frameAhead (s : State) (g frame : Nat) : Int := sgn 48 (frame + 2 ^ 48 - groupFrame s g)

/-- This package is the standby of a pair (R718). -/
def isStandby (s : State) : Bool :=
  s.flag Reg.FLT_PAIR_STAT Fld.FLT_PAIR_STAT.EN && !s.flag Reg.FLT_PAIR_STAT Fld.FLT_PAIR_STAT.ACTIVE

/-- A command that a standby refuses (R718). -/
def standbyRefuses (s : State) : Bool × Nat := (isStandby s, ST_CONFLICT)

/-- The partner package and its route (chapter 20). -/
def partnerPkg (s : State) : Nat := s.fld Reg.FLT_PAIR_STAT Fld.FLT_PAIR_STAT.PARTNER_PKG
def partnerReached (s : State) : Bool := s.flag (Reg.XPL_ROUTE (partnerPkg s)) Fld.XPL_ROUTE.VALID

/-- This package is the active of a pair whose standby follows it (R717, R719). -/
def mirrors (s : State) : Bool :=
  s.flag Reg.FLT_PAIR_STAT Fld.FLT_PAIR_STAT.EN && s.flag Reg.FLT_PAIR_STAT Fld.FLT_PAIR_STAT.ACTIVE &&
  s.flag Reg.FLT_PAIR_STAT Fld.FLT_PAIR_STAT.PROTECTED

/-- R719: an item is sent to the standby, as XPL class 2, kind 7, its sequence and its bytes (notes/assumptions/38). who waits for
its acknowledgement: a principal with its commit, 255 a libration update, 254 nothing. -/
def mirrorOut (who : Nat) (bs : Bytes) : Act := fun s =>
  [.flt (fun x => { x with mirror := x.mirror ++ [(x.mirrorSeq, who)], mirrorSeq := x.mirrorSeq + 1 }),
   .prm Prm.FLT_PAIR_MIRROR_PENDING (w32 (s.flt.mirror.length + 1)),
   .emit (.packet 3 (partnerPkg s) ([2, 7] ++ leBytes 4 s.flt.mirrorSeq ++ bs))]

/-- R112, R113, R115: the staged set is copied into a commit and emptied. -/
def hCfgCommit (c : Svc) (s : State) : Reply :=
  let g := c.n 0 1
  let next := c.n 1 1 % 2 == 1
  let frame := if next then 0 else c.n 8 8
  let d := frameAhead s g frame
  checks [c.badLen 16, (4 ≤ g || 2 ≤ c.n 1 1, ST_BAD_PARAM), c.rsv 2 6, (c.n 14 2 != 0, ST_BAD_PARAM),
    (!next && decide (d > (s.pn Prm.COMMIT_MAX_AHEAD : Int)), ST_BAD_PARAM), standbyRefuses s,
    (s.arm.commits.has c.f, ST_BUSY)]
    (.pending (eff [.arm fun a => { a with
      commits := a.commits.put c.f ⟨ticketId c.f (s.mbx c.f).nextTicket, c.cmd.poll, g, frame, next,
        !next && decide (d ≤ 0), s.stagedOf c.f, none, 0⟩,
      staged := a.staged.del c.f }]))

def execCfgCommit (s : State) : Host.Outcome State Fault Refusal := (turn 0x110 hCfgCommit).outcome s

end Sys2Proof.Machine
end

