-- ==== Sys2Proof/Machine/CamBase.lean ====
section
/-! DEFINITION. The camera path's shared reading of its parameters, tables and mosaic (chapters 05 to 08), and what the
start, the lines and the end of a sensor frame do to outputs and record jobs. -/
namespace Sys2Proof.Machine

/-- A parameter in effect for the frame in progress of its sensor (R236, R281). -/
def State.cp (s : State) (id : Nat) : Nat := (s.cam.active.getD id (prmDefault id)).toNat

/-- Key of a table in effect, as sensor sn sees it. -/
def camKey (sn kind idx : Nat) : Nat := sn * 2 ^ 24 + objKey kind idx

/-- A table in effect for a sensor; none where the default is in force. -/
def State.camTable (s : State) (sn kind idx : Nat) : Option Bytes := s.cam.tables.find (camKey sn kind idx)

/-- Index of front-end table k of sensor sn among the objects. -/
def rfeIdx (sn k : Nat) : Nat := 8 * sn + k

/-- Index of colour table (kind, index) among the objects. -/
def ccIdx (kind idx : Nat) : Nat := 32 * kind + idx

/-- The default mosaic descriptor (R234): a Bayer 2 x 2. -/
def mosaicDefault : Bytes :=
  [2, 2, 0, 0, 0, 0, 0, 0, 0x01, 0x22] ++ List.replicate 6 0 ++ [0x2A, 0x43] ++ List.replicate 54 0

def byteAt (bs : Bytes) (i : Nat) : Nat := (bs.getD i 0).toNat

/-- The mosaic descriptor in effect for a sensor (R200). -/
def State.mosaic (s : State) (sn : Nat) : Bytes := (s.camTable sn K_RFE (rfeIdx sn 0)).getD mosaicDefault

def mosPw (d : Bytes) : Nat := byteAt d 0
def mosPh (d : Bytes) : Nat := byteAt d 1

/-- The site byte at row r and column c of the frame (R201). -/
def siteAt (d : Bytes) (r c : Nat) : Nat :=
  byteAt d (8 + 8 * ((r + byteAt d 3) % mosPh d) + (c + byteAt d 2) % mosPw d)

/-- TYPE, GCLASS and KERNEL of a site byte. -/
def siteType (b : Nat) : Nat := b % 8
def siteGclass (b : Nat) : Nat := b / 8 % 4
def siteKernel (b : Nat) : Nat := b / 32

/-- Black level of a channel of a sensor (1 R to 5 I); an X site has 0. -/
def blackOf (s : State) (sn ty : Nat) : Nat := if 1 ≤ ty ∧ ty ≤ 5 then s.cp (Prm.RFE_BLACK_R sn + (ty - 1)) else 0

/-! ### Sensors -/

def SnsHalf.init : SnsHalf := ⟨0, 0, false⟩

def StatAcc.init : StatAcc := ⟨.empty, .empty, .empty, 0, 0, [], 0⟩

def Sns.init : Sns :=
  ⟨none, none, false, none, .init, .init, .empty, 0, .empty, false, false, [], false, false, none, [], 0, .empty, [], 0, 0, 0, false⟩

def SalPort.init : SalPort := ⟨0, none, 0, 0, none⟩

def State.sns (s : State) (sn : Nat) : Sns := s.cam.sns.getD sn Sns.init
def State.sal (s : State) (n : Nat) : SalPort := s.cam.sal.getD n SalPort.init

def effSns (sn : Nat) (g : Sns → Sns) : Eff := .cam fun c => { c with sns := c.sns.upd sn Sns.init g }
def effSal (n : Nat) (g : SalPort → SalPort) : Eff := .cam fun c => { c with sal := c.sal.upd n SalPort.init g }

def snsBound (s : State) (sn : Nat) : Bool := !bitOf (s.pn (Prm.SAL_SNS_PORT sn)) 7
def snsPair (s : State) (sn : Nat) : Bool := bitOf (s.pn (Prm.SAL_SNS_PORT sn)) 4
/-- The port of a sensor; the lower port of a pair. -/
def snsPort (s : State) (sn : Nat) : Nat := s.pn (Prm.SAL_SNS_PORT sn) % 4

/-- The sensor is bound to this port (R172). -/
def snsOn (s : State) (sn n : Nat) : Bool :=
  snsBound s sn && (snsPort s sn == n || (snsPair s sn && snsPort s sn + 1 == n))

def sizeW (v : Nat) : Nat := if v % 65536 = 0 then 32768 else v % 65536

def snsWidth (s : State) (sn : Nat) : Nat := sizeW (s.pn (Prm.SAL_SNS_SIZE sn))
def snsHeight (s : State) (sn : Nat) : Nat := s.pn (Prm.SAL_SNS_SIZE sn) / 65536

/-- Line time in ns (R175). -/
def lineNs (s : State) (sn : Nat) : Nat :=
  let l := s.pn (Prm.SAL_SNS_LINE_NS sn)
  if l ≠ 0 then l else s.pn (Prm.SAL_SNS_MIN_PERIOD_US sn) * 1000 / snsHeight s sn

/-- Bits of a sample of a raw FORMAT. -/
def fmtDepth (f : Nat) : Nat := 10 + 2 * (f % 4)

/-! ### Outputs -/

def CamOut.init : CamOut := ⟨none, 0, 0, 0, 0, 0, false⟩

def State.cout (s : State) (o : Nat) : CamOut := s.cam.outs.getD o CamOut.init

def effOut (o : Nat) (g : CamOut → CamOut) : Eff := .cam fun c => { c with outs := c.outs.upd o CamOut.init g }

/-- The source parameter of an output (0 to 15) or triad (16, 17) in effect, and the frame divider. -/
def outSrcId (o : Nat) : Nat := if o < 16 then Prm.OUT_SRC o else Prm.TRI_SRC (o - 16)
def outRingId (o : Nat) : Nat := if o < 16 then Prm.OUT_RING o else Prm.TRI_RING (o - 16)
def outLateId (o : Nat) : Nat := if o < 16 then Prm.OUT_LATE_COUNT o else Prm.TRI_LATE_COUNT (o - 16)

def srcEn (v : Nat) : Bool := bitOf v 31
def srcSensor (v : Nat) : Nat := v % 8
def srcDest (v : Nat) : Nat := v / 16 % 8
def srcIndex (v : Nat) : Nat := v / 65536 % 4096

/-- The shed level in force (R740, R741). -/
def shedLevel (s : State) : Nat := s.fld Reg.THM_THROTTLE Fld.THM_THROTTLE.SHED_LEVEL

/-- An output or triad with source word v is shed at a level (R740). -/
def shedSrc (level o v : Nat) : Bool := if o < 16 ∧ srcDest v = 1 then decide (11 ≤ level) else decide (2 ≤ level)

/-- The output is in effect and reads the sensor. -/
def outOn (s : State) (sn o : Nat) : Bool := srcEn (s.cp (outSrcId o)) && srcSensor (s.cp (outSrcId o)) == sn

def frameDiv (v : Nat) : Nat := max 1 (bitsOf v 20 16)

/-- Parameters of an output that take effect with its sensor's frame. -/
def outIds (o : Nat) : List Nat :=
  if o < 16 then (List.range 9).map (Prm.OUT_SRC o + ·) else (List.range 13).map (Prm.TRI_SRC (o - 16) + ·)

/-- Camera parameters of a sensor. -/
def snsIds (sn : Nat) : List Nat :=
  (List.range 25).map (Prm.RFE_EN sn + ·) ++ (List.range 7).map (Prm.CC_CTRL sn + ·)

/-- R236, R281: at the start of a frame of a sensor the committed set takes effect, whole. An output that now names another
sensor stops here. -/
def takeSet (sn : Nat) : Act := fun s =>
  let outs := (List.range 18).filter fun o => srcSensor (s.pn (outSrcId o)) == sn
  let gone := (List.range 18).filter fun o => outOn s sn o && srcSensor (s.pn (outSrcId o)) != sn
  let ids := snsIds sn ++ outs.flatMap outIds
  let tabs := s.objs.entries.filter fun e => e.1 / 2 ^ 20 == K_CC || (e.1 / 2 ^ 20 == K_RFE && e.1 % 2 ^ 20 / 8 == sn)
  [.cam fun c => { c with
    active := gone.foldl (fun m o => m.put (outSrcId o) 0) (ids.foldl (fun m id => m.put id (s.prm id)) c.active),
    tables := tabs.foldl (fun m e => m.put (sn * 2 ^ 24 + e.1) e.2) (c.tables.filter fun k _ => k / 2 ^ 24 != sn) }]

/-! ### Record jobs -/

def State.job (s : State) (h : Nat) : Option CastJob := s.cast.jobs.find h

def effJob (h : Nat) (g : CastJob → CastJob) : Eff := .cast fun c => { c with jobs := c.jobs.alter h g }

/-- The slot a new frame of a record job would use. -/
def nextSlot (j : CastJob) : Nat := if j.slots = 0 then 0 else (j.writeSeq + j.frames.length + 1) % j.slots

/-- A recorder linked to the job still holds a slot (R585): those completed and not yet released. -/
def recHolds (s : State) (h : Nat) (j : CastJob) (slot : Nat) : Bool :=
  s.cst.recs.entries.any fun e => e.2.job == h && j.slots != 0 &&
    (List.range (min j.slots ((j.writeSeq + 2 ^ 32 - e.2.last) % 2 ^ 32))).any fun i => (e.2.last + 1 + i) % 2 ^ 32 % j.slots == slot

/-- R313: at most one earlier frame still being coded, and a free slot; a closing job takes none (R318). -/
def jobAccepts (s : State) (h : Nat) (j : CastJob) : Bool :=
  j.kind == 2 && j.closing.isNone && decide (j.frames.length ≤ 1) && !recHolds s h j (nextSlot j)

/-- A frame begins in a record job, or is dropped and counted (R313). -/
def jobBegin (h frame ts : Nat) : Act := fun s =>
  match s.job h with
  | none => []
  | some j =>
    if jobAccepts s h j then [effJob h fun j => { j with frames := j.frames ++ [⟨frame, ts, .empty⟩] }]
    else effJob h (fun j => { j with dropped := satAdd 0xFFFFFFFF j.dropped 1 }) ::
      (j.engines.head?.map fun e => Eff.count (Prm.CAST_END_DROPPED e) 1).toList

/-- Key of a sample of a frame of a job. -/
def sampleKey (plane r c : Nat) : Nat := plane * 2 ^ 30 + r * 2 ^ 15 + c

/-- A sample placed in the frame with this number of a job. -/
def jobSample (h frame plane r c v : Nat) : Eff :=
  effJob h fun j => { j with frames := j.frames.map fun f =>
    if f.frame = frame then { f with samples := f.samples.put (sampleKey plane r c) v } else f }

/-- Handles of the record jobs of a raw sensor stream. -/
def rawJobs (s : State) (sn : Nat) : List Nat :=
  (s.cast.jobs.entries.filter fun e => e.2.kind == 2 && e.2.raw == some sn).map (·.1)

/-! ### A sensor frame passes -/

/-- An egress context begins a frame of the output that names it (R360): its RTP timestamp is the start of frame on a 90 kHz clock
(PRESUMED from ST 2110-10, notes/assumptions/36). Its next key becomes current here (R654). -/
def beginTx (i frame ts : Nat) (bytes : Bytes) : Eff :=
  .str fun t => { t with ctxs := t.ctxs.alter i fun c =>
    if !c.enabled then c else
    let x := { c with tx := some ⟨frame, ts * 90000 / SEC % 2 ^ 32, .empty, bytes, 0, 0⟩ }
    if c.nextKey = 0 then x else { x with key := c.nextKey, nextKey := 0, ctrNext := 0 } }

/-- A sample placed in the pacing buffer of an egress context. -/
def txSample (i frame plane r c v : Nat) : Eff :=
  .str fun t => { t with ctxs := t.ctxs.alter i fun x => { x with tx := x.tx.map fun y =>
    if y.frame = frame then { y with samples := y.samples.put (sampleKey plane r c) v } else y } }

/-- The outputs and record jobs accept or drop a frame that starts (R273, R276, R279, R313); a shed
output takes none (R740). -/
def camStart (sn frame ts : Nat) : Act := acts [
  takeSet sn,
  (fun s => ((List.range 2).filter fun w => bitOf (s.pn (Prm.LIB_WIT_SENSOR w)) 31 && s.pn (Prm.LIB_WIT_SENSOR w) % 8 == sn).map fun w =>
    .lib fun l => { l with wpix := l.wpix.filter fun k _ => k / 2 ^ 32 != w * 256 + frame % 8 }),
  fun s => actsFor ((List.range 18).filter fun o => outOn s sn o && frame % frameDiv (s.cp (outRingId o)) == 0 && !shedSrc (shedLevel s) o (s.cp (outSrcId o))) (fun o =>
    fun s =>
      let src := s.cp (outSrcId o)
      let begin : List Eff := [effOut o (fun x => { x with cur := some frame, maxLl := 0, sumLl := 0, pixels := 0 }),
        .wall fun w => { w with pix := w.pix.filter fun k _ => k / 2 ^ 32 != o }]
      if o < 16 ∧ srcDest src = 3 then
        (match s.job (srcIndex src) with
         | some j => if jobAccepts s (srcIndex src) j then begin ++ jobBegin (srcIndex src) frame ts s
             else jobBegin (srcIndex src) frame ts s ++ [.count (outLateId o) 1, .raise 141]
         | none => [.count (outLateId o) 1, .raise 141])
      else if o < 16 ∧ srcDest src = 2 then
        (if (match s.str.ctxs.find (srcIndex src) with | some x => x.tx.isSome | none => false) then [.count (outLateId o) 1, .raise 141]
         else begin ++ [beginTx (srcIndex src) frame ts []])
      else begin) s,
  fun s => actsFor (rawJobs s sn) (fun h => fun s =>
    match s.job h with
    | some j => jobBegin h frame ts s ++ (if jobAccepts s h j then [] else [.raise 141])
    | none => []) s]

/-- A raw line reaches the record jobs of its sensor (R291: a sample is container >> (16 - b)). -/
def camLine (sn frame line : Nat) (samples : List (Nat × Bool)) : Act := fun s =>
  (rawJobs s sn).flatMap fun h =>
    match s.job h with
    | none => []
    | some j => [effJob h fun j' => { j' with frames := j'.frames.map fun f =>
        if f.frame = frame then
          { f with samples := (samples.zipIdx.foldl (fun m p => m.put (sampleKey 0 line p.2) (p.1.1 / 2 ^ (16 - j.depth))) f.samples) }
        else f }]

end Sys2Proof.Machine
end

