-- ==== Sys2Proof/Machine/StageRfe.lean ====
section
/-! DEFINITION. The seven stages of the raw front end on one pixel (chapter 06, R195 to R229). A pixel is 64 bits: four
components of 16. In the front end component 0 holds the low 16 bits of the working value, component 1 its sign [0], the
saturated mark [1] and the filled mark [2] (notes/assumptions/31). -/
namespace Sys2Proof.Machine

/-- A component of a pixel. -/
def comp (p i : Nat) : Nat := p / 2 ^ (16 * i) % 65536

/-- A pixel of four components. -/
def mkPx (a b c d : Nat) : Nat := a % 65536 + 65536 * (b % 65536) + 2 ^ 32 * (c % 65536) + 2 ^ 48 * (d % 65536)

/-- A reader of the stage's input: the pixel at a row and column of the frame. -/
abbrev Rd := Nat → Nat → Nat

/-- The working value of a front-end pixel (R198). -/
def rawVal (p : Nat) : Int := (comp p 0 : Int) - (if bitOf (comp p 1) 0 then 65536 else 0)
def rawSat (p : Nat) : Bool := bitOf (comp p 1) 1
def rawFill (p : Nat) : Bool := bitOf (comp p 1) 2

/-- A value saturated to a range. -/
def clampI (lo hi x : Int) : Int := if x < lo then lo else if hi < x then hi else x

/-- A front-end pixel: the value saturates to -65,536 to 65,535 (R198). -/
def rawPx (x : Int) (sat fill : Bool) : Nat :=
  let y := clampI (-65536) 65535 x
  mkPx (unsgn 16 y) ((if y < 0 then 1 else 0) + (if sat then 2 else 0) + (if fill then 4 else 0)) 0 0

/-- The same pixel with another value. -/
def rawSet (p : Nat) (x : Int) : Nat := rawPx x (rawSat p) (rawFill p)

/-- R199: n fraction bits rounded, ties toward positive infinity. -/
def rnd (n : Nat) (v : Int) : Int := (v + (2 ^ n / 2 : Nat)) / ((2 ^ n : Nat) : Int)

/-- The value of an unsigned stage input (stages 6 and later). -/
def rawU (p : Nat) : Nat := (clampI 0 65535 (rawVal p)).toNat

/-- A position that may lie outside the frame takes the site reflected through the centre (R209, R246). -/
def mirror (h w : Nat) (r c : Nat) (i j : Int) : Nat × Nat :=
  let y := (r : Int) + i
  let x := (c : Int) + j
  let y := if y < 0 ∨ (h : Int) ≤ y then (r : Int) - i else y
  let x := if x < 0 ∨ (w : Int) ≤ x then (c : Int) - j else x
  (y.toNat, x.toNat)

/-- Positions around a site that lie in the frame. -/
def around (h w r c up down left right : Nat) : List (Nat × Nat) :=
  (List.range (up + down + 1)).flatMap fun i => (List.range (left + right + 1)).filterMap fun j =>
    let y := r + i
    let x := c + j
    if up ≤ y ∧ y - up < h ∧ left ≤ x ∧ x - left < w then some (y - up, x - left) else none

/-- The type of a site of a sensor. -/
def typeAt (d : Bytes) (r c : Nat) : Nat := siteType (siteAt d r c)

/-- Types 1 to 5 are channels; any other is X (R200, R205). -/
def isChan (t : Nat) : Bool := 1 ≤ t && t ≤ 5

/-- A front-end stage is enabled (R195). -/
def rfeOn (s : State) (sn bit : Nat) : Bool := bitOf (s.cp (Prm.RFE_EN sn)) bit

/-- A front-end table in effect, or its default bytes read by index. -/
def rfeByte16 (s : State) (sn k i : Nat) (dflt : Nat) : Nat :=
  match s.camTable sn K_RFE (rfeIdx sn k) with
  | some t => byteAt t (2 * i) + 256 * byteAt t (2 * i + 1)
  | none => dflt

/-- Stage 1 (R203 to R206): black clamp; the unpacked value arrives in component 0. -/
def rfe1 (s : State) (sn : Nat) (rd : Rd) (r c : Nat) : Nat :=
  let p := rd r c
  let v := comp p 0
  let t := typeAt (s.mosaic sn) r c
  let sat := s.cp (Prm.RFE_SAT_LEVEL sn) ≤ v
  if !isChan t then rawPx 0 false (rawFill p)
  else if !rfeOn s sn 0 then rawPx v sat (rawFill p)
  else rawPx ((v : Int) - blackOf s sn t - sgn 16 (rfeByte16 s sn 1 c 0)) sat (rawFill p)

/-- A cross-talk coefficient (R207): kernel k, entry n of nine. -/
def xtalk (s : State) (sn k n : Nat) : Int := sgn 16 (rfeByte16 s sn 2 (10 * k + n) (if n = 4 then 0x1000 else 0))

/-- Stage 2 (R207 to R209). -/
def rfe2 (s : State) (sn : Nat) (rd : Rd) (r c : Nat) : Nat :=
  let p := rd r c
  let d := s.mosaic sn
  let b := siteAt d r c
  if !rfeOn s sn 1 ∨ !isChan (siteType b) then p else
  let sum := (List.range 9).foldl (fun (a : Int) n =>
    let q := mirror (snsHeight s sn) (snsWidth s sn) r c ((n / 3 : Nat) - 1) ((n % 3 : Nat) - 1)
    a + (if isChan (typeAt d q.1 q.2) then xtalk s sn (siteKernel b) n * rawVal (rd q.1 q.2) else 0)) 0
  rawSet p (rnd 12 sum)

def sumI (l : List Int) : Int := l.foldl (· + ·) 0

/-- Stage 3 (R210, R211). -/
def rfe3 (s : State) (sn : Nat) (rd : Rd) (r c : Nat) : Nat :=
  let p := rd r c
  let d := s.mosaic sn
  let g := siteGclass (siteAt d r c)
  if !rfeOn s sn 2 ∨ typeAt d r c ≠ 2 then p else
  let win := (around (snsHeight s sn) (snsWidth s sn) r c 1 0 3 3).filter fun q => typeAt d q.1 q.2 == 2
  let same := win.filter fun q => siteGclass (siteAt d q.1 q.2) == g
  let n := (win.length : Int)
  let ng := (same.length : Int)
  let S := sumI (win.map fun q => rawVal (rd q.1 q.2))
  let Sg := sumI (same.map fun q => rawVal (rd q.1 q.2))
  let num := S * ng - Sg * n
  if same.length = win.length ∨ S < (s.cp (Prm.RFE_GI_FLOOR sn) : Int) * n ∨
      S * ng * (s.cp (Prm.RFE_GI_LIMIT sn) : Int) < (num.natAbs : Int) * 65536 then p
  else rawSet p (rawVal p + (num * (s.cp (Prm.RFE_GI_STRENGTH sn) : Int) + 128 * n * ng) / (256 * n * ng))

/-- The static entry of a site (R213): its KIND. -/
def staticKind (t : Option Bytes) (r c : Nat) : Option Nat :=
  match t with
  | none => none
  | some bs => ((List.range (bs.length / 4)).find? fun i => fieldN bs (4 * i) 4 % 2 ^ 29 == r * 2 ^ 15 + c).map fun i =>
      fieldN bs (4 * i) 4 / 2 ^ 29

/-- A list inserted in order. -/
def insertSorted (x : Int) : List Int → List Int
  | [] => [x]
  | y :: t => if x ≤ y then x :: y :: t else y :: insertSorted x t

def sortI (l : List Int) : List Int := l.foldl (fun a x => insertSorted x a) []

/-- The median of R212. -/
def median (l : List Int) : Int :=
  let m := sortI l
  let n := m.length
  if n % 2 = 1 then m.getD (n / 2) 0 else rnd 1 (m.getD (n / 2 - 1) 0 + m.getD (n / 2) 0)

/-- What stage 4 finds at a site. -/
inductive Defect where
  | none | uncorrected | hot | cold
  deriving DecidableEq, Repr

/-- Stage 4 (R212 to R216): the pixel, and what was found. -/
def rfe4 (s : State) (sn : Nat) (rd : Rd) (r c : Nat) : Nat × Defect :=
  let p := rd r c
  let d := s.mosaic sn
  let t := typeAt d r c
  let tab := s.camTable sn K_RFE (rfeIdx sn 3)
  if !isChan t ∨ (!rfeOn s sn 3 ∧ !rfeOn s sn 4) then (p, .none) else
  let set := ((around (snsHeight s sn) (snsWidth s sn) r c 1 1 4 4).filter fun q =>
    q != (r, c) && typeAt d q.1 q.2 == t && (staticKind tab q.1 q.2).isNone).map fun q => rawVal (rd q.1 q.2)
  let x := rawVal p
  match staticKind tab r c with
  | some k =>
    if !rfeOn s sn 3 then (p, .none)
    else if set.isEmpty then (p, .uncorrected)
    else
      let m := median set
      if k = 0 ∨ m < x then (rawSet p m, .none) else (p, .none)
  | none =>
    if !rfeOn s sn 4 then (p, .none)
    else if set.isEmpty then (p, .uncorrected)
    else
      let o := sortI set
      let lo := o.headD 0
      let hi := o.getLastD 0
      if hi + (s.cp (Prm.RFE_DYN_HOT_T sn) : Int) + rnd 16 (hi * (s.cp (Prm.RFE_DYN_HOT_K sn) : Int)) < x then (rawSet p hi, .hot)
      else if x < lo - (s.cp (Prm.RFE_DYN_COLD_T sn) : Int) - rnd 16 ((lo.natAbs : Int) * (s.cp (Prm.RFE_DYN_COLD_K sn) : Int))
        then (rawSet p lo, .cold)
      else (p, .none)

/-- An entry of a linearisation table (R218, R219, R234): channel 0 to 4. -/
def linEntry (s : State) (sn ch i : Nat) : Int := rfeByte16 s sn 4 (4096 * ch + i) (min (16 * i) 65535)

/-- Stage 5 (R218). -/
def rfe5 (s : State) (sn : Nat) (rd : Rd) (r c : Nat) : Nat :=
  let p := rd r c
  let t := typeAt (s.mosaic sn) r c
  if !rfeOn s sn 5 ∨ !isChan t then p else
  let x := rawU p
  let i := x / 16
  let l0 := linEntry s sn (t - 1) i
  let l1 := if i = 4095 then clampI 0 65535 (2 * l0 - linEntry s sn (t - 1) 4094) else linEntry s sn (t - 1) (i + 1)
  rawSet p (clampI 0 65535 (l0 + rnd 4 ((l1 - l0) * (x % 16 : Nat))))

/-- Weights of cubic convolution with a = -1/2 at a fraction of 2^16, in 2^16 (R221). -/
def cubicW (f : Nat) : List Int :=
  let t := (f : Int)
  let u : Int := 65536
  [rnd 33 (-(t ^ 3) + 2 * t ^ 2 * u - t * u ^ 2), rnd 33 (3 * t ^ 3 - 5 * t ^ 2 * u + 2 * u ^ 3),
   rnd 33 (-3 * t ^ 3 + 4 * t ^ 2 * u + t * u ^ 2), rnd 33 (t ^ 3 - t ^ 2 * u)]

/-- A quotient rounded to the nearest, ties upward. -/
def divRound (a b : Nat) : Nat := if b = 0 then 0 else (2 * a + b) / (2 * b)

def gridX (s : State) (sn : Nat) : Nat := s.cp (Prm.RFE_SHADE_GRID sn) % 256
def gridY (s : State) (sn : Nat) : Nat := s.cp (Prm.RFE_SHADE_GRID sn) / 256 % 128

/-- The gain of a site (R221). -/
def shadeGain (s : State) (sn ch r c : Nat) : Int :=
  let gx := gridX s sn
  let gy := gridY s sn
  let u := c * divRound ((gx - 1) * 65536) (snsWidth s sn - 1)
  let v := r * divRound ((gy - 1) * 65536) (snsHeight s sn - 1)
  let wx := cubicW (u % 65536)
  let wy := cubicW (v % 65536)
  let node := fun (i j : Nat) =>
    let y := (clampI 0 (gy - 1 : Nat) ((v / 65536 + i : Nat) - 1)).toNat
    let x := (clampI 0 (gx - 1 : Nat) ((u / 65536 + j : Nat) - 1)).toNat
    ((rfeByte16 s sn 5 (gx * gy * ch + gx * y + x) 0x1000 : Nat) : Int)
  let sum := sumI ((List.range 4).map fun i => wy.getD i 0 * sumI ((List.range 4).map fun j => wx.getD j 0 * node i j))
  clampI 0 65535 (rnd 32 sum)

/-- Stage 6 (R222). -/
def rfe6 (s : State) (sn : Nat) (rd : Rd) (r c : Nat) : Nat :=
  let p := rd r c
  let t := typeAt (s.mosaic sn) r c
  if !rfeOn s sn 6 ∨ !isChan t then p
  else rawSet p (clampI 0 65535 (rnd 12 ((rawU p : Int) * shadeGain s sn (t - 1) r c)))

/-! ### Statistics (R224 to R229) -/

/-- The statistics rectangle: row, column, height, width (R224). -/
def statRect (s : State) (sn : Nat) : Nat × Nat × Nat × Nat :=
  let o := s.cp (Prm.RFE_STAT_ORIGIN sn)
  let z := s.cp (Prm.RFE_STAT_SIZE sn)
  if z = 0 then (0, 0, snsHeight s sn, snsWidth s sn) else (bitsOf o 29 16, bitsOf o 14 0, bitsOf z 30 16, sizeW z)

/-- Zone boundary k of n over a length, down to a multiple of the period (R228). -/
def zoneBound (len n per k : Nat) : Nat := if n ≤ k then len else k * len / n / per * per

/-- The zone that holds an offset. -/
def zoneOf (len n per x : Nat) : Nat := ((List.range n).find? fun k => x < zoneBound len n per (k + 1)).getD 0

def zonesX (s : State) (sn : Nat) : Nat := s.cp (Prm.RFE_STAT_ZONES sn) % 128
def zonesY (s : State) (sn : Nat) : Nat := s.cp (Prm.RFE_STAT_ZONES sn) / 256 % 64

def effStat (sn frame : Nat) (g : StatAcc → StatAcc) : Eff := effSns sn fun x => { x with stats := x.stats.upd frame StatAcc.init g }

def bump (m : FMap Nat) (k n : Nat) : FMap Nat := m.put k (m.getD k 0 + n)

/-- What the tap adds for one site (R225 to R229). -/
def tapSite (s : State) (sn frame : Nat) (p r c : Nat) : List Eff :=
  let d := s.mosaic sn
  let t := typeAt d r c
  let (r0, c0, h, w) := statRect s sn
  if !rfeOn s sn 7 ∨ !isChan t ∨ r < r0 ∨ c < c0 ∨ r0 + h ≤ r ∨ c0 + w ≤ c then []
  else if rawFill p then [effStat sn frame fun a => { a with filled := a.filled + 1 }]
  else
    let y := rawU p
    let bin := if t ≤ 3 then y / 64 else y / 256
    let cell := (r - r0) / mosPh d * (w / mosPw d) + (c - c0) / mosPw d
    let z := zoneOf h (zonesY s sn) (mosPh d) (r - r0) * zonesX s sn + zoneOf w (zonesX s sn) (mosPw d) (c - c0)
    let zk := 16 * (5 * z + (t - 1))
    [effStat sn frame fun a => { a with
      hist := bump a.hist (2048 * (t - 1) + bin) 1,
      cells := if t ≤ 3 then bump (bump a.cells (8 * cell + t - 1) y) (8 * cell + t + 2) 1 else a.cells,
      zones := bump (bump (bump a.zones zk y) (zk + 1) 1) (zk + 2) (if rawSat p then 1 else 0) }]

/-- What stage 4 counts for one site (R215 to R217). -/
def defectCount (s : State) (sn frame r c : Nat) (f : Defect) : List Eff :=
  let add : Nat → List Eff := fun kind =>
    let past := decide (s.cp (Prm.RFE_DYN_LIMIT sn) < ((s.sns sn).stats.getD frame StatAcc.init).dynCount + 1)
    effStat sn frame (fun a => { a with
      dynCount := satAdd 0xFFFFFFFF a.dynCount 1,
      dynList := if a.dynList.length < 256 then a.dynList ++ [kind * 2 ^ 29 + r * 2 ^ 15 + c] else a.dynList }) ::
    (if past && !(s.sns sn).dynOver then [effSns sn fun x => { x with dynOver := true }, .raise 136] else [])
  match f with
  | .none => []
  | .uncorrected => [effStat sn frame fun a => { a with uncorrected := a.uncorrected + 1 }]
  | .hot => add 1
  | .cold => add 0

/-- One pixel through stage k of the front end, and what it counts. -/
def rfeStage (s : State) (sn k frame : Nat) (rd : Rd) (r c : Nat) : Nat × List Eff :=
  match k with
  | 1 => (rfe1 s sn rd r c, [])
  | 2 => (rfe2 s sn rd r c, [])
  | 3 => (rfe3 s sn rd r c, [])
  | 4 => let q := rfe4 s sn rd r c; (q.1, defectCount s sn frame r c q.2)
  | 5 => (rfe5 s sn rd r c, [])
  | 6 => (rfe6 s sn rd r c, [])
  | _ => (rd r c, tapSite s sn frame (rd r c) r c)

end Sys2Proof.Machine
end

