-- ==== Sys2Proof/Machine/Curves.lean ====
section
/-! DEFINITION. Working values in binary16 (R242, R243), and the curves and windowed sincs of chapter 07 in fixed point. A
curve is computed here to about 2^-26; the spec gives it to within one unit of its code, and within that unit the value is
free (notes/assumptions/32). The published formulas of the curves are PRESUMED from the standards that R263 names. -/
namespace Sys2Proof.Machine

/-- The value of a finite binary16 pattern in 2^-24. -/
def halfVal (h : Nat) : Int :=
  let e := h / 1024 % 32
  let m := h % 1024
  let v : Nat := if e = 0 then m else (1024 + m) * 2 ^ (e - 1)
  if bitOf h 15 then -(v : Int) else v

/-- Every pattern of a list is finite (R796). -/
def halfFinite (h : Nat) : Bool := h / 1024 % 32 != 31

/-- A quotient rounded to the nearest integer, ties to even. -/
def divEven (a b : Nat) : Nat :=
  let q := a / b
  let r := a % b
  if 2 * r < b then q else if b < 2 * r then q + 1 else q + q % 2

/-- num / den rounded once to binary16, to nearest with ties to even; beyond 65,504 it saturates (R243). den is positive. -/
def toHalf (num : Int) (den : Nat) : Nat :=
  let a := num.natAbs
  let e := ((List.range 30).find? fun e => a * 2 ^ 13 < den * 2 ^ e).getD 30
  let pat := if e = 0 then divEven (a * 2 ^ 24) den
    else (e - 1) * 1024 + divEven (a * 2 ^ 24) (den * 2 ^ (e - 1))
  (if num < 0 then 0x8000 else 0) + min pat 0x7BFF

/-! ### Fixed-point functions -/

/-- Bits of a binary logarithm: m is in [1, 2) at 2^60. -/
def logBits : Nat → Nat → Nat → Nat
  | 0, _, acc => acc
  | n + 1, m, acc =>
    let q := m * m / 2 ^ 60
    if 2 ^ 61 ≤ q then logBits n (q / 2) (2 * acc + 1) else logBits n q (2 * acc)

/-- log2 of n / d at 2^32; n and d are positive. -/
def fxLog2 (n d : Nat) : Int :=
  let x := n * 2 ^ 128 / d
  let e := Nat.log2 x
  ((e : Int) - 128) * 2 ^ 32 + logBits 32 (x * 2 ^ 60 / 2 ^ e) 0

/-- ln 2 at 2^60. -/
def LN2 : Nat := 799144290325165978

/-- π at 2^60. -/
def PI60 : Nat := 3622009729038561421

/-- Terms of the exponential series at 2^60. -/
def expTerms : Nat → Nat → Nat → Nat → Nat
  | 0, _, _, _ => 0
  | n + 1, k, t, x => t + expTerms n (k + 1) (t * x / 2 ^ 60 / k) x

/-- 2 to the power y at 2^32, as a number at 2^32. -/
def fxExp2 (y : Int) : Nat :=
  let i := y / 2 ^ 32
  let f := (y % 2 ^ 32).toNat
  let r := expTerms 24 1 (2 ^ 60) (f * LN2 / 2 ^ 32)
  if 0 ≤ i then r * 2 ^ i.toNat / 2 ^ 28 else r / 2 ^ (28 + (-i).toNat)

/-- (n / d) to the power p / q at 2^32; 0 for n = 0. -/
def fxPow (n d p q : Nat) : Nat := if n = 0 then 0 else fxExp2 (fxLog2 n d * p / q)

/-- Terms of the sine series at 2^60: x^(2k+1) / (2k+1)! with alternating sign. -/
def sinTerms : Nat → Nat → Int → Int → Int
  | 0, _, _, _ => 0
  | n + 1, k, t, x2 => t + sinTerms n (k + 1) (-(t * x2 / 2 ^ 60) / ((2 * k) * (2 * k + 1) : Nat)) x2

/-- sin(π n / d) at 2^60. -/
def fxSinPi (n : Int) (d : Nat) : Int :=
  let m := (n % (2 * d : Nat)).toNat
  let neg := d ≤ m
  let m := if neg then m - d else m
  let m := if d < 2 * m then d - m else m
  let x := (PI60 * m / d : Nat)
  let v := sinTerms 16 1 x ((x * x / 2 ^ 60 : Nat) : Int)
  if neg then -v else v

/-- sinc(n / d) at 2^60. -/
def fxSinc (n : Int) (d : Nat) : Int :=
  if n = 0 then 2 ^ 60 else fxSinPi n d * (d : Int) * 2 ^ 60 / (n * (PI60 : Int))

/-- A value within one unit of what is computed, of 16 bits: which one is free (R261, R264). -/
def near (key : List Nat) (v : Nat) : Nat :=
  (clampI 0 65535 ((v : Int) + (Config.freeAt 17 key % 3 : Nat) - 1)).toNat

/-- A number at 2^32 as UQ0.16, clamped. -/
def uq16 (v : Nat) : Nat := min 65535 ((v + 2 ^ 15) / 2 ^ 16)

/-! ### Curves: the argument is a working value times 2^24 (R263) -/

/-- Clipped to 0 to 1, at 2^24. -/
def clip01 (x : Int) : Nat := (clampI 0 (2 ^ 24) x).toNat

def one24 : Nat := 2 ^ 24

/-- BT.709 OETF at 2^32; BT.2020's with its own constants. -/
def oetf709 (alpha beta : Nat) (e : Nat) : Nat :=
  if e * 1000000 < beta * one24 then e * 9 / 2 * 256
  else (alpha * fxPow e one24 45 100 - (alpha - 1000000) * 2 ^ 32) / 1000000

/-- PQ inverse EOTF of y / d, at 2^32. -/
def pqInv (y d : Nat) : Nat :=
  let p := fxPow y d 2610 16384
  fxPow (3424 * 2 ^ 32 + 77216 * p) (4096 * 2 ^ 32 + 76544 * p) 315375 4000

/-- HLG OETF at 2^32. -/
def hlgOetf (e : Nat) : Nat :=
  if 12 * e ≤ one24 then fxPow (3 * e) one24 1 2
  else
    let ln := fxLog2 (1200000000 * e - 28466892 * one24) (100000000 * one24) * (LN2 : Int) / 2 ^ 60
    ((17883277 * ln + 55991073 * 2 ^ 32) / 100000000).toNat

/-- ACEScct of a working value at 2^24, as a signed number at 2^32. -/
def acesCct (x : Int) : Int :=
  if x ≤ 131072 then (105402377416545 * x * 256) / 10000000000000 + 729055341958355 * 2 ^ 32 / 10000000000000000
  else (fxLog2 x.toNat one24 * 100 + 972 * 2 ^ 32) / 1752

/-- The coordinate that a shaper gives a working value (R261): UQ0.16. -/
def shaper (k : Nat) (h : Nat) : Nat :=
  let x := halfVal h
  near [1, k, h] (match k with
  | 0 => uq16 (clip01 x * 256)
  | 1 => uq16 (clampI 0 (2 ^ 32) (acesCct x)).toNat
  | 2 => uq16 (pqInv (min (x.toNat * 203) (10000 * one24)) (10000 * one24))
  | _ => if x ≤ 4096 then 0 else uq16 (clampI 0 (2 ^ 32) ((fxLog2 x.toNat one24 + 12 * 2 ^ 32) / 18)).toNat)

/-- The primaries matrix of an encoding, Q2.14, from the BT.2020 working space (R263). -/
def primaries (enc : Nat) : List Int :=
  match enc with
  | 0 => [27205, -9628, -1194, -2041, 18561, -137, -297, -1648, 18329]
  | 4 => [24060, -5053, -1100, -1026, 16896, -165, 53, -369, 19167]
  | 5 => [10956, 2487, 2903, 736, 14125, 1670, 0, 456, 17231]
  | 6 => [15728, 171, 115, 27, 16379, 24, 87, 390, 17206]
  | _ => [16384, 0, 0, 0, 16384, 0, 0, 0, 16384]

/-- The transfer of an encoding on a value at 2^24, as UQ0.16 (R263, R264). -/
def transfer (enc : Nat) (x : Int) : Nat :=
  near [2, enc, unsgn 64 x] (match enc with
  | 0 => uq16 (oetf709 1099000 18000 (clip01 x))
  | 1 => uq16 (oetf709 1099300 18100 (clip01 x))
  | 2 => uq16 (pqInv (min (x.toNat * 203) (10000 * one24)) (10000 * one24))
  | 3 => uq16 (hlgOetf (clip01 (x * 2650 / 10000)))
  | 4 => uq16 (fxPow (clip01 x) one24 10 26)
  | _ => uq16 (clampI 0 (2 ^ 32) (acesCct x)).toNat)

/-! ### Polyphase coefficients (R259) -/

/-- A Lanczos-windowed sinc of a lobes, stretched to a cutoff of lo / li where that is below 1, at n / 64 from its centre, in
Q2.14 before the phase is adjusted. -/
def lanczos (a lo li : Nat) (n : Int) : Int :=
  let num := if lo < li then lo else 1
  let den := if lo < li then li else 1
  let w := if (n.natAbs) < 64 * a then fxSinc n (64 * a) else 0
  let v := fxSinc (n * num) (64 * den) * w / 2 ^ 60 * num / den
  (v + 2 ^ 45) / 2 ^ 46

/-- Coefficient t of a phase of a filter of taps taps (R259): the tap nearest the phase position makes the sum 16,384. -/
def derivedCoef (taps lo li phase t : Nat) : Int :=
  if taps = 2 then (if t = 0 then (64 - phase : Nat) * 256 else (phase : Int) * 256) else
  let raw := fun (t : Nat) => lanczos (taps / 2) lo li (((t : Int) - (taps / 2 - 1 : Nat)) * 64 - phase)
  let centre := taps / 2 - 1 + if 32 < phase then 1 else 0
  if t = centre then 16384 - sumI (((List.range taps).filter (· != centre)).map raw) else raw t

end Sys2Proof.Machine
end

