-- ==== Sys2Proof/Machine/StageColour.lean ====
section
/-! DEFINITION. The sensor stages C1 to C4: demosaic, IR removal, white balance and input matrix (chapter 07, R244 to R251).
After C1 a pixel holds the raw value and the guide estimate, after C2 and C3 R, G, B and A, after C4 three working values. -/
namespace Sys2Proof.Machine

/-- Sites of a type in one mosaic period. -/
def countType (d : Bytes) (t : Nat) : Nat :=
  ((List.range (mosPh d * mosPw d)).filter fun n => siteType (byteAt d (8 + 8 * (n / mosPw d) + n % mosPw d)) == t).length

/-- The auxiliary component: 5 I, 4 C, or 0 (R244). -/
def auxType (d : Bytes) : Nat := if countType d 5 ≠ 0 then 5 else if countType d 4 ≠ 0 then 4 else 0

/-- One aligned 2 x 2 block suits the gradient-directed method (R245). -/
def blockOk (a b c e : Nat) : Bool :=
  let diag := fun x y => (x == 1 && y == 3) || (x == 3 && y == 1)
  let other := fun x y => (x == 2 && (y == 2 || y == 4 || y == 5)) || (y == 2 && (x == 4 || x == 5))
  (diag a e && other b c) || (diag b c && other a e)

def autoGradient (d : Bytes) : Bool :=
  mosPw d % 2 == 0 && mosPh d % 2 == 0 &&
  (List.range (mosPh d / 2)).all fun i => (List.range (mosPw d / 2)).all fun j =>
    let t := fun y x => siteType (byteAt d (8 + 8 * (2 * i + y) + 2 * j + x))
    blockOk (t 0 0) (t 0 1) (t 1 0) (t 1 1)

/-- The demosaic method and guide (R245): gradient-directed or not, and the guide's type. -/
def dmMethod (ctrl : Nat) (d : Bytes) : Bool × Nat :=
  match ctrl % 4 with
  | 1 => (true, 2)
  | 2 => (false, if bitOf ctrl 2 then 4 else 2)
  | _ => if autoGradient d then (true, 2) else (false, if countType d 2 ≤ countType d 4 ∧ countType d 4 ≠ 0 then 4 else 2)

/-- The value of CC_STATE for a control word and a mosaic. -/
def ccState (ctrl : Nat) (d : Bytes) (loaded : Bool) : Nat :=
  let m := dmMethod ctrl d
  (if m.1 then 0 else 1) + (if m.2 = 4 then 2 else 0) + (match auxType d with | 5 => 8 | 4 => 4 | _ => 0) + (if loaded then 16 else 0)

/-- A site of the 7 x 7 window: its type and raw value; an X site has value 0 (R246). -/
def winSite (s : State) (sn : Nat) (rd : Rd) (r c : Nat) (i j : Int) : Nat × Int :=
  let q := mirror (snsHeight s sn) (snsWidth s sn) r c i j
  let t := typeAt (s.mosaic sn) q.1 q.2
  (t, if isChan t then rawU (rd q.1 q.2) else 0)

/-- Positions of the square of radius k around the centre. -/
def square (k : Nat) : List (Int × Int) :=
  (List.range (2 * k + 1)).flatMap fun (i : Nat) => (List.range (2 * k + 1)).map fun (j : Nat) => ((i : Int) - k, (j : Int) - k)

/-- Sum and count of the sites of a type in a square. -/
def squareSum (win : Int → Int → Nat × Int) (k t : Nat) : Int × Int :=
  let l := (square k).filterMap fun p => let q := win p.1 p.2; if q.1 = t then some q.2 else none
  (sumI l, (l.length : Int))

/-- A rational: numerator and positive denominator. -/
abbrev Q := Int × Int

def qAdd (a b : Q) : Q := (a.1 * b.2 + b.1 * a.2, a.2 * b.2)
def qScale (k : Int) (a : Q) : Q := (k * a.1, a.2)

/-- A rational rounded, ties upward, and clamped to 0 to 65,535 (R247 step 6). -/
def qRound (a : Q) : Nat := (clampI 0 65535 ((2 * a.1 + a.2) / (2 * a.2))).toNat

/-- Axis estimate of the gradient-directed method; ax reads along the axis (R247 step 2). -/
def gradAxis (ax : Int → Nat × Int) (g : Nat) : Option Q :=
  let l := ax (-1)
  let r := ax 1
  if l.1 ≠ g ∧ r.1 ≠ g then none else
  let lv := if l.1 = g then l.2 else r.2
  let rv := if r.1 = g then r.2 else l.2
  some (2 * (lv + rv) + 2 * (ax 0).2 - (ax (-2)).2 - (ax 2).2, 4)

/-- Axis estimate of the guide-channel method (R247 step 3). -/
def guideAxis (ax : Int → Nat × Int) (g : Nat) : Option Q :=
  let near := fun (sgn : Int) => ([1, 2, 3] : List Int).find? fun k => (ax (sgn * k)).1 == g
  match near (-1), near 1 with
  | some a, some b => some ((ax (-a)).2 * b + (ax b).2 * a, a + b)
  | _, _ => none

/-- The gradient sum D along an axis: rd i j has j along it (R247 step 4). -/
def gradSum (rd : Int → Int → Nat × Int) : Int :=
  sumI (([-1, 0, 1] : List Int).flatMap fun i => ([-3, -2, -1, 0, 1] : List Int).map fun j =>
    let a := rd i j
    let b := rd i (j + 2)
    if a.1 = b.1 ∧ isChan a.1 then (if i = 0 then 2 else 1) * ((b.2 - a.2).natAbs : Int) else 0)

/-- The mean of the guide sites around a centre where both axes are unusable. -/
def ringMean (win : Int → Int → Nat × Int) (g : Nat) : Q :=
  match ([1, 2, 3] : List Nat).find? fun k => (squareSum win k g).2 != 0 with
  | some k => squareSum win k g
  | none => (0, 1)

/-- C1 (R247): the guide estimate. -/
def guideEstimate (s : State) (sn : Nat) (rd : Rd) (r c : Nat) : Nat :=
  let win := winSite s sn rd r c
  let m := dmMethod (s.cp (Prm.CC_CTRL sn)) (s.mosaic sn)
  let g := m.2
  let h := fun j => win 0 j
  let v := fun i => win i 0
  if (win 0 0).1 = g then (win 0 0).2.toNat else
  let gh := if m.1 then gradAxis h g else guideAxis h g
  let gv := if m.1 then gradAxis v g else guideAxis v g
  let dh := gradSum win
  let dv := gradSum fun i j => win j i
  let t := (65536 - s.cp (Prm.DM_EDGE_T sn) : Int)
  match gh, gv with
  | none, none => qRound (ringMean win g)
  | some a, none => qRound a
  | none, some b => qRound b
  | some a, some b =>
    if dh * 65536 < dv * t then qRound a
    else if dv * 65536 < dh * t then qRound b
    else if dh + dv = 0 then qRound (let x := qAdd a b; (x.1, 2 * x.2))
    else qRound (let x := qAdd (qScale dv a) (qScale dh b); (x.1, x.2 * (dh + dv)))

def c1 (s : State) (sn : Nat) (rd : Rd) (r c : Nat) : Nat := mkPx (rawU (rd r c)) (guideEstimate s sn rd r c) 0 0

/-- The value of channel k at a pixel after C1 (R248); none where no square holds a k site. A square with a k site and none
with a g site too is a case the spec does not state: the value is free (notes/assumptions/33). -/
def c2Value (s : State) (sn : Nat) (rd : Rd) (r c : Nat) (g k : Nat) : Option Nat :=
  let win := winSite s sn (fun y x => mkPx (comp (rd y x) 0) 0 0 0) r c
  if (win 0 0).1 = k then some (win 0 0).2.toNat
  else if k = g then some (comp (rd r c) 1)
  else match ([1, 2, 3] : List Nat).find? fun n => (squareSum win n k).2 != 0 && (squareSum win n g).2 != 0 with
    | some n =>
      let mk := squareSum win n k
      let mg := squareSum win n g
      some (qRound (qAdd ((comp (rd r c) 1 : Int), 1) (qAdd mk (-mg.1, mg.2))))
    | none => if (squareSum win 3 k).2 = 0 then none else some (Config.freeAt 18 [sn, r, c, k] % 65536)

/-- C2 (R248): R, G, B and A, and how many of them were uncorrected. -/
def c2 (s : State) (sn : Nat) (rd : Rd) (r c : Nat) : Nat × Nat :=
  let d := s.mosaic sn
  let g := (dmMethod (s.cp (Prm.CC_CTRL sn)) d).2
  let v := fun k => if k = 0 then some 0 else c2Value s sn rd r c g k
  let l := [v 1, v 2, v 3, v (auxType d)]
  (mkPx ((v 1).getD 0) ((v 2).getD 0) ((v 3).getD 0) ((v (auxType d)).getD 0), if l.any Option.isNone then 1 else 0)

/-- Coefficient n of the sensor colour table: X in 0 to 5, M in 8 to 22 (R251). -/
def ccCoef (s : State) (sn n : Nat) : Int :=
  match s.camTable sn K_CC (ccIdx 0 sn) with
  | some t => sgn 16 (byteAt t (2 * n) + 256 * byteAt t (2 * n + 1))
  | none => if n = 8 ∨ n = 14 ∨ n = 20 then 4096 else 0

/-- A_I and A_C of a pixel (R249). -/
def auxParts (s : State) (sn : Nat) (p : Nat) : Int × Int :=
  match auxType (s.mosaic sn) with
  | 5 => ((comp p 3 : Int), 0)
  | 4 => (0, (comp p 3 : Int))
  | _ => (0, 0)

/-- C3 (R249). -/
def c3 (s : State) (sn : Nat) (p : Nat) : Nat :=
  if !bitOf (s.cp (Prm.CC_CTRL sn)) 4 then p else
  let a := auxParts s sn p
  let v := fun k => (clampI 0 65535 ((comp p k : Int) - rnd 12 (ccCoef s sn (2 * k) * a.1 + ccCoef s sn (2 * k + 1) * a.2))).toNat
  mkPx (v 0) (v 1) (v 2) (comp p 3)

/-- C4 (R250). -/
def c4 (s : State) (sn : Nat) (p : Nat) : Nat :=
  let a := auxParts s sn p
  let on := bitOf (s.cp (Prm.CC_CTRL sn)) 5
  let gain := fun i => if on then (s.cp (Prm.CC_WB_R sn + i) : Int) else 4096
  let v : List Int := [(comp p 0 : Int), (comp p 1 : Int), (comp p 2 : Int), a.2, a.1]
  let coef := fun i k => if on then ccCoef s sn (8 + 5 * i + k) else if i = k then 4096 else 0
  let out := fun i => toHalf (sumI ((List.range 5).map fun k => coef i k * v.getD k 0 * gain k)) (2 ^ 40)
  mkPx (out 0) (out 1) (out 2) 0

/-- One pixel through C1 to C4, and what it counts. -/
def colourStage (s : State) (sn k frame : Nat) (rd : Rd) (r c : Nat) : Nat × List Eff :=
  match k with
  | 1 => (c1 s sn rd r c, [])
  | 2 =>
    let q := c2 s sn rd r c
    (q.1, if q.2 = 0 then [] else [effSns sn fun x => { x with stats := x.stats.alter frame fun a => { a with uncorrected := a.uncorrected + 1 } }])
  | 3 => (c3 s sn (rd r c), [])
  | _ => (c4 s sn (rd r c), [])

end Sys2Proof.Machine
end

