-- ==== Sys2Proof/Machine/StageOut.lean ====
section
/-! DEFINITION. The output stages O1 to O5 and the vision branch of a triad (chapter 07, R252 to R277), and the layout of
rings (R271). Outputs 0 to 15 are the scaled outputs, 16 and 17 the triads. -/
namespace Sys2Proof.Machine

/-- What an output in effect is: sensor, crop, size, format. -/
structure OutGeo where
  sensor : Nat
  y0 : Nat
  x0 : Nat
  hc : Nat
  wc : Nat
  ho : Nat
  wo : Nat
  fmt : Nat
  deriving DecidableEq, Repr

/-- Base ID of the parameters of an output. -/
def outBase (o : Nat) : Nat := outSrcId o

/-- The geometry of an output under a reading of parameters (R252, R253). -/
def geoOf (s : State) (rd : Nat → Nat) (o : Nat) : OutGeo :=
  let b := outBase o
  let sn := srcSensor (rd b)
  let cz := rd (b + 2)
  let oz := rd (b + 3)
  let hc := if cz = 0 then snsHeight s sn else bitsOf cz 30 16
  let wc := if cz = 0 then snsWidth s sn else sizeW cz
  ⟨sn, if cz = 0 then 0 else bitsOf (rd (b + 1)) 29 16, if cz = 0 then 0 else bitsOf (rd (b + 1)) 14 0, hc, wc,
    if oz = 0 then hc else bitsOf oz 30 16, if oz = 0 then wc else sizeW oz, rd (b + 4)⟩

def geo (s : State) (o : Nat) : OutGeo := geoOf s s.cp o

def fmtEnc (f : Nat) : Nat := f % 16
def fmtSampling (f : Nat) : Nat := f / 16 % 4
def fmtComp (f : Nat) : Bool := bitOf f 6
def fmtNarrow (f : Nat) : Bool := bitOf f 7
def fmtDepthCode (f : Nat) : Nat := f / 256 % 8
def fmtVtaps (f : Nat) : Nat := 2 * (f / 4096 % 4) + 2
def fmtCustom (f : Nat) : Bool := bitOf f 14
def fmtLut (f : Nat) : Nat := f / 65536 % 4
def fmtLutEn (f : Nat) : Bool := bitOf f 18
def fmtCurveEn (f : Nat) : Bool := bitOf f 19
def fmtShaper (f : Nat) : Nat := f / 2 ^ 20 % 8

/-- Bits of a code; 0 for half float. -/
def codeBits (f : Nat) : Nat := [8, 10, 12, 16, 0].getD (fmtDepthCode f) 0

/-- The first bound output stage, which applies the crop. -/
def firstStage (g : OutGeo) : Nat :=
  if g.wc ≠ g.wo then 1 else if g.hc ≠ g.ho then 2 else if fmtLutEn g.fmt then 3 else 4

/-- The reader of output stage k: crop-relative where it is the first stage of its pipeline. -/
def outRd (g : OutGeo) (k : Nat) (rd : Rd) : Rd := if k = firstStage g then fun y x => rd (g.y0 + y) (g.x0 + x) else rd

/-! ### O1 and O2: scalers -/

/-- The decimation of R255. -/
def decim (wc wo : Nat) : Nat := if 2 * wo < wc then (([2, 4, 8].find? fun d => wc ≤ 2 * wo * d).getD 8) else 1

/-- R254: the position of output sample k with 16 fraction bits. -/
def posOf (li lo k : Nat) : Int :=
  let step := divRound (li * 65536) lo
  ((step / 2 : Nat) : Int) - 32768 + (k * step : Nat)

/-- A scaler coefficient of an output: row 0 horizontal with 8 taps, 1 vertical (R259). t counts from the first tap used. -/
def scaleCoef (s : State) (o : Nat) (g : OutGeo) (vert : Bool) (taps lo li phase t : Nat) : Int :=
  if fmtCustom g.fmt then
    match s.camTable g.sensor K_CC (ccIdx 3 o) with
    | some b =>
      let i := if vert then 512 + 6 * phase + (t + 3 - taps / 2) else 8 * phase + t
      sgn 16 (byteAt b (2 * i) + 256 * byteAt b (2 * i + 1))
    | none => derivedCoef taps lo li phase t
  else derivedCoef taps lo li phase t

/-- One component of a polyphase sum: px answers the exact value times den of an input position (R256, R258, R260). -/
def polyphase (coef : Nat → Nat → Int) (taps li lo k : Nat) (den : Nat) (px : Nat → Int) : Nat :=
  let p := posOf li lo k
  let base := p / 65536
  let phase := (p % 65536).toNat / 1024
  let sum := sumI ((List.range taps).map fun t =>
    coef phase t * px (clampI 0 ((li - 1 : Nat) : Int) (base + t - ((taps / 2 - 1 : Nat) : Int))).toNat)
  toHalf sum (2 ^ 38 * den)

/-- O1 (R254, R255, R258 to R260): crop row y, output column x. -/
def o1 (s : State) (o : Nat) (g : OutGeo) (rd : Rd) (y x : Nat) : Nat :=
  let d := decim g.wc g.wo
  let li := g.wc / d
  let one := fun i => polyphase (scaleCoef s o g false 8 g.wo li) 8 li g.wo x d fun m =>
    sumI ((List.range d).map fun n => halfVal (comp (rd y (d * m + n)) i))
  mkPx (one 0) (one 1) (one 2) 0

/-- O2 (R256 to R258, R260): output row y, column x. -/
def o2 (s : State) (o : Nat) (g : OutGeo) (rd : Rd) (y x : Nat) : Nat :=
  let v := fmtVtaps g.fmt
  let one := fun i =>
    if 2 * g.ho < g.hc then
      let a := y * g.hc
      let b := (y + 1) * g.hc
      let js := (List.range ((b + g.ho - 1) / g.ho - a / g.ho)).map (a / g.ho + ·)
      toHalf (sumI (js.map fun j =>
        ((min b ((j + 1) * g.ho) - max a (j * g.ho) : Nat) : Int) * halfVal (comp (rd j x) i))) (2 ^ 24 * g.hc)
    else polyphase (scaleCoef s o g true v g.ho g.hc) v g.hc g.ho y 1 fun j => halfVal (comp (rd j x) i)
  mkPx (one 0) (one 1) (one 2) 0

/-! ### O3: look -/

/-- A node component of the LUT slot of an output (R262). -/
def lutNode (s : State) (g : OutGeo) (r gg b i : Nat) : Int :=
  match s.camTable g.sensor K_CC (ccIdx 1 (fmtLut g.fmt)) with
  | some t => let a := 6 * ((b * 65 + gg) * 65 + r) + 2 * i
              halfVal (byteAt t a + 256 * byteAt t (a + 1))
  | none => halfVal (toHalf ([r, gg, b].getD i 0 : Nat) 64)

/-- O3 (R261, R262). -/
def o3 (s : State) (g : OutGeo) (p : Nat) : Nat :=
  if !fmtLutEn g.fmt then p else
  let P := (List.range 3).map fun i => shaper (fmtShaper g.fmt) (comp p i) * 64
  let idx := P.map fun q => min (q / 65536) 63
  let fr := (List.range 3).map fun i => P.getD i 0 - idx.getD i 0 * 65536
  let f := fun i => fr.getD i 0
  let ord := if f 1 ≤ f 0 then (if f 2 ≤ f 1 then [0, 1, 2] else if f 2 ≤ f 0 then [0, 2, 1] else [2, 0, 1])
    else (if f 2 ≤ f 0 then [1, 0, 2] else if f 2 ≤ f 1 then [1, 2, 0] else [2, 1, 0])
  let k := fun i => ord.getD i 0
  let at' := fun (adv : List Nat) (i : Nat) =>
    let n := fun a => idx.getD a 0 + if adv.contains a then 1 else 0
    lutNode s g (n 0) (n 1) (n 2) i
  let one := fun i => toHalf (((65536 - f (k 0) : Nat) : Int) * at' [] i + ((f (k 0) : Int) - f (k 1)) * at' [k 0] i +
    ((f (k 1) : Int) - f (k 2)) * at' [k 0, k 1] i + (f (k 2) : Int) * at' [0, 1, 2] i) (2 ^ 40)
  mkPx (one 0) (one 1) (one 2) 0

/-! ### O4: encode -/

/-- A component after the primaries matrix, at 2^38 (R263). -/
def matrixed (enc p i : Nat) : Int :=
  sumI ((List.range 3).map fun k => (primaries enc).getD (3 * i + k) 0 * halfVal (comp p k))

/-- A curve table entry of an output (R265). -/
def curveAt (s : State) (o : Nat) (g : OutGeo) (ch i : Nat) : Int :=
  if 1024 ≤ i then 65535 else
  match s.camTable g.sensor K_CC (ccIdx 2 o) with
  | some t => (byteAt t (2 * (1024 * ch + i)) + 256 * byteAt t (2 * (1024 * ch + i) + 1) : Nat)
  | none => (64 * i : Nat)

/-- O4 (R263 to R265): three codes of UQ0.16, or three binary16 values for half float. -/
def o4 (s : State) (o : Nat) (g : OutGeo) (p : Nat) : Nat :=
  let enc := fmtEnc g.fmt
  let half := fmtDepthCode g.fmt == 4
  let one := fun i =>
    let x := matrixed enc p i
    if enc = 5 then toHalf x (2 ^ 38)
    else if half then toHalf (acesCct (x / 2 ^ 14)) (2 ^ 32)
    else
      let e := transfer enc (x / 2 ^ 14)
      if fmtCurveEn g.fmt then
        (clampI 0 65535 (curveAt s o g i (e / 64) + rnd 6 ((curveAt s o g i (e / 64 + 1) - curveAt s o g i (e / 64)) * (e % 64 : Nat)))).toNat
      else e
  mkPx (one 0) (one 1) (one 2) 0

/-- The light level of a pixel of encoding 2 in 2^-16 cd/m²: the largest component, scene value times 10,000 (R271). -/
def lightLevel (g : OutGeo) (p : Nat) : Nat :=
  if fmtEnc g.fmt ≠ 2 then 0 else
  (List.range 3).foldl (fun m i => max m ((min (matrixed 2 p i / 2 ^ 14).toNat (one24 * 10000 / 203)) * 203 / 256)) 0

/-! ### O5: Y'CbCr, subsampling, quantising -/

/-- Y', C_B and C_R with 16 fraction bits (R266). -/
def ycc (enc p : Nat) : Int × Int × Int :=
  let k : List Int := if enc = 0 then [3483, 1183, 8829, 10404] else [4304, 972, 8708, 11111]
  let r := (comp p 0 : Int)
  let b := (comp p 2 : Int)
  let y := rnd 14 (k.getD 0 0 * r + (16384 - k.getD 0 0 - k.getD 1 0) * (comp p 1 : Int) + k.getD 1 0 * b)
  (y, rnd 14 (k.getD 2 0 * (b - y)), rnd 14 (k.getD 3 0 * (r - y)))

/-- A code of n bits from num / (65536 * den) (R267). -/
def quantise (n : Nat) (narrow chroma : Bool) (num den : Int) : Nat :=
  let top : Int := (2 ^ n : Nat) - 1
  let d := 65536 * den
  let v : Int :=
    if narrow then
      let a : Int := if chroma then 224 * num + 128 * d else 219 * num + 16 * d
      (2 * a * (2 ^ (n - 8) : Nat) + d) / (2 * d)
    else (2 * top * num + d) / (2 * d) + (if chroma then (2 ^ (n - 1) : Nat) else 0)
  (clampI 0 top v).toNat

/-- The codes of one pixel that carry no subsampled chroma. -/
def lumaCodes (g : OutGeo) (n : Nat) (p : Nat) : List Nat :=
  if n = 0 then [comp p 0, comp p 1, comp p 2]
  else if fmtComp g.fmt then
    let y := ycc (fmtEnc g.fmt) p
    [quantise n (fmtNarrow g.fmt) false y.1 1, quantise n (fmtNarrow g.fmt) true y.2.1 1, quantise n (fmtNarrow g.fmt) true y.2.2 1]
  else (List.range 3).map fun i => quantise n (fmtNarrow g.fmt) false (comp p i) 1

/-- Chroma of the even column x of rows y and, for 4:2:0, y + 1: C_B and C_R codes (R267). -/
def chromaCodes (g : OutGeo) (n : Nat) (rows : List Nat) (rd : Rd) (x : Nat) : List Nat :=
  let at' := fun y (c : Int) => ycc (fmtEnc g.fmt) (rd y (clampI 0 ((g.wo - 1 : Nat) : Int) c).toNat)
  let f := fun (sel : Int × Int × Int → Int) =>
    sumI (rows.map fun y => sel (at' y ((x : Int) - 1)) + 2 * sel (at' y x) + sel (at' y ((x : Int) + 1)))
  let den := 4 * (rows.length : Int)
  [quantise n (fmtNarrow g.fmt) true (f (·.2.1)) den, quantise n (fmtNarrow g.fmt) true (f (·.2.2)) den]

/-! ### Rings (R270, R271) -/

/-- The layout of a ring: base, slots, pitch, plane offsets, slot size. -/
structure Ring where
  base : Nat
  slots : Nat
  pitch : Nat
  planes : List Nat
  size : Nat
  deriving DecidableEq, Repr

/-- Bytes of one pixel of plane 0 of a memory format. -/
def memPx (m : Nat) : Nat := if m = 1 ∨ m = 2 then 8 else if m = 3 ∨ m = 4 then 4 else 2

/-- A number rounded up to a multiple. -/
def roundTo (n k : Nat) : Nat := (n + k - 1) / k * k

/-- Ring layout from the bytes of a line, the lines of each plane, the pitch asked for, and the header's size (R271). -/
def ringLayout (base slots lineBytes : Nat) (lines : List Nat) (pitch head : Nat) : Ring :=
  let p := if pitch = 0 then roundTo lineBytes 256 else pitch
  let offs := lines.foldl (fun (a : List Nat × Nat) n => (a.1 ++ [a.2], roundTo (a.2 + p * n) 256)) (([], head) : List Nat × Nat)
  let last := (offs.1.zip lines).foldl (fun m q => max m (q.1 + p * q.2)) head
  ⟨base, slots, p, offs.1, roundTo last 4096⟩

/-- Lines of each plane of a memory format. -/
def planeLines (m h : Nat) : List Nat := if m = 0x10 then [h, h] else if m = 0x11 then [h, h / 2] else [h]

/-- Ring number r of OUT_INFO: 0 to 15 an output, 16 + 3 t + v variant v of triad t; its output. -/
def ringOut (r : Nat) : Nat := if r < 16 then r else 16 + (r - 16) / 3

/-- d of a triad's vision branch (R277). -/
def visDiv (v : Nat) : Nat := 4 * 2 ^ (v % 4)

/-- The memory format of a ring. -/
def ringFmt (rd : Nat → Nat) (r : Nat) : Nat := if r < 16 then rd (Prm.OUT_RING r) / 2 ^ 24 else if (r - 16) % 3 = 0 then 1 else 0x11

/-- The ring r under a reading of parameters. -/
def ringOf (s : State) (rd : Nat → Nat) (r : Nat) : Ring :=
  let o := ringOut r
  let g := geoOf s rd o
  let a64 := fun id => rd id + 2 ^ 32 * rd (id + 1)
  if r < 16 then
    let m := ringFmt rd r
    ringLayout (a64 (Prm.OUT_ADDR_LO o)) (rd (Prm.OUT_RING o) % 16) (memPx m * g.wo) (planeLines m g.ho) (rd (Prm.OUT_PITCH o)) 256
  else
    let t := o - 16
    let v := (r - 16) % 3
    let slots := rd (Prm.TRI_RING t) % 16
    let base := a64 (Prm.TRI_DISP_ADDR_LO t + 2 * v)
    if v = 2 then
      let d := visDiv (rd (Prm.TRI_VISION t))
      ringLayout base slots (g.wc / d) (List.replicate 4 (g.hc / d)) 0 256
    else ringLayout base slots (memPx (ringFmt rd r) * g.wo) (planeLines (ringFmt rd r) g.ho) 0 256

def ring (s : State) (r : Nat) : Ring := ringOf s s.cp r

/-- Address of the slot that record n of a ring uses. -/
def slotAddr (k : Ring) (n : Nat) : Nat := if k.slots = 0 then k.base else k.base + k.size * (n % k.slots)

/-- The format that a variant of a triad is encoded in (R277): 12-bit full range, or 10-bit narrow Y'CbCr 4:2:0. -/
def variantFmt (f : Nat) (coding : Bool) : Nat :=
  let b := f - (f / 16 % 256) * 16
  b + if coding then 0x1E0 else 0x200

/-- A code of n bits left-justified in a container of 16 (R270). -/
def just (n v : Nat) : Nat := if n = 0 then v else v * 2 ^ (16 - n)

/-- The bytes of one pixel of plane 0 of a memory format. -/
def pxBytes (m n : Nat) (c : List Nat) : Bytes :=
  let k := fun i => c.getD i 0
  match m with
  | 1 => leBytes 2 (just n (k 0)) ++ leBytes 2 (just n (k 1)) ++ leBytes 2 (just n (k 2)) ++ [0, 0]
  | 2 => leBytes 2 (k 0) ++ leBytes 2 (k 1) ++ leBytes 2 (k 2) ++ leBytes 2 0x3C00
  | 3 => leBytes 4 (3 * 2 ^ 30 + k 0 * 2 ^ 20 + k 1 * 2 ^ 10 + k 2)
  | 4 => leBytes 4 (255 * 2 ^ 24 + k 0 * 2 ^ 16 + k 1 * 2 ^ 8 + k 2)
  | _ => leBytes 2 (just n (k 0))

/-- What O5 writes to a memory ring for the four pixels from column x of row y: WRITE_SEQ before anything else (R272), then
plane 0, and chroma pairs where the row completes them (R267, R270). -/
def o5Memory (k : Ring) (g : OutGeo) (m seq : Nat) (rd : Rd) (y x : Nat) : List Eff :=
  let n := codeBits g.fmt
  let a := slotAddr k seq
  let line := ringWrite (a + k.planes.getD 0 0 + k.pitch * y + memPx m * x)
    ((List.range 4).flatMap fun i => if x + i < g.wo then pxBytes m n (lumaCodes g n (rd y (x + i))) else [])
  let pairs := fun (rows : List Nat) => ([x, x + 2].filter (· < g.wo)).flatMap fun c =>
    (chromaCodes g n rows rd c).flatMap fun v => leBytes 2 (just n v)
  ringWrite a (leBytes 4 seq) :: line :: (match m with
    | 0x10 => [ringWrite (a + k.planes.getD 1 0 + k.pitch * y + 2 * x) (pairs [y])]
    | 0x11 => if y % 2 = 1 then [ringWrite (a + k.planes.getD 1 0 + k.pitch * (y / 2) + 2 * x) (pairs [y - 1, y])] else []
    | _ => [])

/-- The samples O5 gives a record job or an egress context for the same four pixels: plane, row, column, code (R291, R360). -/
def o5Samples (g : OutGeo) (rd : Rd) (y x : Nat) : List (Nat × Nat × Nat × Nat) :=
  let n := codeBits g.fmt
  let cols := (List.range 4).filterMap fun i => if x + i < g.wo then some (x + i) else none
  if fmtSampling g.fmt = 0 then
    cols.flatMap fun c => (lumaCodes g n (rd y c)).zipIdx.map fun v => (v.2, y, c, v.1)
  else
    cols.map (fun c => (0, y, c, (lumaCodes g n (rd y c)).getD 0 0)) ++
    (if fmtSampling g.fmt = 2 ∧ y % 2 = 0 then [] else
      (cols.filter (· % 2 == 0)).flatMap fun c =>
        let rows := if fmtSampling g.fmt = 2 then [y - 1, y] else [y]
        (chromaCodes g n rows rd c).zipIdx.map fun v => (1 + v.2, if fmtSampling g.fmt = 2 then y / 2 else y, c / 2, v.1))

/-- The codes O5 passes on as a token (wall layer and egress destinations). -/
def o5Token (g : OutGeo) (rd : Rd) (y x : Nat) : Nat :=
  let n := codeBits g.fmt
  let c := lumaCodes g n (rd y x)
  if fmtSampling g.fmt = 0 then mkPx (c.getD 0 0) (c.getD 1 0) (c.getD 2 0) 0
  else
    let h := chromaCodes g n (if fmtSampling g.fmt = 2 then [y / 2 * 2, y / 2 * 2 + 1] else [y]) rd (x / 2 * 2)
    mkPx (c.getD 0 0) (h.getD 0 0) (h.getD 1 0) 0

/-- The decimation stage of the vision branch (R277): box means of working values, clipped to 0 to 1. -/
def visMean (d : Nat) (rd : Rd) (y x : Nat) : Nat :=
  let one := fun i => toHalf (clampI 0 (2 ^ 24 * d * d : Nat)
    (sumI ((List.range (d * d)).map fun n => halfVal (comp (rd (d * y + n / d) (d * x + n % d)) i)))) (2 ^ 24 * d * d)
  mkPx (one 0) (one 1) (one 2) 0

/-- The pack stage: Y of the BT.2020 luma weights, then R, G, B, each round(255 v) (R277). -/
def visCodes (p : Nat) : List Nat :=
  let m := (List.range 3).map fun i => halfVal (comp p i)
  let code := fun (num : Int) (den : Int) => ((2 * 255 * num + den) / (2 * den)).toNat
  code (2627 * m.getD 0 0 + 6780 * m.getD 1 0 + 593 * m.getD 2 0) (10000 * 2 ^ 24) :: m.map fun v => code v (2 ^ 24)

/-- What the pack stage writes for the four pixels from column x of row y: one byte in each of four planes. -/
def visMemory (k : Ring) (w seq : Nat) (rd : Rd) (y x : Nat) : List Eff :=
  ringWrite (slotAddr k seq) (leBytes 4 seq) :: (List.range 4).map fun i =>
    ringWrite (slotAddr k seq + k.planes.getD i 0 + k.pitch * y + x)
      ((List.range 4).flatMap fun n => if x + n < w then leBytes 1 ((visCodes (rd y (x + n))).getD i 0) else [])

end Sys2Proof.Machine
end

