-- ==== Sys2Proof/Machine/CastCodec.lean ====
section
/-! DEFINITION. The Cast bitstream: encoder and decoder (chapter 08, R288 to R305). Bits are lists, first bit first. -/
namespace Sys2Proof.Machine

/-- The frame header (R289). -/
structure CastHdr where
  raw : Bool
  half : Bool
  delta : Nat
  level : Nat
  depth : Nat
  pw : Nat
  ph : Nat
  sliceLines : Nat
  reset : Nat
  /-- Width and height of each plane. -/
  sizes : List (Nat × Nat)
  frameSeq : Nat
  frame : Nat
  ts : Nat
  fmt : Nat
  deriving DecidableEq, Repr

/-- Planes of a source format at a size (R291); none for a format that is no Cast source. -/
def castPlanes (fmt w h : Nat) : Option (List (Nat × Nat)) :=
  match fmt with
  | 0x01 => some [(w, h), (w, h), (w, h)]
  | 0x02 => some [(w, h), (w, h), (w, h)]
  | 0x10 => some [(w, h), (w / 2, h), (w / 2, h)]
  | 0x11 => some [(w, h), (w / 2, h / 2), (w / 2, h / 2)]
  | 0x20 => some [(w, h)]
  | _ => none

/-- Bytes of a header; the CRC covers bytes 0 to 59. -/
def castHeader (h : CastHdr) (frameBytes : Nat) : Bytes :=
  let b := [0x43, 0x41, 0x53, 0x54, 1] ++ leBytes 1 ((if h.raw then 1 else 0) + if h.half then 2 else 0) ++ leBytes 1 h.delta ++
    leBytes 1 h.level ++ leBytes 1 h.sizes.length ++ leBytes 1 h.depth ++ leBytes 1 h.pw ++ leBytes 1 h.ph ++
    leBytes 2 h.sliceLines ++ leBytes 2 h.reset ++
    field (h.sizes.flatMap fun z => leBytes 2 (z.1 % 32768) ++ leBytes 2 z.2) 0 16 ++
    leBytes 4 h.frameSeq ++ leBytes 4 h.frame ++ timeBytes h.ts ++ leBytes 4 frameBytes ++ leBytes 1 h.fmt ++ [0, 0, 0]
  b ++ leBytes 4 (crc32 b)

/-! ### Prediction and contexts -/

/-- The samples of a slice so far: row * 32768 + column. -/
abbrev Recon := FMap Nat

/-- The coding parameters of a slice. -/
structure CastPar where
  b : Nat
  delta : Nat
  p : Nat
  q : Nat
  reset : Nat
  width : Nat
  deriving DecidableEq, Repr

/-- The residue range RG (R297). -/
def castRg (k : CastPar) : Nat := if k.delta = 0 then 2 ^ k.b else (2 ^ k.b - 1 + 2 * k.delta) / (2 * k.delta + 1) + 1

/-- The neighbours a, n, w, d (R294). -/
def neighbours (k : CastPar) (x : Recon) (r c : Nat) : Int × Int × Int × Int :=
  let at' := fun (y x' : Nat) => ((x.find (y * 32768 + x')).map fun v => (v : Int))
  let a := if k.p ≤ c then at' r (c - k.p) else none
  let n := if k.q ≤ r then at' (r - k.q) c else none
  let w := if k.q ≤ r ∧ k.p ≤ c then at' (r - k.q) (c - k.p) else none
  let d := if k.q ≤ r ∧ c + k.p < k.width then at' (r - k.q) (c + k.p) else none
  match a, n with
  | none, none => let h : Int := (2 ^ (k.b - 1) : Nat); (h, h, h, h)
  | some a, none => (a, a, a, a)
  | none, some n => (n, n, n, d.getD n)
  | some a, some n => (a, n, w.getD n, d.getD n)

/-- The median edge predictor (R295). -/
def castPred (a n w : Int) : Int := if max a n ≤ w then min a n else if w ≤ min a n then max a n else a + n - w

/-- A gradient quantised (R296). -/
def quantGrad (b delta : Nat) (g : Int) : Int :=
  let t := fun (m : Nat) => ((m * 2 ^ (b - 8) : Nat) : Int)
  if g ≤ -(t 21) then -4 else if g ≤ -(t 7) then -3 else if g ≤ -(t 3) then -2 else if g < -(delta : Int) then -1
  else if g ≤ delta then 0 else if g < t 3 then 1 else if g < t 7 then 2 else if g < t 21 then 3 else 4

/-- Context number and SIGN (R296). -/
def castContext (k : CastPar) (nb : Int × Int × Int × Int) : Nat × Int :=
  let (a, n, w, d) := nb
  let q := quantGrad k.b k.delta
  let s := 81 * q (d - n) + 9 * q (n - w) + q (w - a)
  (s.natAbs, if s < 0 then -1 else 1)

/-- Contexts: number to N and A; a fresh one is not listed (R297). -/
abbrev Ctxs := FMap (Nat × Nat)

def ctxGet (k : CastPar) (m : Ctxs) (i : Nat) : Nat × Nat := m.getD i (1, max 2 ((castRg k + 32) / 64))

/-- The Rice parameter (R297). -/
def riceK (n a : Nat) : Nat := ((List.range 17).find? fun k => a ≤ n * 2 ^ k).getD 16

/-- A context after a residue (R298). -/
def ctxAdd (k : CastPar) (m : Ctxs) (i : Nat) (e : Int) : Ctxs :=
  let (n, a) := ctxGet k m i
  let n' := n + 1
  let a' := a + e.natAbs
  m.put i (if n' = k.reset then (n' / 2, (a' + 1) / 2) else (n', a'))

/-- The residue of a sample (R297). -/
def residue (k : CastPar) (sign pred : Int) (x : Nat) : Int :=
  let e0 := sign * ((x : Int) - pred)
  if k.delta = 0 then
    let h : Int := (2 ^ (k.b - 1) : Nat)
    (e0 + h) % (2 ^ k.b : Nat) - h
  else
    let d : Int := k.delta
    let q := if 0 < e0 then (e0 + d) / (2 * d + 1) else -((d - e0) / (2 * d + 1))
    let rg : Int := castRg k
    if q < -(rg / 2) then q + rg else if rg - 1 - rg / 2 < q then q - rg else q

/-- The sample that both sides reconstruct (R299). -/
def reconstruct (k : CastPar) (sign pred e : Int) : Nat :=
  if k.delta = 0 then ((pred + sign * e) % (2 ^ k.b : Nat)).toNat
  else
    let st : Int := 2 * k.delta + 1
    let span := (castRg k : Int) * st
    let top : Int := (2 ^ k.b : Nat) - 1
    let y := pred + sign * e * st
    let y := if y < -(k.delta : Int) then y + span else if top + k.delta < y then y - span else y
    (clampI 0 top y).toNat

/-- n in k bits, most significant first. -/
def numBits (k n : Nat) : List Bool := (List.range k).map fun i => bitOf n (k - 1 - i)

/-- The residue or escape code word of a mapped value (R300, R301), and whether it is an escape. -/
def codeWord (kk m : Nat) : List Bool × Bool :=
  if m / 2 ^ kk < 24 then (List.replicate (m / 2 ^ kk) false ++ [true] ++ numBits kk m, false)
  else (List.replicate 24 false ++ [true] ++ numBits 16 m, true)

/-! ### Encoder -/

/-- Length of the run that a match at an offset and shift would copy from column c, at most n samples (R302). -/
def runLength (k : CastPar) (x : Recon) (src : Nat → Nat → Nat) (r c o : Nat) (sh : Int) : Nat → Nat → Nat
  | 0, i => i
  | n + 1, i =>
    let col := (c : Int) + i + sh * k.p
    if k.width ≤ c + i ∨ col < 0 ∨ (k.width : Int) ≤ col then i
    else if x.find ((r - (o + 1) * k.q) * 32768 + col.toNat) = some (src r (c + i)) then runLength k x src r c o sh n (i + 1) else i

/-- The shifts a level tries, in order of preference (R304). -/
def shiftsOf (level : Nat) : List Int :=
  if level < 4 then [0] else 0 :: ((List.range 15).flatMap fun (i : Nat) => [-((i : Int) + 1), (i : Int) + 1]) ++ [-16]

/-- The match the encoder takes: offset, shift and length, if any reaches 8 samples (R304). -/
def bestMatch (k : CastPar) (level : Nat) (x : Recon) (src : Nat → Nat → Nat) (r c : Nat) : Option (Nat × Int × Nat) :=
  if level = 0 then none else
  let cands := ((List.range (2 ^ (level - 1))).filter fun o => (o + 1) * k.q ≤ r).flatMap fun o =>
    (shiftsOf level).map fun sh => (o, sh, runLength k x src r c o sh k.width 0)
  let best := cands.foldl (fun b z => if b.2.2 < z.2.2 then z else b) ((0, 0, 0) : Nat × Int × Nat)
  if 8 ≤ best.2.2 then some best else none

/-- Code words of a run, 2,048 samples each but the last (R304). -/
def matchWords (o : Nat) (sh : Int) : Nat → Nat → List (List Bool)
  | 0, _ => []
  | n + 1, len =>
    if len = 0 then [] else
    let l := min len 2048
    (List.replicate 25 false ++ [true] ++ numBits 6 o ++ numBits 5 (unsgn 5 sh) ++ numBits 11 (l - 1)) :: matchWords o sh n (len - l)

/-- What an encoder has made: code words, samples, contexts, and its counts. -/
structure Enc where
  words : List (List Bool)
  x : Recon
  ctx : Ctxs
  matches_ : Nat
  escapes : Nat
  deriving DecidableEq, Repr

/-- One sample coded by a residue or an escape. -/
def encSample (k : CastPar) (src : Nat → Nat → Nat) (r c : Nat) (e : Enc) : Enc :=
  let nb := neighbours k e.x r c
  let (ci, sign) := castContext k nb
  let pred := castPred nb.1 nb.2.1 nb.2.2.1
  let res := residue k sign pred (src r c)
  let m := if 0 ≤ res then (2 * res).toNat else (-2 * res - 1).toNat
  let (n, a) := ctxGet k e.ctx ci
  let w := codeWord (riceK n a) m
  { e with words := w.1 :: e.words, x := e.x.put (r * 32768 + c) (reconstruct k sign pred res), ctx := ctxAdd k e.ctx ci res,
           escapes := e.escapes + if w.2 then 1 else 0 }

/-- A line from column c; n bounds the code words. -/
def encLine (k : CastPar) (level : Nat) (src : Nat → Nat → Nat) (r : Nat) : Nat → Nat → Enc → Enc
  | 0, _, e => e
  | n + 1, c, e =>
    if k.width ≤ c then e else
    match bestMatch k level e.x src r c with
    | some (o, sh, len) =>
      let x := (List.range len).foldl (fun m i => m.put (r * 32768 + c + i) (src r (c + i))) e.x
      let ws := matchWords o sh 16 len
      encLine k level src r n (c + len) { e with words := ws.reverse ++ e.words, x := x, matches_ := e.matches_ + ws.length }
    | none => encLine k level src r n (c + 1) (encSample k src r c e)

/-- A slice encoded: its code words in order and its counts. -/
def encSlice (k : CastPar) (level lines : Nat) (src : Nat → Nat → Nat) : Enc :=
  let e := (List.range lines).foldl (fun e r => encLine k level src r k.width 0 e) ⟨[], .empty, .empty, 0, 0⟩
  { e with words := e.words.reverse }

/-- Bits as bytes, most significant first, filled with zero bits (R288). -/
def packBits (n : Nat) (bits : List Bool) : Bytes :=
  match n with
  | 0 => []
  | n + 1 =>
    if bits.isEmpty then [] else
    BitVec.ofNat 8 (((bits.take 8 ++ List.replicate 8 false).take 8).foldl (fun a b => 2 * a + if b then 1 else 0) 0) ::
      packBits n (bits.drop 8)

/-- Slices of a frame: plane, first line, lines, in stream order. -/
def castSlices (h : CastHdr) : List (Nat × Nat × Nat) :=
  h.sizes.zipIdx.flatMap fun z => (List.range ((z.1.2 + h.sliceLines - 1) / h.sliceLines)).map fun i =>
    (z.2, i * h.sliceLines, min h.sliceLines (z.1.2 - i * h.sliceLines))

/-- What a frame's coding reports of each slice: samples, bytes, match words, escapes. -/
structure SliceLog where
  samples : Nat
  bytes : Nat
  matches_ : Nat
  escapes : Nat
  deriving DecidableEq, Repr

/-- The code words fit: before each, 48 bits remain of the output (R309). avail counts the bits left. -/
def wordsFit : List (List Bool) → Nat → Bool
  | [], _ => true
  | w :: t, avail => decide (48 ≤ avail) && wordsFit t (avail - w.length)

/-- The slices of a frame after the header, from a position in bytes; none where the output is full (R309). -/
def encSlices (h : CastHdr) (limit : Nat) (src : Nat → Nat → Nat → Nat) :
    List (Nat × Nat × Nat) → Nat → Option (Bytes × List SliceLog)
  | [], _ => some ([], [])
  | (p, first, lines) :: t, pos =>
    let w := (h.sizes.getD p (0, 0)).1
    let k : CastPar := ⟨h.depth, h.delta, h.pw, h.ph, h.reset, w⟩
    if limit < pos + 16 then none else
    let e := encSlice k h.level lines fun r c => src p (first + r) c
    if !wordsFit e.words ((limit - pos - 16) * 8) then none else
    let bits := e.words.flatten
    let coded := packBits bits.length bits
    let hdr := leBytes 1 p ++ [0] ++ leBytes 2 first ++ leBytes 2 lines ++ [0, 0] ++ leBytes 4 coded.length ++ leBytes 4 (crc32 coded)
    match encSlices h limit src t (pos + 16 + coded.length) with
    | none => none
    | some (bs, logs) => some (hdr ++ coded ++ bs, ⟨w * lines, 16 + coded.length, e.matches_, e.escapes⟩ :: logs)

/-- A frame encoded within limit bytes; none where the output is full (R309). -/
def encFrame (h : CastHdr) (limit : Nat) (src : Nat → Nat → Nat → Nat) : Option (Bytes × List SliceLog) :=
  if limit < 64 then none else
  match encSlices h limit src (castSlices h) 64 with
  | none => none
  | some (bs, logs) => some (castHeader h (64 + bs.length) ++ bs, logs)

/-! ### Decoder -/

/-- A header read and checked (R289, R303): the header and FRAME_BYTES. -/
def readHeader (b : Bytes) : Option (CastHdr × Nat) :=
  let n := fun o k => fieldN b o k
  let planes := n 8 1
  let sizes := (List.range planes).map fun i => (if n (16 + 4 * i) 2 = 0 then 32768 else n (16 + 4 * i) 2, n (18 + 4 * i) 2)
  let h : CastHdr := ⟨bitOf (n 5 1) 0, bitOf (n 5 1) 1, n 6 1, n 7 1, n 9 1, n 10 1, n 11 1, n 12 2, n 14 2, sizes, n 32 4, n 36 4,
    timeOf (field b 40 12), n 56 1⟩
  let ok := b.length ≥ 64 && crc32 (field b 0 60) == n 60 4 && field b 0 4 == [0x43, 0x41, 0x53, 0x54] && n 4 1 == 1 && n 5 1 < 4 &&
    h.delta ≤ 7 && h.level ≤ 7 && 1 ≤ planes && planes ≤ 4 && 8 ≤ h.depth && h.depth ≤ 16 && 1 ≤ h.pw && h.pw ≤ 8 && 1 ≤ h.ph && h.ph ≤ 8 &&
    (h.raw || (h.pw == 1 && h.ph == 1)) && (!h.half || (h.depth == 16 && h.delta == 0)) && 1 ≤ h.sliceLines && h.sliceLines ≤ 16384 &&
    h.sliceLines % h.ph == 0 && 16 ≤ h.reset && h.reset ≤ 256 && sizes.all (fun z => 1 ≤ z.2 && z.2 ≤ 16384 && z.1 ≤ 32768) &&
    zeroAt b (16 + 4 * planes) (16 - 4 * planes) && zeroAt b 57 3 && n 46 4 < 1000000000 &&
    (match sizes with | z :: _ => castPlanes h.fmt z.1 z.2 == some sizes | [] => false)
  if ok then some (h, n 52 4) else none

/-- A decoder's state within a slice. -/
structure Dec where
  bits : List Bool
  x : Recon
  ctx : Ctxs
  deriving DecidableEq, Repr

/-- Leading zero bits, at most 26, and the rest after the 1. -/
def leadZeros : Nat → List Bool → Nat → Option (Nat × List Bool)
  | 0, _, _ => none
  | n + 1, bs, u =>
    match bs with
    | [] => none
    | true :: t => some (u, t)
    | false :: t => leadZeros n t (u + 1)

/-- k bits as a number. -/
def takeNum (k : Nat) (bs : List Bool) : Option (Nat × List Bool) :=
  if bs.length < k then none else some ((bs.take k).foldl (fun a b => 2 * a + if b then 1 else 0) 0, bs.drop k)

/-- A residue is within the range of R297. -/
def inRange (k : CastPar) (e : Int) : Bool :=
  let rg : Int := castRg k
  decide (-(rg / 2) ≤ e) && decide (e ≤ rg - 1 - rg / 2)

/-- One sample from a mapped value. -/
def decSample (k : CastPar) (d : Dec) (r c : Nat) (rest : List Bool) (m : Nat) : Option Dec :=
  let nb := neighbours k d.x r c
  let (ci, sign) := castContext k nb
  let e : Int := if m % 2 = 0 then (m / 2 : Nat) else -((m / 2 : Nat) : Int) - 1
  if !inRange k e then none
  else some ⟨rest, d.x.put (r * 32768 + c) (reconstruct k sign (castPred nb.1 nb.2.1 nb.2.2.1) e), ctxAdd k d.ctx ci e⟩

/-- The samples of a match copied (R302). -/
def copyRun (k : CastPar) (r c o : Nat) (sh : Int) : Nat → Nat → Recon → Option Recon
  | 0, _, x => some x
  | n + 1, i, x =>
    let col := (c : Int) + i + sh * k.p
    if k.width ≤ c + i ∨ r < (o + 1) * k.q ∨ col < 0 ∨ (k.width : Int) ≤ col then none else
    match x.find ((r - (o + 1) * k.q) * 32768 + col.toNat) with
    | none => none
    | some v => copyRun k r c o sh n (i + 1) (x.put (r * 32768 + c + i) v)

/-- A line from column c. -/
def decLine (k : CastPar) (r : Nat) : Nat → Nat → Dec → Option Dec
  | 0, _, d => some d
  | n + 1, c, d =>
    if k.width ≤ c then some d else
    match leadZeros 26 d.bits 0 with
    | none => none
    | some (u, t) =>
      if u = 25 then
        match takeNum 22 t with
        | none => none
        | some (v, t') =>
          let len := v % 2048 + 1
          match copyRun k r c (v / 65536) (sgn 5 (v / 2048)) len 0 d.x with
          | none => none
          | some x => decLine k r n (c + len) ⟨t', x, d.ctx⟩
      else
        let nb := neighbours k d.x r c
        let (cn, ca) := ctxGet k d.ctx (castContext k nb).1
        let kk := riceK cn ca
        match (if u = 24 then takeNum 16 t else takeNum kk t) with
        | none => none
        | some (v, t') =>
          match decSample k d r c t' (if u = 24 then v else u * 2 ^ kk + v) with
          | none => none
          | some d' => decLine k r n (c + 1) d'

/-- The lines of a slice. -/
def decLines (k : CastPar) : Nat → Nat → Dec → Option Dec
  | 0, _, d => some d
  | n + 1, r, d => match decLine k r k.width 0 d with
    | none => none
    | some d' => decLines k n (r + 1) d'

/-- A slice decoded: its samples, and what follows it; none for corrupt input (R303). -/
def decSlice (h : CastHdr) (s : Nat × Nat × Nat) (bs : Bytes) : Option (Recon × Bytes) :=
  let (p, first, lines) := s
  let n := fieldN bs 8 4
  let coded := (bs.drop 16).take n
  if bs.length < 16 + n ∨ fieldN bs 0 2 ≠ p ∨ fieldN bs 2 2 ≠ first ∨ fieldN bs 4 2 ≠ lines ∨ fieldN bs 6 2 ≠ 0 ∨
      crc32 coded ≠ fieldN bs 12 4 then none else
  let k : CastPar := ⟨h.depth, h.delta, h.pw, h.ph, h.reset, (h.sizes.getD p (0, 0)).1⟩
  match decLines k lines 0 ⟨coded.flatMap byteBits, .empty, .empty⟩ with
  | none => none
  | some d => if d.bits.length < 8 ∧ d.bits.all (!·) then some (d.x, bs.drop (16 + n)) else none

/-- Every slice of a frame: samples by plane, line and column. -/
def decSlices (h : CastHdr) : List (Nat × Nat × Nat) → Bytes → FMap Nat → Option (FMap Nat × Bytes)
  | [], bs, m => some (m, bs)
  | s :: t, bs, m =>
    match decSlice h s bs with
    | none => none
    | some (x, rest) => decSlices h t rest (x.entries.foldl (fun m e => m.put (sampleKey s.1 (s.2.1 + e.1 / 32768) (e.1 % 32768)) e.2) m)

/-! ### Surfaces -/

/-- The integer of a binary16 pattern, and back (R290). -/
def halfCode (h : Nat) : Nat := if bitOf h 15 then 65535 - h else h + 32768
def halfBack (u : Nat) : Nat := if 32768 ≤ u then u - 32768 else 65535 - u

/-- Bytes of a pixel or container column of memory plane 0 of a source format. -/
def castPx (fmt : Nat) : Nat := if fmt = 1 ∨ fmt = 2 then 8 else 2

/-- Lines of the memory planes of a format. -/
def castLines (fmt h : Nat) : List Nat := if fmt = 0x10 then [h, h] else if fmt = 0x11 then [h, h / 2] else [h]

/-- Where a sample lies in a surface laid out from offset 0: memory plane offset, line, byte in the line. -/
def castPlace (fmt p y x : Nat) : Nat × Nat × Nat :=
  if fmt = 1 ∨ fmt = 2 then (0, y, 8 * x + 2 * p) else if p = 0 then (0, y, 2 * x) else (1, y, 4 * x + 2 * (p - 1))

/-- The address of a sample. -/
def castAddr (base fmt : Nat) (k : Ring) (p y x : Nat) : Nat :=
  let (m, l, o) := castPlace fmt p y x
  base + k.planes.getD m 0 + k.pitch * l + o

/-- A source sample read from a surface (R290, R291). -/
def castRead (s : State) (base fmt b : Nat) (half : Bool) (k : Ring) (p y x : Nat) : Nat :=
  let v := leNat (s.ringRead (castAddr base fmt k p y x) 2)
  if half then halfCode v else v / 2 ^ (16 - b)

/-- A decoded frame written from a base (R291, R317): the fourth container of a pixel is 0, or 1.0 for RGBH. -/
def castWrite (base : Nat) (h : CastHdr) (k : Ring) (m : FMap Nat) : List Eff :=
  (m.entries.map fun e =>
    let p := e.1 / 2 ^ 30
    let y := e.1 / 2 ^ 15 % 2 ^ 15
    let x := e.1 % 2 ^ 15
    ringWrite (castAddr base h.fmt k p y x) (leBytes 2 (if h.half then halfBack e.2 else e.2 * 2 ^ (16 - h.depth)))) ++
  (if h.fmt = 1 ∨ h.fmt = 2 then
    (m.entries.filter fun e => e.1 < 2 ^ 30).map fun e =>
      ringWrite (castAddr base h.fmt k 3 (e.1 / 2 ^ 15) (e.1 % 2 ^ 15)) (leBytes 2 (if h.fmt = 2 then 0x3C00 else 0))
   else [])

/-- The layout of a surface without its header (R317). -/
def castSurface (fmt w h pitch : Nat) : Ring := ringLayout 0 1 (castPx fmt * w) (castLines fmt h) pitch 0

/-- The last byte of a surface plus one. -/
def surfaceEnd (fmt w h : Nat) (k : Ring) : Nat :=
  let l := castLines fmt h
  (k.planes.zip l).foldl (fun m q => max m (q.1 + k.pitch * (q.2 - 1) + castPx fmt * w)) 0

end Sys2Proof.Machine
end

