-- ==== Sys2Proof/Machine/Front.lean ====
section
/-! DEFINITION. Front-end tables, statistics records and their commands (chapter 06; rows RFE_TABLE_LOAD to STAT_RECORD_DONE),
and the shared shape of loading and reading a table. -/
namespace Sys2Proof.Machine

/-! ### Loading and reading tables -/

/-- The device memory range lies in memory that a function owns, or the function is F0 (R274; chapter 17). An allocation is
a region object: kind K_MEM, its bytes owner (1), base (8), length (8). -/
def K_MEM : Nat := 14

def memOwned (s : State) (f addr len : Nat) : Bool :=
  (s.objIdx K_MEM).any fun i => match s.obj K_MEM i with
    | some b => fieldN b 0 1 == f && decide (fieldN b 1 8 ≤ addr) && decide (addr + len ≤ fieldN b 1 8 + fieldN b 9 8)
    | none => false

/-- The image that a load names is whole: its CRC-32 (R235), and no line of it is poisoned (R607). -/
def imageOf (s : State) (addr len crc : Nat) : Option Bytes :=
  let bs := memReadBytes s.devMem addr len
  if crc32 bs = crc ∧ (firstPoison s addr len).isNone then some bs else none

/-- The work of a load with the payload of R237: index bytes, length (4), address (8), CRC-32 (4), reserved (4).
check answers the format's verdict and the count the ticket reports. -/
def loadWork (t : Ticket) (f kind idx : Nat) (check : Bytes → Option Nat) (lenOk : Nat → Bool) (s : State) : Reply :=
  let p := t.payload
  let len := fieldN p 4 4
  if !lenOk len ∨ !zeroAt p 20 4 then .refuse ST_BAD_PARAM else
  match imageOf s (fieldN p 8 8) len (fieldN p 16 4) with
  | none => .refuse ST_INPUT_CORRUPT
  | some bs =>
    match check bs with
    | none => .refuse ST_BAD_PARAM
    | some n => .ok (leBytes 4 n ++ leBytes 4 0) (eff [stage f (.obj kind idx (some bs))])

/-- The work of a read: the table in force copied to a buffer, if it fits (R238). -/
def readWork (t : Ticket) (table : Bytes) : Reply :=
  let p := t.payload
  if fieldN p 4 4 < table.length then ⟨ST_OUTPUT_FULL, List.replicate 8 0, fun _ => []⟩
  else .ok (leBytes 4 table.length ++ leBytes 4 (crc32 table)) (eff [.dev (fieldN p 8 8) table])

/-! ### Front-end tables (R234) -/

/-- The default table of a kind for a sensor. -/
def rfeDefault (s : State) (sn k : Nat) : Bytes :=
  match k with
  | 0 => mosaicDefault
  | 1 => List.replicate 65536 0
  | 2 => (List.range 8).flatMap fun _ => (List.range 10).flatMap fun i => leBytes 2 (if i = 4 then 0x1000 else 0)
  | 3 => []
  | 4 => (List.range 5).flatMap fun _ => (List.range 4096).flatMap fun i => leBytes 2 (min (16 * i) 65535)
  | _ => let g := s.pn (Prm.RFE_SHADE_GRID sn)
         (List.range (5 * (g % 256) * (g / 256 % 128))).flatMap fun _ => leBytes 2 0x1000

/-- A mosaic descriptor obeys R200 and R202, as far as the sensor's size does not enter. -/
def mosaicOk (d : Bytes) : Bool :=
  let pw := mosPw d
  let ph := mosPh d
  decide (1 ≤ pw ∧ pw ≤ 8 ∧ 1 ≤ ph ∧ ph ≤ 8 ∧ byteAt d 2 < pw ∧ byteAt d 3 < ph) && zeroAt d 4 4 &&
  (List.range 64).all fun n =>
    let b := byteAt d (8 + n)
    if n / 8 < ph ∧ n % 8 < pw then siteType b ≤ 5 && (siteGclass b == 0 || siteType b == 2) else b == 0

/-- A static list is sorted with no duplicate and no reserved KIND (R213). -/
def defectsOk (bs : Bytes) : Bool :=
  let e := fun i => fieldN bs (4 * i) 4
  (List.range (bs.length / 4)).all fun i => e i / 2 ^ 29 ≤ 1 && (i == 0 || e (i - 1) % 2 ^ 29 < e i % 2 ^ 29)

/-- The format of a front-end table: entries accepted, or none. The size of a shading table is checked at the commit (R223). -/
def rfeCheck (k : Nat) (bs : Bytes) : Option Nat :=
  match k with
  | 0 => if mosaicOk bs then some 1 else none
  | 1 => some 32768
  | 2 => if (List.range 8).all fun i => zeroAt bs (20 * i + 18) 2 then some 8 else none
  | 3 => if defectsOk bs then some (bs.length / 4) else none
  | 4 => some 20480
  | _ => some (bs.length / 2)

def rfeLen (k len : Nat) : Bool :=
  match k with
  | 0 => len == 72
  | 1 => len == 65536
  | 2 => len == 160
  | 3 => len % 4 == 0 && len ≤ 4 * 1048576
  | 4 => len == 40960
  | _ => len % 10 == 0 && 40 ≤ len && len ≤ 10 * 129 * 65

/-- The turn of a load or read of front-end tables (R237). The reserved payload bytes are checked with the image (R238). -/
def rfeTurn (c : Svc) (s : State) (len : Nat) (load : Bool) : Reply :=
  checks [c.badLen len, c.notF0, (7 < c.n 0 1 || 5 < c.n 1 1, ST_BAD_PARAM), (!load && !zeroAt c.cmd.payload 2 2, ST_BAD_PARAM),
    (load && isStandby s, ST_CONFLICT)] (.pending fun _ => [])

def execRfeTableLoad (s : State) : Host.Outcome State Fault Refusal := (turn 0x300 fun c s => rfeTurn c s 24 true).outcome s
def execRfeTableRead (s : State) : Host.Outcome State Fault Refusal := (turn 0x301 fun c s => rfeTurn c s 16 false).outcome s

/-- The work of the two tickets (R235, R238). -/
def workRfe (f : Nat) (t : Ticket) (s : State) : Reply :=
  let sn := fieldN t.payload 0 1
  let k := fieldN t.payload 1 1
  if t.opcode = 0x301 then readWork t ((s.obj K_RFE (rfeIdx sn k)).getD (rfeDefault s sn k))
  else if !zeroAt t.payload 2 2 then .refuse ST_BAD_PARAM
  else loadWork t f K_RFE (rfeIdx sn k) (rfeCheck k) (rfeLen k) s

/-! ### Statistics records -/

/-- Base of the statistics ring of a sensor: firmware's choice, which the spec does not state. -/
def statRing (sn : Nat) : Nat := Config.freeAt 42 [sn]

def hostStat (s : State) (sn : Nat) : Nat := s.cp (Prm.RFE_STAT_HOST_LO sn) + 2 ^ 32 * s.cp (Prm.RFE_STAT_HOST_HI sn)

/-- R237: RFE_STAT_INFO. -/
def hRfeStatInfo (c : Svc) (s : State) : Reply :=
  let sn := c.n 0 1
  checks [c.badLen 4, c.notF0, (7 < sn, ST_BAD_PARAM), c.rsv 1 3]
    (.ok (leBytes 8 (statRing sn) ++ leBytes 4 262144 ++ leBytes 4 4 ++ leBytes 8 (s.pn64 (Prm.RFE_STAT_HOST_LO sn)) ++
      leBytes 4 (s.pn (Prm.RFE_STAT_LAST sn)) ++ leBytes 4 (s.sns sn).lastStat) (fun _ => []))

def execRfeStatInfo (s : State) : Host.Outcome State Fault Refusal := (turn 0x302 hRfeStatInfo).outcome s

/-- The luma bins: one count for each cell with counted sites of R, G and B (R227). -/
def lumaHist (s : State) (sn : Nat) (a : StatAcc) : FMap Nat :=
  let cells := (a.cells.keys.map (· / 8)).eraseDups
  cells.foldl (fun m k =>
    let g := fun j => a.cells.getD (8 * k + j) 0
    if g 3 = 0 ∨ g 4 = 0 ∨ g 5 = 0 then m else
    let w := [s.cp (Prm.RFE_STAT_LUMA_WR sn), s.cp (Prm.RFE_STAT_LUMA_WG sn), s.cp (Prm.RFE_STAT_LUMA_WB sn)]
    let num := w.getD 0 0 * g 0 * g 4 * g 5 + w.getD 1 0 * g 1 * g 3 * g 5 + w.getD 2 0 * g 2 * g 3 * g 4
    bump m (divRound num (65536 * g 3 * g 4 * g 5) / 64) 1) .empty

/-- One channel of a zone entry (R229). -/
def zoneBytes (a : StatAcc) (z ch : Nat) : Bytes :=
  let k := 16 * (5 * z + ch)
  let n := a.zones.getD (k + 1) 0
  leBytes 2 (if n = 0 then 0 else (a.zones.getD k 0 + n / 2) / n) ++ [0, 0] ++ leBytes 4 n ++ leBytes 4 (a.zones.getD (k + 2) 0)

/-- Bytes 4 to 59 and 64 onward of a statistics record (the record layout of chapter 06). -/
def recordBody (s : State) (sn : Nat) (frame : Nat) (incomplete : Bool) (ts : Nat) (a : StatAcc) : Bytes × Bytes :=
  let (r0, c0, h, w) := statRect s sn
  let past := decide (s.cp (Prm.RFE_DYN_LIMIT sn) < a.dynCount)
  let y := lumaHist s sn a
  let hist := fun k n => (List.range n).flatMap fun i => leBytes 4 (a.hist.getD (2048 * k + i) 0)
  (leBytes 4 frame ++ timeBytes ts ++ leBytes 1 (zonesX s sn) ++ leBytes 1 (zonesY s sn) ++ leBytes 1 sn ++
    leBytes 1 ((if incomplete then 1 else 0) + if past then 2 else 0) ++ leBytes 4 a.filled ++ leBytes 4 a.dynCount ++
    leBytes 4 a.dynList.length ++ leBytes 4 a.uncorrected ++ leBytes 4 (r0 * 65536 + c0) ++ leBytes 4 (h * 65536 + w % 32768) ++
    List.replicate 12 0,
   hist 0 1024 ++ hist 1 1024 ++ hist 2 1024 ++ ((List.range 1024).flatMap fun i => leBytes 4 (y.getD i 0)) ++ hist 3 256 ++
    hist 4 256 ++ field (a.dynList.flatMap (leBytes 4)) 0 1024 ++
    ((List.range (zonesX s sn * zonesY s sn)).flatMap fun z => (List.range 5).flatMap fun ch => zoneBytes a z ch))

/-- A record written to a slot in the order of R230; the reserved rest of the slot is 0. -/
def putRecord (write : Nat → Bytes → Eff) (base seq : Nat) (b : Bytes × Bytes) : List Eff :=
  [write base (leBytes 4 seq), write (base + 4) b.1, write (base + 64) (field b.2 0 (262144 - 64)), write (base + 60) (leBytes 4 seq)]

/-- R230 to R233: the record due next is complete in device memory and, where asked, at the host. -/
def actStatRecordDone (sn : Fin 8) : Act := fun s =>
  let x := s.sns sn
  match x.due with
  | [] => []
  | (frame, incomplete, ts) :: rest =>
    let a := x.stats.getD frame StatAcc.init
    let n := (x.records + 1) % 2 ^ 32
    let b := recordBody s sn frame incomplete ts a
    let h := hostStat s sn
    putRecord .dev (statRing sn + 262144 * (n % 4)) n b ++ (if h = 0 then [] else putRecord .host (h + 262144 * (n % 4)) n b) ++
    [.prm (Prm.RFE_STAT_LAST sn) (w32 n), .prm (Prm.RFE_DYN_LAST sn) (w32 a.dynCount), .prm (Prm.RFE_UNCORR_LAST sn) (w32 a.uncorrected),
     effSns sn fun x => { x with due := rest, records := n, lastStat := frame, stats := x.stats.del frame }, .raise (128 + sn)]

def execStatRecordDone (sn : Fin 8) (s : State) : Host.Outcome State Fault Refusal := (actStatRecordDone sn).outcome s

end Sys2Proof.Machine
end

