-- ==== Sys2Proof/Machine/Outputs.lean ====
section
/-! DEFINITION. Colour tables, output rings and triads (chapter 07; rows CC_TABLE_LOAD to OUTPUT_FRAME_DONE). -/
namespace Sys2Proof.Machine

/-! ### Colour tables (R283) -/

/-- The default table of a colour kind (R251, R259, R262, R265). -/
def ccDefault (s : State) (k idx : Nat) : Bytes :=
  match k with
  | 0 => (List.range 24).flatMap fun n => leBytes 2 (if n = 8 ∨ n = 14 ∨ n = 20 then 4096 else 0)
  | 1 => (List.range (65 * 65 * 65)).flatMap fun n =>
      leBytes 2 (toHalf (n % 65 : Nat) 64) ++ leBytes 2 (toHalf (n / 65 % 65 : Nat) 64) ++ leBytes 2 (toHalf (n / 4225 : Nat) 64)
  | 2 => (List.range 3).flatMap fun _ => (List.range 1024).flatMap fun i => leBytes 2 (64 * i)
  | _ =>
    let g := geoOf s s.pn idx
    let v := fmtVtaps g.fmt
    ((List.range 512).flatMap fun n => leBytes 2 (unsgn 16 (derivedCoef 8 g.wo (g.wc / decim g.wc g.wo) (n / 8) (n % 8)))) ++
    ((List.range 384).flatMap fun n =>
      let t := n % 6
      leBytes 2 (if t + v / 2 < 3 ∨ 3 + v / 2 ≤ t then 0 else unsgn 16 (derivedCoef v g.ho g.hc (n / 6) (t + v / 2 - 3))))

def ccLen (k len : Nat) : Bool := len == [48, 1647750, 6144, 1792].getD k 0

/-- The sums of a coefficient table's phases are 16,384 (R259, R283). -/
def coefSums (bs : Bytes) : Bool :=
  let c := fun i => sgn 16 (byteAt bs (2 * i) + 256 * byteAt bs (2 * i + 1))
  (List.range 64).all fun p => sumI ((List.range 8).map fun t => c (8 * p + t)) == 16384 &&
    sumI ((List.range 6).map fun t => c (512 + 6 * p + t)) == 16384

/-- Every binary16 of an image is finite (R796). -/
def allFinite : Bytes → Bool
  | _ :: b :: t => b.toNat / 4 % 32 != 31 && allFinite t
  | _ => true

/-- The format of a colour table: bytes accepted, or none. -/
def ccCheck (k : Nat) (bs : Bytes) : Option Nat :=
  match k with
  | 0 => if zeroAt bs 12 4 && zeroAt bs 46 2 then some bs.length else none
  | 1 => if allFinite bs then some bs.length else none
  | 2 => some bs.length
  | _ => if coefSums bs then some bs.length else none

/-- The owner of a triad (TRI_OWNER). -/
def triadOwner (s : State) (t : Nat) : Option Nat :=
  let v := s.pn (Prm.TRI_OWNER t)
  if bitOf v 31 then some (v % 128) else none

/-- The table is of a triad: which. -/
def ccTriad (k idx : Nat) : Option Nat := if 2 ≤ k ∧ 16 ≤ idx then some (idx - 16) else none

/-- The turn of a load or read of a colour table (R283). -/
def ccTurn (c : Svc) (s : State) (len : Nat) (load : Bool) : Reply :=
  let idx := c.n 0 1
  let k := c.n 1 1
  let tri := ccTriad k idx
  checks [c.badLen len,
    (match tri with | none => !c.isF0 | some _ => !c.holds s R_TRIAD, ST_DENIED),
    (3 < k || (k == 0 && 7 < idx) || (k == 1 && 3 < idx) || 17 < idx, ST_BAD_PARAM),
    (!load && !zeroAt c.cmd.payload 2 2, ST_BAD_PARAM),
    (match tri with | none => false | some t => triadOwner s t != some c.f, ST_CONFLICT),
    (load && isStandby s, ST_CONFLICT)] (.pending fun _ => [])

def execCcTableLoad (s : State) : Host.Outcome State Fault Refusal := (turn 0x400 fun c s => ccTurn c s 24 true).outcome s
def execCcTableRead (s : State) : Host.Outcome State Fault Refusal := (turn 0x401 fun c s => ccTurn c s 16 false).outcome s

/-- The work of the two tickets. -/
def workCc (f : Nat) (t : Ticket) (s : State) : Reply :=
  let idx := fieldN t.payload 0 1
  let k := fieldN t.payload 1 1
  if t.opcode = 0x401 then readWork t ((s.obj K_CC (ccIdx k idx)).getD (ccDefault s k idx))
  else if !zeroAt t.payload 2 2 then .refuse ST_BAD_PARAM
  else loadWork t f K_CC (ccIdx k idx) (ccCheck k) (ccLen k) s

/-! ### Rings and triads -/

/-- Height and width as SIZE writes them: a width of 32,768 is 0. -/
def sizeWord (h w : Nat) : Nat := h * 65536 + w % 32768

/-- Height and width of the pictures in a ring. -/
def ringSize (g : OutGeo) (vis : Nat) (r : Nat) : Nat :=
  if 16 ≤ r ∧ (r - 16) % 3 = 2 then sizeWord (g.hc / visDiv vis) (g.wc / visDiv vis) else sizeWord g.ho g.wo

/-- R284: OUT_INFO. -/
def hOutInfo (c : Svc) (s : State) : Reply :=
  let r := c.n 0 1
  let o := ringOut r
  let k := ringOf s s.pn r
  let g := geoOf s s.pn o
  let owner := triadOwner s (o - 16)
  checks [c.badLen 4, (r < 16 && !c.isF0, ST_NOT_OWNER), (16 ≤ r && r < 22 && !c.isF0 && owner != some c.f, ST_DENIED),
    (21 < r, ST_BAD_PARAM), c.rsv 1 3,
    (if r < 16 then !srcEn (s.pn (Prm.OUT_SRC r)) else owner.isNone, ST_NO_CONTEXT)]
    (.ok (leBytes 8 k.base ++ leBytes 4 k.size ++ leBytes 4 k.slots ++ (List.range 4).flatMap (fun i => leBytes 4 (k.planes.getD i 0)) ++
      leBytes 4 k.pitch ++ leBytes 4 (ringSize g (s.pn (Prm.TRI_VISION (o - 16))) r) ++ leBytes 4 (s.cout o).seq ++
      leBytes 4 (s.pn (outLateId o))) (fun _ => []))

def execOutInfo (s : State) : Host.Outcome State Fault Refusal := (turn 0x402 hOutInfo).outcome s

/-- Staged items of a triad's parameters. -/
def isTriadItem (t : Nat) : Staged → Bool
  | .prm id _ => Prm.TRI_SRC t ≤ id && id < Prm.TRI_SRC t + 16
  | .obj _ _ _ => false

/-- R279: a triad is released. It stops at the next start of a frame of its sensor, where the set in force is taken. -/
def releaseTriad (t : Nat) : Act := fun s =>
  match triadOwner s t with
  | none => []
  | some f => [.prm (Prm.TRI_OWNER t) 0, .prm (Prm.TRI_SRC t) (w32 (s.pn (Prm.TRI_SRC t) % 2 ^ 31)),
      .arm fun a => { a with staged := a.staged.alter f fun l => l.filter fun x => !isTriadItem t x }]

/-- R279, R284: TRIAD_RELEASE. -/
def hTriadRelease (c : Svc) (s : State) : Reply :=
  let t := c.n 0 1
  checks [c.badLen 4, c.notF0, (1 < t, ST_BAD_PARAM), c.rsv 1 3, ((triadOwner s t).isNone, ST_NO_CONTEXT)]
    (.ok [] (releaseTriad t))

def execTriadRelease (s : State) : Host.Outcome State Fault Refusal := (turn 0x403 hTriadRelease).outcome s

/-- Bytes 4 to 251 of a slot header (R271). -/
def slotHeader (s : State) (o r : Nat) (k : Ring) (g : OutGeo) (x : CamOut) (frame : Nat) : Bytes :=
  let info := (s.sns g.sensor).info.find? fun i => i.frame == frame
  let hdr := fun v => (v + 32768) / 65536
  let coding := r < 16 ∨ (r - 16) % 3 = 1
  leBytes 4 frame ++ timeBytes (match info with | some i => if i.tsValid then i.ts else 0 | none => 0) ++
  leBytes 1 (fmtEnc g.fmt) ++ leBytes 1 g.sensor ++ leBytes 1 (match info with | some i => if i.incomplete then 1 else 0 | none => 0) ++
  leBytes 1 (ringFmt s.cp r) ++ leBytes 4 (ringSize g (s.cp (Prm.TRI_VISION (o - 16))) r) ++ leBytes 4 k.pitch ++
  ((List.range 5).flatMap fun i => leBytes 2 (s.cp (Prm.CC_WB_R g.sensor + i))) ++ [0, 0] ++
  ((List.range 15).flatMap fun n => leBytes 2 (unsgn 16 (ccCoef s g.sensor (8 + n)))) ++ [0, 0] ++
  leBytes 2 (if coding then min 65535 (hdr x.maxLl) else 0) ++
  leBytes 2 (if coding ∧ x.pixels ≠ 0 then min 65535 (hdr (x.sumLl / x.pixels)) else 0) ++ List.replicate 172 0

/-- The rings an output writes: its own, or the enabled variants of a triad. -/
def ringsOf (s : State) (o : Nat) : List Nat :=
  if o < 16 then (if srcDest (s.cp (Prm.OUT_SRC o)) = 0 then [o] else [])
  else let b := 16 + 3 * (o - 16)
       [b, b + 1] ++ (if bitOf (s.cp (Prm.TRI_VISION (o - 16))) 31 then [b + 2] else [])

/-- R272, R275: the frame of an output is complete; DONE is written last, then the event is raised. -/
def actOutputFrameDone (o : Fin 18) : Act := fun s =>
  let x := s.cout o
  match x.cur with
  | none => []
  | some f =>
    let n := (x.seq + 1) % 2 ^ 32
    let g := geo s o
    ((ringsOf s o).flatMap fun r =>
      let k := ring s r
      let a := slotAddr k n
      [ringWrite a (leBytes 4 n), ringWrite (a + 4) (slotHeader s o r k g x f), ringWrite (a + 252) (leBytes 4 n)]) ++
    [effOut o fun x => { x with cur := none, seq := n, done := x.done + 1 }] ++
    (if o.val < 16 then [.raise 140] else [.prm (Prm.TRI_LAST_SEQ (o.val - 16)) (w32 n), .raise (138 + (o.val - 16))])

def execOutputFrameDone (o : Fin 18) (s : State) : Host.Outcome State Fault Refusal := (actOutputFrameDone o).outcome s

end Sys2Proof.Machine
end

