-- ==== Sys2Proof/Machine/StrBase.lean ====
section
/-! DEFINITION. Stream contexts, rules and layers as the other chapters read them (chapters 09, 10 and 19). -/
namespace Sys2Proof.Machine

/-! ### Descriptor fields (R335) -/

def dDir (d : Bytes) : Nat := byteAt d 0
def dEss (d : Bytes) : Nat := byteAt d 1
def dPortA (d : Bytes) : Nat := byteAt d 2 % 4
def dPortB (d : Bytes) : Nat := byteAt d 2 / 4 % 4
def dDual (d : Bytes) : Bool := bitOf (byteAt d 2) 7
def dSealed (d : Bytes) : Bool := bitOf (byteAt d 3) 0
def dDropInc (d : Bytes) : Bool := bitOf (byteAt d 3) 1
def dSsrcFixed (d : Bytes) : Bool := bitOf (byteAt d 3) 2
def dIpv6 (d : Bytes) : Bool := bitOf (byteAt d 3) 3
def dPt (d : Bytes) : Nat := byteAt d 4
def dSlots (d : Bytes) : Nat := byteAt d 5
def dSsrc (d : Bytes) : Nat := fieldN d 8 4
def dKbps (d : Bytes) : Nat := fieldN d 12 4
def dBurst (d : Bytes) : Nat := if fieldN d 16 4 = 0 then 65536 else fieldN d 16 4
def dKey (d : Bytes) : Nat := fieldN d 20 4
def dAddr (d : Bytes) : Nat := fieldN d 24 8
def dSlotSize (d : Bytes) : Nat := fieldN d 32 4
def dFormat (d : Bytes) : Nat := fieldN d 36 4
def dSize (d : Bytes) : Nat := fieldN d 40 4
def dWidth (d : Bytes) : Nat := sizeW (dSize d)
def dHeight (d : Bytes) : Nat := dSize d / 65536
def dRateN (d : Bytes) : Nat := fieldN d 46 2
def dRateD (d : Bytes) : Nat := fieldN d 44 2

/-- Sampling, depth, colorimetry, transfer of a video FORMAT. -/
def vSampling (f : Nat) : Nat := f % 16
def vDepth (f : Nat) : Nat := [8, 10, 12, 16].getD (f / 16 % 16) 16
def vColor (f : Nat) : Nat := f / 256 % 16
def vTransfer (f : Nat) : Nat := f / 4096 % 4
def vNarrow (f : Nat) : Bool := bitOf f 14
def vBpm (f : Nat) : Bool := bitOf f 15

/-- The memory format of an ingress ring (R337). -/
def vMem (f : Nat) : Nat := match vSampling f with | 0 => 0x10 | 3 => 0x11 | _ => 1

/-- ENC of an ingress ring's slot headers (R337): BT.709 SDR, BT.2020 SDR, PQ, HLG. -/
def vEnc (f : Nat) : Nat := match vTransfer f with | 1 => 2 | 2 => 3 | _ => if vColor f = 0 then 0 else 1

/-- The ring of an ingress video context (R337). -/
def ctxRing (d : Bytes) : Ring :=
  let m := vMem (dFormat d)
  let k := ringLayout (dAddr d) (dSlots d) (memPx m * dWidth d) (planeLines m (dHeight d)) 0 256
  { k with size := if dSlotSize d = 0 then k.size else dSlotSize d }

/-! ### Contexts -/

def StrCnt.init : StrCnt := ⟨0, 0, 0, 0, 0, 0, 0, 0, 0, 0, 0⟩

def State.ctx (s : State) (i : Nat) : Option StrCtx := s.str.ctxs.find i

def effStr (g : Str → Str) : Eff := .str g
def effCtx (i : Nat) (g : StrCtx → StrCtx) : Eff := .str fun t => { t with ctxs := t.ctxs.alter i g }
def effCnt (i : Nat) (g : StrCnt → StrCnt) : Eff := effCtx i fun c => { c with cnt := g c.cnt }

/-- A context disabled as by an abort of target 3 (R124, R330, R339). -/
def barCtx (i : Nat) : Act := fun s =>
  match s.ctx i with
  | none => []
  | some _ => [effCtx i fun c => { c with enabled := false, barred := true, tx := none }, .raise 92]

/-- Contexts of a principal. -/
def ctxsOf (s : State) (f : Nat) : List Nat := (s.str.ctxs.entries.filter fun e => e.2.owner == f).map (·.1)

/-- The generation of a key slot (R651). -/
def keyGen (s : State) (slot : Nat) : Nat := s.sec.gens.getD slot 1

/-- The handle of the key in a slot. -/
def keyHandle (s : State) (owner slot : Nat) : Nat := owner * 2 ^ 26 + slot * 2 ^ 13 + keyGen s slot * 2 + 1

/-- The key a handle names; none where the generation or the owner does not match (R651). -/
def keyOf (s : State) (h : Nat) : Option SecKey :=
  match s.sec.keys.find (h / 2 ^ 13 % 8192) with
  | none => none
  | some k => if h = keyHandle s k.owner (h / 2 ^ 13 % 8192) then some k else none

/-- A function holds the key that a handle names (R336, R651). -/
def keyHeld (s : State) (f h : Nat) : Bool := match keyOf s h with | some k => k.owner == f | none => false

/-- Keys that a function holds. -/
def keysOf (s : State) (f : Nat) : Nat := s.sec.keys.entries.countP fun e => e.2.owner == f

/-- The parameters that follow the key store: keys used and free, and those that a function holds. -/
def syncKeys (f : Nat) : Act := fun s =>
  let n := s.sec.keys.size
  [.prm Prm.SEC_KEYS_USED (w32 n), .prm Prm.SEC_KEYS_FREE (w32 (8192 - n)),
   .prm (Prm.SEC_KEY_QUOTA f) (w32 (putBits (s.pn (Prm.SEC_KEY_QUOTA f)) 29 16 (keysOf s f)))]

/-- A key slot freed: its generation rises by 1 and wraps at 4,096 (R651). -/
def freeKey (h : Nat) : Act := fun s =>
  match keyOf s h with
  | none => []
  | some k =>
    let slot := h / 2 ^ 13 % 8192
    acts [eff [.sec (fun x => { x with keys := x.keys.del slot, gens := x.gens.put slot ((keyGen s slot + 1) % 4096) }),
      .count Prm.SEC_KEY_DESTROYS 1], syncKeys k.owner] s

/-! ### Who names what -/

/-- Objects of a kind in force, staged or pending: index and bytes. -/
def liveObjs (s : State) (kind : Nat) : List (Nat × Bytes) :=
  ((s.objIdx kind).filterMap fun i => (s.obj kind i).map fun b => (i, b)) ++
  s.allStaged.filterMap fun x => match x.2 with
    | .obj k i (some b) => if k = kind then some (i, b) else none
    | _ => none

/-- A rule in force or staged names the context. -/
def ruleNames (s : State) (i : Nat) : Bool := (liveObjs s K_RULE).any fun r => fieldN r.2 1 2 == i

/-- A layer in force whose source is of a kind and index (the layer descriptor of chapter 10, after its owner byte). -/
def layerNames (s : State) (kind i : Nat) : Bool :=
  (s.objIdx K_LAYER).any fun l => match s.obj K_LAYER l with
    | some b => fieldN b 1 1 == kind && fieldN b 5 2 == i
    | none => false

/-- A committed output whose destination is of a kind and index. -/
def outputNames (s : State) (dest i : Nat) : Bool :=
  (List.range 16).any fun o =>
    let v := s.pn (Prm.OUT_SRC o)
    srcEn v && srcDest v == dest && srcIndex v == i

/-- A context of Cast over RTP names the job (R318). -/
def ctxNamesJob (s : State) (h : Nat) : Bool :=
  s.str.ctxs.entries.any fun e => dEss e.2.desc == 3 && dAddr e.2.desc % 4096 == h

/-- Ingress Cast contexts are named by the RTP decode job they feed. -/
def jobHeld (s : State) (f h : Nat) : Bool := match s.job h with | some j => j.owner == f | none => false

end Sys2Proof.Machine
end

