-- ==== Sys2Proof/Machine/Cast.lean ====
section
/-! DEFINITION. Cast jobs (chapter 08; rows CAST_OPEN to CAST_RTP_PACKET). -/
namespace Sys2Proof.Machine

/-! ### Engines (R307) -/

def engineEn (s : State) (e : Nat) : Bool := bitOf (s.pn (Prm.CAST_CTRL e)) 0
def engineRec (s : State) (e : Nat) : Bool := bitOf (s.pn (Prm.CAST_CTRL e)) 1

/-- Engines held by record and RTP decode jobs. -/
def heldEngines (s : State) : List Nat := s.cast.jobs.entries.flatMap fun e => if 2 ≤ e.2.kind then e.2.engines else []

/-- Engines on which a run is running. -/
def runEngines (s : State) : List Nat := s.cast.jobs.entries.flatMap fun e => if e.2.kind ≤ 1 then e.2.engines else []

/-- Enabled engines that no record or RTP job holds. -/
def openEngines (s : State) : List Nat := (List.range 8).filter fun e => engineEn s e && !(heldEngines s).contains e

/-- Engines that runs may share. -/
def sharedEngines (s : State) : List Nat := (openEngines s).filter fun e => !engineRec s e

def maskOf (l : List Nat) : Nat := l.foldl (fun a e => a + 2 ^ e) 0

/-- CAST_JOB of the engines of a job. -/
def showJob (l : List Nat) (h : Nat) : List Eff := l.map fun e => .prm (Prm.CAST_JOB e) (w32 (2 ^ 31 + h))
def hideJob (l : List Nat) : List Eff := l.map fun e => .prm (Prm.CAST_JOB e) 0

/-! ### CAST_OPEN (R306, R307, R316) -/

/-- The lowest free handle. -/
def freeHandle (s : State) : Option Nat := (List.range 4096).find? fun h => !s.cast.jobs.has h

/-- The job that an open's payload describes, before its engines and defaults are known. -/
def openJob (c : Svc) (s : State) : CastJob :=
  let n := fun o k => c.n o k
  let raw := if n 0 1 = 2 ∧ n 16 1 ≤ 7 then some (n 16 1) else none
  let isRaw := n 4 1 == 0x20
  let sn := n 16 1
  let d := (s.obj K_RFE (rfeIdx sn 0)).getD mosaicDefault
  { kind := n 0 1, owner := c.f, want := n 1 1, engines := [], level := n 2 1, delta := n 3 1, fmt := n 4 1, depth := n 5 1,
    pw := if raw.isSome then mosPw d else if isRaw then n 6 1 else 1,
    ph := if raw.isSome then mosPh d else if isRaw then n 7 1 else 1,
    width := if raw.isSome then snsWidth s sn else if n 8 2 = 0 then 32768 else n 8 2,
    height := if raw.isSome then snsHeight s sn else n 10 2,
    sliceLines := n 12 2, reset := n 14 2, raw := raw, slots := n 17 1, ring := n 20 8, slotSize := n 28 4, done := 0, failed := 0,
    dropped := 0, writeSeq := 0, frameSeq := 0, run := none, frames := [], rx := none, closing := none }

/-- The fields of an open are in range (the payload table of chapter 08). -/
def openFields (c : Svc) (j : CastJob) : Bool :=
  let coder := j.kind = 0 ∨ j.kind = 2
  decide (j.kind ≤ 3) && decide (1 ≤ j.want ∧ j.want ≤ 8) &&
  (if coder then
    (decide (j.level ≤ 7) || j.level == 255) && (decide (j.delta ≤ 7) || j.delta == 255) && (castPlanes j.fmt 2 2).isSome &&
    decide (8 ≤ j.depth ∧ j.depth ≤ 16) && decide (1 ≤ c.n 6 1 ∧ c.n 6 1 ≤ 8) && decide (1 ≤ c.n 7 1 ∧ c.n 7 1 ≤ 8) &&
    decide (1 ≤ j.height ∧ j.height ≤ 16384 ∧ j.width ≤ 32768) && decide (1 ≤ j.sliceLines ∧ j.sliceLines ≤ 16384) &&
    decide (j.sliceLines % j.ph = 0) && decide (16 ≤ j.reset ∧ j.reset ≤ 256) &&
    (j.fmt != 2 || (j.depth == 16 && (j.delta == 0 || j.delta == 255))) && (j.raw.isNone || j.fmt == 0x20)
   else zeroAt c.cmd.payload 2 14) &&
  (if j.kind = 2 then decide (c.n 16 1 ≤ 7) || c.n 16 1 == 255 else c.n 16 1 == 255) &&
  (if 2 ≤ j.kind then decide (2 ≤ j.slots ∧ j.slots ≤ 64) && decide (j.ring % 4096 = 0 ∧ j.slotSize % 4096 = 0 ∧ j.slotSize ≠ 0)
   else j.slots == 0) &&
  zeroAt c.cmd.payload 18 2

/-- R308: the declared rate of a raw source exceeds the job's engines. -/
def rawTooFast (s : State) (j : CastJob) (engines : Nat) : Bool :=
  match j.raw with
  | none => false
  | some sn => decide (6400 * engines * s.pn (Prm.SAL_SNS_MIN_PERIOD_US sn) < j.width * j.height)

/-- R306, R307, R308, R316. -/
def hCastOpen (c : Svc) (s : State) : Reply :=
  let j := openJob c s
  let free := openEngines s
  let take := if 2 ≤ j.kind then free.take j.want else []
  let lead := if 2 ≤ j.kind then take.headD 0 else (sharedEngines s).headD 0
  let h := (freeHandle s).getD 0
  let j' := { j with engines := take, level := if j.level = 255 then s.pn (Prm.CAST_DEF_LEVEL lead) else j.level,
                     delta := if j.fmt = 2 then 0 else if j.delta = 255 then s.pn (Prm.CAST_DEF_DELTA lead) else j.delta }
  checks [c.badLen 32, (2 ≤ j.kind && j.kind ≤ 3 && !c.isF0, ST_NOT_OWNER), (!openFields c j, ST_BAD_PARAM),
    (2 ≤ j.kind && j.ring < 2 ^ 63 && !memOwned s c.f j.ring (j.slots * j.slotSize), ST_DENIED),
    ((freeHandle s).isNone, ST_TABLE_FULL),
    (if 2 ≤ j.kind then take.length < j.want || rawTooFast s j take.length else (sharedEngines s).isEmpty, ST_TABLE_FULL)]
    (.ok (leBytes 2 h ++ leBytes 1 (maskOf take) ++ [0])
      (eff (.cast (fun x => { x with jobs := x.jobs.put h j' }) :: showJob take h)))

def execCastOpen (s : State) : Host.Outcome State Fault Refusal := (turn 0x500 hCastOpen).outcome s

/-! ### Runs (R317) -/

/-- The surface that a run of kind 0 reads. -/
def runSurface (j : CastJob) (pitch : Nat) : Ring := castSurface j.fmt j.width j.height pitch

/-- The bytes a run of kind 0 may read. -/
def runInput (j : CastJob) (pitch len : Nat) : Nat :=
  if j.kind = 0 then surfaceEnd j.fmt j.width j.height (runSurface j pitch) else len

/-- The range is the caller's to use: host memory, or device memory that it owns (R274). -/
def rangeOk (s : State) (f addr len : Nat) : Bool := 2 ^ 63 ≤ addr || memOwned s f addr len

/-- R316, R317. -/
def hCastRun (c : Svc) (s : State) : Reply :=
  let h := c.n 0 2
  let (pitch, inA, inL, outA, lim) := (c.n 4 4, c.n 8 8, c.n 16 8, c.n 24 8, c.n 32 8)
  match (if jobHeld s c.f h then s.job h else none) with
  | none => checks [c.badLen 40, (4095 < h, ST_BAD_PARAM), c.rsv 2 2] (.refuse ST_NO_CONTEXT)
  | some j =>
    let lo := castPx j.fmt * j.width
    checks [c.badLen 40, c.rsv 2 2, (2 ≤ j.kind, ST_BAD_PARAM),
      (if j.kind = 0 then inL != 0 || (pitch != 0 && (pitch % 256 != 0 || pitch < lo)) else pitch != 0, ST_BAD_PARAM),
      (j.closing.isSome, ST_NO_CONTEXT), (!rangeOk s c.f inA (runInput j pitch inL) || !rangeOk s c.f outA lim, ST_DENIED),
      (j.run.isSome, ST_BUSY)]
      (.pending (eff [.cast fun x => { x with
        jobs := x.jobs.put h { j with run := some ⟨ticketId c.f (s.mbx c.f).nextTicket, inA, inL, outA, lim, pitch, x.doorbells, false⟩ },
        doorbells := x.doorbells + 1 }]))

def execCastRun (s : State) : Host.Outcome State Fault Refusal := (turn 0x501 hCastRun).outcome s

/-- Waiting runs, the earliest doorbell first. -/
def waitingRuns (s : State) : List (Nat × Nat) :=
  (s.cast.jobs.entries.filterMap fun e => match e.2.run with
    | some r => if r.started then none else some (r.order, e.1)
    | none => none)

/-- The waiting run of the earliest doorbell. -/
def firstRun (s : State) : Option Nat :=
  ((waitingRuns s).foldl (fun b x => match b with
    | none => some x
    | some y => if x.1 < y.1 then some x else some y) (none : Option (Nat × Nat))).map (·.2)

/-- R307: the first waiting run takes up to its count of the lowest-numbered free shared engines. -/
def actCastRunStart : Act := fun s =>
  match firstRun s with
  | none => []
  | some h =>
    match s.job h with
    | none => []
    | some j =>
      let take := ((sharedEngines s).filter fun e => !(runEngines s).contains e).take j.want
      if take.isEmpty then [] else
      effJob h (fun j => { j with engines := take, run := j.run.map fun r => { r with started := true } }) :: showJob take h

def execCastRunStart (s : State) : Host.Outcome State Fault Refusal := actCastRunStart.outcome s

/-! ### Counting (R321) -/

/-- The end counter of a status. -/
def endCounter (e st : Nat) : Nat :=
  if st = ST_OK then Prm.CAST_END_OK e else if st = ST_OUTPUT_FULL then Prm.CAST_END_OUTPUT_FULL e
  else if st = ST_EXPANSION_LIMIT then Prm.CAST_END_EXPANSION e else if st = ST_INPUT_CORRUPT then Prm.CAST_END_CORRUPT e
  else if st = ST_ABORTED then Prm.CAST_END_ABORTED e else if st = ST_TIMEOUT then Prm.CAST_END_TIMEOUT e else Prm.CAST_END_OTHER e

/-- The events of a failed run or frame (R309 to R311). -/
def failEvents (st : Nat) : List Eff :=
  if st = ST_OUTPUT_FULL then [.raise 152] else if st = ST_EXPANSION_LIMIT then [.raise 153]
  else if st = ST_INPUT_CORRUPT then [.raise 154] else []

/-- A run or frame of a job ends on its lowest engine. -/
def countEnd (h : Nat) (engines : List Nat) (st bytes : Nat) : List Eff :=
  match engines.head? with
  | none => []
  | some e => [.count (endCounter e st) 1, .prm (Prm.CAST_LAST_HANDLE e) (w32 h), .prm (Prm.CAST_LAST_STATUS e) (w32 st),
      .prm (Prm.CAST_LAST_BYTES e) (w32 bytes)]

/-- Slice j went to the engine at position j mod n of the job's list (R287): samples, bytes and code words are counted there.
The measured rate and time of a slice are free values (notes/assumptions/35). -/
def countSlices (engines : List Nat) (enc : Bool) (logs : List SliceLog) : Act := fun s =>
  logs.zipIdx.flatMap fun l =>
    match engines[l.2 % engines.length]? with
    | none => []
    | some e =>
      let raw := 2 * l.1.samples
      [.count64 (Prm.CAST_SAMPLES_LO e) l.1.samples, .count64 (Prm.CAST_BYTES_IN_LO e) (if enc then raw else l.1.bytes),
       .count64 (Prm.CAST_BYTES_OUT_LO e) (if enc then l.1.bytes else raw), .count (Prm.CAST_MATCHES e) l.1.matches_,
       .count (Prm.CAST_ESCAPES e) l.1.escapes,
       .prm (Prm.CAST_RATE_LAST e) (Config.freeWord (s.freeCtr + 2 * l.2)),
       .prm (Prm.CAST_SLICE_US_MAX e) (w32 (max (s.pn (Prm.CAST_SLICE_US_MAX e)) (Config.freeWord (s.freeCtr + 2 * l.2 + 1)).toNat)),
       .draw, .draw]

/-! ### Encoding and decoding -/

/-- The header of the next frame of a job. -/
def jobHeader (j : CastJob) (frame ts : Nat) : CastHdr :=
  ⟨j.fmt == 0x20, j.fmt == 2, j.delta, j.level, j.depth, j.pw, j.ph, j.sliceLines, j.reset,
    (castPlanes j.fmt j.width j.height).getD [], j.frameSeq, frame, ts, j.fmt⟩

/-- What decoding a stream of whole frames gives. -/
structure DecRun where
  status : Nat
  writes : List Eff
  /-- End of the last frame's last plane, from the output address. -/
  valid : Nat
  frames : Nat
  logs : List SliceLog

/-- The logs of a decoded frame. -/
def decLogs (h : CastHdr) (bs : Bytes) : List (Nat × Nat × Nat) → List SliceLog
  | [] => []
  | z :: t => let n := fieldN bs 8 4
              ⟨(h.sizes.getD z.1 (0, 0)).1 * z.2.2, 16 + n, 0, 0⟩ :: decLogs h (bs.drop (16 + n)) t

/-- Frames of a stream decoded to an output (R303, R310, R317): fuel frames at most, pos the next frame's offset. -/
def decodeRun (base limit : Nat) : Nat → Bytes → Nat → DecRun
  | 0, _, pos => ⟨ST_OK, [], pos, 0, []⟩
  | n + 1, bs, pos =>
    if bs.isEmpty then ⟨ST_OK, [], pos, 0, []⟩ else
    match readHeader bs with
    | none => ⟨ST_INPUT_CORRUPT, [], 0, 0, []⟩
    | some (h, size) =>
      let w := (h.sizes.getD 0 (0, 0)).1
      let ht := (h.sizes.getD 0 (0, 0)).2
      let k := castSurface h.fmt w ht 0
      let fin := pos + surfaceEnd h.fmt w ht k
      if limit < fin then ⟨ST_EXPANSION_LIMIT, [], 0, 0, []⟩ else
      match decSlices h (castSlices h) ((bs.take size).drop 64) .empty with
      | none => ⟨ST_INPUT_CORRUPT, [], 0, 0, []⟩
      | some (m, rest) =>
        if !rest.isEmpty ∨ bs.length < size then ⟨ST_INPUT_CORRUPT, [], 0, 0, []⟩ else
        let r := decodeRun base limit n (bs.drop size) (roundTo fin 4096)
        ⟨r.status, castWrite (base + pos) h k m ++ r.writes, if r.status ≠ ST_OK then 0 else if r.frames = 0 then fin else r.valid,
          r.frames + 1, decLogs h ((bs.take size).drop 64) (castSlices h) ++ r.logs⟩

/-- The ticket of a run ends and its engines are free. -/
def endRun (h : Nat) (j : CastJob) (r : CastRun) (st valid frames : Nat) : Act := acts [
  eff (countEnd h j.engines st valid ++ failEvents st ++ ((j.engines.head?.map fun e => Eff.raise (144 + e)).toList) ++ hideJob j.engines ++
    [effJob h fun j => { j with run := none, engines := [], done := if st = ST_OK then j.done + 1 else j.done,
                                failed := if st = ST_OK then j.failed else j.failed + 1 }]),
  completeTicket j.owner r.ticket st (leBytes 8 valid ++ leBytes 4 frames ++ leBytes 4 0)]

/-- A line that a run reads is poisoned (R607): of the surface it codes, or of the stream it decodes. -/
def runPoisoned (s : State) (j : CastJob) (r : CastRun) : Bool :=
  if j.kind = 0 then
    let k := runSurface j r.pitch
    (k.planes.zip (castLines j.fmt j.height)).any fun q => (List.range q.2).any fun y =>
      (firstPoison s (r.inAddr + q.1 + k.pitch * y) (castPx j.fmt * j.width)).isSome
  else (firstPoison s r.inAddr r.inLen).isSome

/-- A started run is coded: kind 0 encodes one surface, kind 1 decodes a stream (R309 to R311, R317). -/
def actCastRunDone (h : Fin 4096) : Act := fun s =>
  match s.job h with
  | none => []
  | some j =>
    match j.run with
    | none => []
    | some r =>
      if !r.started then [] else
      if runPoisoned s j r then endRun h j r ST_INPUT_CORRUPT 0 0 s
      else if j.kind = 0 then
        let hd := jobHeader j 0 0
        match encFrame hd r.limit fun p y x => castRead s r.inAddr j.fmt j.depth hd.half (runSurface j r.pitch) p y x with
        | none => endRun h j r ST_OUTPUT_FULL 0 0 s
        | some (bs, logs) => acts [eff [ringWrite r.outAddr bs, effJob h fun j => { j with frameSeq := (j.frameSeq + 1) % 2 ^ 32 }],
            countSlices j.engines true logs, endRun h j r ST_OK bs.length 1] s
      else
        let bs := s.ringRead r.inAddr r.inLen
        let d := decodeRun r.outAddr (min r.limit (4096 * r.inLen)) (r.inLen / 64 + 1) bs 0
        acts [eff d.writes, countSlices j.engines false d.logs,
          endRun h j r d.status (if d.status = ST_OK then d.valid else 0) (if d.status = ST_OK then d.frames else 0)] s

def execCastRunDone (h : Fin 4096) (s : State) : Host.Outcome State Fault Refusal := (actCastRunDone h).outcome s

/-! ### Slots (R312, R314) -/

/-- Bytes 4 to 59 of a record or RTP decode slot header. -/
def slotHead (st valid frameSeq : Nat) : Bytes := leBytes 2 st ++ [0, 0] ++ leBytes 4 valid ++ leBytes 4 frameSeq ++ List.replicate 44 0

/-- A slot of a job written in the order of R230; body at the given offset. -/
def putSlot (h : Nat) (j : CastJob) (st valid frameSeq : Nat) (body : Nat → List Eff) : List Eff :=
  let n := (j.writeSeq + 1) % 2 ^ 32
  let a := j.ring + j.slotSize * (n % j.slots)
  [ringWrite a (leBytes 4 n)] ++ body a ++ [ringWrite (a + 4) (slotHead st valid frameSeq), ringWrite (a + 60) (leBytes 4 n)] ++
  countEnd h j.engines st valid ++ failEvents st ++ ((j.engines.head?.map fun e => Eff.raise (144 + e)).toList) ++
  [effJob h fun j => { j with writeSeq := n, done := if st = ST_OK then j.done + 1 else j.done,
                              failed := if st = ST_OK then j.failed else j.failed + 1 }]

/-- Egress contexts of Cast over RTP that take the frames of a job (R319). -/
def castEgress (h : Nat) (frame ts : Nat) (bs : Bytes) : Act := fun s =>
  (s.str.ctxs.entries.filter fun e => dDir e.2.desc == 1 && dEss e.2.desc == 3 && dAddr e.2.desc % 4096 == h && e.2.enabled).map fun e =>
    beginTx e.1 frame ts bs

/-- The bytes of a frame received over RTP, as far as they are contiguous from 0. -/
def rxBytes (m : FMap Byte) (n : Nat) : Bytes := (List.range n).map fun i => m.getD i 0

/-- R311, R320: an RTP decode job decodes the frame it has received into the next slot, as a surface after the slot header
of a ring laid out as in R271. -/
def decodeSlot (h : Nat) (j : CastJob) (bs : Bytes) : List Eff :=
  match readHeader bs with
  | none => putSlot h j ST_INPUT_CORRUPT 0 0 (fun _ => [])
  | some (hd, _) =>
    let a := j.ring + j.slotSize * ((j.writeSeq + 1) % 2 ^ 32 % j.slots)
    let d := decodeRun (a + 256) (min (j.slotSize - 256) (4096 * bs.length)) 1 bs 0
    if d.status = ST_OK then putSlot h j ST_OK d.valid hd.frameSeq (fun _ => d.writes)
    else putSlot h j d.status 0 hd.frameSeq (fun _ => [])

/-- A frame of a record job, or the complete frame of an RTP decode job, is written. -/
def actCastSlotDone (h : Fin 4096) : Act := fun s =>
  match s.job h with
  | none => []
  | some j =>
    if j.kind = 2 then
      match j.frames with
      | [] => []
      | f :: _ =>
        let hd := jobHeader j f.frame f.ts
        let src := fun p y x => let v := f.samples.getD (sampleKey p y x) 0; if hd.half then halfCode v else v
        let drop := effJob h fun j => { j with frames := j.frames.tail, frameSeq := (j.frameSeq + 1) % 2 ^ 32 }
        match encFrame hd (j.slotSize - 64) src with
        | none => putSlot h j ST_OUTPUT_FULL 0 j.frameSeq (fun _ => []) ++ [drop]
        | some (bs, logs) => acts [
            eff (putSlot h j ST_OK bs.length j.frameSeq (fun a => [ringWrite (a + 64) bs]) ++ [drop]),
            countSlices j.engines true logs, castEgress h f.frame f.ts bs] s
    else if j.kind = 3 then
      match j.rx with
      | none => []
      | some x =>
        let n := (x.bytes.getD 52 0).toNat + 256 * (x.bytes.getD 53 0).toNat + 65536 * (x.bytes.getD 54 0).toNat +
          16777216 * (x.bytes.getD 55 0).toNat
        if x.bytes.size < 64 ∨ x.bytes.size < n ∨ !(List.range n).all (fun i => x.bytes.has i) then [] else
        decodeSlot h j (rxBytes x.bytes n) ++ [effJob h fun j => { j with rx := none }]
    else []

def execCastSlotDone (h : Fin 4096) (s : State) : Host.Outcome State Fault Refusal := (actCastSlotDone h).outcome s

/-! ### Closing and information -/

/-- R318. -/
def hCastClose (c : Svc) (s : State) : Reply :=
  let h := c.n 0 2
  match (if jobHeld s c.f h then s.job h else none) with
  | none => checks [c.badLen 4, (4095 < h, ST_BAD_PARAM), c.rsv 2 2] (.refuse ST_NO_CONTEXT)
  | some j => checks [c.badLen 4, c.rsv 2 2, (outputNames s 3 h || ctxNamesJob s h, ST_CONFLICT), (j.closing.isSome, ST_BUSY)]
      (.pending (eff [effJob h fun j => { j with closing := some (ticketId c.f (s.mbx c.f).nextTicket) }]))

def execCastClose (s : State) : Host.Outcome State Fault Refusal := (turn 0x502 hCastClose).outcome s

/-- R318: the frame or run in progress has ended; engines and handle are freed. -/
def actCastCloseDone (h : Fin 4096) : Act := fun s =>
  match s.job h with
  | none => []
  | some j =>
    match j.closing with
    | none => []
    | some t =>
      if j.run.isSome ∨ j.frames ≠ [] then [] else
      acts [eff (hideJob j.engines ++ [.cast fun x => { x with jobs := x.jobs.del h }]), completeTicket j.owner t ST_OK []] s

def execCastCloseDone (h : Fin 4096) (s : State) : Host.Outcome State Fault Refusal := (actCastCloseDone h).outcome s

/-- CAST_INFO. -/
def hCastInfo (c : Svc) (s : State) : Reply :=
  let h := c.n 0 2
  match (if jobHeld s c.f h then s.job h else none) with
  | none => checks [c.badLen 4, (4095 < h, ST_BAD_PARAM), c.rsv 2 2] (.refuse ST_NO_CONTEXT)
  | some j => checks [c.badLen 4, c.rsv 2 2]
      (.ok (leBytes 1 j.kind ++ leBytes 1 (maskOf j.engines) ++
        leBytes 1 (if j.closing.isSome then 2 else if j.run.isSome ∨ j.frames ≠ [] ∨ j.rx.isSome then 1 else 0) ++ [0] ++ leBytes 4 j.done ++
        leBytes 4 j.failed ++ leBytes 4 j.dropped ++ leBytes 4 j.writeSeq ++ leBytes 8 j.ring ++ leBytes 4 j.slotSize ++ leBytes 4 j.slots)
        (fun _ => []))

def execCastInfo (s : State) : Host.Outcome State Fault Refusal := (turn 0x503 hCastInfo).outcome s

/-! ### Cast over RTP (R319, R320) -/

/-- A payload of an RTP decode job. A later timestamp fails the frame in progress with ST_INPUT_CORRUPT; bytes already
received are kept. -/
def castRtp (h ts : Nat) (payload : Bytes) : Act := fun s =>
  match s.job h with
  | none => []
  | some j =>
    if j.kind ≠ 3 then [] else
    let e := j.engines.headD 0
    let off := beNat (field payload 4 4)
    if payload.length < 8 ∨ 4 ≤ fieldN payload 2 1 ∨ fieldN payload 3 1 ≠ 0 then [.count (Prm.CAST_RTP_BAD e) 1] else
    let put := fun (m : FMap Byte) => (payload.drop 8).zipIdx.foldl (fun m b => if m.has (off + b.2) then m else m.put (off + b.2) b.1) m
    let rx := Eff.count (Prm.CAST_RTP_RX e) 1
    match j.rx with
    | none => [rx, effJob h fun j => { j with rx := some ⟨ts, put .empty⟩ }]
    | some x =>
      if ts = x.ts then [rx, effJob h fun j => { j with rx := some ⟨ts, put x.bytes⟩ }]
      else if (ts + 2 ^ 32 - x.ts) % 2 ^ 32 < 2 ^ 31 then
        [rx] ++ putSlot h j ST_INPUT_CORRUPT 0 (leNat ((List.range 4).map fun i => x.bytes.getD (32 + i) 0)) (fun _ => []) ++
          [effJob h fun j => { j with rx := some ⟨ts, put .empty⟩ }]
      else [.count (Prm.CAST_RTP_BAD e) 1]

def execCastRtpPacket (h : Fin 4096) (ts : Nat) (payload : Bytes) (s : State) : Host.Outcome State Fault Refusal :=
  (castRtp h ts payload).outcome s

/-- R315, R124: an abort of a Cast job. The job stays open. -/
def abortJob (h : Nat) : Act := fun s =>
  match s.job h with
  | none => []
  | some j =>
    if j.kind ≤ 1 then
      (match j.run with
       | none => []
       | some r => endRun h j r ST_ABORTED 0 0 s)
    else if j.kind = 2 then
      (if j.frames.isEmpty then [] else
        putSlot h j ST_ABORTED 0 j.frameSeq (fun _ => []) ++ [effJob h fun j => { j with frames := [], frameSeq := (j.frameSeq + 1) % 2 ^ 32 }])
    else match j.rx with
      | none => []
      | some _ => putSlot h j ST_ABORTED 0 0 (fun _ => []) ++ [effJob h fun j => { j with rx := none }]

end Sys2Proof.Machine
end

