-- ==== Sys2Proof/Machine/Nvs.lean ====
section
/-! DEFINITION. The non-volatile store: event records, configuration banks and their writes (chapter 23; rows NVS_BANK_WRITE_DONE and
NVS_SAVE_DEFERRED). -/
namespace Sys2Proof.Machine

/-! ### The event-record ring (R766) -/

/-- The 64 bytes of a record. -/
def recordBytes (seq time kind : Nat) (data : Bytes) : Bytes :=
  let b := leBytes 8 seq ++ timeBytes time ++ leBytes 2 kind ++ field data 0 38
  b ++ leBytes 4 (crc32 b)

/-- A record joins the ring in the slot after the newest. -/
def nvsRecord (kind : Nat) (data : Bytes) : Act := fun s =>
  let n := s.nvs.nextRec
  let bs := recordBytes n s.vis kind data
  [.nvs fun x => { x with ring := x.ring.put (n % 4096) bs, nextRec := (n + 1) % 2 ^ 64 },
   .fld Reg.NVS_RING_HEAD Fld.NVS_RING_HEAD.NEXT ((n + 1) % 4096)]

/-! ### Configuration banks (R760 to R765) -/

/-- Parameters of a bank that are restored during BOOT (R760): those marked Next boot, rights and remote grants, key quotas, SEC_CTRL,
whose DEBUG_REQ takes effect at the next boot, and the ports and links whose lanes TRAIN brings up (R755). -/
def bootPrm (id : Nat) : Bool :=
  match prmRow id with
  | some (r, _) => r.mark == .boot || (r.mark != .ro &&
      ((0x690 ≤ id && id < 0x6F0) || (0x1180 ≤ id && id < 0x11C1) || (0x200 ≤ id && id < 0x204) || (0xB00 ≤ id && id < 0xB40) ||
       [0x600, 0x620, 0x640, 0x660].contains id))
  | none => false

/-- Parameters of a bank that are committed on entering SERVICE: mode and timing of the groups (R760, R761). -/
def servicePrm (id : Nat) : Bool :=
  match prmRow id with
  | some (r, _) => r.mark != .ro && ((0x780 ≤ id && id < 0x7B0) || (0xCA0 ≤ id && id < 0xCE0))
  | none => false

/-- Parameters that a bank holds (R760). -/
def bankPrm (id : Nat) : Bool := bootPrm id || servicePrm id

/-- Kinds of objects that a bank holds whole (R760). -/
def bankKinds : List Nat := [K_RULE, K_WIN, K_LAYER, K_SCOPE, K_QUOTA]

/-- Kinds of images, which a bank names by length and CRC-32 (R760). -/
def imageKinds : List Nat := [K_MQT, K_CC, K_RFE, K_PAT, K_LIBMAP]

/-- The values that the selected bank holds. -/
def selBank (s : State) : NvsBank :=
  match s.nvs.sel with
  | none => NvsBank.init
  | some b => if b then s.nvs.b else s.nvs.a

/-- Stored configuration waits for SERVICE (R761): until then a bank write carries it on. -/
def restoring (s : State) : Bool :=
  decide (s.fld Reg.HUB_BOOT Fld.HUB_BOOT.STATE < 6) && !s.flag Reg.HUB_BOOT Fld.HUB_BOOT.RESTORE_FAIL

/-- The content of a bank write: what is in force, and what awaits the next boot. -/
def snapshot (s : State) : NvsBank :=
  let ids := ((s.prms.keys ++ (selBank s).prms.keys ++ s.nvs.owed.keys).filter bankPrm).eraseDups
  let value := fun id => match prmRow id with
    | some (r, _) => if r.mark == .boot then bootValue s id
        else if restoring s && servicePrm id then (selBank s).prms.getD id (s.prm id) else s.prm id
    | none => 0
  let prms := ids.foldl (fun m id => m.put id (value id)) (FMap.empty : FMap Word)
  let objs := s.objs.entries.filterMap fun e =>
    let k := e.1 / 2 ^ 20
    if bankKinds.contains k then some e
    else if imageKinds.contains k then some (e.1, leBytes 4 e.2.length ++ leBytes 4 (crc32 e.2))
    else none
  let ctxs := s.str.ctxs.entries.map fun e => (objKey K_CTX e.1, leBytes 1 e.2.owner ++ e.2.desc)
  let held := if restoring s then (selBank s).objs.filter fun k _ => !([K_SCOPE, K_QUOTA].contains (k / 2 ^ 20)) else .empty
  ⟨true, ((selBank s).seq + 1) % 2 ^ 32, prms, (objs ++ ctxs).foldl (fun m e => m.put e.1 e.2) held⟩

/-- A bank write starts (R764), and the images in force are kept in the clip store's system namespace (R760). -/
def startBankWrite : Act := fun s =>
  let b := snapshot s
  let now := s.uptime
  let kept := s.objs.filter fun k _ => imageKinds.contains (k / 2 ^ 20)
  let images := kept.entries.foldl (fun m e => m.put e.1 e.2) (if restoring s then s.cst.disk.images else .empty)
  [.nvs fun x => { x with writing := some b, owed := .empty, lastWrite := some now, deferred := false },
   .fld Reg.NVS_STAT Fld.NVS_STAT.WRITING 1, .fld Reg.NVS_STAT Fld.NVS_STAT.DEFERRED 0] ++
  (if s.flag Reg.CST_STORE_STAT Fld.CST_STORE_STAT.READY then [.cst fun c => { c with disk := { c.disk with images := images } }] else [])

/-- A bank write must wait: one is in progress, or began less than 1 s ago (R765). -/
def bankBusy (s : State) : Bool :=
  s.nvs.writing.isSome || (match s.nvs.lastWrite with | some t => decide (s.uptime < t + secTicks) | none => false)

/-- An automatic save, or the save of a change of rights, scope or quota (R765). -/
def requestSave : Act := fun s =>
  if bankBusy s then [.nvs fun x => { x with deferred := true }, .fld Reg.NVS_STAT Fld.NVS_STAT.DEFERRED 1]
  else startBankWrite s

/-- A change of rights, scope or quota: it is saved (R765), and the standby of a pair is told (R719). -/
def saveChange (bs : Bytes) : Act := acts [requestSave, fun s => if mirrors s then mirrorOut 254 bs s else []]

/-- A scope or a quota changes. -/
def saveObj (kind idx : Nat) (b : Bytes) : Act := acts [eff [.obj kind idx (some b)], saveChange (itemBytes (.obj kind idx (some b)))]

/-- R764: the bank write ends; a PRM_SET that waits for it is answered (R109, R146). -/
def actNvsBankWriteDone : Act := fun s =>
  if s.nvs.writing.isNone then [] else
  acts [
    eff [.nvs Nvs.finish],
    fun s => [.fld Reg.NVS_STAT Fld.NVS_STAT.WRITING 0, .reg Reg.NVS_SEQ (w32 (selBank s).seq),
      .fld Reg.NVS_STAT Fld.NVS_STAT.A_VALID (if s.nvs.a.valid then 1 else 0),
      .fld Reg.NVS_STAT Fld.NVS_STAT.B_VALID (if s.nvs.b.valid then 1 else 0)],
    fun s => match s.nvs.reply, s.arm.inService with
      | some r, some c => (.nvs fun x => { x with reply := none }) :: respond c r.1 r.2 0 s
      | _, _ => []] s

def execNvsBankWriteDone (s : State) : Host.Outcome State Fault Refusal := actNvsBankWriteDone.outcome s

/-- R765: a deferred save begins 1 s after the previous write. -/
def actNvsSaveDeferred : Act := fun s =>
  if !s.nvs.deferred ∨ bankBusy s then [] else startBankWrite s

def execNvsSaveDeferred (s : State) : Host.Outcome State Fault Refusal := actNvsSaveDeferred.outcome s

end Sys2Proof.Machine
end

