-- ==== Sys2Proof/Machine/Streams.lean ====
section
/-! DEFINITION. The stream and principal commands (chapter 09; rows STR_CTX_CREATE to PRN_INFO). -/
namespace Sys2Proof.Machine

/-! ### Scopes (R332, R348) -/

/-- Scope, context quota and rule quota of a function; 0 entries and quotas 0 after power-on. -/
def scopeObj (s : State) (f : Nat) : Bytes := (s.obj K_SCOPE f).getD (List.replicate 69 0)
def scopeCount (b : Bytes) : Nat := byteAt b 0
def ctxQuota (s : State) (f : Nat) : Nat := fieldN (scopeObj s f) 1 2
def ruleQuota (s : State) (f : Nat) : Nat := fieldN (scopeObj s f) 3 2
def scopeEntry (b : Bytes) (n : Nat) : Bytes := field b (5 + 4 * n) 4

/-- A scope entry covers a port and a VLAN choice (word 4 to 5 of a rule), or a port alone. -/
def entryCovers (e : Bytes) (port : Nat) (vlan : Option Nat) : Bool :=
  bitOf (byteAt e 0) port &&
  match vlan with
  | none => true
  | some v =>
    match byteAt e 1 with
    | 0 => true
    | 1 => bitOf v 12 && v % 4096 == fieldN e 2 2
    | _ => bitOf v 13

/-- A port and VLAN choice lie within a scope. -/
def inScope (b : Bytes) (port : Nat) (vlan : Option Nat) : Bool :=
  (List.range (scopeCount b)).any fun n => entryCovers (scopeEntry b n) port vlan

/-- R348: a rule (64 bytes) lies within a scope. -/
def ruleInScope (b r : Bytes) : Bool :=
  (List.range 4).all fun p => !bitOf (byteAt r 3) p || inScope b p (some (fieldN r 4 2))

/-! ### Contexts -/

/-- The ports a context uses. -/
def dPorts (d : Bytes) : List Nat := if dDual d then [dPortA d, dPortB d] else [dPortA d]

/-- Transfer and colorimetry that R336 admits. -/
def encPair (f : Nat) : Bool := [(0, 0), (0, 1), (1, 2), (2, 2)].contains (vTransfer f, vColor f)

/-- FORMAT, SIZE, RATE and SLOT_SIZE are within their ranges (R335). -/
def essenceOk (d : Bytes) : Bool :=
  let f := dFormat d
  let sz := dSize d
  match dEss d with
  | 0 => f / 2 ^ 18 == 0 && vSampling f ≤ 3 && f / 16 % 16 ≤ 3 && encPair f &&
      (if dDir d = 0 then f / 65536 % 4 == 0 else f / 65536 % 4 ≤ 2 && !vBpm f) &&
      decide (16 ≤ sz / 65536) && decide (sz / 65536 ≤ 16384) && decide (16 ≤ sizeW sz) && decide (sizeW sz ≤ 32768) && sizeW sz % 2 == 0 &&
      dRateN d != 0 && dRateD d != 0 &&
      (dDir d == 1 || dSlotSize d == 0 || decide ((ctxRing d).size ≤ dSlotSize d))
  | 1 => f &&& 0xFFFFFEEE == 0 && decide (1 ≤ sz) && decide (sz ≤ 64) && fieldN d 44 4 == 0
  | _ => f == 0 && fieldN d 44 4 == 0

/-- R335: every field of a descriptor is within its range and every reserved one 0. -/
def descOk (d : Bytes) : Bool :=
  decide (dDir d ≤ 1) && decide (dEss d ≤ 3) && byteAt d 2 / 16 % 8 == 0 && (!dDual d || dPortA d != dPortB d) && decide (byteAt d 3 < 16) &&
  decide (96 ≤ dPt d) && decide (dPt d ≤ 127) && zeroAt d 6 2 &&
  (match dEss d with
   | 0 => dDir d == 1 || (decide (2 ≤ dSlots d) && decide (dSlots d ≤ 8))
   | 3 => dSlots d == 0
   | _ => decide (2 ≤ dSlots d) && decide (dSlots d ≤ 64)) &&
  (dDir d == 1 || (decide (1000 ≤ dKbps d) && decide (dKbps d ≤ 400000000) && decide (4096 ≤ dBurst d) && decide (dBurst d ≤ 16777216))) &&
  (dSealed d || dKey d == 0) && dSlotSize d % 4096 == 0 && essenceOk d &&
  (dEss d == 3 || (dEss d == 0 && dDir d == 1) || dAddr d % 4096 == 0)

/-- Bytes of the ring of a context that has one. -/
def ctxRingBytes (d : Bytes) : Nat :=
  if dEss d = 3 ∨ (dEss d = 0 ∧ dDir d = 1) then 0
  else if dEss d = 0 then dSlots d * (ctxRing d).size else dSlots d * dSlotSize d

def freeCtx (s : State) : Option Nat := (List.range 4096).find? fun i => !s.str.ctxs.has i

/-- A context as created: enabled, no packet seen, its buckets full. -/
def newCtx (s : State) (f : Nat) (d : Bytes) : StrCtx :=
  let p : StrPath := ⟨false, 0, dBurst d * 8000000, s.uptime⟩
  ⟨f, d, true, false, false, p, p, .init, 0, 0, none, [], dKey d, 0, none, [], 0, none, 0, 0, none, none, 0⟩

/-- R335, R336. -/
def hStrCtxCreate (c : Svc) (s : State) : Reply :=
  let d := c.cmd.payload
  checks [c.badLen 96, (!c.isF0 && (dDir d == 1 || dEss d == 3), ST_NOT_OWNER),
    (dDir d == 0 && dEss d != 3 && !c.holds s R_STREAM, ST_DENIED),
    (!descOk d, ST_BAD_PARAM),
    (dSealed d && dKey d != 0 && !keyHeld s c.f (dKey d), ST_DENIED), (dSealed d && dKey d == 0, ST_DENIED),
    (dEss d == 3 && !jobHeld s c.f (dAddr d % 4096), ST_NO_CONTEXT),
    (dDir d == 0 && !c.isF0 && !(dPorts d).all fun p => inScope (scopeObj s c.f) p none, ST_DENIED),
    (ctxRingBytes d != 0 && !rangeOk s c.f (dAddr d) (ctxRingBytes d), ST_DENIED),
    ((freeCtx s).isNone || (!c.isF0 && decide (ctxQuota s c.f ≤ (ctxsOf s c.f).length)), ST_TABLE_FULL)]
    (match freeCtx s with
     | none => .refuse ST_TABLE_FULL
     | some i => .ok (leBytes 2 i ++ leBytes 1 (i % 64) ++ [0]) (eff [
         effStr fun t => { t with ctxs := t.ctxs.put i (newCtx s c.f d) },
         .prm Prm.STR_CTX_USED (w32 (s.str.ctxs.size + 1))]))

def execStrCtxCreate (s : State) : Host.Outcome State Fault Refusal := (turn 0x600 hStrCtxCreate).outcome s

/-- The context a command names, if the caller may name it: its owner, or F0 (R334, R362). -/
def namedCtx (c : Svc) (s : State) (i : Nat) : Option StrCtx :=
  match s.ctx i with
  | some x => if c.isF0 || x.owner == c.f then some x else none
  | none => none

/-! ### The cache (R340, R342) -/

def setOf (l : List Nat) (i : Nat) : List Nat := l.filter fun j => j % 64 == i % 64

/-- The entry that a fill of context i's set evicts: its least recently used one that is not pinned, once the set is full. -/
def victim (s : State) (i : Nat) : Option Nat :=
  let set := setOf s.str.cache i
  if set.length < 8 then none else set.reverse.find? fun j => match s.ctx j with | some x => !x.pinned | none => true

/-- An entry loaded, or touched if it is cached. -/
def cacheLoad (i : Nat) : Act := fun s =>
  if s.str.cache.contains i then [effStr fun t => { t with cache := i :: t.cache.filter (· != i) }]
  else match victim s i with
    | none => [effStr fun t => { t with cache := i :: t.cache }]
    | some v => [effStr fun t => { t with cache := i :: t.cache.filter (· != v) }, .count64 Prm.STR_EVICTIONS_LO 1]

def pinnedCtxs (s : State) : List Nat := (s.str.ctxs.entries.filter fun e => e.2.pinned).map (·.1)

/-- STR_CTX_PINNED follows the entries pinned. -/
def syncPinned : Act := fun s => [.prm Prm.STR_CTX_PINNED (w32 (pinnedCtxs s).length)]

/-- The shared turn of STR_CTX_CTRL (R339, R342): op 1 ENABLE, 2 DISABLE, 4 PIN, 8 UNPIN. -/
def ctlCtx (c : Svc) (s : State) (op : Nat) : Reply :=
  let i := c.n 0 2
  let x := namedCtx c s i
  let barred := match x with | some x => x.barred && !s.holds x.owner R_STREAM | none => false
  let isPinned := match x with | some x => x.pinned | none => false
  let full := decide (64 ≤ (pinnedCtxs s).length) || decide (4 ≤ (setOf (pinnedCtxs s) i).length)
  checks [c.badLen 4, (op == 1 && barred, ST_DENIED), (4095 < i, ST_BAD_PARAM), c.rsv 3 1, (x.isNone, ST_NO_CONTEXT),
    (op == 4 && !isPinned && full, ST_TABLE_FULL)]
    (.ok [] (match op with
      | 1 => eff [effCtx i fun x => { x with enabled := true, barred := false }]
      | 2 => eff [effCtx i fun x => { x with enabled := false, tx := none }]
      | 4 => acts [cacheLoad i, eff [effCtx i fun x => { x with pinned := true }], syncPinned]
      | _ => acts [eff [effCtx i fun x => { x with pinned := false }], syncPinned]))

/-- The turn of one operation of STR_CTX_CTRL: the command in service carries opcode 0x0602 and the operation's byte. A byte that
is no operation is answered by the row of ENABLE, with ST_BAD_PARAM or an earlier check. -/
def ctlTurn (op : Nat) : Act := fun s =>
  match s.arm.inService with
  | none => []
  | some c =>
    let o := c.n 2 1
    let valid := [1, 2, 4, 8].contains o
    if o = op then turn 0x602 (fun c s => ctlCtx c s op) s
    else if op = 1 ∧ !valid then turn 0x602 (fun c _ => checks [c.badLen 4] (.refuse ST_BAD_PARAM)) s
    else []

def execStrCtxEnable (s : State) : Host.Outcome State Fault Refusal := (ctlTurn 1).outcome s
def execStrCtxDisable (s : State) : Host.Outcome State Fault Refusal := (ctlTurn 2).outcome s
def execStrCtxPin (s : State) : Host.Outcome State Fault Refusal := (ctlTurn 4).outcome s
def execStrCtxUnpin (s : State) : Host.Outcome State Fault Refusal := (ctlTurn 8).outcome s

/-- R363: state and counters of a context. -/
def hStrCtxInfo (c : Svc) (s : State) : Reply :=
  let i := c.n 0 2
  checks [c.badLen 4, (4095 < i, ST_BAD_PARAM), c.rsv 2 2]
    (match namedCtx c s i with
     | none => .refuse ST_NO_CONTEXT
     | some x =>
       let b := fun (v : Bool) => if v then 1 else 0
       let st := b x.enabled + 2 * b x.pinned + 4 * b (s.str.cache.contains i) + 8 * b x.a.up + 16 * b x.b.up
       let n := x.cnt
       .ok (leBytes 4 st ++ leBytes 8 n.packets ++ leBytes 8 n.bytes ++
         ([n.frames, n.incomplete, n.lost, n.dups, n.malformed, n.policed, n.auth, n.disabled, n.misses].flatMap (leBytes 4)) ++
         leBytes 4 x.lastTs ++ timeBytes x.arrival) (fun _ => []))

def execStrCtxInfo (s : State) : Host.Outcome State Fault Refusal := (turn 0x603 hStrCtxInfo).outcome s

/-! ### Rules -/

/-- R344: the fields of a rule of 64 bytes. -/
def ruleOk (r : Bytes) : Bool :=
  let v := fieldN r 4 2
  let most := if bitOf (byteAt r 8) 0 then 128 else 32
  decide (fieldN r 0 2 ≤ 4095) && byteAt r 3 != 0 && decide (byteAt r 3 < 16) && !(bitOf v 12 && bitOf v 13) && decide (v < 16384) &&
  decide (byteAt r 6 ≤ most) && decide (byteAt r 7 ≤ most) && decide (byteAt r 8 < 4) && zeroAt r 9 3 &&
  decide (fieldN r 12 2 ≤ fieldN r 14 2) && zeroAt r 52 12 && (most == 128 || (zeroAt r 24 12 && zeroAt r 40 12))

/-- The owner of a rule index: the rule in force, or a staged or pending write of it. -/
def ruleOwners (s : State) (idx : Nat) : List Nat :=
  (match s.obj K_RULE idx with | some b => [byteAt b 0] | none => []) ++
  s.allStaged.filterMap fun x => match x.2 with
    | .obj k i (some b) => if k = K_RULE ∧ i = idx then some (byteAt b 0) else none
    | .obj k i none => if k = K_RULE ∧ i = idx then some x.1 else none
    | _ => none

/-- Rule indices that a principal would own with its staged set and pending commit applied. -/
def ruleHeld (s : State) (f : Nat) : List Nat :=
  let mine := (s.allStaged.filter fun x => x.1 == f).map (·.2)
  let live := (s.objIdx K_RULE).filter fun i => match overlayObj s mine K_RULE i with | some b => byteAt b 0 == f | none => false
  (live ++ mine.filterMap fun x => match x with
    | .obj k i (some b) => if k = K_RULE ∧ byteAt b 0 = f then some i else none
    | _ => none).eraseDups

/-- R347. -/
def hStrRuleWrite (c : Svc) (s : State) : Reply :=
  let idx := c.n 0 2
  let r := field c.cmd.payload 4 64
  let ctxOk := match s.ctx (fieldN r 0 2) with | some x => x.owner == c.f && dDir x.desc == 0 | none => false
  checks [c.badLen 68, c.lacks s R_STREAM, (8191 < idx || !ruleOk r, ST_BAD_PARAM), c.rsv 2 2, (!ctxOk, ST_NO_CONTEXT),
    (!c.isF0 && !ruleInScope (scopeObj s c.f) r, ST_DENIED), ((ruleOwners s idx).any (· != c.f), ST_CONFLICT),
    (!c.isF0 && !(ruleHeld s c.f).contains idx && decide (ruleQuota s c.f ≤ (ruleHeld s c.f).length), ST_TABLE_FULL)]
    (.ok [] (eff [stage c.f (.obj K_RULE idx (some (leBytes 1 c.f ++ r)))]))

def execStrRuleWrite (s : State) : Host.Outcome State Fault Refusal := (turn 0x604 hStrRuleWrite).outcome s

/-- R347: the clearing of an index is staged. Another principal's rule is not the caller's to name (R362); F0 may clear any. -/
def hStrRuleClear (c : Svc) (s : State) : Reply :=
  let idx := c.n 0 2
  checks [c.badLen 4, (8191 < idx, ST_BAD_PARAM), c.rsv 2 2, (!c.isF0 && (ruleOwners s idx).any (· != c.f), ST_NO_CONTEXT)]
    (.ok [] (eff [stage c.f (.obj K_RULE idx none)]))

def execStrRuleClear (s : State) : Host.Outcome State Fault Refusal := (turn 0x605 hStrRuleClear).outcome s

/-- R363: owner, state and, to its owner and F0, the rule. -/
def hStrRuleRead (c : Svc) (s : State) : Reply :=
  let idx := c.n 0 2
  let stagedRule := (s.allStaged.filterMap fun x => match x.2 with
    | .obj k i (some b) => if k = K_RULE ∧ i = idx then some b else none
    | _ => none).head?
  let pick := match s.obj K_RULE idx with
    | some b => some (b, 1)
    | none => stagedRule.map fun b => (b, 2)
  checks [c.badLen 4, (8191 < idx, ST_BAD_PARAM), c.rsv 2 2]
    (.ok (match pick with
      | none => List.replicate 68 0
      | some (b, st) => leBytes 1 (byteAt b 0) ++ leBytes 1 st ++ [0, 0] ++
          (if c.isF0 || byteAt b 0 == c.f then field b 1 64 else List.replicate 64 0)) (fun _ => []))

def execStrRuleRead (s : State) : Host.Outcome State Fault Refusal := (turn 0x606 hStrRuleRead).outcome s

/-! ### Principals -/

/-- R332, R333. -/
def hPrnScopeSet (c : Svc) (s : State) : Reply :=
  let f := c.n 0 1
  let n := c.n 1 1
  let b := leBytes 1 n ++ field c.cmd.payload 2 4 ++ field (c.cmd.payload.drop 8) 0 64
  let bad := (List.range n).any fun k => let e := scopeEntry b k; 16 ≤ byteAt e 0 || 2 < byteAt e 1 || 4095 < fieldN e 2 2
  let outside := (liveObjs s K_RULE).any fun r => byteAt r.2 0 == f && !ruleInScope b (r.2.drop 1)
  checks [(c.cmd.len < 8 || c.cmd.len != 8 + 4 * n, ST_BAD_LENGTH), c.notF0, (f == 0 || 63 < f || 16 < n || bad, ST_BAD_PARAM), c.rsv 6 2,
    (outside || decide (c.n 2 2 < (ctxsOf s f).length) || decide (c.n 4 2 < (ruleHeld s f).length), ST_CONFLICT)]
    (.ok [] (saveObj K_SCOPE f b))

def execPrnScopeSet (s : State) : Host.Outcome State Fault Refusal := (turn 0x610 hPrnScopeSet).outcome s

/-- R363. -/
def hPrnInfo (c : Svc) (s : State) : Reply :=
  let f := c.n 0 1
  let b := scopeObj s f
  checks [c.badLen 4, (!c.isF0 && f != c.f, ST_NOT_OWNER), (63 < f && c.isF0, ST_BAD_PARAM), c.rsv 1 3]
    (.ok (leBytes 4 (if f < 64 then s.rights f else c.mask s) ++ leBytes 2 (ctxsOf s f).length ++ leBytes 2 (ctxQuota s f) ++
      leBytes 2 (ruleHeld s f).length ++ leBytes 2 (ruleQuota s f) ++ leBytes 1 (scopeCount b) ++ [0, 0, 0] ++ field b 5 64) (fun _ => []))

def execPrnInfo (s : State) : Host.Outcome State Fault Refusal := (turn 0x611 hPrnInfo).outcome s

/-! ### Commands forwarded over XPL -/

/-- R43, R365: a forwarded command of a pair with no valid entry is refused; any other waits for the Armature. -/
def actXplMbxForward (pkg : Fin 16) (f : Fn) (header payload : Bytes) : Act := fun s =>
  let code := remoteKey pkg f
  let len := fieldN header 6 2
  let c : Cmd := ⟨fieldN header 0 2, fieldN header 2 2, fieldN header 4 2, len,
    zeroAt header 8 24 && fieldN header 2 2 < 2, field payload 0 (if len ≤ 4064 then len else 4064), fieldN header 4 2⟩
  match grantOf s pkg f with
  | none => [.draw, .raise 95, .emit (.packet 3 pkg (rspHeader c.opcode ST_DENIED c.seq 0 0 s.free.toNat))]
  | some _ => if (s.mbx code).rung.isSome then [] else [effMbx code fun b => { b with rung := some c }]

def execXplMbxForward (pkg : Fin 16) (f : Fn) (header payload : Bytes) (s : State) : Host.Outcome State Fault Refusal :=
  (actXplMbxForward pkg f header payload).outcome s

end Sys2Proof.Machine
end

