-- ==== Sys2Proof/Machine/Time.lean ====
section
/-! DEFINITION. Device time, the servo, PTP and time over XPL (chapter 14; rows TIM_NOW_READ to XPL_TIME_EXCHANGE and
TIM_ACQUIRE_TIMEOUT). -/
namespace Sys2Proof.Machine

/-! ### Reading time -/

/-- A 96-bit time put into a time triple (chapter 14, the fields of a time triple). -/
def setTriple (ns lo hi v : Nat) : List Eff :=
  [.reg ns (w32 (v / NS % 1000000000)), .reg lo (w32 (v / SEC)), .reg hi (w32 (v % NS * 65536 + v / SEC / 2 ^ 32 % 65536))]

/-- R521: a read of TIM_NOW_NS latches device time into the triple. Only F0 has the register. -/
def actTimNowRead : Act := fun s =>
  setTriple Reg.TIM_NOW_NS Reg.TIM_NOW_SEC_LO Reg.TIM_NOW_SEC_HI s.vis ++
    [.emit (.readData 0 Reg.TIM_NOW_NS (w32 (s.vis / NS % 1000000000)))]

def execTimNowRead (s : State) : Host.Outcome State Fault Refusal := actTimNowRead.outcome s

/-- VALID and DEPTH of a capture FIFO. -/
def capSync (i depth : Nat) : List Eff :=
  [.fld (Reg.TIM_CAP_STAT i) Fld.TIM_CAP_STAT.VALID (if depth = 0 then 0 else 1),
   .fld (Reg.TIM_CAP_STAT i) Fld.TIM_CAP_STAT.DEPTH depth]

/-- R542: a read of TIM_CAP_NS moves the oldest capture into the latch, 0 from an empty FIFO. -/
def actTimCapRead (i : Fin 8) : Act := fun s =>
  let q := s.tim.caps.getD i []
  let v := q.headD 0
  [.tim fun t => { t with caps := t.caps.put i q.tail }] ++ capSync i q.tail.length ++
    setTriple (Reg.TIM_CAP_NS i) (Reg.TIM_CAP_SEC_LO i) (Reg.TIM_CAP_SEC_HI i) v ++
    [.emit (.readData 0 (Reg.TIM_CAP_NS i) (w32 (v / NS % 1000000000)))]

def execTimCapRead (i : Fin 8) (s : State) : Host.Outcome State Fault Refusal := (actTimCapRead i).outcome s

/-! ### The servo -/

def timFld (s : State) (f : Fld) : Nat := s.fld Reg.TIM_STATE f

/-- This package is time master, or no master is known (R532). -/
def ownMaster (s : State) : Bool :=
  match s.tim.master with
  | none => true
  | some m => m == s.fld Reg.HUB_TOPOLOGY Fld.HUB_TOPOLOGY.PKG_ID

/-- The servo mode in force: 3 on a package that follows the master, else what TIM_SERVO selects (R532). -/
def servoMode (s : State) : Nat := if ownMaster s then s.pn Prm.TIM_SERVO % 4 else 3

/-- TIM_STATE shows the mode in force and the master. -/
def servoSync : Act := fun s =>
  [.fld Reg.TIM_STATE Fld.TIM_STATE.SERVO (servoMode s),
   .fld Reg.TIM_STATE Fld.TIM_STATE.XPL_MASTER (if s.tim.master.isSome && ownMaster s then 1 else 0),
   .fld Reg.TIM_STATE Fld.TIM_STATE.MASTER_PKG (s.tim.master.getD 0)]

/-- ±500 ppm in 2^-48 (R525). -/
def rhoMax : Int := 140737488355

def clampRho (r : Int) : Int := if r > rhoMax then rhoMax else if r < -rhoMax then -rhoMax else r

/-- ρ takes a value (R525). -/
def setRho (r : Int) : List Eff :=
  [.tim fun t => { t with rho := r }, .reg Reg.TIM_RATE_LO (w32 (unsgn 64 r)), .reg Reg.TIM_RATE_HI (w32 (unsgn 64 r / 2 ^ 32)),
   .fld Reg.TIM_STATE Fld.TIM_STATE.AT_LIMIT (if r.natAbs ≥ rhoMax.natAbs then 1 else 0)]

/-- R525: the servo steers by rate. Its law is not given, so the new ρ is a free value within ±500 ppm. -/
def steer : Act := fun s =>
  .draw :: .draw :: setRho (clampRho (sgn 64 ((Config.freeWord s.freeCtr).toNat + 2 ^ 32 * (Config.freeWord (s.freeCtr + 1)).toNat)))

/-- Every group has command mode in force and no CMD_LATCH with AT is pending (R524). -/
def mayStep (s : State) : Bool :=
  ((List.range 4).all fun g => s.pn (Prm.GRP_MODE g) % 4 == 0) && s.tim.latches.isEmpty

/-- The first grid point after a time of a periodic schedule (R538, R539). -/
def gridAfter (start period v : Nat) : Nat :=
  if v < start then start else start + ((v - start) / period + 1) * period

/-- What a step from an old to a new time does to a pulse schedule (R539). -/
def tpoStep (old new : Nat) (t : Tpo) : Tpo :=
  if t.mode = 2 then { t with edges := if t.active then [gridAfter t.start t.period new] else t.edges }
  else if t.mode = 1 ∧ (t.edges.any fun e => old < e && e ≤ new) then { t with edges := [], active := false }
  else t

/-- SKIPPED and ACTIVE of the outputs whose once pulse a step cancels (R539). -/
def tpoSkips (old new : Nat) : Act := fun s =>
  s.tim.tpo.entries.flatMap fun e =>
    if e.2.mode = 1 ∧ (e.2.edges.any fun x => old < x && x ≤ new)
    then [.fld (Reg.TPO_STAT e.1) Fld.TPO_STAT.SKIPPED 1, .fld (Reg.TPO_STAT e.1) Fld.TPO_STAT.ACTIVE 0] else []

/-- R523, R539, R554: device time is stepped. -/
def stepTime (new : Nat) : Act := fun s =>
  let old := s.vis
  acts [tpoSkips old new,
    eff [.tim fun t => { t with now := new % (2 ^ 48 * SEC) * 2 ^ 32, tpo := ⟨t.tpo.entries.map fun e => (e.1, tpoStep old new e.2)⟩ },
      .fld Reg.TIM_STATE Fld.TIM_STATE.ACQUIRED 1, .fld Reg.HUB_BOOT Fld.HUB_BOOT.WAIT_TIME 0, .fld Reg.TIM_STATE Fld.TIM_STATE.STEP_DEFERRED 0,
      .count Prm.TIM_STEPS 1, .raise 210],
    audStepMute] s

/-- The mean of ρ over the last seconds of lock (R526); ρ itself before the first. -/
def rhoMean (s : State) : Int :=
  let l := s.tim.rhoHist.take (s.pn Prm.TIM_HOLDOVER_AVG_S)
  if l.isEmpty then s.tim.rho else (l.foldl (· + ·) 0) / (l.length : Int)

/-- R526: a locked servo loses lock and enters holdover. -/
def loseLock : Act := fun s =>
  if timFld s Fld.TIM_STATE.LOCKED = 0 then [] else
  [.fld Reg.TIM_STATE Fld.TIM_STATE.LOCKED 0, .fld Reg.TIM_STATE Fld.TIM_STATE.HOLDOVER 1,
   .tim fun t => { t with lockSince := none, rhoHist := [] }, .count Prm.TIM_LOCK_LOSSES 1, .raise 209] ++ setRho (rhoMean s)

/-- The lock criterion after a measurement (the mode table of chapter 14; R526). -/
def lockCheck (off : Int) : Act := fun s =>
  if off.natAbs ≤ s.pn Prm.TIM_LOCK_NS * NS then
    let since := s.tim.lockSince.getD s.uptime
    let met := since + s.pn Prm.TIM_LOCK_S * secTicks ≤ s.uptime
    .tim (fun t => { t with lockSince := some since }) ::
      (if met && timFld s Fld.TIM_STATE.LOCKED = 0 then [.fld Reg.TIM_STATE Fld.TIM_STATE.LOCKED 1, .raise 208] else [])
  else .tim (fun t => { t with lockSince := none }) :: (if off.natAbs > s.pn Prm.TIM_UNLOCK_NS * NS then loseLock s else [])

/-- A signed value that saturates at 32 bits (TIM_OFFSET). -/
def sat32 (i : Int) : Nat := unsgn 32 (if i > 2147483647 then 2147483647 else if i < -2147483648 then -2147483648 else i)

/-- Every TIM_ACQUIRE that waits completes. -/
def acquireDone (status : Nat) : Act := fun s =>
  acts [actsFor s.tim.acquire fun e => completeTicket e.1 e.2 status [], eff [.tim fun t => { t with acquire := [] }]] s

/-- A valid offset measurement: device time minus source time in 2^-16 ns (R523 to R526). -/
def measure (off : Int) : Act := fun s =>
  let q := sat32 (off / 16384)
  acts [eff [.reg Reg.TIM_OFFSET (w32 q), .prm Prm.TIM_OFFSET_LAST (w32 q)],
    if timFld s Fld.TIM_STATE.ACQUIRED = 0 ∨ s.tim.acquire ≠ [] then
      (if mayStep s then acts [stepTime ((s.vis : Int) - off).toNat, acquireDone ST_OK]
       else acts [eff [.fld Reg.TIM_STATE Fld.TIM_STATE.STEP_DEFERRED 1], steer])
    else steer,
    eff [.fld Reg.TIM_STATE Fld.TIM_STATE.HOLDOVER 0],
    lockCheck (if (timFld s Fld.TIM_STATE.ACQUIRED = 0 ∨ s.tim.acquire ≠ []) ∧ mayStep s then 0 else off)] s

/-! ### Time commands (R549) -/

/-- R549. -/
def hTimGet (c : Svc) (s : State) : Reply :=
  checks [c.badLen 0] (.ok (timeBytes s.vis ++ leBytes 4 (s.rd Reg.TIM_STATE).toNat ++ leBytes 4 (s.rd Reg.TIM_OFFSET).toNat ++
    leBytes 8 (unsgn 64 s.tim.rho) ++ leBytes 2 (s.pn Prm.TIM_UTC_OFFSET) ++
    leBytes 1 (timFld s Fld.TIM_STATE.MASTER_PKG) ++ [0]) (fun _ => []))

def execTimGet (s : State) : Host.Outcome State Fault Refusal := (turn 0xC00 hTimGet).outcome s

/-- R522, R524, R549. -/
def hTimAcquire (c : Svc) (s : State) : Reply :=
  let src := c.n 0 1 == 1
  let tb := field c.cmd.payload 4 12
  let m := servoMode s
  checks [c.badLen 16, c.lacks s R_TIME, (1 < c.n 0 1, ST_BAD_PARAM), c.rsv 1 3,
    (src && !zeroAt c.cmd.payload 4 12, ST_BAD_PARAM), (!src && (!timeOk tb || tooFar s (timeOf tb)), ST_BAD_PARAM),
    (!mayStep s || (!src && (m == 1 || m == 3)), ST_CONFLICT)]
    (if src then .pending (eff [.tim fun t => { t with acquire := t.acquire ++ [(c.f, ticketId c.f (s.mbx c.f).nextTicket)] }])
     else .ok [] (stepTime (timeOf tb)))

def execTimAcquire (s : State) : Host.Outcome State Fault Refusal := (turn 0xC01 hTimAcquire).outcome s

/-- R549: 10 s without a measurement. -/
def execTimAcquireTimeout (s : State) : Host.Outcome State Fault Refusal := (acquireDone ST_TIMEOUT).outcome s

/-- R525, R549: the host sets ρ in mode 2. -/
def hTimAdjust (c : Svc) (s : State) : Reply :=
  let r := sgn 64 (c.n 0 8)
  checks [c.badLen 8, c.lacks s R_TIME, (decide (r.natAbs > rhoMax.natAbs), ST_BAD_PARAM), (servoMode s != 2, ST_CONFLICT)]
    (.ok [] (eff (setRho r)))

def execTimAdjust (s : State) : Host.Outcome State Fault Refusal := (turn 0xC02 hTimAdjust).outcome s

def PtpPort.init : PtpPort := ⟨0, false, 0, 0, 0, 0, 0, 0, 0, 0, none, none, none, none, 0, [], 0⟩

def State.ptp (s : State) (p : Nat) : PtpPort := s.tim.ports.getD p PtpPort.init

def effPtp (p : Nat) (g : PtpPort → PtpPort) : Eff := .tim fun t => { t with ports := t.ports.upd p PtpPort.init g }

/-- R549. -/
def hTimPtpInfo (c : Svc) (s : State) : Reply :=
  let p := c.n 0 1
  let x := s.ptp p
  checks [c.badLen 4, c.lacks s R_TIME, (3 < p, ST_BAD_PARAM), c.rsv 1 3]
    (.ok (leBytes 1 x.state ++ leBytes 1 x.gmClass ++ leBytes 1 x.gmAcc ++ [0] ++ leBytes 8 x.gmId ++ leBytes 10 x.parent ++
      leBytes 2 x.steps ++ leBytes 4 (sat32 (x.delay.getD 0 / 16384)) ++ leBytes 4 (sat32 (x.offset / 16384)) ++
      leBytes 2 x.tlv.length ++ x.tlv) (fun _ => []))

def execTimPtpInfo (s : State) : Host.Outcome State Fault Refusal := (turn 0xC03 hTimPtpInfo).outcome s

/-- One entry of TIM_PEERS. -/
def peerEntry (s : State) (e : Nat × Peer) : Bytes :=
  leBytes 1 e.1 ++ leBytes 1 e.2.hops ++
    leBytes 2 ((if s.tim.master = some e.1 then 1 else 0) + (if e.2.reachable then 2 else 0)) ++ leBytes 4 (sat32 (e.2.theta / 16384))

/-- R549. -/
def hTimPeers (c : Svc) (s : State) : Reply :=
  checks [c.badLen 0, c.lacks s R_TIME] (.ok (leBytes 1 s.tim.peers.size ++ [0, 0, 0] ++
    s.tim.peers.entries.flatMap (peerEntry s)) (fun _ => []))

def execTimPeers (s : State) : Host.Outcome State Fault Refusal := (turn 0xC04 hTimPeers).outcome s

/-! ### PTP (R528 to R530) -/

/-- The clock identity: the EUI-64 of the MAC address of port 0 (IEEE 1588). -/
def clockId (s : State) : Nat :=
  let mac := (s.pn (Prm.ETH_MAC_LO 0) + 2 ^ 32 * s.pn (Prm.ETH_MAC_HI 0)) % 2 ^ 48
  mac / 2 ^ 24 * 2 ^ 40 + 0xFFFE * 2 ^ 24 + mac % 2 ^ 24

/-- The identity of a port. -/
def portId (s : State) (p : Nat) : Nat := clockId s * 65536 + (p + 1)

/-- The port takes part in PTP: named by TIM_PTP_PORTS and enabled; an ordinary clock has the lowest such port only (R529). -/
def ptpOn (s : State) (p : Nat) : Bool :=
  let on := fun q => bitOf (s.pn Prm.TIM_PTP_PORTS) q && bitOf (s.pn (Prm.PTP_PORT_CFG q)) 0
  on p && (bitOf (s.pn Prm.TIM_PTP_PORTS) 8 || (List.range p).all fun q => !on q)

/-- The data set that a port's best master offers, in the order of comparison (IEEE 1588, default algorithm). -/
def dataSet (x : PtpPort) : List Nat := [x.prio1, x.gmClass, x.gmAcc, x.gmVar, x.prio2, x.gmId, x.steps, x.parent]

/-- The own clock's data set. -/
def ownSet (s : State) : List Nat :=
  [s.pn Prm.TIM_PTP_PRIORITY / 256, s.pn Prm.TIM_PTP_CLASS, 0xFE, 0xFFFF, s.pn Prm.TIM_PTP_PRIORITY % 256, clockId s, 0, 0]

/-- One data set is better: smaller at the first difference. -/
def better : List Nat → List Nat → Bool
  | a :: t, b :: u => a < b || (a == b && better t u)
  | _, _ => false

/-- The port whose master is best among those that may take time (R529). -/
def bestPort (s : State) : Option Nat :=
  (List.range 4).foldl (fun r p =>
    let x := s.ptp p
    if !ptpOn s p || !x.heard || bitOf (s.pn (Prm.PTP_PORT_CFG p)) 1 then r
    else match r with
      | none => some p
      | some q => if better (dataSet x) (dataSet (s.ptp q)) then some p else r) none

/-- The state the best master clock algorithm gives a port (IEEE 1588 portState codes; R529, R532). -/
def portState (s : State) (p : Nat) : Nat :=
  let cfg := s.pn (Prm.PTP_PORT_CFG p)
  let own := ownSet s
  let slaveOnly := bitOf cfg 2
  if !ptpOn s p then 3
  else if servoMode s ≠ 1 then (if slaveOnly then 4 else 6)
  else match bestPort s with
    | none => if slaveOnly then 4 else 6
    | some b =>
      let x := s.ptp p
      if better own (dataSet (s.ptp b)) ∧ !slaveOnly then
        (if s.pn Prm.TIM_PTP_CLASS < 128 ∧ x.heard ∧ better (dataSet x) own then 7 else 6)
      else if s.pn Prm.TIM_PTP_CLASS < 128 ∧ !slaveOnly then (if x.heard ∧ better (dataSet x) own then 7 else 6)
      else if b = p then 9
      else if bitOf cfg 1 then 6
      else if slaveOnly then 4
      else if x.heard ∧ better (dataSet (s.ptp b)) (dataSet x) ∧ x.gmId = (s.ptp b).gmId then 7 else 6

/-- The states of all ports, and what TIM_STATE and the parameters show of them. -/
def bmca : Act := fun s =>
  let slave := (List.range 4).find? fun p => portState s p == 9
  ((List.range 4).flatMap fun p =>
    let st := portState s p
    effPtp p (fun x => { x with state := st }) :: .prm (Prm.PTP_PORT_STATE p) (w32 st) ::
      (if (s.ptp p).state = st then [] else [.count (Prm.PTP_BMCA_CHANGES p) 1])) ++
  [.fld Reg.TIM_STATE Fld.TIM_STATE.SLAVE_VALID (if slave.isSome then 1 else 0),
   .fld Reg.TIM_STATE Fld.TIM_STATE.SLAVE_PORT (slave.getD 0),
   .fld Reg.TIM_STATE Fld.TIM_STATE.GM_CLASS (match slave with | some p => (s.ptp p).gmClass | none => s.pn Prm.TIM_PTP_CLASS),
   .prm Prm.TIM_GM_ID_LO (w32 (match slave with | some p => (s.ptp p).gmId | none => clockId s)),
   .prm Prm.TIM_GM_ID_HI (w32 ((match slave with | some p => (s.ptp p).gmId | none => clockId s) / 2 ^ 32))]

/-- A big-endian number in a message. -/
def netN (bs : Bytes) (o n : Nat) : Nat := beNat (field bs o n)

/-- A PTP timestamp of 10 bytes, in 2^-16 ns. -/
def ptpTime (bs : Bytes) (o : Nat) : Nat := netN bs o 6 * SEC + netN bs (o + 6) 4 * NS

/-- A PTP header (IEEE 1588: 34 bytes). -/
def ptpHeader (s : State) (p typ len flags seq : Nat) (corr : Int) (ctl interval : Nat) : Bytes :=
  leBytes 1 typ ++ [2] ++ beBytes 2 len ++ leBytes 1 (s.pn Prm.TIM_PTP_DOMAIN) ++ [0] ++ beBytes 2 flags ++
    beBytes 8 (unsgn 64 corr) ++ [0, 0, 0, 0] ++ beBytes 10 (portId s p) ++ beBytes 2 seq ++ leBytes 1 ctl ++ leBytes 1 interval

/-- The 10 bytes of a PTP timestamp. -/
def ptpStamp (v : Nat) : Bytes := beBytes 6 (v / SEC) ++ beBytes 4 (v / NS % 1000000000)

/-- The path-delay asymmetry of a port (R530), in 2^-16 ns. -/
def asym (s : State) (p : Nat) : Int := sgn 32 (s.pn (Prm.PTP_ASYM_NS p)) * NS

/-- A Sync or Follow_Up has given t2 - t1 on a slave port: a measurement once the path delay is known (R523, R530). -/
def gotSync (p : Nat) (ms : Int) : Act := fun s =>
  effPtp p (fun x => { x with ms := some ms }) ::
    (match (s.ptp p).delay with
     | none => []
     | some d => effPtp p (fun x => { x with offset := ms - d }) :: measure (ms - d) s)

/-- The metadata TLV of ST 2059-2 in the bytes after an Announce or Follow_Up: an organisation extension, at most 256 bytes. -/
def metaTlv (bs : Bytes) : Bytes := if netN bs 0 2 = 3 then bs.take (if 4 + netN bs 2 2 < 256 then 4 + netN bs 2 2 else 256) else []

/-- A PTP message that the device uses, by type (R528, R529). -/
def ptpUse (p : Nat) (m : Bytes) : Act := fun s =>
  let typ := netN m 0 1 % 16
  let x := s.ptp p
  let src := netN m 20 10
  let seq := netN m 30 2
  let corr := sgn 64 (netN m 8 8)
  let t2 := (s.stamp : Int)
  let mine := x.state == 9 && src == x.parent
  if typ = 11 then
    acts [eff [.count (Prm.PTP_ANN_RX p) 1],
      if src / 65536 = clockId s ∨ bitOf (s.pn (Prm.PTP_PORT_CFG p)) 1 then eff []
      else if x.heard ∧ src ≠ x.parent ∧
        !better [netN m 47 1, netN m 48 1, netN m 49 1, netN m 50 2, netN m 52 1, netN m 53 8, netN m 61 2, src] (dataSet x) then eff []
      else acts [eff [effPtp p fun y => { y with
          heard := true, parent := src, gmId := netN m 53 8, gmClass := netN m 48 1, gmAcc := netN m 49 1, gmVar := netN m 50 2,
          prio1 := netN m 47 1, prio2 := netN m 52 1, steps := netN m 61 2,
          delay := if y.parent = src then y.delay else none }], bmca,
        fun s' => if (s'.ptp p).state = 9 ∧ servoMode s' = 1 then [.prm Prm.TIM_UTC_OFFSET (w32 (unsgn 32 (sgn 16 (netN m 44 2))))] else []]] s
  else if typ = 0 then
    .count (Prm.PTP_SYNC_RX p) 1 ::
      (if !mine then [] else
       if bitOf (netN m 6 1) 1 then [effPtp p fun y => { y with waiting := some (seq, t2 - corr - asym s p) }]
       else gotSync p (t2 - ptpTime m 34 - corr - asym s p) s)
  else if typ = 8 then
    .count (Prm.PTP_FUP_RX p) 1 ::
      (if !mine then [] else
       effPtp p (fun y => { y with tlv := if m.length > 44 then metaTlv (m.drop 44) else y.tlv }) ::
       (match x.waiting with
        | some (q, t) => if q = seq then effPtp p (fun y => { y with waiting := none }) :: gotSync p (t - ptpTime m 34 - corr) s else []
        | none => []))
  else if typ = 1 then
    .count (Prm.PTP_DREQ_RX p) 1 ::
      (if x.state ≠ 6 then [] else
       [.count (Prm.PTP_DRESP_TX p) 1,
        .emit (.packet 6 p (ptpHeader s p 9 54 0 seq corr 3 (bitsOf (s.pn Prm.TIM_PTP_INTERVALS) 7 0) ++ ptpStamp s.stamp ++ beBytes 10 src))])
  else
    .count (Prm.PTP_DRESP_RX p) 1 ::
      (if !mine ∨ netN m 44 10 ≠ portId s p then [] else
       match x.req, x.ms with
       | some (q, t3), some ms =>
         if q ≠ seq then [] else
         let d := (ms + ((ptpTime m 34 : Int) - t3 - corr)) / 2
         effPtp p (fun y => { y with delay := some d, req := none }) :: .prm (Prm.PTP_MEAN_DELAY p) (w32 (sat32 (d / 16384))) ::
           (if x.delay.isNone then effPtp p (fun y => { y with offset := ms - d }) :: measure (ms - d) s else [])
       | _, _ => [])

/-- The length each used type needs. -/
def ptpMin (typ : Nat) : Nat := if typ = 11 then 64 else if typ = 9 then 54 else 44

/-- R523, R528, R529: a PTP message arrives at a port. Messages of other domains are not for the device; unsupported ones are
dropped and counted in PTP_BAD_RX. -/
def actPtpMessage (p : Fin 4) (m : Bytes) : Act := fun s =>
  let typ := netN m 0 1 % 16
  if !ptpOn s p then []
  else if m.length < 34 ∨ netN m 1 1 % 16 ≠ 2 ∨ ([0, 1, 8, 9, 11].contains typ = false) ∨ m.length < ptpMin typ
  then [.count (Prm.PTP_BAD_RX p) 1]
  else if netN m 4 1 ≠ s.pn Prm.TIM_PTP_DOMAIN then [] else ptpUse p m s

def execPtpMessage (p : Fin 4) (msg : Bytes) (s : State) : Host.Outcome State Fault Refusal := (actPtpMessage p msg).outcome s

/-- R528, R529: a port in master state sends Announce (0) or a two-step Sync with its Follow_Up (1); a port in slave state
sends Delay_Req (2). -/
def actPtpSend (p : Fin 4) (kind : Fin 3) : Act := fun s =>
  let x := s.ptp p
  let iv := s.pn Prm.TIM_PTP_INTERVALS
  let next := effPtp p fun y => { y with seqOut := (y.seqOut + 1) % 65536 }
  if !ptpOn s p then [] else
  if kind.val = 2 then
    (if x.state ≠ 9 then [] else
     [next, effPtp p fun y => { y with req := some (x.seqOut, (s.stamp : Int)) }, .count (Prm.PTP_DREQ_TX p) 1,
      .emit (.packet 6 p (ptpHeader s p 1 44 0 x.seqOut (-asym s p) 1 0x7F ++ List.replicate 10 0))])
  else if x.state ≠ 6 ∨ bitOf (s.pn (Prm.PTP_PORT_CFG p)) 2 then []
  else if kind.val = 0 then
    let o := match (List.range 4).find? (fun q => (s.ptp q).state == 9) with
      | some q => let y := s.ptp q; (y.prio1, y.gmClass, y.gmAcc, y.gmVar, y.prio2, y.gmId, y.steps + 1)
      | none => (s.pn Prm.TIM_PTP_PRIORITY / 256, s.pn Prm.TIM_PTP_CLASS, 0xFE, 0xFFFF, s.pn Prm.TIM_PTP_PRIORITY % 256, clockId s, 0)
    [next, .count (Prm.PTP_ANN_TX p) 1,
     .emit (.packet 6 p (ptpHeader s p 11 64 0x0008 x.seqOut 0 5 (bitsOf iv 23 16) ++ ptpStamp s.stamp ++
       beBytes 2 (s.pn Prm.TIM_UTC_OFFSET) ++ [0] ++ leBytes 1 o.1 ++ leBytes 1 o.2.1 ++ leBytes 1 o.2.2.1 ++ beBytes 2 o.2.2.2.1 ++
       leBytes 1 o.2.2.2.2.1 ++ beBytes 8 o.2.2.2.2.2.1 ++ beBytes 2 o.2.2.2.2.2.2 ++ [0xA0]))]
  else
    [next, .count (Prm.PTP_SYNC_TX p) 1,
     .emit (.packet 6 p (ptpHeader s p 0 44 0x0200 x.seqOut 0 0 (bitsOf iv 15 8) ++ List.replicate 10 0)),
     .emit (.packet 6 p (ptpHeader s p 8 44 0 x.seqOut ((s.stamp % NS : Nat) : Int) 2 (bitsOf iv 15 8) ++ ptpStamp s.stamp))]

def execPtpSend (p : Fin 4) (kind : Fin 3) (s : State) : Host.Outcome State Fault Refusal := (actPtpSend p kind).outcome s

/-- R526: no accepted time message for TIM_PTP_ANN_TIMEOUT intervals, on a port, or (none) from the master over XPL. -/
def actPtpAnnounceTimeout (p : Option (Fin 4)) : Act :=
  match p with
  | some p => fun s =>
    let was := (s.ptp p).state == 9 && servoMode s == 1
    acts [eff [.count (Prm.PTP_ANN_TIMEOUTS p) 1, effPtp p fun x => { x with heard := false, delay := none, ms := none, waiting := none, req := none }],
      if was then loseLock else eff [], bmca] s
  | none => Act.when (fun s => servoMode s == 3) loseLock

def execPtpAnnounceTimeout (p : Option (Fin 4)) (s : State) : Host.Outcome State Fault Refusal :=
  (actPtpAnnounceTimeout p).outcome s

/-! ### Time across packages (R532 to R535) -/

/-- This package as a candidate sees itself. -/
def selfPeer (s : State) : Peer :=
  ⟨0, 0, bitOf (s.pn Prm.TIM_SERVO) 4, timFld s Fld.TIM_STATE.LOCKED == 1, timFld s Fld.TIM_STATE.HOLDOVER == 1, true⟩

/-- The reachable packages with their state, this one among them, in rising order of PKG_ID. -/
def reachables (s : State) : List (Nat × Peer) :=
  ((s.tim.peers.put (s.fld Reg.HUB_TOPOLOGY Fld.HUB_TOPOLOGY.PKG_ID) (selfPeer s)).entries).filter fun e => e.2.reachable

/-- The candidates (R532): those with MASTER_CAND set, or every reachable package. -/
def candidates (s : State) : List (Nat × Peer) :=
  let c := (reachables s).filter fun e => e.2.candidate
  if c.isEmpty then reachables s else c

/-- The package R532 chooses: a locked candidate before others, then the lowest PKG_ID. -/
def chooseMaster (s : State) : Option Nat :=
  match ((candidates s).filter fun e => e.2.locked).head? with
  | some e => some e.1
  | none => (candidates s).head?.map (·.1)

/-- R535: the master stays unless it is unreachable, or in holdover while another candidate is locked. -/
def masterStays (s : State) : Bool :=
  match s.tim.master with
  | none => false
  | some m =>
    match (reachables s).find? (fun e => e.1 == m) with
    | none => false
    | some e => !(e.2.holdover && (candidates s).any (fun x => x.1 != m && x.2.locked))

/-- R532, R535: the time master is chosen, and changes only in the two cases of R535. -/
def electMaster : Act := fun s =>
  if masterStays s then [] else
  let new := chooseMaster s
  if new = s.tim.master then [] else
  acts [eff ([.tim fun t => { t with master := new }] ++
      (if s.tim.master.isSome then [.count Prm.TIM_MASTER_CHANGES 1, .raise 215] else [])), servoSync, bmca] s

/-- R533: a two-way exchange with a peer completes. Its θ is the peer's time minus this package's; a follower steers by the
master's. The exchange also carries the peer's candidate and lock state. -/
def actXplTimeExchange (peer : Fin 16) (candidate locked holdover : Bool) (t1 t2 t3 t4 cd cu : Nat) : Act := fun s =>
  if peer.val = s.fld Reg.HUB_TOPOLOGY Fld.HUB_TOPOLOGY.PKG_ID then [] else
  let theta := (((t2 : Int) - t1 - cd) - ((t4 : Int) - cu - t3)) / 2
  let hops := s.fld (Reg.XPL_ROUTE peer) Fld.XPL_ROUTE.HOPS
  acts [eff [.tim fun t => { t with peers := t.peers.put peer ⟨hops, theta, candidate, locked, holdover, true⟩ }],
    electMaster,
    fun s' => if s'.tim.master = some peer.val ∧ servoMode s' = 3 then measure (-theta) s' else []] s

def execXplTimeExchange (peer : Fin 16) (candidate locked holdover : Bool) (t1 t2 t3 t4 cd cu : Nat) (s : State) :
    Host.Outcome State Fault Refusal :=
  (actXplTimeExchange peer candidate locked holdover t1 t2 t3 t4 cd cu).outcome s

/-- A package is no longer reachable over XPL; a follower without a master enters holdover (R535). -/
def peerLost (pkg : Nat) : Act := acts [
  eff [.tim fun t => { t with peers := t.peers.alter pkg fun p => { p with reachable := false } }],
  fun s => if s.tim.master = some pkg then acts [loseLock, electMaster] s else []]

end Sys2Proof.Machine
end

