-- ==== Sys2Proof/Machine/Packets.lean ====
section
/-! DEFINITION. Ethernet frames, ingress and egress of streams (chapter 09; rows ETH_FRAME_RX to ETH_LINK_CHANGE and
STR_CTX_DELETE). The formats of Ethernet, IP, UDP, RTP, ST 2110 and of the neighbour and group protocols are those of the
standards that R325 names (PRESUMED, notes/assumptions/38). -/
namespace Sys2Proof.Machine

/-! ### Frames that the port sends -/

/-- The port's own addresses. A MAC of 0 selects the fused address plus the port (R364). -/
def ownMac (s : State) (p : Nat) : Nat :=
  let m := s.pn64 (Prm.ETH_MAC_LO p)
  if m = 0 then (s.otp.mac + p) % 2 ^ 48 else m % 2 ^ 48

def ownIp4 (s : State) (p : Nat) : Bytes := beBytes 4 (s.pn (Prm.ETH_IPV4 p))
def ownIp6 (s : State) (p : Nat) : Bytes := (List.range 4).flatMap fun i => beBytes 4 (s.pn (Prm.ETH_IPV6_0 p + i))

/-- One frame sent: addresses, the tag of ETH_VLAN, type, body padded to the least size, FCS; and its counters. -/
def sendFrame (s : State) (p : Nat) (dst : Bytes) (type : Nat) (body : Bytes) : List Eff :=
  let v := s.pn (Prm.ETH_VLAN p)
  let tag := if bitOf v 15 then beBytes 2 0x8100 ++ beBytes 2 (v % 32768) else []
  let f := dst ++ beBytes 6 (ownMac s p) ++ tag ++ beBytes 2 type ++ body
  let f := f ++ List.replicate (60 - f.length) 0
  [.emit (.packet 2 p (f ++ leBytes 4 (crc32 f))), .count64 (Prm.ETH_TX_FRAMES_LO p) 1, .count64 (Prm.ETH_TX_BYTES_LO p) (f.length + 4)]

/-- The ones-complement sum of 16-bit words, an odd last byte padded with 0. -/
def ipSum : Bytes → Nat
  | a :: b :: t => a.toNat * 256 + b.toNat + ipSum t
  | [a] => a.toNat * 256
  | [] => 0

def foldSum (n : Nat) : Nat := let a := n % 65536 + n / 65536; let b := a % 65536 + a / 65536; b % 65536 + b / 65536

/-- The internet checksum of a list of bytes. -/
def ipChecksum (bs : Bytes) : Nat := 65535 - foldSum (ipSum bs)

/-- An IPv4 packet with the port's DSCP. -/
def ip4Packet (s : State) (p : Nat) (dst : Bytes) (proto ttl : Nat) (opts body : Bytes) : Bytes :=
  let h := fun ck => [BitVec.ofNat 8 (0x45 + opts.length / 4), BitVec.ofNat 8 (s.pn (Prm.ETH_IP_CFG p) / 256 % 64 * 4)] ++
    beBytes 2 (20 + opts.length + body.length) ++ [0, 0, 0, 0] ++ leBytes 1 ttl ++ leBytes 1 proto ++ beBytes 2 ck ++ ownIp4 s p ++ dst ++ opts
  h (ipChecksum (h 0)) ++ body

/-- An IPv6 packet with the port's DSCP. -/
def ip6Packet (s : State) (p : Nat) (src dst : Bytes) (next hop : Nat) (body : Bytes) : Bytes :=
  beBytes 4 (6 * 2 ^ 28 + s.pn (Prm.ETH_IP_CFG p) / 256 % 64 * 2 ^ 22) ++ beBytes 2 body.length ++ leBytes 1 next ++ leBytes 1 hop ++ src ++ dst ++ body

/-- The pseudo header of UDP and ICMPv6. -/
def pseudo (src dst : Bytes) (proto len : Nat) : Bytes := src ++ dst ++ beBytes 4 len ++ beBytes 4 proto

def ttlOf (s : State) (p : Nat) : Nat := s.pn (Prm.ETH_IP_CFG p) % 256

/-- The MAC of a multicast address. -/
def groupMac (v6 : Bool) (dst : Bytes) : Bytes :=
  if v6 then [0x33, 0x33] ++ dst.drop 12 else [0x01, 0x00, 0x5E] ++ leBytes 1 ((dst.getD 1 0).toNat % 128) ++ dst.drop 2

def isGroup (v6 : Bool) (dst : Bytes) : Bool := if v6 then byteAt dst 0 == 255 else byteAt dst 0 / 16 == 14

/-! ### Multicast groups (R350) -/

/-- The groups that rules in force make a port join: IPv6, group address, source for a source-specific join. -/
def groupsOf (s : State) (p : Nat) : List (Bool × Bytes × Option Bytes) :=
  ((s.objIdx K_RULE).filterMap fun i => match s.obj K_RULE i with
    | none => none
    | some b =>
      let r := b.drop 1
      let v6 := bitOf (byteAt r 8) 0
      let n := if v6 then 16 else 4
      let dst := field r 20 n
      if bitOf (byteAt r 3) p && isGroup v6 dst && byteAt r 6 == 8 * n
      then some (v6, dst, if byteAt r 7 = 8 * n then some (field r 36 n) else none) else none).eraseDups

/-- Reports of the groups joined, as an IGMPv3 or MLDv2 query is answered. -/
def groupReport (s : State) (p : Nat) (v6 : Bool) : List Eff :=
  let gs := (groupsOf s p).filter fun g => g.1 == v6
  let recs := gs.flatMap fun g => (match g.2.2 with
    | none => [2, 0, 0, 0] ++ g.2.1
    | some src => [1, 0, 0, 1] ++ g.2.1 ++ src)
  if gs.isEmpty then []
  else if v6 then
    let dst : Bytes := [0xFF, 0x02] ++ List.replicate 13 0 ++ [0x16]
    let body := fun ck => [143#8, 0] ++ beBytes 2 ck ++ [0, 0] ++ beBytes 2 gs.length ++ recs
    let icmp := body (ipChecksum (pseudo (ownIp6 s p) dst 58 (body 0).length ++ body 0))
    sendFrame s p (groupMac true dst) 0x86DD (ip6Packet s p (ownIp6 s p) dst 0 1 ([58, 0, 5, 2, 0, 0, 1, 0] ++ icmp))
  else
    let body := fun ck => [0x22#8, 0] ++ beBytes 2 ck ++ [0, 0] ++ beBytes 2 gs.length ++ recs
    sendFrame s p (groupMac false [224, 0, 0, 22]) 0x0800 (ip4Packet s p [224, 0, 0, 22] 2 1 [0x94, 4, 0, 0] (body (ipChecksum (body 0))))

/-- ETH_GROUPS follows the rules in force; a port whose groups changed reports them. -/
def syncGroups : Act := actsFor (List.range 4) fun p => fun s => [.prm (Prm.ETH_GROUPS p) (w32 (groupsOf s p).length)]

/-! ### Parsing -/

/-- A UDP packet as the classifier sees it. -/
structure Pkt where
  port : Nat
  vlan : Option Nat
  v6 : Bool
  src : Bytes
  dst : Bytes
  sport : Nat
  dport : Nat
  body : Bytes
  /-- UDP checksum holds; the packet is no fragment, carries no options and one tag at most. -/
  sound : Bool
  /-- Bytes from the destination MAC through the FCS. -/
  wire : Nat
  arrived : Nat
  deriving DecidableEq, Repr

/-- VLAN tag and the offset of the type field. -/
def tagOf (f : Bytes) : Option Nat × Nat := if beNat (field f 12 2) = 0x8100 then (some (beNat (field f 14 2) % 4096), 16) else (none, 12)

/-- The UDP packet in a frame; none where the frame holds none. -/
def parseUdp (port arrived : Nat) (f : Bytes) : Option Pkt :=
  let t := tagOf f
  let type := beNat (field f t.2 2)
  let ip := (f.drop (t.2 + 2)).take (f.length - t.2 - 6)
  let udpOf := fun (v6 whole : Bool) (src dst u : Bytes) =>
    let len := beNat (field u 4 2)
    let ck := beNat (field u 6 2)
    let u' := u.take len
    let good := ck == 0 && !v6 || foldSum (ipSum (pseudo src dst 17 len ++ u')) == 65535
    if u.length < 8 then none
    else some (⟨port, t.1, v6, src, dst, beNat (field u 0 2), beNat (field u 2 2), u'.drop 8,
      whole && good && decide (8 ≤ len) && decide (len ≤ u.length), f.length, arrived⟩ : Pkt)
  if type = 0x0800 then
    let ihl := 4 * (byteAt ip 0 % 16)
    let frag := beNat (field ip 6 2) % 16384
    if byteAt ip 0 / 16 ≠ 4 ∨ ihl < 20 ∨ byteAt ip 9 ≠ 17 ∨ frag % 8192 ≠ 0 then none
    else udpOf false (ihl == 20 && frag == 0 && ipChecksum (ip.take ihl) == 0) (field ip 12 4) (field ip 16 4) ((ip.take (beNat (field ip 2 2))).drop ihl)
  else if type = 0x86DD then
    if byteAt ip 0 / 16 ≠ 6 ∨ byteAt ip 6 ≠ 17 then none
    else udpOf true true (field ip 8 16) (field ip 24 16) ((ip.drop 40).take (beNat (field ip 4 2)))
  else none

/-! ### Classification (R344, R345) -/

/-- The first k bits of two addresses agree. -/
def prefixEq (k : Nat) (a b : Bytes) : Bool := beNat a / 2 ^ (8 * a.length - k) == beNat b / 2 ^ (8 * b.length - k)

/-- A packet matches a rule of 64 bytes. -/
def ruleMatches (r : Bytes) (k : Pkt) : Bool :=
  let v := fieldN r 4 2
  let n := if k.v6 then 16 else 4
  bitOf (byteAt r 3) k.port && (!bitOf v 12 || k.vlan == some (v % 4096)) && (!bitOf v 13 || k.vlan.isNone) &&
  bitOf (byteAt r 8) 0 == k.v6 && prefixEq (byteAt r 6) (field r 20 n) k.dst && prefixEq (byteAt r 7) (field r 36 n) k.src &&
  decide (fieldN r 12 2 ≤ k.dport) && decide (k.dport ≤ fieldN r 14 2) &&
  (!bitOf (byteAt r 8) 1 || fieldN r 16 4 == beNat (field k.body 8 4))

/-- The context of the winning rule. -/
def classify (s : State) (k : Pkt) : Option Nat :=
  ((s.objIdx K_RULE).foldl (fun (best : Option (Nat × Nat)) i =>
    match s.obj K_RULE i with
    | none => best
    | some b =>
      let r := b.drop 1
      if !ruleMatches r k then best
      else match best with
        | none => some (byteAt r 2, fieldN r 0 2)
        | some (p, c) => if p < byteAt r 2 then some (byteAt r 2, fieldN r 0 2) else some (p, c)) none).map (·.2)

/-! ### Video samples (ST 2110-20) -/

/-- Bytes, pixels and lines of a pixel group of a FORMAT. -/
def pgroup (f : Nat) : Nat × Nat × Nat :=
  let d := vDepth f
  match vSampling f with
  | 0 => (d / 2, 2, 1)
  | 3 => if d = 10 then (15, 4, 2) else (6 * d / 8, 2, 2)
  | _ => if d = 10 then (15, 4, 1) else if d = 12 then (9, 2, 1) else (3 * d / 8, 1, 1)

/-- Where the n-th sample of a pixel group goes: plane (0 to 2), line and column within the group; the order of the samples is
that of the standard. -/
def pgPlace (f n : Nat) : Nat × Nat × Nat :=
  match vSampling f with
  | 0 => [(1, 0, 0), (0, 0, 0), (2, 0, 0), (0, 0, 1)].getD n (0, 0, 0)
  | 3 => let b := n / 6
         [(0, 0, 2 * b), (0, 0, 2 * b + 1), (0, 1, 2 * b), (0, 1, 2 * b + 1), (1, 0, b), (2, 0, b)].getD (n % 6) (0, 0, 0)
  | 2 => (n % 3, 0, n / 3)
  | _ => ([1, 0, 2].getD (n % 3) 0, 0, n / 3)

/-- Samples in a pixel group. -/
def pgCount (f : Nat) : Nat := 8 * (pgroup f).1 / vDepth f

/-- The samples of one pixel group, from its bytes. -/
def pgSamples (f : Nat) (bs : Bytes) : List Nat :=
  let n := pgCount f
  let d := vDepth f
  (List.range n).map fun i => beNat bs / 2 ^ (d * (n - 1 - i)) % 2 ^ d

/-- One sample row data header: length, line, offset in pixels. -/
structure Srd where
  len : Nat
  row : Nat
  off : Nat
  deriving DecidableEq, Repr

/-- The headers of a payload after the extended sequence number, at most k; none where they are bad. -/
def srdHeaders : Nat → Bytes → Option (List Srd × Bytes)
  | 0, _ => none
  | k + 1, bs =>
    if bs.length < 6 then none else
    let row := beNat (field bs 2 2)
    let off := beNat (field bs 4 2)
    let h : Srd := ⟨beNat (field bs 0 2), row % 32768, off % 32768⟩
    if bitOf row 15 then none
    else if bitOf off 15 then (srdHeaders k (bs.drop 6)).map fun r => (h :: r.1, r.2)
    else some ([h], bs.drop 6)

/-- R352: row data lies within the frame and is whole pixel groups. -/
def srdOk (d : Bytes) (hs : List Srd) (body : Bytes) : Bool :=
  let g := pgroup (dFormat d)
  hs.all (fun h => h.len % g.1 == 0 && h.off % g.2.1 == 0 && h.row % g.2.2 == 0 &&
    decide (h.off + h.len / g.1 * g.2.1 ≤ dWidth d) && decide (h.row + g.2.2 ≤ dHeight d)) &&
  decide ((hs.map (·.len)).foldl (· + ·) 0 ≤ body.length)

/-- Writes of one sample into the slot at an address (R337): left-justified in 16 bits. A 4:4:4 picture's components go to the
three colours of its format in an order the spec does not state, so a free one (notes/assumptions/39). -/
def putSample (k : Ring) (d : Bytes) (slot plane row col v : Nat) : Eff :=
  let f := dFormat d
  let x := leBytes 2 (v * 2 ^ (16 - vDepth f))
  match vSampling f with
  | 0 => if plane = 0 then ringWrite (slot + k.planes.getD 0 0 + k.pitch * row + 2 * col) x
         else ringWrite (slot + k.planes.getD 1 0 + k.pitch * row + 4 * col + 2 * (plane - 1)) x
  | 3 => if plane = 0 then ringWrite (slot + k.planes.getD 0 0 + k.pitch * row + 2 * col) x
         else ringWrite (slot + k.planes.getD 1 0 + k.pitch * (row / 2) + 4 * col + 2 * (plane - 1)) x
  | 2 => ringWrite (slot + k.planes.getD 0 0 + k.pitch * row + 8 * col + 2 * plane) x
  | _ => ringWrite (slot + k.planes.getD 0 0 + k.pitch * row + 8 * col + 2 * ((plane + Config.freeAt 44 []) % 3)) x

/-- All samples of one stretch of row data. -/
def putSrd (k : Ring) (d : Bytes) (slot : Nat) (h : Srd) (body : Bytes) : List Eff :=
  let f := dFormat d
  let g := pgroup f
  let half := if vSampling f = 0 ∨ vSampling f = 3 then 2 else 1
  (List.range (h.len / g.1)).flatMap fun i =>
    (pgSamples f (field body (g.1 * i) g.1)).zipIdx.map fun v =>
      let p := pgPlace f v.2
      let col0 := h.off + g.2.1 * i
      putSample k d slot p.1 (h.row + p.2.1) ((if p.1 = 0 then col0 else col0 / half) + p.2.2) v.1

def putSrds (k : Ring) (d : Bytes) (slot : Nat) : List Srd → Bytes → List Eff
  | [], _ => []
  | h :: t, body => putSrd k d slot h body ++ putSrds k d slot t (body.drop h.len)

/-! ### Frame assembly (R353, R354) -/

/-- The slots of a context's ring that a layer holds (R392). -/
def heldSlots (s : State) (i : Nat) (slots : Nat) : List Nat :=
  if slots = 0 then [] else
  (s.objIdx K_LAYER).filterMap fun l => match s.obj K_LAYER l, s.wall.layers.find l with
    | some b, some x => if fieldN b 1 1 = 1 ∧ fieldN b 5 2 = i then x.held.map (· % slots) else none
    | _, _ => none

/-- The next record number whose slot no layer holds. -/
def nextRecord (s : State) (i : Nat) (x : StrCtx) : Option Nat :=
  let n := dSlots x.desc
  ((List.range n).map fun k => (x.writeSeq + 1 + k) % 2 ^ 32).find? fun q => !(heldSlots s i n).contains (q % n)

/-- The frame in progress of an ingress video context ends: its header, then DONE last; bound is the extended sequence it ends at. -/
def endVideo (i bound : Nat) : Act := fun s =>
  match s.ctx i with
  | none => []
  | some x =>
    match x.rx with
    | none => []
    | some r =>
      let d := x.desc
      let k := ctxRing d
      let a := slotAddr k r.seq
      let lo := match x.base with | some b => b + 1 | none => bound
      let lost := ((List.range (bound + 1 - lo)).map (lo + ·)).countP fun q => !x.seen.contains q
      let bad := r.gap || lost != 0
      let head := leBytes 4 r.ts ++ timeBytes r.first ++ leBytes 1 (vEnc (dFormat d)) ++ [0xFF] ++ leBytes 1 (if bad then 1 else 0) ++
        leBytes 1 (vMem (dFormat d)) ++ leBytes 4 (sizeWord (dHeight d) (dWidth d)) ++ leBytes 4 k.pitch ++ List.replicate 220 0
      [ringWrite a (leBytes 4 r.seq), ringWrite (a + 4) head, ringWrite (a + 252) (leBytes 4 r.seq),
       effCtx i fun x => { x with rx := none, writeSeq := r.seq, base := some bound,
                                  lastDone := if bad && dDropInc d then x.lastDone else r.seq },
       effCnt i fun n => { n with frames := satAdd 0xFFFFFFFF n.frames 1, lost := satAdd 0xFFFFFFFF n.lost lost,
                                  incomplete := if bad then satAdd 0xFFFFFFFF n.incomplete 1 else n.incomplete }]

/-- A frame starts with its first accepted packet, or is dropped and counted if every slot is held (R392). -/
def startVideo (i ts arrived : Nat) : Act := fun s =>
  match s.ctx i with
  | none => []
  | some x =>
    match nextRecord s i x with
    | none => [effCnt i fun n => { n with incomplete := satAdd 0xFFFFFFFF n.incomplete 1 }]
    | some q => [effCtx i fun x => { x with rx := some ⟨ts, q, arrived, false⟩ }, ringWrite (slotAddr (ctxRing x.desc) q) (leBytes 4 q)]

/-- An accepted video packet is written (R353). -/
def writeVideo (i q ts arrived : Nat) (marker : Bool) (hs : List Srd) (body : Bytes) : Act := acts [
  (fun s => match s.ctx i with
    | some x => (match x.rx with
      | some r => if r.ts ≠ ts then endVideo i (q - 1) s else []
      | none => [])
    | none => []),
  (fun s => match s.ctx i with
    | some x => if x.rx.isNone then startVideo i ts arrived s else []
    | none => []),
  (fun s => match s.ctx i with
    | some x => (match x.rx with
      | some r => putSrds (ctxRing x.desc) x.desc (slotAddr (ctxRing x.desc) r.seq) hs body
      | none => [])
    | none => []),
  if marker then endVideo i q else eff []]

/-! ### The ingress steps (R351) -/

def dropCnt (i : Nat) (g : StrCnt → StrCnt) (total : Nat) (e : Option Nat) : Act := fun _ =>
  [effCnt i g, .count total 1] ++ (match e with | some n => [.raise n] | none => [])

def dropMalformed (i : Nat) : Act := dropCnt i (fun n => { n with malformed := satAdd 0xFFFFFFFF n.malformed 1 }) Prm.STR_MALFORMED_TOTAL (some 89)
def dropAuth (i : Nat) : Act := dropCnt i (fun n => { n with auth := satAdd 0xFFFFFFFF n.auth 1 }) Prm.STR_AUTH_FAIL_TOTAL (some 91)

/-- Length of an RTP header with its CSRCs and extension; none where the packet is not RTP version 2 (R325). -/
def rtpHeader (b : Bytes) : Option Nat :=
  let n := 12 + 4 * (byteAt b 0 % 16)
  let n := if bitOf (byteAt b 0) 4 then n + 4 + 4 * beNat (field b (n + 2) 2) else n
  if byteAt b 0 / 64 = 2 ∧ n ≤ b.length then some n else none

/-- The payload without RTP padding. -/
def rtpPayload (b : Bytes) (n : Nat) : Bytes :=
  let p := b.drop n
  if bitOf (byteAt b 0) 5 then p.take (p.length - byteAt b (b.length - 1)) else p

/-- The path a packet counts on: B of a dual context if it came on port B. -/
def onPathB (d : Bytes) (port : Nat) : Bool := dDual d && dPortB d == port

def pathOf (x : StrCtx) (b : Bool) : StrPath := if b then x.b else x.a
def setPath (b : Bool) (g : StrPath → StrPath) (x : StrCtx) : StrCtx := if b then { x with b := g x.b } else { x with a := g x.a }

/-- R351 step 2: the bucket as refilled to now, in 10^-6 bit. -/
def bucketNow (s : State) (x : StrCtx) (b : Bool) : Nat :=
  let p := pathOf x b
  min (dBurst x.desc * 8000000) (p.level + (s.uptime - p.levelAt) * dKbps x.desc * 4)

/-- The extended number of a 16-bit RTP sequence number, nearest to the highest accepted (R355). -/
def extSeq (x : StrCtx) (seq : Nat) : Int :=
  match x.high with
  | none => (65536 + seq : Nat)
  | some h => (h : Int) + sgn 16 (seq + 65536 - h % 65536)

/-- R358: a counter may be used under a key with this history. -/
def counterFresh (high : Option Nat) (seen : List Nat) (n : Nat) : Bool :=
  match high with
  | none => true
  | some h => decide (h < n + 32768) && !seen.contains n

def keepWindow (high : Nat) (seen : List Nat) : List Nat := seen.filter fun q => decide (high < q + 32768)

/-- What unsealing answers: the payload and whether the next key opened it. -/
structure Opened where
  payload : Bytes
  next : Bool
  counter : Nat
  deriving DecidableEq, Repr

/-- R357: opening one payload under one key. -/
def openWith (s : State) (h : Nat) (hdr p : Bytes) : Option Bytes :=
  match keyOf s h with
  | none => none
  | some k => Config.gcmOpen k.key (k.salt ++ field p 0 8) (hdr ++ field p 0 8) ((p.drop 8).take (p.length - 24)) (p.drop (p.length - 16))

/-- R357 to R359: the current key, then the next. -/
def openSealed (s : State) (x : StrCtx) (hdr p : Bytes) : Option Opened :=
  let n := beNat (field p 0 8)
  if p.length < 24 then none
  else match (if counterFresh x.ctrHigh x.ctrSeen n then openWith s x.key hdr p else none) with
    | some b => some ⟨b, false, n⟩
    | none => (openWith s x.nextKey hdr p).map fun b => ⟨b, true, n⟩

/-- The first packet under the next key makes it current and destroys the old one (R359). -/
def authenticated (i : Nat) (x : StrCtx) (o : Opened) : Act := acts [
  if o.next then acts [freeKey x.key, eff [effCtx i fun y => { y with key := y.nextKey, nextKey := 0, ctrHigh := none, ctrSeen := [] }]] else eff [],
  eff [effCtx i fun y =>
    let h := match y.ctrHigh with | some h => max h o.counter | none => o.counter
    { y with ctrHigh := some h, ctrSeen := keepWindow h (o.counter :: y.ctrSeen) }]]

/-- Samples of an audio packet per channel (R335, R337). -/
def audSamples (d : Bytes) : Nat :=
  let f := dFormat d
  let rate := if bitOf f 4 then 96000 else 48000
  rate / (if bitOf f 8 then 8000 else 1000)

def audWord (d : Bytes) : Nat := if bitOf (dFormat d) 0 then 3 else 2

/-- An audio payload as the ring holds it: channels interleaved, each sample 24 bits in the packing of AUD_STREAM_PACK. -/
def audPack (s : State) (d p : Bytes) : Bytes :=
  let w := audWord d
  (List.range (p.length / w)).flatMap fun n =>
    packSample (s.pn Prm.AUD_STREAM_PACK) (BitVec.ofNat 24 (beNat (field p (w * n) w) * 2 ^ (24 - 8 * w)))

/-- Slot of an audio or ancillary ring: audio by packet time, ancillary by arrival. -/
def dataSlot (x : StrCtx) (ts : Nat) : Nat :=
  let n := if dEss x.desc = 1 then ts / audSamples x.desc else x.writeSeq + 1
  dAddr x.desc + dSlotSize x.desc * (n % dSlots x.desc)

/-- Acceptance: counters, path state, last timestamp, sequence window (R355, R356, R363). -/
def accept (i : Nat) (b : Bool) (q : Nat) (k : Pkt) (ts : Nat) : Act := fun s => [
  effCtx i fun x =>
    let h := match x.high with | some h => max h q | none => q
    let x := { x with high := some h, seen := keepWindow h (q :: x.seen), lastTs := ts, arrival := k.arrived,
                      base := if x.base.isNone then some (q - 1) else x.base }
    setPath b (fun p => { p with up := true, last := s.uptime }) x,
  effCnt i fun n => { n with packets := (n.packets + 1) % 2 ^ 64, bytes := (n.bytes + k.wire) % 2 ^ 64 }]

/-- Packets missing before one accepted, of a context without frames. -/
def gapCount (i q : Nat) : Act := fun s =>
  match s.ctx i with
  | some x => (match x.high with
    | some h => if h + 1 < q then
        effCnt i (fun n => { n with lost := satAdd 0xFFFFFFFF n.lost (q - h - 1) }) ::
          (if dEss x.desc = 3 then (match s.job (dAddr x.desc % 4096) with
            | some j => (j.engines.head?.map fun e => Eff.count (Prm.CAST_RTP_LOST e) (q - h - 1)).toList
            | none => []) else [])
      else []
    | none => [])
  | none => []

/-- Steps 4 to 6 of R351 on an opened payload. -/
def deliver (i : Nat) (x : StrCtx) (k : Pkt) (p : Bytes) : Act :=
  let d := x.desc
  let b := k.body
  let pb := onPathB d k.port
  let seq := beNat (field b 2 2)
  let ts := beNat (field b 4 4)
  let q := extSeq x seq
  let old : Bool := match x.high with | some h => decide (q + 32768 ≤ h) || x.seen.contains q.toNat | none => false
  if q < 0 ∨ old then
    eff [effCnt i fun n => { n with dups := satAdd 0xFFFFFFFF n.dups 1 }]
  else if !k.sound ∨ byteAt b 1 % 128 ≠ dPt d ∨ (dSsrcFixed d ∧ beNat (field b 8 4) ≠ dSsrc d) then dropMalformed i
  else match dEss d with
    | 0 =>
      let early : Bool := match x.rx with | some r => decide (2 ^ 31 ≤ (ts + 2 ^ 32 - r.ts) % 2 ^ 32) | none => false
      (match srdHeaders 3 (p.drop 2) with
       | none => dropMalformed i
       | some (hs, body) =>
         if early ∨ !srdOk d hs body then dropMalformed i
         else acts [accept i pb q.toNat k ts, writeVideo i q.toNat ts k.arrived (bitOf (byteAt b 1) 7) hs body])
    | 1 =>
      if p.length % (audWord d * (dSize d)) ≠ 0 then dropMalformed i
      else acts [gapCount i q.toNat, accept i pb q.toNat k ts, fun s =>
        [ringWrite (dataSlot x ts) ((audPack s d p).take (dSlotSize d)), effCtx i fun y => { y with writeSeq := y.writeSeq + 1 }]]
    | 2 => acts [gapCount i q.toNat, accept i pb q.toNat k ts,
        eff [ringWrite (dataSlot x ts) (p.take (dSlotSize d)), effCtx i fun y => { y with writeSeq := y.writeSeq + 1 }]]
    | _ => acts [gapCount i q.toNat, accept i pb q.toNat k ts, castRtp (dAddr d % 4096) ts p]

/-- R351: a classified packet passes its context. -/
def ingress (i : Nat) (k : Pkt) : Act := fun s =>
  match s.ctx i with
  | none => []
  | some x =>
    let d := x.desc
    let pb := onPathB d k.port
    let cost := k.wire * 8000000
    let have' := bucketNow s x pb
    if !x.enabled then dropCnt i (fun n => { n with disabled := satAdd 0xFFFFFFFF n.disabled 1 }) Prm.STR_DISABLED_DROPS none s
    else if have' < cost then
      dropCnt i (fun n => { n with policed := satAdd 0xFFFFFFFF n.policed 1 }) Prm.STR_POLICED_TOTAL (some 90) s
    else
      let paid := effCtx i (setPath pb fun p => { p with level := have' - cost, levelAt := s.uptime })
      acts [eff (paid :: (if dSealed d then [.count64 Prm.SEC_GCM_OPS_LO 1] else [])),
        match rtpHeader k.body with
        | none => dropMalformed i
        | some n =>
          let p := rtpPayload k.body n
          if !dSealed d then deliver i x k p
          else match openSealed s x (k.body.take n) p with
            | none => dropAuth i
            | some o => acts [authenticated i x o, deliver i x k o.payload]] s

/-! ### Misses -/

/-- Bytes that wait for misses on a port (R341). -/
def waitingBytes (s : State) (p : Nat) : Nat := ((s.str.waiting.filter fun w => w.port == p).map (·.bytes.length)).foldl (· + ·) 0

/-- R340, R341: a classified packet meets the cache. -/
def meetCache (i : Nat) (k : Pkt) (frame : Bytes) : Act := fun s =>
  let waits := s.str.waiting.any fun w => w.ctx == i
  if s.str.cache.contains i ∧ !waits then acts [cacheLoad i, ingress i k] s
  else
    (if waits then [] else [.count64 Prm.STR_MISSES_LO 1, effStr fun t => { t with missWin := t.missWin + 1 },
      effCnt i fun n => { n with misses := satAdd 0xFFFFFFFF n.misses 1 }]) ++
    (if 262144 < waitingBytes s k.port + frame.length then [.count (Prm.ETH_MISS_DROPS k.port) 1]
     else [effStr fun t => { t with waiting := t.waiting ++ [⟨k.port, i, k.arrived, frame⟩] }])

/-- The packets of one context that wait are handled in order. -/
def releaseWaiting (i : Nat) : Act := fun s =>
  let ws := s.str.waiting.filter fun w => w.ctx == i
  acts [eff [effStr fun t => { t with waiting := t.waiting.filter fun w => w.ctx != i }],
    actsFor ws fun w => match parseUdp w.port w.arrived w.bytes with
      | none => eff []
      | some k => ingress i k] s

/-- R340: the entry that waited longest arrives; the packets that wait for it pass in order. -/
def actCtxMissFill : Act := fun s =>
  match s.str.waiting with
  | [] => []
  | w :: _ => acts [cacheLoad w.ctx, releaseWaiting w.ctx] s

def execCtxMissFill (s : State) : Host.Outcome State Fault Refusal := actCtxMissFill.outcome s

/-- R343: a 1 ms window ends. -/
def actMissStormWindow : Act := fun s =>
  let storm := decide (s.pn Prm.STR_MISS_STORM_T < s.str.missWin)
  raiseIf storm 88 ++ (if storm then [.count Prm.STR_STORMS 1] else []) ++ [effStr fun t => { t with missWin := 0 }]

def execMissStormWindow (s : State) : Host.Outcome State Fault Refusal := actMissStormWindow.outcome s

/-! ### A frame arrives -/

/-- R326: ARP, neighbour solicitation, and the queries of IGMP and MLD; none where the frame is none of these. -/
def answerFrame (s : State) (p : Nat) (f : Bytes) : Option (List Eff) :=
  let t := tagOf f
  let type := beNat (field f t.2 2)
  let b := f.drop (t.2 + 2)
  let mac := beBytes 6 (ownMac s p)
  if type = 0x0806 then
    some (if beNat (field b 6 2) = 1 ∧ field b 24 4 = ownIp4 s p ∧ s.pn (Prm.ETH_IPV4 p) ≠ 0 then
      sendFrame s p (field b 8 6) 0x0806 (beBytes 2 1 ++ beBytes 2 0x0800 ++ [6, 4] ++ beBytes 2 2 ++ mac ++ ownIp4 s p ++ field b 8 10)
    else [])
  else if type = 0x0800 ∧ byteAt b 9 = 2 then
    some (if byteAt b (4 * (byteAt b 0 % 16)) = 0x11 then groupReport s p false else [])
  else if type = 0x86DD ∧ byteAt b 6 = 58 ∧ byteAt b 40 = 135 then
    some (if field b 48 16 = ownIp6 s p then
      let body := fun ck => [136#8, 0] ++ beBytes 2 ck ++ [0x60, 0, 0, 0] ++ ownIp6 s p ++ [2, 1] ++ mac
      sendFrame s p (field f 6 6) 0x86DD (ip6Packet s p (ownIp6 s p) (field b 8 16) 58 255
        (body (ipChecksum (pseudo (ownIp6 s p) (field b 8 16) 58 (body 0).length ++ body 0))))
    else [])
  else if type = 0x86DD ∧ ((byteAt b 6 = 58 ∧ byteAt b 40 = 130) ∨ (byteAt b 6 = 0 ∧ byteAt b 40 = 58 ∧ byteAt b 48 = 130)) then
    some (groupReport s p true)
  else none

/-- The RTP payload types of RTCP. -/
def isRtcp (b : Bytes) : Bool := byteAt b 0 / 64 == 2 && decide (200 ≤ byteAt b 1) && decide (byteAt b 1 ≤ 204)

/-- R326, R327, R345, R351, R352: an Ethernet frame, destination MAC through FCS, has been received. -/
def actEthFrameRx (p : Fin 4) (fcsOk room : Bool) (frame : Bytes) : Act := fun s =>
  let big := decide (frame.length < 64) || decide (s.pn (Prm.ETH_MTU p) + 22 < frame.length)
  let type := beNat (field frame (tagOf frame).2 2)
  if !bitOf (s.pn (Prm.ETH_PORT_CFG p)) 31 then []
  else
    [.count64 (Prm.ETH_RX_FRAMES_LO p) 1, .count64 (Prm.ETH_RX_BYTES_LO p) frame.length] ++
    (if !fcsOk then [.count (Prm.ETH_FCS_ERRS p) 1]
     else if big then [.count (Prm.ETH_SIZE_ERRS p) 1]
     else if !room then [.count (Prm.ETH_CLASS_DROPS p) 1]
     else if type = 0x8808 then [.count (Prm.ETH_CTRL_RX p) 1]
     else match answerFrame s p frame with
      | some es => es
      | none => (match parseUdp p s.vis frame with
        | none => [.count (Prm.ETH_UNCLASSIFIED p) 1]
        | some k =>
          if k.dport = 319 ∨ k.dport = 320 then actPtpMessage p k.body s
          else if isRtcp k.body then [.count (Prm.ETH_CTRL_RX p) 1]
          else match classify s k with
            | none => [.count (Prm.ETH_UNCLASSIFIED p) 1]
            | some i => meetCache i k frame s))

def execEthFrameRx (p : Fin 4) (fcsOk room : Bool) (frame : Bytes) (s : State) : Host.Outcome State Fault Refusal :=
  (actEthFrameRx p fcsOk room frame).outcome s

/-- R338: the context's packets drain, then its index is free. -/
def hStrCtxDelete (c : Svc) (s : State) : Reply :=
  let i := c.n 0 2
  checks [c.badLen 4, (4095 < i, ST_BAD_PARAM), c.rsv 2 2, ((namedCtx c s i).isNone, ST_NO_CONTEXT),
    (ruleNames s i || layerNames s 1 i || outputNames s 2 i, ST_CONFLICT)]
    (.ok [] (acts [releaseWaiting i,
      eff [effStr fun t => { t with ctxs := t.ctxs.del i, cache := t.cache.filter (· != i) }],
      syncPinned, fun s => [.prm Prm.STR_CTX_USED (w32 s.str.ctxs.size)]]))

def execStrCtxDelete (s : State) : Host.Outcome State Fault Refusal := (turn 0x601 hStrCtxDelete).outcome s

/-- R356: a path that delivered no accepted packet for ETH_PATH_LOSS_US of its port is lost. The row says that the time has passed. -/
def actPathLoss (i : Fin 4096) (pathB : Bool) : Act := fun s =>
  match s.ctx i with
  | none => []
  | some x =>
    if !dDual x.desc ∨ !(pathOf x pathB).up then []
    else [effCtx i (setPath pathB fun p => { p with up := false }), .raise (84 + (if pathB then dPortB x.desc else dPortA x.desc))]

def execPathLoss (i : Fin 4096) (pathB : Bool) (s : State) : Host.Outcome State Fault Refusal := (actPathLoss i pathB).outcome s

/-- R353: two frame periods without an accepted packet end the frame in progress. -/
def actStreamFrameTimeout (i : Fin 4096) : Act := fun s =>
  match s.ctx i with
  | none => []
  | some x => match x.high with
    | some h => endVideo i h s
    | none => []

def execStreamFrameTimeout (i : Fin 4096) (s : State) : Host.Outcome State Fault Refusal := (actStreamFrameTimeout i).outcome s

/-- R681 names the links whose state the ports report: E080 + port, ETH_STATE and ETH_LINK_CHANGES. -/
def actEthLinkChange (p : Fin 4) (up fec aligned : Bool) : Act := fun _ =>
  let b := fun (v : Bool) => if v then 1 else 0
  [.prm (Prm.ETH_STATE p) (w32 (b up + 2 * b fec + 4 * b aligned)), .count (Prm.ETH_LINK_CHANGES p) 1, .raise (80 + p)]

def execEthLinkChange (p : Fin 4) (up fec aligned : Bool) (s : State) : Host.Outcome State Fault Refusal := (actEthLinkChange p up fec aligned).outcome s

/-! ### Egress (R360, R361) -/

/-- Bytes of an RTP payload that fit a packet of the port. -/
def roomFor (s : State) (d : Bytes) (p : Nat) : Nat :=
  s.pn (Prm.ETH_MTU p) - (if dIpv6 d then 40 else 20) - 8 - 12 - (if dSealed d then 24 else 0)

/-- R357, R358: the payload of a packet as the wire carries it. -/
def sealPayload (s : State) (x : StrCtx) (hdr p : Bytes) : Bytes :=
  if !dSealed x.desc then p else
  let n := beBytes 8 x.ctrNext
  match keyOf s x.key with
  | none => []
  | some k => n ++ Config.gcmSeal k.key (k.salt ++ n) (hdr ++ n) p

/-- A sealed context without a usable key sends nothing (R652, R655). -/
def keyMissing (s : State) (x : StrCtx) : Bool := dSealed x.desc && ((keyOf s x.key).isNone || decide (2 ^ 48 ≤ x.ctrNext))

/-- One RTP packet to one path. -/
def sendRtp (s : State) (x : StrCtx) (pathB : Bool) (pay : Bytes) : List Eff :=
  let d := x.desc
  let p := if pathB then dPortB d else dPortA d
  let v6 := dIpv6 d
  let dst := field d (if pathB then 64 else 48) (if v6 then 16 else 4)
  let mac := if isGroup v6 dst then groupMac v6 dst else field d (if pathB then 86 else 80) 6
  let src := if v6 then ownIp6 s p else ownIp4 s p
  let udp := fun ck => beBytes 2 (fieldN d 94 2) ++ beBytes 2 (fieldN d 92 2) ++ beBytes 2 (8 + pay.length) ++ beBytes 2 ck ++ pay
  let ck := ipChecksum (pseudo src dst 17 (8 + pay.length) ++ udp 0)
  let u := udp (if ck = 0 then 65535 else ck)
  if !bitOf (s.pn (Prm.ETH_STATE p)) 0 then [.count (Prm.ETH_TX_DROPS p) 1]
  else if v6 then sendFrame s p mac 0x86DD (ip6Packet s p src dst 17 (ttlOf s p) u)
  else sendFrame s p mac 0x0800 (ip4Packet s p dst 17 (ttlOf s p) [] u)

/-- One packet of a context to its paths (R360): header, payload, sealing, counters. -/
def sendPacket (i : Nat) (x : StrCtx) (pt ts : Nat) (marker : Bool) (p : Bytes) : Act := fun s =>
  let d := x.desc
  let drops := (dPorts d).map fun q => Eff.count (Prm.ETH_TX_DROPS q) 1
  if keyMissing s x then drops ++ [.raise 93]
  else
    let hdr := [0x80#8] ++ leBytes 1 (pt + (if marker then 128 else 0)) ++ beBytes 2 x.rtpSeq ++ beBytes 4 ts ++ beBytes 4 (dSsrc d)
    let pay := hdr ++ sealPayload s x hdr p
    sendRtp s x false pay ++ (if dDual d then sendRtp s x true pay else []) ++
    (if dSealed d then [.count64 Prm.SEC_GCM_OPS_LO 1] else []) ++
    [effCtx i fun y => { y with rtpSeq := y.rtpSeq + 1, ctrNext := if dSealed d then y.ctrNext + 1 else y.ctrNext, lastTs := ts },
     effCnt i fun n => { n with packets := (n.packets + 1) % 2 ^ 64, bytes := (n.bytes + pay.length) % 2 ^ 64 }]

/-- R361: the pacer finds its data missing. -/
def egressUnderflow (i : Nat) : List Eff := [effCtx i fun y => { y with tx := none }, .count Prm.STR_EGRESS_UNDERFLOWS 1, .raise 93]

/-- The bytes of one pixel group of the frame being sent; none where a sample has not arrived. -/
def txGroup (d : Bytes) (t : StrTx) (row col : Nat) : Option Bytes :=
  let f := dFormat d
  let n := pgCount f
  let half := if vSampling f = 0 ∨ vSampling f = 3 then 2 else 1
  let v := (List.range n).map fun k =>
    let p := pgPlace f k
    let r := if p.1 ≠ 0 ∧ vSampling f = 3 then row / 2 else row + p.2.1
    t.samples.find (sampleKey p.1 r ((if p.1 = 0 then col else col / half) + p.2.2))
  if v.any (·.isNone) then none
  else some (beBytes (pgroup f).1 (v.foldl (fun a x => a * 2 ^ vDepth f + x.getD 0) 0))

def joinAll : List (Option Bytes) → Option Bytes
  | [] => some []
  | none :: _ => none
  | some b :: t => (joinAll t).map (b ++ ·)

/-- The next packet of a video frame: as many whole pixel groups of one line as fit (R360). -/
def egressVideo (i : Nat) (x : StrCtx) (t : StrTx) : Act := fun s =>
  let d := x.desc
  let g := pgroup (dFormat d)
  let left := (dWidth d - t.pos + g.2.1 - 1) / g.2.1
  let n := min left ((roomFor s d (dPortA d) - 8) / g.1)
  match joinAll ((List.range n).map fun k => txGroup d t t.line (t.pos + g.2.1 * k)) with
  | none => egressUnderflow i
  | some body =>
    let eol := decide (left ≤ n)
    let last := eol && decide (dHeight d ≤ t.line + g.2.2)
    let p := beBytes 2 (x.rtpSeq / 65536) ++ beBytes 2 body.length ++ beBytes 2 t.line ++ beBytes 2 t.pos ++ body
    acts [sendPacket i x (dPt d) t.ts last p,
      eff (if last then [effCtx i (fun y => { y with tx := none }), effCnt i fun n => { n with frames := satAdd 0xFFFFFFFF n.frames 1 }]
           else [effCtx i fun y => { y with tx := some (if eol then { t with line := t.line + g.2.2, pos := 0 } else { t with pos := t.pos + g.2.1 * n }) }])] s

/-- The next packet of a Cast frame (R319). -/
def egressCast (i : Nat) (x : StrCtx) (t : StrTx) : Act := fun s =>
  let d := x.desc
  let e := (match s.job (dAddr d % 4096) with | some j => j.engines.headD 0 | none => 0)
  let n := min (s.pn (Prm.CAST_RTP_MTU e) - 8) (t.bytes.length - t.pos)
  let last := decide (t.bytes.length ≤ t.pos + n)
  let p := beBytes 2 (x.rtpSeq / 65536) ++ leBytes 1 ((if t.pos = 0 then 1 else 0) + (if last then 2 else 0)) ++ [0] ++ beBytes 4 t.pos ++ field t.bytes t.pos n
  acts [sendPacket i x (s.pn (Prm.CAST_RTP_PT e)) t.ts last p,
    eff (.count (Prm.CAST_RTP_TX e) 1 ::
      (if last then [effCtx i (fun y => { y with tx := none }), effCnt i fun n => { n with frames := satAdd 0xFFFFFFFF n.frames 1 }]
       else [effCtx i fun y => { y with tx := some { t with pos := t.pos + n } }]))] s

/-- The audio payload of a packet time, from the source ring (R337, R360). -/
def audioPayload (s : State) (d : Bytes) (n : Nat) : Bytes :=
  let pk := s.pn Prm.AUD_STREAM_PACK
  let z := sampleSize pk
  let a := dAddr d + dSlotSize d * (n % dSlots d)
  (List.range (audSamples d * dSize d)).flatMap fun k =>
    beBytes (audWord d) ((unpackSample pk (s.ringRead (a + z * k) z)).toNat / 2 ^ (24 - 8 * audWord d))

/-- R360, R361: the pacer reaches the time of an egress context's next packet. len is the length of the next ancillary packet in
its source ring, and ready says that an audio or ancillary packet's data stands in the pacing buffer. -/
def actEgressPacket (i : Fin 4096) (len : Nat) (ready : Bool) : Act := fun s =>
  match s.ctx i with
  | none => []
  | some x =>
    let d := x.desc
    if dDir d ≠ 1 ∨ !x.enabled then []
    else match dEss d with
      | 0 => (match x.tx with | some t => egressVideo i x t s | none => [])
      | 3 => (match x.tx with | some t => egressCast i x t s | none => [])
      | _ =>
        if !ready then egressUnderflow i
        else
          let rate := if dEss d = 1 then (if bitOf (dFormat d) 4 then 96000 else 48000) else 90000
          let k := s.vis * rate / SEC
          let n := if dEss d = 1 then k / audSamples d else x.writeSeq
          let x' := if x.nextKey = 0 then x else { x with key := x.nextKey, nextKey := 0, ctrNext := 0 }
          acts [eff [effCtx i fun _ => { x' with writeSeq := x.writeSeq + 1 }],
            if dEss d = 1 then sendPacket i x' (dPt d) (n * audSamples d % 2 ^ 32) false (audioPayload s d n)
            else sendPacket i x' (dPt d) (k % 2 ^ 32) true (s.ringRead (dAddr d + dSlotSize d * (n % dSlots d)) len)] s

def execEgressPacket (i : Fin 4096) (len : Nat) (ready : Bool) (s : State) : Host.Outcome State Fault Refusal :=
  (actEgressPacket i len ready).outcome s

end Sys2Proof.Machine
end

