-- ==== Sys2Proof/Machine/AudioOut.lean ====
section
/-! DEFINITION. The output side of the audio ports: where a frame comes from (R552, R557, AUD_SRC), and the row AUD_FRAME_NEEDED. -/
namespace Sys2Proof.Machine

/-- Frame k of a port's ring. -/
def portFrame (s : State) (p k : Nat) : BitVec 24 × BitVec 24 :=
  let pk := s.pn (Prm.AUD_PACK p)
  let z := sampleSize pk
  let a := ringFrame s p k
  (unpackSample pk (s.ringRead a z), unpackSample pk (s.ringRead (a + z) z))

/-- R557: frame k is missing where the producer has not passed it. -/
def frameMissing (prod k : Nat) : Bool := decide (ringAhead prod k ≤ 0)

/-- Channels of an ingress audio context at system sample k: the RTP timestamp of a sample is its count on the media clock, so it is k
where the stream runs at the system rate (PRESUMED from ST 2110-30, notes/assumptions/38). At another rate the converted value is not
stated: free (notes/assumptions/59). -/
def contextFrame (s : State) (i first k : Nat) : Option (BitVec 24 × BitVec 24) :=
  match s.ctx i with
  | none => none
  | some x =>
    let d := x.desc
    let pk := s.pn Prm.AUD_STREAM_PACK
    let z := sampleSize pk
    let n := audSamples d
    let rate := if bitOf (dFormat d) 4 then 96000 else 48000
    if dDir d ≠ 0 ∨ dEss d ≠ 1 ∨ !x.enabled then none
    else if rate ≠ sysRate s then
      some (BitVec.ofNat 24 (Config.freeAt 59 [i, k, first]), BitVec.ofNat 24 (Config.freeAt 59 [i, k, first + 1]))
    else if frameMissing (x.lastTs + n) k then none
    else
      let t := k % 2 ^ 32
      let a := dAddr d + dSlotSize d * (t / n % dSlots d) + z * (dSize d * (t % n) + first)
      some (unpackSample pk (s.ringRead a z), unpackSample pk (s.ringRead (a + z) z))

/-- The frame that an output's source supplies. -/
def sourceFrame (s : State) (p k : Nat) : Option (BitVec 24 × BitVec 24) :=
  let src := (s.audPort p).a.src
  let q := src / 65536 % 4096
  match src % 4 with
  | 0 => if frameMissing (s.rd (Reg.AUD_RING_PROD p)).toNat k then none else some (portFrame s p k)
  | 1 => let q := q % 8
         if !audEn s q ∨ audOut s q ∨ frameMissing (s.rd (Reg.AUD_RING_PROD q)).toNat k then none else some (portFrame s q k)
  | 2 => contextFrame s q (src / 256 % 64) k
  | _ => none

/-- R557: an output port reaches the time of its next frame. -/
def actAudFrameNeeded (p : Fin 8) : Act := fun s =>
  if !audOut s p ∨ (!audEn s p ∧ !(s.audPort p).a.run ∧ !(s.audPort p).b.run) then [] else
  let k := neededSample s p
  acts [audSend p k (sourceFrame s p k),
    eff (if (s.audPort p).a.src % 4 = 0 then [.reg (Reg.AUD_RING_CONS p) (w32 (k + 1))] else [])] s

def execAudFrameNeeded (p : Fin 8) (s : State) : Host.Outcome State Fault Refusal := (actAudFrameNeeded p).outcome s

end Sys2Proof.Machine
end

