-- ==== Sys2Proof/Machine/FaultBase.lean ====
section
/-! DEFINITION. Units, slots and spares (R18, R19, R26 to R29): re-execution, fencing, return, and what happens at a frame start
of a pipeline (R696 to R705). -/
namespace Sys2Proof.Machine

def slotFenced (s : State) (p : Nat) : Bool := s.flag (Reg.FLT_UNIT p) Fld.FLT_UNIT.FENCED
def slotPowered (s : State) (p : Nat) : Bool := s.flag (Reg.FLT_UNIT p) Fld.FLT_UNIT.POWERED
def slotSpare (s : State) (p : Nat) : Bool := s.flag (Reg.FLT_UNIT p) Fld.FLT_UNIT.IS_SPARE
def slotRole (s : State) (p : Nat) : Nat := s.fld (Reg.FLT_UNIT p) Fld.FLT_UNIT.ROLE

/-- Slots of a cluster that are not fenced. -/
def liveSlots (s : State) (c : Nat) : List Nat := (List.range 17).filter fun k => !slotFenced s (17 * c + k)

/-- The slot that holds a role of a cluster, the spare apart. -/
def holder (s : State) (c role : Nat) : Option Nat :=
  (liveSlots s c).find? fun k => !slotSpare s (17 * c + k) && slotRole s (17 * c + k) == role

/-- Roles of a cluster that no slot holds. -/
def orphans (s : State) (c : Nat) : List Nat := (List.range 16).filter fun r => (holder s c r).isNone

/-- The slot of the spare, while there is one. -/
def spareSlot (s : State) (c : Nat) : Option Nat :=
  if s.flag (Reg.FLT_CLUSTER c) Fld.FLT_CLUSTER.NO_SPARE then none else some (s.fld (Reg.FLT_CLUSTER c) Fld.FLT_CLUSTER.SPARE_SLOT)

/-- The cluster is stopped by its temperature (R745). -/
def clusterStopped (s : State) (c : Nat) : Bool := s.thm.stopped.contains c

def fencedCount (s : State) (c : Nat) : Nat := s.fld (Reg.FLT_CLUSTER c) Fld.FLT_CLUSTER.FENCED_COUNT

def UnitF.init : UnitF := ⟨none, 0, [], 0, false, false, false, false, false, false, none, 0⟩
def ClusterF.init : ClusterF := ⟨none, none, none⟩

def State.unitF (s : State) (p : Nat) : UnitF := s.flt.units.getD p UnitF.init
def State.clusterF (s : State) (c : Nat) : ClusterF := s.flt.clusters.getD c ClusterF.init
def effUnit (p : Nat) (g : UnitF → UnitF) : Eff := .flt fun f => { f with units := f.units.upd p UnitF.init g }
def effCluster (c : Nat) (g : ClusterF → ClusterF) : Eff := .flt fun f => { f with clusters := f.clusters.upd c ClusterF.init g }

def unitFld (p : Nat) (f : Fld) (v : Nat) : Eff := .fld (Reg.FLT_UNIT p) f v
def clusterFld (c : Nat) (f : Fld) (v : Nat) : Eff := .fld (Reg.FLT_CLUSTER c) f v

def boolNat (b : Bool) : Nat := if b then 1 else 0

/-- A slot powers down: its pace monitor stops, and the last rate is kept (R71). -/
def powerDown (p : Nat) : List Eff := [unitFld p Fld.FLT_UNIT.POWERED 0, .fld (Reg.THM_PACE_UNIT p) Fld.THM_PACE_UNIT.VALID 0]

/-- Uptime of 24 hours. -/
def dayTicks : Nat := 86400 * secTicks

/-- Returns of a slot within the last 24 hours (R704). -/
def recentReturns (s : State) (p : Nat) : List Nat := (s.unitF p).returns.filter fun t => decide (s.uptime < t + dayTicks)

/-- One re-execution or retry counted (R696, R700). -/
def countRx (c : Nat) : List Eff :=
  [.count (Prm.FLT_RX c) 1, .count Prm.FLT_RX_TOTAL 1, .count (Prm.FLT_RX_REGION (c / 8)) 1, .raise 243]

/-- A slot is fenced (R702). Where the cluster's first fenced slot held a role, the spare holds that role from now on (R28); a second
fencing leaves fewer than 16 active units (R29). A fenced spare leaves the cluster without one. -/
def fence (p : Nat) : Act := fun s =>
  let c := p / 17
  if slotFenced s p then [] else
  let n := fencedCount s c + 1
  let role := slotRole s p
  powerDown p ++ [unitFld p Fld.FLT_UNIT.FENCED 1, unitFld p Fld.FLT_UNIT.IS_SPARE 0,
   effUnit p (fun u => { u with
     role := if slotSpare s p then 16 else role, testing := false, wantFence := false, wantReturn := false,
     noRetest := decide (s.pn Prm.FLT_RETURN_MAX_24H ≤ (recentReturns s p).length) }),
   clusterFld c Fld.FLT_CLUSTER.FENCED_COUNT n, clusterFld c Fld.FLT_CLUSTER.NO_SPARE 1, clusterFld c Fld.FLT_CLUSTER.SPARE_BUSY 0,
   clusterFld c Fld.FLT_CLUSTER.DEGRADED (boolNat (decide (2 ≤ n))),
   .count Prm.FLT_FENCES 1, .raise 244, .raise 241, effCluster c fun x => { x with reexec := none, rotation := none }] ++
  (match spareSlot s c with
   | some k => if k = p % 17 then [] else
       [unitFld (17 * c + k) Fld.FLT_UNIT.IS_SPARE 0, unitFld (17 * c + k) Fld.FLT_UNIT.ROLE role, unitFld (17 * c + k) Fld.FLT_UNIT.POWERED 1]
   | none => [])

/-- A slot becomes the spare of its cluster and powers down. -/
def toSpare (c k : Nat) : List Eff :=
  powerDown (17 * c + k) ++ [unitFld (17 * c + k) Fld.FLT_UNIT.IS_SPARE 1, unitFld (17 * c + k) Fld.FLT_UNIT.ROLE 0,
   clusterFld c Fld.FLT_CLUSTER.SPARE_SLOT k, clusterFld c Fld.FLT_CLUSTER.NO_SPARE 0, clusterFld c Fld.FLT_CLUSTER.SPARE_BUSY 0]

/-- A slot that is free of a role takes the lowest role without a slot, or becomes the spare. -/
def vacate (c k : Nat) (lost : List Nat) : List Eff :=
  match lost with
  | r :: _ => [unitFld (17 * c + k) Fld.FLT_UNIT.ROLE r, unitFld (17 * c + k) Fld.FLT_UNIT.IS_SPARE 0, unitFld (17 * c + k) Fld.FLT_UNIT.POWERED 1]
  | [] => toSpare c k

/-- A fenced slot returns (R703): it takes its role back, and the slot that held the role is the spare again, or takes a role that
R29 had moved away (R705). Its fault history restarts. -/
def returnSlot (p : Nat) : Act := fun s =>
  let c := p / 17
  if !slotFenced s p then [] else
  let n := fencedCount s c - 1
  let role := (s.unitF p).role
  [unitFld p Fld.FLT_UNIT.FENCED 0, unitFld p Fld.FLT_UNIT.POWERED 1, clusterFld c Fld.FLT_CLUSTER.FENCED_COUNT n,
   clusterFld c Fld.FLT_CLUSTER.DEGRADED (boolNat (decide (2 ≤ n))),
   effUnit p (fun u => { UnitF.init with returns := if u.unfenced then [] else s.uptime :: recentReturns s p, token := u.token, refused := u.refused }),
   .count Prm.FLT_RETURNS 1, .raise 245] ++
  (if role = 16 then vacate c (p % 17) (orphans s c)
   else unitFld p Fld.FLT_UNIT.ROLE role ::
     (match holder s c role with
      | some k => vacate c k ((orphans s c).filter (· != role))
      | none => []))

/-- A frame start of pipelines: of a sensor (0 to 7) or of a group (64 + g). A role bound to no pipeline, and one of a pipeline that
has neither, takes any group's boundary (R696). -/
def startsAt (s : State) (unit start : Nat) : Bool :=
  match s.flt.bind.find unit with
  | some b => b.start == start || (decide (64 ≤ start) && b.start == 255)
  | none => decide (64 ≤ start)

/-- R700, R702, R703, R730: at a frame start of its role's pipeline a re-execution ends and the spare powers down; a slot that FLT_FENCE
named is fenced; a slot that passed its retest returns. -/
def frameStart (start : Nat) : Act := acts [
  (fun s => (s.flt.clusters.entries.filter fun e => match e.2.reexec with | some r => startsAt s (16 * e.1 + r.role) start | none => false).flatMap
    fun e => [effCluster e.1 (fun x => { x with reexec := none }), clusterFld e.1 Fld.FLT_CLUSTER.SPARE_BUSY 0] ++
      (match spareSlot s e.1 with | some k => powerDown (17 * e.1 + k) | none => [])),
  (fun s => actsFor ((s.flt.units.entries.filter fun e => e.2.wantFence &&
    (slotSpare s e.1 && decide (64 ≤ start) || startsAt s (16 * (e.1 / 17) + slotRole s e.1) start)).map (·.1)) fence s),
  (fun s => actsFor ((s.flt.units.entries.filter fun e => e.2.wantReturn &&
    (e.2.role == 16 && decide (64 ≤ start) || startsAt s (16 * (e.1 / 17) + e.2.role) start)).map (·.1)) returnSlot s)]

end Sys2Proof.Machine
end

