-- ==== Sys2Proof/Machine/WallMap.lean ====
section
/-! DEFINITION. The maquette: image fields, lamp positions, layers and their sources, and the mapping stages M1 to M4 as
functions of the state (chapter 10, R366 to R388 and R438, R439). -/
namespace Sys2Proof.Machine

/-! ### The image (R366 to R368) -/

/-- The maquette in force, no bytes where there is none. -/
def State.mqt (s : State) : Bytes := (s.obj K_MQT 0).getD []

def mqTiles (m : Bytes) : Nat := fieldN m 6 2
def mqMeshes (m : Bytes) : Nat := fieldN m 8 2
def mqLamps (m : Bytes) : Nat := fieldN m 12 4
def mqW (m : Bytes) : Nat := fieldN m 16 4
def mqH (m : Bytes) : Nat := fieldN m 20 4

/-- Entry of tile t. -/
def mqTile (m : Bytes) (t : Nat) : Bytes := field m (64 + 512 * t) 512

def tlLink (e : Bytes) : Nat := byteAt e 2
def tlHop (e : Bytes) : Nat := byteAt e 3
def tlCols (e : Bytes) : Nat := fieldN e 4 2
def tlRows (e : Bytes) : Nat := fieldN e 6 2
def tlEmit (e : Bytes) : Nat := byteAt e 10
def tlGroup (e : Bytes) : Nat := byteAt e 11
def tlType (e : Bytes) (k : Nat) : Nat := byteAt e (12 + k)
def tlBand (e : Bytes) : Nat := byteAt e 17
def tlEn (e : Bytes) : Bool := bitOf (byteAt e 18) 0
def tlDdp (e : Bytes) : Bool := bitOf (byteAt e 18) 1
def tlZones (e : Bytes) : Nat := (byteAt e 19 % 16 + 1) * (byteAt e 19 / 16 + 1)
def tlBase (e : Bytes) : Nat := fieldN e 20 4
def tlAffine (e : Bytes) (i : Nat) : Int := sgn 32 (fieldN e (24 + 4 * i) 4)
def tlMesh (e : Bytes) : Nat := fieldN e 48 2

/-- Tiles of the maquette in force. -/
def tiles (s : State) : List Nat := List.range (mqTiles s.mqt)

/-- Enabled tiles of a group. -/
def groupTiles (s : State) (g : Nat) : List Nat :=
  (tiles s).filter fun t => let e := mqTile s.mqt t; tlEn e && tlGroup e == g

/-- The enabled tile at a link and hop, or at a direct drive port. -/
def tileAt (s : State) (link hop : Nat) (ddp : Bool) : Option Nat :=
  (tiles s).find? fun t => let e := mqTile s.mqt t; tlEn e && tlLink e == link && tlHop e == hop && tlDdp e == ddp

/-- The tile whose patina range holds an index, with the lamp's column and row. -/
def lampOf (s : State) (idx : Nat) : Option (Nat × Nat × Nat) :=
  ((tiles s).find? fun t => let e := mqTile s.mqt t; decide (tlBase e ≤ idx) && decide (idx < tlBase e + tlCols e * tlRows e)).map fun t =>
    let e := mqTile s.mqt t
    (t, (idx - tlBase e) % tlCols e, (idx - tlBase e) / tlCols e)

/-- A mesh node's dx and dy (R368). -/
def meshNode (m : Bytes) (mesh i j : Nat) : Int × Int :=
  let a := 64 + 512 * mqTiles m + 1280 * mesh + 4 * (17 * j + i)
  (sgn 16 (fieldN m a 2), sgn 16 (fieldN m (a + 2) 2))

/-- R371: an axis of the lamp's position with 8 fraction bits. ax answers the affine numerator at 2^-13, sel the component of a node. -/
def lampAxis (m e : Bytes) (c r : Nat) (aff : Int) (sel : Int × Int → Int) : Int :=
  let cols := tlCols e
  let rows := tlRows e
  let mesh : Int :=
    if tlMesh e = 0xFFFF then 0 else
    let u := (2 * c + 1) * 8
    let v := (2 * r + 1) * 8
    let i := min 15 (u / cols)
    let j := min 15 (v / rows)
    let fu : Int := (u - i * cols : Nat)
    let fv : Int := (v - j * rows : Nat)
    let n := fun di dj => sel (meshNode m (tlMesh e) (i + di) (j + dj))
    (cols - fu) * (rows - fv) * n 0 0 + fu * (rows - fv) * n 1 0 + (cols - fu) * fv * n 0 1 + fu * fv * n 1 1
  let d : Int := 8192 * cols * rows
  let num := aff * cols * rows + mesh * 128
  (512 * num + d) / (2 * d)

/-- R371: canvas position of the lamp at column c and row r of a tile, 8 fraction bits. -/
def lampPos (m e : Bytes) (c r : Nat) : Int × Int :=
  let a := tlAffine e
  (lampAxis m e c r (a 0 * (2 * c + 1) + a 1 * (2 * r + 1) + 2 * a 2) (·.1),
   lampAxis m e c r (a 3 * (2 * c + 1) + a 4 * (2 * r + 1) + 2 * a 5) (·.2))

/-- A position lies within a rectangle of canvas units. -/
def within (p : Int × Int) (x y w h : Nat) : Bool :=
  decide ((x : Int) * 256 ≤ p.1) && decide (p.1 < ((x : Int) + w) * 256) && decide ((y : Int) * 256 ≤ p.2) && decide (p.2 < ((y : Int) + h) * 256)

def GroupSt.init : GroupSt := ⟨none, false, false, [], none⟩
def State.group (s : State) (g : Nat) : GroupSt := s.wall.groups.getD g GroupSt.init
def effGroup (g : Nat) (f : GroupSt → GroupSt) : Eff := .wall fun w => { w with groups := w.groups.upd g GroupSt.init f }

/-! ### Layers (R375): an object is the owner's byte and the 64 bytes of the descriptor -/

def lyOwner (b : Bytes) : Nat := byteAt b 0
def lyKind (b : Bytes) : Nat := byteAt b 1
def lyGroup (b : Bytes) : Nat := byteAt b 2
def lyPrio (b : Bytes) : Nat := byteAt b 3
def lyWin (b : Bytes) : Nat := byteAt b 4
def lyIndex (b : Bytes) : Nat := fieldN b 5 2
def lyAlpha (b : Bytes) : Nat := fieldN b 7 2
def lySlotMask (b : Bytes) : Nat := byteAt b 9
def lyGating (b : Bytes) : Bool := bitOf (byteAt b 10) 0
def lyAdd (b : Bytes) : Bool := bitOf (byteAt b 10) 1
def lyFlipX (b : Bytes) : Bool := bitOf (byteAt b 10) 2
def lyFlipY (b : Bytes) : Bool := bitOf (byteAt b 10) 3
def lyFilter (b : Bytes) : Nat := byteAt b 10 / 16 % 4
def lyNarrow (b : Bytes) : Bool := bitOf (byteAt b 10) 6
def lyFallback (b : Bytes) : Nat := byteAt b 11
def lyLimit (b : Bytes) : Nat := fieldN b 13 2
def lyLoss (b : Bytes) : Nat := fieldN b 15 2
def lyDst (b : Bytes) (i : Nat) : Nat := fieldN b (17 + 4 * i) 4
def lySrc (b : Bytes) (i : Nat) : Nat := fieldN b (33 + 4 * i) 4
def lyAddr (b : Bytes) : Nat := fieldN b 49 8
def lySlots (b : Bytes) : Nat := byteAt b 57

def LayerSt.init : LayerSt := ⟨false, false, false, false, 0, 0, none, 0, 0, false⟩
def State.layerSt (s : State) (l : Nat) : LayerSt := s.wall.layers.getD l LayerSt.init
def effLayer (l : Nat) (g : LayerSt → LayerSt) : Eff := .wall fun w => { w with layers := w.layers.upd l LayerSt.init g }

/-- Layers in force with their objects. -/
def layersOf (s : State) (g : Nat) : List (Nat × Bytes) :=
  ((s.objIdx K_LAYER).filterMap fun l => (s.obj K_LAYER l).map fun b => (l, b)).filter fun x => lyGroup x.2 == g

/-- A window granted: X, Y, W, H and its brightness limit (R377). -/
def winObj (s : State) (f w : Nat) : Option Bytes := s.obj K_WIN (16 * f + w)
def winRect (b : Bytes) (i : Nat) : Nat := fieldN b (4 * i) 4
def winLimit (b : Bytes) : Nat := fieldN b 16 2

/-- The layer's clip: none where its window is not granted (R377). -/
def layerClip (s : State) (b : Bytes) : Option (List Nat) :=
  let d := (List.range 4).map (lyDst b)
  if lyWin b = 255 then some d
  else (winObj s (lyOwner b) (lyWin b)).map fun w =>
    let r := (List.range 4).map (winRect w)
    let g := fun (l : List Nat) i => l.getD i 0
    let x0 := max (g d 0) (g r 0)
    let y0 := max (g d 1) (g r 1)
    [x0, y0, min (g d 0 + g d 2) (g r 0 + g r 2) - x0, min (g d 1 + g d 3) (g r 1 + g r 3) - y0]

/-- A layer contributes to a lamp in a slot (R372, R377, R380, R404, R740). -/
def layerCovers (s : State) (l : Nat) (b : Bytes) (slot : Nat) (p : Int × Int) : Bool :=
  bitOf (lySlotMask b) slot && s.holds (lyOwner b) R_WINDOW && !(s.layerSt l).off && !(s.layerSt l).shed &&
  match layerClip s b with
  | some r => within p (r.getD 0 0) (r.getD 1 0) (r.getD 2 0) (r.getD 3 0)
  | none => false

/-! ### Sources -/

/-- What a layer reads: a picture in memory (slot address, layout), or the pixels of an output. -/
structure LayerSrc where
  w : Nat
  h : Nat
  fmt : Nat
  enc : Nat
  addr : Nat
  pitch : Nat
  plane1 : Nat
  /-- The scaled output of a camera layer, and the bits of its codes. -/
  out : Option Nat
  bits : Nat
  deriving DecidableEq, Repr

/-- Bytes of a pixel of a layer format (R270, R385). -/
def layerPx (f : Nat) : Nat :=
  if f = 0x30 ∨ f = 0x31 ∨ f = 0x32 then 2 else if f = 0x33 ∨ f = 0x34 then 3 else if f = 0x35 then 4 else memPx f

/-- The layer formats. -/
def layerFmt (f : Nat) : Bool := [1, 2, 3, 4, 0x10, 0x11, 0x30, 0x31, 0x32, 0x33, 0x34, 0x35].contains f

/-- A ring laid out as R271 whose size, format and pitch are in a slot header at an address. -/
def headerRing (s : State) (base slots at' : Nat) : Ring :=
  let h := s.ringRead at' 32
  let m := byteAt h 23
  ringLayout base slots (layerPx m * sizeW (fieldN h 24 4)) (planeLines m (fieldN h 24 4 / 65536)) (fieldN h 28 4) 256

/-- Base, slots and slot size of the ring of a layer (kinds 1, 3 and 4); none where the source does not exist. -/
def layerRing (s : State) (b : Bytes) : Option Ring :=
  match lyKind b with
  | 1 => (s.ctx (lyIndex b)).map fun x => ctxRing x.desc
  | 3 => some (headerRing s (lyAddr b) (lySlots b) (lyAddr b))
  | 4 => (s.cst.plays.find (lyIndex b)).map fun p =>
      let m := byteAt p.clip 128
      ringLayout p.ring p.slots (castPx m * sizeW (fieldN p.clip 88 2)) (castLines m (fieldN p.clip 90 2)) 0 256
  | _ => none

/-- The picture that a layer shows: the slot it holds, or the camera output's frame. -/
def layerSrc (s : State) (l : Nat) (b : Bytes) : Option LayerSrc :=
  if lyKind b = 2 then
    let g := geo s (lyIndex b)
    some ⟨g.wo, g.ho, 0, fmtEnc g.fmt, 0, 0, 0, some (lyIndex b), codeBits g.fmt⟩
  else
    match layerRing s b, (s.layerSt l).held with
    | some k, some q =>
      let a := slotAddr k q
      let h := s.ringRead a 32
      some ⟨sizeW (fieldN h 24 4), fieldN h 24 4 / 65536, byteAt h 23, byteAt h 20, a + 256, fieldN h 28 4,
        k.planes.getD 1 256 - 256, none, 16⟩
    | _, _ => none

/-- A component of n bits expanded to UQ0.16 (R386). -/
def expand (n v : Nat) : Nat := divRound (v * 65535) (2 ^ n - 1)

/-- The stored components of a pixel in memory: three in UQ0.16 (or binary16), alpha in UQ0.16, and whether they are binary16. -/
def fetchPx (s : State) (c : LayerSrc) (y x : Nat) : List Nat × Nat × Bool :=
  let n := layerPx c.fmt
  let w := leNat (s.ringRead (c.addr + c.pitch * y + n * x) n)
  let h := fun i => w / 2 ^ (16 * i) % 65536
  let b := fun hi lo => expand (hi + 1 - lo) (bitsOf w hi lo)
  match c.fmt with
  | 1 => ([h 0, h 1, h 2], 65535, false)
  | 2 => ([h 0, h 1, h 2], 65535, true)
  | 3 => ([b 29 20, b 19 10, b 9 0], b 31 30, false)
  | 4 => ([b 23 16, b 15 8, b 7 0], 65535, false)
  | 0x30 => ([b 15 11, b 10 5, b 4 0], 65535, false)
  | 0x31 => ([b 14 10, b 9 5, b 4 0], b 15 15, false)
  | 0x32 => ([b 14 10, b 9 5, b 4 0], 65535, false)
  | 0x33 => ([b 7 0, b 15 8, b 23 16], 65535, false)
  | 0x34 => ([b 23 16, b 15 8, b 7 0], 65535, false)
  | 0x35 => ([b 23 16, b 15 8, b 7 0], b 31 24, false)
  | _ => ([h 0, 0, 0], 65535, false)

/-- Chroma of a two-plane source at a luma pixel, in UQ0.16 times 4: interpolated on the chroma plane's own grid, co-sited as R267
(DEDUCED, notes/assumptions/41: with two taps an axis). -/
def chromaAt (s : State) (c : LayerSrc) (y x i : Nat) : Nat :=
  let rows := if c.fmt = 0x11 then c.h / 2 else c.h
  let px := fun (r k : Nat) => leNat (s.ringRead (c.addr + c.plane1 + c.pitch * (min r (rows - 1)) + 4 * (min k (c.w / 2 - 1)) + 2 * i) 2)
  let line := fun r => if x % 2 = 0 then 2 * px r (x / 2) else px r (x / 2) + px r (x / 2 + 1)
  if c.fmt = 0x10 then 2 * line y
  else
    let r := y / 2
    if y % 2 = 0 then (if r = 0 then 4 * line 0 else line (r - 1) + 3 * line r) / 2 else (3 * line r + line (r + 1)) / 2

/-- Addresses of device memory that a source pixel of a layer takes. -/
def srcAddrs (c : LayerSrc) (y x : Nat) : List Nat :=
  if c.out.isSome then [] else
  let line := fun (r : Nat) => c.addr + c.plane1 + c.pitch * min r ((if c.fmt = 0x11 then c.h / 2 else c.h) - 1)
  let chroma := fun (r : Nat) => [line r + 4 * (x / 2)] ++ (if x % 2 = 0 then [] else [line r + 4 * min (x / 2 + 1) (c.w / 2 - 1)])
  [c.addr + c.pitch * y + layerPx c.fmt * x] ++
    (if c.fmt = 0x10 then chroma y
     else if c.fmt = 0x11 then (if y % 2 = 0 then chroma (y / 2 - 1) ++ chroma (y / 2) else chroma (y / 2) ++ chroma (y / 2 + 1))
     else [])

/-- A source pixel of a layer lies in a poisoned line (R607). -/
def srcPoisoned (s : State) (c : LayerSrc) (y x : Nat) : Bool := (srcAddrs c y x).any fun a => (firstPoison s a (layerPx c.fmt)).isSome

/-! ### Linearisation (R386) -/

/-- Step 2: the narrow range reversed. -/
def widen (chroma : Bool) (v : Nat) : Int :=
  let q := fun (a b : Int) => (2 * a + b) / (2 * b)
  if chroma then q (((v : Int) - 32768) * 256) 224 else clampI 0 65535 (q (((v : Int) - 4096) * 256) 219)

/-- Y'CbCr to R'G'B' with the constants of R266, clamped to UQ0.16. -/
def unYcc (enc : Nat) (y cb cr : Int) : List Nat :=
  let kr : Int := if enc = 0 then 2126 else 2627
  let kb : Int := if enc = 0 then 722 else 593
  let r := y * 10000 + 2 * (10000 - kr) * cr
  let b := y * 10000 + 2 * (10000 - kb) * cb
  let g := (y * 10000 * 10000 - kr * r - kb * b) / (10000 - kr - kb)
  [r, g, b].map fun v => (clampI 0 65535 ((v + 5000) / 10000)).toNat

/-- Step 4: the inverse of the transfer of an encoding, a value at 2^24. Its precision is not stated, so it is free within
2^-16 of what is computed (notes/assumptions/42). -/
def untransfer (enc v : Nat) : Int :=
  let e := v * 65536
  let f := (Config.freeAt 46 [enc, v] % 513 : Nat)
  let near' := fun (x : Nat) => (x : Int) + f - 256
  match enc with
  | 0 => near' (if e * 1000000 < 81000 * 2 ^ 32 then e * 2 / 9 / 256
          else fxPow (e * 1000000 + 99000 * 2 ^ 32) (1099000 * 2 ^ 32) 100 45 / 256)
  | 1 => near' (if e * 1000000 < 81450 * 2 ^ 32 then e * 2 / 9 / 256
          else fxPow (e * 1000000 + 99300 * 2 ^ 32) (1099300 * 2 ^ 32) 100 45 / 256)
  | 2 =>
    let p := fxPow v 65535 4000 315375
    let num := p * 4096 - 3424 * 2 ^ 32
    near' (if p * 4096 ≤ 3424 * 2 ^ 32 then 0 else fxPow num (77216 * 2 ^ 32 - 76544 * p) 16384 2610 * 10000 / 203 / 256)
  | 3 => near' (if v ≤ 32768 then v * v / 768
          else (fxExp2 ((((v : Int) * 65536 * 100000000 - 55991073 * 2 ^ 32) / 17883277) * 2 ^ 60 / LN2) + 28466892 * 2 ^ 32 / 100000000) / 12 / 256)
  | 4 => near' (fxPow v 65535 26 10 / 256)
  | _ =>
    if v * 10000 ≤ 1552 * 65536 then near' 0 + ((v : Int) * 256 * 10000000000000 - 729055341958 * 2 ^ 24) / 105402377416545
    else near' (fxExp2 (((v : Int) * 65536 * 1752 - 972 * 2 ^ 32) / 100) / 256)

/-- ACEScct of a binary16 inverted, at 2^24. -/
def unCct (h : Nat) : Int :=
  let e := halfVal h
  if e * 10000 ≤ 1552 * 2 ^ 24 then (e * 10000000000000 - 729055341958 * 2 ^ 24) / 105402377416545
  else (fxExp2 ((e * 256 * 1752 - 972 * 2 ^ 32) / 100) / 256 : Nat)

/-- The inverse primaries of an encoding, Q2.14, to the working space (R386 step 5). -/
def unprimaries (enc : Nat) : List Int :=
  match enc with
  | 0 => [10279, 5395, 710, 1132, 15066, 186, 269, 1442, 14673]
  | 4 => [11300, 3394, 677, 686, 16096, 178, -18, 301, 14007]
  | 5 => [24787, -4243, -3765, -1295, 19285, -1651, 34, -510, 15622]
  | 6 => [17069, -176, -114, -28, 16390, -23, -85, -371, 15603]
  | _ => [16384, 0, 0, 0, 16384, 0, 0, 0, 16384]

/-- Steps 4 to 6: scene values to a premultiplied working pixel. -/
def premultiply (enc : Nat) (lin : List Int) (alpha : Nat) : Nat :=
  let one := fun i => toHalf (sumI ((List.range 3).map fun k => (unprimaries enc).getD (3 * i + k) 0 * lin.getD k 0) * alpha) (2 ^ 38 * 65535)
  mkPx (one 0) (one 1) (one 2) (toHalf alpha 65535)

/-- R386: the working value of a source pixel, premultiplied, with alpha; none where a camera pixel has not arrived. -/
def sourcePx (s : State) (b : Bytes) (c : LayerSrc) (y x : Nat) : Option Nat :=
  match c.out with
  | some o =>
    (s.wall.pix.find (o * 2 ^ 32 + y * 65536 + x)).map fun p =>
      let e := (List.range 3).map fun i => let v := expand c.bits (comp p i); if lyNarrow b then (widen false v).toNat else v
      premultiply c.enc (e.map (untransfer c.enc)) 65535
  | none =>
    some (
      let p := fetchPx s c y x
      if c.fmt = 0x10 ∨ c.fmt = 0x11 then
        let yv := p.1.getD 0 0
        let n := lyNarrow b
        let ch := fun i => let v := chromaAt s c y x i / 4; if n then widen true v else (v : Int) - 32768
        premultiply c.enc ((unYcc c.enc (if n then widen false yv else yv) (ch 0) (ch 1)).map (untransfer c.enc)) p.2.1
      else if p.2.2 then
        premultiply c.enc (p.1.map fun h => if c.enc = 6 then unCct h else halfVal h) p.2.1
      else
        premultiply c.enc (p.1.map fun v => untransfer c.enc (if lyNarrow b then (widen false v).toNat else v)) p.2.1)

/-! ### Filters (R382 to R384, R387) -/

/-- Source width and height that a layer maps. -/
def srcW (b : Bytes) (c : LayerSrc) : Nat := if lySrc b 2 = 0 then c.w else lySrc b 2
def srcH (b : Bytes) (c : LayerSrc) : Nat := if lySrc b 3 = 0 then c.h else lySrc b 3

/-- σ of an axis in 2^-12: (|a| + |b|) × SRC ÷ DST as a fraction n / d (R383). -/
def sigma (e b : Bytes) (c : LayerSrc) (vert : Bool) : Nat × Nat :=
  let i := if vert then 3 else 0
  let m := (tlAffine e i).natAbs + (tlAffine e (i + 1)).natAbs
  (m * (if vert then srcH b c else srcW b c), 4096 * lyDst b (if vert then 3 else 2))

/-- The filter of a layer on a tile: 1 bilinear, 2 bicubic, 3 area (R383). -/
def filterOf (e b : Bytes) (c : LayerSrc) : Nat :=
  if lyFilter b ≠ 0 then lyFilter b else
  let below := fun (q : Nat × Nat) (n d : Nat) => decide (q.1 * d < n * q.2)
  let x := sigma e b c false
  let y := sigma e b c true
  if below x 1 1 && below y 1 1 then 2 else if below x 3 2 && below y 3 2 then 1 else 3

/-- Pixels an area filter covers on an axis: min(8, ceil σ), at least 1. -/
def areaTaps (q : Nat × Nat) : Nat := max 1 (min 8 ((q.1 + q.2 - 1) / q.2))

/-- σ beyond 8 on an axis (R384). -/
def aliasedOn (e b : Bytes) (c : LayerSrc) : Bool :=
  filterOf e b c == 3 && ((fun (q : Nat × Nat) => decide (8 * q.2 < q.1)) (sigma e b c false) || (fun (q : Nat × Nat) => decide (8 * q.2 < q.1)) (sigma e b c true))

/-- R382: the source coordinate of a lamp on an axis, 16 fraction bits. p is the canvas coordinate with 8. -/
def srcCoord (src dst srcLen dstLen : Nat) (flip : Bool) (p : Int) : Int :=
  let step := divRound (srcLen * 65536) dstLen
  let d := if flip then ((dst : Int) + dstLen) * 256 - p else p - (dst : Int) * 256
  (src : Int) * 65536 + rnd 8 (d * step)

/-- Taps of a filter on an axis at coordinate t: positions and weights; and the weights' sum. -/
def taps (k n : Nat) (t : Int) : List (Int × Int) :=
  match k with
  | 1 => let u := t - 32768
         let i := u / 65536
         let f := u % 65536
         [(i, 65536 - f), (i + 1, f)]
  | 2 => let u := t - 32768
         let i := u / 65536
         let f := u % 65536
         let o : Int := 65536
         [(i - 1, -f * f * f + 2 * f * f * o - f * o * o), (i, 3 * f * f * f - 5 * f * f * o + 2 * o * o * o),
          (i + 1, -3 * f * f * f + 4 * f * f * o + f * o * o), (i + 2, f * f * f - f * f * o)]
  | _ => let a := t - 32768 * n
         let z := a + 65536 * n
         (List.range (n + 1)).map fun (j : Nat) =>
           let i : Int := a / 65536 + j
           (i, (if (i + 1) * 65536 < z then (i + 1) * 65536 else z) - (if a < i * 65536 then i * 65536 else a))

def tapSum (k n : Nat) : Nat := match k with | 1 => 65536 | 2 => 2 * 65536 * 65536 * 65536 | _ => 65536 * n

/-- Source rows that a lamp's filter reads. -/
def tapRows (k n : Nat) (t : Int) (h : Nat) : List Nat := (taps k n t).map fun q => (clampI 0 ((h : Int) - 1) q.1).toNat

/-- M2 and M3: the filtered premultiplied colour of a layer at a lamp; none where a sample has not arrived (R404). -/
def layerValue (s : State) (e b : Bytes) (c : LayerSrc) (p : Int × Int) : Option Nat :=
  let k := filterOf e b c
  let nx := areaTaps (sigma e b c false)
  let ny := areaTaps (sigma e b c true)
  let sx := srcCoord (lySrc b 0) (lyDst b 0) (srcW b c) (lyDst b 2) (lyFlipX b) p.1
  let sy := srcCoord (lySrc b 1) (lyDst b 1) (srcH b c) (lyDst b 3) (lyFlipY b) p.2
  let xs := (taps k nx sx).filter (·.2 != 0)
  let ys := (taps k ny sy).filter (·.2 != 0)
  let px := ys.flatMap fun y => xs.map fun x =>
    (sourcePx s b c (clampI 0 ((c.h : Int) - 1) y.1).toNat (clampI 0 ((c.w : Int) - 1) x.1).toNat, y.2 * x.2)
  if px.any (·.1.isNone) then none
  else
    let one := fun i => toHalf (sumI (px.map fun q => q.2 * halfVal (comp (q.1.getD 0) i))) (2 ^ 24 * tapSum k nx * tapSum k ny)
    some (mkPx (one 0) (one 1) (one 2) (one 3))

/-! ### Pattern engines (R407, R438, R439) -/

/-- Intensity of an engine at an offset s in canvas units along its direction, at device time t in µs: a binary16. The cosine is
computed to within 2^-14, and is free within that. -/
def peIntensity (s : State) (e : Nat) (t : Nat) (off : Int) : Nat :=
  let period := s.pn (Prm.PE_PERIOD_US e)
  let phi := (t + period - s.pn (Prm.PE_PHASE_US e) % period) % period
  let low := s.pn (Prm.PE_B_LOW e) / 65536
  match s.pn (Prm.PE_CTRL e) % 4 with
  | 0 => 0x3C00
  | 1 =>
    let c := clampI (-(2 ^ 28)) (2 ^ 28) (fxSinPi (4 * (phi : Int) + period) (2 * period) / 2 ^ 32 + (Config.freeAt 45 [phi, period] % 32769 : Nat) - 16384)
    toHalf ((low : Int) * 2 ^ 29 + (65536 - (low : Int)) * (2 ^ 28 - c)) (2 ^ 45)
  | _ =>
    let edge := s.pn (Prm.PE_SPEED e) * phi / 1000000
    let width := s.pn (Prm.PE_CHASE e) / 65536
    if (edge : Int) - width ≤ off ∧ off < edge then 0x3C00 else toHalf low 65536

/-- The working value of an engine at a lamp through a layer; none where the engine is off. -/
def peValue (s : State) (e : Nat) (b : Bytes) (t : Nat) (p : Int × Int) : Option Nat :=
  if !bitOf (s.pn (Prm.PE_CTRL e)) 31 then none else
  let x := p.1 / 256
  let y := p.2 / 256
  let off : Int := match s.pn (Prm.PE_CHASE e) % 4 with
    | 0 => x - lyDst b 0
    | 1 => (lyDst b 0 : Int) + lyDst b 2 - 1 - x
    | 2 => y - lyDst b 1
    | _ => (lyDst b 1 : Int) + lyDst b 3 - 1 - y
  let i := peIntensity s e t off
  let mul := fun h => toHalf (halfVal h * halfVal i) (2 ^ 48)
  let rg := s.pn (Prm.PE_RG e)
  some (mkPx (mul (rg / 65536)) (mul (rg % 65536)) (mul (s.pn (Prm.PE_B_LOW e) % 65536)) 0x3C00)

/-! ### Compositing (R388) -/

/-- The background (R372). -/
def mqBg (s : State) : Nat := mkPx (s.pn Prm.MQT_BG_RG / 65536) (s.pn Prm.MQT_BG_RG % 65536) (s.pn Prm.MQT_BG_B % 65536) 0

/-- One layer over a composited value. -/
def compose (b : Bytes) (under c : Nat) : Nat :=
  let al : Int := lyAlpha b
  let alpha := halfVal (comp c 3)
  let one := fun i =>
    let u := halfVal (comp under i)
    let v := halfVal (comp c i)
    if lyAdd b then
      let l := halfVal (lyLimit b)
      let top := if u < l then l else u
      let sum := 4096 * u + al * v
      toHalf (if sum < 4096 * top then sum else 4096 * top) (4096 * 2 ^ 24)
    else toHalf (al * v * 2 ^ 24 + 4096 * 2 ^ 24 * u - al * alpha * u) (4096 * 2 ^ 48)
  mkPx (one 0) (one 1) (one 2) 0

/-- Layers of a group in the order they are applied: rising priority, falling index among equals. -/
def insertLayer (x : Nat × Bytes) : List (Nat × Bytes) → List (Nat × Bytes)
  | [] => [x]
  | y :: t =>
    if lyPrio x.2 < lyPrio y.2 ∨ (lyPrio x.2 = lyPrio y.2 ∧ y.1 < x.1) then x :: y :: t else y :: insertLayer x t

def layerOrder (l : List (Nat × Bytes)) : List (Nat × Bytes) := l.foldl (fun r x => insertLayer x r) []

/-- M1 to M4: the composited working value of a lamp in a slot that latches at device time t (2^-16 ns), and the layers that
underran at it (R404). -/
def lampColour (s : State) (tile c r slot t : Nat) : Nat × List Nat :=
  let m := s.mqt
  let e := mqTile m tile
  let p := lampPos m e c r
  if !within p 0 0 (mqW m) (mqH m) then (mqBg s, []) else
  (layerOrder (layersOf s (tlGroup e))).foldl (fun (a : Nat × List Nat) x =>
    if !layerCovers s x.1 x.2 slot p then a else
    let st := s.layerSt x.1
    let us := t / NS / 1000
    if st.fallback then (match peValue s (lyFallback x.2) x.2 us p with | some v => (compose x.2 a.1 v, a.2) | none => a)
    else if lyKind x.2 = 5 then (match peValue s (lyIndex x.2) x.2 us p with | some v => (compose x.2 a.1 v, a.2) | none => a)
    else match layerSrc s x.1 x.2 with
      | none => a
      | some k => (match layerValue s e x.2 k p with
        | some v => (compose x.2 a.1 v, a.2)
        | none => (a.1, a.2 ++ [x.1]))) (mqBg s, [])

end Sys2Proof.Machine
end

