-- ==== Sys2Proof/Machine/LibBase.lean ====
section
/-! DEFINITION. Codes of libration as stage K6 uses them (chapter 12, R442 to R450), group timing in force (R396, R547) and the
fields of a witness-map entry (R457). -/
namespace Sys2Proof.Machine

/-! ### Groups in force -/

def grpMode (s : State) (g : Nat) : Nat := s.pn (Prm.GRP_MODE g) % 4
def grpSlots (s : State) (g : Nat) : Nat := s.pn (Prm.GRP_MODE g) / 16 % 8 + 1
def grpAlign (s : State) (g : Nat) : Bool := bitOf (s.pn (Prm.GRP_MODE g)) 8
def grpChase (s : State) (g : Nat) : Nat := s.pn (Prm.GRP_MODE g) / 65536 % 64

/-- A period NUM / DEN seconds (R389). -/
def perNum (v : Nat) : Nat := v / 65536
def perDen (v : Nat) : Nat := v % 65536

/-- A period in 2^-16 ns, rounded to the nearest. -/
def perTime (v : Nat) : Nat := divRound (perNum v * SEC) (perDen v)

def grpMin (s : State) (g : Nat) : Nat := s.pn (Prm.GRP_PERIOD_MIN g)
def grpMax (s : State) (g : Nat) : Nat := s.pn (Prm.GRP_PERIOD_MAX g)

/-- A shutter schedule is in force (R546). -/
def shtOn (s : State) (g : Nat) : Bool := bitOf (s.pn (Prm.SHT_SLOT_START_0 g)) 31

/-- Start of a slot after slot 0's latch, as a fraction n / d of 2^-16 ns (R396, R547). -/
def slotStart (s : State) (g slot : Nat) : Nat × Nat :=
  if shtOn s g then ((if slot = 0 then 0 else s.pn (Prm.SHT_SLOT_START_0 g + slot)) * NS, 1)
  else (slot * perNum (grpMin s g) * SEC, perDen (grpMin s g) * grpSlots s g)

/-- A slot that an enabled filming camera exposes (R548). -/
def slotExposed (s : State) (g slot : Nat) : Bool :=
  shtOn s g && (List.range 4).any fun c => let v := s.pn (Prm.SHT_CAM_0 g + c); bitOf v 31 && v / 2 ^ 24 % 8 == slot

/-! ### Codes -/

def libGroup (s : State) : Nat := s.pn Prm.LIB_GROUP
def libL (s : State) : Nat := 256 * 2 ^ (s.pn Prm.LIB_CODE % 4)
def libH (s : State) : Nat := 2 ^ (s.pn Prm.LIB_CODE / 16 % 4)
/-- The order of the code matrix (R442). -/
def libN (s : State) : Nat := libL s / libH s
def libEn (s : State) : Bool := bitOf (s.pn Prm.LIB_CTRL) 0

/-- Ones in a number of k bits. -/
def popcount (k n : Nat) : Nat := (List.range k).countP fun i => bitOf n i

/-- χ of a row at a chip (R442). -/
def chi (row chip : Nat) : Int := if popcount 11 (row &&& chip) % 2 = 0 then 1 else -1

/-- The chip of a frame number (R443). -/
def chipAt (s : State) (frame : Nat) : Nat := frame / libH s % libN s
def libChip (s : State) : Nat := chipAt s (groupFrame s (libGroup s))

/-- Number of code sets, and the one in force (R444). -/
def libSets (s : State) : Nat := s.pn Prm.LIB_STATE / 4096 % 8 + 1
def libSet (s : State) : Nat := s.lib.since % libSets s

/-- A slot that carries codes (R450). -/
def slotCodes (s : State) (slot : Nat) : Bool :=
  decide (slot < grpSlots s (libGroup s)) && bitOf (s.pn Prm.LIB_SLOT_MASK) slot && !slotExposed s (libGroup s) slot

/-- Injection is possible (R449, R450). -/
def canInject (s : State) : Bool := grpMode s (libGroup s) == 1 && (List.range 8).any (slotCodes s)

/-- Codes are injected in the frame in progress. -/
def injecting (s : State) : Bool := libEn s && canInject s && !s.lib.shed && !s.lib.restart

/-! ### Witness map (R457) -/

def libEntry (s : State) (idx : Nat) : Bytes := s.lib.map.getD idx (List.replicate 32 0)
def meX (e : Bytes) : Nat := fieldN e 0 2
def meY (e : Bytes) : Nat := fieldN e 2 2 % 16384
def meValid (e : Bytes) : Bool := bitOf (fieldN e 2 2) 15
def meSrc (e : Bytes) : Nat := byteAt e 4 % 4
def mePhoto (e : Bytes) : Nat := byteAt e 4 / 16
def meSet (e : Bytes) : Nat := byteAt e 5
def meW (e : Bytes) (p : Nat) : Nat := byteAt e (6 + p)
def meBeta (e : Bytes) (k : Nat) : Nat := fieldN e (15 + 2 * k) 2
def meRow (e : Bytes) (k : Nat) : Nat := fieldN e 25 7 / 2 ^ (11 * k) % 2048

/-- Lamp idx lies in the map build in progress. -/
def inBuild (s : State) (tile : Nat) : Option LibBuild :=
  match s.lib.build with
  | some b => if b.first ≤ tile ∧ tile < b.first + b.count then some b else none
  | none => none

/-- μ of a lamp's block in a slot (R447). -/
def libMu (s : State) (idx slot : Nat) : Nat := s.lib.mu.getD (8 * (idx / 32) + slot) 0

/-- R448: the code value of emitter position k (type ty) of a lamp in a slot. While a build locates tiles and lamps, and for
lamps whose entry it has yet to write, which row an emitter carries is not stated beyond R459: its sign is free then (notes/assumptions/44). -/
def libCode (s : State) (tile idx k ty slot : Nat) : Int :=
  let e := libEntry s idx
  let a : Int := ((s.pn (Prm.LIB_AMP (ty - 1)) * libMu s idx slot + 128) / 256 : Nat)
  if !injecting s ∨ !slotCodes s slot ∨ ty = 0 then 0
  else match inBuild s tile with
    | some b =>
      if b.phase < 3 ∨ !meValid e then (if Config.freeAt 48 [tile, idx, k, libChip s] % 2 = 0 then a else -a)
      else if meRow e k = 0 ∨ meSet e ≠ libSet s then 0 else chi (meRow e k) (libChip s) * a
    | none =>
      if !meValid e ∨ meRow e k = 0 ∨ meSet e ≠ libSet s then 0 else chi (meRow e k) (libChip s) * a

end Sys2Proof.Machine
end

