-- ==== Sys2Proof/Machine/TlkBase.lean ====
section
/-! DEFINITION. Tile links as the other chapters use them: packets, tiles, control writes (chapter 13). -/
namespace Sys2Proof.Machine

def TlkTile.init : TlkTile := ⟨false, List.replicate 24 0, false, none, [], 0, 0, none, [], .empty, .empty⟩
def TlkLink.init : TlkLink := ⟨none, [], 0, none, 0, 0, 0, false, [], none, false, none, none⟩
def DdpPort.init : DdpPort := ⟨.empty, .empty, false, 0, false, 0⟩

def State.tlkTile (s : State) (link hop : Nat) : TlkTile := s.tlk.tiles.getD (32 * link + hop) TlkTile.init
def State.tlkLink (s : State) (l : Nat) : TlkLink := s.tlk.links.getD l TlkLink.init
def State.ddpPort (s : State) (p : Nat) : DdpPort := s.tlk.ddp.getD p DdpPort.init
def effTile (link hop : Nat) (g : TlkTile → TlkTile) : Eff := .tlk fun t => { t with tiles := t.tiles.upd (32 * link + hop) TlkTile.init g }
def effLink (l : Nat) (g : TlkLink → TlkLink) : Eff := .tlk fun t => { t with links := t.links.upd l TlkLink.init g }
def effDdp (p : Nat) (g : DdpPort → DdpPort) : Eff := .tlk fun t => { t with ddp := t.ddp.upd p DdpPort.init g }

def linkCfg (s : State) (l : Nat) : Nat := s.pn (Prm.TLK_LINK_CFG l)
def linkEn (s : State) (l : Nat) : Bool := bitOf (linkCfg s l) 31
def linkRing (s : State) (l : Nat) : Bool := bitOf (linkCfg s l) 30
def linkPair (s : State) (l : Nat) : Bool := bitOf (linkCfg s l) 29
def linkPartner (s : State) (l : Nat) : Nat := linkCfg s l / 256 % 64
def linkReady (s : State) (l : Nat) : Bool := s.flag (Reg.TLK_LINK_STAT l) Fld.TLK_LINK_STAT.READY

/-- Hops of a link's chain in the maquette. -/
def chainLen (s : State) (l : Nat) : Nat := ((tiles s).filter fun t => let e := mqTile s.mqt t; tlEn e && !tlDdp e && tlLink e == l).length

/-- A packet (R486): TYPE, BCAST and HOP, LENGTH, 12 header bytes, payload, zeros to a multiple of 8, CRC. -/
def tlkBytes (type : Nat) (bcast : Bool) (hop : Nat) (head payload : Bytes) : Bytes :=
  let b := leBytes 1 type ++ leBytes 1 (hop + if bcast then 128 else 0) ++ leBytes 2 payload.length ++ field head 0 12 ++ payload
  let b := b ++ List.replicate ((8 - b.length % 8) % 8) 0
  b ++ leBytes 4 (crc32 b)

/-- A packet sent down a link. -/
def tlkSend (l type : Nat) (bcast : Bool) (hop : Nat) (head payload : Bytes) : Eff := .emit (.packet 1 l (tlkBytes type bcast hop head payload))

/-- The link is split and the hop lies beyond its break. -/
def beyondBreak (s : State) (l hop : Nat) : Bool :=
  s.flag (Reg.TLK_LINK_STAT l) Fld.TLK_LINK_STAT.SPLIT && decide (s.fld (Reg.TLK_LINK_STAT l) Fld.TLK_LINK_STAT.BREAK_HOP < hop)

/-- The link that serves a hop: the A end, or the B end where a ring is split or the tile lies beyond a break (R507). -/
def servingLink (s : State) (l hop : Nat) : Nat := if beyondBreak s l hop ∧ !linkPair s l then linkPartner s l else l

/-- The hop lies beyond a break of a paired ring, so that the partner package serves it (R725). -/
def pairBeyond (s : State) (l hop : Nat) : Bool := linkPair s l && beyondBreak s l hop

/-- A packet forwarded to the partner's B end (R725), as XPL class 2: kind 1, the link, the packet. -/
def tlkForward (s : State) (l type hop : Nat) (head payload : Bytes) : List Eff :=
  let b := tlkBytes type false hop head payload
  [.emit (.packet 3 (partnerPkg s) ([2, 1] ++ leBytes 1 l ++ b)), .flt fun x => { x with forwarded := x.forwarded + b.length }]

/-- A tile that can be addressed: present, driven, and its link ready. -/
def tileReached (s : State) (t : Nat) : Bool :=
  let e := mqTile s.mqt t
  if tlDdp e then bitOf (s.pn (Prm.DDP_CFG (tlLink e))) 31
  else (if pairBeyond s (tlLink e) (tlHop e) then partnerReached s else linkReady s (servingLink s (tlLink e) (tlHop e))) &&
    (s.tlkTile (tlLink e) (tlHop e)).present && !(s.tlkTile (tlLink e) (tlHop e)).mismatch

/-! ### Control packets (R501) -/

def ctrlSend (l : Nat) (c : TlkCtrl) : Eff := tlkSend l c.type false c.hop (leBytes 2 c.tag) c.payload

/-- The next waiting control packet of a link is sent, if none is outstanding. -/
def ctrlNext (l : Nat) : Act := fun s =>
  let k := s.tlkLink l
  match k.ctrl, k.queue with
  | none, c :: rest =>
    let c := { c with tag := k.tag, sent := 1 }
    [effLink l fun x => { x with ctrl := some c, queue := rest, tag := (x.tag + 1) % 65536 }, ctrlSend l c]
  | _, _ => []

/-- A control packet joins the link's queue. -/
def ctrlQueue (l : Nat) (cs : List TlkCtrl) : Act := acts [eff [effLink l fun x => { x with queue := x.queue ++ cs }], ctrlNext l]

/-- CTRL_WRITE packets of consecutive words from a byte address, 256 words at most in each. -/
def ctrlWrites (hop : Nat) : Nat → Nat → Bytes → List TlkCtrl
  | 0, _, _ => []
  | n + 1, a, bs =>
    if bs.isEmpty then [] else
    let w := bs.take 1024
    let w := w ++ List.replicate ((4 - w.length % 4) % 4) 0
    ⟨0, hop, 4, leBytes 4 a ++ leBytes 2 (w.length / 4) ++ [0, 0] ++ w, 0, none, false⟩ :: ctrlWrites hop n (a + 1024) (bs.drop 1024)

/-- Mark the last packet of a list as the end of a tile's drive settings. -/
def markLast : List TlkCtrl → List TlkCtrl
  | [] => []
  | [c] => [{ c with drive := true }]
  | c :: t => c :: markLast t

end Sys2Proof.Machine
end

