-- ==== Sys2Proof/Machine/Patina.lean ====
section
/-! DEFINITION. Patina: records, banks, the correction stages K1 to K8 as functions of the state, gain folding, bank switches
and the commands of chapter 11 (rows PAT_LOAD to PAT_SYNC_DONE). -/
namespace Sys2Proof.Machine

/-! ### Records and banks (R412, R415) -/

def recZero : Bytes := List.replicate 32 0
def PatBank.record (b : PatBank) (i : Nat) : Bytes := b.recs.getD i recZero
def PatBank.dc (b : PatBank) (i k : Nat) : Nat := byteAt (b.drive.getD i []) k
def PatBank.gc (b : PatBank) (t k : Nat) : Nat := byteAt (b.tile.getD t []) k

/-- A coefficient P[k][j], signed Q2.12. -/
def recP (r : Bytes) (k j : Nat) : Int := let i := 14 * (3 * k + j); sgn 14 (bitsOf (leNat r) (i + 13) i)
def recCurve (r : Bytes) : Nat := bitsOf (leNat r) 217 210
def recZoneA (r : Bytes) : Nat := bitsOf (leNat r) 221 218
def recZoneB (r : Bytes) : Nat := bitsOf (leNat r) 225 222
def recZoneW (r : Bytes) : Nat := bitsOf (leNat r) 227 226
def recDead (r : Bytes) : Bool := bitOf (leNat r) 228
def recStuck (r : Bytes) : Bool := bitOf (leNat r) 229
def recNoLib (r : Bytes) : Bool := bitOf (leNat r) 230

/-- A row is all zero (R413). -/
def rowZero (r : Bytes) (k : Nat) : Bool := (List.range 3).all fun j => recP r k j == 0

/-- A record with a row replaced. -/
def recSetRow (r : Bytes) (k : Nat) (row : List Int) : Bytes :=
  leBytes 32 ((List.range 3).foldl (fun n j => let i := 14 * (3 * k + j); putBits n (i + 13) i (unsgn 14 (row.getD j 0))) (leNat r))

/-- R413: DEAD as the device writes it. -/
def recFixDead (emit : Nat) (r : Bytes) : Bytes :=
  leBytes 32 (putBits (leNat r) 228 228 (if (List.range emit).any (rowZero r) then 1 else 0))

def State.bank (s : State) (b : Bool) : PatBank := if b then s.pat.b else s.pat.a
def State.activeBank (s : State) : PatBank := s.bank s.pat.activeB
def State.idleBank (s : State) : PatBank := s.bank (!s.pat.activeB)
def effBank (b : Bool) (g : PatBank → PatBank) : Eff := .pat fun p => if b then { p with b := g p.b } else { p with a := g p.a }

def PatGroup.init : PatGroup := ⟨false, .empty, .empty, 0, 0, 0, 0, .empty, false⟩
def State.patGroup (s : State) (g : Nat) : PatGroup := s.pat.groups.getD g PatGroup.init
def effPatGroup (g : Nat) (f : PatGroup → PatGroup) : Eff := .pat fun p => { p with groups := p.groups.upd g PatGroup.init f }

/-! ### Correction tables (R436) -/

def patIdx (kind idx : Nat) : Nat := 256 * kind + idx

/-- The default of a correction table. The device's own dither table is not given: its entries are free (notes/assumptions/45). -/
def patDefault (kind : Nat) : Bytes :=
  match kind with
  | 0 => (List.range 9).flatMap (fun n => leBytes 2 (if n % 4 = 0 then 16384 else 0)) ++ leBytes 2 0x3C00 ++ List.replicate 4 0
  | 1 => (List.range 63).flatMap (fun _ => leBytes 2 16384) ++ [0, 0]
  | 2 => (List.range 5).flatMap fun _ => (List.range 1024).flatMap fun i => leBytes 2 (64 * i)
  | _ => (List.range 4096).map fun i => BitVec.ofNat 8 (Config.freeAt 47 [i])

/-- A table that a group reads. -/
def patTab (s : State) (g kind idx : Nat) : Bytes := ((s.patGroup g).tabs.find (patIdx kind idx)).getD (patDefault kind)

/-! ### The stages -/

/-- What the correction chain makes of a lamp. -/
structure LampGrey where
  grey : List Nat
  matrixSat : Bool
  tempClip : Bool
  limited : Bool
  /-- Emitter positions whose code was skipped (R431). -/
  skips : List Nat
  /-- Emitter positions saturated in K2, K3 or K7. -/
  sat : List Nat
  /-- Largest v >> 8 after K5 (R447). -/
  luma : Nat
  deriving DecidableEq, Repr

/-- K1 (R425): wall primaries, 0 to 65,536. -/
def k1 (tab : Bytes) (v : Nat) : List Int :=
  let g := halfVal (fieldN tab 18 2)
  (List.range 3).map fun i =>
    clampI 0 65536 (rnd 46 (g * sumI ((List.range 3).map fun j => sgn 16 (fieldN tab (2 * (3 * i + j)) 2) * halfVal (comp v j))))

/-- K2 (R426) before its clamp. -/
def k2 (r : Bytes) (w : List Int) (k : Nat) : Int := rnd 12 (sumI ((List.range 3).map fun j => recP r k j * w.getD j 0))

/-- The lamp's temperature (R428). -/
def lampTemp (tA tB : Nat) (w : Nat) : Nat :=
  (clampI 0 1600 ((4 * (tA : Int) + ((tB : Int) - tA) * w + 2) / 4)).toNat

/-- Gain of an emitter type at a temperature (R428). -/
def tempGain (tab : Bytes) (ty t : Nat) : Int :=
  let n := fun i => (fieldN tab (18 * (ty - 1) + 2 * i) 2 : Int)
  let i := min 7 (t / 200)
  let f : Int := (t - 200 * i : Nat)
  n i + (2 * (n (i + 1) - n i) * f + 200) / 400

/-- K4 (R429): a value in UQ16.8. -/
def k4 (tab : Bytes) (k : Nat) (x : Nat) : Int :=
  let c := fun i => (fieldN tab (2 * (1024 * k + i)) 2 : Int)
  let i := x / 64
  let hi := if i = 1023 then clampI 0 65535 (2 * c 1023 - c 1022) else c (i + 1)
  c i * 256 + (hi - c i) * (x % 64 : Nat) * 4

/-- The limit of a lamp in UQ2.24 (R430). -/
def lampLimit (s : State) (g : Nat) (p : Int × Int) : Int :=
  let ws := (s.objIdx K_WIN).filterMap fun i => (s.obj K_WIN i).bind fun b =>
    if within p (winRect b 0) (winRect b 1) (winRect b 2) (winRect b 3) then some (halfVal (winLimit b)) else none
  clampI 0 (2 ^ 24) (ws.foldl (fun a b => if b < a then b else a) (halfVal (s.pn (Prm.PAT_LIMIT g) % 65536)))

/-- The sampled temperature of a zone (R427). -/
def zoneTemp (s : State) (g tile z : Nat) : Nat := (s.patGroup g).temps.getD (16 * tile + z) (s.pn (Prm.PAT_TEMP_DEFAULT g))

/-- K1 to K8 on a composited value of a lamp (R425 to R433). -/
def correct (s : State) (tile c r slot v : Nat) : LampGrey :=
  let m := s.mqt
  let e := mqTile m tile
  let g := tlGroup e
  let idx := tlBase e + r * tlCols e + c
  let b := s.bank (s.patGroup g).bankB
  let rec' := b.record idx
  let ctl := s.pn (Prm.PAT_CTRL g)
  let ks := List.range (tlEmit e)
  let w := k1 (patTab s g 0 g) v
  let raw2 := ks.map (k2 rec' w)
  let e2 := raw2.map (clampI 0 65535)
  let t := lampTemp (zoneTemp s g tile (recZoneA rec')) (zoneTemp s g tile (recZoneB rec')) (recZoneW rec')
  let raw3 := ks.map fun k =>
    if bitOf ctl 0 then rnd 14 (e2.getD k 0 * (if tlType e k = 0 then 16384 else tempGain (patTab s g 1 0) (tlType e k) t)) else e2.getD k 0
  let e3 := raw3.map (clampI 0 65535)
  let v4 := ks.map fun k => let x := (e3.getD k 0).toNat
    if bitOf ctl 1 then k4 (patTab s g 2 (recCurve rec')) k x else (x : Int) * 256
  let lim := (lampLimit s g (lampPos m e c r) * 65535 * 256 * 2 + 2 ^ 24) / 2 ^ 25
  let top := v4.foldl (fun a b => if a < b then b else a) 0
  let past := bitOf ctl 2 && decide (lim < top)
  let v5 := if past then v4.map fun x => (2 * x * lim + top) / (2 * top) else v4
  let code := fun k => if !bitOf ctl 4 || recStuck rec' || recNoLib rec' || rowZero rec' k || libGroup s != g then 0
    else 256 * libCode s tile idx k (tlType e k) slot
  let bad := fun k => let x := v5.getD k 0 + code k; decide (x < 0) || decide (16777215 < x)
  let v6 := ks.map fun k => if bad k then v5.getD k 0 else v5.getD k 0 + code k
  let n := (groupFrame s g * grpSlots s g + slot) % 64
  let d := fun k => if bitOf ctl 3 then
      (byteAt (patTab s g 3 0) (64 * ((r + 11 * k + 23 * n + 19 * tile) % 64) + (c + 5 * k + 7 * n + 37 * tile) % 64) : Int) else 128
  let q7 := ks.map fun k => (v6.getD k 0 + d k) / 256
  let grey := ks.map fun k => if recStuck rec' || b.dc idx k == 0 || rowZero rec' k then 0 else (clampI 0 65535 (q7.getD k 0)).toNat
  ⟨grey, raw2.any fun x => decide (65535 < x), (raw3.zip e3).any fun x => x.1 != x.2, past,
    ks.filter fun k => code k != 0 && bad k,
    ks.filter fun k => decide (65535 < raw2.getD k 0) || raw3.getD k 0 != e3.getD k 0 || decide (65535 < q7.getD k 0),
    (v5.foldl (fun a b => if a < b then b else a) 0).toNat / 256⟩

/-- What a lamp's passage through the chain leaves in the counts of its frame (R426 to R431, R447, R452). -/
def countLamp (s : State) (tile c r slot : Nat) (x : LampGrey) : List Eff :=
  let e := mqTile s.mqt tile
  let g := tlGroup e
  let idx := tlBase e + r * tlCols e + c
  let one := fun (b : Bool) => if b then 1 else 0
  [effPatGroup g (fun p => { p with
      matrixSat := p.matrixSat + one x.matrixSat, tempClips := p.tempClips + one x.tempClip, limited := p.limited + one x.limited,
      libSkips := p.libSkips + x.skips.length,
      sat := ((List.range (tlEmit e)).foldl (fun m k => if x.grey.getD k 0 = 65535 then m.upd (tlType e k) 0 (· + 1) else m)
        (if x.sat.isEmpty ∨ tlDdp e then p.sat else p.sat.upd (64 + tlLink e) 0 (· + x.sat.length))) }),
   .pat fun p => { p with grey := (List.range (tlEmit e)).foldl (fun m k => m.put (8 * idx + k) (x.grey.getD k 0)) p.grey }] ++
  (if g = libGroup s ∧ libEn s then [.lib fun l => { l with luma := l.luma.put (8 * idx + slot) x.luma }] else []) ++
  (if x.skips.isEmpty then [] else [.lib fun l => { l with skips := (idx / 32, s.vis) :: l.skips }])

/-- The lamp's codes of its last slot (R607). -/
def lastGrey (s : State) (tile c r : Nat) : List Nat :=
  let e := mqTile s.mqt tile
  (List.range (tlEmit e)).map fun k => s.pat.grey.getD (8 * (tlBase e + r * tlCols e + c) + k) 0

/-! ### Gain folding (R421) -/

/-- N of an emitter of a physical record, at 2^28. -/
def foldN (head : Nat) (r : Bytes) (k : Nat) : Nat :=
  min (2 ^ 28) ((sumI ((List.range 3).map fun j => if recP r k j < 0 then 0 else recP r k j)).toNat * (65536 + head))

/-- GC of an emitter position of a tile. -/
def foldGc (s : State) (ty n : Nat) : Nat :=
  let v := (255 * n + 2 ^ 28 - 1) / 2 ^ 28
  max (s.pn (Prm.PAT_GC_MIN (ty - 1))) (min v (s.pn (Prm.PAT_GC_MAX (ty - 1))))

/-- DC of an emitter. -/
def foldDc (s : State) (ty gc n : Nat) : Nat :=
  if n = 0 then 0 else
  min 255 (max (s.pn (Prm.PAT_DC_MIN (ty - 1))) ((n * 65025 + gc * 2 ^ 28 - 1) / (gc * 2 ^ 28)))

/-- A coefficient folded. -/
def foldP (p : Int) (gc dc : Nat) : Int :=
  let d : Int := (gc * dc : Nat)
  if dc = 0 then 0 else clampI (-8192) 8191 ((2 * p * 65025 + d) / (2 * d))

/-- A tile folded: its tile entry, and for each lamp its drive entry and record. -/
def foldTile (s : State) (e : Bytes) (recs : List Bytes) : Bytes × List (Bytes × Bytes) :=
  let head := s.pn Prm.PAT_FOLD_HEADROOM
  let ks := List.range (tlEmit e)
  let gcs := ks.map fun k => foldGc s (tlType e k) (recs.foldl (fun m r => max m (foldN head r k)) 0)
  (field (gcs.flatMap (leBytes 1)) 0 8, recs.map fun r =>
    let dcs := ks.map fun k => foldDc s (tlType e k) (gcs.getD k 1) (foldN head r k)
    (field (dcs.flatMap (leBytes 1)) 0 8,
     recFixDead (tlEmit e) (ks.foldl (fun q k => recSetRow q k ((List.range 3).map fun j => foldP (recP r k j) (gcs.getD k 1) (dcs.getD k 0))) r)))

/-! ### Drive settings (R423, R501) -/

/-- Control writes of a tile's drive settings in a bank. -/
def driveWrites (s : State) (b : PatBank) (t : Nat) : List TlkCtrl :=
  let e := mqTile s.mqt t
  let n := tlCols e * tlRows e
  let dc := (List.range n).flatMap fun i => (List.range (tlEmit e)).flatMap fun k => leBytes 1 (b.dc (tlBase e + i) k)
  markLast (ctrlWrites (tlHop e) 2 0x100 (field (b.tile.getD t []) 0 8) ++ ctrlWrites (tlHop e) (dc.length / 1024 + 1) 0x100000 dc)

/-- Settings sent to a tile; a direct drive tile takes its own through its chain. -/
def sendDrive (b : PatBank) (t : Nat) : Act := fun s =>
  let e := mqTile s.mqt t
  if tlDdp e then [] else
  acts [eff [.pat fun p => { p with unacked := if p.unacked.contains t then p.unacked else t :: p.unacked }],
    Act.when (fun s => tileReached s t) (ctrlQueue (servingLink s (tlLink e) (tlHop e)) (driveWrites s b t))] s

/-! ### PAT_LOAD -/

/-- The maquette that a load is checked against (R434). -/
def loadMqt (s : State) : Bytes :=
  match stagedObj (s.stagedOf 0) K_MQT 0 with
  | some (some m) => m
  | _ => s.mqt

/-- The tiles whose patina ranges make up a range exactly; none where it is not whole tiles. -/
def wholeTiles (m : Bytes) (first count : Nat) : Option (List Nat) :=
  let ts := (List.range (mqTiles m)).filter fun t =>
    let e := mqTile m t; decide (first ≤ tlBase e) && decide (tlBase e + tlCols e * tlRows e ≤ first + count)
  let sum := (ts.map fun t => tlCols (mqTile m t) * tlRows (mqTile m t)).foldl (· + ·) 0
  if sum = count ∧ 0 < count then some ts else none

/-- The records of an image for a tile. -/
def imageRecs (bs e : Bytes) (first : Nat) : List Bytes :=
  (List.range (tlCols e * tlRows e)).map fun i => field bs (64 + 32 * (tlBase e - first + i)) 32

/-- A record of an image is well formed for a tile (R412, R435). -/
def imageRecOk (e r : Bytes) : Bool :=
  bitsOf (leNat r) 255 236 == 0 && (List.range 5).all (fun k => decide (k < tlEmit e) || rowZero r k) &&
  decide (recZoneA r < tlZones e) && decide (recZoneB r < tlZones e)

/-- R434, R435: the tiles of an image, or none where a check fails. -/
def patImage (s : State) (bs : Bytes) : Option (List Nat) :=
  let first := fieldN bs 8 4
  let count := fieldN bs 12 4
  let m := loadMqt s
  if bs.take 5 ≠ [0x50, 0x41, 0x54, 0x4E, 1] ∨ !zeroAt bs 5 3 ∨ !zeroAt bs 20 44 ∨ fieldN bs 16 4 ≠ 64 + 32 * count ∨
     bs.length ≠ 64 + 32 * count ∨ 33554432 < first + count then none
  else match wholeTiles m first count with
    | none => none
    | some ts => if ts.all fun t => (imageRecs bs (mqTile m t) first).all (imageRecOk (mqTile m t)) then some ts else none

/-- A switch is staged, or a commit that carries one is pending. -/
def switchStaged (s : State) : Bool := s.allStaged.any fun x => match x.2 with | .obj k _ (some _) => k == K_SWITCH | _ => false

/-- The inactive bank is held, or a switch is staged or armed (R416). -/
def bankHeld (s : State) : Bool := s.pat.writer != 0 || switchStaged s || s.pat.switching || (match s.lib.update with | some _ => true | none => false)

/-- R416, R440: the load takes the inactive bank at its turn. -/
def hPatLoad (c : Svc) (s : State) : Reply :=
  checks [c.badLen 24, c.notF0, (isStandby s, ST_CONFLICT), (bankHeld s, ST_BUSY)] (.pending (eff [.pat fun p => { p with writer := 1 }]))

def execPatLoad (s : State) : Host.Outcome State Fault Refusal := (turn 0x800 hPatLoad).outcome s

/-- The background sync starts (R418, R419). -/
def startSync : Eff := .pat fun p => { p with writer := 3 }

/-- The tiles of an image written into the inactive bank. -/
def writeTile (m bs : Bytes) (first t : Nat) : Act := fun s =>
  let e := mqTile m t
  let f := foldTile s e (imageRecs bs e first)
  [effBank (!s.pat.activeB) fun b => { b with
    tile := b.tile.put t f.1,
    drive := f.2.zipIdx.foldl (fun x d => x.put (tlBase e + d.2) d.1.1) b.drive,
    recs := f.2.zipIdx.foldl (fun x d => x.put (tlBase e + d.2) d.1.2) b.recs }]

/-- Smallest fold factor of the emitters driven, UQ0.16. -/
def smallestF (m : Bytes) (b : PatBank) (ts : List Nat) : Nat :=
  ts.foldl (fun a t =>
    let e := mqTile m t
    (List.range (tlCols e * tlRows e)).foldl (fun a i => (List.range (tlEmit e)).foldl (fun a k =>
      let f := b.gc t k * b.dc (tlBase e + i) k
      if f = 0 then a else min a (divRound (f * 65536) 65025)) a) a) 65536

/-- The work of PAT_LOAD (R421, R423, R435). -/
def workPatLoad (f : Nat) (t : Ticket) (s : State) : Reply :=
  let p := t.payload
  let fail := fun st => (⟨st, [], eff [startSync]⟩ : Reply)
  if !zeroAt p 0 4 ∨ !zeroAt p 20 4 then fail ST_BAD_PARAM
  else match imageOf s (fieldN p 8 8) (fieldN p 4 4) (fieldN p 16 4) with
    | none => fail ST_INPUT_CORRUPT
    | some bs =>
      match patImage s bs with
      | none => fail ST_BAD_PARAM
      | some ts =>
        let m := loadMqt s
        let s' := applyAll (actsFor ts (writeTile m bs (fieldN bs 8 4)) s) s
        .ok (field bs 8 8 ++ leBytes 2 ts.length ++ leBytes 2 (ts.countP fun t => !tileReached s t) ++ leBytes 4 (smallestF m s'.idleBank ts))
          (acts [actsFor ts (writeTile m bs (fieldN bs 8 4)),
            eff [.pat (fun p => { p with loaded := ts }), .prm Prm.PAT_LOAD_CRC (w32 (fieldN p 16 4))],
            actsFor ts fun t => fun s => sendDrive s.idleBank t s,
            eff [stage f (.obj K_SWITCH 0 (some []))]])

/-! ### Switches (R417, R418, R420) -/

/-- Lamps of the maquette in force with a flag in a bank. -/
def countRecs (s : State) (b : PatBank) (p : Bytes → Bool) : Nat :=
  ((tiles s).map fun t => let e := mqTile s.mqt t; (List.range (tlCols e * tlRows e)).countP fun i => p (b.record (tlBase e + i))).foldl (· + ·) 0

/-- The counts of the active bank (R441). -/
def patCounts : Act := fun s =>
  let b := s.activeBank
  let each := fun (ty : Nat) (p : Nat → Nat → Nat → Bool) => ((tiles s).map fun t => let e := mqTile s.mqt t
    ((List.range (tlEmit e)).filter fun k => tlType e k == ty).foldl (fun a k =>
      a + (List.range (tlCols e * tlRows e)).countP fun i => p t (tlBase e + i) k) 0).foldl (· + ·) 0
  [.prm Prm.PAT_LAMPS_DEAD (w32 (countRecs s b recDead)), .prm Prm.PAT_LAMPS_STUCK (w32 (countRecs s b recStuck))] ++
  (List.range 7).flatMap fun n =>
    let gcs := (tiles s).flatMap fun t => let e := mqTile s.mqt t; ((List.range (tlEmit e)).filter fun k => tlType e k == n + 1).map fun k => b.gc t k
    [.prm (Prm.PAT_FOLDED n) (w32 (each (n + 1) fun t i k => decide (b.gc t k * b.dc i k < 65025))),
     .prm (Prm.PAT_DEAD n) (w32 (each (n + 1) fun _ i k => rowZero (b.record i) k)),
     .prm (Prm.PAT_GC_MEAN n) (w32 (if gcs.isEmpty then 0 else 256 * gcs.foldl (· + ·) 0 / gcs.length))]

/-- A switch takes effect: the banks exchange, PAT_GEN rises, and the groups follow at their boundaries (R417, R418). -/
def patSwitch (fromLoad : Bool) : Act := acts [
  (fun s =>
    let g := (s.pat.gen + 1) % 2 ^ 64
    [.pat (fun p => { p with activeB := !p.activeB, gen := g, switching := true, switched := [], fromLoad := fromLoad, writer := 0 }),
     .prm Prm.PAT_GEN_LO (w32 g), .prm Prm.PAT_GEN_HI (w32 (g / 2 ^ 32))]),
  patCounts]

/-- The image that the baseline is kept as in the clip store: the records of every tile in tile order. -/
def baselineBytes (s : State) : Bytes :=
  (tiles s).flatMap fun t => let e := mqTile s.mqt t; (List.range (tlCols e * tlRows e)).flatMap fun i => s.pat.baseline.getD (tlBase e + i) recZero

/-- R420, R583: the baseline is written to the copy of the system namespace not used last. -/
def storeBaseline : Act := fun s =>
  if !s.flag Reg.CST_STORE_STAT Fld.CST_STORE_STAT.READY then [.prm Prm.CST_SYS_NS_STATE 0] else
  let newB := match s.cst.disk.baseA, s.cst.disk.baseB with
    | some a, some b => decide (b.1 < a.1)
    | some _, none => true
    | _, _ => false
  let x := some (s.pat.gen, baselineBytes s)
  let b := s.activeBank
  [.cst (fun c => { c with disk := if newB then { c.disk with baseB := x } else { c.disk with baseA := x } }),
   .cst (fun c => { c with disk := { c.disk with baseTile := b.tile, baseDrive := b.drive } }),
   .prm Prm.CST_SYS_NS_STATE (if newB then 5 else 1), .prm Prm.CST_BASELINE_GEN_LO (w32 s.pat.gen), .prm Prm.CST_BASELINE_GEN_HI (w32 (s.pat.gen / 2 ^ 32))]

/-- The new baseline after a PAT_LOAD switch (R420). -/
def newBaseline : Act := acts [
  (fun s => let b := s.activeBank
    [.pat fun p => { p with baseline := b.recs }]),
  storeBaseline]

/-- PAT_DRIVE_PENDING and PAT_DRIVE_STATE follow the tiles held (R424, R441). -/
def syncDrive : Act := fun s =>
  let held := s.pat.unacked.filter fun t => let e := mqTile s.mqt t; s.pat.writer != 1 && (s.patGroup (tlGroup e)).bankB == s.pat.activeB
  (List.range 4).map (fun g => .prm (Prm.PAT_DRIVE_PENDING g) (w32 (held.countP fun t => tlGroup (mqTile s.mqt t) == g))) ++
  (List.range 64).map fun l =>
    let n := held.countP fun t => let e := mqTile s.mqt t; tlLink e == l && !tlDdp e
    let mine := s.pat.loaded.filter fun t => let e := mqTile s.mqt t; tlLink e == l && !tlDdp e
    let sent := !mine.isEmpty
    let all := sent && mine.all fun t => !s.pat.applyDue.contains t && !s.pat.unacked.contains t
    .prm (Prm.PAT_DRIVE_STATE l) (w32 ((if sent then 1 else 0) + (if all then 2 else 0) + 256 * (n % 32)))

/-- A boundary of a group as the patina sees it: the bank and tables in force are taken, zone temperatures sampled, the counts of
the frame that ended shown (R417, R427, R437, R441). -/
def patBoundary (g : Nat) : Act := acts [
  (fun s =>
    let p := s.patGroup g
    [.prm (Prm.PAT_MATRIX_SAT g) (w32 p.matrixSat), .prm (Prm.PAT_TEMP_CLIPS g) (w32 p.tempClips), .prm (Prm.PAT_LIMITED g) (w32 p.limited),
     .prm (Prm.PAT_LIB_SKIPS g) (w32 p.libSkips)] ++ (if p.poisoned then [.count Prm.FLT_POISON_HOLDS 1] else []) ++
    ((List.range 7).filter fun n => (groupTiles s g).any fun t => (List.range 5).any fun k => tlType (mqTile s.mqt t) k == n + 1).map
      (fun n => .prm (Prm.PAT_GREY_SAT n) (w32 (p.sat.getD (n + 1) 0))) ++
    ((List.range 64).filter fun l => (groupTiles s g).any fun t => let e := mqTile s.mqt t; tlLink e == l && !tlDdp e).map
      (fun l => .prm (Prm.PAT_CLIP l) (w32 (p.sat.getD (64 + l) 0)))),
  (fun s =>
    if s.pat.switching && !s.pat.switched.contains g then
      [.pat (fun p => { p with
          switched := g :: p.switched,
          applyDue := p.applyDue ++ (if p.fromLoad then p.loaded.filter fun t => tlGroup (mqTile s.mqt t) == g && !p.applyDue.contains t else []) })]
    else []),
  (fun s =>
    let limit := s.pn (Prm.PAT_TEMP_STALE_MS g) * 250000
    let zs := (groupTiles s g).flatMap fun t => (List.range (tlZones (mqTile s.mqt t))).map fun z => 16 * t + z
    let dflt := s.pn (Prm.PAT_TEMP_DEFAULT g)
    let stale := fun k => match s.pat.zones.find k with | some (_, at') => decide (at' + limit < s.uptime) | none => true
    let temp := fun k => if stale k then dflt else match s.pat.zones.find k with | some (t, _) => t.toNat | none => dflt
    let hot := zs.foldl (fun m k => max m (temp k)) 0
    [effPatGroup g (fun p => { p with
        bankB := s.pat.activeB,
        tabs := ⟨(s.objs.entries.filter fun e => e.1 / 2 ^ 20 == K_PAT).map fun e => (e.1 % 2 ^ 20, e.2)⟩,
        temps := zs.foldl (fun m k => m.put k (temp k)) .empty, matrixSat := 0, tempClips := 0, limited := 0, libSkips := 0, sat := .empty, poisoned := false }),
     .prm (Prm.PAT_STALE_ZONES g) (w32 (zs.countP stale)), .prm (Prm.PAT_ZONE_MAX g) (w32 hot),
     .prm (Prm.PAT_GEN_IN_FORCE g) (w32 s.pat.gen)] ++
    ((List.range 7).filter fun n => (groupTiles s g).any fun t => (List.range 5).any fun k => tlType (mqTile s.mqt t) k == n + 1).map
      (fun n => .prm (Prm.PAT_TEMP_GAIN n) (w32 (tempGain (((s.obj K_PAT (patIdx 1 0)).getD (patDefault 1))) (n + 1) hot).toNat))),
  (fun s =>
    if s.pat.switching && (List.range 4).all (fun g => s.pat.switched.contains g) then
      acts [if s.pat.fromLoad then newBaseline else eff [],
        eff [.pat (fun p => { p with switching := false }), startSync]] s
    else []),
  syncDrive]

/-- R418: the background copy ends; the banks are equal over the tiles of the maquette. -/
def actPatSyncDone : Act := fun s =>
  if s.pat.writer ≠ 3 then [] else
  let src := s.activeBank
  let idx := (tiles s).flatMap fun t => let e := mqTile s.mqt t; (List.range (tlCols e * tlRows e)).map (tlBase e + ·)
  [effBank (!s.pat.activeB) (fun b => { b with
      recs := idx.foldl (fun m i => m.put i (src.record i)) b.recs,
      drive := idx.foldl (fun m i => m.put i (src.drive.getD i (List.replicate 8 0))) b.drive,
      tile := (tiles s).foldl (fun m t => m.put t (src.tile.getD t (List.replicate 8 0))) b.tile }),
   .pat fun p => { p with writer := 0 }]

/-! ### The other commands -/

/-- R440: PAT_READ's turn. -/
def hPatRead (c : Svc) (s : State) : Reply :=
  let what := c.n 1 1
  let _ := s
  checks [c.badLen 24, c.notF0, (1 < c.n 0 1 || 2 < what, ST_BAD_PARAM), c.rsv 2 2,
    ((if what = 2 then 1024 else 33554432) < c.n 4 4 + c.n 8 4, ST_BAD_PARAM)] (.pending fun _ => [])

def execPatRead (s : State) : Host.Outcome State Fault Refusal := (turn 0x801 hPatRead).outcome s

/-- The bytes that PAT_READ copies. -/
def patReadBytes (s : State) (p : Bytes) : Bytes :=
  let b := if byteAt p 0 = 0 then s.activeBank else s.idleBank
  (List.range (fieldN p 8 4)).flatMap fun i =>
    let n := fieldN p 4 4 + i
    match byteAt p 1 with
    | 0 => b.record n
    | 1 => field (b.drive.getD n []) 0 8
    | _ => field (b.tile.getD n []) 0 8

/-- A copy to a buffer under R238: length and CRC, or ST_OUTPUT_FULL. -/
def copyOut (buflen addr : Nat) (bs : Bytes) : Reply :=
  if buflen < bs.length then ⟨ST_OUTPUT_FULL, List.replicate 8 0, fun _ => []⟩
  else .ok (leBytes 4 bs.length ++ leBytes 4 (crc32 bs)) (eff [.dev addr bs])

def workPatRead (t : Ticket) (s : State) : Reply := copyOut (fieldN t.payload 12 4) (fieldN t.payload 16 8) (patReadBytes s t.payload)

/-- Index ranges of the correction tables. -/
def patTableBad (kind idx : Nat) : Bool := 3 < kind || (kind == 0 && 3 < idx) || ((kind == 1 || kind == 3) && idx != 0)

def patTurn (c : Svc) (s : State) (len : Nat) (load : Bool) : Reply :=
  checks [c.badLen len, c.notF0, (patTableBad (c.n 1 1) (c.n 0 1), ST_BAD_PARAM), (!load && !zeroAt c.cmd.payload 2 2, ST_BAD_PARAM),
    (load && isStandby s, ST_CONFLICT)] (.pending fun _ => [])

def execPatTableLoad (s : State) : Host.Outcome State Fault Refusal := (turn 0x802 fun c s => patTurn c s 24 true).outcome s
def execPatTableRead (s : State) : Host.Outcome State Fault Refusal := (turn 0x803 fun c s => patTurn c s 16 false).outcome s

/-- R436: the format of a correction table. -/
def patCheck (kind : Nat) (bs : Bytes) : Option Nat :=
  let g := fieldN bs 18 2
  let ok : Bool := match kind with
    | 0 => halfFinite g && !(bitOf g 15 && g != 0x8000) && zeroAt bs 20 4
    | 1 => zeroAt bs 126 2
    | 3 => (List.range 256).all fun v => bs.countP (fun b => b.toNat == v) == 16
    | _ => true
  if ok = true then some bs.length else none

def patLen (kind len : Nat) : Bool := len == [24, 128, 10240, 4096].getD kind 0

/-- The work of the two table tickets (R437, R440). -/
def workPatTable (f : Nat) (t : Ticket) (s : State) : Reply :=
  let idx := fieldN t.payload 0 1
  let k := fieldN t.payload 1 1
  if t.opcode = 0x803 then readWork t ((s.obj K_PAT (patIdx k idx)).getD (patDefault k))
  else if !zeroAt t.payload 2 2 then .refuse ST_BAD_PARAM
  else loadWork t f K_PAT (patIdx k idx) (patCheck k) (patLen k) s

/-- R440: F0 or CAL. -/
def needCal (c : Svc) (s : State) : Bool × Nat := (!c.isF0 && !c.holds s R_CAL, ST_DENIED)

def hPatInfo (c : Svc) (s : State) : Reply :=
  let armed := switchStaged s || s.pat.switching || (match s.lib.update with | some u => u.armed.isSome | none => false)
  checks [c.badLen 0, needCal c s]
    (.ok (leBytes 1 (if s.pat.activeB then 1 else 0) ++ leBytes 1 s.pat.writer ++ leBytes 1 (if armed then 1 else 0) ++ [0] ++ leBytes 8 s.pat.gen ++
      leBytes 1 (((s.pat.switched.eraseDups).map fun g => 2 ^ g).foldl (· + ·) 0) ++ [0, 0, 0] ++
      leBytes 4 (if s.pat.writer = 3 then Config.freeAt 49 [s.uptime] % 1000 else 1000)) (fun _ => []))

def execPatInfo (s : State) : Host.Outcome State Fault Refusal := (turn 0x804 hPatInfo).outcome s

def hPatLampRead (c : Svc) (s : State) : Reply :=
  let i := c.n 0 4
  let b := s.activeBank
  let tile := match lampOf s i with | some (t, _, _) => field (b.tile.getD t []) 0 5 | none => List.replicate 5 0
  checks [c.badLen 4, needCal c s, (33554431 < i, ST_BAD_PARAM)]
    (.ok (b.record i ++ field (b.drive.getD i []) 0 8 ++ tile ++ [0, 0, 0] ++
      ((List.range 5).flatMap fun k => leBytes 2 (s.pat.grey.getD (8 * i + k) 0)) ++ List.replicate 6 0) (fun _ => []))

def execPatLampRead (s : State) : Host.Outcome State Fault Refusal := (turn 0x805 hPatLampRead).outcome s

end Sys2Proof.Machine
end

