-- ==== Sys2Proof/Machine/Pop.lean ====
section
/-! DEFINITION. Proof of play: intervals, their counts and content, and signed records (R665 to R667; rows POP_READ and
POP_INTERVAL_END). -/
namespace Sys2Proof.Machine

/-! ### The island's signatures -/

/-- The key of a signature by its number: an identity key at 2 k, its proof-of-play key at 2 k + 1. -/
def idKeyNo (k : Nat) : Nat := 2 * k
def popKeyNo (k : Nat) : Nat := 2 * k + 1

/-- The island can sign: it holds its keys and is not in its error state (R650, R657). -/
def canSign (s : State) : Option Nat := if s.flag Reg.SEC_STATE Fld.SEC_STATE.ERROR then none else s.nvs.idKey

/-- A signature made: it is counted, and takes the next random value. -/
def signed : List Eff := [.draw, .count Prm.SEC_SIGNATURES 1]

/-! ### Intervals (R665, R666) -/

def popEn (s : State) (l : Nat) : Bool := bitOf (s.pn (Prm.POP_CFG l)) 31

/-- The interval of a layer in 2^-16 ns. -/
def popLen (s : State) (l : Nat) : Nat := (s.pn (Prm.POP_CFG l) % 2 ^ 17) * SEC

def popUnread (s : State) (l : Nat) : List (Nat × Bytes) := s.sec.popRecs.getD l []

/-- The parameters that follow intervals and records. -/
def syncPop (l : Nat) : Act := fun s =>
  let total := (s.sec.popRecs.entries.map fun e => e.2.length).foldl (· + ·) 0
  [.prm (Prm.POP_STATE l) (w32 ((popUnread s l).length + if s.sec.pop.has l then 2 ^ 31 else 0)),
   .prm Prm.POP_UNREAD_TOTAL (w32 total), .prm Prm.POP_RING_FREE (w32 (16384 - total))]

def effPop (l : Nat) (g : Pop → Pop) : Eff := .sec fun x => { x with pop := x.pop.alter l g }

/-- The layer covers a lamp of its group in a slot (R666). -/
def coversAny (s : State) (l : Nat) (b : Bytes) (slot : Nat) : Bool :=
  (groupTiles s (lyGroup b)).any fun t =>
    let e := mqTile s.mqt t
    (List.range (tlRows e)).any fun r => (List.range (tlCols e)).any fun c => layerCovers s l b slot (lampPos s.mqt e c r)

/-- The bytes of a slot's planes. -/
def slotPlanes (s : State) (k : LayerSrc) : Bytes :=
  s.ringRead k.addr (k.pitch * k.h) ++
  (if k.fmt = 0x10 then s.ringRead (k.addr + k.plane1) (k.pitch * k.h)
   else if k.fmt = 0x11 then s.ringRead (k.addr + k.plane1) (k.pitch * (k.h / 2)) else [])

/-- The seven parameter words of a pattern engine. -/
def peWords (s : State) (e : Nat) : Bytes :=
  [Prm.PE_CTRL e, Prm.PE_PERIOD_US e, Prm.PE_PHASE_US e, Prm.PE_RG e, Prm.PE_B_LOW e, Prm.PE_SPEED e, Prm.PE_CHASE e].flatMap fun i => leBytes 4 (s.pn i)

/-- The 12 bytes of the source frame that a layer shows (R666; the engine's number takes 8 bytes, notes/assumptions/67). -/
def contentEntry (s : State) (l : Nat) (b : Bytes) : Option Bytes :=
  match lyKind b with
  | 2 =>
    (s.group (lyGroup b)).shown.map fun f =>
      let i := (s.sns (geo s (lyIndex b)).sensor).info.find? fun i => i.frame == f
      leBytes 4 f ++ leBytes 8 ((match i with | some i => leNat ((timeBytes i.ts).drop 4) | none => 0))
  | 5 => some (leBytes 8 (lyIndex b) ++ leBytes 4 (crc32 (peWords s (lyIndex b))))
  | _ =>
    match layerSrc s l b, (s.layerSt l).held with
    | some k, some q => some (leBytes 4 q ++ s.ringRead (k.addr - 252) 4 ++ leBytes 4 (crc32 (slotPlanes s k)))
    | _, _ => none

/-- R666: a latch of a slot of a group is over; hold where its frame is a HOLD frame. -/
def popLatch (g slot : Nat) (hold : Bool) : Act := fun s =>
  (layersOf s g).flatMap fun x =>
    let l := x.1
    let b := x.2
    if !s.sec.pop.has l || !bitOf (lySlotMask b) slot then [] else
    let st := s.layerSt l
    let shows := !hold && !st.off && coversAny s l b slot
    let entry := if shows && !st.fallback then contentEntry s l b else none
    [effPop l fun p =>
      let p := { p with latches := p.latches + 1, shown := p.shown + (if shows then 1 else 0), fallback := p.fallback + (if st.fallback then 1 else 0) }
      match entry with
      | some e => if e = p.entry then p else { p with content := p.content ++ e, entry := e }
      | none => p]

/-- A frame with an underrun of a layer (R404, R666). -/
def popUnderrun (l : Nat) : Eff := effPop l fun p => { p with underruns := p.underruns + 1 }

/-- The window that a record names: the granted window, or the whole canvas. -/
def popWindow (s : State) (b : Bytes) : List Nat :=
  match (if lyWin b = 255 then none else winObj s (lyOwner b) (lyWin b)) with
  | some w => (List.range 4).map (winRect w)
  | none => [0, 0, mqW s.mqt, mqH s.mqt]

/-- The 256 bytes of a record, signed with key number k. -/
def popRecord (s : State) (l k : Nat) (b : Bytes) (p : Pop) (fin' : Nat) (early : Bool) : Bytes :=
  let body := [0x50, 0x4F, 0x50, 0x52, 1] ++ leBytes 1 ((if p.merged then 1 else 0) + (if early then 2 else 0)) ++ leBytes 1 l ++
    leBytes 1 (lyOwner b) ++ leBytes 1 (s.fld Reg.HUB_TOPOLOGY Fld.HUB_TOPOLOGY.PKG_ID) ++ leBytes 1 (lyGroup b) ++ leBytes 2 0 ++
    leBytes 4 s.sec.popSeq ++ timeBytes p.start ++ timeBytes fin' ++ leBytes 4 p.latches ++ leBytes 4 p.shown ++ leBytes 4 p.underruns ++
    leBytes 4 p.fallback ++ (popWindow s b).flatMap (leBytes 4) ++ Config.sha384 p.content ++ List.replicate 40 0
  body ++ Config.ecdsaSign (popKeyNo k) body s.freeCtr

/-- R665, R667: the interval of a layer ends at a device time. With 256 unread records, or no key to sign with, it goes on and is
marked MERGED. -/
def popClose (l : Nat) (fin' : Nat) (early : Bool) : Act := fun s =>
  match s.sec.pop.find l, s.obj K_LAYER l with
  | some p, some b =>
    match canSign s with
    | none => [effPop l fun p => { p with merged := true }]
    | some k =>
      if 256 ≤ (popUnread s l).length then [effPop l fun p => { p with merged := true }]
      else
        let r := popRecord s l k b p fin' early
        [.sec fun x => { x with pop := x.pop.del l, popRecs := x.popRecs.upd l [] fun q => q ++ [(lyOwner b, r)], popSeq := (x.popSeq + 1) % 2 ^ 32 },
         .count Prm.POP_RECORDS 1] ++ (if p.merged then [.count Prm.POP_MERGED 1] else []) ++ signed ++ [.raise 253]
  | _, _ => [.sec fun x => { x with pop := x.pop.del l }]

/-- An interval of a layer begins (R665). -/
def popOpen (l start : Nat) : Act := fun s =>
  if !popEn s l || (s.obj K_LAYER l).isNone || s.sec.pop.has l then [] else
  [.sec fun x => { x with pop := x.pop.put l ⟨start, 0, 0, 0, 0, [], [], false⟩ }]

/-- R665: device time reaches a multiple of the interval of a layer. -/
def actPopIntervalEnd (l : Fin 64) : Act := fun s =>
  let n := popLen s l
  if n = 0 then [] else
  let at' := s.vis / n * n
  acts [popClose l at' false, popOpen l at', syncPop l] s

def execPopIntervalEnd (l : Fin 64) (s : State) : Host.Outcome State Fault Refusal := (actPopIntervalEnd l).outcome s

/-- The early end at the boundary of a commit (R665). -/
def popEarly (l : Nat) : Act := fun s => if s.sec.pop.has l then acts [popClose l s.vis true, syncPop l] s else []

/-! ### Reading records (R667) -/

/-- The first n records that a test admits, and the rest in order. -/
def takeRecs (p : Nat → Bool) : Nat → List (Nat × Bytes) → List Bytes × List (Nat × Bytes)
  | 0, l => ([], l)
  | _, [] => ([], [])
  | n + 1, r :: t => if p r.1 then (let q := takeRecs p n t; (r.2 :: q.1, q.2)) else (let q := takeRecs p (n + 1) t; (q.1, r :: q.2))

/-- R667: the oldest unread records of the caller are returned and marked; F0 reads any, and marks its own. -/
def popReadReply (c : Svc) (s : State) : Reply :=
  let l := c.n 0 1
  let n := c.n 1 1
  let recs := popUnread s l
  let owns := match s.obj K_LAYER l with | some b => lyOwner b == c.f | none => false
  let mine := takeRecs (fun o => c.isF0 || o == c.f) n recs
  let rest := if c.isF0 then (recs.take n).filter (fun r => r.1 != 0) ++ recs.drop n else mine.2
  checks [c.badLen 4, (!c.isF0 && !owns && recs.all (fun r => r.1 != c.f), ST_NOT_OWNER), (63 < l || n == 0 || 15 < n, ST_BAD_PARAM), c.rsv 2 2]
    (.ok (leBytes 1 mine.1.length ++ [0, 0, 0] ++ mine.1.flatten) (acts [eff [.sec fun x => { x with popRecs := x.popRecs.put l rest }], syncPop l]))

end Sys2Proof.Machine
end

