-- ==== Sys2Proof/Machine/TileLink.lean ====
section
/-! DEFINITION. Tile links and direct drive ports: lamp data, conjunctions, tile time, control, telemetry, discovery, breaks and
retrains (chapter 13; rows LATCH_DEADLINE, CONJUNCTION_SEND and TLK_LINK_MODE to DDP_LATCH). -/
namespace Sys2Proof.Machine

/-! ### Status that follows the links -/

/-- The A end of the chain that a link belongs to (R483). -/
def aLink (s : State) (l : Nat) : Nat :=
  if chainLen s l ≠ 0 then l else
  ((List.range 64).find? fun a => linkRing s a && !linkPair s a && linkPartner s a == l && chainLen s a != 0).getD l

/-- Ends that reach the tiles of a link: both in a ring of this package (R495). -/
def linkEnds (s : State) (l : Nat) : List Nat :=
  (if linkRing s l && !linkPair s l then [l, linkPartner s l] else [l]).filter (linkReady s)

/-- TLK_LINKS_READY and TLK_TILES_DRIVEN. -/
def syncTlk : Act := fun s =>
  let n := ((List.range 64).map fun l => if linkReady s l then 2 ^ l else 0).foldl (· + ·) 0
  [.prm Prm.TLK_LINKS_READY_LO (w32 n), .prm Prm.TLK_LINKS_READY_HI (w32 (n / 2 ^ 32)),
   .prm Prm.TLK_TILES_DRIVEN (w32 ((tiles s).countP fun t => tlEn (mqTile s.mqt t) && tileReached s t))]

/-- A link drops READY (E192). -/
def linkDown (l : Nat) : Act := fun s =>
  raiseIf (linkReady s l) 192 ++ [.fld (Reg.TLK_LINK_STAT l) Fld.TLK_LINK_STAT.READY 0]

/-! ### Lamp data (R490, R491) -/

/-- Runs of at most n elements. -/
def chunks {α : Type} (n : Nat) : Nat → List α → List (List α)
  | 0, _ => []
  | k + 1, l => if l.isEmpty then [] else l.take n :: chunks n k (l.drop n)

/-- The next LATCH_SEQ of a tile. -/
def nextSeq (s : State) (e : Bytes) : Nat := ((s.tlkTile (tlLink e) (tlHop e)).seq + 1) % 256

/-- LAMP_DATA packets of consecutive lamps of a row, on the link that serves the tile, or forwarded to the partner (R725). -/
def lampData (s : State) (t row first : Nat) (lamps : List (List Nat)) : List Eff :=
  let e := mqTile s.mqt t
  let n := min 1024 (4096 / tlEmit e)
  let l := servingLink s (tlLink e) (tlHop e)
  (chunks n lamps.length lamps).zipIdx.flatMap fun c =>
    let head := leBytes 1 (nextSeq s e) ++ leBytes 1 (tlEmit e) ++ leBytes 2 row ++ leBytes 2 (first + n * c.2) ++ leBytes 2 c.1.length
    let body := c.1.flatMap fun lamp => lamp.flatMap (leBytes 2)
    if pairBeyond s l (tlHop e) then tlkForward s l 1 (tlHop e) head body else [tlkSend l 1 false (tlHop e) head body]

/-- Channel of a lamp's emitter on a direct drive port (R511). -/
def ddpChannel (e : Bytes) (c r k : Nat) : Nat := k * tlCols e * tlRows e + r * tlCols e + c

/-- Grey codes of a lamp placed in the frame of its direct drive port. -/
def ddpLamp (e : Bytes) (c r : Nat) (grey : List Nat) : Eff :=
  effDdp (tlLink e) fun p => { p with next := grey.zipIdx.foldl (fun m g => m.put (ddpChannel e c r g.2) g.1) p.next }

/-- Key of an emitter of a lamp in the rows being gathered. -/
def rowKey (t r c k : Nat) : Nat := (t * 1024 + r) * 8192 + c * 8 + k

/-- The CRC-32 of a tile's lamp data once all of its rows are there. -/
def slotCrc (e : Bytes) (slot : Nat) (x : TlkTile) : TlkTile :=
  if x.rows.length = tlRows e then { x with crcs := x.crcs.put slot (crc32 (x.data.entries.flatMap (·.2))) } else x

/-- The slot of the latch that a tile is owed next. -/
def slotOwed (s : State) (t : Nat) : Nat :=
  (((s.group (tlGroup (mqTile s.mqt t))).latches.find? fun l => l.todo.contains t).map (·.slot)).getD 0

/-- A package of a pair that drives no tiles: the standby (R718), or one that has yielded (R722). -/
def pairSilent (s : State) : Bool := isStandby s || s.flag Reg.FLT_PAIR_STAT Fld.FLT_PAIR_STAT.YIELDED

/-- A lamp leaves stage K8: it joins its row, and a row whose lamps are all there leaves. -/
def lampOut (t c r : Nat) (grey : List Nat) : Act := fun s =>
  let e := mqTile s.mqt t
  if tlDdp e then [ddpLamp e c r grey] else
  let rows := grey.zipIdx.foldl (fun m g => m.put (rowKey t r c g.2) g.1) s.tlk.rows
  let cols := List.range (tlCols e)
  if cols.all fun c => rows.has (rowKey t r c 0) then
    let lamps := cols.map fun c => (List.range (tlEmit e)).map fun k => rows.getD (rowKey t r c k) 0
    (if tileReached s t && !pairSilent s then lampData s t r 0 lamps else []) ++
    [.tlk (fun x => { x with rows := rows.filter fun k _ => k / 8192 != t * 1024 + r }),
     effTile (tlLink e) (tlHop e) fun x => slotCrc e (slotOwed s t)
       { x with rows := if x.rows.contains r then x.rows else r :: x.rows, data := x.data.put r (lamps.flatMap fun l => l.flatMap (leBytes 2)) }]
  else [.tlk fun x => { x with rows := rows }]

/-! ### Conjunctions (R492 to R496, R79) -/

/-- The latch whose conjunction a tile is owed next. -/
def tileLatch (s : State) (t : Nat) : Option Latch :=
  (s.group (tlGroup (mqTile s.mqt t))).latches.find? fun l => l.todo.contains t

/-- Every row of the tile has left for the latch. -/
def rowsSent (s : State) (e : Bytes) : Bool := (s.tlkTile (tlLink e) (tlHop e)).rows.length == tlRows e

/-- The chip index that a conjunction carries. -/
def conjChip (s : State) (e : Bytes) : Nat := if tlGroup e = libGroup s ∧ injecting s then libChip s else 0xFFFF

/-- Header and payload of a conjunction packet of a tile (the CONJUNCTION table). -/
def conjunction (s : State) (e : Bytes) (l : Latch) (hold apply : Bool) : Bytes × Bytes :=
  (leBytes 1 (nextSeq s e) ++ leBytes 1 ((if hold then 1 else 0) + (if l.cmd then 0 else 2) + (if apply then 4 else 0)) ++
     leBytes 1 l.slot ++ [0] ++ leBytes 2 (conjChip s e),
   timeBytes l.time ++ [0, 0, 0, 0])

/-- A tile is done with a latch; a latch that owes nothing more is over: it counts for proof of play (R666), and a CMD_LATCH ends (R524). -/
def latchDone (s : State) (g t : Nat) (l : Latch) : List Eff :=
  let rest := l.todo.erase t
  (if rest.isEmpty && !l.cmd then popLatch g l.slot l.hold s else []) ++
  [effGroup g fun x => { x with latches :=
      if rest.isEmpty then x.latches.erase l else x.latches.map fun y => if y = l then { y with todo := rest } else y }] ++
  (if rest.isEmpty && l.cmd then [.tim fun x => { x with latches := x.latches.erase (g, l.time) }] else [])

/-- R424: drive settings of the bank in force not acknowledged. -/
def driveHeld (s : State) (t : Nat) : Bool :=
  s.pat.unacked.contains t && s.pat.writer != 1 && (s.patGroup (tlGroup (mqTile s.mqt t))).bankB == s.pat.activeB

/-- A tile's conjunction sent from every end that reaches it; the next latch begins. -/
def sendConjunction (t : Nat) (l : Latch) (hold : Bool) : Act := fun s =>
  let e := mqTile s.mqt t
  let g := tlGroup e
  let apply := !hold && s.pat.applyDue.contains t
  let pk := conjunction s e l hold apply
  (linkEnds s (tlLink e)).map (fun k => tlkSend k 2 false (tlHop e) pk.1 pk.2) ++
  (if pairBeyond s (tlLink e) (tlHop e) then tlkForward s (tlLink e) 2 (tlHop e) pk.1 pk.2 else []) ++
  [effTile (tlLink e) (tlHop e) (fun x => { x with seq := nextSeq s e, rows := [], data := .empty }),
   .tlk fun x => { x with rows := x.rows.filter fun k _ => k / 8388608 != t }] ++
  latchDone s g t l ++
  (if apply then [.pat fun p => { p with applyDue := p.applyDue.erase t }] else []) ++
  (if hold then [.count (Prm.GRP_HOLDS g) 1, .raise 198] ++ (if g = libGroup s then [.lib fun x => { x with holds := (t, l.time) :: x.holds }] else []) else [])

/-- R494: the conjunction follows the last lamp data of the latch, not more than 1 s ahead (R496). A tile that differs from its
entry (R505) and one whose drive settings are not acknowledged (R424) receive HOLD. -/
def actConjunctionSend (t : Fin 1024) : Act := fun s =>
  let e := mqTile s.mqt t
  match tileLatch s t with
  | none => []
  | some l =>
    let k := s.tlkTile (tlLink e) (tlHop e)
    if tlDdp e ∨ pairSilent s ∨ (linkEnds s (tlLink e)).isEmpty ∨ !k.present ∨ s.vis + SEC < l.time then [] else
    if l.hold ∨ k.mismatch then sendConjunction t l true s
    else if driveHeld s t then sendConjunction t l true s ++ [.raise 194]
    else if l.cmd ∨ rowsSent s e then sendConjunction t l false s
    else []

def execConjunctionSend (t : Fin 1024) (s : State) : Host.Outcome State Fault Refusal := acts [actConjunctionSend t, syncDrive] |>.outcome s

/-- A re-execution of a unit of the group's wall pipeline is in progress, which is what delays its data (R699). -/
def rxDelays (s : State) (g : Nat) : Bool :=
  s.flt.clusters.entries.any fun c => match c.2.reexec with
    | some r => (match s.flt.bind.find (16 * c.1 + r.role) with | some b => b.start == 64 + g | none => false)
    | none => false

/-- R494, R79: the last lamp data of a tile is late: HOLD at once, and the rows queued are discarded. Where no end reaches the tile
nothing is sent. -/
def actLatchDeadline (t : Fin 1024) : Act := fun s =>
  let e := mqTile s.mqt t
  match tileLatch s t with
  | none => []
  | some l =>
    if tlDdp e ∨ l.hold ∨ l.cmd ∨ rowsSent s e then [] else
    if pairSilent s ∨ (linkEnds s (tlLink e)).isEmpty ∨ !(s.tlkTile (tlLink e) (tlHop e)).present then
      latchDone s (tlGroup e) t l ++
        [.tlk (fun x => { x with rows := x.rows.filter fun k _ => k / 8388608 != t.val }), effTile (tlLink e) (tlHop e) fun x => { x with rows := [], data := .empty }]
    else sendConjunction t l true s ++ [.count64 Prm.TLK_HOLDS_LO 1] ++ (if rxDelays s (tlGroup e) then [.count Prm.FLT_RX_HOLDS 1] else [])

def execLatchDeadline (t : Fin 1024) (s : State) : Host.Outcome State Fault Refusal := (actLatchDeadline t).outcome s

/-! ### Direct drive ports (R511 to R515) -/

def ddpEn (s : State) (p : Nat) : Bool := bitOf (s.pn (Prm.DDP_CFG p)) 31
def ddpPerIc (s : State) (p : Nat) : Nat := s.pn (Prm.DDP_CFG p) / 256 % 256
def ddpDiv (s : State) (p : Nat) : Nat := s.pn (Prm.DDP_CFG p) % 256
def ddpChannels (e : Bytes) : Nat := tlCols e * tlRows e * tlEmit e

/-- Clock periods of a grey frame and of a configuration frame. -/
def ddpGrey (s : State) (p ch : Nat) : Nat := let v := s.pn (Prm.DDP_TIMING p); 16 * ch + v / 65536 % 256 + v % 256
def ddpCfg (s : State) (p ch : Nat) : Nat := 8 * (ch + ch / max 1 (ddpPerIc s p)) + s.pn (Prm.DDP_TIMING p) / 256 % 256

/-- Shortest display interval of a group in 2^-16 ns: period / SLOTS, or that of its shutter schedule (R547). -/
def minInterval (s : State) (g : Nat) : Nat :=
  let n := grpSlots s g
  let per := perNum (grpMin s g) * SEC / perDen (grpMin s g)
  if shtOn s g then
    (List.range n).foldl (fun a i =>
      let from' := (slotStart s g i).1
      min a ((if i + 1 < n then (slotStart s g (i + 1)).1 else per) - from')) per
  else perNum (grpMin s g) * SEC / (perDen (grpMin s g) * n)

/-- The configuration frame of a port's tile in the bank in force (R513). -/
def ddpConfig (s : State) (t p : Nat) : Bytes :=
  let e := mqTile s.mqt t
  let n := tlCols e * tlRows e
  let b := s.bank (s.patGroup (tlGroup e)).bankB
  let per := max 1 (ddpPerIc s p)
  (List.range (ddpChannels e / per)).reverse.flatMap fun j =>
    leBytes 1 (b.gc t (j * per / n)) ++ (List.range per).reverse.flatMap fun i =>
      let ch := j * per + i
      leBytes 1 (b.dc (tlBase e + ch % n) (ch / n))

/-- R512 to R515: at a latch time the port latches its shifted frame, or counts a HOLD. mismatch tells whether the return bits
differed from the previous grey frame. -/
def actDdpLatch (p : Fin 16) (mismatch : Bool) : Act := fun s =>
  match tileAt s p 0 true with
  | none => []
  | some t =>
    let e := mqTile s.mqt t
    let g := tlGroup e
    match tileLatch s t with
    | none => []
    | some l =>
      let k := s.ddpPort p
      let ch := ddpChannels e
      let list := List.range ch
      let frame := if l.cmd then k.next.entries.foldl (fun m x => m.put x.1 x.2) k.shown else k.next
      let ready := ddpEn s p && !s.flag (Reg.DDP_PORT_STAT p) Fld.DDP_PORT_STAT.PIN_FAULT && !l.hold && (l.cmd || list.all frame.has)
      let due := s.pat.applyDue.contains t
      let fits := decide ((ddpGrey s p ch + ddpCfg s p ch) * 5 * ddpDiv s p * NS ≤ minInterval s g)
      let room := due && !fits && !k.cfgHeld
      latchDone s g t l ++
      (if ready && !room then
        let bad := bitOf (s.pn (Prm.DDP_CFG p)) 30 && k.whole && mismatch
        (if due then [.emit (.packet 7 p (ddpConfig s t p)), .emit (.ddpLatch p l.time true), .pat fun x => { x with applyDue := x.applyDue.erase t }] else []) ++
        [.emit (.packet 7 p (list.reverse.flatMap fun i => beBytes 2 (frame.getD i 0))), .emit (.ddpLatch p l.time false),
         effDdp p fun x => { x with next := .empty, shown := frame, whole := true, mismatches := if bad then x.mismatches + 1 else 0,
                                    cfgHeld := false, shift := 16 * ch * 5 * ddpDiv s p }] ++
        (if bad ∧ 1 ≤ k.mismatches then [.fld (Reg.DDP_PORT_STAT p) Fld.DDP_PORT_STAT.CHAIN_FAULT 1, .raise 201] else [])
      else
        [effDdp p (fun x => { x with next := .empty, whole := false, cfgHeld := room }),
         .inc (Reg.DDP_PORT_STAT p) Fld.DDP_PORT_STAT.HOLDS 1, .raise 198])

def execDdpLatch (p : Fin 16) (mismatch : Bool) (s : State) : Host.Outcome State Fault Refusal := (actDdpLatch p mismatch).outcome s

/-! ### Bring-up and retrains (R508 to R510) -/

/-- A control block sent on a link (the control block table). -/
def tlkBlock (l : Nat) (bs : Bytes) : Eff := .emit (.packet 1 l (field bs 0 8))

/-- A write of MODE. Ignored while EN = 0; 3 is not used (notes/assumptions/30). -/
def actTlkLinkMode (l : Fin 64) (v : Word) : Act := fun s =>
  let m := getFld v Fld.TLK_LINK_CTRL.MODE
  if !linkEn s l ∨ m = 3 then [] else
  acts [eff [.fld (Reg.TLK_LINK_CTRL l) Fld.TLK_LINK_CTRL.MODE m],
    if m = 2 then eff [] else linkDown l,
    if m = 1 then eff [tlkBlock l [0x55]] else eff [], syncTlk] s

def execTlkLinkMode (l : Fin 64) (v : Word) (s : State) : Host.Outcome State Fault Refusal := (actTlkLinkMode l v).outcome s

/-- Lanes of a link at its largest width. -/
def linkLanes (s : State) (l : Nat) : Nat := if bitOf (linkCfg s l) 20 then 2 else 1

/-- DISCOVER on a link (R504): a discovery in progress is over. -/
def discoverSend (l : Nat) : Act := fun s =>
  let a := aLink s l
  if !linkReady s l then [] else
  [effLink l (fun k => { k with discovering := true, seen := [], changes := 0 }),
   tlkSend l 6 true 0 (leBytes 1 0 ++ leBytes 1 (if a = l then 0 else 1) ++ leBytes 1 (chainLen s a)) []]

/-- R510, R166: the link meets its READY condition in run mode; a two-lane link with a skew over 48 blocks does not. -/
def actTlkLinkReady (l : Fin 64) (skew : Nat) : Act := fun s =>
  if !linkEn s l ∨ s.fld (Reg.TLK_LINK_CTRL l) Fld.TLK_LINK_CTRL.MODE ≠ 2 ∨ linkReady s l then [] else
  let n := linkLanes s l
  if n = 2 ∧ 48 < skew then [.fld (Reg.TLK_LINK_STAT l) Fld.TLK_LINK_STAT.DESKEW_ERR 1] else
  acts [eff ((List.range n).flatMap (fun k => [.fld (Reg.TLK_LANE_ALIGN (2 * l + k)) Fld.TLK_LANE_ALIGN.BLOCK_LOCK 1,
      .fld (Reg.LAN_STAT (linkCfg s l % 256 + k)) Fld.LAN_STAT.SIGNAL 1, .fld (Reg.LAN_STAT (linkCfg s l % 256 + k)) Fld.LAN_STAT.CDR_LOCK 1]) ++
    [.fld (Reg.TLK_LINK_STAT l) Fld.TLK_LINK_STAT.READY 1, .fld (Reg.TLK_LINK_STAT l) Fld.TLK_LINK_STAT.LOS 0,
     .fld (Reg.TLK_LINK_STAT l) Fld.TLK_LINK_STAT.BLOCK_LOCKED (2 ^ n - 1), .fld (Reg.TLK_LINK_STAT l) Fld.TLK_LINK_STAT.WIDTH (n - 1),
     .fld (Reg.TLK_LINK_STAT l) Fld.TLK_LINK_STAT.RATE (linkCfg s l / 2 ^ 24)]), discoverSend l, syncTlk] s

def execTlkLinkReady (l : Fin 64) (skew : Nat) (s : State) : Host.Outcome State Fault Refusal := (actTlkLinkReady l skew).outcome s

/-- TRAIN_REQ sent by this package for a width (R508). -/
def trainRequest (l width : Nat) : Act := fun s =>
  let tag := (s.tlkLink l).tag % 256
  [effLink l (fun k => { k with request := some (tag, width), width := some width, tag := (k.tag + 1) % 65536 }),
   .fld (Reg.TLK_LINK_STAT l) Fld.TLK_LINK_STAT.RETRAINING 1,
   tlkBlock l ([0x2D] ++ leBytes 1 tag ++ leBytes 1 width ++ leBytes 1 (linkCfg s l / 2 ^ 24 % 2))]

/-- R510: block lock lost: READY falls and a retrain at the same rate and width starts. -/
def actTlkBlockLockLost (l : Fin 64) (k : Fin 2) (los : Bool) : Act := fun s =>
  if !linkEn s l ∨ linkLanes s l ≤ k then [] else
  acts [linkDown l,
    eff [.fld (Reg.TLK_LANE_ALIGN (2 * l + k)) Fld.TLK_LANE_ALIGN.BLOCK_LOCK 0, .fld (Reg.TLK_LINK_STAT l) ⟨k, k⟩ 0,
      .fld (Reg.TLK_LANE_ALIGN (2 * l + k)) Fld.TLK_LANE_ALIGN.LOS (if los then 1 else 0),
      .fld (Reg.TLK_LINK_STAT l) Fld.TLK_LINK_STAT.LOS (if los then 1 else 0)],
    fun s => trainRequest l (s.fld (Reg.TLK_LINK_STAT l) Fld.TLK_LINK_STAT.WIDTH + 1) s, syncTlk] s

def execTlkBlockLockLost (l : Fin 64) (k : Fin 2) (los : Bool) (s : State) : Host.Outcome State Fault Refusal :=
  (actTlkBlockLockLost l k los).outcome s

/-- R508: a request of the other end. The package is the upstream end, so its own request goes first; else it answers with its own
width and the smaller of the two. -/
def actTrainReq (l : Fin 64) (tag width : Fin 256) (rate : Bool) : Act := fun s =>
  let own := linkLanes s l
  let agreed := min own width
  let _ := rate
  if !linkEn s l ∨ (s.tlkLink l).request.isSome ∨ width.val = 0 then [] else
  [tlkBlock l ([0xD2] ++ leBytes 1 tag ++ leBytes 1 own ++ leBytes 1 (linkCfg s l / 2 ^ 24 % 2) ++ leBytes 1 agreed),
   effLink l (fun k => { k with width := some agreed }), .fld (Reg.TLK_LINK_STAT l) Fld.TLK_LINK_STAT.RETRAINING 1]

def execTrainReq (l : Fin 64) (tag width : Fin 256) (rate : Bool) (s : State) : Host.Outcome State Fault Refusal :=
  (actTrainReq l tag width rate).outcome s

/-- R508: the answer to the request outstanding: the smaller of the two proposals is agreed. -/
def actTrainAck (l : Fin 64) (tag width : Fin 256) (rate : Bool) (agreed : Fin 256) : Act := fun s =>
  let _ := (rate, agreed)
  match (s.tlkLink l).request with
  | some (t, w) => if t = tag then [effLink l fun k => { k with request := none, width := some (min w width) }] else []
  | none => []

def execTrainAck (l : Fin 64) (tag width : Fin 256) (rate : Bool) (agreed : Fin 256) (s : State) : Host.Outcome State Fault Refusal :=
  (actTrainAck l tag width rate agreed).outcome s

/-- A host command of a link ends (R516). -/
def linkOpDone (l op status : Nat) (result : Bytes) : Act := fun s =>
  match (s.tlkLink l).op with
  | some (f, id) =>
    if ((s.ticket f id).map (·.opcode)) = some op then
      acts [eff [effLink l fun k => { k with op := none }], completeTicket f id status result] s
    else []
  | none => []

/-- R509: a retrain or width change completes. -/
def actTlkRetrainDone (l : Fin 64) : Act := fun s =>
  if !s.flag (Reg.TLK_LINK_STAT l) Fld.TLK_LINK_STAT.RETRAINING then [] else
  let w := ((s.tlkLink l).width).getD (s.fld (Reg.TLK_LINK_STAT l) Fld.TLK_LINK_STAT.WIDTH + 1)
  acts [
    eff ((List.range w).map (fun k => .fld (Reg.TLK_LANE_ALIGN (2 * l + k)) Fld.TLK_LANE_ALIGN.BLOCK_LOCK 1) ++
      [.fld (Reg.TLK_LINK_STAT l) Fld.TLK_LINK_STAT.RETRAINING 0, .fld (Reg.TLK_LINK_STAT l) Fld.TLK_LINK_STAT.READY 1,
       .fld (Reg.TLK_LINK_STAT l) Fld.TLK_LINK_STAT.LOS 0, .fld (Reg.TLK_LINK_STAT l) Fld.TLK_LINK_STAT.WIDTH (w - 1),
       .fld (Reg.TLK_LINK_STAT l) Fld.TLK_LINK_STAT.BLOCK_LOCKED (2 ^ w - 1),
       effLink l (fun k => { k with request := none, width := none }), .count Prm.TLK_RETRAINS 1, .raise 202]),
    linkOpDone l 0xB04 ST_OK (leBytes 1 w ++ [0, 0, 0]), syncTlk] s

def execTlkRetrainDone (l : Fin 64) (s : State) : Host.Outcome State Fault Refusal := (actTlkRetrainDone l).outcome s

/-! ### Tile time (R497 to R500) -/

/-- Tiles of a chain by hop. -/
def chainHops (s : State) (l : Nat) : List Nat := List.range (chainLen s l)

/-- TIME_SYNC from an end that serves a chain. -/
def actTimeSyncSend (l : Fin 64) : Act := fun s =>
  if !linkReady s l then [] else
  let a := aLink s l
  let seq := ((s.tlkLink l).syncSeq + 1) % 256
  [effLink l (fun k => { k with syncSeq := seq, t1 := s.vis }),
   tlkSend l 3 true 0 (leBytes 1 seq) (timeBytes s.vis ++ leBytes 4 0 ++ (chainHops s a).flatMap fun h =>
     match (s.tlkTile a h).t4 with | some t => timeBytes t | none => List.replicate 12 0)]

def execTimeSyncSend (l : Fin 64) (s : State) : Host.Outcome State Fault Refusal := (actTimeSyncSend l).outcome s

/-- An upstream packet: one that fails its CRC is counted and dropped (R487). -/
def upstream (l : Nat) (crcOk : Bool) (a : Act) : Act := fun s =>
  if !linkReady s l then [] else
  if crcOk then a s else [.inc (Reg.TLK_LINK_ERRS l) Fld.TLK_LINK_ERRS.UP_CRC_ERRS 1]

/-- The latch error last reported by a tile, in 0.25 ns. -/
def latchErr (k : TlkTile) : Int := match k.telem with | some b => sgn 16 (fieldN b 16 2) | none => 0

/-- R498, R500: a reply gives the tile's offset; skew beyond 25 ns is an event. cd is the request's CORR as the tile saw it, cu the
reply's (notes/assumptions/51: how the device learns c_d is not stated). -/
def actSyncReply (l : Fin 64) (hop : Fin 32) (seq : Fin 256) (cd cu t2 t3 : Nat) : Act := fun s =>
  let a := aLink s l
  let k := s.tlkTile a hop
  let x := s.tlkLink l
  if seq ≠ x.syncSeq ∨ !k.present then [] else
  let t4 : Nat := s.vis - cu
  let theta : Int := ((t2 : Int) - x.t1 - cd) - ((t4 : Int) - t3)
  let sum := theta + latchErr k * 32768
  [effTile a hop (fun k => { k with theta := theta, t4 := some t4 }), .count (Prm.TLK_SKEW_HIST (min 15 (sum.natAbs / (4 * NS)))) 1] ++
  (if 50 * NS < sum.natAbs then [.count Prm.TLK_SKEW_EVENTS 1, .raise 199] else [])

def execSyncReply (l : Fin 64) (crcOk : Bool) (hop : Fin 32) (seq : Fin 256) (cd cu t2 t3 : Nat) (s : State) : Host.Outcome State Fault Refusal :=
  (upstream l crcOk (actSyncReply l hop seq cd cu t2 t3)).outcome s

/-! ### Telemetry (R502, R503) -/

/-- Rise of a 32-bit counter between two status payloads. -/
def telemRise (old : Option Bytes) (new : Bytes) (o : Nat) : Nat :=
  match old with | some b => (fieldN new o 4 + 2 ^ 32 - fieldN b o 4) % 2 ^ 32 | none => 0

/-- Zones of a status payload that are reported. -/
def telemZones (b : Bytes) : Nat := min 16 (byteAt b 2)

/-- A zone over TLK_ZONE_TEMP_MAX. -/
def zoneHot (s : State) (b : Bytes) : Bool :=
  (List.range (telemZones b)).any fun z => decide ((s.pn Prm.TLK_ZONE_TEMP_MAX : Int) < sgn 16 (fieldN b (20 + 2 * z) 2))

def actTelemetry (l : Fin 64) (hop : Fin 32) (photo : Bool) (payload : Bytes) : Act := fun s =>
  let a := aLink s l
  let k := s.tlkTile a hop
  if !k.present then [] else
  if photo then [effTile a hop fun k => { k with photo := payload }] else
  let b := field payload 0 56
  let faults := fieldN b 0 2
  let rise := telemRise k.telem b 4
  [effTile a hop (fun k => { k with telem := some b }), .count Prm.TLK_LATE_CONJ (telemRise k.telem b 12)] ++
  (if 0 < rise then [.count (Prm.TLK_TILE_ERRS a) rise, .raise 200] else []) ++
  raiseIf (faults % 32 != 0) 195 ++
  (if bitOf faults 5 then [.fld (Reg.TLK_LINK_STAT l) Fld.TLK_LINK_STAT.OVERLENGTH 1, .raise 197] else []) ++
  raiseIf (zoneHot s b) 196 ++
  (match tileAt s a hop false with
   | some t => [.pat fun p => { p with zones := (List.range (telemZones b)).foldl (fun m z => m.put (16 * t + z) (sgn 16 (fieldN b (20 + 2 * z) 2), s.uptime)) p.zones }]
   | none => [])

def execTelemetry (l : Fin 64) (crcOk : Bool) (hop : Fin 32) (photo : Bool) (payload : Bytes) (s : State) : Host.Outcome State Fault Refusal :=
  (upstream l crcOk (actTelemetry l hop photo payload)).outcome s

/-! ### Control (R501) -/

/-- The outstanding control packet is done with. -/
def ctrlFree (l : Nat) : Eff := effLink l fun k => { k with ctrl := none }

/-- A control packet fails: E194; the rest of a tile's settings are not sent. -/
def ctrlFail (l : Nat) (c : TlkCtrl) (status tile : Nat) : Act := acts [
  eff [ctrlFree l, .count Prm.TLK_CTRL_FAILS 1, .raise 194,
    effLink l fun k => { k with queue := if c.owner = none then k.queue.filter fun x => x.owner.isSome || x.hop != c.hop else k.queue }],
  (match c.owner with
   | some _ => linkOpDone l (if c.type = 4 then 0xB02 else 0xB03) status (leBytes 2 tile ++ [0, 0])
   | none => eff []),
  ctrlNext l, syncDrive]

/-- A control reply with the tag of the packet outstanding. -/
def actCtrlAck (l : Fin 64) (hop : Fin 32) (tag status : Nat) (values : Bytes) : Act := fun s =>
  match (s.tlkLink l).ctrl with
  | none => []
  | some c =>
    if c.tag ≠ tag ∨ c.hop ≠ hop then []
    else if status ≠ 0 then ctrlFail l c ST_BAD_PARAM status s
    else acts [
      eff (ctrlFree l :: (if c.drive then (match tileAt s (aLink s l) hop false with
        | some t => [.pat fun p => { p with unacked := p.unacked.erase t }]
        | none => []) else [])),
      (match c.owner with
       | some _ => if c.type = 4 then linkOpDone l 0xB02 ST_OK [0, 0, 0, 0]
           else linkOpDone l 0xB03 ST_OK ([0, 0, 0, 0] ++ field values 0 (4 * fieldN c.payload 4 2))
       | none => eff []),
      ctrlNext l, syncDrive] s

def execCtrlAck (l : Fin 64) (crcOk : Bool) (hop : Fin 32) (tag status : Nat) (values : Bytes) (s : State) : Host.Outcome State Fault Refusal :=
  (upstream l crcOk (actCtrlAck l hop tag status values)).outcome s

/-- No reply within TLK_CTRL_TIMEOUT_US: resent with the same tag at most 3 times. -/
def actCtrlTimeout (l : Fin 64) : Act := fun s =>
  match (s.tlkLink l).ctrl with
  | none => []
  | some c =>
    if c.sent < 4 then
      [effLink l (fun k => { k with ctrl := some { c with sent := c.sent + 1 } }), ctrlSend l c, .inc (Reg.TLK_LINK_ERRS l) Fld.TLK_LINK_ERRS.CTRL_RETRIES 1]
    else ctrlFail l c ST_TIMEOUT 0 s

def execCtrlTimeout (l : Fin 64) (s : State) : Host.Outcome State Fault Refusal := (actCtrlTimeout l).outcome s

/-! ### Discovery (R504, R505) -/

/-- A discovery on a link ends: TILES, and the tiles that this end serves and that did not answer have disappeared. -/
def endDiscovery (l : Nat) : Act := fun s =>
  let k := s.tlkLink l
  if !k.discovering then [] else
  let a := aLink s l
  let gone := (List.range 32).filter fun h => servingLink s a h == l && (s.tlkTile a h).present && !k.seen.contains h
  let whole := a == l && k.seen.length == chainLen s l
  acts [
    eff ([effLink l (fun k => { k with discovering := false, healed := k.healed || (whole && k.breakAt.isSome), changes := k.changes + gone.length }),
       .fld (Reg.TLK_LINK_STAT l) Fld.TLK_LINK_STAT.TILES (min 32 k.seen.length), .count Prm.TLK_DISCOVER_CHANGES gone.length] ++
     gone.flatMap fun h => [effTile a h fun x => { x with present := false, telem := none }, .raise 197]),
    (fun s => linkOpDone l 0xB00 ST_OK (leBytes 1 k.seen.length ++ leBytes 1 (min 255 (s.tlkLink l).changes) ++ [0, 0]) s), syncTlk] s

/-- R504: DISCOVER at its times; one still in progress is over. -/
def actDiscoverSend (l : Fin 64) : Act := acts [endDiscovery l, discoverSend l]

def execDiscoverSend (l : Fin 64) (s : State) : Host.Outcome State Fault Refusal := (actDiscoverSend l).outcome s

/-- A reply agrees with a tile entry (R505). -/
def replyMatches (e r : Bytes) : Bool :=
  fieldN r 12 2 == tlCols e && fieldN r 14 2 == tlRows e && byteAt r 16 == tlEmit e && byteAt r 17 == byteAt e 19

/-- A tile's settings and TILE_TELEM_MS, sent before its first lamp data (R424, R505). -/
def welcome (t : Nat) : Act := fun s =>
  let e := mqTile s.mqt t
  acts [ctrlQueue (servingLink s (tlLink e) (tlHop e)) (ctrlWrites (tlHop e) 1 0x40 (leBytes 4 (s.pn Prm.TLK_TELEM_MS))),
    sendDrive s.activeBank t] s

/-- R505: a reply is compared with the tile entry of its link and hop. -/
def actDiscoverReply (l : Fin 64) (hop : Fin 32) (payload : Bytes) : Act := fun s =>
  let a := aLink s l
  let k := s.tlkTile a hop
  let r := field payload 0 24
  let tile := tileAt s a hop false
  let bad := match tile with | some t => !replyMatches (mqTile s.mqt t) r | none => true
  let changed := !k.present || field k.reply 4 8 != field r 4 8
  let fresh := changed || (bad && !k.mismatch)
  acts [
    eff ([effTile a hop (fun x => { x with present := true, reply := r, mismatch := bad, telem := if changed then none else x.telem }),
      effLink l (fun x => { x with seen := if x.seen.contains hop then x.seen else hop :: x.seen, changes := if fresh then x.changes + 1 else x.changes })] ++
      (if fresh then [.count Prm.TLK_DISCOVER_CHANGES 1] else []) ++ raiseIf (changed || bad) 197),
    (match tile with
     | some t => if !bad && (changed || (s.pat.unacked.contains t && !(s.tlkLink l).queue.any fun c => c.hop == hop && c.drive)) then welcome t else eff []
     | none => eff []),
    syncTlk, syncDrive,
    (fun s => if (s.tlkLink l).seen.length = chainLen s a then endDiscovery l s else [])] s

def execDiscoverReply (l : Fin 64) (crcOk : Bool) (hop : Fin 32) (payload : Bytes) (s : State) : Host.Outcome State Fault Refusal :=
  (upstream l crcOk (actDiscoverReply l hop payload)).outcome s

/-! ### Breaks (R506, R507) -/

/-- A break declared after a hop. In line mode the tiles beyond it rejoin through discovery; a ring splits at the next boundary. -/
def actTlkBreak (l : Fin 64) (hop : Fin 32) : Act := fun s =>
  if !linkEn s l then [] else
  if linkRing s l then [effLink l fun k => { k with breakAt := some hop, healed := false }] else
  acts [eff ((List.range 32).filterMap (fun h => if hop.val < h ∧ (s.tlkTile l h).present then some (effTile l h fun x => { x with present := false, telem := none }) else none) ++
    [.raise 197]), syncTlk] s

def execTlkBreak (l : Fin 64) (hop : Fin 32) (s : State) : Host.Outcome State Fault Refusal := (actTlkBreak l hop).outcome s

/-- A boundary of a group: rings with tiles of the group split at a declared break, and join again once discovery has reached every
hop from the A end. -/
def tlkBoundary (g : Nat) : Act := fun s =>
  acts [eff (((List.range 64).filter fun l => (groupTiles s g).any fun t => let e := mqTile s.mqt t; tlLink e == l && !tlDdp e).flatMap fun l =>
    let k := s.tlkLink l
    let split := s.flag (Reg.TLK_LINK_STAT l) Fld.TLK_LINK_STAT.SPLIT
    match k.breakAt with
    | none => []
    | some h =>
      if k.healed then
        [.fld (Reg.TLK_LINK_STAT l) Fld.TLK_LINK_STAT.SPLIT 0, .fld (Reg.TLK_LINK_STAT l) Fld.TLK_LINK_STAT.BREAK_HOP 0,
         effLink l fun k => { k with breakAt := none, healed := false }]
      else if split ∧ s.fld (Reg.TLK_LINK_STAT l) Fld.TLK_LINK_STAT.BREAK_HOP = h then []
      else [.fld (Reg.TLK_LINK_STAT l) Fld.TLK_LINK_STAT.SPLIT 1, .fld (Reg.TLK_LINK_STAT l) Fld.TLK_LINK_STAT.BREAK_HOP h,
        .count Prm.TLK_SPLITS 1, .raise 193]), syncTlk] s

/-! ### Host commands (R516) -/

/-- The command's link is not ready, or its hop has no tile. -/
def noTile (s : State) (l hop : Nat) : Bool × Nat := (!linkReady s l || !(s.tlkTile (aLink s l) hop).present, ST_NO_CONTEXT)
def noLink (s : State) (l : Nat) : Bool × Nat := (!linkReady s l, ST_NO_CONTEXT)
def linkBusy (s : State) (l : Nat) : Bool × Nat := ((s.tlkLink l).op.isSome, ST_BUSY)

/-- The link's one command takes the ticket. -/
def takeOp (c : Svc) (l : Nat) : Act := fun s => [effLink l fun k => { k with op := some (c.f, ticketId c.f ((s.mbx c.f).tickets.getLastD ⟨0, 0, false, [], false, 0, [], 0, false⟩ |>.id)) }]

def hTlkDiscover (c : Svc) (s : State) : Reply :=
  let l := c.n 0 1
  checks [c.badLen 4, c.notF0, (63 < l, ST_BAD_PARAM), c.rsv 1 3, noLink s l, linkBusy s l]
    (.pending (acts [takeOp c l, endDiscovery l, discoverSend l]))

def execTlkDiscover (s : State) : Host.Outcome State Fault Refusal := (turn 0xB00 hTlkDiscover).outcome s

def hTlkTileInfo (c : Svc) (s : State) : Reply :=
  let l := c.n 0 1
  let h := c.n 1 1
  let a := aLink s l
  let k := s.tlkTile a h
  let t := tileAt s a h false
  let b := fun (x : Bool) (n : Nat) => if x then n else 0
  let state := b (t.any fun t => tileReached s t) 1 + b k.mismatch 2 + b (t.any s.pat.unacked.contains) 4 + b (servingLink s a h != a) 8
  checks [c.badLen 4, c.notF0, (63 < l || 31 < h, ST_BAD_PARAM), c.rsv 2 2, noTile s l h]
    (.ok (k.reply ++ leBytes 4 state ++ field (k.telem.getD []) 0 56 ++ leBytes 4 (unsgn 32 (rnd 15 k.theta))) fun _ => [])

def execTlkTileInfo (s : State) : Host.Outcome State Fault Refusal := (turn 0xB01 hTlkTileInfo).outcome s

/-- A host control packet joins its link's queue. -/
def hostCtrl (c : Svc) (l hop type : Nat) (payload : Bytes) : Act := acts [takeOp c l,
  fun s => ctrlQueue l [⟨0, hop, type, payload, 0, (s.tlkLink l).op, false⟩] s]

def ctrlChecks (c : Svc) (s : State) (len : Nat) (write : Bool) : List (Bool × Nat) :=
  let l := c.n 0 1
  let n := c.n 2 2
  [(c.cmd.len != len, ST_BAD_LENGTH), c.notF0, (63 < l || 31 < c.n 1 1 || n == 0 || 256 < n, ST_BAD_PARAM),
   (write && decide (c.n 4 4 < 0x80000000), ST_BAD_PARAM), noTile s l (c.n 1 1), linkBusy s l]

def hTlkCtrlWrite (c : Svc) (s : State) : Reply :=
  let n := c.n 2 2
  checks (ctrlChecks c s (8 + 4 * n) true)
    (.pending (hostCtrl c (c.n 0 1) (c.n 1 1) 4 (field c.cmd.payload 4 4 ++ leBytes 2 n ++ [0, 0] ++ field c.cmd.payload 8 (4 * n))))

def execTlkCtrlWrite (s : State) : Host.Outcome State Fault Refusal := (turn 0xB02 hTlkCtrlWrite).outcome s

def hTlkCtrlRead (c : Svc) (s : State) : Reply :=
  checks (ctrlChecks c s 8 false)
    (.pending (hostCtrl c (c.n 0 1) (c.n 1 1) 5 (field c.cmd.payload 4 4 ++ leBytes 2 (c.n 2 2) ++ [0, 0])))

def execTlkCtrlRead (s : State) : Host.Outcome State Fault Refusal := (turn 0xB03 hTlkCtrlRead).outcome s

/-- TLK_RETRAIN: a width above the link's largest (R482) is refused. -/
def hTlkRetrain (c : Svc) (s : State) : Reply :=
  let l := c.n 0 1
  let w := c.n 1 1
  checks [c.badLen 4, c.notF0, (63 < l || w == 0 || linkLanes s l < w, ST_BAD_PARAM), c.rsv 2 2, noLink s l, linkBusy s l]
    (.pending (acts [takeOp c l, trainRequest l w]))

def execTlkRetrain (s : State) : Host.Outcome State Fault Refusal := (turn 0xB04 hTlkRetrain).outcome s

def hDdpInfo (c : Svc) (s : State) : Reply :=
  let p := c.n 0 1
  let ch := match tileAt s p 0 true with | some t => ddpChannels (mqTile s.mqt t) | none => 0
  checks [c.badLen 4, c.notF0, (15 < p, ST_BAD_PARAM), c.rsv 1 3]
    (.ok (leBytes 4 (s.rd (Reg.DDP_PORT_STAT p)).toNat ++ leBytes 2 ch ++ leBytes 2 (ch / max 1 (ddpPerIc s p)) ++ leBytes 4 (s.ddpPort p).shift) fun _ => [])

def execDdpInfo (s : State) : Host.Outcome State Fault Refusal := (turn 0xB05 hDdpInfo).outcome s

end Sys2Proof.Machine
end

