-- ==== Sys2Proof/Machine/Groups.lean ====
section
/-! DEFINITION. The maquette's commands: loading and reading the image, windows, layers, pushes and latches in command mode
(chapter 10; rows MQT_LOAD to CMD_LATCH and TILE_MISS_STORM_WINDOW). -/
namespace Sys2Proof.Machine

/-! ### The image (R366 to R369) -/

/-- Tile entries of an image by its header. -/
def imageTiles (m : Bytes) : List Bytes := (List.range (mqTiles m)).map (mqTile m)

/-- R369: something the device has no room for. -/
def mqtTooBig (m : Bytes) : Bool :=
  decide (33554432 < mqLamps m) || decide (1024 < mqTiles m) || (imageTiles m).any fun e =>
    decide (31 < tlHop e) || decide (63 < tlLink e) || (tlDdp e && decide (1024 < tlCols e * tlRows e * tlEmit e))

/-- Header fields agree with the image and are within range. -/
def mqtHeaderOk (m : Bytes) : Bool :=
  m.take 5 == [0x4D, 0x41, 0x51, 0x54, 1] && zeroAt m 5 1 && decide (1 ≤ mqTiles m) && decide (mqMeshes m ≤ 1024) && zeroAt m 10 2 &&
  mqLamps m == ((imageTiles m).map fun e => tlCols e * tlRows e).foldl (· + ·) 0 &&
  decide (1 ≤ mqW m ∧ mqW m ≤ 65536 ∧ 1 ≤ mqH m ∧ mqH m ≤ 32768) && fieldN m 24 4 == 64 + 512 * mqTiles m &&
  fieldN m 28 4 == 64 + 512 * mqTiles m + 1280 * mqMeshes m && m.length == fieldN m 28 4 && zeroAt m 32 32 &&
  (List.range (mqMeshes m)).all fun n => zeroAt m (64 + 512 * mqTiles m + 1280 * n + 1156) 124

/-- A tile entry is within range (R367). -/
def tileOk (m e : Bytes) (t : Nat) : Bool :=
  fieldN e 0 2 == t && decide (1 ≤ tlCols e ∧ tlCols e ≤ 1024 ∧ 1 ≤ tlRows e ∧ tlRows e ≤ 1024 ∧ 1 ≤ fieldN e 8 2) &&
  decide (3 ≤ tlEmit e ∧ tlEmit e ≤ 5 ∧ tlGroup e ≤ 3 ∧ tlBand e ≤ 63 ∧ byteAt e 18 < 8 ∧ tlZones e ≤ 16) &&
  (List.range 5).all (fun k => decide (tlType e k ≤ 7) && (decide (k < tlEmit e) || tlType e k == 0)) &&
  (tlMesh e == 0xFFFF || decide (tlMesh e < mqMeshes m)) && (!tlDdp e || decide (tlLink e ≤ 15)) && zeroAt e 50 462

/-- Hops of the enabled tiles of a link run from 0 without a gap, each once. -/
def hopsOk (es : List Bytes) : Bool :=
  let on := es.filter tlEn
  (on.filter tlDdp).all (fun e => tlHop e == 0 && on.countP (fun x => tlDdp x && tlLink x == tlLink e) == 1) &&
  (on.filter fun e => !tlDdp e).all fun e =>
    let chain := on.filter fun x => !tlDdp x && tlLink x == tlLink e
    decide (tlHop e < chain.length) && chain.countP (fun x => tlHop x == tlHop e) == 1

/-- Patina ranges lie within the records and do not overlap. -/
def rangesOk (es : List Bytes) : Bool :=
  let n := fun e => tlCols e * tlRows e
  es.zipIdx.all fun x => decide (tlBase x.1 + n x.1 ≤ 33554432) && es.zipIdx.all fun y =>
    x.2 == y.2 || decide (tlBase x.1 + n x.1 ≤ tlBase y.1) || decide (tlBase y.1 + n y.1 ≤ tlBase x.1)

def bandsOk (es : List Bytes) : Bool := es.all fun x => es.all fun y => tlBand x != tlBand y || tlGroup x == tlGroup y

/-- The checks of R369 after the CRC, in the order of its table. -/
def mqtStatus (m : Bytes) : Nat :=
  let es := imageTiles m
  if mqtTooBig m then ST_TABLE_FULL
  else if !mqtHeaderOk m ∨ !(es.zipIdx.all fun x => tileOk m x.1 x.2) ∨ !hopsOk es ∨ !rangesOk es ∨ !bandsOk es then ST_BAD_PARAM
  else ST_OK

/-- R408, R718: the turns of MQT_LOAD and MQT_READ. -/
def hMqtLoad (c : Svc) (s : State) : Reply := checks [c.badLen 24, c.notF0, (isStandby s, ST_CONFLICT)] (.pending fun _ => [])
def hMqtRead (c : Svc) (_ : State) : Reply := checks [c.badLen 16, c.notF0, c.rsv 0 4] (.pending fun _ => [])

def execMqtLoad (s : State) : Host.Outcome State Fault Refusal := (turn 0x700 hMqtLoad).outcome s
def execMqtRead (s : State) : Host.Outcome State Fault Refusal := (turn 0x701 hMqtRead).outcome s

/-- The work of MQT_LOAD (R369, R370). -/
def workMqtLoad (f : Nat) (t : Ticket) (s : State) : Reply :=
  let p := t.payload
  match imageOf s (fieldN p 8 8) (fieldN p 4 4) (fieldN p 16 4) with
  | none => .refuse ST_INPUT_CORRUPT
  | some m =>
    let st := mqtStatus m
    if st ≠ ST_OK then .refuse st
    else if !zeroAt p 0 4 ∨ !zeroAt p 20 4 then .refuse ST_BAD_PARAM
    else .ok (leBytes 2 (mqTiles m) ++ leBytes 2 (mqMeshes m) ++ leBytes 4 (mqLamps m)) (eff [stage f (.obj K_MQT 0 (some m))])

def workMqtRead (t : Ticket) (s : State) : Reply := copyOut (fieldN t.payload 4 4) (fieldN t.payload 8 8) s.mqt

/-! ### Windows (R377) -/

def hWinSet (c : Svc) (_ : State) : Reply :=
  let f := c.n 0 1
  let w := c.n 1 1
  let op := c.n 2 1
  checks [c.badLen 24, c.notF0, (63 < f || 15 < w || 1 < op, ST_BAD_PARAM), c.rsv 3 1, c.rsv 22 2, (!halfFinite (c.n 20 2), ST_BAD_PARAM)]
    (.ok [] (eff [stage c.f (.obj K_WIN (16 * f + w) (if op = 1 then some (field c.cmd.payload 4 18) else none))]))

def execWinSet (s : State) : Host.Outcome State Fault Refusal := (turn 0x702 hWinSet).outcome s

/-! ### Layers (R375, R378) -/

/-- R375: the fields of a descriptor, b being the owner's byte and the descriptor. -/
def layerFieldsOk (b : Bytes) : Bool :=
  let k := lyKind b
  decide (1 ≤ k ∧ k ≤ 5 ∧ lyGroup b ≤ 3 ∧ lyPrio b ≤ 63 ∧ lyAlpha b ≤ 4096 ∧ lySlotMask b ≠ 0 ∧ byteAt b 10 < 128) &&
  (decide (lyWin b ≤ 15) || lyWin b == 255) && (decide (lyFallback b ≤ 31) || lyFallback b == 255) && zeroAt b 12 1 && halfFinite (lyLimit b) &&
  (match k with | 1 => decide (lyIndex b ≤ 4095) | 2 => decide (lyIndex b ≤ 15) | 3 => lyIndex b == 0 | 5 => decide (lyIndex b ≤ 31) | _ => true) &&
  decide (1 ≤ lyDst b 2 ∧ 1 ≤ lyDst b 3) && (k == 3 || lyAddr b == 0) &&
  (if k = 3 then decide (3 ≤ lySlots b ∧ lySlots b ≤ 8) else lySlots b == 0) && zeroAt b 58 7

/-- The layer is in force or staged for a principal other than f. -/
def layerTaken (s : State) (f l : Nat) : Bool :=
  (match s.obj K_LAYER l with | some b => lyOwner b != f | none => false) ||
  s.allStaged.any fun x => x.1 != f && (match x.2 with | .obj k i _ => k == K_LAYER && i == l | _ => false)

/-- The layer is neither in force nor staged. -/
def layerFree (s : State) (l : Nat) : Bool :=
  (s.obj K_LAYER l).isNone && !s.allStaged.any fun x => (match x.2 with | .obj k i _ => k == K_LAYER && i == l | _ => false)

/-- R378: the checks of LYR_SET in their order. -/
def hLyrSet (c : Svc) (s : State) : Reply :=
  let l := c.n 0 1
  let b := leBytes 1 c.f ++ field c.cmd.payload 4 64
  let pick := (List.range 64).find? (layerFree s)
  let at' := if l = 255 then pick.getD 0 else l
  checks [c.badLen 68, c.lacks s R_WINDOW, ((63 < l && l != 255) || !layerFieldsOk b, ST_BAD_PARAM), c.rsv 1 3,
    (if lyWin b = 255 then !c.isF0 else (winObj s c.f (lyWin b)).isNone, ST_DENIED), (l == 255 && pick.isNone, ST_TABLE_FULL),
    (l != 255 && layerTaken s c.f l, ST_CONFLICT)]
    (.ok (leBytes 1 at' ++ [0, 0, 0]) (eff [stage c.f (.obj K_LAYER at' (some b))]))

def execLyrSet (s : State) : Host.Outcome State Fault Refusal := (turn 0x703 hLyrSet).outcome s

def hLyrClear (c : Svc) (s : State) : Reply :=
  let l := c.n 0 1
  checks [c.badLen 4, c.lacks s R_WINDOW, (63 < l, ST_BAD_PARAM), c.rsv 1 3, (!c.isF0 && layerTaken s c.f l, ST_CONFLICT)]
    (.ok [] (eff [stage c.f (.obj K_LAYER l none)]))

def execLyrClear (s : State) : Host.Outcome State Fault Refusal := (turn 0x704 hLyrClear).outcome s

def hLyrInfo (c : Svc) (s : State) : Reply :=
  let l := c.n 0 1
  let x := s.layerSt l
  let bit := fun (b : Bool) (n : Nat) => if b then n else 0
  let used := (s.obj K_LAYER l).isSome
  let off := x.off || (match s.obj K_LAYER l with | some b => !s.holds (lyOwner b) R_WINDOW | none => false)
  let state := bit used 1 + bit off 2 + bit x.lost 4 + bit x.fallback 8 + bit x.aliased 16 + 32 * (x.filter % 8)
  let other := match s.obj K_LAYER l with | some b => lyOwner b != c.f | none => false
  checks [c.badLen 4, (63 < l, ST_BAD_PARAM), c.rsv 1 3, (!c.isF0 && other, ST_NO_CONTEXT)]
    (.ok (leBytes 4 state ++ leBytes 4 (s.pn (Prm.LYR_UNDERRUNS l)) ++ leBytes 4 x.late ++ leBytes 4 (x.held.getD 0) ++ leBytes 4 x.ahead) fun _ => [])

def execLyrInfo (s : State) : Host.Outcome State Fault Refusal := (turn 0x705 hLyrInfo).outcome s

/-! ### Command mode (R402, R403) -/

/-- A lamp of a push that reads a poisoned line holds its last value (R607, R714). -/
def pushHeld (s : State) (t col row : Nat) : List Nat × List Eff :=
  (lastGrey s t col row, [effPatGroup (tlGroup (mqTile s.mqt t)) fun x => { x with poisoned := true }])

/-- The lamp of a push's rectangle: its grey values and what its passage counts. A surface's encoding is not stated, so it is free
(notes/assumptions/53). -/
def pushLamp (s : State) (p : Bytes) (i j : Nat) : List Nat × List Eff :=
  let t := fieldN p 0 2
  let e := mqTile s.mqt t
  let fl := byteAt p 2
  let col := fieldN p 4 2 + i
  let row := fieldN p 6 2 + j
  let addr := fieldN p 16 8
  let pitch := fieldN p 12 4
  let idx := tlBase e + row * tlCols e + col
  if bitOf fl 0 then
    let g := (List.range (tlEmit e)).map fun k => leNat (s.ringRead (addr + pitch * j + 2 * (tlEmit e * i + k)) 2)
    if (firstPoison s (addr + pitch * j + 2 * (tlEmit e * i)) (2 * tlEmit e)).isSome then pushHeld s t col row
    else (g, [.pat fun x => { x with grey := g.zipIdx.foldl (fun m v => m.put (8 * idx + v.2) v.1) x.grey }])
  else
    let fmt := byteAt p 3
    let h := fieldN p 10 2
    let src : LayerSrc := ⟨fieldN p 8 2, h, fmt, Config.freeAt 53 [fmt] % 7, addr, pitch, pitch * h, none, 16⟩
    if !bitOf fl 1 ∧ srcPoisoned s src j i then pushHeld s t col row else
    let v := if bitOf fl 1 then mkPx (fieldN p 16 2) (fieldN p 18 2) (fieldN p 20 2) 0 else (sourcePx s [] src j i).getD 0
    let x := correct s t col row 0 v
    (x.grey, countLamp s t col row 0 x)

/-- Rows of a push sent to the pending buffer of the tile, or placed in the frame of a direct drive port. -/
def pushRows (p : Bytes) : Act := fun s =>
  let t := fieldN p 0 2
  let e := mqTile s.mqt t
  (List.range (fieldN p 10 2)).flatMap fun j =>
    let lamps := (List.range (fieldN p 8 2)).map fun i => pushLamp s p i j
    let row := fieldN p 6 2 + j
    (lamps.flatMap (·.2)) ++
    (if tlDdp e then lamps.zipIdx.map fun x => ddpLamp e (fieldN p 4 2 + x.2) row x.1.1
     else if tileReached s t then lampData s t row (fieldN p 4 2) (lamps.map (·.1)) else [])

/-- R402, R403, R408: a push. -/
def hCmdPush (c : Svc) (s : State) : Reply :=
  let p := c.cmd.payload
  let t := c.n 0 2
  let e := mqTile s.mqt t
  let fl := c.n 2 1
  let raw := bitOf fl 0
  let solid := bitOf fl 1
  let w := c.n 8 2
  let h := c.n 10 2
  let px := if raw then 2 * tlEmit e else layerPx (c.n 3 1)
  let planes := if !raw && (c.n 3 1 == 0x10 || c.n 3 1 == 0x11) then 2 else 1
  checks [c.badLen 32, c.notF0,
    (3 < fl || fl == 3 || decide (mqTiles s.mqt ≤ t) || (if raw || solid then c.n 3 1 != 0 else !layerFmt (c.n 3 1)), ST_BAD_PARAM),
    (w == 0 || h == 0 || decide (tlCols e < c.n 4 2 + w) || decide (tlRows e < c.n 6 2 + h), ST_BAD_PARAM), c.rsv 24 8,
    (solid && (!halfFinite (c.n 16 2) || !halfFinite (c.n 18 2) || !halfFinite (c.n 20 2) || !zeroAt p 22 2), ST_BAD_PARAM),
    (!solid && !(memOwned s 0 (c.n 16 8) (c.n 12 4 * (planes * h - 1) + px * w)), ST_DENIED), (grpMode s (tlGroup e) != 0, ST_CONFLICT)]
    (.pending (acts [pushRows p, fun s => [.wall fun x => { x with pushes := x.pushes ++
      [⟨c.f, (((s.mbx c.f).tickets.getLast?).map (·.id)).getD 0, p⟩] }]]))

def execCmdPush (s : State) : Host.Outcome State Fault Refusal := (turn 0x706 hCmdPush).outcome s

/-- R402: the last packet of the oldest push has left. -/
def actCmdPushDone : Act := fun s =>
  match s.wall.pushes with
  | [] => []
  | p :: rest =>
    let e := mqTile s.mqt (fieldN p.payload 0 2)
    let sent := if tlDdp e || tileReached s (fieldN p.payload 0 2) then fieldN p.payload 8 2 * fieldN p.payload 10 2 else 0
    acts [eff [.wall (fun x => { x with pushes := rest }), .count Prm.CMD_PUSHES 1],
      completeTicket p.f p.ticket ST_OK (leBytes 4 sent ++ leBytes 4 0), eff [.raise 165]] s

def execCmdPushDone (s : State) : Host.Outcome State Fault Refusal := actCmdPushDone.outcome s

/-- A latch placed among a group's latches by its time. -/
def insertLatch (x : Latch) : List Latch → List Latch
  | [] => [x]
  | y :: t => if x.time < y.time then x :: y :: t else y :: insertLatch x t

def addLatch (g : Nat) (x : Latch) : Eff :=
  effGroup g fun y => if x.todo.isEmpty then y else { y with latches := insertLatch x y.latches }

/-- R402, R408: the time of a latch as soon as possible is not stated: it is free within 65 µs after the margin
(notes/assumptions/54). -/
def hCmdLatch (c : Svc) (s : State) : Reply :=
  let g := c.n 0 1
  let at' := c.n 1 1 % 2 == 1
  let t := field c.cmd.payload 4 12
  let margin := s.pn (Prm.GRP_LATCH_MARGIN_NS g)
  let timed := at' && decide ((margin : Int) ≤ timeDiff (timeOf t) s.vis)
  let time := if timed then timeOf t else s.vis + margin * NS + s.free.toNat
  let x : Latch := ⟨0, none, time, false, true, groupTiles s g⟩
  checks [c.badLen 16, c.notF0, (3 < g || 1 < c.n 1 1, ST_BAD_PARAM), c.rsv 2 2, (at' && (!timeOk t || tooFar s (timeOf t)), ST_BAD_PARAM),
    (grpMode s g != 0, ST_CONFLICT)]
    (.ok (timeBytes time ++ leBytes 4 (if at' && !timed then 1 else 0))
      (eff ([.draw, addLatch g x] ++ (if at' && !x.todo.isEmpty then [.tim fun y => { y with latches := y.latches ++ [(g, time)] }] else []))))

def execCmdLatch (s : State) : Host.Outcome State Fault Refusal := (turn 0x707 hCmdLatch).outcome s

/-! ### Tile-entry misses (R374) -/

/-- A 1 ms window ends. -/
def actTileMissStormWindow : Act := fun s =>
  (if s.pn Prm.TILE_MISS_STORM_T < s.wall.missWin then [.count Prm.TILE_STORMS 1, .raise 163] else []) ++
  [.wall fun w => { w with missWin := 0 }]

def execTileMissStormWindow (s : State) : Host.Outcome State Fault Refusal := actTileMissStormWindow.outcome s

/-- A tile entry used: it is cached, of the 64 the most recently used; one not ready in time is a miss. -/
def useTile (t : Nat) (late : Bool) : Act := fun s =>
  [.wall fun w => { w with tiles := (t :: w.tiles.erase t).take 64, missWin := if late ∧ !s.wall.tiles.contains t then w.missWin + 1 else w.missWin }] ++
  (if late ∧ !s.wall.tiles.contains t then [.count64 Prm.TILE_MISSES_LO 1] else [])

end Sys2Proof.Machine
end

