-- ==== Sys2Proof/Machine/Pipes.lean ====
section
/-! DEFINITION. Pipelines of the configuration in force, their numbers, stages and line windows, and the placement of units
(R45, R46, R51, R75, R76, R240, R280, R381, R475, R803; row PIPE_DESCRIBE). -/
namespace Sys2Proof.Machine

/-- One stage of a pipeline: its code (R803; the coding branch of a triad adds 0x10000), its pass rate num / den in passes per
second, units where they do not come of a rate, and its lines ahead. -/
structure StageRow where
  code : Nat
  num : Nat
  den : Nat
  fixed : Option Nat
  lines : Nat
  deriving DecidableEq, Repr

/-- One pipeline: kind and index of R803, owner, window total, stages in order. -/
structure PipeRow where
  kind : Nat
  index : Nat
  owner : Nat
  window : Nat
  stages : List StageRow
  deriving DecidableEq, Repr

/-- Units of a stage (R45): at the slow corner one unit makes 1.6 G passes a second (R21). -/
def StageRow.units (r : StageRow) : Nat :=
  match r.fixed with
  | some n => n
  | none => if r.den = 0 then 0 else (r.num + r.den * 1600000000 - 1) / (r.den * 1600000000)

def PipeRow.units (p : PipeRow) : Nat := (p.stages.map (·.units)).foldl (· + ·) 0

/-- Lines that the raw front end adds (R197). -/
def rfeLines (en : Nat) : Nat := (if bitOf en 1 then 1 else 0) + (if bitOf en 3 || bitOf en 4 then 1 else 0)

/-- Stages 1 to 7 of the front end that RFE_EN enables, as 0 to 6 (R195): defect correction has a bit for its static and one
for its dynamic part. -/
def rfeBound (en : Nat) : List Nat :=
  (List.range 7).filter fun k => if k < 3 then bitOf en k else if k = 3 then bitOf en 3 || bitOf en 4 else bitOf en (k + 1)

/-- The outputs and triads (16, 17) that are enabled on a sensor. -/
def outsOf (s : State) (sn : Nat) : List Nat :=
  (List.range 18).filter fun o => srcEn (s.pn (outSrcId o)) && srcSensor (s.pn (outSrcId o)) == sn

/-- The pipeline of a bound sensor (R195, R196, R240). -/
def sensorPipe (s : State) (sn : Nat) : PipeRow :=
  let en := s.pn (Prm.RFE_EN sn)
  let row := fun (code lines : Nat) => (⟨code, snsWidth s sn * snsHeight s sn * 1000000, s.pn (Prm.SAL_SNS_MIN_PERIOD_US sn), none, lines⟩ : StageRow)
  let front := (rfeBound en).map fun k => row (0x301 + k) (if k = 1 ∨ k = 3 then 1 else 0)
  let used := !(outsOf s sn).isEmpty
  let ir := bitOf (s.pn (Prm.CC_CTRL sn)) 4
  let colour := if used then [row 0x401 3, row 0x402 0] ++ (if ir then [row 0x403 0] else []) ++ [row 0x404 0] else []
  ⟨0, sn, 0, rfeLines en + (if used then 3 else 0), front ++ colour⟩

/-- Lines ahead of the vertical scaler (R256 to R258). -/
def vLines (g : OutGeo) : Nat := if g.ho = g.hc ∨ 2 * g.ho < g.hc then 0 else fmtVtaps g.fmt / 2

/-- Lines ahead of a layer's footprint on a tile (R383). -/
def footLines (e b : Bytes) (c : LayerSrc) : Nat :=
  match filterOf e b c with
  | 1 => 1
  | 2 => 2
  | _ => (areaTaps (sigma e b c true) + 1) / 2

/-- The rectangle of a layer's clip meets the bounding rectangle of a tile's lamps: some lamp of the tile is covered, as
the clipped rectangle alone decides (R381). -/
def clipHolds (s : State) (b : Bytes) (p : Int × Int) : Bool :=
  match layerClip s b with
  | some r => within p (r.getD 0 0) (r.getD 1 0) (r.getD 2 0) (r.getD 3 0)
  | none => false

/-- Lamps of a tile as column and row. -/
def tileLamps (e : Bytes) : List (Nat × Nat) := (List.range (tlRows e)).flatMap fun r => (List.range (tlCols e)).map fun c => (c, r)

/-- The layer covers a lamp of the tile. -/
def coversTile (s : State) (b e : Bytes) : Bool := (tileLamps e).any fun p => clipHolds s b (lampPos s.mqt e p.1 p.2)

/-- A layer is shed at a level: by priority band, camera layers last, pattern engines never (R740). -/
def shedLayer (level : Nat) (b : Bytes) : Bool :=
  if lyKind b = 2 then decide (11 ≤ level) else lyKind b != 5 && decide (3 + lyPrio b / 8 ≤ level)

/-- Layer depth of a group (R381), of the layers that are not shed. -/
def layerDepth (s : State) (g : Nat) : Nat :=
  let ls := (layersOf s g).filter fun l => !shedLayer (shedLevel s) l.2
  ((groupTiles s g).flatMap fun t =>
    let e := mqTile s.mqt t
    (tileLamps e).flatMap fun p => (List.range (grpSlots s g)).map fun slot =>
      (ls.filter fun l => bitOf (lySlotMask l.2) slot && clipHolds s l.2 (lampPos s.mqt e p.1 p.2)).length).foldl max 0

/-- The source geometry of a layer for commit-time checks: a camera layer's output as the set describes it, another layer's
picture as it stands. -/
def layerPlan (s : State) (l : Nat) (b : Bytes) : Option LayerSrc :=
  if lyKind b = 2 then
    let g := geoOf s s.pn (lyIndex b)
    some ⟨g.wo, g.ho, 0, fmtEnc g.fmt, 0, 0, 0, some (lyIndex b), codeBits g.fmt⟩
  else if lyKind b = 5 then none else layerSrc s l b

/-- Footprint lines of a layer: the largest over the tiles it covers. -/
def layerAhead (s : State) (l : Nat) (b : Bytes) : Nat :=
  match layerPlan s l b with
  | none => 0
  | some c => ((groupTiles s (lyGroup b)).map fun t =>
      let e := mqTile s.mqt t
      if coversTile s b e then footLines e b c else 0).foldl max 0

/-- Camera layers in force. -/
def cameraLayers (s : State) : List (Nat × Bytes) :=
  (List.range 4).flatMap fun g => (layersOf s g).filter fun l => lyKind l.2 == 2

/-- Window total of an output (R280), with the footprint of the camera layers that show it. -/
def outWindow (s : State) (o : Nat) : Nat :=
  let g := geoOf s s.pn o
  let fmt := if o < 16 then fmtSampling g.fmt else 2
  let foot := if o < 16 ∧ srcDest (s.pn (outSrcId o)) = 1
    then (((cameraLayers s).filter fun l => lyIndex l.2 == o).map fun l => layerAhead s l.1 l.2).foldl max 0 else 0
  rfeLines (s.pn (Prm.RFE_EN g.sensor)) + 3 + vLines g + (if fmt = 2 then 1 else 0) + foot

/-- The pipeline of an enabled output or triad (R240, R277). -/
def outPipe (s : State) (o : Nat) : PipeRow :=
  let g := geoOf s s.pn o
  let den := s.pn (Prm.SAL_SNS_MIN_PERIOD_US g.sensor) * frameDiv (s.pn (outRingId o))
  let row := fun (code px lines : Nat) => (⟨code, px * 1000000, den, none, lines⟩ : StageRow)
  let scale := (if g.wo = g.wc then [] else [row 0x411 (max g.wc g.wo * g.hc) 0]) ++
    (if g.ho = g.hc then [] else [row 0x412 (max g.hc g.ho * g.wo) (vLines g)])
  let px := g.wo * g.ho
  let look := if fmtLutEn g.fmt then [row 0x413 px 0] else []
  if o < 16 then
    ⟨1, o, 0, outWindow s o, scale ++ look ++ [row 0x414 px 0, row 0x415 px (if fmtSampling g.fmt = 2 then 1 else 0)]⟩
  else
    let vis := s.pn (Prm.TRI_VISION (o - 16))
    let d := visDiv vis
    ⟨2, o - 16, s.pn (Prm.TRI_OWNER (o - 16)) % 128, outWindow s o,
      scale ++ look ++ [row 0x414 px 0, row 0x415 px 0, row 0x10414 px 0, row 0x10415 px 1] ++
        (if bitOf vis 31 then [row 0x421 (g.wc * g.hc) (d - 1), row 0x422 (g.wc / d * (g.hc / d)) 0] else [])⟩

/-- Rate of an Ethernet port by its mode, in Gbit/s (table of chapter 09). -/
def ethRate (s : State) (n : Nat) : Nat := [25, 100, 100, 200, 400].getD (bitsOf (s.pn (Prm.ETH_PORT_CFG n)) 18 16) 0

/-- The pipeline of an enabled Ethernet port (R54: 8 passes a pixel of 32 bits). -/
def ethPipe (s : State) (n : Nat) : PipeRow :=
  ⟨3, n, 0, 0, (List.range 8).map fun k => ⟨0x601 + k, ethRate s n * 1000000000, 32, none, 0⟩⟩

/-- The wall pipeline of a group (R381, R54: 4 + 8 passes a lamp). -/
def wallPipe (s : State) (g : Nat) : PipeRow :=
  let lamps := ((groupTiles s g).map fun t => let e := mqTile s.mqt t; tlCols e * tlRows e).foldl (· + ·) 0
  let v := grpMin s g
  let row := fun (code passes : Nat) => (⟨code, lamps * grpSlots s g * perDen v * passes, perNum v, none, 0⟩ : StageRow)
  let d := max 1 (layerDepth s g)
  let foot := ((layersOf s g).map fun l => if lyKind l.2 = 2 then layerAhead s l.1 l.2 else 0).foldl max 0
  ⟨4, g, 0, foot, [row 0x701 1, row 0x702 d, { row 0x703 d with lines := foot }, row 0x704 1] ++ (List.range 8).map fun k => row (0x801 + k) 1⟩

/-- Libration, one stage (R475, R803). -/
def libPipe (s : State) : PipeRow := ⟨5, 0, 0, 0, [⟨0x901, 0, 1, some (2048 * s.pn Prm.LIB_UNIT_CAP / 100), 0⟩]⟩

/-- The pipelines of the set in force, in the order of R803. -/
def pipes (s : State) : List PipeRow :=
  ((List.range 8).filter (snsBound s)).map (sensorPipe s) ++
  ((List.range 18).filter fun o => srcEn (s.pn (outSrcId o))).map (outPipe s) ++
  ((List.range 4).filter fun n => bitOf (s.pn (Prm.ETH_PORT_CFG n)) 31).map (ethPipe s) ++
  ((List.range 4).filter fun g => !(groupTiles s g).isEmpty).map (wallPipe s) ++
  (if libEn s ∧ grpMode s (libGroup s) = 1 then [libPipe s] else [])

/-! ### Placement -/

/-- Steering of the die has stopped with less than 0.72 V confirmed (R83). -/
def dieShunned (s : State) (d : Nat) : Bool :=
  s.thm.steerOff.contains d && decide (s.fld (Reg.PWR_VCORE d) Fld.PWR_VCORE.COMMANDED_MV < 720)

/-- Units of a cluster are not to be had: its die is excluded (R38) or left alone (R83), or the cluster is stopped (R745). -/
def clusterOff (s : State) (c : Nat) : Bool := s.boot.excluded.contains (c / 32) || dieShunned s (c / 32) || clusterStopped s c

/-- Active units of a cluster: at most 16, fewer where two or more slots are fenced (R29). -/
def activeUnits (s : State) (c : Nat) : Nat := if clusterOff s c then 0 else min 16 (liveSlots s c).length

/-- Units of a cluster that may be bound (R51, R53). -/
def bindCap (s : State) (c : Nat) : Nat := min 12 (activeUnits s c - 4)

/-- Logical units of a cluster that a placement may still take, the lowest role first. -/
def freeUnits (s : State) (used : FMap Binding) (c : Nat) : List Nat :=
  let taken := ((List.range 16).filter fun r => used.has (16 * c + r)).length
  (((List.range 16).filter fun r => (holder s c r).isSome && !used.has (16 * c + r)).map (16 * c + ·)).take (bindCap s c - taken)

/-- Containers in the order of R46: clusters, regions, dies, the package. -/
def containers : List (List Nat) :=
  (List.range 128).map (fun c => [c]) ++ (List.range 16).map (fun r => (List.range 8).map (8 * r + ·)) ++
  (List.range 4).map (fun d => (List.range 32).map (32 * d + ·)) ++ [List.range 128]

/-- The units that a pipeline of n units takes: of the first container in which they fit. -/
def takeUnits (s : State) (used : FMap Binding) (n : Nat) : Option (List Nat) :=
  (containers.find? fun cs => decide (n ≤ (cs.flatMap (freeUnits s used)).length)).map fun cs =>
    (cs.flatMap (freeUnits s used)).take n

/-- What a frame start of a pipeline is (R696): its sensor, its group, or any group's boundary. -/
def PipeRow.start (s : State) (p : PipeRow) : Nat :=
  match p.kind with
  | 0 => p.index
  | 1 => srcSensor (s.pn (outSrcId p.index))
  | 2 => srcSensor (s.pn (outSrcId (16 + p.index)))
  | 4 => 64 + p.index
  | _ => 255

/-- Units of a pipeline dealt to its stages in order. -/
def dealStages (pipe owner start : Nat) : List StageRow → List Nat → List (Nat × Binding)
  | [], _ => []
  | r :: t, us => (us.take r.units).map (fun u => (u, ⟨pipe, r.code, owner, start⟩)) ++ dealStages pipe owner start t (us.drop r.units)

/-- A pipeline that takes no units: a wall pipeline on a standby, except while it warms up (R718, R726), and shed work (R740). -/
def unbound (s : State) (cold : Bool) (p : PipeRow) : Bool :=
  (cold && p.kind == 4) || (p.kind == 5 && decide (1 ≤ shedLevel s)) ||
  (p.kind == 1 && shedSrc (shedLevel s) p.index (s.pn (outSrcId p.index))) || (p.kind == 2 && decide (2 ≤ shedLevel s))

/-- Placement of pipelines in the order of their numbers (R45, R46); none where some pipeline finds no units (R52). -/
def placeFrom (s : State) (cold : Bool) : List (PipeRow × Nat) → FMap Binding → Option (FMap Binding)
  | [], m => some m
  | (p, i) :: t, m =>
    if unbound s cold p then placeFrom s cold t m else
    match takeUnits s m p.units with
    | none => none
    | some us => placeFrom s cold t ((dealStages i p.owner (p.start s) p.stages us).foldl (fun m e => m.put e.1 e.2) m)

/-- The placement of the configuration in a state; cold leaves the wall pipelines out. -/
def placement (s : State) (cold : Bool) : Option (FMap Binding) := placeFrom s cold (pipes s).zipIdx .empty

/-- R76: the line window of every camera layer is placed: its line time exceeds the transit of 250 ns (R73) (DEDUCED,
notes/assumptions/70). -/
def windowsPlaced (s : State) : Bool :=
  (cameraLayers s).all fun l => decide (250 < lineNs s (srcSensor (s.pn (outSrcId (lyIndex l.2)))))

/-- Bindings take effect (R25, R31): the token buffer and shadow of a unit that passes to another owner are cleared, and so are the
lines of a triad that has another owner. -/
def rebindTo (m : FMap Binding) : Act := fun s =>
  let moved := (m.entries.filter fun e => match s.flt.lastOwner.find e.1 with | some o => o != e.2.owner | none => false).map (·.1)
  let slots := moved.filterMap fun u => (holder s (u / 16) (u % 16)).map fun k => 17 * (u / 16) + k
  let triads := (List.range 2).filter fun t => m.entries.any fun e => moved.contains e.1 && e.2.owner == s.pn (Prm.TRI_OWNER t) % 128
  [.flt fun f => { f with
    bind := m, lastOwner := m.entries.foldl (fun l e => l.put e.1 e.2.owner) f.lastOwner,
    shadow := f.shadow.filter fun u _ => !moved.contains u,
    units := slots.foldl (fun x p => x.alter p fun u => { u with token := none, refused := 0 }) f.units,
    lines := f.lines.filter fun k _ => !(triads.map (64 + ·)).contains (k / 2 ^ 34) }]

/-- The bindings of the set in force, where a placement exists. -/
def rebind (cold : Bool) : Act := fun s =>
  match placement s cold with
  | some m => rebindTo m s
  | none => []

/-! ### PIPE_DESCRIBE -/

/-- The 8 bytes of a stage entry. -/
def stageEntry (s : State) (pipe : Nat) (r : StageRow) : Bytes :=
  let us := s.flt.bind.entries.filter fun e => e.2.pipe == pipe && e.2.stage == r.code
  leBytes 2 r.code ++ leBytes 2 us.length ++ leBytes 2 ((us.head?.map (·.1)).getD 0) ++ leBytes 1 r.lines ++ [0]

/-- R803. -/
def hPipeDescribe (c : Svc) (s : State) : Reply :=
  let ps := pipes s
  let n := c.n 0 4
  checks [c.badLen 4, (decide (ps.length ≤ n), ST_NO_CONTEXT)]
    (match ps[n]? with
     | none => .refuse ST_NO_CONTEXT
     | some p => .ok (leBytes 4 n ++ leBytes 2 ps.length ++ leBytes 1 p.kind ++ leBytes 1 p.index ++ leBytes 4 p.window ++
         leBytes 2 p.stages.length ++ [0, 0] ++ p.stages.flatMap (stageEntry s n)) (fun _ => []))

def execPipeDescribe (s : State) : Host.Outcome State Fault Refusal := (turn 0x130 hPipeDescribe).outcome s

end Sys2Proof.Machine
end

