-- ==== Sys2Proof/Machine/PairBase.lean ====
section
/-! DEFINITION. What both packages of a pair share: planned swaps and what is sent between them (R717 to R727). The forms of the
messages are not in the spec (notes/assumptions/38): XPL class 2, a kind byte, its fields. -/
namespace Sys2Proof.Machine

def pairFlag (s : State) (f : Fld) : Bool := s.flag Reg.FLT_PAIR_STAT f
def pairFld (f : Fld) (v : Nat) : Eff := .fld Reg.FLT_PAIR_STAT f v
def pairEn (s : State) : Bool := pairFlag s Fld.FLT_PAIR_STAT.EN
def pairActive (s : State) : Bool := pairEn s && pairFlag s Fld.FLT_PAIR_STAT.ACTIVE
def pairProtected (s : State) : Bool := pairFlag s Fld.FLT_PAIR_STAT.PROTECTED

/-- A message to the partner: kind 1 lamp data, 2 yield, 3 swap begins, 4 warm-up mismatch, 5 swap ends, 6 boundary named, 7 mirror
item, 8 mirror acknowledgement, 9 checkpoint. -/
def pairSend (kind : Nat) (bs : Bytes) (s : State) : Eff := .emit (.packet 3 (partnerPkg s) ([2] ++ leBytes 1 kind ++ bs))

/-- Groups with tiles on paired links. -/
def pairedGroups (s : State) : List Nat :=
  (List.range 4).filter fun g => (groupTiles s g).any fun t => let e := mqTile s.mqt t; !tlDdp e && linkPair s (tlLink e)

/-- The group whose boundaries a planned swap counts by: the lowest paired group. -/
def pairGroup (s : State) : Nat := (pairedGroups s).headD 0

/-- A swap's ticket ends. -/
def swapTicketDone (status : Nat) (result : Bytes) : Act := fun s =>
  match s.flt.swapTicket with
  | some (f, id) => acts [eff [.flt fun x => { x with swapTicket := none }], completeTicket f id status result] s
  | none => []

/-- R726: a planned swap is aborted; the roles stay. The status of its ticket is not stated (PRESUMED ST_ABORTED,
notes/assumptions/71). -/
def swapAbort : Act := fun s =>
  if s.flt.warm.isNone ∧ s.flt.swap.isNone then [] else acts [
    eff [pairFld Fld.FLT_PAIR_STAT.WARM 0, pairFld Fld.FLT_PAIR_STAT.SWAP_PENDING 0, pairFld Fld.FLT_PAIR_STAT.LAST_EVENT 3,
      .count Prm.FLT_SWAP_ABORTS 1, .flt (fun x => { x with warm := none, swap := none }), pairSend 5 [] s, .raise 247],
    if pairActive s then eff [] else rebind true,
    swapTicketDone ST_ABORTED []] s

/-- R726: a planned swap begins. The standby binds units and computes without sending. -/
def swapStart : Act := fun s =>
  if s.flt.warm.isSome ∨ s.flt.swap.isSome then [] else acts [
    eff [.flt (fun x => { x with warm := some (s.pn Prm.FLT_PAIR_WARM_FRAMES) }), pairSend 3 [] s],
    if pairActive s then eff [] else acts [eff [pairFld Fld.FLT_PAIR_STAT.WARM 1], rebind false]] s

/-- What a message of the partner about the pair does. -/
def pairMessage (kind : Nat) (bs : Bytes) : Act := fun s =>
  if !pairEn s then [] else
  match kind with
  | 2 => if pairActive s then [] else [.flt fun x => { x with declared := true }]
  | 3 => swapStart s
  | 4 => acts [eff [.count Prm.FLT_PAIR_WARM_MISMATCH 1], swapAbort] s
  | 5 => swapAbort s
  | 6 => [.flt (fun x => { x with warm := none, swap := some (fieldN bs 0 8) }), pairFld Fld.FLT_PAIR_STAT.SWAP_PENDING 1]
  | _ => []

end Sys2Proof.Machine
end

