-- ==== Sys2Proof/Machine/Sensor.lean ====
section
/-! DEFINITION. Sensor ingest over SAL (chapter 05; rows SAL_PORT_MODE to SAL_FRAME_INFO and TRAIN_LOCK). -/
namespace Sys2Proof.Machine

/-! ### Ports and lanes -/

def salEn (s : State) (n : Nat) : Bool := bitOf (s.pn (Prm.SAL_PORT_CFG n)) 31
def salLanes (s : State) (n : Nat) : Nat := bitsOf (s.pn (Prm.SAL_PORT_CFG n)) 11 8
def salOctet (s : State) (n : Nat) : Nat := s.pn (Prm.SAL_PORT_CFG n) % 32
def salMode (s : State) (n : Nat) : Nat := s.fld (Reg.SAL_PORT_CTRL n) Fld.SAL_PORT_CTRL.MODE
def salReady (s : State) (n : Nat) : Bool := s.flag (Reg.SAL_PORT_STAT n) Fld.SAL_PORT_STAT.READY

/-- The bits of a TRAIN block (R163). -/
def trainBlock : Bytes := [0x55, 0x0F, 0xF0, 0x3C, 0xC3, 0x66, 0x99, 0x5A]

/-- The port stops running: READY drops. -/
def salDown (n : Nat) : List Eff :=
  [.fld (Reg.SAL_PORT_STAT n) Fld.SAL_PORT_STAT.READY 0, effSal n fun p => { p with columns := 0, rxSeq := none }]

/-- A write of MODE (R188, R190): ignored while EN = 0; 3 is not used and is ignored (notes/assumptions/30). In training the
back-channel lane carries TRAIN blocks, of which the first is recorded as sent. -/
def actSalPortMode (n : Fin 4) (v : Word) : Act := fun s =>
  let m := getFld v Fld.SAL_PORT_CTRL.MODE
  if !salEn s n ∨ m = 3 then [] else
  [.fld (Reg.SAL_PORT_CTRL n) Fld.SAL_PORT_CTRL.MODE m] ++ (if m = 2 then [] else salDown n) ++
    (if m = 1 then [.emit (.packet 0 n trainBlock)] else [])

def execSalPortMode (n : Fin 4) (v : Word) (s : State) : Host.Outcome State Fault Refusal := (actSalPortMode n v).outcome s

/-- The lane register of a slip view: SAL port n lane k at 8 n + k, tile link l lane k at 2 l + k. -/
def alignReg (tlk : Bool) (i : Nat) : Nat := if tlk then Reg.TLK_LANE_ALIGN i else Reg.SAL_LANE_ALIGN (i % 32)

/-- The protocol of the view holds the lane (R677): an enabled port or link that uses it. -/
def viewHolds (s : State) (tlk : Bool) (i : Nat) : Bool :=
  if tlk then
    let c := s.pn (Prm.TLK_LINK_CFG (i / 2))
    bitOf c 31 && (i % 2 == 0 || bitOf c 20)
  else i < 32 && salEn s (i / 8) && i % 8 < salLanes s (i / 8)

/-- TRAIN_LOCK of a lane, and of a SAL port's summary. -/
def setTrainLock (tlk : Bool) (i v : Nat) : List Eff :=
  .fld (alignReg tlk i) Fld.SAL_LANE_ALIGN.TRAIN_LOCK v ::
    (if tlk then []
     else [.fld (Reg.SAL_PORT_STAT (i / 8)) ⟨8 + i % 8, 8 + i % 8⟩ v])

/-- R189: SLIP moves the boundary one bit later; after 66 slips it is back. A slip through a view that does not hold the
lane is ignored (R677). -/
def actLaneSlip (tlk : Bool) (i : Fin 128) (v : Word) : Act := fun s =>
  if getFld v Fld.SAL_LANE_ALIGN.SLIP = 0 ∨ !viewHolds s tlk i then [] else
  .fld (alignReg tlk i) Fld.SAL_LANE_ALIGN.SLIPS ((s.fld (alignReg tlk i) Fld.SAL_LANE_ALIGN.SLIPS + 1) % 66) ::
    setTrainLock tlk i 0

def execLaneSlip (tlk : Bool) (i : Fin 128) (v : Word) (s : State) : Host.Outcome State Fault Refusal :=
  (actLaneSlip tlk i v).outcome s

/-- R189: 64 consecutive TRAIN blocks at the current boundary. -/
def actTrainLock (tlk : Bool) (i : Fin 128) : Act := fun s => if viewHolds s tlk i then setTrainLock tlk i 1 else []

def execTrainLock (tlk : Bool) (i : Fin 128) (s : State) : Host.Outcome State Fault Refusal := (actTrainLock tlk i).outcome s

/-- The lanes of a column name each logical lane once. -/
def columnOk (lanes : Nat) (l : List (Nat × Bool)) : Bool :=
  l.length == lanes && (List.range lanes).all fun k => l.any fun e => e.1 == k

/-- What a column shows of one physical lane: lane order (R166, R676), polarity (R674), block lock. -/
def columnLane (s : State) (n k : Nat) (e : Nat × Bool) : List Eff :=
  let lane := 8 * salOctet s n + k
  [.fld (Reg.SAL_LANE_ALIGN (8 * n + k)) Fld.SAL_LANE_ALIGN.BLOCK_LOCK 1,
   .fld (Reg.SAL_PORT_STAT n) ⟨k, k⟩ 1,
   .fld (Reg.LAN_STAT lane) Fld.LAN_STAT.SIGNAL 1, .fld (Reg.LAN_STAT lane) Fld.LAN_STAT.CDR_LOCK 1,
   .fld (Reg.LAN_STAT lane) Fld.LAN_STAT.LOGICAL e.1,
   .fld (Reg.LAN_STAT lane) Fld.LAN_STAT.RX_INVERTED (if e.2 then 1 else 0)]

/-- R166: a column deskews the lanes; skew over 48 blocks is an error. READY after two consistent columns. -/
def actSalAlignColumn (n : Fin 4) (skew : Nat) (lanes : List (Nat × Bool)) : Act := fun s =>
  if salMode s n ≠ 2 ∨ !salEn s n ∨ !columnOk (salLanes s n) lanes then [] else
  (lanes.zipIdx.flatMap fun e => columnLane s n e.2 e.1) ++
  (if 48 < skew then .fld (Reg.SAL_PORT_STAT n) Fld.SAL_PORT_STAT.DESKEW_ERR 1 :: salDown n
   else effSal n (fun p => { p with columns := p.columns + 1 }) ::
     (if 1 ≤ (s.sal n).columns then [.fld (Reg.SAL_PORT_STAT n) Fld.SAL_PORT_STAT.READY 1] else []))

def execSalAlignColumn (n : Fin 4) (skew : Nat) (lanes : List (Nat × Bool)) (s : State) : Host.Outcome State Fault Refusal :=
  (actSalAlignColumn n skew lanes).outcome s

/-! ### Triggers (R191 to R194) -/

/-- SEQ_RUNNING and PENDING follow the state. -/
def trigSync (sn : Nat) : Act := fun s =>
  [.fld (Reg.SAL_TRIG_STAT sn) Fld.SAL_TRIG_STAT.SEQ_RUNNING (if (s.sns sn).running then 1 else 0),
   .fld (Reg.SAL_TRIG_STAT sn) Fld.SAL_TRIG_STAT.PENDING (if (s.sns sn).pending.isSome then 1 else 0)]

/-- A trigger is captured for a sensor at a device time in 2^-16 ns (R191 to R193). -/
def captureTrigger (sn at16 : Nat) : Act := fun s =>
  let x := s.sns sn
  if x.running then
    (if x.pending.isSome then [.inc (Reg.SAL_TRIG_STAT sn) Fld.SAL_TRIG_STAT.OVERRUNS 1, .raise 125]
     else acts [eff [effSns sn fun x => { x with pending := some at16 }], trigSync sn] s)
  else acts [eff [effSns sn fun x => { x with running := true, seqFrame := false, sends := x.sends ++ [(at16, false)] }],
    trigSync sn] s

/-- R192: the sequence ends with its frame; the pending trigger is sent late and starts the next. -/
def endSequence (sn : Nat) : Act := fun s =>
  let x := s.sns sn
  if !x.running ∨ !x.seqFrame then [] else
  acts [eff [match x.pending with
    | none => effSns sn fun x => { x with running := false, seqFrame := false }
    | some t => effSns sn fun x => { x with pending := none, seqFrame := false, sends := x.sends ++ [(t, true)] }],
    trigSync sn] s

/-- Sensors whose trigger source has this code. -/
def trigTargets (s : State) (code : Nat) : List Nat :=
  (List.range 8).filter fun sn => snsBound s sn && s.pn (Prm.SAL_TRIG_SRC sn) % 256 == code

/-- R191: an upstream TRIGGER block of a sensor passes the medium boundary. -/
def actSalUpstreamTrigger (sn : Fin 8) : Act := fun s =>
  actsFor (trigTargets s (0x30 + sn)) (fun t => captureTrigger t s.stamp) s

def execSalUpstreamTrigger (sn : Fin 8) (s : State) : Host.Outcome State Fault Refusal := (actSalUpstreamTrigger sn).outcome s

/-- A capture of TRIG_IN[i] (R542). -/
def captureEdge (i : Nat) : Act := fun s =>
  let q := s.tim.caps.getD i []
  if 4 ≤ q.length then [.inc (Reg.TIM_CAP_STAT i) Fld.TIM_CAP_STAT.OVERRUNS 1, .count (Prm.TRIG_OVERRUNS i) 1]
  else [.tim fun t => { t with caps := t.caps.put i (q ++ [s.stamp]) },
    .fld (Reg.TIM_CAP_STAT i) Fld.TIM_CAP_STAT.VALID 1, .fld (Reg.TIM_CAP_STAT i) Fld.TIM_CAP_STAT.DEPTH (q.length + 1),
    .count (Prm.TRIG_CAPTURES i) 1] ++ raiseIf (bitOf (s.pn (Prm.TRIG_CFG i)) 2) 213

/-- R191, R542: an edge on TRIG_IN[i], after which the level stays for widthNs at least. A pulse shorter than 10 ns is
ignored and counted. -/
def actTrigInEdge (i : Fin 8) (falling : Bool) (widthNs : Nat) : Act := fun s =>
  if widthNs < 10 then [.count (Prm.TRIG_FILTERED i) 1] else
  let cfg := s.pn (Prm.TRIG_CFG i)
  acts [if bitOf cfg 1 && bitOf cfg 0 == falling then captureEdge i else fun _ => [],
    actsFor ((trigTargets s (0x10 + i)).filter fun t => bitOf (s.pn (Prm.SAL_TRIG_SRC t)) 8 == falling)
      (fun t => captureTrigger t s.stamp)] s

def execTrigInEdge (i : Fin 8) (falling : Bool) (widthNs : Nat) (s : State) : Host.Outcome State Fault Refusal :=
  (actTrigInEdge i falling widthNs).outcome s

/-- The content of a TRIGGER block (the table of "Triggers"). -/
def triggerBlock (sn count at16 : Nat) (late : Bool) : Bytes :=
  [0x33] ++ leBytes 1 (sn + if late then 8 else 0) ++ leBytes 2 count ++
    leBytes 4 (at16 / NS % 1000000000 * 4 + at16 % NS / 16384)

/-- R191, R192: the TRIGGER block due next leaves on the back channel of its sensor. -/
def actSalTriggerSend (sn : Fin 8) : Act := fun s =>
  match (s.sns sn).sends with
  | [] => []
  | (t, late) :: rest =>
    let n := ((s.sns sn).count + 1) % 65536
    [effSns sn fun x => { x with sends := rest, count := n }, .emit (.packet 0 (snsPort s sn) (triggerBlock sn n t late))] ++
      (if late then [.inc (Reg.SAL_TRIG_STAT sn) Fld.SAL_TRIG_STAT.LATE 1] else [])

def execSalTriggerSend (sn : Fin 8) (s : State) : Host.Outcome State Fault Refusal := (actSalTriggerSend sn).outcome s

/-! ### Frames (R171 to R183) -/

/-- Base of the metadata or sensor-statistics ring of a sensor: firmware's choice, which the spec does not state. -/
def metaRing (sn stat : Nat) : Nat := Config.freeAt 40 [sn, stat]

/-- One sample of a line as delivered: received, or filled from one mosaic period above, or black (R178). -/
def lineSample (s : State) (sn line col : Nat) : Nat × Bool :=
  let x := s.sns sn
  let d := s.mosaic sn
  match x.got.find (line * 32768 + col) with
  | some v => (v, false)
  | none =>
    match (if mosPh d ≤ line then x.recent.find (line - mosPh d) else none) with
    | some l => (l.getD col 0, true)
    | none => (blackOf s sn (siteType (siteAt d line col)), true)

/-- The frame is marked incomplete; E127 once for it (R178). -/
def markIncomplete (sn : Nat) : Act := fun s =>
  if (s.sns sn).incomplete then [] else [effSns sn fun x => { x with incomplete := true }, .raise 127]

/-- The next line of the frame in progress is delivered (R177, R178). -/
def deliverLine (sn frame : Nat) : Act := fun s =>
  let x := s.sns sn
  let line := x.deliv
  let l := (List.range (snsWidth s sn)).map (lineSample s sn line)
  acts [
    eff [.emit (.rawLine sn frame line l),
      effSns sn fun x => { x with
        deliv := line + 1, recent := (x.recent.put line (l.map (·.1))).filter fun k _ => decide (line < k + 8),
        got := x.got.filter fun k _ => decide (line * 32768 + 32768 ≤ k) }],
    camLine sn frame line l,
    if l.any (·.2) then markIncomplete sn else fun _ => []] s

/-- Lines up to a line are delivered, at most n of them. -/
def deliverTo (sn frame target : Nat) : Nat → Act
  | 0 => fun _ => []
  | n + 1 => fun s =>
    if (s.sns sn).deliv < min target (snsHeight s sn) then Act.seq (deliverLine sn frame) (deliverTo sn frame target n) s else []

/-- Every line that both halves have passed (R177). -/
def deliverReady (sn : Nat) : Act := fun s =>
  match (s.sns sn).frame with
  | none => []
  | some f =>
    let x := s.sns sn
    let t := if snsPair s sn then min x.lo.line x.hi.line else x.lo.line
    deliverTo sn f t (snsHeight s sn) s

/-- The record of a frame that has ended joins the last 8 (R187). -/
def pushInfo (sn : Nat) : Act := fun s =>
  let x := s.sns sn
  [effSns sn fun y => { y with info := match y.info with
    | i :: t => { i with incomplete := x.incomplete, sizeErr := x.sizeErr, early := x.early } :: t
    | [] => [] }]

/-- A frame is counted toward the statistics divider, and its record becomes due (R231). -/
def dueRecord (sn frame : Nat) : Act := fun s =>
  let x := s.sns sn
  let div := max 1 (s.cp (Prm.RFE_STAT_DIVIDER sn))
  let k := (x.divider + 1) % div
  [effSns sn fun y => { y with
    divider := k, due := if k = 0 ∧ bitOf (s.cp (Prm.RFE_EN sn)) 7 then
        y.due ++ [(frame, x.incomplete, match y.info with | i :: _ => if i.tsValid then i.ts else 0 | [] => 0)] else y.due }]

/-- R179: the frame in progress of a sensor ends, filled to its full size. -/
def endFrame (sn : Nat) : Act := fun s =>
  match (s.sns sn).frame with
  | none => []
  | some f =>
    acts [
      if (s.sns sn).early then fun _ => []
      else acts [deliverTo sn f (snsHeight s sn) (snsHeight s sn), dueRecord sn f],
      pushInfo sn,
      (fun s => [.fld (Reg.SAL_SNS_STAT sn) Fld.SAL_SNS_STAT.IN_FRAME 0,
        .fld (Reg.SAL_SNS_STAT sn) Fld.SAL_SNS_STAT.LAST_INCOMPLETE (if (s.sns sn).incomplete then 1 else 0),
        .fld (Reg.SAL_SNS_STAT sn) Fld.SAL_SNS_STAT.LAST_SIZE_ERR (if (s.sns sn).sizeErr then 1 else 0),
        .fld (Reg.SAL_SNS_STAT sn) Fld.SAL_SNS_STAT.LAST_EARLY (if (s.sns sn).early then 1 else 0),
        effSns sn fun x => { x with frame := none, prev := some f, got := .empty, recent := .empty }]),
      endSequence sn] s

/-- The time-stamp of a start-of-frame packet is kept (R182). -/
def keepStamp (sn at4 : Nat) : List Eff :=
  let v := at4 * 16384
  [.fld (Reg.SAL_SNS_STAT sn) Fld.SAL_SNS_STAT.TS_VALID 1,
   .reg (Reg.SAL_SOF_TS_LO sn) (w32 (v / NS % 1000000000 * 4 + v % NS / 16384)), .reg (Reg.SAL_SOF_TS_HI sn) (w32 (v / SEC)),
   effSns sn fun x => { x with lastSof := some at4, info := match x.info with
     | i :: t => { i with tsValid := true, ts := v } :: t
     | [] => [] },
   .raise (112 + sn)]

/-- A frame of a sensor starts with a packet: sof is its SOF bit on the port that starts the frame (R173, R180 to R182). -/
def startFrame (sn frame : Nat) (sof : Bool) (at4 : Nat) : Act := fun s =>
  let x := s.sns sn
  let skipped := match x.prev with
    | some p => (frame + 2 ^ 32 - p) % 2 ^ 32 - 1
    | none => 0
  let early := sof && (match x.lastSof with
    | some t => decide (at4 < t + s.pn (Prm.SAL_SNS_MIN_PERIOD_US sn) * 4000)
    | none => false)
  let half := if snsPair s sn then snsWidth s sn / 2 else 0
  acts [
    eff ([.fld (Reg.SAL_SNS_STAT sn) Fld.SAL_SNS_STAT.IN_FRAME 1, .fld (Reg.SAL_SNS_STAT sn) Fld.SAL_SNS_STAT.TS_VALID 0,
      .reg (Reg.SAL_SNS_FRAME sn) (w32 frame),
      .inc (Reg.SAL_SNS_STAT sn) Fld.SAL_SNS_STAT.MISSED_FRAMES skipped,
      effSns sn fun x => { x with
        frame := some frame, early := early, lo := .init, hi := { SnsHalf.init with col := half },
        got := .empty, deliv := 0, recent := .empty, incomplete := false, sizeErr := false, seqFrame := x.running, dynOver := false,
        info := (⟨frame, false, false, early, false, false, 0, 0, 0⟩ : FrameInfo) :: x.info.take 7 }] ++
      (if early then [.fld (Reg.SAL_SNS_STAT sn) Fld.SAL_SNS_STAT.LAST_EARLY 1, .raise 127] else [])),
    if early then fun _ => []
    else acts [frameStart sn, eff (if sof then keepStamp sn at4 else []), camStart sn frame (if sof then at4 * 16384 else 0)]] s

/-! ### Packets -/

/-- A SAL packet split into its parts. -/
structure SalPkt where
  flags : Nat
  format : Nat
  frame : Nat
  line : Nat
  col : Nat
  seq : Nat
  rsv : Nat
  payload : Bytes
  deriving DecidableEq, Repr

def roundUp (n k : Nat) : Nat := (n + k - 1) / k * k

/-- The header and payload of an undamaged packet (R168, R170); none where its length or CRC disagrees. -/
def parsePkt (bs : Bytes) : Option SalPkt :=
  let len := fieldN bs 2 2
  let body := 16 + roundUp len 8
  if bs.length ≠ body + 8 ∨ crc32 (bs.take body) ≠ fieldN bs body 4 ∨ !zeroAt bs (body + 4) 4 then none
  else some ⟨fieldN bs 0 1, fieldN bs 1 1, fieldN bs 4 4, fieldN bs 8 2, fieldN bs 10 2, fieldN bs 12 2, fieldN bs 14 2, field bs 16 len⟩

/-- A packet built (R168, R170). -/
def buildPkt (flags format seq : Nat) (payload : Bytes) : Bytes :=
  let h := leBytes 1 flags ++ leBytes 1 format ++ leBytes 2 payload.length ++ List.replicate 8 0 ++ leBytes 2 seq ++ [0, 0]
  let b := h ++ field payload 0 (roundUp payload.length 8)
  b ++ leBytes 4 (crc32 b) ++ [0, 0, 0, 0]

def SalPkt.sensor (p : SalPkt) : Nat := p.flags % 8
def SalPkt.sub (p : SalPkt) : Nat := p.flags / 8 % 4
def SalPkt.sof (p : SalPkt) : Bool := bitOf p.flags 5
def SalPkt.eof (p : SalPkt) : Bool := bitOf p.flags 6

/-- A packet dropped with a good CRC (R184). -/
def salDrop (n : Nat) (evs : List Nat) : List Eff :=
  .inc (Reg.SAL_PORT_DROPS n) Fld.SAL_PORT_DROPS.DROPS 1 :: evs.map .raise

/-- What arrives on a running port: R64 and damaged packets, and the sequence check of R184; then a good packet's work. -/
def salReceive (n : Nat) (framing : Bool) (full : Option (Fin 8)) (bytes : Bytes) (work : SalPkt → Act) : Act := fun s =>
  if !salReady s n then [] else
  let lost : List Eff := match full with
    | some k => [.inc (Reg.LAN_OVF (8 * salOctet s n + k)) Fld.LAN_OVF.OVF 1, .raise 242]
    | none => []
  match (if framing ∨ full.isSome then none else parsePkt bytes) with
  | none => lost ++ [.inc (Reg.SAL_PORT_ERRS n) Fld.SAL_PORT_ERRS.CRC_ERRS 1, .raise 124]
  | some p =>
    let gap := match (s.sal n).rxSeq with
      | some q => (p.seq + 65536 - (q + 1) % 65536) % 65536
      | none => 0
    acts [eff [.inc (Reg.SAL_PORT_ERRS n) Fld.SAL_PORT_ERRS.LOST_PKTS gap, effSal n fun x => { x with rxSeq := some p.seq }],
      work p] s

/-- Whole packing groups of a raw FORMAT (R169). -/
def groupsOk (fmt len : Nat) : Bool :=
  if fmt / 16 % 4 = 1 then len % 2 == 0 else len % ([5, 3, 7, 2].getD (fmt % 4) 2) == 0

/-- The samples of a raw payload, unpacked to the 16-bit normalised scale (R169, R203). -/
def unpackRaw (fmt : Nat) (payload : Bytes) : List Nat :=
  let b := fmtDepth fmt
  let n := leNat payload
  if fmt / 16 % 4 = 1 then (List.range (payload.length / 2)).map fun i => n / 2 ^ (16 * i) % 2 ^ b * 2 ^ (16 - b)
  else (List.range (payload.length * 8 / b)).map fun i => n / 2 ^ (b * i) % 2 ^ b * 2 ^ (16 - b)

/-- The half of a sensor that a port carries. -/
def isHi (s : State) (sn n : Nat) : Bool := snsPair s sn && snsPort s sn != n

def halfOf (x : Sns) (hi : Bool) : SnsHalf := if hi then x.hi else x.lo

def setHalf (sn : Nat) (hi : Bool) (h : SnsHalf) : Eff :=
  effSns sn fun x => if hi then { x with hi := h } else { x with lo := h }

/-- First and one-past-last column of a half (R173). -/
def halfCols (s : State) (sn : Nat) (hi : Bool) : Nat × Nat :=
  let w := snsWidth s sn
  if !snsPair s sn then (0, w) else if hi then (w / 2, w) else (0, w / 2)

/-- Raw samples of the frame in progress: accepted in order (R176) within the frame, else dropped (R184). -/
def takeRaw (n sn : Nat) (p : SalPkt) : Act := fun s =>
  let hi := isHi s sn n
  let h := halfOf (s.sns sn) hi
  let cols := halfCols s sn hi
  let xs := unpackRaw p.format p.payload
  if snsHeight s sn ≤ p.line ∨ cols.2 < p.col + xs.length ∨ p.col < cols.1 then
    effSns sn (fun x => { x with sizeErr := true }) :: salDrop n [137]
  else if h.eof ∨ p.line < h.line ∨ (p.line = h.line ∧ p.col < h.col) then salDrop n [127]
  else
    let next : SnsHalf := if xs.isEmpty then h
      else if p.col + xs.length = cols.2 then ⟨p.line + 1, cols.1, false⟩ else ⟨p.line, p.col + xs.length, false⟩
    acts [eff [effSns sn fun x => { x with
        got := xs.zipIdx.foldl (fun m e => m.put (p.line * 32768 + p.col + e.2) e.1) x.got }, setHalf sn hi next],
      deliverReady sn] s

/-- Embedded metadata (1) and sensor statistics (2) go to their rings in arrival order; beyond 64 KiB they are
discarded (R183). -/
def takeMeta (sn : Nat) (p : SalPkt) : Act := fun s =>
  match (s.sns sn).info with
  | [] => []
  | i :: _ =>
    let stat := p.sub - 1
    let used := if stat = 0 then i.metaLen else i.statLen
    let fit := p.payload.take (65536 - used)
    [.dev (metaRing sn stat + 65536 * (p.frame % 8) + used) fit,
     effSns sn fun x => { x with info := match x.info with
       | i :: t => { i with metaLen := if stat = 0 then used + fit.length else i.metaLen,
                            statLen := if stat = 0 then i.statLen else used + fit.length,
                            metaTrunc := i.metaTrunc || decide (fit.length < p.payload.length) } :: t
       | [] => [] }]

/-- EOF of a half: E137 where its last line is incomplete; the frame ends when every half has ended (R173, R179, R184). -/
def takeEof (n sn : Nat) : Act := fun s =>
  let hi := isHi s sn n
  let h := halfOf (s.sns sn) hi
  let short := decide (h.line < snsHeight s sn) && !(s.sns sn).early
  acts [eff ([setHalf sn hi { h with eof := true, line := max h.line (snsHeight s sn) }] ++
      (if short then [effSns sn fun x => { x with sizeErr := true }, .raise 137] else [])),
    (fun s => if (s.sns sn).early then [] else deliverReady sn s),
    (fun s => let x := s.sns sn
      if x.lo.eof ∧ (x.hi.eof ∨ !snsPair s sn) then endFrame sn s else [])] s

/-- The formal checks of a good packet on a substream other than control (R184). -/
def pktBad (s : State) (n : Nat) (p : SalPkt) : Bool :=
  !snsOn s p.sensor n || bitOf p.flags 7 || p.rsv != 0 || decide (8192 < p.payload.length) ||
  (if p.sub = 0 then p.format != s.pn (Prm.SAL_SNS_FORMAT p.sensor) || !groupsOk p.format p.payload.length else p.format != 0)

/-- A packet of a sensor: a new FRAME value ends the frame in progress and starts the next (R173, R179). -/
def takePkt (n : Nat) (at4 : Nat) (p : SalPkt) : Act := fun s =>
  let sn := p.sensor
  let lower := !isHi s sn n
  if p.sub = 3 then [] else if pktBad s n p then salDrop n [127] else
  acts [
    (fun s => match (s.sns sn).frame with
      | some f => if f = p.frame then [] else endFrame sn s
      | none => []),
    (fun s => let x := s.sns sn
      if x.frame.isNone ∧ (x.prev ≠ some p.frame ∨ p.sof) then startFrame sn p.frame (p.sof && lower) at4 s
      else if x.frame = some p.frame ∧ p.sof ∧ lower ∧ !x.early ∧ !s.flag (Reg.SAL_SNS_STAT sn) Fld.SAL_SNS_STAT.TS_VALID
      then keepStamp sn at4 else []),
    (fun s => let x := s.sns sn
      if x.frame.isNone then salDrop n [127]
      else acts [
        if x.early then fun _ => [] else if p.sub = 0 then takeRaw n sn p else takeMeta sn p,
        if p.eof then takeEof n sn else fun _ => []] s)] s

/-- R168 to R184: a packet on a SAL port. at4 is the device time in 1/4 ns at which the first bit of its START block passed
the receive boundary, corrected by the lane's deskew (R182); framing says that a sync header, the block count or the START
or TERMINATE was wrong; full names a lane whose FIFO dropped a word of it (R64). -/
def actSalPacket (n : Fin 4) (framing : Bool) (full : Option (Fin 8)) (at4 : Nat) (bytes : Bytes) : Act :=
  salReceive n framing full bytes (takePkt n at4)

def execSalPacket (n : Fin 4) (framing : Bool) (full : Option (Fin 8)) (at4 : Nat) (bytes : Bytes) (s : State) :
    Host.Outcome State Fault Refusal := (actSalPacket n framing full at4 bytes).outcome s

/-- R177, R178: the late half is filled up to the half that has passed it. -/
def actSalPairWaitTimeout (sn : Fin 8) : Act := fun s =>
  let x := s.sns sn
  if x.frame.isNone ∨ x.early ∨ !snsPair s sn then [] else
  let m := max x.lo.line x.hi.line
  let half := snsWidth s sn / 2
  acts [eff [effSns sn fun x => { x with
      lo := if x.lo.line < m then { x.lo with line := m, col := 0 } else x.lo,
      hi := if x.hi.line < m then { x.hi with line := m, col := half } else x.hi }],
    deliverReady sn] s

def execSalPairWaitTimeout (sn : Fin 8) (s : State) : Host.Outcome State Fault Refusal := (actSalPairWaitTimeout sn).outcome s

/-- R179: the frame ends and is filled. -/
def actSalFrameTimeout (sn : Fin 8) : Act := endFrame sn

def execSalFrameTimeout (sn : Fin 8) (s : State) : Host.Outcome State Fault Refusal := (actSalFrameTimeout sn).outcome s

/-- R190: a lane loses block lock. -/
def actSalBlockLockLost (n : Fin 4) (k : Fin 8) : Act := fun s =>
  if !salEn s n ∨ salMode s n ≠ 2 then [] else
  acts [eff ([.fld (Reg.SAL_LANE_ALIGN (8 * n + k)) Fld.SAL_LANE_ALIGN.BLOCK_LOCK 0, .fld (Reg.SAL_PORT_STAT n) ⟨k, k⟩ 0] ++
      salDown n ++ [.raise (120 + n), .fld (Reg.SAL_PORT_CTRL n) Fld.SAL_PORT_CTRL.MODE 1, .emit (.packet 0 n trainBlock)]),
    actsFor ((List.range 8).filter fun sn => snsOn s sn n) endFrame] s

def execSalBlockLockLost (n : Fin 4) (k : Fin 8) (s : State) : Host.Outcome State Fault Refusal :=
  (actSalBlockLockLost n k).outcome s

/-! ### Back channel (R185 to R187) -/

/-- A control message sent on a port, with the next PKT_SEQ. -/
def salSend (n : Nat) (c : BcCmd) : Act := fun s =>
  [.emit (.packet 0 n (buildPkt (24 + c.sensor) c.kind (s.sal n).txSeq c.packet)),
   effSal n fun p => { p with txSeq := (p.txSeq + 1) % 65536, bc := some { c with sent := c.sent + 1 } }]

/-- The checks and effects that both back-channel commands share; kind 1 writes, 2 reads. -/
def bcReply (c : Svc) (s : State) (kind unit : Nat) : Reply :=
  let sn := c.n 0 1
  let cnt := c.n 2 2
  let n := snsPort s sn
  checks [(c.cmd.len < 4 || c.cmd.len != 4 + unit * cnt, ST_BAD_LENGTH), c.notF0, (7 < sn || !snsBound s sn, ST_BAD_PARAM),
    c.rsv 1 1, (cnt == 0 || 64 < cnt, ST_BAD_PARAM), (!salReady s n || (s.sal n).bc.isSome, ST_BUSY)]
    (.pending (acts [eff [effSal n fun p => { p with tag := (p.tag + 1) % 65536 }],
      salSend n ⟨(s.sal n).tag, c.f, ticketId c.f (s.mbx c.f).nextTicket, kind, sn, cnt,
        leBytes 2 (s.sal n).tag ++ leBytes 2 cnt ++ c.cmd.payload.drop 4, 0⟩]))

/-- R185 to R187. -/
def hSalBcWrite (c : Svc) (s : State) : Reply := bcReply c s 1 8
def hSalBcRead (c : Svc) (s : State) : Reply := bcReply c s 2 4

def execSalBcWrite (s : State) : Host.Outcome State Fault Refusal := (turn 0x200 hSalBcWrite).outcome s
def execSalBcRead (s : State) : Host.Outcome State Fault Refusal := (turn 0x201 hSalBcRead).outcome s

/-- The outstanding command of a port ends. -/
def bcDone (n : Nat) (c : BcCmd) (status : Nat) (result : Bytes) : Act := acts [
  eff [effSal n fun p => { p with bc := none }], completeTicket c.owner c.ticket status result]

/-- R185, R187: a reply with the outstanding tag completes the command; any other is dropped (R184). -/
def takeReply (n : Nat) (p : SalPkt) : Act := fun s =>
  if p.sub ≠ 3 then [] else
  match (s.sal n).bc with
  | none => salDrop n []
  | some c =>
    let status := fieldN p.payload 2 2
    if fieldN p.payload 0 2 ≠ c.tag ∨ p.format ≠ 0x80 + c.kind ∨ bitOf p.flags 7 ∨ p.rsv ≠ 0 ∨
        (c.kind = 2 ∧ status = 0 ∧ p.payload.length ≠ 4 + 4 * c.count) then salDrop n []
    else bcDone n c (if status = 0 then ST_OK else ST_BAD_PARAM)
      (leBytes 2 status ++ [0, 0] ++ (if c.kind = 2 then p.payload.drop 4 else [])) s

def actSalCtrlReply (n : Fin 4) (bytes : Bytes) : Act := salReceive n false none bytes (takeReply n)

def execSalCtrlReply (n : Fin 4) (bytes : Bytes) (s : State) : Host.Outcome State Fault Refusal := (actSalCtrlReply n bytes).outcome s

/-- R185: no reply in time; the message is sent again, up to two more times, then the command fails. -/
def actSalBcTimeout (n : Fin 4) : Act := fun s =>
  match (s.sal n).bc with
  | none => []
  | some c => if c.sent < 3 then salSend n c s else acts [bcDone n c ST_TIMEOUT [], eff [.raise 126]] s

def execSalBcTimeout (n : Fin 4) (s : State) : Host.Outcome State Fault Refusal := (actSalBcTimeout n).outcome s

/-- The answer of SAL_FRAME_INFO. -/
def infoBytes (sn : Nat) (i : FrameInfo) : Bytes :=
  leBytes 4 i.frame ++ leBytes 4 ((if i.incomplete then 1 else 0) + (if i.sizeErr then 2 else 0) + (if i.early then 4 else 0) +
    (if i.metaTrunc then 8 else 0) + (if i.tsValid then 16 else 0)) ++ timeBytes i.ts ++
  leBytes 8 (metaRing sn 0 + 65536 * (i.frame % 8)) ++ leBytes 4 i.metaLen ++
  leBytes 8 (metaRing sn 1 + 65536 * (i.frame % 8)) ++ leBytes 4 i.statLen

/-- R187. -/
def hSalFrameInfo (c : Svc) (s : State) : Reply :=
  let sn := c.n 0 1
  let f := c.n 4 4
  let l := (s.sns sn).info
  checks [c.badLen 8, c.notF0, (7 < sn || !snsBound s sn, ST_BAD_PARAM), c.rsv 1 3] (
    match (if f = 0xFFFFFFFF then l.head? else l.find? fun i => i.frame == f) with
    | some i => .ok (infoBytes sn i) (fun _ => [])
    | none => .refuse ST_NO_CONTEXT)

def execSalFrameInfo (s : State) : Host.Outcome State Fault Refusal := (turn 0x202 hSalFrameInfo).outcome s

end Sys2Proof.Machine
end

