-- ==== Sys2Proof/Machine/Lanes.lean ====
section
/-! DEFINITION. Serial lanes and package links (chapter 20; rows LAN_CTRL_TEST_WRITE to XPL_ROUTE_REBUILD, XPL_LINK_LOCK_LOST,
PRBS_LOCK and PRBS_LOCK_LOSS). -/
namespace Sys2Proof.Machine

/-! ### Who holds a lane (R669 to R671) -/

def ethLanes (mode : Nat) : Nat := [1, 4, 2, 4, 8].getD mode 0

/-- An enabled user of lanes: owner code of LAN_STAT, its port or link, first lane, lanes, rate code. -/
structure LaneUser where
  owner : Nat
  index : Nat
  first : Nat
  count : Nat
  rate : Nat
  deriving DecidableEq, Repr

/-- Users of the flexible lanes under a reading of parameters (R159, R323, R482). -/
def laneUsers (rd : Nat → Nat) : List LaneUser :=
  ((List.range 4).filterMap fun p =>
    let c := rd (Prm.ETH_PORT_CFG p)
    if bitOf c 31 then some ⟨4, p, 8 * (c % 32), ethLanes (bitsOf c 18 16), if bitsOf c 18 16 < 2 then 2 else 4⟩ else none) ++
  ((List.range 4).filterMap fun p =>
    let c := rd (Prm.SAL_PORT_CFG p)
    if bitOf c 31 then some ⟨5, p, 8 * (c % 32), bitsOf c 11 8, if bitOf c 16 then 5 else 3⟩ else none) ++
  ((List.range 64).filterMap fun l =>
    let c := rd (Prm.TLK_LINK_CFG l)
    if bitOf c 31 then some ⟨6, l, c % 256, if bitOf c 20 then 2 else 1, if bitOf c 24 then 2 else 1⟩ else none)

def usesLane (n : Nat) (u : LaneUser) : Bool := decide (u.first ≤ n) && decide (n < u.first + u.count)

def xplEn (s : State) (x : Nat) : Bool := bitOf (s.pn (Prm.XPL_CFG x)) 31

/-- The user of a lane: PCIe and XPL lanes have theirs by position. -/
def laneUser (s : State) (n : Nat) : Option LaneUser :=
  if n < 16 then some ⟨1, 0, 0, 16, 7⟩
  else if n < 32 then some ⟨2, 0, 16, 16, 7⟩
  else if n < 64 then (if xplEn s ((n - 32) / 8) then some ⟨3, (n - 32) / 8, 32 + (n - 32) / 8 * 8, 8, 6⟩ else none)
  else (laneUsers s.pn).find? (usesLane n)

/-- Line rates in use in an octet, in order of lane. -/
def octetRates (us : List LaneUser) (o : Nat) : List Nat :=
  ((List.range 8).filterMap fun k => (us.find? (usesLane (8 * o + k))).map (·.rate)).eraseDups

/-- Owners, rates and PLLs follow the configuration in force; a lane put into service loses its test fields (R670, R678). -/
def syncLanes : Act := fun s =>
  let us := laneUsers s.pn
  let lanes := (List.range 160).flatMap fun n =>
    let u := if n < 64 then laneUser s n else us.find? (usesLane n)
    let owner := match u with | some u => u.owner | none => 0
    [.fld (Reg.LAN_STAT n) Fld.LAN_STAT.OWNER owner,
     .fld (Reg.LAN_STAT n) Fld.LAN_STAT.RATE (match u with | some u => u.rate | none => 0)] ++
    (if owner ≠ 0 ∧ s.fld (Reg.LAN_STAT n) Fld.LAN_STAT.OWNER = 0
     then [Eff.reg (Reg.LAN_CTRL n) 0, .fld (Reg.LAN_STAT n) Fld.LAN_STAT.PRBS_LOCK 0] else [])
  let plls := (List.range 12).flatMap fun i =>
    let r := octetRates us (i + 8)
    let off := Reg.LAN_OCTET_STAT (i + 8)
    [Eff.fld off Fld.LAN_OCTET_STAT.PLL0_RATE (r.getD 0 0), .fld off Fld.LAN_OCTET_STAT.PLL1_RATE (r.getD 1 0),
     .fld off Fld.LAN_OCTET_STAT.PLL0_LOCK (if r.length = 0 then 0 else 1), .fld off Fld.LAN_OCTET_STAT.PLL1_LOCK (if r.length < 2 then 0 else 1)]
  lanes ++ plls

/-! ### Test patterns and loopbacks (R678 to R680) -/

/-- LAN_INVERTED counts the lanes with RX_INVERTED. -/
def syncInverted : Act := fun s =>
  [.prm Prm.LAN_INVERTED (w32 ((List.range 160).countP fun n => s.flag (Reg.LAN_STAT n) Fld.LAN_STAT.RX_INVERTED))]

/-- R673, R678: a write of the test fields. A checker whose pattern changes starts anew. -/
def actLanCtrlTestWrite (n : Fin 160) (v : Word) : Act := fun s =>
  let w := v &&& regMask (Reg.LAN_CTRL n)
  if n.val < 32 then []
  else if (laneUser s n).isSome then (if w = 0 then [] else [.fld (Reg.LAN_STAT n) Fld.LAN_STAT.TEST_REFUSED 1])
  else .reg (Reg.LAN_CTRL n) w ::
    (if getFld w Fld.LAN_CTRL.PRBS_CHK = s.fld (Reg.LAN_CTRL n) Fld.LAN_CTRL.PRBS_CHK then [] else [.fld (Reg.LAN_STAT n) Fld.LAN_STAT.PRBS_LOCK 0])

def execLanCtrlTestWrite (n : Fin 160) (v : Word) (s : State) : Host.Outcome State Fault Refusal := (actLanCtrlTestWrite n v).outcome s

/-- R679: the checker locks, on the pattern or its complement. -/
def actPrbsLock (n : Fin 160) (inverted : Bool) : Act := fun s =>
  if s.fld (Reg.LAN_CTRL n) Fld.LAN_CTRL.PRBS_CHK = 0 then [] else
  acts [eff [.fld (Reg.LAN_STAT n) Fld.LAN_STAT.PRBS_LOCK 1, .fld (Reg.LAN_STAT n) Fld.LAN_STAT.SIGNAL 1, .fld (Reg.LAN_STAT n) Fld.LAN_STAT.CDR_LOCK 1,
    .fld (Reg.LAN_STAT n) Fld.LAN_STAT.RX_INVERTED (if inverted then 1 else 0)], syncInverted] s

def execPrbsLock (n : Fin 160) (inverted : Bool) (s : State) : Host.Outcome State Fault Refusal := (actPrbsLock n inverted).outcome s

/-- R679: a locked checker loses lock; bits and errs are what it received and found wrong while it was locked. -/
def actPrbsLockLoss (n : Fin 160) (bits errs : Nat) : Act := fun s =>
  if !s.flag (Reg.LAN_STAT n) Fld.LAN_STAT.PRBS_LOCK then [] else
  setReg64 (Reg.LAN_PRBS_BITS_LO n) ((s.rd64 (Reg.LAN_PRBS_BITS_LO n) + bits) % 2 ^ 64) ++
  [.inc (Reg.LAN_PRBS_ERRS n) Fld.LAN_PRBS_ERRS.ERRS errs, .inc (Reg.LAN_STAT n) Fld.LAN_STAT.LOCK_LOSSES 1,
   .fld (Reg.LAN_STAT n) Fld.LAN_STAT.PRBS_LOCK 0]

def execPrbsLockLoss (n : Fin 160) (bits errs : Nat) (s : State) : Host.Outcome State Fault Refusal := (actPrbsLockLoss n bits errs).outcome s

/-- R691. -/
def hLanEyeScan (c : Svc) (s : State) : Reply :=
  let n := c.n 0 1
  checks [c.badLen 4, c.notF0, (159 < n || c.n 1 1 < 20 || 36 < c.n 1 1, ST_BAD_PARAM), c.rsv 2 2,
    (n < 32 || !s.flag (Reg.LAN_STAT n) Fld.LAN_STAT.CDR_LOCK, ST_NO_CONTEXT)] (.pending fun _ => [])

def execLanEyeScan (s : State) : Host.Outcome State Fault Refusal := (turn 0x1200 hLanEyeScan).outcome s

/-- The grid of a scan: 33 by 33 counts of two bytes. -/
def workEyeScan (grid : Bytes) : Reply := .ok (field grid 0 2178) fun _ => []

/-- R681: a lane loses its signal. The event is that of the protocol it carries. -/
def actLaneLos (n : Fin 160) : Act := acts [
  eff [.inc (Reg.LAN_OVF n) Fld.LAN_OVF.LOS_EVENTS 1, .count Prm.LAN_LOS_TOTAL 1, .fld (Reg.LAN_STAT n) Fld.LAN_STAT.SIGNAL 0,
    .fld (Reg.LAN_STAT n) Fld.LAN_STAT.CDR_LOCK 0, .fld (Reg.LAN_STAT n) Fld.LAN_STAT.RX_INVERTED 0, .fld (Reg.LAN_STAT n) Fld.LAN_STAT.PRBS_LOCK 0],
  syncInverted,
  fun s => match laneUser s n with
    | some u =>
      if u.owner = 4 then [.raise (80 + u.index)]
      else if u.owner = 5 then salDown u.index ++ [.raise (120 + u.index)]
      else if u.owner = 6 then acts [linkDown u.index, syncTlk] s
      else []
    | none => []]

def execLaneLos (n : Fin 160) (s : State) : Host.Outcome State Fault Refusal := (actLaneLos n).outcome s

/-! ### XPL links (R682, R683) -/

def XplLink.init : XplLink := ⟨none, false, 0, false, 0, 0, 0, [], .empty, 0⟩
def State.xpl (s : State) (x : Nat) : XplLink := s.lan.links.getD x XplLink.init
def effXpl (x : Nat) (g : XplLink → XplLink) : Eff := .lan fun l => { l with links := l.links.upd x XplLink.init g }

def ownPkg (s : State) : Nat := s.fld Reg.HUB_TOPOLOGY Fld.HUB_TOPOLOGY.PKG_ID
def xplUp (s : State) (x : Nat) : Bool := s.flag (Reg.XPL_LINK_STAT x) Fld.XPL_LINK_STAT.UP
def xplGood (s : State) (x : Nat) : Nat := s.fld (Reg.XPL_LINK_STAT x) Fld.XPL_LINK_STAT.GOOD_LANES
def xplWidth (s : State) (x : Nat) : Nat := s.fld (Reg.XPL_LINK_STAT x) Fld.XPL_LINK_STAT.WIDTH
def retraining (s : State) (x : Nat) : Bool := s.flag (Reg.XPL_LINK_STAT x) Fld.XPL_LINK_STAT.RETRAINING

/-- Lanes marked good. -/
def goodCount (good : Nat) : Nat := (List.range 8).countP (bitOf good)

/-- The largest width of 8, 4, 2 and 1 that is no more than a number (R683). -/
def widthUpTo (n : Nat) : Nat := if 8 ≤ n then 8 else if 4 ≤ n then 4 else if 2 ≤ n then 2 else min n 1

/-- The width this end proposes. -/
def proposal (s : State) (x good : Nat) : Nat := widthUpTo (min (goodCount good) (bitsOf (s.pn (Prm.XPL_CFG x)) 3 0))

/-- A flit sent on a link, of a class; it stays in the replay buffer of 1,024 until it is acknowledged (R682). -/
def xplSend (x cls : Nat) (bs : Bytes) : Act := fun s =>
  let q := (s.xpl x).txSeq
  [.emit (.packet 3 x (leBytes 1 cls ++ bs)), .count64 (Prm.XPL_FLITS_TX_LO x) 1,
   effXpl x fun l => { l with txSeq := (q + 1) % 65536, replay := (l.replay ++ [(q, leBytes 1 cls ++ bs)]).drop (l.replay.length + 1 - 1024) }]

/-- A link goes down: what waits on it is lost, and the event-record ring says so (R681, R690). -/
def xplDown (x : Nat) : Act := acts [
  eff [.fld (Reg.XPL_LINK_STAT x) Fld.XPL_LINK_STAT.UP 0, .fld (Reg.XPL_LINK_STAT x) Fld.XPL_LINK_STAT.WIDTH 0,
    .fld (Reg.XPL_LINK_STAT x) Fld.XPL_LINK_STAT.RETRAINING 0, .fld (Reg.XPL_LINK_CTRL x) Fld.XPL_LINK_CTRL.RETRAIN 0, .count (Prm.XPL_DOWN_EVENTS x) 1,
    effXpl x fun l => { l with request := none, retry := false, fails := 0, replay := [] }],
  nvsRecord 6 (leBytes 1 x)]

/-! ### Retrain and width change (R688 to R690) -/

/-- A request of this end: its proposed width, and whether it is a full retrain. -/
def xplRequest (x : Nat) (full : Bool) : Act := fun s =>
  if !xplEn s x || (s.xpl x).request.isSome || s.flag (Reg.XPL_LINK_STAT x) Fld.XPL_LINK_STAT.DUP_ID then [] else
  let w := proposal s x (xplGood s x)
  acts [eff [effXpl x (fun l => { l with request := some w, full := full, agreed := w }), .fld (Reg.XPL_LINK_STAT x) Fld.XPL_LINK_STAT.RETRAINING 1,
    .fld (Reg.XPL_LINK_CTRL x) Fld.XPL_LINK_CTRL.RETRAIN (if full then 1 else 0)],
    xplSend x 4 (leBytes 1 1 ++ leBytes 1 w ++ leBytes 1 (if full then 1 else 0))] s

/-- R688: RETRAIN. -/
def actXplRetrain (x : Fin 4) (v : Word) : Act := fun s => if getFld v Fld.XPL_LINK_CTRL.RETRAIN = 1 then xplRequest x true s else []

def execXplRetrain (x : Fin 4) (v : Word) (s : State) : Host.Outcome State Fault Refusal := (actXplRetrain x v).outcome s

/-- R688: the link loses lock. -/
def actXplLinkLockLost (x : Fin 4) : Act := xplRequest x true

def execXplLinkLockLost (x : Fin 4) (s : State) : Host.Outcome State Fault Refusal := (actXplLinkLockLost x).outcome s

/-- R688, R689: a request of the other end: answered, or a collision. -/
def actXplWidthRequest (x : Fin 4) (width : Nat) (full : Bool) : Act := fun s =>
  if !xplEn s x then [] else
  if (s.xpl x).request.isSome then
    let first := decide (ownPkg s < s.fld (Reg.XPL_LINK_STAT x) Fld.XPL_LINK_STAT.PEER_PKG)
    [effXpl x (fun l => { l with request := none, retry := first }), .fld (Reg.XPL_LINK_STAT x) Fld.XPL_LINK_STAT.COLLISION 1,
     .fld (Reg.XPL_LINK_CTRL x) Fld.XPL_LINK_CTRL.RETRAIN 0, .count (Prm.XPL_COLLISIONS x) 1]
  else
    let w := proposal s x (xplGood s x)
    acts [eff [effXpl x (fun l => { l with full := full, agreed := min width w, retry := false }), .fld (Reg.XPL_LINK_STAT x) Fld.XPL_LINK_STAT.RETRAINING 1],
      xplSend x 4 (leBytes 1 2 ++ leBytes 1 w ++ leBytes 1 (min width w))] s

def execXplWidthRequest (x : Fin 4) (width : Nat) (full : Bool) (s : State) : Host.Outcome State Fault Refusal :=
  (actXplWidthRequest x width full).outcome s

/-- R689: 10 µs after a collision, the end with the lower PKG_ID asks again with its proposal of the moment. -/
def actXplCollisionRetry (x : Fin 4) : Act := fun s =>
  if !(s.xpl x).retry then [] else acts [eff [effXpl x fun l => { l with retry := false }], xplRequest x (s.xpl x).full] s

def execXplCollisionRetry (x : Fin 4) (s : State) : Host.Outcome State Fault Refusal := (actXplCollisionRetry x).outcome s

/-- R690: what the replay buffer holds is sent again. -/
def replayAll (x : Nat) : Act := fun s =>
  let r := (s.xpl x).replay
  r.map (fun f => .emit (.packet 3 x f.2)) ++
  [.inc (Reg.XPL_LINK_ERRS x) Fld.XPL_LINK_ERRS.REPLAYS r.length, .count (Prm.XPL_REPLAYS x) r.length]

/-- R683, R688, R690: a retrain or width change ends. peer is the other end's proposal where this end asked, good the lanes that
training marks good. Three failures in a row take the link down. -/
def actXplRetrainDone (x : Fin 4) (ok : Bool) (peer : Nat) (good : BitVec 8) : Act := fun s =>
  if !retraining s x then [] else
  let k := s.xpl x
  if ok then
    let g := if k.full then good.toNat else xplGood s x
    let mine := min (proposal s x g) k.agreed
    let w := widthUpTo (if k.request.isSome then min mine peer else mine)
    let base := [.fld (Reg.XPL_LINK_STAT x) Fld.XPL_LINK_STAT.GOOD_LANES g, effXpl x (fun l => { l with request := none, fails := 0 }),
      .count (if k.full then Prm.XPL_RETRAINS x else Prm.XPL_WIDTH_CHANGES x) 1]
    if w = 0 then acts [eff base, xplDown x] s
    else acts [eff (base ++ [.fld (Reg.XPL_LINK_STAT x) Fld.XPL_LINK_STAT.WIDTH w, .fld (Reg.XPL_LINK_STAT x) Fld.XPL_LINK_STAT.UP 1,
        .fld (Reg.XPL_LINK_STAT x) Fld.XPL_LINK_STAT.RETRAINING 0, .fld (Reg.XPL_LINK_CTRL x) Fld.XPL_LINK_CTRL.RETRAIN 0] ++ (List.range 8).flatMap fun i =>
        if bitOf g i then [.fld (Reg.LAN_STAT (32 + 8 * x + i)) Fld.LAN_STAT.SIGNAL 1, .fld (Reg.LAN_STAT (32 + 8 * x + i)) Fld.LAN_STAT.CDR_LOCK 1] else []),
      replayAll x] s
  else if 2 ≤ k.fails then xplDown x s
  else [effXpl x fun l => { l with fails := l.fails + 1 }]

def execXplRetrainDone (x : Fin 4) (ok : Bool) (peer : Nat) (good : BitVec 8) (s : State) : Host.Outcome State Fault Refusal :=
  (actXplRetrainDone x ok peer good).outcome s

/-- Payload bits of a lane in a second, times 544 × 256 (R682). -/
def xplUtil (s : State) (x : Nat) : Nat :=
  let n := s.pn64 (Prm.XPL_FLITS_TX_LO x) - (s.xpl x).mark
  let w := xplWidth s x
  if w = 0 then 0 else min 1000 (n * 246 * 8 * 1000 * 544 * 256 / (112000000000 * 514 * 246 * w))

/-- R688: a second ends. Lanes over XPL_BER_MAX are bad, and the width changes; the utilisation of the second is shown, and what was
forwarded for the partner (R725). -/
def actXplBerWindow (x : Fin 4) : Act := fun s =>
  let k := s.xpl x
  let bad := (List.range 8).filter fun i => decide (s.pn Prm.XPL_BER_MAX < k.uncorr.getD i 0) && bitOf (xplGood s x) i
  let g := bad.foldl (fun g i => putBits g i i 0) (xplGood s x)
  acts [
    eff ([.prm (Prm.XPL_UTIL x) (w32 (xplUtil s x)), .fld (Reg.XPL_LINK_STAT x) Fld.XPL_LINK_STAT.GOOD_LANES g,
      effXpl x fun l => { l with uncorr := .empty, mark := s.pn64 (Prm.XPL_FLITS_TX_LO x) }] ++
      (if x.val = 0 then [.prm Prm.FLT_PAIR_FWD_MBS (w32 (s.flt.forwarded * 8 / 1000000)), .flt fun f => { f with forwarded := 0 }] else [])),
    if bad.isEmpty then eff [] else xplRequest x false] s

def execXplBerWindow (x : Fin 4) (s : State) : Host.Outcome State Fault Refusal := (actXplBerWindow x).outcome s

/-- R688: a bad lane that passes its check is good again. -/
def actXplRegrow (x : Fin 4) (lane : Fin 8) (passed : Bool) : Act := fun s =>
  if !passed ∨ bitOf (xplGood s x) lane then [] else
  acts [eff [.fld (Reg.XPL_LINK_STAT x) Fld.XPL_LINK_STAT.GOOD_LANES (putBits (xplGood s x) lane lane 1)], xplRequest x false] s

def execXplRegrow (x : Fin 4) (lane : Fin 8) (passed : Bool) (s : State) : Host.Outcome State Fault Refusal := (actXplRegrow x lane passed).outcome s

/-! ### Flits (R682, R684, R687) -/

/-- The class 1 route that a token of a package follows through this one (R44, R687). -/
def tokenRoute (s : State) (src dst : Nat) : Option Nat := (s.lan.routes.find? fun r => r.1 == src && r.2.1 == dst).map fun r => r.2.2

/-- A flit goes on toward its destination. -/
def xplForward (cls src dst : Nat) (payload : Bytes) : Act := fun s =>
  if cls = 1 then
    match tokenRoute s src dst with
    | none => []
    | some x => if xplUp s x then xplSend x cls payload s else [.count (Prm.XPL_CLASS_DROPS x) 1]
  else if s.flag (Reg.XPL_ROUTE dst) Fld.XPL_ROUTE.VALID then xplSend (s.fld (Reg.XPL_ROUTE dst) Fld.XPL_ROUTE.LINK) cls payload s
  else [.count Prm.XPL_UNROUTABLE 1]

/-- A flit for this package. Time, commands, mirror items, checkpoints and identities are rows of their own; lamp data of a broken
ring leaves by the B end (R725), and the pair's other messages take effect (R721, R726). A token is accepted for a committed route only (R44). -/
def xplDeliver (cls : Nat) (payload : Bytes) : Act := fun s =>
  let l := byteAt payload 1
  if cls = 2 ∧ byteAt payload 0 = 1 ∧ s.flag Reg.FLT_PAIR_STAT Fld.FLT_PAIR_STAT.EN ∧ linkPair s l ∧ linkReady s l
  then [.emit (.packet 1 l (payload.drop 2))]
  else if cls = 2 ∧ byteAt payload 0 ≠ 1 then pairMessage (byteAt payload 0) (payload.drop 1) s else []

/-- R682: a flit arrives with its sequence and an acknowledgement. One that fails its CRC after correction, or is out of order, is
asked for again. -/
def actXplFlit (x : Fin 4) (seq ack : Nat) (crcOk : Bool) (badLane : Option (Fin 8)) (cls dst src : Nat) (payload : Bytes) : Act := fun s =>
  if !xplUp s x then [] else
  let k := s.xpl x
  let uncorr := match badLane with
    | some i => [.inc (Reg.XPL_LINK_ERRS x) Fld.XPL_LINK_ERRS.FEC_UNCORR 1, .count (Prm.XPL_FEC_UNCORR x) 1,
        effXpl x fun l => { l with uncorr := l.uncorr.upd i 0 (· + 1) }]
    | none => []
  let again := Eff.emit (.packet 3 x (leBytes 1 4 ++ leBytes 1 3 ++ leBytes 2 k.rxSeq))
  if !crcOk then uncorr ++ [again]
  else
    let acked := effXpl x fun l => { l with replay := l.replay.filter fun f => decide (32768 ≤ (ack + 65536 - f.1) % 65536) }
    if seq % 65536 ≠ k.rxSeq then
      uncorr ++ [acked] ++ (if (seq + 65536 - k.rxSeq) % 65536 < 32768 then [again] else [])
    else acts [
      eff (uncorr ++ [acked, effXpl x fun l => { l with rxSeq := (l.rxSeq + 1) % 65536 }, .count64 (Prm.XPL_FLITS_RX_LO x) 1]),
      if dst = ownPkg s then xplDeliver cls payload else xplForward cls src dst payload] s

def execXplFlit (x : Fin 4) (seq ack : Nat) (crcOk : Bool) (badLane : Option (Fin 8)) (cls dst src : Nat) (payload : Bytes) (s : State) :
    Host.Outcome State Fault Refusal :=
  (actXplFlit x seq ack crcOk badLane cls dst src payload).outcome s

/-! ### Discovery and routing (R686, R687) -/

/-- The identity this end sends: PKG_ID, serial number and link number, then the neighbours it floods. -/
def xplIdentity (s : State) (x : Nat) : Eff :=
  .emit (.packet 3 x ([5] ++ leBytes 1 (ownPkg s) ++ leBytes 8 s.otp.serial ++ leBytes 1 x ++
    s.lan.graph.flatMap fun e => leBytes 1 e.1 ++ leBytes 1 e.2.1 ++ leBytes 1 e.2.2.1 ++ leBytes 1 e.2.2.2))

/-- R686: identities are exchanged, and the neighbour's list is taken into the graph. Two ends of one PKG_ID hold the link down. -/
def actXplDiscover (x : Fin 4) (peerPkg : Fin 16) (peerLink : Fin 4) (edges : List (Nat × Nat × Nat × Nat)) : Act := fun s =>
  if !xplEn s x then [] else
  xplIdentity s x :: if peerPkg.val = ownPkg s then
    [.fld (Reg.XPL_LINK_STAT x) Fld.XPL_LINK_STAT.DUP_ID 1, .fld (Reg.XPL_LINK_STAT x) Fld.XPL_LINK_STAT.UP 0,
     .fld (Reg.XPL_LINK_STAT x) Fld.XPL_LINK_STAT.WIDTH 0, .count Prm.XPL_DUP_IDS 1]
  else
    let keep := s.lan.graph.filter fun e => !edges.any fun n => n.1 == e.1
    [.fld (Reg.XPL_LINK_STAT x) Fld.XPL_LINK_STAT.PEER_PKG peerPkg, .fld (Reg.XPL_LINK_STAT x) Fld.XPL_LINK_STAT.PEER_LINK peerLink,
     .fld (Reg.XPL_LINK_STAT x) Fld.XPL_LINK_STAT.DUP_ID 0, .lan fun l => { l with graph := keep ++ edges.filter fun e => decide (e.1 < 16 ∧ e.2.2.1 < 16) }] ++
    (if xplWidth s x = 0 then [] else [.fld (Reg.XPL_LINK_STAT x) Fld.XPL_LINK_STAT.UP 1])

def execXplDiscover (x : Fin 4) (peerPkg : Fin 16) (peerLink : Fin 4) (edges : List (Nat × Nat × Nat × Nat)) (s : State) :
    Host.Outcome State Fault Refusal :=
  (actXplDiscover x peerPkg peerLink edges).outcome s

/-- Links of this package that lead somewhere: link and neighbour. -/
def xplLive (s : State) : List (Nat × Nat) :=
  ((List.range 4).filter fun x => xplUp s x && !s.flag (Reg.XPL_LINK_STAT x) Fld.XPL_LINK_STAT.DUP_ID).map fun x =>
    (x, s.fld (Reg.XPL_LINK_STAT x) Fld.XPL_LINK_STAT.PEER_PKG)

/-- Edges between two packages, in both directions: those of others as flooded, and the live links of this one. -/
def xplEdges (s : State) : List (Nat × Nat) :=
  let me := ownPkg s
  let e := ((s.lan.graph.filter fun e => e.1 != me && e.2.2.1 != me).map fun e => (e.1, e.2.2.1)) ++ (xplLive s).map fun l => (me, l.2)
  e ++ e.map fun p => (p.2, p.1)

/-- Hop counts from a package, after n rounds: an entry over 15 is unreached. -/
def hopRounds (edges : List (Nat × Nat)) : Nat → List Nat → List Nat
  | 0, d => d
  | n + 1, d => hopRounds edges n ((List.range 16).map fun i => edges.foldl (fun m e => if e.2 = i then min m (d.getD e.1 99 + 1) else m) (d.getD i 99))

def hopsFrom (s : State) (src : Nat) : List Nat := hopRounds (xplEdges s) 16 ((List.range 16).map fun i => if i = src then 0 else 99)

/-- The route to a destination: hops and the lowest link on a shortest path (R687). -/
def routeTo (s : State) (d : Nat) : Option (Nat × Nat) :=
  let h := (hopsFrom s (ownPkg s)).getD d 99
  if d = ownPkg s then some (0, 0)
  else if 15 < h then none
  else ((xplLive s).find? fun l => (hopsFrom s l.2).getD d 99 + 1 == h).map fun l => (h, l.1)

/-- XPL_TOPOLOGY: a ring has two links at each package, a 4 × 4 torus four at each of 16. -/
def topologyCode (s : State) (pkgs : List Nat) : Nat :=
  let deg := fun p => (xplEdges s).countP fun e => e.1 == p
  if pkgs.length ≤ 1 then 0
  else if pkgs.length = 16 ∧ pkgs.all (fun p => deg p == 4) then 2
  else if pkgs.all (fun p => deg p == 2) then 1 else 3

/-- R687, R42, R535: the table is built anew; packages that are no longer reached are lost to the time exchange, and the pair's
protection with its partner (R721). -/
def actXplRouteRebuild : Act := fun s =>
  let r := (List.range 16).map fun d => (d, routeTo s d)
  let pkgs := (r.filter fun x => x.2.isSome).map (·.1)
  acts [
    eff (r.flatMap (fun x => match x.2 with
        | some (h, l) => [.fld (Reg.XPL_ROUTE x.1) Fld.XPL_ROUTE.VALID 1, .fld (Reg.XPL_ROUTE x.1) Fld.XPL_ROUTE.LOCAL (if x.1 = ownPkg s then 1 else 0),
            .fld (Reg.XPL_ROUTE x.1) Fld.XPL_ROUTE.LINK l, .fld (Reg.XPL_ROUTE x.1) Fld.XPL_ROUTE.HOPS h]
        | none => [.reg (Reg.XPL_ROUTE x.1) 0]) ++
      [.fld Reg.HUB_TOPOLOGY Fld.HUB_TOPOLOGY.PKG_COUNT pkgs.length, .prm Prm.XPL_PKGS (w32 ((pkgs.map (2 ^ ·)).foldl (· + ·) 0)),
       .prm Prm.XPL_TOPOLOGY (w32 (topologyCode s pkgs)), .count Prm.XPL_REROUTES 1]),
    actsFor ((s.tim.peers.entries.filter fun e => e.2.reachable && !pkgs.contains e.1).map (·.1)) peerLost,
    fun s => if s.flag Reg.FLT_PAIR_STAT Fld.FLT_PAIR_STAT.EN ∧ !partnerReached s then [.fld Reg.FLT_PAIR_STAT Fld.FLT_PAIR_STAT.PROTECTED 0] else []] s

def execXplRouteRebuild (s : State) : Host.Outcome State Fault Refusal := actXplRouteRebuild.outcome s

end Sys2Proof.Machine
end

