-- ==== Sys2Proof/Machine/LatchPlan.lean ====
section
/-! DEFINITION. What firmware computes of latches at a commit: packet times, the sensor lines a band needs, latch offsets and the
delay from glass to lamp (R77, R398, R484, R559). -/
namespace Sys2Proof.Machine

/-- Time of a 66-bit block on a link in 0.01 ns (R482, R484). -/
def blockTime (s : State) (l : Nat) : Nat := (if bitOf (linkCfg s l) 24 then 256 else 640) / linkLanes s l

/-- Blocks of the packets of one row of a tile (R486, R490). -/
def rowBlocks (e : Bytes) : Nat :=
  let n := min 1024 (4096 / max 1 (tlEmit e))
  let one := fun c => 2 + (16 + 2 * c * tlEmit e + 7) / 8
  tlCols e / n * one n + (if tlCols e % n = 0 then 0 else one (tlCols e % n))

/-- Tiles of a list on a link. -/
def onLink (s : State) (ts : List Nat) (l : Nat) : List Nat :=
  ts.filter fun t => let e := mqTile s.mqt t; tlLink e == l && !tlDdp e

/-- Packet times of the last rows of some tiles on their busiest link, in 0.01 ns. -/
def lastRows (s : State) (ts : List Nat) : Nat :=
  ((List.range 64).map fun l => blockTime s l * ((onLink s ts l).map fun t => rowBlocks (mqTile s.mqt t)).foldl (· + ·) 0).foldl max 0

/-- Largest hop of some tiles. -/
def maxHop (s : State) (ts : List Nat) : Nat :=
  (ts.map fun t => let e := mqTile s.mqt t; if tlDdp e then 0 else tlHop e).foldl max 0

/-- R484: the wire time of a latch's lamp data of a link and 5 % more exceed the shortest display interval of its tiles. -/
def linkTooSlow (s : State) (l : Nat) : Bool :=
  let ts := onLink s ((tiles s).filter fun t => tlEn (mqTile s.mqt t)) l
  let blocks := (ts.map fun t => let e := mqTile s.mqt t; tlRows e * rowBlocks e).foldl (· + ·) 0
  ts.any fun t => decide (minInterval s (tlGroup (mqTile s.mqt t)) * 10000 < blocks * blockTime s l * 105 * 65536)

/-- Output rows that a tile's lamps need of a layer's source (R383). -/
def layerRows (s : State) (b e : Bytes) (c : LayerSrc) : List Nat :=
  let k := filterOf e b c
  let n := areaTaps (sigma e b c true)
  (tileLamps e).flatMap fun p =>
    let q := lampPos s.mqt e p.1 p.2
    if clipHolds s b q then
      ((taps k n (srcCoord (lySrc b 1) (lyDst b 1) (srcH b c) (lyDst b 3) (lyFlipY b) q.2)).filter (·.2 != 0)).map fun t =>
        (clampI 0 ((c.h : Int) - 1) t.1).toNat
    else []

/-- First and last crop line that output line k comes from (R256, R257). -/
def cropLines (g : OutGeo) (k : Nat) : Int × Int :=
  if g.ho = g.hc then (k, k)
  else if 2 * g.ho < g.hc then ((k * g.hc / g.ho : Nat), ((((k + 1) * g.hc + g.ho - 1) / g.ho - 1 : Nat) : Int))
  else let p := posOf g.hc g.ho k / 65536
       let v := fmtVtaps g.fmt / 2
       (p - v + 1, p + v)

/-- First and last sensor line behind output line k: with the windows of demosaic and of the front end (R75, R197). -/
def sensorLines (s : State) (g : OutGeo) (k : Nat) : Nat × Nat :=
  let c := cropLines g k
  let w : Int := rfeLines (s.pn (Prm.RFE_EN g.sensor)) + 3
  let top : Int := snsHeight s g.sensor - 1
  let at' := fun (x : Int) => (clampI 0 ((g.hc : Int) - 1) x) + g.y0
  ((clampI 0 top (at' c.1 - w)).toNat, (clampI 0 top (at' c.2 + w)).toNat)

/-- First and last sensor line that some tiles need through a camera layer, with the sensor; none where they sample none. -/
def layerSpan (s : State) (ts : List Nat) (x : Nat × Bytes) : Option (Nat × Nat × Nat) :=
  match layerPlan s x.1 x.2 with
  | none => none
  | some c =>
    let rows := ts.flatMap fun t => layerRows s x.2 (mqTile s.mqt t) c
    match rows with
    | [] => none
    | r :: t =>
      let g := geoOf s s.pn (lyIndex x.2)
      some (g.sensor, (sensorLines s g (t.foldl min r)).1, (sensorLines s g (t.foldl max r)).2)

/-- Camera layers of a group. -/
def groupCameras (s : State) (g : Nat) : List (Nat × Bytes) := (layersOf s g).filter fun x => lyKind x.2 == 2

/-- The part of an offset that does not come of the picture, in ns (R77, R398). -/
def offsetTail (s : State) (g : Nat) (ts : List Nat) : Nat :=
  (lastRows s ts + 99) / 100 + s.pn (Prm.GRP_HOP_NS g) * maxHop s ts + s.pn (Prm.GRP_LATCH_MARGIN_NS g)

/-- Time in ns at which the last lamp word behind a sensor line has left the core: the line's readout and transit (R73). -/
def lineDone (s : State) (sn line : Nat) : Nat := (line + 1) * lineNs s sn + 250

/-- R77: the raster offset of a group in ns. Its first term comes of the group's camera layers as the worked example shows; where it
has none the spec gives no formula, and the term is free (notes/assumptions/72). -/
def rasterOffset (s : State) (g : Nat) : Nat :=
  let ts := groupTiles s g
  let spans := (groupCameras s g).filterMap (layerSpan s ts)
  let first := match spans with
    | [] => Config.freeAt 72 [g, s.pn (Prm.GRP_MODE g), grpMin s g, ts.length, layerDepth s g]
    | _ => (spans.map fun x => lineDone s x.1 x.2.2).foldl max 0
  first + offsetTail s g ts

/-- The chase layer of a group, if it is a camera layer of the group. -/
def chaseLayer (s : State) (g : Nat) : Option (Nat × Bytes) := (groupCameras s g).find? fun x => x.1 == grpChase s g

/-- Bands of a group. -/
def groupBands (s : State) (g : Nat) : List Nat := ((groupTiles s g).map fun t => tlBand (mqTile s.mqt t)).eraseDups

def bandTiles (s : State) (g b : Nat) : List Nat := (groupTiles s g).filter fun t => tlBand (mqTile s.mqt t) == b

/-- R398: the latch offset of a band of a chase group in ns. -/
def bandOffset (s : State) (g b : Nat) : Nat :=
  let ts := bandTiles s g b
  match (chaseLayer s g).bind (layerSpan s ts) with
  | some x => lineDone s x.1 x.2.2 + offsetTail s g ts
  | none => rasterOffset s g

/-- Latch offsets in force: the raster offset, and the bands' where the group is in chase mode. -/
def latchOffset (s : State) (g : Nat) : Nat := s.pn (Prm.GRP_LATCH_OFFSET_NS g)

/-- R559: glass to lamp of a group in ns. -/
def glassToLamp (s : State) (g : Nat) : Nat :=
  let one := fun ts off (l : List (Nat × Bytes)) =>
    match l.filterMap (layerSpan s ts) with
    | [] => none
    | x :: t => some ((off : Nat) - ((t.foldl (fun a y => if y.2.1 < a.2.1 then y else a) x).2.1 * lineNs s x.1))
  let all := if grpMode s g = 2
    then (groupBands s g).filterMap fun b => one (bandTiles s g b) (bandOffset s g b) (chaseLayer s g).toList
    else (one (groupTiles s g) (rasterOffset s g) (groupCameras s g)).toList
  match all with
  | [] => rasterOffset s g
  | _ => all.foldl max 0

end Sys2Proof.Machine
end

