-- ==== Sys2Proof/Machine/CommitCheck.lean ====
section
/-! DEFINITION. What firmware checks of a commit before it arms it (R116, R119), against the configuration that the commit would
leave: rights, ports and lanes, sensors, outputs, rules, layers, groups, tile links, schedules, placement and the throttle. -/
namespace Sys2Proof.Machine

/-! ### The configuration a commit would leave -/

/-- The effect of one staged item on the set in force. -/
def itemEff : Staged → Eff
  | .prm id v => .prm id v
  | .obj k i d => .obj k i (if k = K_SWITCH then none else d)

/-- The triads that a list of items enables or disables. -/
def triadItems (items : List Staged) : List (Nat × Bool) :=
  (List.range 2).filterMap fun t => (stagedPrm items (Prm.TRI_SRC t)).map fun v => (t, srcEn v.toNat)

/-- R278, R279: ownership of triads follows the items of a commit of function f. -/
def triadClaims (f : Nat) (items : List Staged) : Act := fun s =>
  (triadItems items).flatMap fun x =>
    if x.2 then [.prm (Prm.TRI_OWNER x.1) (w32 (2 ^ 31 + f))]
    else if triadOwner s x.1 = some f then [.prm (Prm.TRI_OWNER x.1) 0] else []

/-- The items of a commit applied to the set. -/
def applyItems (f : Nat) (items : List Staged) : Act := acts [eff (items.map itemEff), triadClaims f items]

/-- Principal of a commit by its key: mirrored commits are kept under 128 times their sequence and 1, and their principal. -/
def commitOwner (key : Nat) : Nat := key % 128

/-- Commits placed by their order of validation. -/
def insertCommit (x : Nat × Commit) : List (Nat × Commit) → List (Nat × Commit)
  | [] => [x]
  | y :: t => if x.2.order < y.2.order then x :: y :: t else y :: insertCommit x t

/-- Commits validated and not yet applied, in the order of their validation (R119). -/
def validated (s : State) : List (Nat × Commit) :=
  (s.arm.commits.entries.filter fun e => e.2.order != 0).foldl (fun l e => insertCommit e l) []

/-- The configuration in force with every validated commit applied (R119). -/
def planned (s : State) : State := (actsFor (validated s) fun e => applyItems (commitOwner e.1) e.2.items).run s

/-! ### Rights (R111, R116, R144) -/

/-- The right that an item needs besides F0. -/
def itemRight : Staged → Option Nat
  | .prm id _ => prmRight id
  | .obj k i _ =>
    if k = K_CC then (if (ccTriad (i / 32) (i % 32)).isSome then some R_TRIAD else none)
    else if k = K_RULE then some R_STREAM
    else if k = K_LAYER then some R_WINDOW
    else if k = K_PAT ∨ k = K_LIBMAP ∨ k = K_SWITCH then some R_CAL
    else none

def mayHold (s : State) (f : Nat) (x : Staged) : Bool :=
  f == 0 || (match itemRight x with | some r => s.holds f r | none => false)

/-! ### Ports and lanes (R162, R324, R482, R484, R671) -/

def salBad (s : State) : Bool :=
  let on := (List.range 4).filter (salEn s)
  on.any (fun p => let c := s.pn (Prm.SAL_PORT_CFG p)
    decide (c % 32 < 8 ∨ 19 < c % 32 ∨ bitsOf c 11 8 = 0 ∨ 8 < bitsOf c 11 8)) ||
  decide (32 < (on.map fun p => bitsOf (s.pn (Prm.SAL_PORT_CFG p)) 11 8).foldl (· + ·) 0)

def ethBad (s : State) : Bool := (List.range 4).any fun p =>
  let c := s.pn (Prm.ETH_PORT_CFG p)
  bitOf c 31 && decide (c % 32 < 8 ∨ 19 < c % 32 ∨ 4 < bitsOf c 18 16)

/-- R482 to R484: the lanes of a link, and its partner on the same package: configured for a ring with it, and at most one of the
two carries tiles. -/
def linkBad (s : State) (l : Nat) : Bool :=
  let c := linkCfg s l
  let first := c % 256
  let p := linkPartner s l
  linkEn s l && (decide (first < 64 ∨ 159 < first) || (bitOf c 20 && first % 2 == 1) ||
    (linkRing s l && !linkPair s l && (p == l || !linkEn s p || !linkRing s p || linkPair s p || linkPartner s p != l ||
      (chainLen s l != 0 && chainLen s p != 0))))

/-- A lane has two users (R670). -/
def lanesClash (s : State) : Bool :=
  let us := laneUsers s.pn
  us.zipIdx.any fun a => us.zipIdx.any fun b =>
    decide (a.2 < b.2) && decide (a.1.first < b.1.first + b.1.count) && decide (b.1.first < a.1.first + a.1.count)

/-- An octet would need a third line rate (R671). -/
def ratesClash (s : State) : Bool :=
  let us := laneUsers s.pn
  (List.range 12).any fun i => decide (2 < (octetRates us (i + 8)).length)

/-! ### Sensors and the raw front end (R172 to R175, R202, R223 to R228, R245) -/

/-- Bound sensors. -/
def boundSns (s : State) : List Nat := (List.range 8).filter (snsBound s)

/-- R173 to R175. -/
def snsBad (s : State) (sn : Nat) : Bool :=
  (snsPair s sn && snsPort s sn % 2 == 1) || snsHeight s sn == 0 || decide (16384 < snsHeight s sn) || snsWidth s sn % 8 != 0 ||
  decide (s.pn (Prm.SAL_SNS_MIN_PERIOD_US sn) * 1000 < lineNs s sn * snsHeight s sn)

def portsCrowded (s : State) : Bool := (List.range 4).any fun n => decide (4 < ((List.range 8).filter fun sn => snsOn s sn n).length)

/-- R174: the sum of width × height ÷ period exceeds 48 Gpix/s. Each term is rounded up to whole pixels a second. -/
def pixelsTooMany (s : State) : Bool :=
  decide (48000000000 < ((boundSns s).map fun sn =>
    divRound (snsWidth s sn * snsHeight s sn * 1000000) (s.pn (Prm.SAL_SNS_MIN_PERIOD_US sn))).foldl (· + ·) 0)

/-- The mosaic descriptor a set gives a sensor. -/
def planMosaic (s : State) (sn : Nat) : Bytes := (s.obj K_RFE (rfeIdx sn 0)).getD mosaicDefault

/-- R202. -/
def mosaicBad (s : State) (sn : Nat) : Bool :=
  let d := planMosaic s sn
  !mosaicOk d || snsWidth s sn % max 1 (mosPw d) != 0 || snsHeight s sn % max 1 (mosPh d) != 0

/-- R223: the shading table loaded does not fit the grid. -/
def shadeBad (s : State) (sn : Nat) : Bool :=
  let v := s.pn (Prm.RFE_SHADE_GRID sn)
  match s.obj K_RFE (rfeIdx sn 5) with
  | some t => t.length != 10 * (v % 256) * (v / 256 % 128)
  | none => false

/-- The statistics rectangle of a set: row, column, height, width (R224). -/
def planRect (s : State) (sn : Nat) : Nat × Nat × Nat × Nat :=
  let o := s.pn (Prm.RFE_STAT_ORIGIN sn)
  let z := s.pn (Prm.RFE_STAT_SIZE sn)
  if z = 0 then (0, 0, snsHeight s sn, snsWidth s sn) else (bitsOf o 29 16, bitsOf o 14 0, bitsOf z 30 16, sizeW z)

/-- R224. -/
def rectBad (s : State) (sn : Nat) : Bool :=
  let d := planMosaic s sn
  let pw := max 1 (mosPw d)
  let ph := max 1 (mosPh d)
  let (y, x, h, w) := planRect s sn
  y % ph != 0 || h % ph != 0 || x % pw != 0 || w % pw != 0 || decide (snsHeight s sn < y + h) || decide (snsWidth s sn < x + w)

/-- R227. -/
def lumaBad (s : State) (sn : Nat) : Bool :=
  decide (65536 < s.pn (Prm.RFE_STAT_LUMA_WR sn) + s.pn (Prm.RFE_STAT_LUMA_WG sn) + s.pn (Prm.RFE_STAT_LUMA_WB sn))

/-- R228: a zone would be empty. -/
def zonesBad (s : State) (sn : Nat) : Bool :=
  let d := planMosaic s sn
  let z := s.pn (Prm.RFE_STAT_ZONES sn)
  let (_, _, h, w) := planRect s sn
  let empty := fun (len n per : Nat) => (List.range n).any fun k => decide (zoneBound len n per (k + 1) ≤ zoneBound len n per k)
  empty w (z % 128) (max 1 (mosPw d)) || empty h (z / 256 % 64) (max 1 (mosPh d))

/-- R245: the guide that DM_METHOD = 2 names has no site. -/
def guideBad (s : State) (sn : Nat) : Bool :=
  let ctrl := s.pn (Prm.CC_CTRL sn)
  let d := planMosaic s sn
  ctrl % 4 == 2 && countType d (if bitOf ctrl 2 then 4 else 2) == 0

/-! ### Outputs and triads (R252, R253, R268 to R278, R308) -/

/-- Outputs and triads that a set enables. -/
def liveOuts (s : State) : List Nat := (List.range 18).filter fun o => srcEn (s.pn (outSrcId o))

/-- R252, R253. -/
def geoBad (s : State) (o : Nat) : Bool :=
  let g := geoOf s s.pn o
  let axis := fun (c n top : Nat) => decide (c ≤ 16 * n ∧ n ≤ 4 * c ∧ 16 ≤ n ∧ n ≤ top) && n % 2 == 0
  !snsBound s g.sensor || g.y0 % 2 != 0 || g.x0 % 2 != 0 || g.hc % 2 != 0 || g.wc % 2 != 0 ||
  decide (snsHeight s g.sensor < g.y0 + g.hc) || decide (snsWidth s g.sensor < g.x0 + g.wc) ||
  !axis g.wc g.wo 32768 || !axis g.hc g.ho 16384

/-- Depth codes that an encoding admits (R263). -/
def depthsOf (enc : Nat) : List Nat :=
  match enc with | 0 => [0, 1, 2, 3] | 1 => [0, 1, 2, 3] | 2 => [1, 2, 3] | 3 => [1, 2, 3] | 4 => [2, 3] | 5 => [4] | 6 => [1, 2, 3, 4] | _ => []

/-- An outer vertical tap of a custom table is not zero although VTAPS is below 6 (R268). -/
def outerTaps (s : State) (o v : Nat) : Bool :=
  match s.obj K_CC (ccIdx 3 o) with
  | none => false
  | some b => (List.range 384).any fun n =>
      let t := n % 6
      (decide (t + v / 2 < 3) || decide (3 + v / 2 ≤ t)) && fieldN b (1024 + 2 * n) 2 != 0

/-- R268. -/
def formatBad (s : State) (o : Nat) : Bool :=
  let f := s.pn (Prm.OUT_FORMAT o)
  let e := fmtEnc f
  !(depthsOf e).contains (fmtDepthCode f) || (fmtSampling f != 0 && !fmtComp f) || (fmtComp f && decide (4 ≤ e)) || (fmtCurveEn f && e == 5) ||
  (fmtCustom f && decide (fmtVtaps f < 6) && outerTaps s o (fmtVtaps f))

/-- A memory format fits the sampling, COMP and depth of a format (R270). -/
def memFits (m f : Nat) : Bool :=
  let d := fmtDepthCode f
  let smp := fmtSampling f
  match m with
  | 1 => smp == 0 && d != 4
  | 2 => smp == 0 && d == 4
  | 3 => smp == 0 && !fmtComp f && d == 1
  | 4 => smp == 0 && !fmtComp f && d == 0
  | 0x10 => smp == 1 && fmtComp f && d != 4
  | 0x11 => smp == 2 && fmtComp f && d != 4
  | _ => false

/-- The format rules of R269 for a destination. -/
def destBad (s : State) (o : Nat) : Bool :=
  let v := s.pn (Prm.OUT_SRC o)
  let f := s.pn (Prm.OUT_FORMAT o)
  let m := ringFmt s.pn o
  match srcDest v with
  | 0 => !memFits m f || srcIndex v != 0 || (let k := ringOf s s.pn o
      k.slots < 2 || 8 < k.slots || (s.pn (Prm.OUT_PITCH o) != 0 && decide (s.pn (Prm.OUT_PITCH o) < memPx m * (geoOf s s.pn o).wo)))
  | 1 => fmtSampling f != 0 || fmtComp f || fmtDepthCode f == 4 || srcIndex v != 0
  | 2 => decide (2 < fmtDepthCode f)
  | 3 => false
  | _ => true

/-- R277: what a triad's parameters must meet. -/
def triadBad (s : State) (t : Nat) : Bool :=
  let g := geoOf s s.pn (16 + t)
  let vis := s.pn (Prm.TRI_VISION t)
  let d := visDiv vis
  let slots := s.pn (Prm.TRI_RING t) % 16
  decide (3 < fmtEnc g.fmt) || (bitOf vis 31 && (g.wc % d != 0 || g.hc % d != 0)) || slots < 2 || 8 < slots

/-- The rings that an output of a set writes. -/
def planRings (s : State) (o : Nat) : List Nat :=
  if o < 16 then (if srcDest (s.pn (Prm.OUT_SRC o)) = 0 then [o] else [])
  else let b := 16 + 3 * (o - 16)
       [b, b + 1] ++ (if bitOf (s.pn (Prm.TRI_VISION (o - 16))) 31 then [b + 2] else [])

def ringsUnaligned (s : State) (o : Nat) : Bool := (planRings s o).any fun r => (ringOf s s.pn r).base % 4096 != 0

/-- R274: an address in device memory that the configuring principal does not own. -/
def ringsForeign (s : State) (o : Nat) : Bool :=
  let f := if o < 16 then 0 else s.pn (Prm.TRI_OWNER (o - 16)) % 128
  (planRings s o).any fun r => let k := ringOf s s.pn r; !rangeOk s f k.base (k.size * k.slots)

/-- R269: the context or job that an output names does not exist. -/
def destMissing (s : State) (o : Nat) : Bool :=
  let v := s.pn (Prm.OUT_SRC o)
  match srcDest v with
  | 2 => (match s.ctx (srcIndex v) with | some x => x.owner != 0 || dDir x.desc == 0 | none => true)
  | 3 => (match s.job (srcIndex v) with | some j => j.kind != 2 || j.closing.isSome | none => true)
  | _ => false

/-- R269: two outputs with one context or job. -/
def destTwice (s : State) : Bool :=
  let l := ((List.range 16).filter fun o => srcEn (s.pn (Prm.OUT_SRC o)) && 2 ≤ srcDest (s.pn (Prm.OUT_SRC o))).map fun o =>
    let v := s.pn (Prm.OUT_SRC o)
    (srcDest v, srcIndex v)
  l.eraseDups.length != l.length

/-- The record job that an output names. -/
def outJob (s : State) (o : Nat) : Option CastJob :=
  let v := s.pn (outSrcId o)
  if o < 16 ∧ srcDest v = 3 then s.job (srcIndex v) else none

/-- R308: size, sampling, depth or surface format differ from the job's. -/
def jobDiffers (s : State) (o : Nat) : Bool :=
  match outJob s o with
  | none => false
  | some j =>
    let g := geoOf s s.pn o
    let bits := if fmtDepthCode g.fmt = 4 then 16 else codeBits g.fmt
    j.width != g.wo || j.height != g.ho || j.depth != bits || j.fmt != ringFmt s.pn o || !memFits j.fmt g.fmt

/-- R308: samples a second exceed 6.4 G times the job's engines. -/
def jobTooFast (s : State) (o : Nat) : Bool :=
  match outJob s o with
  | none => false
  | some j =>
    let g := geoOf s s.pn o
    let n := (((castPlanes j.fmt g.wo g.ho).getD []).map fun p => p.1 * p.2).foldl (· + ·) 0
    decide (6400 * j.want * (s.pn (Prm.SAL_SNS_MIN_PERIOD_US g.sensor) * frameDiv (s.pn (outRingId o))) < n)

/-- Outputs and triads whose parameters a commit stages. -/
def stagedOuts (items : List Staged) : List Nat :=
  (List.range 18).filter fun o => items.any fun x => match x with | .prm id _ => (outIds o).contains id | .obj _ _ _ => false

/-! ### Rules (R346, R349) -/

def vlansMeet (a b : Nat) : Bool :=
  let free := fun v => !bitOf v 12 && !bitOf v 13
  free a || free b || (bitOf a 13 && bitOf b 13) || (bitOf a 12 && bitOf b 12 && a % 4096 == b % 4096)

/-- R346, of two rules without their owners. -/
def rulesOverlap (a b : Bytes) : Bool :=
  let n := if bitOf (byteAt a 8) 0 then 16 else 4
  let near' := fun (p o : Nat) => prefixEq (min (byteAt a p) (byteAt b p)) (field a o n) (field b o n)
  let ssrc := fun r => bitOf (byteAt r 8) 1
  byteAt a 3 &&& byteAt b 3 != 0 && vlansMeet (fieldN a 4 2) (fieldN b 4 2) && bitOf (byteAt a 8) 0 == bitOf (byteAt b 8) 0 &&
  near' 6 20 && near' 7 36 && decide (fieldN a 12 2 ≤ fieldN b 14 2 ∧ fieldN b 12 2 ≤ fieldN a 14 2) &&
  ((!ssrc a && !ssrc b) || (ssrc a && ssrc b && fieldN a 16 4 == fieldN b 16 4))

/-- R349: two rules of different principals overlap at equal priority. -/
def rulesClash (s : State) : Bool :=
  let rs := (s.objIdx K_RULE).filterMap fun i => s.obj K_RULE i
  rs.any fun a => rs.any fun b => byteAt a 0 != byteAt b 0 && byteAt a 3 == byteAt b 3 && rulesOverlap (a.drop 1) (b.drop 1)

/-! ### Layers and the image (R370, R376, R379) -/

/-- R376: the status that a layer's source is refused with, 0 where it stands. -/
def sourceStatus (s : State) (b : Bytes) : Nat :=
  let f := lyOwner b
  match lyKind b with
  | 1 => (match s.ctx (lyIndex b) with
      | some x => if dDir x.desc = 0 ∧ dEss x.desc = 0 ∧ x.owner = f then 0 else ST_NO_CONTEXT
      | none => ST_NO_CONTEXT)
  | 2 => let v := s.pn (Prm.OUT_SRC (lyIndex b))
      if f = 0 ∧ srcEn v ∧ srcDest v = 1 ∧ lyGating b ∧ lySlotMask b = 1 then 0 else ST_DENIED
  | 3 => if memOwned s f (lyAddr b) 1 then 0 else ST_DENIED
  | 4 => (match s.cst.plays.find (lyIndex b) with | some p => if p.owner = f then 0 else ST_NO_CONTEXT | none => ST_NO_CONTEXT)
  | _ => if f = 0 ∨ !((s.objIdx K_LAYER).any fun l => match s.obj K_LAYER l with
        | some c => lyKind c == 5 && lyIndex c == lyIndex b && lyOwner c != f
        | none => false) then 0 else ST_CONFLICT

/-- Objects of layers that a commit stages. -/
def stagedLayers (items : List Staged) : List Bytes :=
  items.filterMap fun x => match x with | .obj k _ (some b) => if k = K_LAYER then some b else none | _ => none

/-- Camera layers of one group come from two sensors (R376). -/
def camerasClash (s : State) : Bool := (List.range 4).any fun g =>
  decide (1 < ((groupCameras s g).map fun x => srcSensor (s.pn (Prm.OUT_SRC (lyIndex x.2)))).eraseDups.length)

/-- Two clipped rectangles overlap with an area. -/
def clipsMeet (s : State) (a b : Bytes) : Bool :=
  match layerClip s a, layerClip s b with
  | some p, some q =>
    let i := fun (r : List Nat) n => r.getD n 0
    let meet := fun x w y v => decide (max x y < min (x + w) (y + v))
    meet (i p 0) (i p 2) (i q 0) (i q 2) && meet (i p 1) (i p 3) (i q 1) (i q 3)
  | _, _ => false

/-- Pairs of layers of a group that overlap at equal priority, by index (R379). -/
def layerPairs (s : State) : List (Bytes × Bytes) := (List.range 4).flatMap fun g =>
  let ls := layersOf s g
  ls.flatMap fun a => ls.filterMap fun b =>
    if a.1 < b.1 ∧ lyPrio a.2 = lyPrio b.2 ∧ clipsMeet s a.2 b.2 then some (a.2, b.2) else none

def layersClash (s : State) : Bool := (layerPairs s).any fun p => lyOwner p.1 != lyOwner p.2
def ownOverlaps (s : State) : Nat := (layerPairs s).countP fun p => lyOwner p.1 == lyOwner p.2

/-- R370: an enabled tile names a link or port that the set does not enable. -/
def imageClash (s : State) : Bool := (tiles s).any fun t =>
  let e := mqTile s.mqt t
  tlEn e && !(if tlDdp e then ddpEn s (tlLink e) else linkEn s (tlLink e))

/-! ### Groups, direct drive ports and schedules (R394, R397, R399, R511, R514, R546, R548) -/

/-- R394, R397. -/
def groupBad (s : State) (g : Nat) : Bool :=
  let lo := grpMin s g
  let hi := grpMax s g
  let n := grpSlots s g
  (decide (1 < n) && lo != hi) || decide (480 * perNum lo < n * perDen lo) || (grpMode s g == 2 && decide (1 < n)) ||
  decide (perNum hi * perDen lo < perNum lo * perDen hi) || (grpAlign s g && lo != hi) ||
  (grpMode s g == 2 && (chaseLayer s g).isNone)

/-- A period in ns exceeds nothing smaller than n ns: n ns lie beyond a period NUM / DEN. -/
def beyond (n v : Nat) : Bool := decide (perNum v * 1000000000 < n * perDen v)

/-- R397, R399: a latch offset does not fit. -/
def groupLate (s : State) (g : Nat) : Bool :=
  if (groupTiles s g).isEmpty then false else
  match grpMode s g with
  | 1 => decide (minInterval s g < rasterOffset s g * NS)
  | 2 => beyond (rasterOffset s g) (grpMin s g) || (groupBands s g).any fun b =>
      let o := bandOffset s g b
      beyond o (grpMin s g) || (match chaseLayer s g with
        | some x => decide (s.pn (Prm.SAL_SNS_MIN_PERIOD_US (srcSensor (s.pn (Prm.OUT_SRC (lyIndex x.2))))) * 1000 < o)
        | none => false)
  | _ => false

/-- Enabled tiles of direct drive ports. -/
def ddpTiles (s : State) : List Bytes := ((tiles s).map (mqTile s.mqt)).filter fun e => tlEn e && tlDdp e

def ddpBad (s : State) : Bool := (ddpTiles s).any fun e =>
  ddpEn s (tlLink e) && (ddpPerIc s (tlLink e) == 0 || tlCols e * tlRows e % ddpPerIc s (tlLink e) != 0)

def ddpSlow (s : State) : Bool := (ddpTiles s).any fun e =>
  ddpEn s (tlLink e) && decide (minInterval s (tlGroup e) < ddpGrey s (tlLink e) (ddpChannels e) * 5 * ddpDiv s (tlLink e) * NS)

/-- Filming cameras of a group's schedule that are enabled. -/
def cameras (s : State) (g : Nat) : List Nat := (List.range 4).filter fun c => bitOf (s.pn (Prm.SHT_CAM_0 g + c)) 31
def camSlot (s : State) (g c : Nat) : Nat := bitsOf (s.pn (Prm.SHT_CAM_0 g + c)) 26 24

/-- R546. -/
def schedBad (s : State) (g : Nat) : Bool :=
  let n := grpSlots s g
  let at' := fun k => if k = 0 then 0 else s.pn (Prm.SHT_SLOT_START_0 g + k)
  shtOn s g && (grpMode s g != 1 || !grpAlign s g || ((List.range n).drop 1).any (fun k => decide (at' k ≤ at' (k - 1))) ||
    decide (perNum (grpMin s g) * 1000000000 ≤ at' (n - 1) * perDen (grpMin s g)) || (cameras s g).any fun c => decide (n ≤ camSlot s g c))

/-- R548: a camera's window leaves the display interval of its slot, shortened by 25 ns at each end. -/
def windowBad (s : State) (g : Nat) : Bool :=
  let n := grpSlots s g
  let v := grpMin s g
  let at' := fun k => if k = 0 then 0 else s.pn (Prm.SHT_SLOT_START_0 g + k)
  shtOn s g && (cameras s g).any fun c =>
    let k := camSlot s g c
    let off := bitsOf (s.pn (Prm.SHT_CAM_0 g + c)) 19 0
    let fin' := at' k + off + s.pn (Prm.SHT_CAM_LEN_0 g + c) + 25
    decide (off < 25) || (if k + 1 < n then decide (at' (k + 1) < fin') else decide (perNum v * 1000000000 < fin' * perDen v))

/-! ### Libration and pairs (R464, R717) -/

/-- R464: LIB_MAX_PERIODS × F_max. -/
def libTooLong (s : State) : Bool :=
  let v := grpMax s (libGroup s)
  let src := (List.range 2).filterMap fun w =>
    let x := s.pn (Prm.LIB_WIT_SENSOR w)
    if bitOf x 31 then some (libL s * perNum v * 1000000 / (perDen v * max 1 (s.pn (Prm.SAL_SNS_MIN_PERIOD_US (x % 8)))) + 1) else none
  decide (32768 < s.pn Prm.LIB_MAX_PERIODS * src.foldl max (libN s))

/-- Paired links of a set as a mask. -/
def pairLinks (s : State) : Nat := ((List.range 64).map fun l => if linkEn s l && linkPair s l then 2 ^ l else 0).foldl (· + ·) 0

/-- R717: peer is what the partner answers of its paired links and the CRC of its maquette, none where it does not name this
package. -/
def pairClash (s : State) (peer : Option (Nat × Nat)) : Bool :=
  let cfg := s.pn Prm.FLT_PAIR_CFG
  bitOf cfg 31 && (!s.flag (Reg.XPL_ROUTE (bitsOf cfg 19 16)) Fld.XPL_ROUTE.VALID || (match peer with
    | some p => p.1 != pairLinks s || p.2 != crc32 s.mqt
    | none => false))

/-! ### The throttle (R742) -/

def throttled (s : State) : Bool := s.flag Reg.THM_THROTTLE Fld.THM_THROTTLE.REQUESTED

/-- The work fraction of n bound units exceeds TARGET (R737). -/
def overTarget (s : State) (n : Nat) : Bool :=
  if s.thm.n0 = 0 then n != 0 else decide (s.fld Reg.THM_THROTTLE Fld.THM_THROTTLE.TARGET * s.thm.n0 < 100 * n)

/-! ### The verdict -/

/-- The checks of a commit of function f, against p, the plan before it, and t, the plan with it. Rights stand first, then fields,
then resources (R106); the order within these is the model's (notes/assumptions/73). -/
def commitChecks (f : Nat) (items : List Staged) (p t : State) (peer : Option (Nat × Nat)) : List (Bool × Nat) :=
  let outs := (stagedOuts items).filter fun o => srcEn (t.pn (outSrcId o))
  let lays := stagedLayers items
  let bad := fun st => lays.any fun b => sourceStatus t b == st
  let m := placement t (isStandby t)
  [(!items.all (mayHold p f), ST_DENIED), (outs.any (ringsForeign t), ST_DENIED), (bad ST_DENIED, ST_DENIED),
   (salBad t, ST_BAD_PARAM), (ethBad t, ST_BAD_PARAM), ((List.range 64).any (linkBad t), ST_BAD_PARAM),
   ((boundSns t).any (snsBad t), ST_BAD_PARAM), (portsCrowded t, ST_BAD_PARAM), ((boundSns t).any (mosaicBad t), ST_BAD_PARAM),
   ((List.range 8).any (shadeBad t), ST_BAD_PARAM), ((boundSns t).any (rectBad t), ST_BAD_PARAM), ((List.range 8).any (lumaBad t), ST_BAD_PARAM),
   ((boundSns t).any (zonesBad t), ST_BAD_PARAM), ((List.range 8).any (guideBad t), ST_BAD_PARAM),
   ((liveOuts t).any (geoBad t), ST_BAD_PARAM), (((liveOuts t).filter (· < 16)).any (formatBad t), ST_BAD_PARAM),
   (((liveOuts t).filter (· < 16)).any (destBad t), ST_BAD_PARAM), (((liveOuts t).filter (16 ≤ ·)).any (fun o => triadBad t (o - 16)), ST_BAD_PARAM),
   ((liveOuts t).any (ringsUnaligned t), ST_BAD_PARAM), (outs.any (jobDiffers t), ST_BAD_PARAM),
   ((List.range 4).any (groupBad t), ST_BAD_PARAM), ((List.range 4).any (schedBad t), ST_BAD_PARAM), (ddpBad t, ST_BAD_PARAM), (libTooLong t, ST_BAD_PARAM),
   (outs.any (destMissing t), ST_NO_CONTEXT), (bad ST_NO_CONTEXT, ST_NO_CONTEXT),
   ((List.range 2).any (fun k => items.any (isTriadItem k) && (match triadOwner p k with | some o => o != f | none => false)), ST_CONFLICT),
   (destTwice t, ST_CONFLICT), (bad ST_CONFLICT, ST_CONFLICT), (camerasClash t, ST_CONFLICT), (layersClash t, ST_CONFLICT), (rulesClash t, ST_CONFLICT),
   (lanesClash t, ST_CONFLICT), (ratesClash t, ST_CONFLICT), (items.any (fun x => match x with | .obj k _ _ => k == K_MQT | _ => false) && imageClash t, ST_CONFLICT),
   ((List.range 64).any (linkTooSlow t), ST_CONFLICT), ((List.range 4).any (groupLate t), ST_CONFLICT), (ddpSlow t, ST_CONFLICT),
   ((List.range 4).any (windowBad t), ST_CONFLICT), (pairClash t peer, ST_CONFLICT), (!windowsPlaced t, ST_CONFLICT),
   (pixelsTooMany t, ST_TABLE_FULL), (outs.any (jobTooFast t), ST_TABLE_FULL), (m.isNone, ST_TABLE_FULL),
   (throttled t && (match m with | some b => overTarget t b.size | none => false), ST_THROTTLED)]

/-- The status a commit is refused with, or none, and the plan with it. -/
def verdict (f : Nat) (items : List Staged) (peer : Option (Nat × Nat)) (s : State) : Option Nat × State :=
  let p := planned s
  let t := (applyItems f items).run p
  (firstBad (commitChecks f items p t peer), t)

end Sys2Proof.Machine
end

