-- ==== Sys2Proof/Machine/LibEst.lean ====
section
/-! DEFINITION. Libration: row assignment, masking, witness accumulation, the period-end estimates and updates, and the switch at a
boundary (chapter 12, R442 to R478). Estimates are formed as fractions at 2^-32, which the spec leaves open (notes/assumptions/55). -/
namespace Sys2Proof.Machine

/-! ### Accumulator blocks (R462) -/

def accBlock (s : State) (b : Nat) : Bytes := s.lib.acc.getD b (List.replicate 670 0)
def accA (x : Bytes) (i k : Nat) : Int := sgn 32 (fieldN x (20 * i + 4 * k) 4)
def accNull (x : Bytes) (k : Nat) : Int := sgn 32 (fieldN x (640 + 4 * k) 4)
def accEnergy (x : Bytes) : Nat := fieldN x 660 4
def accFrames (x : Bytes) : Nat := fieldN x 664 2
def accPeriods (x : Bytes) : Nat := byteAt x 666
def accFlags (x : Bytes) : Nat := byteAt x 667
def accNullRow (x : Bytes) : Nat := fieldN x 668 2 % 2048

/-- A block of its fields. -/
def accMake (a : Nat → Nat → Int) (nul : Nat → Int) (energy frames periods flags row : Nat) : Bytes :=
  ((List.range 32).flatMap fun i => (List.range 5).flatMap fun k => leBytes 4 (unsgn 32 (a i k))) ++
  ((List.range 5).flatMap fun k => leBytes 4 (unsgn 32 (nul k))) ++ leBytes 4 energy ++ leBytes 2 frames ++ leBytes 1 periods ++
  leBytes 1 flags ++ leBytes 2 row

/-- R464: a block halved. -/
def accHalve (x : Bytes) : Bytes :=
  let h := fun n => (n + 1) / 2
  accMake (fun i k => rnd 1 (accA x i k)) (fun k => rnd 1 (accNull x k)) (h (accEnergy x)) (h (accFrames x)) (h (accPeriods x)) (accFlags x) (accNullRow x)

/-- Integer square root of a number below 4^n. -/
def isqrt : Nat → Nat → Nat → Nat
  | 0, _, r => r
  | n + 1, x, r => let t := r + 2 ^ n; if t * t ≤ x then isqrt n x t else isqrt n x r

/-! ### Lamps with an entry -/

/-- Indices of the valid entries, rising. -/
def libLamps (s : State) : List Nat := (s.lib.map.entries.filter fun e => meValid e.2).map (·.1)

/-- Emitter positions of a lamp that may take a row (R445), with their types. -/
def codable (s : State) (idx : Nat) : List (Nat × Nat) :=
  match lampOf s idx with
  | none => []
  | some (t, _, _) =>
    let e := mqTile s.mqt t
    let r := s.activeBank.record idx
    if recStuck r ∨ recNoLib r then [] else
    ((List.range (tlEmit e)).filter fun k => !rowZero r k && tlType e k != 0).map fun k => (k, tlType e k)

/-- The witness pixels of a lamp: source, column and row; a photosensor is a pixel of its tile's own. -/
def footprint (s : State) (idx : Nat) : List (Nat × Int × Int) :=
  let e := libEntry s idx
  if meSrc e = 2 then (match lampOf s idx with | some (t, _, _) => [(2, (t : Int), (mePhoto e : Int))] | none => [])
  else [-1, 0, 1].flatMap fun dy => [-1, 0, 1].map fun dx => (meSrc e, meX e + dx, meY e + dy)

def shares (a b : List (Nat × Int × Int)) : Bool := a.any b.contains

/-! ### Row assignment (R444) -/

/-- Rows given so far: code set, footprint, row. -/
abbrev Given := List (Nat × List (Nat × Int × Int) × Nat)

/-- The lowest row of a set free for a footprint. -/
def freeRow (s : State) (g : Given) (set : Nat) (f : List (Nat × Int × Int)) : Option Nat :=
  ((List.range (libN s)).drop 1).find? fun r => !g.any fun x => x.1 == set && x.2.2 == r && shares x.2.1 f

/-- Rows of a lamp's emitters in a set; none where one finds no row. -/
def lampRows (s : State) (g : Given) (set : Nat) (f : List (Nat × Int × Int)) : List Nat → Option (List (Nat × Nat))
  | [] => some []
  | k :: t =>
    match freeRow s g set f with
    | none => none
    | some r => (lampRows s ((set, f, r) :: g) set f t).map ((k, r) :: ·)

/-- What the assignment leaves: the map with SET and CODE written, the rows given, emitters without a row. -/
structure Assigned where
  map : FMap Bytes
  given : Given
  without : Nat
  coded : Nat

/-- An entry with its set and rows. -/
def entryCode (e : Bytes) (set : Nat) (rows : List (Nat × Nat)) : Bytes :=
  e.take 5 ++ leBytes 1 set ++ field e 6 19 ++ leBytes 7 (rows.foldl (fun a x => a + x.2 * 2 ^ (11 * x.1)) 0)

/-- One lamp takes its rows: the first of the 8 sets that has one for each of its emitters, an entry naming one set only
(notes/assumptions/56). -/
def assignLamp (s : State) (a : Assigned) (idx : Nat) : Assigned :=
  let ks := (codable s idx).map (·.1)
  let f := footprint s idx
  let e := libEntry s idx
  match (List.range 8).findSome? fun set => (lampRows s a.given set f ks).map fun r => (set, r) with
  | some (set, rows) =>
    ⟨a.map.put idx (entryCode e set rows), a.given ++ rows.map (fun x => (set, f, x.2)), a.without, if ks.isEmpty then a.coded else a.coded + 1⟩
  | none => { a with map := a.map.put idx (entryCode e 0 []), without := a.without + ks.length }

/-- R444, R446: firmware assigns rows and null rows; the accumulators are cleared and codes wait for a multiple of L. -/
def libAssign : Act := fun s =>
  let lamps := libLamps s
  let a := lamps.foldl (assignLamp s) ⟨s.lib.map, [], 0, 0⟩
  let sets := a.given.foldl (fun m x => max m (x.1 + 1)) 1
  let blocks := (lamps.map (· / 32)).eraseDups
  let nullRow := fun b =>
    let fs := (lamps.filter (· / 32 == b)).map (footprint s)
    (((List.range (libN s)).drop 1).find? fun r => !a.given.any fun x => x.2.2 == r && fs.any (shares x.2.1)).getD 0
  let codedIn := fun b => lamps.any fun i => i / 32 == b && fieldN (a.map.getD i []) 25 7 != 0
  let st := s.pn Prm.LIB_STATE
  [.lib (fun l => { l with
      map := a.map, touched := [], restart := true,
      acc := blocks.foldl (fun m b => m.put b (accMake (fun _ _ => 0) (fun _ => 0) 0 0 0 (if codedIn b then 1 else 0) (nullRow b))) .empty }),
   .prm Prm.LIB_STATE (w32 (putBits st 14 12 (sets - 1))), .prm Prm.LIB_LAMPS_MAPPED (w32 lamps.length), .prm Prm.LIB_LAMPS_CODED (w32 a.coded),
   .prm Prm.LIB_UNASSIGNED (w32 a.without)] ++
  (List.range 2).map fun w => .prm (Prm.LIB_WIT_LAMPS w) (w32 (lamps.countP fun i => meSrc (libEntry s i) == w))

/-- LIB_STATE, LIB_CHIP, LIB_UNITS_BOUND and the history follow the state. -/
def syncLib : Act := fun s =>
  let bit := fun (b : Bool) (n : Nat) => if b then n else 0
  let st := bit (injecting s) 1 + bit s.lib.shed 2 + bit (s.lib.update.any fun u => u.written) 4 + bit (s.lib.update.any fun u => u.armed.isSome) 8 +
    bit s.lib.build.isSome 16 + 256 * libSet s
  [.prm Prm.LIB_STATE (w32 (putBits (s.pn Prm.LIB_STATE) 11 0 st)), .prm Prm.LIB_CHIP (w32 (if libEn s then libChip s else 0)),
   .prm Prm.LIB_UNITS_BOUND (w32 (if libEn s ∧ grpMode s (libGroup s) = 1 then 2048 * s.pn Prm.LIB_UNIT_CAP / 100 else 0)),
   .prm Prm.LIB_HIST_DEPTH (w32 s.lib.history.length)] ++
  (List.range 8).flatMap fun n => let g := (s.lib.history[n]?).elim 0 LibGen.gen
    [.prm (Prm.LIB_HIST_GEN_LO n) (w32 g), .prm (Prm.LIB_HIST_GEN_HI n) (w32 (g / 2 ^ 32))]

/-! ### Masking (R447) -/

/-- μ of a block in a slot from the brightness of its lamps, in order; UQ0.8, at most 255 in its one byte. -/
def blockMask (s : State) (ys : List Nat) : Nat :=
  let n := ys.length
  let sum := ys.foldl (· + ·) 0
  let diffs := (ys.zip (ys.drop 1)).map fun p => ((p.1 : Int) - p.2).natAbs
  let black := s.pn Prm.LIB_MASK_BLACK
  let full := s.pn Prm.LIB_MASK_FULL
  let lumNum := min ((full - black) * n) (sum - black * n)
  let tex := min 256 (s.pn Prm.LIB_MASK_TEX_FLOOR +
    (if diffs.isEmpty then 0 else diffs.foldl (· + ·) 0 * s.pn Prm.LIB_MASK_TEX_GAIN / (256 * diffs.length)))
  min 255 (divRound (lumNum * tex) ((full - black) * n))

/-- The masking table of the frame that starts, from the lamps of the frame that ended. -/
def maskTable (s : State) : FMap Nat :=
  let keys := ((s.lib.luma.keys.map fun k => 8 * (k / 8 / 32) + k % 8)).eraseDups
  keys.foldl (fun m key => m.put key
    (blockMask s ((s.lib.luma.entries.filter fun e => 8 * (e.1 / 8 / 32) + e.1 % 8 == key).map (·.2)))) .empty

/-! ### Witness frames (R453 to R456, R463) -/

/-- Display intervals of the latches known, the newest first: start, end, slot, frame (R454). -/
def intervals : Option Nat → List (Nat × Nat × Nat) → List (Nat × Nat × Nat × Nat)
  | _, [] => []
  | next, (t, slot, f) :: rest => (t, next.getD (2 ^ 90), slot, f) :: intervals (some t) rest

/-- Length of what two intervals share. -/
def overlap (a b c d : Nat) : Nat := min b d - max a c

/-- ν of a block over a window (R454). -/
def nuOf (s : State) (b w0 w1 : Nat) : Nat :=
  let sum := ((intervals none s.lib.shown).map fun i =>
    if slotCodes s i.2.2.1 then overlap i.1 i.2.1 w0 w1 * s.lib.mu.getD (8 * b + i.2.2.1) 0 else 0).foldl (· + ·) 0
  min 65535 (divRound (sum * 65536) (256 * (w1 - w0)))

/-- A chip edge lies strictly within a window (R453). -/
def edgeIn (s : State) (w0 w1 : Nat) : Bool :=
  s.lib.shown.any fun x => x.2.1 == 0 && x.2.2 % libH s == 0 && decide (w0 < x.1) && decide (x.1 < w1)

/-- The chip in force at a time. -/
def chipAtTime (s : State) (t : Nat) : Nat :=
  match s.lib.shown.find? fun x => decide (x.1 ≤ t) with | some x => chipAt s x.2.2 | none => libChip s

/-- Projection of four components with an emitter type's weights (R455). -/
def project (s : State) (ty : Nat) (x : Nat → Nat) : Nat :=
  let rg := s.pn (Prm.LIB_PROJ_RG (ty - 1))
  let ba := s.pn (Prm.LIB_PROJ_BA (ty - 1))
  (clampI 0 65535 (rnd 14 (sgn 16 (rg / 65536) * x 0 + sgn 16 rg * x 1 + sgn 16 (ba / 65536) * x 2 + sgn 16 ba * x 3))).toNat

/-- A lamp's reading in a frame of a witness source; a pixel outside the image reads 0 (notes/assumptions/57). -/
def lampReading (s : State) (w frame : Nat) (e : Bytes) (ty : Nat) : Nat :=
  let px := fun (dx dy : Int) =>
    let x := (meX e : Int) + dx
    let y := (meY e : Int) + dy
    if x < 0 ∨ y < 0 then 0 else s.lib.wpix.getD (w * 2 ^ 40 + frame % 8 * 2 ^ 32 + y.toNat * 65536 + x.toNat) 0
  let sum : Nat := ((List.range 9).map fun p =>
    let v := px ((p % 3 : Nat) - 1) ((p / 3 : Nat) - 1)
    meW e p * project s ty (comp v)).foldl (· + ·) 0
  (rnd 7 (sum : Int)).toNat

/-- One observation: the lamps it concerns, the window of a line, the reading of a lamp's emitter type, and the source. -/
structure Observation where
  lamps : List Nat
  window : Nat → Nat × Nat
  chip : Nat → Nat
  reading : Nat → Nat → Nat

/-- A block's share of an observation, or its exclusion (R451, R452, R453). -/
def observeBlock (s : State) (o : Observation) (b : Nat) : List Eff :=
  let lamps := o.lamps.filter (· / 32 == b)
  let y := (lamps.head?.map fun i => meY (libEntry s i)).getD 0
  let (w0, w1) := o.window y
  let x := accBlock s b
  let flag := fun (e : Nat) => Eff.lib fun l => { l with acc := l.acc.put b (x.take 667 ++ leBytes 1 (putBits (accFlags x) 1 1 e) ++ x.drop 668) }
  let tilesOf := (lamps.filterMap fun i => (lampOf s i).map (·.1)).eraseDups
  let heldIn := s.lib.holds.any fun h => tilesOf.contains h.1 &&
    (intervals none s.lib.shown).any fun i => i.1 == h.2 && decide (0 < overlap i.1 i.2.1 w0 w1)
  let skipIn := s.lib.skips.any fun k => k.1 == b && decide (w0 ≤ k.2) && decide (k.2 < w1)
  if edgeIn s w0 w1 then [flag 1]
  else if heldIn then [flag 1, .count Prm.LIB_HOLD_EXCL 1]
  else if skipIn then [flag 1, .count Prm.LIB_SKIP_EXCL 1]
  else
    let nu := nuOf s b w0 w1
    let j := o.chip y
    let term := fun row r => chi row j * (((nu * r + 2 ^ 15) / 2 ^ 16 : Nat) : Int)
    let add := fun i k =>
      let idx := 32 * b + i
      let e := libEntry s idx
      if lamps.contains idx ∧ meRow e k ≠ 0 ∧ meSet e = libSet s then
        (match (codable s idx).find? (·.1 == k) with | some (_, ty) => term (meRow e k) (o.reading idx ty) | none => 0)
      else 0
    let addNull := fun k =>
      match lamps.findSome? fun idx => ((codable s idx).find? (·.1 == k)).map fun q => (idx, q.2) with
      | some (idx, ty) => term (accNullRow x) (o.reading idx ty)
      | none => 0
    [.lib fun l => { l with
      touched := if l.touched.contains b then l.touched else b :: l.touched,
      acc := l.acc.put b (accMake (fun i k => accA x i k + add i k) (fun k => accNull x k + addNull k)
        (accEnergy x + (nu * nu + 2 ^ 15) / 2 ^ 16) (accFrames x + 1) (accPeriods x) (accFlags x % 2) (accNullRow x)) }]

/-- The observation of a frame of a witness sensor. -/
def frameObservation (s : State) (w frame sof : Nat) : Observation where
  lamps := (libLamps s).filter fun i => meSrc (libEntry s i) == w
  window := fun y =>
    let start := (sof : Int) + (sgn 32 (s.pn (Prm.LIB_WIT_OFFSET_NS w)) + ((y * s.pn (Prm.LIB_WIT_LINE_NS w) : Nat) : Int)) * (NS : Int)
    (start.toNat, start.toNat + s.pn (Prm.LIB_WIT_EXPOSURE_US w) * 1000 * NS)
  chip := fun y => chipAtTime s ((sof : Int) + (sgn 32 (s.pn (Prm.LIB_WIT_OFFSET_NS w)) + ((y * s.pn (Prm.LIB_WIT_LINE_NS w) : Nat) : Int)) * (NS : Int)).toNat
  reading := fun idx ty => lampReading s w frame (libEntry s idx) ty

/-- The window of a chip's last run among the latches known (R456). -/
def chipWindow (s : State) (chip : Nat) : Nat × Nat :=
  let l := s.lib.shown
  let after := l.takeWhile fun x => chipAt s x.2.2 != chip
  let run := (l.drop after.length).takeWhile fun x => chipAt s x.2.2 == chip
  ((run.getLast?.map (·.1)).getD 0, (after.getLast?.map (·.1)).getD s.vis)

/-- The observation of a photosensor telemetry of a tile (R456). -/
def photoObservation (s : State) (tile : Nat) (p : Bytes) : Observation where
  lamps := (libLamps s).filter fun i => meSrc (libEntry s i) == 2 && ((lampOf s i).map (·.1)) == some tile
  window := fun _ => chipWindow s (fieldN p 0 2)
  chip := fun _ => fieldN p 0 2
  reading := fun idx ty => project s ty fun c => fieldN p (4 + 8 * mePhoto (libEntry s idx) + 2 * c) 2

def observe (o : Observation) : Act := actsFor ((o.lamps.map (· / 32)).eraseDups) fun b => fun s => observeBlock s o b

/-! ### Estimates (R466) -/

/-- What the period end makes of a coded lamp-emitter. -/
structure Estimate where
  idx : Nat
  k : Nat
  ty : Nat
  src : Nat
  a : Int
  /-- E at 2^-30. -/
  e : Nat
  snr : Nat
  /-- 1 / ĝ at 2^-32; 0 where ĝ is not positive. -/
  inv : Nat
  /-- κ as a fraction. -/
  kn : Nat
  kd : Nat
  confident : Bool
  outlier : Bool
  deriving DecidableEq, Repr

/-- Sum of magnitudes of a row. -/
def rowSum (r : Bytes) (k : Nat) : Nat := ((List.range 3).map fun j => (recP r k j).natAbs).foldl (· + ·) 0

/-- The baseline record of a lamp. -/
def baseRecord (s : State) (idx : Nat) : Bytes := s.pat.baseline.getD idx recZero

/-- SNR = E / σ, at most 65,535: E at 2^-30, and the squares of NULL with their number. -/
def snrOf (e : Nat) (nulls : List Int) : Nat :=
  let sq := (nulls.map fun n => n.natAbs * n.natAbs).foldl (· + ·) 0
  if sq = 0 then 65535 else min 65535 (isqrt 20 (e * e * nulls.length / (sq * 2 ^ 60)) 0)

/-- Emitter positions of a block with a valid null lamp. -/
def nullPositions (s : State) (b src : Nat) : List Nat :=
  let lamps := (libLamps s).filter fun i => i / 32 == b && meSrc (libEntry s i) == src
  (List.range 5).filter fun k => lamps.any fun i => (codable s i).any (·.1 == k)

/-- The estimate of a lamp-emitter of type ty. -/
def estimate (s : State) (idx k ty : Nat) : Estimate :=
  let en := libEntry s idx
  let x := accBlock s (idx / 32)
  let a := accA x (idx % 32) k
  let e := meBeta en k * s.pn (Prm.LIB_AMP (ty - 1)) * accEnergy x
  let snr := snrOf e ((nullPositions s (idx / 32) (meSrc en)).map (accNull x))
  let an := a.toNat
  let good := decide (s.pn Prm.LIB_SNR_MIN ≤ snr) && e != 0
  let inRange := decide (e ≤ 2 * an * 2 ^ 30 ∧ an * 2 ^ 30 ≤ 2 * e)
  ⟨idx, k, ty, meSrc en, a, e, snr, if an = 0 then 0 else divRound (4 * e) an, rowSum (s.activeBank.record idx) k, rowSum (baseRecord s idx) k,
    good && inRange, good && !inRange⟩

/-- Estimates of every coded lamp-emitter whose block has 16 frames. -/
def estimates (s : State) : List Estimate :=
  (libLamps s).flatMap fun idx =>
    if accFrames (accBlock s (idx / 32)) < 16 then [] else
    ((codable s idx).filter fun q => meRow (libEntry s idx) q.1 != 0).map fun q => estimate s idx q.1 q.2

/-- q̄ of a source and type at 2^-32 (R467). -/
def qMean (s : State) (es : List Estimate) (src ty : Nat) : Nat :=
  let l := es.filter fun e => e.confident && e.src == src && e.ty == ty
  if !bitOf (s.pn Prm.LIB_CTRL) 3 ∨ l.isEmpty then 2 ^ 32 else divRound ((l.map (·.inv)).foldl (· + ·) 0) l.length

/-- κ* at 2^-32. -/
def target (s : State) (es : List Estimate) (e : Estimate) : Nat := divRound (e.inv * 2 ^ 32) (qMean s es e.src e.ty)

/-- The step of a confident lamp-emitter (R469): Δ and κ_new at 2^-32, and whether the cumulative clamp acts; none within the
deadband. -/
def stepOf (s : State) (es : List Estimate) (e : Estimate) : Option (Int × Int × Bool) :=
  let r : Int := (target s es e * e.kd : Nat) / (e.kn : Int) - 2 ^ 32
  let lim := s.pn Prm.LIB_STEP_MAX * 65536
  let cum := s.pn Prm.LIB_CUM_MAX * 65536
  if e.kn = 0 ∨ e.kd = 0 ∨ r.natAbs ≤ s.pn Prm.LIB_DEADBAND * 65536 then none else
  let d := clampI (-(lim : Int)) lim (rnd 16 (s.pn Prm.LIB_LOOP_GAIN * r))
  let raw := rnd 32 (((e.kn * 2 ^ 32 / e.kd : Nat) : Int) * (2 ^ 32 + d))
  let kNew := clampI (2 ^ 32 - (cum : Int)) (2 ^ 32 + cum) raw
  some (d, kNew, raw != kNew)

/-- R468: codes of a lost source write no update. -/
def witOf (s : State) (w : Nat) : LibWit := s.lib.wits.getD w ⟨false, 0, 0, false⟩

/-- The steps of a period end: estimates with their steps, neither lost nor in a map build. -/
def libSteps (s : State) (es : List Estimate) : List (Estimate × Int × Int × Bool) :=
  (es.filter fun e => e.confident && !(witOf s e.src).lost &&
    (match lampOf s e.idx with | some (t, _, _) => (inBuild s t).isNone | none => false)).filterMap fun e => (stepOf s es e).map fun d => (e, d)

/-- A record with the stepped rows of its lamp. -/
def stepRecord (s : State) (steps : List (Estimate × Int × Int × Bool)) (idx : Nat) : Bytes :=
  let base := baseRecord s idx
  let emit := match lampOf s idx with | some (t, _, _) => tlEmit (mqTile s.mqt t) | none => 0
  recFixDead emit ((steps.filter (·.1.idx == idx)).foldl (fun r d =>
    recSetRow r d.1.k ((List.range 3).map fun j => clampI (-8192) 8191 (rnd 32 (recP base d.1.k j * d.2.2.1)))) (s.activeBank.record idx))

/-- R416, R471: something other than libration holds the inactive bank. -/
def libBankHeld (s : State) : Bool := s.pat.writer == 1 || s.pat.writer == 3 || switchStaged s || s.pat.switching

/-! ### Period end -/

/-- A block that accumulated adds a period, and is halved once it has LIB_MAX_PERIODS (R464). -/
def endBlocks : Act := fun s =>
  [.lib fun l => { l with
    touched := [],
    acc := l.touched.foldl (fun m b =>
      let x := m.getD b (List.replicate 670 0)
      let y := accMake (accA x) (accNull x) (accEnergy x) (accFrames x) (accPeriods x + 1) (accFlags x) (accNullRow x)
      m.put b (if s.pn Prm.LIB_MAX_PERIODS ≤ accPeriods x + 1 then accHalve y else y)) l.acc }]

/-- R468: the registration of a source. -/
def register (es : List Estimate) (w : Nat) : Act := fun s =>
  let l := (libLamps s).flatMap fun idx => if meSrc (libEntry s idx) = w then
    ((codable s idx).filter fun q => meRow (libEntry s idx) q.1 != 0).map (fun q => estimate s idx q.1 q.2) else []
  let _ := es
  let sumA := (l.map (·.a)).foldl (· + ·) 0
  let sumE := (l.map (·.e)).foldl (· + ·) 0
  if sumE = 0 then [] else
  let x := witOf s w
  let low := decide (sumA * 2 ^ 46 < ((s.pn Prm.LIB_REG_MIN * sumE : Nat) : Int))
  let y : LibWit := if low then { x with below := x.below + 1, above := 0 } else { x with below := 0, above := x.above + 1 }
  let lost := (x.lost && decide (y.above < 2)) || decide (2 ≤ y.below)
  let z := { y with lost := lost }
  [.lib (fun v => { v with wits := v.wits.put w z }),
   .prm (Prm.LIB_REG_SCORE w) (w32 (clampI 0 65535 ((sumA * 2 ^ 44 + (sumE / 2 : Nat)) / (sumE : Int))).toNat),
   .prm (Prm.LIB_WIT_STATE w) (w32 ((if !lost && 0 < y.above then 1 else 0) + (if lost then 2 else 0) + (if z.built then 4 else 0)))] ++
  raiseIf (lost && !x.lost) 183

/-- A number placed among numbers in rising order, and the middle of such a list. -/
def insertNat (x : Nat) : List Nat → List Nat
  | [] => [x]
  | y :: t => if x ≤ y then x :: y :: t else y :: insertNat x t

def middle (l : List Nat) : Nat := let o := l.foldl (fun r x => insertNat x r) []; o.getD ((o.length - 1) / 2) 0

/-- The figures that a period end reports. -/
def reportEstimates (es : List Estimate) (steps : List (Estimate × Int × Int × Bool)) : Act := fun s =>
  let conf := es.filter (·.confident)
  let withheld := es.countP fun e => decide (e.snr < s.pn Prm.LIB_SNR_MIN)
  (List.range 7).flatMap (fun n =>
    let mine := steps.filter (·.1.ty == n + 1)
    let bound := mine.countP (·.2.2.2)
    [.prm (Prm.LIB_QMEAN_0 n) (w32 (rnd 18 (qMean s es 0 (n + 1))).toNat), .prm (Prm.LIB_QMEAN_1 n) (w32 (rnd 18 (qMean s es 1 (n + 1))).toNat),
     .prm (Prm.LIB_CONF n) (w32 (conf.countP (·.ty == n + 1))), .count (Prm.LIB_AT_BOUND n) bound, .count Prm.LIB_BOUND_HITS bound] ++
    (if mine.isEmpty then [] else
      [.prm (Prm.LIB_STEP_MEAN n) (w32 (divRound ((mine.map fun d => d.2.1.natAbs).foldl (· + ·) 0) (mine.length * 65536)))])) ++
  (List.range 2).flatMap (fun w =>
    let mine := conf.filter (·.src == w)
    let bin := fun (e : Estimate) => (clampI 0 20 (((target s es e : Int) * 1000 - 895 * 2 ^ 32) / (10 * 2 ^ 32))).toNat
    .prm (Prm.LIB_WIT_SNR_P50 w) (w32 (middle ((es.filter (·.src == w)).map (·.snr)))) ::
    (List.range 21).map fun n => .prm (Prm.LIB_WIT_HIST_0 w + n) (w32 (mine.countP fun e => bin e == n))) ++
  [.prm Prm.LIB_WITHHELD_LAST (w32 withheld), .prm Prm.LIB_OUTLIERS_LAST (w32 (es.countP (·.outlier)))] ++
  raiseIf (0 < withheld) 179 ++ raiseIf (steps.any (·.2.2.2)) 180

/-- Records written into the inactive bank with their undo log (R470). -/
def writeUpdate (recs : List (Nat × Bytes)) (rollback : Option (Nat × Nat × Nat × Bool)) : Act := fun s =>
  [.lib (fun l => { l with update := some ⟨recs.map fun r => (r.1, s.activeBank.record r.1), none, rollback, false⟩ }),
   effBank (!s.pat.activeB) (fun b => { b with recs := recs.foldl (fun m r => m.put r.1 r.2) b.recs }), .pat fun p => { p with writer := 2 }]

/-- R469 to R472: the update that a period end writes, if it may. -/
def libUpdate (steps : List (Estimate × Int × Int × Bool)) : Act := fun s =>
  if !bitOf (s.pn Prm.LIB_CTRL) 1 ∨ s.lib.stopped ∨ s.arm.halted ∨ s.lib.update.isSome ∨ s.lib.wait.isSome then []
  else if libBankHeld s then [.count Prm.LIB_DEFERRED 1]
  else
    let idxs := (steps.map (·.1.idx)).eraseDups
    let recs := (idxs.map fun i => (i, stepRecord s steps i)).filter fun r => r.2 != s.activeBank.record r.1
    .prm Prm.LIB_UPDATED_LAST (w32 recs.length) :: (if recs.isEmpty then [] else writeUpdate recs none s)

/-- A map build moves on by a period (R459). -/
def buildPeriod : Act := fun s =>
  match s.lib.build with
  | none => []
  | some b =>
    let sets := (b.count + libN s - 2) / (libN s - 1)
    let next : LibBuild := if 1 < b.periods then { b with periods := b.periods - 1 }
      else if b.phase = 1 then { b with phase := 2, periods := sets }
      else if b.phase = 2 then { b with phase := 3, periods := s.pn Prm.LIB_MAP_BETA_PERIODS }
      else { b with periods := 0 }
    [.lib fun l => { l with build := some next }]

/-- A code period ends (R464, R466 to R472; E176). -/
def actLibPeriodEnd : Act := fun s =>
  if !libEn s then [] else
  let es := estimates s
  let steps := libSteps s es
  acts [eff [.raise 176, .prm Prm.LIB_PERIODS (s.prm Prm.LIB_PERIODS + 1)], register es 0, register es 1, reportEstimates es steps, libUpdate steps,
    endBlocks, buildPeriod,
    eff ((List.range 64).map (fun l => .prm (Prm.LIB_PHOTO l) (w32 (putBits (s.pn (Prm.LIB_PHOTO l)) 15 0 (s.lib.photos.getD l 0)))) ++
      [.lib fun l => { l with since := l.since + 1, photos := .empty }]), syncLib] s

/-! ### Rollbacks and switches -/

/-- A rollback takes the inactive bank (R474): the logs newer than its target, newest first, or the baseline of every tile. -/
def beginRollback : Act := fun s =>
  match s.lib.wait with
  | none => []
  | some (f, ticket, gen, stop) =>
    if s.pat.writer ≠ 0 ∨ s.pat.switching ∨ s.lib.update.isSome then [] else
    let logs := s.lib.history.takeWhile fun h => h.gen != gen
    let drop := if gen = 0 then s.lib.history.length else logs.length
    let recs := if gen = 0 then
        ((tiles s).flatMap fun t => let e := mqTile s.mqt t; (List.range (tlCols e * tlRows e)).map (tlBase e + ·)).filterMap fun i =>
          if baseRecord s i = s.activeBank.record i then none else some (i, baseRecord s i)
      else
        let m := logs.foldl (fun (m : FMap Bytes) h => h.log.foldl (fun m x => m.put x.1 x.2) m) (.empty : FMap Bytes)
        m.entries
    acts [eff [.lib fun l => { l with wait := none }], writeUpdate recs (some (f, ticket, drop, stop))] s

/-- The frame for which an update is armed: the first boundary at least 200 µs ahead, and LIB_COMMIT_MIN_S after the last libration
switch, at the shortest period (R472). -/
def armFrame (s : State) : Nat :=
  let g := libGroup s
  let due := max (s.vis + 200000 * NS) (s.lib.lastSwitch + s.pn Prm.LIB_COMMIT_MIN_S * SEC)
  let per := max 1 (perTime (grpMin s g))
  let last := (s.group g).last.getD s.vis
  (groupFrame s g + max 1 ((due - last + per - 1) / per)) % 2 ^ 48

/-- The update is armed; on the active of a pair once the standby has acknowledged it (R719). -/
def armNow : Act := fun s => [.lib fun l => { l with update := l.update.map fun u => { u with armed := some (armFrame s) } }]

def armUpdate : Act := fun s =>
  if !mirrors s then armNow s
  else if s.flt.mirror.any (·.2 == 255) then []
  else match s.lib.update with
    | some u => mirrorOut 255 ([0] ++ leBytes 1 (libGroup s) ++ leBytes 8 (armFrame s) ++
        itemBytes (.obj K_SWITCH 0 (some (u.log.flatMap fun x => leBytes 4 (2 ^ 30 + x.1) ++ s.idleBank.record x.1 ++ leBytes 8 0)))) s
    | none => []

/-- R470, R472, R478: the writing ends. A rollback that waits discards an update that is not armed by itself. -/
def actLibUpdateWritten : Act := fun s =>
  match s.lib.update with
  | none => []
  | some u =>
    if u.written then [] else
    acts [eff [.lib fun l => { l with update := some { u with written := true } }, .raise 177],
      (if u.rollback.isSome || bitOf (s.pn Prm.LIB_CTRL) 2 then armUpdate
       else if s.lib.wait.isSome then eff [.lib fun l => { l with update := none }, startSync] else eff []), syncLib] s

/-- The switch of an armed update at a boundary of LIB_GROUP (R472 to R474). -/
def libSwitch : Act := fun s =>
  match s.lib.update with
  | none => []
  | some u =>
    if u.armed.all fun f => decide (frameAhead s (libGroup s) f > 0) then [] else
    let gen := (s.pat.gen + 1) % 2 ^ 64
    acts [patSwitch false,
      eff ([.raise 178, .prm Prm.LIB_GEN_LO (w32 gen), .prm Prm.LIB_GEN_HI (w32 (gen / 2 ^ 32)),
        .lib fun l => { l with
          update := none, lastSwitch := s.vis,
          stopped := l.stopped || (match u.rollback with | some (_, _, _, stop) => stop | none => false),
          history := match u.rollback with
            | some (_, _, drop, _) => l.history.drop drop
            | none => (⟨gen, s.vis, u.log⟩ :: l.history).take 8 }]),
      (match u.rollback with
       | some (f, ticket, _, _) => acts [completeTicket f ticket ST_OK (leBytes 8 gen ++ leBytes 4 u.log.length ++ leBytes 4 0), eff [.raise 181]]
       | none => eff [])] s

/-- R460, R473: after a PAT_LOAD switch the history is empty and the entries of the loaded tiles are not valid. -/
def libAfterLoad : Act := fun s =>
  let inLoad := fun i => (lampOf s i).any fun x => s.pat.loaded.contains x.1
  [.lib fun l => { l with history := [], map := ⟨l.map.entries.map fun e => (e.1, if inLoad e.1 then leBytes 32 (putBits (leNat e.2) 31 31 0) else e.2)⟩ }]

/-- A boundary of LIB_GROUP: masking, chip, latches shown, shedding, resets, restarts and the switch (R443, R446, R447, R477, R480). -/
def libBoundary (times : List (Nat × Nat)) : Act := fun s =>
  let f := groupFrame s (libGroup s)
  let old := s.vis - 4 * SEC
  acts [
    eff ([.lib fun l => { l with
        mu := if libEn s then maskTable s else .empty, luma := .empty, shed := l.shedWant,
        restart := if f % libL s = 0 then false else l.restart,
        since := if libEn s then l.since else 0,
        acc := if l.resetDue then ⟨l.acc.entries.map fun e => (e.1, accMake (fun _ _ => 0) (fun _ => 0) 0 0 0 (accFlags e.2 % 2) (accNullRow e.2))⟩ else l.acc,
        touched := if l.resetDue then [] else l.touched, resetDue := false,
        shown := (times.reverse.map fun t => (t.1, t.2, f)) ++ l.shown.filter fun x => decide (old ≤ x.1),
        skips := l.skips.filter fun x => decide (old ≤ x.2), holds := l.holds.filter fun x => decide (old ≤ x.2) }] ++
      (if s.lib.shedWant && !s.lib.shed then [.count Prm.LIB_SHED_COUNT 1, .raise 184] else [])),
    libSwitch, beginRollback, syncLib] s

end Sys2Proof.Machine
end

