-- ==== Sys2Proof/Machine/Libration.lean ====
section
/-! DEFINITION. Libration's commands and events (chapter 12; rows LIB_MAP_BUILD to LIB_MAP_BUILD_DONE). -/
namespace Sys2Proof.Machine

/-! ### Events -/

/-- R418: the background sync ends; a rollback that waited takes the inactive bank. -/
def execPatSyncDone (s : State) : Host.Outcome State Fault Refusal := (acts [actPatSyncDone, beginRollback]).outcome s

def execLibPeriodEnd (s : State) : Host.Outcome State Fault Refusal := actLibPeriodEnd.outcome s
def execLibUpdateWritten (s : State) : Host.Outcome State Fault Refusal := actLibUpdateWritten.outcome s

/-- Chip edges that fall on lines of a frame: lines not accumulated (R453). -/
def edgeLines (s : State) (o : Observation) (lines : Nat) : Nat := (List.range lines).countP fun y => let w := o.window y; edgeIn s w.1 w.2

/-- R453, R456, R463, R476: a frame of a witness source, or the photosensor telemetry of a tile, is correlated. started is false where
a fifth later frame came first. -/
def actLibWitnessFrame (w : Fin 2) (photo : Option (Fin 64 × Fin 32)) (frame : Nat) (started : Bool) : Act := fun s =>
  if !libEn s ∨ !canInject s then [] else
  match photo with
  | some (l, hop) =>
    (match tileAt s l hop false with
     | none => []
     | some t =>
       if !bitOf (s.pn (Prm.LIB_PHOTO l)) 31 ∨ s.lib.shed then [] else
       let o := photoObservation s t (s.tlkTile l hop).photo
       acts [observe o, eff [.lib fun v => { v with photos := v.photos.upd l 0 (· + 1) }]] s)
  | none =>
    let sn := s.pn (Prm.LIB_WIT_SENSOR w)
    if !bitOf sn 31 then [] else
    match (s.sns (sn % 8)).info.find? fun i => i.frame == frame with
    | none => []
    | some i =>
      if !started ∨ i.incomplete ∨ i.early ∨ s.lib.shed then [.count (Prm.LIB_WIT_EXCL_FRAME w) 1] else
      let o := frameObservation s w frame i.ts
      acts [observe o, eff [.count (Prm.LIB_WIT_FRAMES w) 1,
        .count (Prm.LIB_WIT_EXCL_EDGE w) (edgeLines s o (s.pn (Prm.SAL_SNS_SIZE (sn % 8)) / 65536))]] s

def execLibWitnessFrame (w : Fin 2) (photo : Option (Fin 64 × Fin 32)) (frame : Nat) (started : Bool) (s : State) :
    Host.Outcome State Fault Refusal := (actLibWitnessFrame w photo frame started).outcome s

/-- Gain of an emitter's row from its baseline, at 2^-32; 1 where the baseline sums to zero. -/
def kappa (s : State) (idx k : Nat) : Nat :=
  let d := rowSum (baseRecord s idx) k
  if d = 0 then 2 ^ 32 else rowSum (s.activeBank.record idx) k * 2 ^ 32 / d

/-- R458: a measured entry as the map holds it: BETA is R × κ, SET and CODE 0, VALID set. -/
def builtEntry (s : State) (src idx : Nat) (e : Bytes) : Bytes :=
  let e := field e 0 32
  leBytes 2 (meX e % 32768) ++ leBytes 2 (32768 + meY e) ++ leBytes 1 (src + 16 * mePhoto e) ++ leBytes 1 0 ++
    (if src = 2 then List.replicate 9 0 else field e 6 9) ++
    ((List.range 5).flatMap fun k => leBytes 2 (min 65535 (divRound (meBeta e k * kappa s idx k) (2 ^ 32)))) ++ List.replicate 7 0

/-- R459, E182: the last phase of a build has ended; found lists the lamps that showed a usable response, with what was measured. -/
def actLibMapBuildDone (found : List (Nat × Bytes)) : Act := fun s =>
  match s.lib.build with
  | none => []
  | some b =>
    if b.phase ≠ 3 ∨ b.periods ≠ 0 then [] else
    let idxs := (List.range b.count).flatMap fun n => let e := mqTile s.mqt (b.first + n); (List.range (tlCols e * tlRows e)).map (tlBase e + ·)
    let mine := fun i => found.find? fun x => x.1 == i
    let mapped := idxs.countP fun i => (mine i).isSome
    acts [
      eff [.lib fun l => { l with
        build := none, wits := l.wits.upd b.src ⟨false, 0, 0, false⟩ (fun w => { w with lost := false, below := 0, built := true }),
        map := idxs.foldl (fun m i => match mine i with
          | some x => m.put i (builtEntry s b.src i x.2)
          | none => if m.has i then m.put i (leBytes 32 (putBits (leNat (m.getD i [])) 31 31 0)) else m) l.map }],
      libAssign, completeTicket b.f b.ticket ST_OK (leBytes 4 mapped ++ leBytes 4 (idxs.length - mapped)), eff [.raise 182], syncLib] s

def execLibMapBuildDone (found : List (Nat × Bytes)) (s : State) : Host.Outcome State Fault Refusal := (actLibMapBuildDone found).outcome s

/-! ### Commands (R479, R480) -/

/-- The ticket just opened for the command in service. -/
def newTicket (c : Svc) (s : State) : Nat := (((s.mbx c.f).tickets.getLast?).map (·.id)).getD 0

def hLibMapBuild (c : Svc) (s : State) : Reply :=
  let src := c.n 0 1
  let first := c.n 2 2
  let count := c.n 4 2
  let sets := (count + libN s - 2) / (libN s - 1)
  checks [c.badLen 8, needCal c s, (2 < src || count == 0 || decide (mqTiles s.mqt < first + count), ST_BAD_PARAM), c.rsv 1 1, c.rsv 6 2,
    (!canInject s, ST_CONFLICT), (s.lib.build.isSome, ST_BUSY)]
    (.pending (acts [fun s => [.lib fun l => { l with build := some (if src = 2
        then ⟨c.f, newTicket c s, src, first, count, 3, s.pn Prm.LIB_MAP_BETA_PERIODS⟩ else ⟨c.f, newTicket c s, src, first, count, 1, sets⟩) }], syncLib]))

def execLibMapBuild (s : State) : Host.Outcome State Fault Refusal := (turn 0x900 hLibMapBuild).outcome s

def hLibMapLoad (c : Svc) (s : State) : Reply :=
  checks [c.badLen 24, needCal c s, (!memOwned s c.f (c.n 8 8) (c.n 4 4), ST_DENIED), (isStandby s, ST_CONFLICT)] (.pending fun _ => [])

def execLibMapLoad (s : State) : Host.Outcome State Fault Refusal := (turn 0x901 hLibMapLoad).outcome s

/-- An entry of a map image is well formed (R457, R461). -/
def mapEntryOk (e : Bytes) : Bool :=
  decide (meX e < 32768) && !bitOf (fieldN e 2 2) 14 && decide (meSrc e ≤ 2) && byteAt e 4 / 4 % 4 == 0 && meSet e == 0 && zeroAt e 25 7 &&
  (!meValid e || (if meSrc e = 2 then zeroAt e 6 9 else ((List.range 9).map (meW e)).foldl (· + ·) 0 == 128))

/-- R461, R480: a map image is well formed and its range is whole tiles. -/
def mapImageOk (s : State) (b : Bytes) : Bool :=
  let first := fieldN b 8 4
  let count := fieldN b 12 4
  b.take 5 == [0x4C, 0x57, 0x4D, 0x50, 1] && zeroAt b 5 3 && zeroAt b 20 44 && fieldN b 16 4 == 64 + 32 * count && b.length == 64 + 32 * count &&
  decide (first + count ≤ 33554432) && (wholeTiles (loadMqt s) first count).isSome && (List.range count).all fun i => mapEntryOk (field b (64 + 32 * i) 32)

def workLibMapLoad (f : Nat) (t : Ticket) (s : State) : Reply :=
  let p := t.payload
  match imageOf s (fieldN p 8 8) (fieldN p 4 4) (fieldN p 16 4) with
  | none => .refuse ST_INPUT_CORRUPT
  | some b =>
    if !mapImageOk s b ∨ !zeroAt p 0 4 ∨ !zeroAt p 20 4 then .refuse ST_BAD_PARAM
    else .ok (field b 8 8) (eff [stage f (.obj K_LIBMAP 0 (some b))])

def hLibMapRead (c : Svc) (s : State) : Reply :=
  checks [c.badLen 24, needCal c s, (decide (33554432 < c.n 0 4 + c.n 4 4), ST_BAD_PARAM), c.rsv 12 4,
    (!memOwned s c.f (c.n 16 8) (c.n 8 4), ST_DENIED)] (.pending fun _ => [])

def execLibMapRead (s : State) : Host.Outcome State Fault Refusal := (turn 0x902 hLibMapRead).outcome s

def workLibMapRead (t : Ticket) (s : State) : Reply :=
  let p := t.payload
  copyOut (fieldN p 8 4) (fieldN p 16 8) ((List.range (fieldN p 4 4)).flatMap fun i => libEntry s (fieldN p 0 4 + i))

/-- R474, R478, R480. -/
def hLibRollback (c : Svc) (s : State) : Reply :=
  let gen := c.n 0 8
  let stop := c.n 8 1 % 2 == 1
  let running := s.lib.update.any fun u => u.rollback.isSome
  let plain := s.lib.update.any fun u => u.rollback.isNone && u.written && u.armed.isNone
  checks [c.badLen 12, needCal c s, (1 < c.n 8 1, ST_BAD_PARAM), c.rsv 9 3,
    (gen != 0 && (gen == s.pat.gen || !s.lib.history.any fun h => h.gen == gen), ST_BAD_PARAM),
    (s.pat.writer == 1 || switchStaged s || (s.pat.switching && s.pat.fromLoad) || s.lib.build.isSome || running || s.lib.wait.isSome, ST_BUSY)]
    (.pending (acts [fun s => [.lib fun l => { l with wait := some (c.f, newTicket c s, gen, stop) }],
      eff (if plain then [.lib fun l => { l with update := none }, startSync] else []), beginRollback, syncLib]))

def execLibRollback (s : State) : Host.Outcome State Fault Refusal := (turn 0x903 hLibRollback).outcome s

def hLibInfo (c : Svc) (s : State) : Reply :=
  checks [c.badLen 0, needCal c s]
    (.ok (leBytes 4 (s.pn Prm.LIB_STATE) ++ leBytes 4 (s.pn Prm.LIB_PERIODS) ++ leBytes 4 (s.pn Prm.LIB_CHIP) ++ leBytes 1 s.lib.history.length ++
      [0, 0, 0] ++ field (s.lib.history.flatMap fun h => leBytes 8 h.gen ++ timeBytes h.time ++ leBytes 4 h.log.length) 0 192) fun _ => [])

def execLibInfo (s : State) : Host.Outcome State Fault Refusal := (turn 0x904 hLibInfo).outcome s

/-- ĝ in UQ2.14; where E is 0 there is no quotient and the value is free (notes/assumptions/58). -/
def gainField (e : Estimate) : Nat :=
  if e.e = 0 then Config.freeAt 58 [e.idx, e.k] % 65536 else min 65535 (divRound (e.a.toNat * 2 ^ 44) e.e)

def hLibLampInfo (c : Svc) (s : State) : Reply :=
  let idx := c.n 0 4
  let x := accBlock s (idx / 32)
  let one := fun k =>
    let ty := ((codable s idx).find? (·.1 == k)).elim 0 (·.2)
    let e := estimate s idx k (max 1 ty)
    if ty = 0 then leBytes 4 (unsgn 32 (accA x (idx % 32) k)) ++ List.replicate 8 0
    else leBytes 4 (unsgn 32 e.a) ++ leBytes 2 (gainField e) ++ leBytes 2 e.snr ++ leBytes 2 (min 65535 (divRound (kappa s idx k) (2 ^ 18))) ++ [0, 0]
  checks [c.badLen 4, needCal c s, (33554431 < idx, ST_BAD_PARAM)]
    (.ok (libEntry s idx ++ (List.range 5).flatMap one ++ leBytes 4 (accEnergy x) ++ leBytes 2 (accFrames x) ++ leBytes 1 (accPeriods x) ++
      leBytes 1 (accFlags x)) fun _ => [])

def execLibLampInfo (s : State) : Host.Outcome State Fault Refusal := (turn 0x905 hLibLampInfo).outcome s

def hLibReset (c : Svc) (s : State) : Reply :=
  checks [c.badLen 0, needCal c s] (.ok [] (eff [.lib fun l => { l with resetDue := true }]))

def execLibReset (s : State) : Host.Outcome State Fault Refusal := (turn 0x906 hLibReset).outcome s

/-- R472, R480: an update already armed keeps its frame. -/
def hLibCommit (c : Svc) (s : State) : Reply :=
  let frame := (s.lib.update.bind (·.armed)).getD (armFrame s)
  checks [c.badLen 0, needCal c s, (!s.lib.update.any fun u => u.written, ST_NO_CONTEXT)]
    (.ok (leBytes 8 frame) (acts [eff [.lib fun l => { l with update := l.update.map fun u => { u with armed := some frame } }], syncLib]))

def execLibCommit (s : State) : Host.Outcome State Fault Refusal := (turn 0x907 hLibCommit).outcome s

end Sys2Proof.Machine
end

