-- ==== Sys2Proof/Machine/ClipBase.lean ====
section
/-! DEFINITION. The drives of the clip store: blocks, namespaces, and what holds them (chapter 16, R564 to R572). -/
namespace Sys2Proof.Machine

def effCst (g : Cst → Cst) : Eff := .cst g
def effDisk (g : Disk → Disk) : Eff := .cst fun c => { c with disk := g c.disk }

/-- Drives in the store (D). -/
def State.dCount (s : State) : Nat := s.cst.disk.ports.length

/-- The store is ready (R567). -/
def storeReady (s : State) : Bool := s.flag Reg.CST_STORE_STAT Fld.CST_STORE_STAT.READY

/-- R567: every command but two fails while the store is unavailable. -/
def noStore (s : State) : Bool × Nat := (!storeReady s, ST_MEDIA_ERROR)

/-! ### Blocks -/

/-- Bytes of a block. -/
def BLK : Nat := 4096

/-- Blocks of one GiB, which is one chunk (R566). -/
def GIB : Nat := 262144

def blockKey (space lba : Nat) : Nat := space * 2 ^ 40 + lba

/-- The content of a block. -/
def Disk.block (d : Disk) (space lba : Nat) : Bytes := (d.blocks.find (blockKey space lba)).getD (List.replicate BLK 0)

/-- A block stored; one that is all 0 is not listed. -/
def Disk.setBlock (d : Disk) (space lba : Nat) (bs : Bytes) : Disk :=
  { d with blocks := if bs.all (· == 0) then d.blocks.del (blockKey space lba) else d.blocks.put (blockKey space lba) bs }

/-- A block written (R578): with FUA it is durable; without, what it held before may come back until a flush. -/
def Disk.write (d : Disk) (writer : Nat) (fua : Bool) (space lba : Nat) (bs : Bytes) : Disk :=
  let k := blockKey space lba
  let old := match d.dirty.find k with
    | some x => x.2
    | none => d.block space lba
  { d.setBlock space lba bs with dirty := if fua then d.dirty.del k else d.dirty.put k (writer, old) }

/-- Consecutive blocks written from bytes; n blocks. -/
def Disk.writeRun (writer : Nat) (fua : Bool) (space : Nat) : Nat → Nat → Bytes → Disk → Disk
  | 0, _, _, d => d
  | n + 1, lba, bs, d => Disk.writeRun writer fua space n (lba + 1) (bs.drop BLK) (d.write writer fua space lba (field bs 0 BLK))

/-- Bytes of n blocks. -/
def Disk.readRun (d : Disk) (space lba n : Nat) : Bytes := (List.range n).flatMap fun i => d.block space (lba + i)

/-- Bytes of a namespace from a byte offset. -/
def Disk.bytesAt (d : Disk) (space off n : Nat) : Bytes :=
  ((d.readRun space (off / BLK) ((off % BLK + n + BLK - 1) / BLK)).drop (off % BLK)).take n

/-- R578: the writes of a writer are durable. -/
def Disk.flush (d : Disk) (writer : Nat) : Disk := { d with dirty := d.dirty.filter fun _ e => e.1 % 128 != writer }

/-- Blocks made to read as zero. -/
def Disk.clear (space : Nat) : Nat → Nat → Disk → Disk
  | 0, _, d => d
  | n + 1, lba, d =>
    let k := blockKey space lba
    Disk.clear space n (lba + 1) { d with blocks := d.blocks.del k, dirty := d.dirty.del k }

/-- The root port position of the drive that holds a block (R568). -/
def State.driveOf (s : State) (lba : Nat) : Nat := s.cst.disk.ports.getD (if s.dCount = 0 then 0 else lba / 32 % s.dCount) 0

/-- The drive's own block for a namespace block: after the label, in the namespace's chunks in order (R566, R568). -/
def driveLba (s : State) (space lba : Nat) : Nat :=
  let v := if s.dCount = 0 then 0 else lba / 32 / s.dCount
  let c := ((s.cst.disk.spaces.find space).map fun n => n.chunks.getD (v / 8192) 0).getD 0
  256 + c * GIB + v % 8192 * 32 + lba % 32

/-- One NVMe command to a drive: opcode, FUA, its block and count (the wire form is PRESUMED, notes/assumptions/38). -/
def nvme (drive op : Nat) (fua : Bool) (lba n : Nat) : Eff :=
  .emit (.packet 4 drive (leBytes 1 op ++ leBytes 1 (if fua then 1 else 0) ++ leBytes 4 n ++ leBytes 8 lba))

/-! ### Namespaces -/

def State.space (s : State) (n : Nat) : Option Namespace := s.cst.disk.spaces.find n

/-- A namespace that a principal reaches: its own, or any for F0, but never the system namespace (R569, R571). -/
def reachable (s : State) (f n : Nat) : Option Namespace :=
  if n = 0 ∨ 64 ≤ n then none else
  match s.space n with
  | some x => if (x.owner = f ∨ f = 0) ∧ x.deleting.isNone then some x else none
  | none => none

/-- 0 none, 1 recorder, 2 playback. -/
def heldBy (s : State) (n : Nat) : Nat :=
  if s.cst.recs.entries.any fun e => e.2.space == n then 1
  else if s.cst.plays.entries.any fun e => e.2.space == n then 2 else 0

/-- Chunks of every drive that no namespace has. -/
def freeChunks (s : State) : List Nat :=
  let used := s.cst.disk.spaces.entries.flatMap fun e => e.2.chunks
  (List.range s.cst.disk.chunks).filter fun c => !used.contains c

/-- GiB of a namespace, which are its chunks on all the drives. -/
def spaceGib (n : Namespace) : Nat := n.blocks / GIB

/-- The clip-store quotas of a function: namespaces and GiB (R570). -/
def cstQuota (s : State) (f : Nat) : Nat × Nat :=
  match s.obj K_QUOTA (64 + f) with
  | some b => (fieldN b 0 1, fieldN b 1 4)
  | none => (0, 0)

/-- CST_NS_USED and CST_FREE follow the namespaces; CST_CAPACITY the store. -/
def syncSpaces : Act := fun s =>
  let d := s.dCount
  let cap := s.cst.disk.chunks * GIB * d
  let free := (freeChunks s).length * GIB * d
  [.prm Prm.CST_NS_USED (w32 s.cst.disk.spaces.size), .prm Prm.CST_CAPACITY_LO (w32 cap), .prm Prm.CST_CAPACITY_HI (w32 (cap / 2 ^ 32)),
   .prm Prm.CST_FREE_LO (w32 free), .prm Prm.CST_FREE_HI (w32 (free / 2 ^ 32))]

/-- The store becomes ready or unavailable (R567). -/
def setReady (ready : Bool) : Act := acts [
  (fun s => [.fld Reg.CST_STORE_STAT Fld.CST_STORE_STAT.READY (if ready then 1 else 0),
    .fld Reg.CST_STORE_STAT Fld.CST_STORE_STAT.UNAVAILABLE (if ready then 0 else 1),
    .fld Reg.CST_STORE_STAT Fld.CST_STORE_STAT.DRIVES (if ready then s.dCount else 0)]),
  fun s => if ready then syncSpaces s else []]

/-- A drive is present, ready and passes every check of R565. -/
def drvUsable (s : State) (d : Nat) : Bool :=
  let v := s.pn (Prm.DRV_STATE d)
  bitOf v 0 && bitOf v 1 && v / 16 % 16 == 0

/-- Usable drives. -/
def usableDrives (s : State) : List Nat := (List.range 8).filter (drvUsable s)

/-- Blocks of a drive. -/
def drvBlocks (s : State) (d : Nat) : Nat := s.pn64 (Prm.DRV_CAP_LO d)

/-! ### Power states (R581, R582) -/

def pstate (s : State) : Nat := s.fld Reg.CST_STORE_STAT Fld.CST_STORE_STAT.PSTATE

/-- The drives' NVMe power state shown in DRV_STATE. Which state of a drive is the one of IDLE or SLEEP is the drive's own: a free
value of the drive (notes/assumptions/60). -/
def drvPower (st : Nat) : Act := fun s =>
  s.cst.disk.ports.map fun d =>
    .prm (Prm.DRV_STATE d) (w32 (putBits (s.pn (Prm.DRV_STATE d)) 11 8 (if st = 0 then 0 else Config.freeAt 60 [d, st])))

/-- A piece is issued: the store is ACTIVE; a wait for the exit is counted. -/
def wakeStore : Act := fun s =>
  if pstate s = 0 then [] else
  [.fld Reg.CST_STORE_STAT Fld.CST_STORE_STAT.PSTATE 0, .count Prm.CST_PS_EXITS 1, .count Prm.CST_DELAYED_REPLIES 1] ++ drvPower 0 s

/-- Pieces at the drives. -/
def outstanding (s : State) : Nat := s.cst.tasks.entries.foldl (fun a e => a + e.2.pieces.countP (·.issued)) 0

/-- IDLE: no piece for CST_IDLE_MS. -/
def actCstIdleEntry : Act := fun s =>
  if !storeReady s ∨ pstate s ≠ 0 ∨ outstanding s ≠ 0 then [] else
  [.fld Reg.CST_STORE_STAT Fld.CST_STORE_STAT.PSTATE 1, .count Prm.CST_PS_ENTRIES 1] ++ drvPower 1 s

def execCstIdleEntry (s : State) : Host.Outcome State Fault Refusal := actCstIdleEntry.outcome s

/-- SLEEP: no piece for a further CST_SLEEP_MS; never if 0. -/
def actCstSleepEntry : Act := fun s =>
  if pstate s ≠ 1 ∨ s.pn Prm.CST_SLEEP_MS = 0 then [] else
  [.fld Reg.CST_STORE_STAT Fld.CST_STORE_STAT.PSTATE 2, .count Prm.CST_PS_ENTRIES 1] ++ drvPower 2 s

def execCstSleepEntry (s : State) : Host.Outcome State Fault Refusal := actCstSleepEntry.outcome s

end Sys2Proof.Machine
end

