-- ==== Sys2Proof/Machine/ClipStore.lean ====
section
/-! DEFINITION. Clip-store tasks and the namespace commands (chapter 16; rows CST_TASK_READ to CST_NS_QUOTA, NVME_ABORT_TIMEOUT). -/
namespace Sys2Proof.Machine

/-! ### Tasks (R574 to R580) -/

def OP_READ : Nat := 1
def OP_WRITE : Nat := 2
def OP_FLUSH : Nat := 3
def OP_DEALLOCATE : Nat := 4

def State.task (s : State) (f : Nat) : Option Task := s.cst.tasks.find f

def effTask (f : Nat) (g : Task → Task) : Eff := effCst fun c => { c with tasks := c.tasks.alter f g }

/-- An act whose register changes may signal the function's own vectors (R154). -/
def signalling (f : Nat) (a : Act) : Act := fun s =>
  a s ++ (hwMessages s.regs (a.run s).regs (localVectors s f)).map .emit

/-- Pieces of a task: cut at the boundaries of 128 KiB units (R576); n bounds their number. -/
def cutPieces : Nat → Nat → Nat → List Piece
  | 0, _, _ => []
  | n + 1, lba, blocks =>
    if blocks = 0 then [] else
    let k := min blocks (32 - lba % 32)
    ⟨lba, k, false⟩ :: cutPieces n (lba + k) (blocks - k)

/-- STATUS and the result registers, then DONE (R577). -/
def endTask (f st done err : Nat) : Act := signalling f fun s => [
  .fld (Reg.CST_TASK_STATUS f) Fld.CST_TASK_STATUS.STATUS st, .reg (Reg.CST_TASK_RESULT f) (w32 done)] ++
  setReg64 (Reg.CST_TASK_ERR_LBA_LO f) err ++
  [.fld (Reg.CST_TASK_STATUS f) Fld.CST_TASK_STATUS.BUSY 0, .fld (Reg.CST_TASK_CMD f) Fld.CST_TASK_CMD.GO 0,
   .fld (Reg.CST_TASK_STATUS f) Fld.CST_TASK_STATUS.DONE 1,
   effCst (fun c => { c with tasks := c.tasks.del f }),
   .fld Reg.CST_STORE_STAT Fld.CST_STORE_STAT.INFLIGHT (s.cst.tasks.del f).size,
   .count (if st = ST_OK then Prm.CST_TASKS_OK else Prm.CST_TASKS_FAILED) 1]

/-- A piece of an earlier task touches the same unit and is not issued yet (R579). -/
def pieceBlocked (s : State) (t : Task) (p : Piece) : Bool :=
  s.cst.tasks.entries.any fun e => decide (e.2.order < t.order) && e.2.space == t.space && e.2.op != OP_FLUSH && t.op != OP_FLUSH &&
    e.2.pieces.any fun q => !q.issued && q.lba / 32 == p.lba / 32

/-- The piece that a function's task issues next. -/
def nextPiece (s : State) (f : Nat) : Option Piece :=
  match s.task f with
  | none => none
  | some t => t.pieces.find? fun p => !p.issued && !pieceBlocked s t p

/-- The NVMe command of a piece: a flush goes to every drive. -/
def pieceCommand (s : State) (t : Task) (p : Piece) : List Eff :=
  if t.op = OP_FLUSH then s.cst.disk.ports.map fun d => nvme d 0 false 0 0
  else [nvme (s.driveOf p.lba) (if t.op = OP_READ then 2 else if t.op = OP_WRITE then 1 else 9) t.fua (driveLba s t.space p.lba) p.blocks]

/-- One piece of a function issued, if 64 are not outstanding (R576). -/
def issueOne (f : Nat) : Act := fun s =>
  if 64 ≤ outstanding s then [] else
  match s.task f, nextPiece s f with
  | some t, some p =>
    effTask f (fun t => { t with pieces := t.pieces.map fun q => if q.lba = p.lba then { q with issued := true } else q }) :: pieceCommand s t p
  | _, _ => []

/-- One round: a piece of each function with one to issue, ascending after the function served first in the round before. -/
def issueRound : Act := fun s =>
  let fs := ((List.range 64).map fun i => (s.cst.lastServed + 1 + i) % 64).filter fun f => (nextPiece s f).isSome
  if 64 ≤ outstanding s then [] else
  match fs with
  | [] => []
  | f :: _ => acts [wakeStore, actsFor fs issueOne, eff [effCst fun c => { c with lastServed := f }]] s

/-- Rounds until nothing more can be issued: at most 64 pieces. -/
def issuePieces : Act := acts (List.replicate 64 issueRound)

/-- R567 and the checks of R575 in order, of the task that the registers of f describe with this command word. -/
def taskChecks (s : State) (f : Nat) (v : Word) : Option Nat :=
  let op := getFld v Fld.CST_TASK_CMD.OP
  let n := s.fld (Reg.CST_TASK_BLOCKS f) Fld.CST_TASK_BLOCKS.BLOCKS
  let addr := s.rd64 (Reg.CST_TASK_ADDR_LO f)
  let lba := s.rd64 (Reg.CST_TASK_LBA_LO f)
  let space := getFld v Fld.CST_TASK_CMD.NS
  let buffer := op == OP_READ || op == OP_WRITE
  let x := reachable s f space
  firstBad [noStore s,
    (op == 0 || 4 < op || (v &&& ~~~(regMask (Reg.CST_TASK_CMD f))) != 0 ||
      (if op = OP_FLUSH then n != 0 else n == 0 || decide (65536 < n)) || (buffer && addr % BLK != 0), ST_BAD_PARAM),
    (!s.holds f R_STORE, ST_DENIED),
    (x.isNone, ST_NO_CONTEXT),
    (decide ((x.map (·.blocks)).getD 0 < lba + n), ST_BAD_PARAM),
    (buffer && !rangeOk s f addr (n * BLK), ST_DENIED),
    ((op == OP_WRITE || op == OP_DEALLOCATE) && heldBy s space == 1, ST_CONFLICT)]

/-- R574: a GO of function f in its own set. The row of an opcode starts that opcode's tasks; the row of READ also takes the words
whose OP is none of the four. -/
def taskGo (f : Nat) (v : Word) (row : Nat) : Act := fun s =>
  let op := getFld v Fld.CST_TASK_CMD.OP
  let mine := if op = 0 ∨ 4 < op then OP_READ else op
  if getFld v Fld.CST_TASK_CMD.GO = 0 ∨ mine ≠ row then [] else
  let store := Eff.reg (Reg.CST_TASK_CMD f) v
  if s.flag (Reg.CST_TASK_STATUS f) Fld.CST_TASK_STATUS.BUSY then
    [store, .fld (Reg.CST_TASK_STATUS f) Fld.CST_TASK_STATUS.GO_LOST 1, .count Prm.CST_GO_LOST 1]
  else
    match taskChecks s f v with
    | some st => store :: endTask f st 0 0 s
    | none =>
      let n := s.fld (Reg.CST_TASK_BLOCKS f) Fld.CST_TASK_BLOCKS.BLOCKS
      let lba := s.rd64 (Reg.CST_TASK_LBA_LO f)
      let t : Task := ⟨op, getFld v Fld.CST_TASK_CMD.FUA == 1, getFld v Fld.CST_TASK_CMD.NS, lba, n, s.rd64 (Reg.CST_TASK_ADDR_LO f),
        if op = OP_FLUSH then [⟨0, 0, false⟩] else cutPieces n lba n, 0, none, s.cst.order⟩
      acts [
        eff [store, .fld (Reg.CST_TASK_STATUS f) Fld.CST_TASK_STATUS.BUSY 1,
          effCst fun c => { c with tasks := c.tasks.put f t, order := c.order + 1 }],
        (fun s => [.fld Reg.CST_STORE_STAT Fld.CST_STORE_STAT.INFLIGHT s.cst.tasks.size,
          .prm Prm.CST_INFLIGHT_MAX (w32 (max (s.pn Prm.CST_INFLIGHT_MAX) s.cst.tasks.size))]),
        issuePieces] s

def execCstTaskRead (f : Fn) (v : Word) (s : State) : Host.Outcome State Fault Refusal := (taskGo f v OP_READ).outcome s
def execCstTaskWrite (f : Fn) (v : Word) (s : State) : Host.Outcome State Fault Refusal := (taskGo f v OP_WRITE).outcome s
def execCstTaskFlush (f : Fn) (v : Word) (s : State) : Host.Outcome State Fault Refusal := (taskGo f v OP_FLUSH).outcome s
def execCstTaskDeallocate (f : Fn) (v : Word) (s : State) : Host.Outcome State Fault Refusal := (taskGo f v OP_DEALLOCATE).outcome s

/-- The effect of a piece that succeeds (R578). -/
def pieceEffect (f : Nat) (t : Task) (p : Piece) : Act := fun s =>
  let a := t.addr + (p.lba - t.lba) * BLK
  if t.op = OP_READ then [ringWrite a (s.cst.disk.readRun t.space p.lba p.blocks), .count64 Prm.CST_READ_BLOCKS_LO p.blocks]
  else if t.op = OP_WRITE then
    let bs := s.ringRead a (p.blocks * BLK)
    let w := f + 128 * (t.order * 2 ^ 40 + p.lba)
    [effDisk (Disk.writeRun w t.fua t.space p.blocks p.lba bs), .count64 Prm.CST_WRITE_BLOCKS_LO p.blocks]
  else if t.op = OP_FLUSH then [effDisk fun d => d.flush f]
  else [effDisk (Disk.clear t.space p.blocks p.lba)]

/-- The lowest failing piece (R577). -/
def noteFail (old : Option (Nat × Nat)) (lba st : Nat) : Option (Nat × Nat) :=
  match old with
  | some x => if x.1 ≤ lba then some x else some (lba, st)
  | none => some (lba, st)

/-- An issued piece ends, with a status; data that lies in a poisoned line fails it (R607). -/
def endPiece (f lba st : Nat) : Act := fun s =>
  match s.task f with
  | none => []
  | some t =>
    match t.pieces.find? fun p => p.issued && p.lba == lba with
    | none => []
    | some p =>
      let src := t.addr + (p.lba - t.lba) * BLK
      let st := if st = ST_OK ∧ t.op = OP_WRITE ∧ (firstPoison s src (p.blocks * BLK)).isSome then ST_INPUT_CORRUPT else st
      (if st = ST_OK then pieceEffect f t p s else []) ++
      [effTask f fun t =>
        { t with pieces := t.pieces.filter fun q => q.lba != lba, done := if st = ST_OK then t.done + p.blocks else t.done,
                 fail := if st = ST_OK then t.fail else noteFail t.fail lba st }]

/-- R577, R580: a drive command of a piece ends, with success or a drive error. -/
def actCstPieceDone (f : Fn) (lba : Nat) (ok : Bool) : Act := fun s =>
  match s.task f with
  | none => []
  | some t =>
    if !t.pieces.any fun p => p.issued && p.lba == lba then [] else
    acts [endPiece f lba (if ok then ST_OK else ST_MEDIA_ERROR),
      eff (if ok then [] else [.count Prm.CST_MEDIA_ERRS 1, .count (Prm.DRV_MEDIA_ERRS (s.driveOf lba)) 1]), issuePieces] s

def execCstPieceDone (f : Fn) (lba : Nat) (ok : Bool) (s : State) : Host.Outcome State Fault Refusal := (actCstPieceDone f lba ok).outcome s

/-- R577: the last piece has ended. -/
def actCstTaskDone (f : Fn) : Act := fun s =>
  match s.task f with
  | none => []
  | some t =>
    if t.pieces ≠ [] then [] else
    match t.fail with
    | none => endTask f ST_OK t.done 0 s
    | some (lba, st) => endTask f st t.done lba s

def execCstTaskDone (f : Fn) (s : State) : Host.Outcome State Fault Refusal := (actCstTaskDone f).outcome s

/-- R124, R126, R578: an abort of a function's task. Pieces that have not ended have no effect. -/
def abortTask (f : Nat) : Act := fun s =>
  match s.task f with
  | none => []
  | some t => acts [endTask f ST_ABORTED t.done 0, eff [.count Prm.CST_ABORTS 1], issuePieces] s

/-- R580: a drive command exceeds DRV_CMD_TIMEOUT_MS. -/
def actDrvCmdTimeout (f : Fn) (lba : Nat) : Act := fun s =>
  match s.task f with
  | none => []
  | some t =>
    if !t.pieces.any fun p => p.issued && p.lba == lba then [] else
    let d := s.driveOf lba
    acts [endPiece f lba ST_TIMEOUT,
      eff [nvme d 8 false 0 0, .count (Prm.DRV_TIMEOUTS d) 1, effCst fun c => { c with aborting := c.aborting ++ [d] }], issuePieces] s

def execDrvCmdTimeout (f : Fn) (lba : Nat) (s : State) : Host.Outcome State Fault Refusal := (actDrvCmdTimeout f lba).outcome s

/-- R580: the Abort does not complete: the drive's controller is reset and every piece outstanding on it fails. -/
def actNvmeAbortTimeout (d : Fin 8) : Act := fun s =>
  if !s.cst.aborting.contains d.val then [] else
  let hit := s.cst.tasks.entries.flatMap fun e =>
    (e.2.pieces.filter fun p => p.issued && (e.2.op == OP_FLUSH || s.driveOf p.lba == d.val)).map fun p => (e.1, p.lba)
  acts [actsFor hit (fun x => endPiece x.1 x.2 ST_TIMEOUT),
    eff [.count (Prm.DRV_RESETS d) 1, effCst fun c => { c with aborting := c.aborting.filter (· != d.val) }], issuePieces] s

def execNvmeAbortTimeout (d : Fin 8) (s : State) : Host.Outcome State Fault Refusal := (actNvmeAbortTimeout d).outcome s

/-! ### Store and namespace commands -/

/-- CST_STORE_INFO. -/
def hCstStoreInfo (c : Svc) (s : State) : Reply :=
  checks [c.badLen 0, c.lacks s R_STORE] (.ok (leBytes 4 (s.rd Reg.CST_STORE_STAT).toNat ++ leBytes 4 s.cst.disk.chunks ++
    leBytes 4 (freeChunks s).length ++ leBytes 4 (s.pn Prm.CST_EXIT_US_IDLE) ++ leBytes 4 (s.pn Prm.CST_EXIT_US_SLEEP)) fun _ => [])

def execCstStoreInfo (s : State) : Host.Outcome State Fault Refusal := (turn 0xE00 hCstStoreInfo).outcome s

/-- The store is in use: a format would take the ground from a recorder, a playback or a task (notes/assumptions/61). -/
def storeInUse (s : State) : Bool := !s.cst.recs.entries.isEmpty || !s.cst.plays.entries.isEmpty || !s.cst.tasks.entries.isEmpty

/-- CST_STORE_FORMAT. -/
def hCstStoreFormat (c : Svc) (s : State) : Reply :=
  checks [c.badLen 4, c.notF0, (c.n 0 4 != 0x464D5421, ST_BAD_PARAM), (storeInUse s, ST_CONFLICT),
    ((usableDrives s).isEmpty, ST_MEDIA_ERROR)] (.pending fun _ => [])

def execCstStoreFormat (s : State) : Host.Outcome State Fault Refusal := (turn 0xE01 hCstStoreFormat).outcome s

/-- R566, R569: labels, chunks, and the system namespace of 16 GiB rounded up to a multiple of D. -/
def workFormat (_ : Nat) (_ : Ticket) (s : State) : Reply :=
  let ds := usableDrives s
  let d := ds.length
  if storeInUse s then .refuse ST_CONFLICT else if d = 0 then .refuse ST_MEDIA_ERROR else
  let least := ds.foldl (fun m x => min m ((drvBlocks s x - 256) / GIB)) (65536 / d)
  let sys := (16 + d - 1) / d
  .ok [] (acts [
    eff (effDisk (fun _ => { Disk.init with ports := ds, chunks := least, spaces := .put .empty 0 ⟨0, sys * d * GIB, List.range sys, none⟩ }) ::
      ((List.range 8).map fun x => .prm (Prm.DRV_STATE x) (w32 (putBits (s.pn (Prm.DRV_STATE x)) 2 2 (if ds.contains x then 1 else 0)))) ++
      [.prm Prm.CST_SYS_NS_STATE 0, .prm Prm.CST_BASELINE_GEN_LO 0, .prm Prm.CST_BASELINE_GEN_HI 0]),
    setReady true])

/-- R570: the checks that depend on the store, and the chunks that the namespace takes. -/
def createChecks (s : State) (f gib : Nat) : List (Bool × Nat) :=
  let d := s.dCount
  let n := (gib + d - 1) / d
  let mine := s.cst.disk.spaces.entries.filter fun e => e.2.owner == f && e.1 != 0
  let have' := mine.foldl (fun a e => a + spaceGib e.2) 0
  let q := cstQuota s f
  [(decide (64 ≤ s.cst.disk.spaces.size) || (f != 0 && (decide (q.1 < mine.length + 1) || decide (q.2 < have' + n * d))), ST_TABLE_FULL),
   (decide ((freeChunks s).length < n), ST_NO_SPACE)]

/-- CST_NS_CREATE (R570). -/
def hCstNsCreate (c : Svc) (s : State) : Reply :=
  checks ([c.badLen 8, c.lacks s R_STORE, (c.n 0 4 == 0, ST_BAD_PARAM), c.rsv 4 4, noStore s] ++ createChecks s c.f (c.n 0 4))
    (.pending fun _ => [])

def execCstNsCreate (s : State) : Host.Outcome State Fault Refusal := (turn 0xE02 hCstNsCreate).outcome s

/-- R569: the lowest free number and the lowest chunks. -/
def workNsCreate (f : Nat) (t : Ticket) (s : State) : Reply :=
  let gib := fieldN t.payload 0 4
  let d := s.dCount
  let n := (gib + d - 1) / d
  match firstBad (noStore s :: createChecks s f gib), (List.range 64).find? fun i => i != 0 && (s.space i).isNone with
  | some st, _ => .refuse st
  | none, none => .refuse ST_TABLE_FULL
  | none, some i =>
    .ok (leBytes 1 i ++ [0, 0, 0] ++ leBytes 8 (n * d * GIB)) (acts [
      eff [effDisk fun k => { k with spaces := k.spaces.put i ⟨f, n * d * GIB, (freeChunks s).take n, none⟩ }], syncSpaces])

/-- CST_NS_DELETE (R572). -/
def hCstNsDelete (c : Svc) (s : State) : Reply :=
  let n := c.n 0 1
  checks [c.badLen 4, c.lacks s R_STORE, c.rsv 1 3, noStore s, ((reachable s c.f n).isNone, ST_NO_CONTEXT), (heldBy s n != 0, ST_CONFLICT)]
    (.pending (eff [effDisk fun d => { d with spaces := d.spaces.alter n fun x => { x with
      deleting := some (c.f, ticketId c.f (s.mbx c.f).nextTicket) } }]))

def execCstNsDelete (s : State) : Host.Outcome State Fault Refusal := (turn 0xE03 hCstNsDelete).outcome s

/-- The namespace's tasks have ended. -/
def nsQuiet (n : Nat) (s : State) : Bool := !s.cst.tasks.entries.any fun e => e.2.space == n

/-- R572: chunks deallocated and the number freed. -/
def workNsDelete (_ : Nat) (t : Ticket) (_ : State) : Reply :=
  let n := fieldN t.payload 0 1
  .ok [] (acts [
    eff [effDisk fun d => { d with spaces := d.spaces.del n, blocks := d.blocks.filter fun k _ => k / 2 ^ 40 != n,
                                   dirty := d.dirty.filter fun k _ => k / 2 ^ 40 != n }], syncSpaces])

/-- CST_NS_INFO. -/
def hCstNsInfo (c : Svc) (s : State) : Reply :=
  let n := c.n 0 1
  match reachable s c.f n with
  | none => checks [c.badLen 4, c.lacks s R_STORE, c.rsv 1 3, noStore s] (.refuse ST_NO_CONTEXT)
  | some x => checks [c.badLen 4, c.lacks s R_STORE, c.rsv 1 3, noStore s]
      (.ok (leBytes 1 x.owner ++ leBytes 1 (heldBy s n) ++ [0, 0] ++ leBytes 8 x.blocks) fun _ => [])

def execCstNsInfo (s : State) : Host.Outcome State Fault Refusal := (turn 0xE04 hCstNsInfo).outcome s

/-- CST_NS_QUOTA (R570). F0 has no quota. -/
def hCstNsQuota (c : Svc) (s : State) : Reply :=
  let f := c.n 0 1
  checks [c.badLen 8, c.notF0, (f == 0 || 64 ≤ f || 64 ≤ c.n 1 1, ST_BAD_PARAM), c.rsv 2 2, noStore s]
    (.ok [] (saveObj K_QUOTA (64 + f) (leBytes 1 (c.n 1 1) ++ leBytes 4 (c.n 4 4))))

def execCstNsQuota (s : State) : Host.Outcome State Fault Refusal := (turn 0xE05 hCstNsQuota).outcome s

end Sys2Proof.Machine
end

