-- ==== Sys2Proof/Machine/Recorder.lean ====
section
/-! DEFINITION. Recorders: takes, clip indices and directories (chapter 16, R584 to R590, R776, R777; rows REC_OPEN to REC_SLOT). -/
namespace Sys2Proof.Machine

def State.rec_ (s : State) (r : Nat) : Option Recorder := s.cst.recs.find r
def effRec (r : Nat) (g : Recorder → Recorder) : Eff := effCst fun c => { c with recs := c.recs.alter r g }
def effTake (r : Nat) (g : Take → Take) : Eff := effRec r fun x => { x with take := x.take.map g }

/-- Writer code of a recorder's blocks. -/
def recWriter (r : Nat) : Nat := 64 + r

/-! ### The directory (R588 to R590) -/

/-- The directory header is valid: MAGIC, VERSION and its CRC. -/
def dirValid (b : Bytes) : Bool :=
  field b 0 5 == [0x43, 0x4C, 0x50, 0x44, 1] && crc32 (field b 0 60) == fieldN b 60 4

/-- The directory header. -/
def dirHeader (nextLba nextClip : Nat) : Bytes :=
  let b := [0x43#8, 0x4C#8, 0x50#8, 0x44#8, 1#8, 0#8, 0#8, 0#8] ++ leBytes 4 4080 ++ leBytes 8 nextLba ++ leBytes 4 nextClip ++
    List.replicate 36 0
  b ++ leBytes 4 (crc32 b)

/-- Bytes of an entry. -/
def dirEntry (d : Disk) (space e : Nat) : Bytes := d.bytesAt space (BLK + 256 * e) 256

/-- STATE of an entry, and its CLIP_ID. -/
def entryState (d : Disk) (space e : Nat) : Nat := fieldN (dirEntry d space e) 4 1
def entryClip (d : Disk) (space e : Nat) : Nat := fieldN (dirEntry d space e) 0 4

/-- Entries of a directory that are not free (R776: only STATE is looked at). -/
def usedEntries (d : Disk) (space : Nat) : List Nat := (List.range 4080).filter fun e => [1, 2, 3].contains (entryState d space e)

/-- The lowest free entry. -/
def freeEntry (d : Disk) (space : Nat) : Option Nat := (List.range 4080).find? fun e => !([1, 2, 3] : List Nat).contains (entryState d space e)

/-- The CLIP_ID after one (R777). -/
def clipAfter (used : List Nat) : Nat → Nat → Nat
  | 0, n => n
  | k + 1, n =>
    let m := if n ≥ 0xFFFFFFFF then 1 else n + 1
    if used.contains m then clipAfter used k m else m

def nextClip (d : Disk) (space clip : Nat) : Nat := clipAfter ((usedEntries d space).map (entryClip d space)) 4081 clip

/-- A block of the directory written with some of its bytes replaced, as one write (R590). -/
def patchBlock (w space lba off : Nat) (bs : Bytes) (d : Disk) : Disk :=
  let old := d.block space lba
  d.write w false space lba (old.take off ++ bs ++ old.drop (off + bs.length))

def writeEntry (w space e : Nat) (bs : Bytes) (d : Disk) : Disk := patchBlock w space (1 + e / 16) (256 * (e % 16)) bs d
def writeHeader (w space nextLba clip : Nat) (d : Disk) : Disk := patchBlock w space 0 0 (dirHeader nextLba clip) d

/-- A clip entry (R590). -/
def clipEntry (t : Take) (state frames durable dropped blocks indexLba : Nat) : Bytes :=
  let b := leBytes 4 t.clip ++ leBytes 1 state ++ leBytes 1 ((if t.full then 1 else 0) + if t.audio.isSome then 2 else 0) ++
    leBytes 1 (t.audio.getD 255) ++ [0] ++ leBytes 8 t.first ++ leBytes 8 blocks ++ leBytes 8 indexLba ++ leBytes 4 frames ++
    leBytes 4 durable ++ leBytes 4 dropped ++ leBytes 4 t.firstSeq ++ field t.startTs 0 12 ++ field t.endTs 0 12 ++ field t.head 0 64 ++
    field t.name 0 32 ++ List.replicate 84 0
  b ++ leBytes 4 (crc32 b)

/-- A clip index entry (R590). -/
def indexEntry (off fb ab seq st : Nat) (ts : Bytes) (k : Nat) : Bytes :=
  leBytes 8 off ++ leBytes 4 fb ++ leBytes 4 ab ++ leBytes 4 seq ++ leBytes 2 st ++ [0, 0] ++ field ts 0 12 ++ leBytes 8 k ++ [0, 0, 0, 0]

/-- Blocks of n bytes. -/
def blocksOf (n : Nat) : Nat := (n + BLK - 1) / BLK

/-! ### Opening (R584, R585, R589) -/

/-- Frames of a clip that survived (R589): from a block, the frames whose header is valid and whose FRAME_SEQ rises by 1. Each frame
but the last is followed by its audio, which is under 1 MiB: the next header stands at the first block that holds one. Answers
index entries, the blocks they span, and the last header. -/
def scanClip (d : Disk) (space limit rate bytesPer : Nat) : Nat → Nat → Nat → Option Nat → List Bytes × Nat × Bytes
  | 0, _, off, _ => ([], off, [])
  | n + 1, first, off, prev =>
    let head := d.bytesAt space ((first + off) * BLK) 64
    let good := fun (b : Bytes) => field b 0 4 == [0x43, 0x41, 0x53, 0x54] && crc32 (field b 0 60) == fieldN b 60 4
    let seqOk := match prev with | some p => fieldN head 32 4 == (p + 1) % 2 ^ 32 | none => true
    if limit ≤ first + off ∨ !good head ∨ !seqOk then ([], off, []) else
    let seq := fieldN head 32 4
    let fb := fieldN head 52 4
    let lo := off + blocksOf fb
    let next := (List.range 257).find? fun i =>
      let b := d.bytesAt space ((first + lo + i) * BLK) 64
      good b && fieldN b 32 4 == (seq + 1) % 2 ^ 32
    let k := fun (b : Bytes) => (timeOf (field b 40 12) * rate + SEC - 1) / SEC
    let here := k head
    let ab := match next with
      | some i => if bytesPer = 0 then 0 else (k (d.bytesAt space ((first + lo + i) * BLK) 64) - here) * bytesPer
      | none => 0
    let (es, fin, last) := scanClip d space limit rate bytesPer n first (lo + next.getD 0) (some seq)
    (indexEntry off fb ab seq 0 (field head 40 12) (if ab = 0 then 0 else here) :: es, fin, if last.isEmpty then head else last)

/-- An open clip rebuilt: its index and entry with STATE = 3, and the directory header after it (R589). -/
def rebuildClip (s : State) (w space e : Nat) (d : Disk) : Disk :=
  let old := dirEntry d space e
  let first := fieldN old 8 8
  let audio := bitOf (fieldN old 5 1) 1
  let port := fieldN old 6 1
  let limit := ((s.space space).map (·.blocks)).getD 0
  let per := if audio then 2 * sampleSize (s.pn (Prm.AUD_PACK port)) else 0
  let (es, blocks, last) := scanClip d space limit (sysRate s) per limit first 0 none
  let index := es.flatten
  let t : Take := ⟨e, fieldN old 0 4, first, blocks, [], 0, 0, fieldN (es.headD []) 16 4, field (es.headD []) 24 12, field last 40 12,
    if es.isEmpty then [] else d.bytesAt space (first * BLK) 64, field old 136 32, if audio then some port else none, 0, 0, none, bitOf (fieldN old 5 1) 0⟩
  let d1 := Disk.writeRun w false space (blocksOf index.length) (first + blocks) index d
  let d2 := writeEntry w space e (clipEntry t 3 es.length es.length (fieldN old 40 4) blocks (first + blocks)) d1
  writeHeader w space (max (fieldN (d.bytesAt space 0 64) 12 8) (first + blocks + blocksOf index.length))
    (nextClip d space (fieldN (d.bytesAt space 0 64) 20 4)) d2

/-- Sum of the declared rates of the open recorders. -/
def recRates (s : State) : Nat := s.cst.recs.entries.foldl (fun a e => a + e.2.rate) 0

/-- The checks of R584 that depend on the store. -/
def recOpenChecks (s : State) (f r flags h n : Nat) : List (Bool × Nat) :=
  let j := s.job h
  let kind := match j with | some j => j.kind == 2 | none => false
  [noStore s, ((reachable s f n).isNone || j.isNone, ST_NO_CONTEXT), (!kind, ST_BAD_PARAM),
   ((s.rec_ r).isSome || s.cst.recs.entries.any (fun e => e.2.job == h) || heldBy s n != 0, ST_CONFLICT),
   (flags == 0 && !dirValid (s.cst.disk.bytesAt n 0 64), ST_BAD_PARAM),
   (s.pn Prm.CST_WRITE_MBS != 0 && decide (s.pn Prm.CST_WRITE_MBS < recRates s + s.pn (Prm.REC_RATE_MBS r)), ST_TABLE_FULL)]

/-- REC_OPEN (R584). -/
def hRecOpen (c : Svc) (s : State) : Reply :=
  let r := c.n 0 1
  checks ([c.badLen 8, c.notF0, (3 < r || 1 < c.n 1 1 || 4095 < c.n 2 2, ST_BAD_PARAM), c.rsv 5 3] ++
    recOpenChecks s c.f r (c.n 1 1) (c.n 2 2) (c.n 4 1)) (.pending fun _ => [])

def execRecOpen (s : State) : Host.Outcome State Fault Refusal := (turn 0xE10 hRecOpen).outcome s

/-- REC_STATE of a recorder. -/
def showRec (r : Nat) : Act := fun s =>
  [.prm (Prm.REC_STATE r) (match s.rec_ r with
    | some x => w32 ((if x.take.isSome then 2 else 1) + 256 * x.space + 65536 * x.job)
    | none => 0)]

/-- The recorder opens: an empty directory with FORMAT, or every open clip rebuilt. -/
def workRecOpen (f : Nat) (t : Ticket) (s : State) : Reply :=
  let p := t.payload
  let r := fieldN p 0 1
  let h := fieldN p 2 2
  let n := fieldN p 4 1
  let w := recWriter r
  match firstBad (recOpenChecks s f r (fieldN p 1 1) h n), s.job h with
  | some st, _ => .refuse st
  | none, none => .refuse ST_NO_CONTEXT
  | none, some j =>
    let d := s.cst.disk
    let d' := if fieldN p 1 1 = 1 then Disk.writeRun w false n 256 0 (dirHeader 256 1) d
      else (usedEntries d n).foldl (fun d e => if entryState d n e = 1 then rebuildClip s w n e d else d) d
    .ok [] (acts [eff [effDisk (fun _ => d'), effCst fun c => { c with recs := c.recs.put r ⟨h, n, s.pn (Prm.REC_RATE_MBS r), j.writeSeq, none⟩ }],
      showRec r])

/-! ### Takes (R588, R589) -/

/-- REC_TAKE: the checks both rows share. -/
def takeChecks (c : Svc) (s : State) (start : Bool) : List (Bool × Nat) :=
  let r := c.n 0 1
  [c.badLen 36, c.notF0, (3 < r, ST_BAD_PARAM), c.rsv 2 2, noStore s, ((s.rec_ r).isNone, ST_NO_CONTEXT),
   (match s.rec_ r with
    | some x => (match x.take with | some t => start || t.stop.isSome | none => !start)
    | none => false, ST_CONFLICT),
   (start && (match s.rec_ r with | some x => (freeEntry s.cst.disk x.space).isNone | none => false), ST_TABLE_FULL)]

/-- REC_TAKE with START. -/
def hTakeStart (c : Svc) (s : State) : Reply := checks (takeChecks c s true) (.pending fun _ => [])

/-- REC_TAKE with STOP: the take ends after the last slot written before this turn (R588). -/
def hTakeStop (c : Svc) (s : State) : Reply :=
  let r := c.n 0 1
  checks (takeChecks c s false) (.pending fun s =>
    match (s.rec_ r).bind fun x => s.job x.job with
    | some j => [effTake r fun t => { t with stop := some j.writeSeq }]
    | none => [effTake r fun t => { t with stop := some t.begin }])

/-- The turn of REC_TAKE: flags 1 START, 2 STOP; the row of START answers any other flags with ST_BAD_PARAM. -/
def takeTurn (start : Bool) : Act := fun s =>
  match s.arm.inService with
  | none => []
  | some c =>
    if c.n 1 1 = 1 then (if start then turn 0xE11 hTakeStart s else [])
    else if c.n 1 1 = 2 then (if start then [] else turn 0xE11 hTakeStop s)
    else if start then turn 0xE11 (fun c _ => checks [c.badLen 36, c.notF0] (.refuse ST_BAD_PARAM)) s else []

def execRecTakeStart (s : State) : Host.Outcome State Fault Refusal := (takeTurn true).outcome s
def execRecTakeStop (s : State) : Host.Outcome State Fault Refusal := (takeTurn false).outcome s

/-- A take opens: a clip entry at the lowest free entry with STATE = 1 (R588). -/
def workTakeStart (_ : Nat) (tk : Ticket) (s : State) : Reply :=
  let r := fieldN tk.payload 0 1
  match s.rec_ r with
  | none => .refuse ST_NO_CONTEXT
  | some x =>
    let d := s.cst.disk
    match freeEntry d x.space, s.job x.job with
    | none, _ => .refuse ST_TABLE_FULL
    | some _, none => .refuse ST_NO_CONTEXT
    | some e, some j =>
      if x.take.isSome then .refuse ST_CONFLICT else
      let hd := d.bytesAt x.space 0 64
      let a := s.pn (Prm.REC_AUDIO r)
      let t : Take := ⟨e, fieldN hd 20 4, fieldN hd 12 8, 0, [], j.dropped, 0, 0, [], [], [], field tk.payload 4 32,
        if bitOf a 31 then some (a % 8) else none, s.pn (Prm.REC_INDEX_EVERY r), j.writeSeq, none, false⟩
      .ok (leBytes 2 e ++ [0, 0] ++ leBytes 4 t.clip ++ leBytes 4 0) (acts [
        eff [effDisk (writeEntry (recWriter r) x.space e (clipEntry t 1 0 0 0 0 0)), effRec r (fun x => { x with take := some t }),
          .prm (Prm.REC_CLIP r) (w32 e), .prm (Prm.REC_FRAMES r) 0, .prm (Prm.REC_DROPPED r) 0, .prm (Prm.REC_FAILED r) 0,
          .prm (Prm.REC_BYTES_LO r) 0, .prm (Prm.REC_BYTES_HI r) 0, .prm (Prm.REC_BACKLOG_US r) 0, .count (Prm.REC_TAKES r) 1],
        showRec r])

/-- A take is closed: a flush, the index after the last frame, the entry with STATE = 2, then the header (R588). -/
def closeTake (r : Nat) : Act := fun s =>
  match s.rec_ r with
  | none => []
  | some x =>
    match x.take with
    | none => []
    | some t =>
      let w := recWriter r
      let index := t.index.reverse.flatten
      let n := t.index.length
      let dropped := (((s.job x.job).map (·.dropped)).getD t.dropped) - t.dropped
      let clip := clipEntry t 2 n n dropped t.wp (t.first + t.wp)
      acts [eff [effDisk fun d =>
          let d1 := Disk.writeRun w false x.space (blocksOf index.length) (t.first + t.wp) index (d.flush w)
          let d2 := writeEntry w x.space t.entry clip d1
          writeHeader w x.space (t.first + t.wp + blocksOf index.length) (nextClip d1 x.space t.clip) d2,
          effRec r fun x => { x with take := none }],
        showRec r] s

/-- The slots of a stopped take have all been handled. -/
def takeSettled (r : Nat) (s : State) : Bool :=
  match s.rec_ r with
  | some x => (match x.take with
    | some t => (match t.stop with
      | some q => decide ((x.last + 2 ^ 32 - q) % 2 ^ 32 < 2 ^ 31)
      | none => false)
    | none => true)
  | none => true

/-- The work of STOP, once the last slot's write has ended. -/
def workTakeStop (_ : Nat) (tk : Ticket) (s : State) : Reply :=
  let r := fieldN tk.payload 0 1
  match (s.rec_ r).bind (·.take) with
  | none => .refuse ST_NO_SPACE
  | some t => .ok (leBytes 2 t.entry ++ [0, 0] ++ leBytes 4 t.clip ++ leBytes 4 t.index.length) (closeTake r)

/-- REC_CLOSE. -/
def hRecClose (c : Svc) (s : State) : Reply :=
  let r := c.n 0 1
  checks [c.badLen 4, c.notF0, (3 < r, ST_BAD_PARAM), c.rsv 1 3, noStore s, ((s.rec_ r).isNone, ST_NO_CONTEXT),
    (((s.rec_ r).bind (·.take)).isSome, ST_CONFLICT)]
    (.ok [] (acts [eff [effCst fun c => { c with recs := c.recs.del r }, .prm (Prm.REC_HELD_SLOTS r) 0], showRec r]))

def execRecClose (s : State) : Host.Outcome State Fault Refusal := (turn 0xE12 hRecClose).outcome s

/-! ### Slots (R585 to R587, R589) -/

/-- The address of a slot of a record job. -/
def recSlot (j : CastJob) (n : Nat) : Nat := if j.slots = 0 then j.ring else j.ring + j.slotSize * (n % j.slots)

/-- The next later slot, up to a bound, that holds a good frame (R587). -/
def laterFrame (s : State) (j : CastJob) : Nat → Nat → Nat → Option Nat
  | 0, _, _ => none
  | k + 1, n, bound =>
    if n = bound then none else
    let q := (n + 1) % 2 ^ 32
    if leNat (s.ringRead (recSlot j q + 4) 2) = ST_OK then some q else laterFrame s j k q bound

/-- The system sample of a start of frame: ceil(SOF_TS × rate) (R587). -/
def sofSample (s : State) (ts : Nat) : Nat := (ts * sysRate s + SEC - 1) / SEC

/-- Audio of samples k up to k' of a port's ring (R587). -/
def takeAudio (s : State) (p k k' : Nat) : Bytes :=
  (List.range (k' - k)).flatMap fun i => s.ringRead (ringFrame s p (k + i)) (2 * sampleSize (s.pn (Prm.AUD_PACK p)))

/-- The slot is released: the counts of the recorder follow. The longest hold of a slot is a measured time: a free value. -/
def releaseSlot (r n : Nat) : Act := fun s =>
  match s.rec_ r with
  | none => []
  | some x =>
    match s.job x.job with
    | none => [effRec r fun x => { x with last := n }]
    | some j =>
      [effRec r (fun x => { x with last := n }), .prm (Prm.REC_HELD_SLOTS r) (w32 ((j.writeSeq + 2 ^ 32 - n) % 2 ^ 32))] ++
      (match x.take with
       | none => []
       | some t => [.prm (Prm.REC_FRAMES r) (w32 t.index.length), .prm (Prm.REC_FAILED r) (w32 t.failed),
           .prm (Prm.REC_DROPPED r) (w32 (j.dropped - t.dropped)),
           .prm (Prm.REC_BACKLOG_US r) (w32 (max (s.pn (Prm.REC_BACKLOG_US r)) s.free.toNat)), .draw])

/-- Every REC_INDEX_EVERY frames: a flush, then the entry with DURABLE_FRAMES (R589). -/
def makeDurable (r : Nat) : Act := fun s =>
  match s.rec_ r with
  | none => []
  | some x =>
    match x.take with
    | none => []
    | some t =>
      let n := t.index.length
      if t.every = 0 ∨ n % t.every ≠ 0 then [] else
      let w := recWriter r
      let dropped := (((s.job x.job).map (·.dropped)).getD t.dropped) - t.dropped
      [effDisk (fun d => writeEntry w x.space t.entry (clipEntry t 1 n n dropped t.wp 0) (d.flush w))]

/-- A slot in a take written, with the audio up to sample k' if it carries some. -/
def writeSlot (r : Nat) (x : Recorder) (j : CastJob) (t : Take) (n : Nat) (next : Option Nat) (ok : Bool) : Act := fun s =>
  let a := recSlot j n
  let valid := leNat (s.ringRead (a + 8) 4)
  let seq := leNat (s.ringRead (a + 12) 4)
  let frame := s.ringRead (a + 64) valid
  let ts := field frame 40 12
  let k := sofSample s (timeOf ts)
  let audio := match t.audio, next with
    | some p, some q => takeAudio s p k (sofSample s (timeOf (s.ringRead (recSlot j q + 64 + 40) 12)))
    | _, _ => []
  let body := frame ++ audio
  let nb := blocksOf body.length
  let size := ((s.space x.space).map (·.blocks)).getD 0
  if size < t.first + t.wp + nb then
    acts [eff [effTake r (fun t => { t with full := true }), .prm (Prm.REC_LAST_STATUS r) (w32 ST_NO_SPACE), .count (Prm.REC_NS_FULL r) 1],
      closeTake r, releaseSlot r n] s
  else
    let e := if ok then indexEntry t.wp valid audio.length seq ST_OK ts (if audio.isEmpty then 0 else k)
      else indexEntry t.wp 0 0 seq ST_MEDIA_ERROR ts 0
    acts [eff ((if ok then [effDisk (Disk.writeRun (recWriter r + 128 * (s.cst.order * 2 ^ 40 + t.wp)) false x.space nb (t.first + t.wp) body),
          .count64 (Prm.REC_BYTES_LO r) valid, .count64 Prm.CST_WRITE_BLOCKS_LO nb]
        else [.count (Prm.REC_MEDIA_ERRS r) 1, .count Prm.CST_MEDIA_ERRS 1, .prm (Prm.REC_LAST_STATUS r) (w32 ST_MEDIA_ERROR)]) ++
      [effCst (fun c => { c with order := c.order + 1 }), effTake r fun t =>
        { t with index := e :: t.index, wp := if ok then t.wp + nb else t.wp,
                 firstSeq := if t.index.isEmpty then seq else t.firstSeq, startTs := if t.startTs.isEmpty then ts else t.startTs,
                 endTs := ts, head := if t.head.isEmpty then frame.take 64 else t.head }]),
      wakeStore, makeDurable r, releaseSlot r n] s

/-- A recorder handles the next completed slot of its job, one in a poisoned line as a failed frame (R607); the write ends with success or a drive error. Inside a take with
audio, a good frame waits for the next one, unless it is the take's last (R587). -/
def actRecSlot (r : Fin 4) (ok : Bool) : Act := fun s =>
  match s.rec_ r with
  | none => []
  | some x =>
    match s.job x.job with
    | none => []
    | some j =>
      if x.last = j.writeSeq then [] else
      let n := (x.last + 1) % 2 ^ 32
      match x.take with
      | none => releaseSlot r n s
      | some t =>
        let before := decide ((t.begin + 2 ^ 32 - n) % 2 ^ 32 < 2 ^ 31)
        let after : Bool := match t.stop with | some q => decide ((n + 2 ^ 32 - q - 1) % 2 ^ 32 < 2 ^ 31) | none => false
        if before ∨ after then releaseSlot r n s else
        let bad := (firstPoison s (recSlot j n) (64 + leNat (s.ringRead (recSlot j n + 8) 4))).isSome
        if bad ∨ leNat (s.ringRead (recSlot j n + 4) 2) ≠ ST_OK then
          let seq := leNat (s.ringRead (recSlot j n + 12) 4)
          let st := if bad then ST_INPUT_CORRUPT else leNat (s.ringRead (recSlot j n + 4) 2)
          acts [eff [effTake r fun t => { t with index := indexEntry t.wp 0 0 seq st [] 0 :: t.index, failed := t.failed + 1,
                                                 firstSeq := if t.index.isEmpty then seq else t.firstSeq }],
            makeDurable r, releaseSlot r n] s
        else
          let next := laterFrame s j 64 n (t.stop.getD j.writeSeq)
          if t.audio.isSome ∧ next.isNone ∧ t.stop.isNone then [] else
          writeSlot r x j t n next ok s

def execRecSlot (r : Fin 4) (ok : Bool) (s : State) : Host.Outcome State Fault Refusal := (actRecSlot r ok).outcome s

end Sys2Proof.Machine
end

