-- ==== Sys2Proof/Machine/Playback.lean ====
section
/-! DEFINITION. Playbacks of clips into rings (chapter 16, R591 to R593; rows PLAY_OPEN to PLAY_DECODE_DONE). -/
namespace Sys2Proof.Machine

def State.play (s : State) (h : Nat) : Option Playback := s.cst.plays.find h
def effPlay (h : Nat) (g : Playback → Playback) : Eff := effCst fun c => { c with plays := c.plays.alter h g }

/-- Frames of a clip. -/
def clipFrames (p : Playback) : Nat := fieldN p.clip 32 4

/-- At the last frame, holding (R592). -/
def playAtEnd (p : Playback) : Bool := !p.loop && p.decoding.isNone && decide (clipFrames p ≤ p.next)

/-- The word of PLAY_STATE. -/
def playWord (p : Playback) : Nat :=
  2 ^ 31 + (if p.running then 2 ^ 30 else 0) + (if p.loop then 2 ^ 29 else 0) + (if playAtEnd p then 2 ^ 28 else 0) +
  65536 * (p.space % 64) + 256 * (p.owner % 64)

def showPlay (h : Nat) : Act := fun s => [.prm (Prm.PLAY_STATE h) (match s.play h with | some p => w32 (playWord p) | none => 0)]

/-- The layout of a playback's ring (R271, R591): the planes of the clip's format. -/
def playRing (p : Playback) : Ring :=
  let m := fieldN p.clip 128 1
  ringLayout p.ring p.slots (castPx m * sizeW (fieldN p.clip 88 2)) (castLines m (fieldN p.clip 90 2)) 0 256

/-- Slots of the ring that a layer holds (R392). -/
def playHeld (s : State) (h slots : Nat) : List Nat :=
  if slots = 0 then [] else
  (s.objIdx K_LAYER).filterMap fun l => match s.obj K_LAYER l, s.wall.layers.find l with
    | some b, some x => if lyKind b = 4 ∧ lyIndex b = h then x.held.map (· % slots) else none
    | _, _ => none

/-- The record number of the next slot that no layer holds. -/
def nextPlaySlot (s : State) (h : Nat) (p : Playback) : Option Nat :=
  ((List.range p.slots).map fun k => (p.writeSeq + 1 + k) % 2 ^ 32).find? fun q => !(playHeld s h p.slots).contains (q % p.slots)

/-! ### Commands -/

/-- PLAY_OPEN (R591). -/
def hPlayOpen (c : Svc) (s : State) : Reply :=
  let n := c.n 0 1
  let slots := c.n 1 1
  let e := c.n 4 2
  let ring := c.n 8 8
  let clip := dirEntry s.cst.disk n e
  let st := fieldN clip 4 1
  let h := (List.range 16).find? fun h => (s.play h).isNone
  let p : Playback := ⟨c.f, n, clip, ring, slots, c.n 2 1, c.n 3 1, 1, some 0, 0, false, false, 0, 0, slots - 1,
    some (c.f, ticketId c.f (s.mbx c.f).nextTicket)⟩
  checks [c.badLen 16, c.lacks s R_STORE,
    (slots < 3 || 8 < slots || 3 < c.n 2 1 || c.n 3 1 == 0 || 4080 ≤ e || ring % 4096 != 0, ST_BAD_PARAM), c.rsv 6 2,
    noStore s, ((reachable s c.f n).isNone, ST_NO_CONTEXT),
    (!dirValid (s.cst.disk.bytesAt n 0 64) || (st != 2 && st != 3) || clipFrames p == 0, ST_BAD_PARAM),
    (!rangeOk s c.f ring (slots * (playRing p).size), ST_DENIED), (h.isNone, ST_TABLE_FULL)]
    (.pending (acts [eff [effCst fun k => { k with plays := k.plays.put (h.getD 0) p }], showPlay (h.getD 0)]))

def execPlayOpen (s : State) : Host.Outcome State Fault Refusal := (turn 0xE20 hPlayOpen).outcome s

/-- The playback a command names, if the caller holds it. -/
def heldPlay (c : Svc) (s : State) : Option Playback :=
  match s.play (c.n 0 1) with
  | some p => if p.owner = c.f ∧ p.opening.isNone then some p else none
  | none => none

/-- PLAY_CTRL: the operation's bits act in order, and a seek names the frame that begins next. -/
def hPlayCtrl (c : Svc) (s : State) : Reply :=
  let h := c.n 0 1
  let op := c.n 1 1
  let seek := c.n 4 4
  let x := heldPlay c s
  checks [c.badLen 8, (15 < h || 15 < op || op % 4 == 3 || op / 4 == 3, ST_BAD_PARAM), c.rsv 2 2, noStore s, (x.isNone, ST_NO_CONTEXT),
    (seek != 0xFFFFFFFF && decide ((x.map clipFrames).getD 0 ≤ seek), ST_BAD_PARAM)]
    (.ok [] (acts [eff [effPlay h fun p =>
      { p with running := if bitOf op 0 then true else if bitOf op 1 then false else p.running,
               loop := if bitOf op 2 then true else if bitOf op 3 then false else p.loop,
               next := if seek = 0xFFFFFFFF then p.next else seek }], showPlay h]))

/-- The row that answers a PLAY_CTRL: that of the lowest operation bit set; the row of PLAY_RUN answers the rest. -/
def playRow (op : Nat) : Nat := if bitOf op 0 then 0 else if bitOf op 1 then 1 else if bitOf op 2 then 2 else if bitOf op 3 then 3 else 0

def playTurn (row : Nat) : Act := fun s =>
  match s.arm.inService with
  | none => []
  | some c => if playRow (c.n 1 1) = row then turn 0xE21 hPlayCtrl s else []

def execPlayRun (s : State) : Host.Outcome State Fault Refusal := (playTurn 0).outcome s
def execPlayStop (s : State) : Host.Outcome State Fault Refusal := (playTurn 1).outcome s
def execPlayLoopOn (s : State) : Host.Outcome State Fault Refusal := (playTurn 2).outcome s
def execPlayLoopOff (s : State) : Host.Outcome State Fault Refusal := (playTurn 3).outcome s

/-- PLAY_CLOSE (R593). -/
def hPlayClose (c : Svc) (s : State) : Reply :=
  let h := c.n 0 1
  checks [c.badLen 4, (15 < h, ST_BAD_PARAM), c.rsv 1 3, noStore s, ((heldPlay c s).isNone, ST_NO_CONTEXT), (layerNames s 4 h, ST_CONFLICT)]
    (.ok [] (acts [eff [effCst fun k => { k with plays := k.plays.del h }], showPlay h]))

def execPlayClose (s : State) : Host.Outcome State Fault Refusal := (turn 0xE22 hPlayClose).outcome s

/-- PLAY_INFO. -/
def hPlayInfo (c : Svc) (s : State) : Reply :=
  let h := c.n 0 1
  let x := if c.isF0 then s.play h else heldPlay c s
  match x with
  | none => checks [c.badLen 4, (15 < h, ST_BAD_PARAM), c.rsv 1 3, noStore s] (.refuse ST_NO_CONTEXT)
  | some p => checks [c.badLen 4, c.rsv 1 3, noStore s]
      (.ok (leBytes 4 p.shown ++ leBytes 4 p.late ++ leBytes 4 p.skipped ++ leBytes 4 (playWord p)) fun _ => [])

def execPlayInfo (s : State) : Host.Outcome State Fault Refusal := (turn 0xE23 hPlayInfo).outcome s

/-! ### Decoding -/

/-- The slot header of a playback frame (R271), bytes 4 to 251: FRAME and SOF_TS of the Cast frame; no sensor. The clip carries no
encoding or colour data, so those fields are 0 (notes/assumptions/62). -/
def playHeader (k : Ring) (h : CastHdr) : Bytes :=
  let z := h.sizes.headD (0, 0)
  leBytes 4 h.frame ++ timeBytes h.ts ++ [0, 0xFF, 0] ++ leBytes 1 h.fmt ++ leBytes 4 (z.2 * 65536 + z.1 % 32768) ++ leBytes 4 k.pitch ++
    List.replicate 220 0

/-- A playback's ticket of opening ends. A first frame that fails ends the playback (notes/assumptions/62). -/
def endOpening (h : Nat) (p : Playback) (st : Nat) : Act :=
  match p.opening with
  | none => fun _ => []
  | some (f, t) => acts [
      completeTicket f t st (if st = ST_OK then leBytes 1 h ++ [0, 0, 0] else []),
      if st = ST_OK then eff [effPlay h fun p => { p with opening := none }]
      else eff [effCst fun k => { k with plays := k.plays.del h }],
      showPlay h]

/-- The frame is skipped and counted (R592). -/
def skipFrame (h : Nat) (p : Playback) (st : Nat) : Act := acts [
  eff [effPlay h fun p => { p with decoding := none, skipped := p.skipped + 1 }], endOpening h p st, showPlay h]

/-- R592: the frame being decoded is read and decoded into the next slot that no layer holds, or is skipped; with no free slot it
is dropped and counted as skipped (R392). -/
def actPlayDecodeDone (h : Fin 16) : Act := fun s =>
  match s.play h with
  | none => []
  | some p =>
    match p.decoding with
    | none => []
    | some k =>
      let d := s.cst.disk
      let ie := d.bytesAt p.space (fieldN p.clip 24 8 * BLK + 48 * k) 48
      let st := fieldN ie 20 2
      let size := fieldN ie 8 4
      match sharedEngines s with
      | [] => []
      | e :: _ =>
        if st ≠ ST_OK then skipFrame h p st s else
        let bs := d.bytesAt p.space ((fieldN p.clip 8 8 + fieldN ie 0 8) * BLK) size
        match nextPlaySlot s h p, readHeader bs with
        | none, _ => skipFrame h p ST_TABLE_FULL s
        | some _, none => acts [eff [.count (endCounter e ST_INPUT_CORRUPT) 1, .raise 154], skipFrame h p ST_INPUT_CORRUPT] s
        | some q, some (hd, _) =>
          let ring := playRing p
          let a := slotAddr ring q
          let r := decodeRun (a + 256) (min (ring.size - 256) (4096 * size)) 1 bs 0
          if r.status ≠ ST_OK then
            acts [eff (.count (endCounter e r.status) 1 :: failEvents r.status), skipFrame h p r.status] s
          else
            acts [eff ([ringWrite a (leBytes 4 q)] ++ r.writes ++ [ringWrite (a + 4) (playHeader ring hd), ringWrite (a + 252) (leBytes 4 q),
                .count (endCounter e ST_OK) 1, effPlay h fun p => { p with decoding := none, shown := k, writeSeq := q }]),
              wakeStore, endOpening h p ST_OK, showPlay h] s

def execPlayDecodeDone (h : Fin 16) (s : State) : Host.Outcome State Fault Refusal := (actPlayDecodeDone h).outcome s

/-- R592: a running playback at a boundary of its group. A frame still being decoded is late. -/
def playBoundary (g frame : Nat) : Act := fun s =>
  actsFor (s.cst.plays.entries.filter fun e => e.2.group == g && e.2.running && e.2.divider != 0 && frame % e.2.divider == 0) (fun e =>
    let p := e.2
    let n := if p.next < clipFrames p then p.next else 0
    if p.decoding.isSome then eff [effPlay e.1 fun p => { p with late := p.late + 1 }]
    else if clipFrames p ≤ p.next ∧ !p.loop then showPlay e.1
    else acts [eff [effPlay e.1 fun p => { p with decoding := some n, next := n + 1 }], showPlay e.1]) s

/-- R573: STORE withdrawn: the task is aborted and the playbacks stop. -/
def withdrawStore (f : Nat) : Act := acts [
  abortTask f,
  fun s => actsFor (s.cst.plays.entries.filter fun e => e.2.owner == f) (fun e =>
    acts [eff [effPlay e.1 fun p => { p with running := false }], showPlay e.1]) s]

end Sys2Proof.Machine
end

