-- ==== Sys2Proof/Machine/Security.lean ====
section
/-! DEFINITION. The security island: roles, sessions, self-tests, keys, zeroisation, firmware images and attestation (chapter 19;
rows SEC_INFO to SEC_KEX_EXPIRY). -/
namespace Sys2Proof.Machine

def secFlag (s : State) (f : Fld) : Bool := s.flag Reg.SEC_STATE f

/-- Twelve parameters that show a digest. -/
def hashPrms (base : Nat) (h : Bytes) : List Eff := (List.range 12).map fun i => .prm (base + i) (w32 (fieldN h (4 * i) 4))

/-! ### Images -/

/-- The image in a slot, and the one running. -/
def imageIn (s : State) (b : Bool) : FwImage := if b then s.nvs.fwB else s.nvs.fwA
def runningB (s : State) : Bool := secFlag s Fld.SEC_STATE.FW_SLOT
def running (s : State) : FwImage := imageIn s (runningB s)

/-- R642. -/
def approvedNow (s : State) : Bool := !s.boot.debug && !(running s).dev && !secFlag s Fld.SEC_STATE.ERROR
def syncApproved : Act := fun s => [.fld Reg.SEC_STATE Fld.SEC_STATE.APPROVED (if approvedNow s then 1 else 0)]

/-! ### Sessions (R644, R645) -/

/-- A session ends, and its exchange key with it (R645, the key table). -/
def endSession (f : Nat) : Eff := .sec fun x => { x with sessions := x.sessions.del f, kex := x.kex.del f }

/-- The role of a function's session: 1 CO, 2 User, 0 none. -/
def roleOf (s : State) (f : Nat) : Nat := match s.sec.sessions.find f with | some x => x.role | none => 0

/-- The session a service needs is missing (R647). -/
def needCo (c : Svc) (s : State) : Bool × Nat := (!(c.isF0 && roleOf s c.f == 1), ST_DENIED)
def needSession (c : Svc) (s : State) : Bool × Nat := (roleOf s c.f == 0, ST_DENIED)

/-- Services of the error state, before the CO key is fused, and after zeroisation (R650, R646, R658). -/
def inError : List Nat := [0x1100, 0x1104, 0x1105]
def unprovisioned : List Nat := [0x1100, 0x1104, 0x1105, 0x1106, 0x110C, 0x110D]
def zeroisedOk : List Nat := [0x1100, 0x1101, 0x1102, 0x1103, 0x1104, 0x110C, 0x110D, 0x110E]

/-- The island serves the command in service (R646, R650, R658). -/
def gates (c : Svc) (s : State) : List (Bool × Nat) :=
  let op := c.cmd.opcode
  [(secFlag s Fld.SEC_STATE.ERROR && !inError.contains op, ST_SELFTEST_FAIL),
   (secFlag s Fld.SEC_STATE.ZEROISED && !zeroisedOk.contains op, ST_ZEROISED),
   (s.otp.coKey.isNone && !unprovisioned.contains op, ST_DENIED)]

/-- The turn of a security command: it keeps its function's session alive (R645). -/
def secTurn (op : Nat) (h : Svc → State → Reply) : Act := acts [
  (fun s => match s.arm.inService with
    | some c => if c.cmd.opcode = op then [.sec fun x => { x with sessions := x.sessions.alter c.f fun y => { y with last := s.uptime } }] else []
    | none => []),
  turn op h]

/-! ### Roles and authentication -/

/-- R647. The module's version is not stated, so it is free (notes/assumptions/66). -/
def hSecInfo (c : Svc) (s : State) : Reply :=
  checks (c.badLen 0 :: gates c s) (.ok (leBytes 4 (s.rd Reg.SEC_STATE).toNat ++ leBytes 2 s.sec.testResult ++
    leBytes 2 (Config.freeAt 66 []) ++ leBytes 4 (running s).release) fun _ => [])

def execSecInfo (s : State) : Host.Outcome State Fault Refusal := (secTurn 0x1100 hSecInfo).outcome s

/-- R644: 48 bytes of the generator. -/
def hSecChallenge (c : Svc) (s : State) : Reply :=
  let n := field (Config.drbg s.freeCtr) 0 48
  checks (c.badLen 0 :: gates c s) (.ok n (eff [.draw, .sec fun x => { x with nonces := x.nonces.put c.f (n, s.uptime) }]))

def execSecChallenge (s : State) : Host.Outcome State Fault Refusal := (secTurn 0x1101 hSecChallenge).outcome s

/-- The key that authenticates a role of a function: the Crypto Officer is F0 (the roles table). -/
def loginKey (s : State) (f role : Nat) : Option Bytes :=
  if role = 1 then (if f = 0 then s.otp.coKey else none) else s.nvs.users.find f

/-- What a login signs (R644). -/
def loginMsg (s : State) (f : Nat) (nonce : Bytes) : Bytes :=
  nonce ++ leBytes 1 (s.fld Reg.HUB_TOPOLOGY Fld.HUB_TOPOLOGY.PKG_ID) ++ leBytes 1 f ++ leBytes 4 (s.rd Reg.HUB_ID).toNat

/-- The login of a command verifies. -/
def loginOk (c : Svc) (s : State) : Bool :=
  match s.sec.nonces.find c.f, loginKey s c.f (c.n 0 1) with
  | some (n, t), some k => decide (s.uptime ≤ t + 60 * secTicks) && Config.ecdsaVerify k (loginMsg s c.f n) (field c.cmd.payload 4 96)
  | _, _ => false

/-- Logins of a function are refused after 8 failures in a row (R644). -/
def lockedOut (s : State) (f : Nat) : Bool := match s.sec.locked.find f with | some t => decide (s.uptime < t) | none => false

/-- R644: a failed login consumes the nonce and is counted; the eighth in a row bars the function's logins for 60 s. -/
def loginFailed (f : Nat) : Act := fun s =>
  let n := s.sec.fails.getD f 0 + 1
  [.sec fun x => { x with nonces := x.nonces.del f, fails := if 8 ≤ n then x.fails.del f else x.fails.put f n,
                          locked := if 8 ≤ n then x.locked.put f (s.uptime + 60 * secTicks) else x.locked },
   .count Prm.SEC_AUTH_FAILS 1]

/-- R644, R645. -/
def hSecLogin (c : Svc) (s : State) : Reply :=
  let r := c.n 0 1
  checks (c.badLen 100 :: gates c s ++ [(lockedOut s c.f, ST_DENIED), (r == 0 || 2 < r, ST_BAD_PARAM), c.rsv 1 3])
    (if loginOk c s then
      .ok [] (eff [endSession c.f, .sec fun x => { x with
        sessions := x.sessions.put c.f ⟨r, s.uptime⟩, nonces := x.nonces.del c.f, fails := x.fails.del c.f }])
    else ⟨ST_DENIED, [], loginFailed c.f⟩)

def execSecLogin (s : State) : Host.Outcome State Fault Refusal := (secTurn 0x1102 hSecLogin).outcome s

def hSecLogout (c : Svc) (s : State) : Reply := checks (c.badLen 0 :: gates c s) (.ok [] (eff [endSession c.f]))

def execSecLogout (s : State) : Host.Outcome State Fault Refusal := (secTurn 0x1103 hSecLogout).outcome s

/-- R645: SEC_SESSION_S passes without a security command. -/
def actSecSessionTimeout (f : Fn) : Act := fun s => if s.sec.sessions.has f then [endSession f] else []

def execSecSessionTimeout (f : Fn) (s : State) : Host.Outcome State Fault Refusal := (actSecSessionTimeout f).outcome s

/-! ### Self-tests (R648 to R650) -/

/-- Sealed contexts. -/
def sealedCtxs (s : State) : List Nat := (s.str.ctxs.entries.filter fun e => dSealed e.2.desc).map (·.1)

/-- A run of the tests ends; n names the test that failed, 0 none (R650). -/
def selftestDone (n : Nat) : Act := acts [
  eff [.fld Reg.SEC_STATE Fld.SEC_STATE.SELFTEST_RUNNING 0, .count Prm.SEC_SELFTEST_RUNS 1, .sec fun x => { x with testResult := n },
    .fld Reg.SEC_STATE Fld.SEC_STATE.ERROR (if n = 0 then 0 else 1)],
  if n = 0 then eff [] else acts [eff [.count Prm.SEC_SELFTEST_FAILS 1, .raise 249], fun s => actsFor (sealedCtxs s) barCtx s],
  syncApproved]

/-- R647: within 200 ms. -/
def hSecSelftest (c : Svc) (s : State) : Reply :=
  checks (c.badLen 0 :: gates c s) (.pending (eff [.fld Reg.SEC_STATE Fld.SEC_STATE.SELFTEST_RUNNING 1]))

def execSecSelftest (s : State) : Host.Outcome State Fault Refusal := (secTurn 0x1104 hSecSelftest).outcome s

/-- The work of SEC_SELFTEST: the number of the test that failed. -/
def workSelftest (failed : Nat) : Reply := .ok (leBytes 2 failed ++ [0, 0]) (selftestDone (failed % 65536))

def execSecPeriodicSelftest (failed : Nat) (s : State) : Host.Outcome State Fault Refusal := (selftestDone (failed % 65536)).outcome s

/-! ### Zeroisation and tamper (R657 to R660) -/

/-- Slots freed: each generation rises by 1 (R651). -/
def zeroGens (x : Sec) : FMap Nat := x.keys.keys.foldl (fun g k => g.put k ((x.gens.getD k 1 + 1) % 4096)) x.gens

/-- R657. The fifteen fuses of SEC_EPOCH are counted to 16: the last stands for a zeroisation that found none left (R659). -/
def zeroise : Act := acts [
  fun s => actsFor (sealedCtxs s) barCtx s,
  fun s =>
    let e := min 16 (s.otp.epoch + 1)
    let owners := (s.sec.keys.entries.map fun k => k.2.owner).eraseDups
    [.sec fun x => { x with keys := .empty, gens := zeroGens x, sessions := .empty, nonces := .empty, kex := .empty },
     .otp fun o => { o with epoch := e }, .fld Reg.SEC_STATE Fld.SEC_STATE.EPOCH (min 15 e),
     .fld Reg.SEC_STATE Fld.SEC_STATE.ZEROISED 1, .nvs fun n => { n with idKey := none, certOk := false, cert := [] },
     .count Prm.SEC_ZEROISATIONS 1] ++ hashPrms (Prm.SEC_ID_KEY_HASH 0) [] ++ owners.map (fun f =>
       .prm (Prm.SEC_KEY_QUOTA f) (w32 (putBits (s.pn (Prm.SEC_KEY_QUOTA f)) 29 16 0))) ++ [.raise 250],
  syncKeys 0, nvsRecord 8 []]

/-- R657, R647. -/
def hSecZeroise (c : Svc) (s : State) : Reply :=
  checks (c.badLen 4 :: gates c s ++ [c.notF0, (c.n 0 4 != 0x5A45524F, ST_BAD_PARAM)]) (.ok [] zeroise)

def execSecZeroise (s : State) : Host.Outcome State Fault Refusal := (secTurn 0x1105 hSecZeroise).outcome s

/-- R657: the register acts in hardware; a value other than the key is ignored. -/
def actSecZeroiseReg (v : Word) : Act := fun s => if v = 0x5A45524F#32 then zeroise s else []

def execSecZeroiseReg (v : Word) (s : State) : Host.Outcome State Fault Refusal := (actSecZeroiseReg v).outcome s

/-- R657: the pin. -/
def actZeroiseN : Act := acts [eff [.fld Reg.SEC_TAMPER Fld.SEC_TAMPER.PIN 1], zeroise]

def execZeroiseN (s : State) : Host.Outcome State Fault Refusal := actZeroiseN.outcome s

/-- Tickets of image writes in progress. -/
def fwTickets (s : State) : List Nat := ((s.mbx 0).tickets.filter fun t => t.opcode == 0x1110 && !t.done).map (·.id)

/-- The slot that is not running fails verification from now on (R662). -/
def spoilTarget : Act := fun s =>
  [.nvs fun n => if runningB s then { n with fwA := { n.fwA with good := false } } else { n with fwB := { n.fwB with good := false } }]

/-- R660, R662: the cause bits of SEC_TAMPER are CLOCK, TEMP, VOLTAGE, SHIELD from bit 1 on. -/
def actTamperDetect (cause : Fin 4) : Act := acts [
  eff [.fld Reg.SEC_TAMPER ⟨cause + 1, cause + 1⟩ 1, .raise 251, .prm Prm.SEC_TAMPER_LAST (w32 (2 ^ (cause.val + 1))), .count Prm.SEC_TAMPER_EVENTS 1],
  zeroise,
  fun s => if (fwTickets s).isEmpty then [] else acts [spoilTarget, fun s => actsFor (fwTickets s) (fun id => completeTicket 0 id ST_ABORTED []) s] s]

def execTamperDetect (cause : Fin 4) (s : State) : Host.Outcome State Fault Refusal := (actTamperDetect cause).outcome s

/-! ### Provisioning (R646) -/

def hSecCoProvision (c : Svc) (s : State) : Reply :=
  let k := field c.cmd.payload 0 96
  checks (c.badLen 96 :: gates c s ++ [c.notF0, (s.otp.coKey.isSome, ST_CONFLICT)])
    (.ok [] (eff ([.otp fun o => { o with coKey := some k }, .fld Reg.SEC_STATE Fld.SEC_STATE.CO_PROVISIONED 1] ++
      hashPrms (Prm.SEC_CO_KEY_HASH 0) (Config.sha384 k))))

def execSecCoProvision (s : State) : Host.Outcome State Fault Refusal := (secTurn 0x1106 hSecCoProvision).outcome s

def hSecUserEnrol (c : Svc) (s : State) : Reply :=
  let f := c.n 0 1
  let k := field c.cmd.payload 4 96
  checks (c.badLen 100 :: gates c s ++ [needCo c s, (63 < f || 1 < c.n 1 1, ST_BAD_PARAM), c.rsv 2 2])
    (.ok [] (eff [.nvs fun n => { n with users := if c.n 1 1 = 1 then n.users.put f k else n.users.del f }]))

def execSecUserEnrol (s : State) : Host.Outcome State Fault Refusal := (secTurn 0x1107 hSecUserEnrol).outcome s

/-! ### Keys (R651 to R656) -/

/-- The number of an exchange key pair. -/
def kexKeyNo (n : Nat) : Nat := 2 ^ 40 + n

/-- R652. The ID of an exchange is not stated: it is free. -/
def hSecKexBegin (c : Svc) (s : State) : Reply :=
  match s.nvs.idKey with
  | none => checks (c.badLen 0 :: gates c s ++ [needSession c s]) (.refuse ST_ZEROISED)
  | some k =>
    let id := s.free.toNat
    let pub := field (Config.publicKey (kexKeyNo s.sec.nextKex)) 0 96
    let msg := leBytes 4 id ++ pub
    checks (c.badLen 0 :: gates c s ++ [needSession c s])
      (.ok (msg ++ field (Config.ecdsaSign (idKeyNo k) msg s.freeCtr) 0 96)
        (eff (signed ++ [.sec fun x => { x with kex := x.kex.put c.f ⟨id, x.nextKex⟩, nextKex := x.nextKex + 1 }])))

def execSecKexBegin (s : State) : Host.Outcome State Fault Refusal := (secTurn 0x1108 hSecKexBegin).outcome s

def execSecKexExpiry (f : Fn) (s : State) : Host.Outcome State Fault Refusal :=
  (eff [.sec fun x => { x with kex := x.kex.del f }]).outcome s

/-- The key-encrypting key of an exchange (R652): the other party is the holder of the session's key. -/
def kekOf (s : State) (f : Nat) (x : Kex) : Option Bytes :=
  (loginKey s f (roleOf s f)).map fun peer =>
    (Config.hmac384 (Config.ecdh (kexKeyNo x.key) peer) ([0x58, 0x56, 0x39, 0x34, 0x38, 0x30, 0x2D, 0x4B, 0x45, 0x4B] ++ leBytes 4 x.id ++
      leBytes 1 (s.fld Reg.HUB_TOPOLOGY Fld.HUB_TOPOLOGY.PKG_ID) ++ leBytes 1 f)).take 32

/-- The key and salt that an import carries (R652). -/
def unwrapped (c : Svc) (s : State) (x : Kex) : Option Bytes :=
  (kekOf s c.f x).bind fun k => Config.gcmOpen k (field c.cmd.payload 8 12) (leBytes 1 c.f ++ leBytes 1 (c.n 4 1) ++ leBytes 4 x.id)
    (field c.cmd.payload 20 36) (field c.cmd.payload 56 16)

/-- The lowest free key slot. -/
def freeSlot (s : State) : Option Nat := (List.range 8192).find? fun i => !s.sec.keys.has i

/-- R653. -/
def hSecKeyImport (c : Svc) (s : State) : Reply :=
  let x := (s.sec.kex.find c.f).filter fun x => x.id == c.n 0 4
  let plain := x.bind (unwrapped c s)
  let quota := bitsOf (s.pn (Prm.SEC_KEY_QUOTA c.f)) 13 0
  checks (c.badLen 72 :: gates c s ++ [c.lacks s R_STREAM, needSession c s, (s.boot.debug, ST_DENIED), (c.n 4 1 != 1, ST_BAD_PARAM), c.rsv 5 3,
      (x.isNone, ST_NO_CONTEXT), (plain.isNone, ST_INPUT_CORRUPT),
      ((freeSlot s).isNone || (!c.isF0 && decide (quota ≤ keysOf s c.f)), ST_TABLE_FULL)])
    (match plain, freeSlot s with
     | some p, some i => .ok (leBytes 4 (keyHandle s c.f i)) (acts [
         eff [.sec fun y => { y with keys := y.keys.put i ⟨c.f, field p 0 32, field p 32 4⟩ }, .count Prm.SEC_KEY_IMPORTS 1], syncKeys c.f])
     | _, _ => .refuse ST_INPUT_CORRUPT)

def execSecKeyImport (s : State) : Host.Outcome State Fault Refusal := (secTurn 0x1109 hSecKeyImport).outcome s

/-- R656. -/
def hSecKeyDestroy (c : Svc) (s : State) : Reply :=
  let h := c.n 0 4
  checks (c.badLen 4 :: gates c s ++ [needSession c s, (!keyHeld s c.f h, ST_DENIED),
      (s.str.ctxs.entries.any fun e => e.2.key == h || e.2.nextKey == h, ST_CONFLICT)]) (.ok [] (freeKey h))

def execSecKeyDestroy (s : State) : Host.Outcome State Fault Refusal := (secTurn 0x110A hSecKeyDestroy).outcome s

/-- R654. -/
def hSecCtxKey (c : Svc) (s : State) : Reply :=
  let i := c.n 0 2
  let h := c.n 4 4
  let x := (s.ctx i).filter fun x => x.owner == c.f
  checks (c.badLen 8 :: gates c s ++ [needSession c s, (4095 < i, ST_BAD_PARAM), c.rsv 2 2, (x.isNone, ST_NO_CONTEXT), (!keyHeld s c.f h, ST_DENIED),
      (x.any fun y => !dSealed y.desc, ST_BAD_PARAM)]) (.ok [] (eff [effCtx i fun y => { y with nextKey := h }]))

def execSecCtxKey (s : State) : Host.Outcome State Fault Refusal := (secTurn 0x110B hSecCtxKey).outcome s

/-! ### Attestation and identity (R664, R658, R659) -/

/-- n bytes that the spec leaves open. -/
def freeBytes (tag n at' : Nat) : Bytes := (List.range n).map fun i => BitVec.ofNat 8 (Config.freeAt tag [at', i])

/-- Bytes 0 to 255 of the report. -/
def reportBody (s : State) (nonce : Bytes) : Bytes :=
  let im := running s
  nonce ++ leBytes 4 (s.rd Reg.HUB_ID).toNat ++ leBytes 1 (s.fld Reg.HUB_TOPOLOGY Fld.HUB_TOPOLOGY.PKG_ID) ++ leBytes 1 s.otp.grade ++ [0, 0] ++
  leBytes 4 (s.rd Reg.SEC_STATE).toNat ++ leBytes 4 im.release ++ field (if im.digest.isEmpty then Config.factoryDigest else im.digest) 0 48 ++
  field Config.romDigest 0 48 ++ (match s.otp.coKey with | some k => field (Config.sha384 k) 0 48 | none => List.replicate 48 0) ++
  timeBytes s.vis ++ leBytes 8 (s.pn64 Prm.PAT_GEN_LO) ++ List.replicate 28 0

/-- R664. Without a certified identity key the signature is free (R658 states none). -/
def hSecAttest (c : Svc) (s : State) : Reply :=
  let b := reportBody s (field c.cmd.payload 0 48)
  let key := if s.nvs.certOk then s.nvs.idKey else none
  checks (c.badLen 48 :: gates c s)
    (.ok (b ++ (match key with | some k => field (Config.ecdsaSign (idKeyNo k) b s.freeCtr) 0 96 | none => freeBytes 68 96 s.freeCtr))
      (eff (.count Prm.SEC_ATTESTS 1 :: (if key.isSome then signed else [.draw]))))

def execSecAttest (s : State) : Host.Outcome State Fault Refusal := (secTurn 0x110C hSecAttest).outcome s

/-- The certificate chain: the one loaded, or the one of manufacture until its key is destroyed. -/
def certChain (s : State) : Bytes := if s.nvs.cert.isEmpty ∧ s.nvs.certOk then Config.factoryCert else s.nvs.cert

/-- R647, R658: reading the chain from an offset, or loading a certificate at offset 0xFFFF_FFFF. -/
def hSecIdCert (c : Svc) (s : State) : Reply :=
  let load := c.n 0 4 == 0xFFFFFFFF
  let new := c.cmd.payload.drop 4
  let part := ((certChain s).drop (c.n 0 4)).take 4000
  checks ((if load then decide (c.cmd.len ≤ 4) else c.cmd.len != 4, ST_BAD_LENGTH) :: gates c s)
    (if load then .ok (leBytes 4 new.length ++ leBytes 4 0) (eff [.nvs fun n => { n with cert := new, certOk := n.idKey.isSome }])
     else .ok (leBytes 4 (certChain s).length ++ leBytes 4 part.length ++ part) fun _ => [])

def execSecIdCert (s : State) : Host.Outcome State Fault Refusal := (secTurn 0x110D hSecIdCert).outcome s

/-- R658, R659: new keys under the epoch in force, and a request for the identity key. -/
def hSecIdCsr (c : Svc) (s : State) : Reply :=
  let k := s.freeCtr + 1
  let req := (Config.pkcs10 (idKeyNo k) (field c.cmd.payload 0 32)).take 1024
  checks (c.badLen 32 :: gates c s ++ [needCo c s, (16 ≤ s.otp.epoch, ST_TABLE_FULL)])
    (.ok (leBytes 4 req.length ++ req) (eff (signed ++ [.nvs fun n => { n with idKey := some k, certOk := false, cert := [] },
      .fld Reg.SEC_STATE Fld.SEC_STATE.ZEROISED 0] ++ hashPrms (Prm.SEC_ID_KEY_HASH 0) (Config.sha384 (Config.publicKey (idKeyNo k))))))

def execSecIdCsr (s : State) : Host.Outcome State Fault Refusal := (secTurn 0x110E hSecIdCsr).outcome s

/-! ### Firmware (R661 to R663) -/

/-- An image in memory as its header and body show it. -/
def parseImage (bs : Bytes) : FwImage :=
  let n := fieldN bs 12 4
  let body := (bs.drop 256).take n
  ⟨bs.take 4 == [0x41, 0x46, 0x57, 0x49] && decide (bs.length = 256 + n) && Config.sha384 body == field bs 16 48 &&
    Config.ecdsaVerify Config.signingKey (bs.take 160) (field bs 160 96) && decide (byteAt bs 9 ≤ 1),
   byteAt bs 9 == 1, fieldN bs 4 4, byteAt bs 8, field bs 16 48⟩

/-- R661: an image is accepted. -/
def accepts (s : State) (i : FwImage) : Bool := i.good && decide (s.otp.arb ≤ i.arb) && (!i.dev || s.boot.debug)

/-- An image that fails (R661). -/
def verifyFailed : List Eff := [.raise 254, .count Prm.SEC_FW_VERIFY_FAILS 1]

/-- Parameters that show the images. -/
def syncImages : Act := fun s =>
  [.prm Prm.SEC_FW_RELEASE_A (w32 s.nvs.fwA.release), .prm Prm.SEC_FW_RELEASE_B (w32 s.nvs.fwB.release),
   .prm Prm.SEC_ARB_A (w32 s.nvs.fwA.arb), .prm Prm.SEC_ARB_B (w32 s.nvs.fwB.arb)]

def hSecFwWrite (c : Svc) (s : State) : Reply :=
  checks (c.badLen 16 :: gates c s ++ [needCo c s, c.rsv 0 4, (!rangeOk s c.f (c.n 8 8) (c.n 4 4), ST_DENIED)]) (.pending fun _ => [])

def execSecFwWrite (s : State) : Host.Outcome State Fault Refusal := (secTurn 0x1110 hSecFwWrite).outcome s

/-- R662: the work. It writes the slot that is not running. -/
def workFwWrite (t : Ticket) (s : State) : Reply :=
  let i := parseImage (s.ringRead (fieldN t.payload 8 8) (fieldN t.payload 4 4))
  if !accepts s i ∨ (firstPoison s (fieldN t.payload 8 8) (fieldN t.payload 4 4)).isSome then ⟨ST_INPUT_CORRUPT, [], eff verifyFailed⟩
  else
    let b := !runningB s
    .ok (leBytes 1 (if b then 1 else 0) ++ [0, 0, 0]) (acts [eff [.nvs fun n => if b then { n with fwB := i } else { n with fwA := i }], syncImages])

/-- R663. -/
def hSecFwConfirm (c : Svc) (s : State) : Reply :=
  let a := (running s).arb
  let up := decide (s.otp.arb < a)
  let v : Word := if runningB s then 1 else 0
  checks (c.badLen 0 :: gates c s ++ [needCo c s, (up && decide (128 < a), ST_TABLE_FULL)])
    (.ok (leBytes 4 (max a s.otp.arb)) (acts [
      eff ([.prm Prm.SEC_FW_PREFER v, .nvs fun n => { n with owed := n.owed.put Prm.SEC_FW_PREFER v }] ++
        (if up then [.otp fun o => { o with arb := a }, .fld Reg.SEC_STATE Fld.SEC_STATE.ARB_COUNT a, .count Prm.SEC_ARB_ADVANCES 1, .raise 255] else [])),
      requestSave]))

def execSecFwConfirm (s : State) : Host.Outcome State Fault Refusal := (secTurn 0x1111 hSecFwConfirm).outcome s

/-! ### Proof of play and debug mode -/

def hPopRead (c : Svc) (s : State) : Reply :=
  match firstBad (c.badLen 4 :: gates c s) with
  | some st => .refuse st
  | none => popReadReply c s

def execPopRead (s : State) : Host.Outcome State Fault Refusal := (secTurn 0x1112 hPopRead).outcome s

/-- R643. -/
def hSecMode (c : Svc) (s : State) : Reply :=
  checks (c.badLen 4 :: gates c s ++ [needCo c s, (1 < c.n 0 1, ST_BAD_PARAM), c.rsv 1 3])
    (.ok [] (if c.n 0 1 = 1 then acts [zeroise, eff [.boot fun b => { b with debug := true }, .raise 252], syncApproved] else eff []))

def execSecMode (s : State) : Host.Outcome State Fault Refusal := (secTurn 0x1113 hSecMode).outcome s

end Sys2Proof.Machine
end

