-- ==== Sys2Proof/Machine/Rights.lean ====
section
/-! DEFINITION. What the withdrawal of a right does (R151, R279, R330, R331, R380, R573, R645). -/
namespace Sys2Proof.Machine

/-- Triads of a principal. -/
def triadsOf (s : State) (f : Nat) : List Nat := (List.range 2).filter fun t => triadOwner s t == some f

/-- Layers of a principal. -/
def layersOwned (s : State) (f : Nat) : List Nat :=
  (s.objIdx K_LAYER).filter fun l => match s.obj K_LAYER l with | some b => lyOwner b == f | none => false

/-- The rights in a mask are withdrawn from a principal. A layer switched off stays off at each boundary until WINDOW is held again. -/
def withdraw (f lost : Nat) : Act := fun s =>
  acts [
    if bitOf lost R_STREAM then acts [actsFor (ctxsOf s f) barCtx, if roleOf s f = 2 then eff [endSession f] else eff []] else eff [],
    if bitOf lost R_WINDOW then eff ((layersOwned s f).map fun l => effLayer l fun x => { x with off := true }) else eff [],
    if bitOf lost R_TRIAD then actsFor (triadsOf s f) releaseTriad else eff [],
    if bitOf lost R_STORE then withdrawStore f else eff [],
    if f < 64 then dropRoutes f else eff []] s

/-- A mask of a principal is written: the rights it loses are withdrawn. -/
def newRights (f old new : Nat) : Act := withdraw f (old % 64 &&& (63 - new % 64))

/-- R331: after a commit of a principal, what rights it no longer holds allowed ends. -/
def reapply (f : Nat) : Act := fun s =>
  if f = 0 then [] else acts [
    if s.holds f R_TRIAD then eff [] else actsFor (triadsOf s f) releaseTriad,
    if s.holds f R_WINDOW then eff [] else eff ((layersOwned s f).map fun l => effLayer l fun x => { x with off := true })] s

end Sys2Proof.Machine
end

