-- ==== Sys2Proof/Machine/Commit.lean ====
section
/-! DEFINITION. Commits (R112 to R120): their validation, and what applying one at a boundary does to the state that follows the
configuration; row COMMIT_VALIDATED. -/
namespace Sys2Proof.Machine

/-! ### Validation (R116, R119) -/

/-- The 24 bytes of a commit's result. -/
def commitResult (requested applied flags : Nat) : Bytes := leBytes 8 requested ++ leBytes 8 applied ++ leBytes 4 flags ++ leBytes 4 0

/-- Some item is an object of a kind. -/
def stagesKind (items : List Staged) (k : Nat) : Bool := items.any fun x => match x with | .obj k' _ _ => k' == k | .prm _ _ => false

/-- Some item is a parameter that a test admits. -/
def stagesPrm (items : List Staged) (p : Nat → Bool) : Bool := items.any fun x => match x with | .prm id _ => p id | .obj _ _ _ => false

/-- A commit ends: it is no longer pending, and its ticket completes. -/
def endCommit (key st : Nat) (result : Bytes) : Act := fun s =>
  match s.arm.commits.find key with
  | none => []
  | some c => acts [eff [.arm fun a => { a with commits := a.commits.del key }],
      if key < 128 then completeTicket key c.ticket st result else eff []] s

/-- The bank content that a patina switch carries to a standby: entries of 44 bytes, an index, a record and a drive entry, or the
number of a tile with bit 31 set and its entry; a libration update sends entries of records only, with bit 30 set (notes/assumptions/38). -/
def switchImage (s : State) : Bytes :=
  let b := s.idleBank
  s.pat.loaded.flatMap fun t =>
    let e := mqTile s.mqt t
    leBytes 4 (2 ^ 31 + t) ++ field (b.tile.getD t []) 0 40 ++ (List.range (tlCols e * tlRows e)).flatMap fun i =>
      leBytes 4 (tlBase e + i) ++ b.record (tlBase e + i) ++ field (b.drive.getD (tlBase e + i) []) 0 8

/-- Such content written into the inactive bank. -/
def patImport (bs : Bytes) : Act := fun s =>
  let es := (List.range (bs.length / 44)).map fun n => field bs (44 * n) 44
  let ts := es.filter fun e => decide (2 ^ 31 ≤ fieldN e 0 4)
  let ls := es.filter fun e => decide (fieldN e 0 4 < 2 ^ 31)
  let full := ls.filter fun e => decide (fieldN e 0 4 < 2 ^ 30)
  [effBank (!s.pat.activeB) fun b => { b with
      tile := ts.foldl (fun m e => m.put (fieldN e 0 4 % 2 ^ 31) (field e 4 8)) b.tile,
      recs := ls.foldl (fun m e => m.put (fieldN e 0 4 % 2 ^ 30) (field e 4 32)) b.recs,
      drive := full.foldl (fun m e => m.put (fieldN e 0 4) (field e 36 8)) b.drive },
   .pat fun p => { p with loaded := ts.map fun e => fieldN e 0 4 % 2 ^ 31 }]

/-- Such content is a libration update. -/
def recordsOnly (bs : Bytes) : Bool := !bs.isEmpty && (List.range (bs.length / 44)).all fun n => fieldN bs (44 * n) 4 / 2 ^ 30 == 1

/-- The frame that a pair names for a commit: the one requested, or two frames on. -/
def mirrorFrame (s : State) (c : Commit) : Nat := if c.next ∨ c.late then (groupFrame s c.group + 2) % 2 ^ 48 else c.requested

/-- A commit as the standby receives it (R719). -/
def commitBytes (s : State) (p : Nat) (c : Commit) : Bytes :=
  leBytes 1 p ++ leBytes 1 c.group ++ leBytes 8 (mirrorFrame s c) ++ c.items.flatMap fun x => match x with
    | .obj k i (some b) => if k = K_SWITCH then itemBytes (.obj k i (some (switchImage s))) else itemBytes (.obj k i (some b))
    | x => itemBytes x

/-- A validated commit is armed (R117). -/
def armCommit (p : Nat) : Act := fun s =>
  match s.arm.commits.find p with
  | none => []
  | some c => [.arm (fun a => { a with commits := a.commits.put p { c with armed := some s.uptime } }), passTicket p c.ticket]

/-- R116, R119, R379, R719: the validation of the commit of a principal ends. peer is what the partner of a pair answers (R717). -/
def actCommitValidated (p : Fin 96) (peer : Option (Nat × Nat)) : Act := fun s =>
  match s.arm.commits.find p with
  | none => []
  | some c =>
    if s.arm.halted ∨ c.order ≠ 0 then [] else
    let v := verdict p c.items peer s
    match v.1 with
    | some st => acts [endCommit p st (commitResult c.requested 0 0),
        if stagesKind c.items K_SWITCH then eff [startSync] else eff []] s
    | none => acts [
        eff (raiseIf (stagesKind c.items K_LAYER && ownOverlaps v.2 != 0) 162 ++
          [.arm fun a => { a with clock := a.clock + 1, commits := a.commits.put p { c with order := a.clock + 1 } }]),
        if mirrors s then mirrorOut p (commitBytes s p c) else armCommit p] s

def execCommitValidated (p : Fin 96) (peer : Option (Nat × Nat)) (s : State) : Host.Outcome State Fault Refusal :=
  (actCommitValidated p peer).outcome s

/-! ### What items do when they are applied -/

/-- A layer's owner, source or window changes (R665). -/
def layerMoves (a b : Bytes) : Bool :=
  lyOwner a != lyOwner b || lyWin a != lyWin b || lyKind a != lyKind b || lyIndex a != lyIndex b || lyAddr a != lyAddr b || lySlots a != lySlots b

/-- Layers that a commit changes in that way, or clears. -/
def movedLayers (s : State) (items : List Staged) : List Nat := items.filterMap fun x =>
  match x with
  | .obj k l d =>
    let moves : Bool := match s.obj K_LAYER l, d with
      | some a, some b => layerMoves a b
      | some _, none => true
      | none, _ => true
    if k = K_LAYER ∧ moves = true then some l else none
  | .prm _ _ => none

/-- A new source starts anew. -/
def renewLayers (ls : List Nat) : Act := eff [.wall fun w => { w with layers := ls.foldl (fun m l => m.del l) w.layers }]

/-- R457, R458: the map image in force loads its entries. -/
def loadMap (b : Bytes) : Act :=
  let first := fieldN b 8 4
  eff [.lib fun l => { l with map := (List.range (fieldN b 12 4)).foldl (fun m i => m.put (first + i) (field b (64 + 32 * i) 32)) l.map }]

/-- R460: entries of tiles whose place, grid or range the new maquette changes are not valid. -/
def dropMoved (old : Bytes) : Act := fun s =>
  let new := s.mqt
  let key := fun (e : Bytes) => (tlEn e, tlBase e, tlCols e, tlRows e, tlMesh e, (List.range 6).map (tlAffine e))
  let same := fun t => decide (t < mqTiles old) && decide (t < mqTiles new) && key (mqTile old t) == key (mqTile new t)
  let stays := fun i => match lampOf s i with | some x => same x.1 | none => false
  [.lib fun l => { l with map := ⟨l.map.entries.map fun e => (e.1, if stays e.1 then e.2 else leBytes 32 (putBits (leNat e.2) 31 31 0))⟩ }]

/-- R505: the tiles that have answered are compared with the new maquette. -/
def recheckTiles : Act := fun s =>
  actsFor (s.tlk.tiles.entries.filter fun x => x.2.present) (fun x =>
    let l := x.1 / 32
    let h := x.1 % 32
    match tileAt s l h false with
    | none => eff (effTile l h (fun y => { y with mismatch := true }) :: raiseIf (!x.2.mismatch) 197)
    | some t =>
      if replyMatches (mqTile s.mqt t) x.2.reply then
        acts [eff [effTile l h fun y => { y with mismatch := false }], if x.2.mismatch then welcome t else eff []]
      else eff (effTile l h (fun y => { y with mismatch := true }) :: raiseIf (!x.2.mismatch) 197)) s

/-- A new maquette is in force. -/
def newMaquette (old : Bytes) : Act := acts [dropMoved old, recheckTiles, fun s =>
  let m := s.mqt
  [.prm Prm.MQT_TILES (w32 (mqTiles m)), .prm Prm.MQT_LAMPS (w32 (mqLamps m)), .prm Prm.MQT_CANVAS (w32 (mqH m % 65536 * 65536 + mqW m % 65536)),
   .prm Prm.MQT_IMAGE_CRC (w32 (crc32 m)), .wall fun w => { w with tiles := [] }, .tlk fun x => { x with rows := .empty }]]

/-- The switch, map and libration items of a commit (R420, R446, R457, R464, R474). old is the state before it. -/
def applyLib (old : State) (items : List Staged) : Act := fun s =>
  let map := (stagedObj items K_LIBMAP 0).isSome || stagesKind items K_LIBMAP
  acts [
    (match stagedObj items K_SWITCH 0 with
     | some (some b) => acts [if b.isEmpty then eff [] else patImport b, patSwitch (!recordsOnly b), if recordsOnly b then eff [] else libAfterLoad]
     | _ => eff []),
    actsFor (items.filterMap fun x => match x with | .obj k _ (some b) => if k = K_LIBMAP then some b else none | _ => none) loadMap,
    if stagesKind items K_MQT then newMaquette old.mqt else eff [],
    if map || stagesKind items K_SWITCH || stagesKind items K_MQT ||
        s.prm Prm.LIB_CODE != old.prm Prm.LIB_CODE || s.prm Prm.LIB_GROUP != old.prm Prm.LIB_GROUP then libAssign else eff [],
    eff ((if libEn s && !libEn old then [.lib fun l => { l with since := 0 }] else []) ++
      (if stagesPrm items (· == Prm.LIB_CTRL) then [.lib fun l => { l with stopped := false }] else []))] s

/-- R515, R749: a direct drive port runs while it is enabled; a commit clears its pin fault. -/
def syncDdp : Act := fun s => (List.range 16).flatMap fun p =>
  [.fld (Reg.DDP_PORT_STAT p) Fld.DDP_PORT_STAT.PIN_FAULT 0, .fld (Reg.DDP_PORT_STAT p) Fld.DDP_PORT_STAT.RUNNING (boolNat (ddpEn s p))]

/-- Ports and links that are no longer enabled are down. -/
def stopPorts : Act := acts [
  actsFor (List.range 64) (fun l s => if linkReady s l && !linkEn s l then linkDown l s else []),
  actsFor (List.range 4) (fun p s => if salReady s p && !salEn s p then salDown p else []),
  actsFor (List.range 4) (fun p s => if bitOf (s.pn (Prm.ETH_PORT_CFG p)) 31 then [] else [.prm (Prm.ETH_STATE p) 0])]

/-! ### Reports that follow the configuration -/

/-- RFE_TABLE_STATE, RFE_DEFECT_COUNT and CC_STATE of a sensor. -/
def syncSensor (sn : Nat) : Act := fun s =>
  let have' := fun k => (s.obj K_RFE (rfeIdx sn k)).isSome
  [.prm (Prm.RFE_TABLE_STATE sn) (w32 (((List.range 6).map fun k => if have' k then 2 ^ k else 0).foldl (· + ·) 0)),
   .prm (Prm.RFE_DEFECT_COUNT sn) (w32 (((s.obj K_RFE (rfeIdx sn 3)).getD []).length / 4)),
   .prm (Prm.CC_STATE sn) (w32 (ccState (s.pn (Prm.CC_CTRL sn)) (planMosaic s sn) (s.obj K_CC (ccIdx 0 sn)).isSome))]

/-- LYR_STATE and what a commit settles of a layer (R383, R384). -/
def syncLayer (l : Nat) : Act := fun s =>
  match s.obj K_LAYER l with
  | none => [.prm (Prm.LYR_STATE l) 0]
  | some b =>
    let ts := (groupTiles s (lyGroup b)).filter fun t => coversTile s b (mqTile s.mqt t)
    let plan := layerPlan s l b
    let ahead := layerAhead s l b
    [.prm (Prm.LYR_STATE l) (w32 (2 ^ 31 + 2 ^ 24 * (lyOwner b % 64) + 65536 * (lyPrio b % 64) + 256 * lyKind b + lyGroup b)),
     effLayer l fun x => { x with
       filter := (match plan, ts with | some c, t :: _ => filterOf (mqTile s.mqt t) b c | _, _ => lyFilter b),
       aliased := (match plan with | some c => ts.any fun t => aliasedOn (mqTile s.mqt t) b c | none => false),
       ahead := ahead }]

/-- Layers that show an engine: of kind 5, or as a fallback that has taken over. -/
def engineLayers (s : State) (e : Nat) : Nat := (s.objIdx K_LAYER).countP fun l => match s.obj K_LAYER l with
  | some b => (lyKind b == 5 && lyIndex b == e) || ((s.layerSt l).fallback && lyFallback b == e)
  | none => false

def syncEngines : Act := fun s => (List.range 32).map fun e =>
  .prm (Prm.PE_STATE e) (w32 ((if bitOf (s.pn (Prm.PE_CTRL e)) 31 then 2 ^ 31 else 0) + engineLayers s e))

/-- GRP_STATE and the latch offsets of a group and its bands (R77, R398). -/
def syncGroup (g : Nat) : Act := fun s =>
  [.prm (Prm.GRP_STATE g) (w32 (grpMode s g + 16 * (grpSlots s g - 1))),
   .prm (Prm.GRP_LATCH_OFFSET_NS g) (w32 (if (groupTiles s g).isEmpty then 0 else rasterOffset s g))]

def syncBands : Act := fun s => (List.range 64).map fun b =>
  .prm (Prm.BAND_LATCH_OFFSET b) (w32 (match (List.range 4).find? fun g => (groupBands s g).contains b with
    | some g => if grpMode s g = 2 then bandOffset s g b else rasterOffset s g
    | none => 0))

/-- Reports of the wall. -/
def syncWall : Act := acts [
  actsFor (List.range 64) syncLayer,
  actsFor (List.range 4) syncGroup, syncBands, syncEngines,
  fun s =>
    let cmd := ((List.range 4).map fun g => if grpMode s g = 0 then 2 ^ (4 + g) else 0).foldl (· + ·) 0
    let kinds := ((s.objIdx K_PAT).map (· / 256)).eraseDups
    let walls := ((s.objIdx K_PAT).filter (· < 256)).eraseDups
    let bits := fun (l : List Nat) => (l.map (2 ^ ·)).foldl (· + ·) 0
    [.prm Prm.LYR_USED (w32 (s.objIdx K_LAYER).length), .prm Prm.LYR_OVERLAPS (w32 (ownOverlaps s)),
     .prm Prm.LYR_ALIASED (w32 ((s.objIdx K_LAYER).countP fun l => (s.layerSt l).aliased)),
     .prm Prm.MQT_STATE (w32 ((if s.mqt.isEmpty then 0 else 1) + cmd)),
     .prm Prm.PAT_TABLE_STATE (w32 (bits kinds + 256 * bits walls)), .prm Prm.STR_RULES_USED (w32 (s.objIdx K_RULE).length)]]

/-- R559: the delay of a port. -/
def syncDelay (p : Nat) : Act := fun s =>
  let v := s.pn (Prm.AUD_DELAY p)
  let base := if bitOf v 31 then (glassToLamp s (bitsOf v 29 28) + 999) / 1000 else v % 2 ^ 20
  let d := delayOf base (sgn 32 (s.pn (Prm.AUD_DELAY_TRIM_US p)))
  acts [eff ([effAud p fun x => { x with due := d.1 }] ++ (if d.2 then [.fld (Reg.AUD_PORT_STAT p) Fld.AUD_PORT_STAT.DELAY_RAISED 1] else [])), audSync p] s

/-- Units are bound as the configuration and the shed level want (R45, R740). -/
def bindUnits : Act := fun s =>
  acts [rebind (isStandby s && s.flt.warm.isNone && s.flt.swap.isNone), fun s => [.thm fun t => { t with shedAt := shedLevel s }]] s

/-- What follows the configuration in force. -/
def settleSets : Act := acts [
  stopPorts, syncLanes, syncTlk, syncDrive, syncLib, syncGroups, syncDdp, actsFor (List.range 8) syncSensor, syncWall,
  actsFor (List.range 8) syncDelay,
  (fun s => [.thm fun t => { t with steerOff := t.steerOff.filter fun d => s.flag (Reg.PWR_VCORE d) Fld.PWR_VCORE.STEER_FAULT }]),
  bindUnits]

/-- The same, and the automatic save after a commit (R765). -/
def settle : Act := acts [settleSets, fun s => if bitOf (s.pn Prm.BOOT_CFG) 0 then requestSave s else []]

/-! ### A boundary (R117 to R120) -/

/-- A commit that a boundary of a group applies, the group's frame number being that of the frame that starts. -/
def dueAt (s : State) (g : Nat) (c : Commit) : Bool :=
  c.group == g && (match c.armed with | some t => decide (t + 50000 ≤ s.uptime) | none => false) &&
  (c.next || c.late || decide (frameAhead s g c.requested ≤ 0))

/-- One commit is applied, whole (R118), and its ticket completes (R120); rights withdrawn since then apply to the result (R331). -/
def applyCommit (key : Nat) : Act := fun s =>
  match s.arm.commits.find key with
  | none => []
  | some c =>
    let f := commitOwner key
    let frame := groupFrame s c.group
    let late := c.late || (!c.next && frame != c.requested)
    let moved := movedLayers s c.items
    acts [actsFor moved popEarly, renewLayers moved, applyItems f c.items, applyLib s c.items,
      reapply f, actsFor (moved.filter s.sec.pop.has) (fun l => fun s => popOpen l s.vis s),
      eff [.arm fun a => { a with lastApplied := if key < 128 then a.lastApplied.put f frame else a.lastApplied }],
      endCommit key ST_OK (commitResult c.requested frame (if late then 1 else 0))] s

/-- The commits that a boundary applies, in the order of their validation. -/
def commitBoundary (g : Nat) : Act := fun s =>
  let due := (validated s).filter fun e => dueAt s g e.2
  if due.isEmpty then [] else acts [actsFor due fun e => applyCommit e.1, settle] s

end Sys2Proof.Machine
end

