-- ==== Sys2Proof/Machine/MemMap.lean ====
section
/-! DEFINITION. The address mapping of device memory, its granules and who owns them (chapter 17, R598, R599, R614 to R617;
rows MEM_ALLOC to MEM_INFO). -/
namespace Sys2Proof.Machine

/-! ### Mapping (R598, R599) -/

def memStat (s : State) (m : Nat) (f : Fld) : Nat := s.fld (Reg.MEM_STAT m) f

/-- Three-stack mode. -/
def threeStack (s : State) : Bool := s.flag (Reg.MEM_STAT 0) Fld.MEM_STAT.THREE_STACK

/-- The stacks in service, the lowest first. -/
def liveStacks (s : State) : List Nat := (List.range 4).filter fun m => !s.boot.excluded.contains m

/-- The parity of the bits of a number below 2^40. -/
def parity (n : Nat) : Nat := (List.range 40).foldl (fun a i => a + n / 2 ^ i % 2) 0 % 2

/-- A mapping bit of an address: 0 to 4 pseudo-channel, 5 and 6 stack, 7 and 8 bank group, 9 and 10 bank. -/
def mapBit (s : State) (a i : Nat) : Nat := parity (a &&& s.pn64 (Prm.MEM_MASK_LO i))

/-- The address within the stack where the device runs with three stacks (R599); the address itself otherwise. -/
def stackAddr (s : State) (a : Nat) : Nat := if threeStack s then a / 2048 / 3 * 2048 + a % 2048 else a

/-- The stack of an address. -/
def stackOf (s : State) (a : Nat) : Nat :=
  if threeStack s then (liveStacks s).getD (a / 2048 % 3) 0 else mapBit s a 5 + 2 * mapBit s a 6

/-- The pseudo-channel of an address. -/
def pcOf (s : State) (a : Nat) : Nat := (List.range 5).foldl (fun v i => v + 2 ^ i * mapBit s (stackAddr s a) i) 0

/-- Bank group and bank. -/
def bankOf (s : State) (a : Nat) : Nat × Nat :=
  let x := stackAddr s a
  (mapBit s x 7 + 2 * mapBit s x 8, mapBit s x 9 + 2 * mapBit s x 10)

/-- The address within the bank under the default pivots: the pivot bits are removed and the bits above close up; with three
stacks, bits 11 and 12 stay. -/
def bankAddr (s : State) (a : Nat) : Nat :=
  if threeStack s then (stackAddr s a / 2 ^ 17 * 4 + stackAddr s a / 2 ^ 11 % 4) * 64 + a % 64
  else a / 2 ^ 17 * 64 + a % 64

/-- The pivot of mapping bit i (R598). -/
def mapPivot (i : Nat) : Nat := 6 + i

/-- A mask set that R598 allows: each holds its own pivot and no other, and only bits 36 to 6. -/
def masksOk (mask : Nat → Nat) : Bool :=
  (List.range 11).all fun i => mask i % 64 == 0 && decide (mask i < 2 ^ 37) &&
    (List.range 11).all fun j => bitOf (mask i) (mapPivot j) == (i == j)

/-- The size of the space. -/
def memSize (s : State) : Nat := (if threeStack s then 72 else 96) * 2 ^ 30

/-! ### Granules (R615 to R617) -/

/-- Bytes of a granule. -/
def GRAN : Nat := 2 ^ 21

/-- Reserved allocations whose ticket has not completed, by base granule: owner (1), base (8), length (8), ticket (4). -/
def K_MEMP : Nat := 15

/-- Where the device area begins, which is where the pool ends. -/
def devBase (s : State) : Nat := s.pn64 Prm.MEM_DEV_BASE_LO

/-- Allocations and reservations: owner, base, length. -/
def allocs (s : State) : List (Nat × Nat × Nat) :=
  [K_MEM, K_MEMP].flatMap fun k => (s.objIdx k).filterMap fun i => (s.obj k i).map fun b => (fieldN b 0 1, fieldN b 1 8, fieldN b 9 8)

/-- The owner of the granule of an address, once it is tagged. -/
def granuleOwner (s : State) (a : Nat) : Option Nat :=
  (s.objIdx K_MEM).findSome? fun i => match s.obj K_MEM i with
    | some b => if fieldN b 1 8 ≤ a ∧ a < fieldN b 1 8 + fieldN b 9 8 then some (fieldN b 0 1) else none
    | none => none

/-- A run of the pool that meets no allocation. -/
def runFree (s : State) (base len : Nat) : Bool :=
  decide (base + len ≤ devBase s) && (allocs s).all fun a => decide (base + len ≤ a.2.1) || decide (a.2.1 + a.2.2 ≤ base)

/-- The lowest run of free granules that fits (R616): it begins at 0 or where an allocation ends. -/
def lowestRun (s : State) (len : Nat) : Option Nat :=
  (((0 :: (allocs s).map fun a => a.2.1 + a.2.2).filter fun b => runFree s b len).foldl (fun m b => match m with
    | none => some b
    | some x => some (min x b)) none)

/-- MiB that the pool has free, and that a function holds. -/
def poolFree (s : State) : Nat := (devBase s - (allocs s).foldl (fun a x => a + x.2.2) 0) / 2 ^ 20
def heldMib (s : State) (f : Nat) : Nat := ((allocs s).filter fun x => x.1 == f).foldl (fun a x => a + x.2.2) 0 / 2 ^ 20

/-- The memory quota of a function in MiB. -/
def memQuota (s : State) (f : Nat) : Nat := match s.obj K_QUOTA f with | some b => fieldN b 0 4 | none => 0

/-- MEM_POOL_FREE_MIB and MEM_ALLOCS follow the allocations. -/
def syncPool : Act := fun s => [.prm Prm.MEM_POOL_FREE_MIB (w32 (poolFree s)), .prm Prm.MEM_ALLOCS (w32 (allocs s).length)]

/-- MEM_ALLOC (R616). A principal of another package has no quota here. -/
def hMemAlloc (c : Svc) (s : State) : Reply :=
  let mib := c.n 0 4
  let len := mib * 2 ^ 20
  checks [c.badLen 8, (mib == 0 || mib % 2 == 1, ST_BAD_PARAM), c.rsv 4 4,
    ((lowestRun s len).isNone || (!c.isF0 && decide (memQuota s c.f < heldMib s c.f + mib)) || decide (1024 ≤ (allocs s).length), ST_TABLE_FULL)]
    (let base := (lowestRun s len).getD 0
     .pending (acts [eff [.obj K_MEMP (base / GRAN) (some (leBytes 1 c.f ++ leBytes 8 base ++ leBytes 8 len ++
       leBytes 4 (ticketId c.f (s.mbx c.f).nextTicket)))], syncPool]))

def execMemAlloc (s : State) : Host.Outcome State Fault Refusal := (turn 0xF00 hMemAlloc).outcome s

/-- The reservation of a ticket. -/
def reservation (s : State) (f ticket : Nat) : Option (Nat × Bytes) :=
  (s.objIdx K_MEMP).findSome? fun i => match s.obj K_MEMP i with
    | some b => if fieldN b 0 1 = f ∧ fieldN b 17 4 = ticket then some (i, b) else none
    | none => none

/-- R616: the run is written with zeros, tagged for the caller, and the ticket completes with its address. -/
def actMemAllocDone (f : Fn) (ticket : Nat) : Act := fun s =>
  match reservation s f ticket with
  | none => []
  | some (i, b) => acts [
      eff [.devClear (fieldN b 1 8) (fieldN b 9 8), .obj K_MEMP i none, .obj K_MEM i (some (b.take 17))],
      completeTicket f ticket ST_OK (leBytes 8 (fieldN b 1 8))] s

def execMemAllocDone (f : Fn) (ticket : Nat) (s : State) : Host.Outcome State Fault Refusal := (actMemAllocDone f ticket).outcome s

/-- R616: an allocation aborted before its ticket completed. -/
def dropReservation (f ticket : Nat) : Act := fun s =>
  match reservation s f ticket with
  | none => []
  | some (i, _) => acts [eff [.obj K_MEMP i none], syncPool] s

/-! ### What names an address -/

/-- Address parameters with the test that they are in use: the rings of outputs, triads and audio ports. -/
def addrPrms (s : State) : List (Nat × Bool) :=
  ((List.range 16).map fun o => (Prm.OUT_ADDR_LO o, srcEn (s.pn (Prm.OUT_SRC o)) && srcDest (s.pn (Prm.OUT_SRC o)) == 0)) ++
  ((List.range 2).flatMap fun t => [Prm.TRI_DISP_ADDR_LO t, Prm.TRI_CODE_ADDR_LO t, Prm.TRI_VIS_ADDR_LO t].map fun i =>
    (i, srcEn (s.pn (Prm.TRI_SRC t)))) ++
  ((List.range 8).map fun p => (Prm.AUD_RING_ADDR_LO p, audEn s p))

/-- Addresses that committed objects name. -/
def addrsInForce (s : State) : List Nat :=
  ((addrPrms s).filter fun x => x.2 || s.pn64 x.1 != 0).map (fun x => s.pn64 x.1) ++
  (s.str.ctxs.entries.filter fun e => dEss e.2.desc != 3).map (fun e => dAddr e.2.desc) ++
  ((s.objIdx K_LAYER).filterMap fun l => match s.obj K_LAYER l with
    | some b => if lyKind b = 3 then some (lyAddr b) else none
    | none => none) ++
  (s.cast.jobs.entries.filter fun e => 2 ≤ e.2.kind).map (fun e => e.2.ring) ++
  s.cst.plays.entries.map (fun e => e.2.ring)

/-- Addresses that staged objects name. -/
def addrsStaged (s : State) : List Nat :=
  s.arm.staged.entries.flatMap (fun e =>
    ((addrPrms s).filter fun x => (stagedPrm e.2 x.1).isSome || (stagedPrm e.2 (x.1 + 1)).isSome).map fun x =>
      overlayPrm s e.2 x.1 + 2 ^ 32 * overlayPrm s e.2 (x.1 + 1)) ++
  s.arm.commits.entries.flatMap (fun e =>
    ((addrPrms s).filter fun x => (stagedPrm e.2.items x.1).isSome || (stagedPrm e.2.items (x.1 + 1)).isSome).map fun x =>
      overlayPrm s e.2.items x.1 + 2 ^ 32 * overlayPrm s e.2.items (x.1 + 1)) ++
  s.allStaged.filterMap fun x => match x.2 with
    | .obj k _ (some b) => if k = K_LAYER ∧ lyKind b = 3 then some (lyAddr b) else none
    | _ => none

/-- MEM_FREE (R617). -/
def hMemFree (c : Svc) (s : State) : Reply :=
  let a := c.n 0 8
  let i := a / GRAN
  let b := s.obj K_MEM i
  let mine : Bool := match b with | some b => fieldN b 1 8 == a && fieldN b 0 1 == c.f | none => false
  let len := match b with | some b => fieldN b 9 8 | none => 0
  checks [c.badLen 8, (!mine, ST_NO_CONTEXT),
    ((addrsInForce s ++ addrsStaged s).any fun x => decide (a ≤ x) && decide (x < a + len), ST_CONFLICT)]
    (.ok [] (acts [eff [.obj K_MEM i none], syncPool]))

def execMemFree (s : State) : Host.Outcome State Fault Refusal := (turn 0xF01 hMemFree).outcome s

/-- MEM_QUOTA (R616). -/
def hMemQuota (c : Svc) (_ : State) : Reply :=
  let f := c.n 0 1
  checks [c.badLen 8, c.notF0, (f == 0 || 63 < f, ST_BAD_PARAM), c.rsv 1 3] (.ok [] (saveObj K_QUOTA f (leBytes 4 (c.n 4 4))))

def execMemQuota (s : State) : Host.Outcome State Fault Refusal := (turn 0xF02 hMemQuota).outcome s

/-- MEM_INFO. -/
def hMemInfo (c : Svc) (s : State) : Reply :=
  let mine := (s.objIdx K_MEM).countP fun i => match s.obj K_MEM i with | some b => fieldN b 0 1 == c.f | none => false
  checks [c.badLen 0] (.ok (leBytes 4 mine ++ leBytes 4 (heldMib s c.f) ++
    leBytes 4 (if c.isF0 then 0xFFFFFFFF else memQuota s c.f) ++ leBytes 4 (poolFree s)) fun _ => [])

def execMemInfo (s : State) : Host.Outcome State Fault Refusal := (turn 0xF03 hMemInfo).outcome s

end Sys2Proof.Machine
end

