-- ==== Sys2Proof/Machine/Memory.lean ====
section
/-! DEFINITION. Line accesses, errors, the patrol scrubber and the power states of pseudo-channels (chapter 17; rows MEM_REQUEST
to MEM_RETRAIN). -/
namespace Sys2Proof.Machine

def effMem (g : MemSt → MemSt) : Eff := .mem g

/-! ### Requests (R597, R600 to R607, R615) -/

/-- The urgency of a request of an age against a target (R600). -/
def urgency (t a : Nat) : Nat := if a < t / 2 then 0 else if a < 3 * t / 4 then 1 else if a < t then 2 else 3

/-- The cap of a port: ports 10 and 14 have 0 (R600). -/
def portCap (s : State) (i : Nat) : Nat := if i = 10 ∨ i = 14 then 0 else s.pn (Prm.MEM_PORT_TARGET_NS_0 + i) / 2 ^ 30

def portTarget (s : State) (i : Nat) : Nat := s.pn (Prm.MEM_PORT_TARGET_NS_0 + i) % 2 ^ 24

/-- MEM_ERR_ADDR of a controller: VALID, KIND and the line (R606). -/
def errAddr (m kind line : Nat) : List Eff := setReg64 (Reg.MEM_ERR_ADDR_LO m) (line * 64 + kind * 2 ^ 61 + 2 ^ 63)

/-- A corrected read (R605). -/
def corrected (m line : Nat) : List Eff :=
  [.inc (Reg.MEM_ECC m) Fld.MEM_ECC.CE 1, .count (Prm.MEM_CE m) 1, .count Prm.MEM_CE_TOTAL 1,
   effMem fun x => { x with window := x.window.upd m 0 (· + 1) }] ++ errAddr m 0 line

/-- An uncorrectable demand read: the line is poisoned (R606). -/
def uncorrectable (m line : Nat) : List Eff :=
  [.inc (Reg.MEM_ECC m) Fld.MEM_ECC.UE 1, .count (Prm.MEM_UE m) 1, .count Prm.MEM_UE_TOTAL 1, .poison line true] ++ errAddr m 1 line ++
  [.raise 225]

/-- A read of a poisoned line (R606). -/
def poisonedRead (m line : Nat) : List Eff :=
  [.count (Prm.MEM_POISON m) 1, .count Prm.MEM_POISON_TOTAL 1] ++ errAddr m 3 line

/-- Data returned to the requester of a port: a mark (1 poisoned), then the bytes. -/
def lineData (port : Nat) (bad : Bool) (bs : Bytes) : Eff := .emit (.packet 8 port (leBytes 1 (if bad then 1 else 0) ++ bs))

/-- The pseudo-channel leaves power-down or self-refresh (R609, R612). -/
def pcWake (m pc : Nat) : Act := fun s =>
  if !bitOf (s.pn (Prm.MEM_PC_DOWN m)) pc then [] else
  [.prm (Prm.MEM_PC_DOWN m) (w32 (putBits (s.pn (Prm.MEM_PC_DOWN m)) pc pc 0)),
   .fld (Reg.MEM_STAT m) Fld.MEM_STAT.PCS_DOWN (memStat s m Fld.MEM_STAT.PCS_DOWN - 1)]

/-- The counters of a request that completes at an age in ns: late at urgency 3 (R600), and the port's largest latency. -/
def requestCounts (m i age : Nat) (waited : Bool) (depth : Nat) : Act := fun s =>
  let late := min (urgency (portTarget s i) age) (portCap s i) == 3
  let j := 48 * m + i
  [.count64 (Prm.MEM_REQS_LO m) 1, .fld (Reg.MEM_STAT m) Fld.MEM_STAT.WQ_DEPTH depth,
   .prm (Prm.MEM_WQ_MAX m) (w32 (max (s.pn (Prm.MEM_WQ_MAX m)) depth)),
   .prm (Prm.MEM_PORT_MAXLAT_0 j) (w32 (max (s.pn (Prm.MEM_PORT_MAXLAT_0 j)) age))] ++
  (if late then [.count (Prm.MEM_PORT_LATE_0 j) 1, .count Prm.MEM_LATE_TOTAL 1] else []) ++
  (if waited then [.count64 Prm.MEM_RAW_WAITS_LO 1] else [])

/-- The effect of a served access on its line (R597, R602, R605, R606). -/
def serveLine (m port addr : Nat) (write : Option Bytes) (len ecc : Nat) : Act := fun s =>
  let line := addr / 64
  let bad := s.poison.has line
  match write with
  | some bs =>
    if bs.length = 64 ∧ addr % 64 = 0 then [.dev addr bs, .poison line false]
    else if bad then []
    else if ecc = 2 then uncorrectable m line
    else (if ecc = 1 then corrected m line else []) ++ [.dev addr bs]
  | none =>
    if bad then poisonedRead m line ++ [lineData port true (memReadBytes s.devMem addr len)]
    else if ecc = 2 then uncorrectable m line ++ [lineData port true (memReadBytes s.devMem addr len)]
    else (if ecc = 1 then corrected m line else []) ++ [lineData port false (memReadBytes s.devMem addr len)]

/-- One access to one line: a port, the principal's tag if it carries one, a write or a read of some bytes, its age in ns when it
completed, whether it waited for a queued write, the write queue's depth, and what the stack's code found (0 nothing, 1 a
correctable and 2 an uncorrectable error). Accesses take effect in the order of their commands (R603). -/
def actMemRequest (port : Fin 16) (tag : Option Fn) (addr : Nat) (write : Option Bytes) (len age : Nat) (waited : Bool) (depth : Fin 65)
    (ecc : Fin 3) : Act := fun s =>
  let n := match write with | some bs => bs.length | none => len
  if n = 0 ∨ 64 < addr % 64 + n ∨ memSize s ≤ addr then [] else
  let m := stackOf s addr
  match tag with
  | some f =>
    if granuleOwner s addr ≠ some f.val then
      [.count Prm.MEM_DENY_TOTAL 1, .count (Prm.MEM_DENY m) 1, .raise 248] ++
      (if write.isNone then [lineData port false (List.replicate len 0)] else [])
    else acts [pcWake m (pcOf s addr), requestCounts m port age waited depth, serveLine m port addr write len ecc] s
  | none => acts [pcWake m (pcOf s addr), requestCounts m port age waited depth, serveLine m port addr write len ecc] s

def execMemRequest (port : Fin 16) (tag : Option Fn) (addr : Nat) (write : Option Bytes) (len age : Nat) (waited : Bool) (depth : Fin 65)
    (ecc : Fin 3) (s : State) : Host.Outcome State Fault Refusal := (actMemRequest port tag addr write len age waited depth ecc).outcome s

/-! ### Scrubbing (R606, R608) -/

/-- Lines of a stack. -/
def stackLines : Nat := 24 * 2 ^ 24

/-- The scrubber of a controller reads its next line; line is the device address of it divided by 64. -/
def actScrubLine (m : Fin 4) (line : Nat) (ecc : Fin 3) : Act := fun s =>
  let pos := s.mem.scrub.getD m 0 + 1
  let past := stackLines ≤ pos
  let bad := ecc.val = 2 ∧ !s.poison.has line
  effMem (fun x => { x with scrub := x.scrub.put m (if past then 0 else pos) }) ::
  [.fld (Reg.MEM_SCRUB m) Fld.MEM_SCRUB.RUNNING 1, .fld (Reg.MEM_SCRUB m) Fld.MEM_SCRUB.POS_MIB (if past then 0 else pos / 16384),
   .prm (Prm.MEM_SCRUB_POS m) (w32 (if past then 0 else pos / 16384))] ++
  (if bad then [Eff.count (Prm.MEM_SCRUB_UE m) 1, .poison line true] ++ errAddr m 2 line ++
     [.raise 226] else []) ++
  (if ecc.val = 2 then [.flt fun x => { x with queue := if x.queue.any (·.1 == line) then x.queue else x.queue ++ [(line, 0)] }] else []) ++
  (if past then [.count Prm.MEM_SCRUB_PASSES 1, .raise 227] else [])

def execScrubLine (m : Fin 4) (line : Nat) (ecc : Fin 3) (s : State) : Host.Outcome State Fault Refusal := (actScrubLine m line ecc).outcome s

/-- R605: a second of device time ends. -/
def actMemCeWindow : Act := fun s =>
  ((List.range 4).flatMap fun m => raiseIf (decide (s.pn Prm.MEM_CE_THRESH < s.mem.window.getD m 0)) 224) ++
  ((List.range 4).filter fun m => s.flag (Reg.MEM_STAT m) Fld.MEM_STAT.REFRESH_2X).map (fun m => Eff.count (Prm.MEM_REFRESH_2X_S m) 1) ++
  [effMem fun x => { x with window := .empty }]

def execMemCeWindow (s : State) : Host.Outcome State Fault Refusal := actMemCeWindow.outcome s

/-! ### Power and retraining (R609, R613) -/

/-- An idle pseudo-channel enters power-down, or self-refresh (never where MEM_SR_IDLE_US is 0). -/
def actMemPdEntry (m : Fin 4) (pc : Fin 32) (self : Bool) : Act := fun s =>
  if self ∧ s.pn Prm.MEM_SR_IDLE_US = 0 then [] else
  let down := bitOf (s.pn (Prm.MEM_PC_DOWN m)) pc
  [.prm (Prm.MEM_PC_DOWN m) (w32 (putBits (s.pn (Prm.MEM_PC_DOWN m)) pc pc 1)),
   .count (if self then Prm.MEM_SR_ENTRIES m else Prm.MEM_PD_ENTRIES m) 1] ++
  (if down then [] else [.fld (Reg.MEM_STAT m) Fld.MEM_STAT.PCS_DOWN (memStat s m Fld.MEM_STAT.PCS_DOWN + 1)])

def execMemPdEntry (m : Fin 4) (pc : Fin 32) (self : Bool) (s : State) : Host.Outcome State Fault Refusal := (actMemPdEntry m pc self).outcome s

/-- R613. The requests that wait meanwhile are timing. -/
def actMemRetrain (m : Fin 4) (_ : Fin 32) : Act := eff [.count (Prm.MEM_RETRAIN m) 1, .count Prm.MEM_RETRAINS 1]

def execMemRetrain (m : Fin 4) (pc : Fin 32) (s : State) : Host.Outcome State Fault Refusal := (actMemRetrain m pc).outcome s

end Sys2Proof.Machine
end

