-- ==== Sys2Proof/Machine/DmaEngine.lean ====
section
/-! DEFINITION. DMA host channels: descriptors, completion, the tail mark, pauses and resets (chapter 18; rows DMA_ENABLE to
DMA_DESC_DONE). The internal channels are the writes of the engines they serve (notes/assumptions/63). -/
namespace Sys2Proof.Machine

def State.chan (s : State) (f : Nat) : DmaCh := s.dma.chans.getD f DmaCh.init
def effChan (f : Nat) (g : DmaCh → DmaCh) : Eff := .dma fun d => { d with chans := d.chans.upd f DmaCh.init g }

def dmaOn (s : State) (f : Nat) : Bool := s.flag (Reg.DMA_CTRL f) Fld.DMA_CTRL.EN
def dmaParked (s : State) (f : Nat) : Bool := s.flag (Reg.DMA_STAT f) Fld.DMA_STAT.PARKED
def dmaPaused (s : State) (f : Nat) : Bool := s.flag (Reg.DMA_STAT f) Fld.DMA_STAT.PAUSED
def dmaPausing (s : State) (f : Nat) : Bool := s.flag (Reg.DMA_CTRL f) Fld.DMA_CTRL.PAUSE
def dmaCur (s : State) (f : Nat) : Nat := s.rd64 (Reg.DMA_CUR_LO f)

/-- RUNNING: enabled, neither parked nor paused. -/
def syncRunning (f : Nat) : Act := fun s =>
  [.fld (Reg.DMA_STAT f) Fld.DMA_STAT.RUNNING (if dmaOn s f && !dmaParked s f && !dmaPaused s f then 1 else 0)]

/-! ### Descriptors (R621 to R623) -/

def dmaLen (w : Word) : Nat := bitsOf w.toNat 23 0
def dmaTail (w : Word) : Bool := w.getLsbD 30
def dmaIrq (w : Word) : Bool := w.getLsbD 29

/-- Every granule of a device range is owned by the function (R622). Host memory is the function's own. -/
def dmaOwned (s : State) (f addr len : Nat) : Bool :=
  2 ^ 63 ≤ addr || (List.range ((addr % GRAN + len + GRAN - 1) / GRAN)).all fun i => granuleOwner s (addr + i * GRAN) == some f

/-- R640: a SHARE in force above DMA_MAX_SHARE is lowered at the next burst. -/
def clampShare (s : State) (f : Nat) : List Eff :=
  let m := s.pn (Prm.DMA_MAX_SHARE f)
  if m < s.fld (Reg.DMA_CTRL f) Fld.DMA_CTRL.SHARE then [.fld (Reg.DMA_CTRL f) Fld.DMA_CTRL.SHARE m] else []

/-- Bytes of a descriptor moved from one count to another: the source is read whole, then written. -/
def moveBytes (f lo hi : Nat) : Act := fun s =>
  match (s.chan f).desc with
  | none => []
  | some d => if hi ≤ lo then [] else
    clampShare s f ++ [ringWrite (d.dst + lo) (s.ringRead (d.src + lo) (hi - lo)), effChan f (fun c => { c with moved := hi }),
     .fld (Reg.DMA_CUR_DONE f) Fld.DMA_CUR_DONE.BYTES hi] ++
    setReg64 (Reg.DMA_BYTES_LO f) (s.rd64 (Reg.DMA_BYTES_LO f) + (hi - lo))

/-- Byte 3 of a control word written with OWN = 0, and TAIL and IRQ as read (R627). -/
def clearOwn (addr : Nat) (w : Word) (tail : Bool) : Eff :=
  ringWrite (addr + 3) [BitVec.ofNat 8 ((if tail then 0x40 else 0) + if dmaIrq w then 0x20 else 0)]

/-- A channel stops with a status and stays disabled (R625, R634). -/
def haltChan (f st : Nat) : Act := acts [
  eff [.fld (Reg.DMA_CTRL f) Fld.DMA_CTRL.EN 0, .fld (Reg.DMA_STAT f) Fld.DMA_STAT.HALTED 1,
    .fld (Reg.DMA_STAT f) Fld.DMA_STAT.PARKED 0, .fld (Reg.DMA_STAT f) Fld.DMA_STAT.PAUSED 0,
    .fld (Reg.DMA_STAT f) Fld.DMA_STAT.DB_PENDING 0, .fld (Reg.DMA_STAT f) Fld.DMA_STAT.LAST_STATUS st,
    effChan f fun _ => DmaCh.init],
  syncRunning f]

/-- ERR of a status (R624). -/
def dmaErr (st : Nat) : Nat :=
  if st = ST_OK then 0 else if st = ST_ABORTED then 1 else if st = ST_DENIED then 2 else if st = ST_INPUT_CORRUPT then 3
  else if st = ST_BAD_PARAM then 4 else 5

/-- The status word of a descriptor, then IRQ, then OWN where it is cleared now (R627, R629). -/
def writeStatus (f addr : Nat) (w : Word) (st bytes : Nat) (own : Bool) : Act := signalling f fun _ =>
  [ringWrite (addr + 28) (leBytes 4 (2 ^ 31 + dmaErr st * 2 ^ 24 + bytes))] ++
  (if dmaIrq w then [.fld (Reg.DMA_STAT f) Fld.DMA_STAT.IRQ 1] else []) ++
  (if own then [clearOwn addr w (dmaTail w)] else []) ++
  [.fld (Reg.DMA_STAT f) Fld.DMA_STAT.LAST_STATUS st]

/-- A descriptor ends with an error: status, OWN, then the halt (R625). -/
def failDesc (f addr : Nat) (w : Word) (st bytes : Nat) : Act := acts [
  writeStatus f addr w st bytes true, eff [.count (Prm.DMA_DESC_ERRS f) 1], haltChan f st]

/-- The engine reads the old tail again (R630): with its tail mark 0 it clears OWN and follows NEXT; otherwise it stays parked. -/
def rereadTail (f : Nat) : Act := fun s =>
  let a := dmaCur s f
  let b := s.ringRead a 32
  let w := w32 (fieldN b 0 4)
  if dmaTail w then [] else acts [
    eff ([clearOwn a w false, .fld (Reg.DMA_STAT f) Fld.DMA_STAT.PARKED 0, effChan f (fun _ => DmaCh.init)] ++
      setReg64 (Reg.DMA_CUR_LO f) (fieldN b 20 8)), syncRunning f] s

/-! ### Enable, pause, doorbell (R630, R631, R634, R635) -/

/-- EN = 1 written to a disabled channel: DMA_HEAD is latched and the channel starts there. -/
def dmaStart (f : Nat) : Act := fun s =>
  if dmaOn s f then [] else
  acts [eff ([.fld (Reg.DMA_CTRL f) Fld.DMA_CTRL.EN 1, .fld (Reg.DMA_STAT f) Fld.DMA_STAT.HALTED 0,
      .fld (Reg.DMA_STAT f) Fld.DMA_STAT.DB_PENDING 0, .fld (Reg.DMA_CUR_DONE f) Fld.DMA_CUR_DONE.BYTES 0, effChan f (fun _ => DmaCh.init)] ++
      setReg64 (Reg.DMA_CUR_LO f) (s.rd64 (Reg.DMA_HEAD_LO f))), syncRunning f] s

/-- EN = 0 takes effect only while the channel is parked or paused; OWN of a parked tail is cleared with TAIL kept. -/
def dmaStop (f : Nat) : Act := fun s =>
  if !dmaOn s f ∨ (!dmaParked s f ∧ !dmaPaused s f) then [] else
  let tail := match (s.chan f).desc with
    | some d => if dmaParked s f then [clearOwn (dmaCur s f) d.ctrl true] else []
    | none => []
  acts [eff (tail ++ [.fld (Reg.DMA_CTRL f) Fld.DMA_CTRL.EN 0, .fld (Reg.DMA_STAT f) Fld.DMA_STAT.PARKED 0,
      .fld (Reg.DMA_STAT f) Fld.DMA_STAT.PAUSED 0, .fld (Reg.DMA_STAT f) Fld.DMA_STAT.DB_PENDING 0, effChan f (fun _ => DmaCh.init)]),
    syncRunning f] s

/-- PAUSE as written. Clearing it resumes. -/
def dmaPause (f : Nat) (on : Bool) : Act := acts [
  eff (.fld (Reg.DMA_CTRL f) Fld.DMA_CTRL.PAUSE (if on then 1 else 0) ::
    (if on then [] else [.fld (Reg.DMA_STAT f) Fld.DMA_STAT.PAUSED 0])), syncRunning f]

/-- A host write of DMA_CTRL in a function's own set, where EN or PAUSE is what the row names. -/
def dmaCtrl (f : Nat) (v : Word) : Act := acts [
  (fun s => [.reg (Reg.DMA_CTRL f) (shareWord s (Reg.DMA_CTRL f) v)]),
  if getFld v Fld.DMA_CTRL.EN = 1 then dmaStart f else dmaStop f,
  dmaPause f (getFld v Fld.DMA_CTRL.PAUSE == 1)]

def actDmaEnable (f : Fn) (v : Word) : Act := if getFld v Fld.DMA_CTRL.EN = 1 then dmaCtrl f v else fun _ => []
def actDmaDisable (f : Fn) (v : Word) : Act := if getFld v Fld.DMA_CTRL.EN = 0 then dmaCtrl f v else fun _ => []
def actDmaPause (f : Fn) (v : Word) : Act := if getFld v Fld.DMA_CTRL.PAUSE = 1 then dmaCtrl f v else fun _ => []
def actDmaResume (f : Fn) (v : Word) : Act := if getFld v Fld.DMA_CTRL.PAUSE = 0 then dmaCtrl f v else fun _ => []

def execDmaEnable (f : Fn) (v : Word) (s : State) : Host.Outcome State Fault Refusal := (actDmaEnable f v).outcome s
def execDmaDisable (f : Fn) (v : Word) (s : State) : Host.Outcome State Fault Refusal := (actDmaDisable f v).outcome s
def execDmaPause (f : Fn) (v : Word) (s : State) : Host.Outcome State Fault Refusal := (actDmaPause f v).outcome s
def execDmaResume (f : Fn) (v : Word) (s : State) : Host.Outcome State Fault Refusal := (actDmaResume f v).outcome s

/-- R635: the last outstanding read of a pausing channel is written; bytes of the descriptor are moved by now. -/
def actDmaPaused (f : Fn) (bytes : Nat) : Act := fun s =>
  if !dmaOn s f ∨ !dmaPausing s f ∨ dmaParked s f ∨ dmaPaused s f then [] else
  let len := match (s.chan f).desc with | some d => dmaLen d.ctrl | none => 0
  acts [moveBytes f (s.chan f).moved (min bytes len), eff [.fld (Reg.DMA_STAT f) Fld.DMA_STAT.PAUSED 1], syncRunning f] s

def execDmaPaused (f : Fn) (bytes : Nat) (s : State) : Host.Outcome State Fault Refusal := (actDmaPaused f bytes).outcome s

/-- A doorbell (R630, R631). -/
def actDmaDoorbell (f : Fn) (v : Word) : Act := fun s =>
  if getFld v Fld.DMA_DOORBELL.RING = 0 ∨ !dmaOn s f then []
  else if dmaParked s f then rereadTail f s
  else [.fld (Reg.DMA_STAT f) Fld.DMA_STAT.DB_PENDING 1]

def execDmaDoorbell (f : Fn) (v : Word) (s : State) : Host.Outcome State Fault Refusal := (actDmaDoorbell f v).outcome s

/-! ### Fetch and completion (R622, R625 to R627, R631, R633) -/

/-- An address that names host memory while the function's bus mastering is off. -/
def hostBarred (s : State) (f addr : Nat) : Bool := 2 ^ 63 ≤ addr && s.boot.masterOff.contains f

/-- The engine reads the descriptor at DMA_CUR; fail tells how a host read ended: 0 with data, 1 in a timeout, 2 poisoned. -/
def actDmaDescFetch (f : Fn) (fail : Fin 3) : Act := fun s =>
  if !dmaOn s f ∨ dmaPausing s f ∨ dmaParked s f ∨ (s.chan f).desc.isSome then [] else
  let a := dmaCur s f
  if a % 32 ≠ 0 then haltChan f ST_BAD_PARAM s
  else if hostBarred s f a ∨ !dmaOwned s f a 32 then haltChan f ST_DENIED s
  else if 2 ^ 63 ≤ a ∧ fail.val = 1 then haltChan f ST_TIMEOUT s
  else if (2 ^ 63 ≤ a ∧ fail.val = 2) ∨ (firstPoison s a 32).isSome then haltChan f ST_INPUT_CORRUPT s
  else
    let b := s.ringRead a 32
    let w := w32 (fieldN b 0 4)
    let d : DmaDesc := ⟨w, fieldN b 4 8, fieldN b 12 8, fieldN b 20 8⟩
    if !w.getLsbD 31 then haltChan f ST_BAD_PARAM s
    else if bitsOf w.toNat 28 24 ≠ 0 ∨ (!dmaTail w ∧ d.next % 32 ≠ 0) then failDesc f a w ST_BAD_PARAM 0 s
    else if !dmaOwned s f d.src (dmaLen w) ∨ !dmaOwned s f d.dst (dmaLen w) ∨
      (dmaLen w ≠ 0 ∧ (hostBarred s f d.src ∨ hostBarred s f d.dst)) then failDesc f a w ST_DENIED 0 s
    else [effChan f (fun _ => ⟨some d, 0⟩), .fld (Reg.DMA_CUR_DONE f) Fld.DMA_CUR_DONE.BYTES 0]

def execDmaDescFetch (f : Fn) (fail : Fin 3) (s : State) : Host.Outcome State Fault Refusal := (actDmaDescFetch f fail).outcome s

/-- The channel parks at its tail, consuming a pending doorbell (R631). -/
def parkChan (f : Nat) : Act := acts [
  eff [.fld (Reg.DMA_STAT f) Fld.DMA_STAT.PARKED 1], syncRunning f,
  fun s => if s.flag (Reg.DMA_STAT f) Fld.DMA_STAT.DB_PENDING then
    .fld (Reg.DMA_STAT f) Fld.DMA_STAT.DB_PENDING 0 :: rereadTail f (applyAll [.fld (Reg.DMA_STAT f) Fld.DMA_STAT.DB_PENDING 0] s) else []]

/-- The last data write of the descriptor leaves the engine; fail tells how the host reads of its data ended: 0 with data, 1 in a
timeout, 2 poisoned, the last two after some bytes. A poisoned source line ends it at that line (ERR 3). -/
def actDmaDescDone (f : Fn) (fail : Fin 3) (bytes : Nat) : Act := fun s =>
  match (s.chan f).desc with
  | none => []
  | some d =>
    if !dmaOn s f ∨ dmaParked s f ∨ dmaPaused s f then [] else
    let a := dmaCur s f
    let len := dmaLen d.ctrl
    let lo := (s.chan f).moved
    let host := 2 ^ 63 ≤ d.src ∧ len ≠ 0
    match firstPoison s d.src len with
    | some p => acts [moveBytes f lo (max lo (min p len)), fun s => failDesc f a d.ctrl ST_INPUT_CORRUPT (s.chan f).moved s] s
    | none =>
      if host ∧ fail.val ≠ 0 then
        acts [moveBytes f lo (max lo (min bytes len)),
          fun s => failDesc f a d.ctrl (if fail.val = 1 then ST_TIMEOUT else ST_INPUT_CORRUPT) (s.chan f).moved s] s
      else acts [moveBytes f lo len, writeStatus f a d.ctrl ST_OK len (!dmaTail d.ctrl),
          (fun s => [.reg (Reg.DMA_COUNT f) (s.rd (Reg.DMA_COUNT f) + 1)]),
          if dmaTail d.ctrl then parkChan f
          else eff (effChan f (fun _ => DmaCh.init) :: setReg64 (Reg.DMA_CUR_LO f) d.next)] s

def execDmaDescDone (f : Fn) (fail : Fin 3) (bytes : Nat) (s : State) : Host.Outcome State Fault Refusal :=
  (actDmaDescDone f fail bytes).outcome s

/-! ### Resets in mid-burst (R632, R639) -/

/-- Whole destination granules of the bytes read: how many bytes of the descriptor they hold. -/
def wholeGranules (d : DmaDesc) (read : Nat) : Nat :=
  if dmaLen d.ctrl ≤ read then dmaLen d.ctrl else (d.dst + read) / 64 * 64 - d.dst

/-- The bytes a channel has read when it is stopped: at least those moved; how many more is free (notes/assumptions/64). -/
def readAtStop (s : State) (d : DmaDesc) (moved : Nat) : Nat := moved + s.free.toNat % (dmaLen d.ctrl + 1 - moved)

/-- Data of a stopped channel is written in whole granules; without host writes where the reset sends nothing to the host. Each
granule that is discarded is counted (R728). -/
def drainChan (f : Nat) (toHost : Bool) : Act := fun s =>
  match (s.chan f).desc with
  | none => []
  | some d =>
    if dmaParked s f then [] else
    let m := (s.chan f).moved
    let last := readAtStop s d m
    let kept := if 2 ^ 63 ≤ d.dst ∧ !toHost then m else max m (wholeGranules d last)
    [.draw, .count Prm.FLT_MIDBURST_DISCARDS (if last ≤ kept then 0 else (d.dst + last + 63) / 64 - (d.dst + kept) / 64)] ++
      moveBytes f m kept s

/-- An abort of a function's host channel (target 2 or 15). -/
def abortDma (f : Nat) : Act := fun s =>
  if !dmaOn s f then [] else
  let a := dmaCur s f
  acts [
    drainChan f true,
    (fun s => match (s.chan f).desc with
      | none => []
      | some d => if dmaParked s f then [clearOwn a d.ctrl true] else
          writeStatus f a d.ctrl ST_ABORTED (s.chan f).moved true s ++ [.count (Prm.DMA_DESC_ERRS f) 1]),
    eff [.count (Prm.DMA_ABORTS f) 1], haltChan f ST_ABORTED] s

/-- A Bus Master Enable clear halts the channel with ST_DENIED. -/
def busMasterStop (f : Nat) : Act := fun s =>
  if !dmaOn s f then [] else
  acts [drainChan f false, eff [.count (Prm.DMA_ABORTS f) 1], haltChan f ST_DENIED] s

/-- A function-level reset returns the channel's registers to their reset values. -/
def resetChan (f : Nat) : Act := fun s => acts [
  drainChan f false,
  eff (if dmaOn s f then [.count (Prm.DMA_ABORTS f) 1] else []),
  eff ([Reg.DMA_CTRL f, Reg.DMA_HEAD_LO f, Reg.DMA_HEAD_HI f, Reg.DMA_STAT f, Reg.DMA_CUR_LO f, Reg.DMA_CUR_HI f, Reg.DMA_CUR_DONE f,
    Reg.DMA_COUNT f, Reg.DMA_BYTES_LO f, Reg.DMA_BYTES_HI f].map fun o => .reg o (regReset o)),
  eff [effChan f fun _ => DmaCh.init]] s

end Sys2Proof.Machine
end

