-- ==== Sys2Proof/Machine/Recovery.lean ====
section
/-! DEFINITION. Recovery of the Armature by the Plinth sentinel (R84 to R89, R710 to R712, R798, R800) and the abort sequencer (R121 to
R128): rows ARMATURE_LOCKSTEP_MISMATCH to ARMATURE_RECOVERED and ABT_GO to ABORT_TIMEOUT. -/
namespace Sys2Proof.Machine

/-! ### Work that ends without effect (R125) -/

/-- What the result of a ticket without effect carries: a commit names the frame requested (R120). -/
def unmadeResult (s : State) (f : Nat) (t : Ticket) : Bytes :=
  if t.opcode = 0x110 then (match s.arm.commits.find f with
    | some c => commitResult c.requested 0 0
    | none => []) else []

/-- The tile link work of a ticket is forgotten. -/
def dropLinkOp (f id : Nat) : Act := fun s => s.tlk.links.keys.map fun l => effLink l fun k =>
  { k with
    op := if k.op = some (f, id) then none else k.op,
    ctrl := k.ctrl.map fun c => if c.owner = some (f, id) then { c with owner := none } else c,
    queue := k.queue.filter fun c => c.owner != some (f, id) }

/-- The work of an open ticket that is not past its point of no return leaves no effect (R125, R419, R616, R662). -/
def dropWork (f : Nat) (t : Ticket) : Act := fun s =>
  match t.opcode with
  | 0x110 => (match s.arm.commits.find f with
    | some c => .arm (fun a => { a with commits := a.commits.del f }) :: (if stagesKind c.items K_SWITCH then [startSync] else [])
    | none => [])
  | 0x200 | 0x201 => s.cam.sal.keys.map fun n => effSal n fun p =>
      { p with bc := match p.bc with | some b => if b.owner = f ∧ b.ticket = t.id then none else some b | none => none }
  | 0x501 => actsFor (s.cast.jobs.entries.filter fun e => match e.2.run with | some r => e.2.owner == f && r.ticket == t.id | none => false) (fun e => abortJob e.1) s
  | 0x502 => s.cast.jobs.entries.flatMap fun e =>
      if e.2.owner = f ∧ e.2.closing = some t.id then [effJob e.1 fun j => { j with closing := none }] else []
  | 0x706 => [.wall fun w => { w with pushes := w.pushes.filter fun p => !(p.f == f && p.ticket == t.id) }]
  | 0x800 => if s.pat.writer = 1 then [startSync] else []
  | 0x900 => [.lib fun l => { l with build := match l.build with | some b => if b.ticket = t.id ∧ b.f = f then none else some b | none => none }]
  | 0x903 =>
    let waits : Bool := match s.lib.wait with | some (g, i, _) => g == f && i == t.id | none => false
    let writes : Bool := match s.lib.update with | some u => (match u.rollback with | some (g, i, _) => g == f && i == t.id && u.armed.isNone | none => false) | none => false
    (if waits then [.lib fun l => { l with wait := none }] else []) ++ (if writes then [.lib fun l => { l with update := none }, startSync] else [])
  | 0xB00 | 0xB02 | 0xB03 | 0xB04 => dropLinkOp f t.id s
  | 0xC01 => [.tim fun x => { x with acquire := x.acquire.filter fun a => a != (f, t.id) }]
  | 0xE03 => [effDisk fun d => { d with spaces := ⟨d.spaces.entries.map fun e => (e.1, if e.2.deleting = some (f, t.id) then { e.2 with deleting := none } else e.2)⟩ }]
  | 0xE11 => [effTake (fieldN t.payload 0 1) fun k => { k with stop := none }]
  | 0xE20 => actsFor (s.cst.plays.entries.filter fun e => e.2.opening == some (f, t.id)) (fun e => endOpening e.1 e.2 ST_ABORTED) s
  | 0xF00 => dropReservation f t.id s
  | 0x1104 => [.fld Reg.SEC_STATE Fld.SEC_STATE.SELFTEST_RUNNING 0]
  | 0x1110 => spoilTarget s
  | 0x1301 => [effUnit (fieldN t.payload 0 2) fun u => { u with testing := false }]
  | 0x1303 => if s.flt.swapTicket = some (f, t.id) then swapAbort s else []
  | _ => []

/-- Open tickets of a principal whose work is not past its point of no return. -/
def openWork (s : State) (f : Nat) : List Ticket := (s.mbx f).tickets.filter fun t => !t.done && !t.pnr

/-- One such ticket completes with a status, without effect. -/
def cancelTicket (f st : Nat) (t : Ticket) : Act := fun s =>
  let r := unmadeResult s f t
  acts [dropWork f t, completeTicket f t.id st r] s

/-! ### Recovery (R85 to R89, R712, R798) -/

def plinthFld (f : Fld) (v : Nat) : Eff := .fld Reg.FLT_PLINTH f v

/-- An entry of the history of recoveries, the newest first. -/
def pushHist (cause : Nat) : Act := fun s =>
  .prm (Prm.PLN_HIST 0) (w32 (cause * 2 ^ 28 + s.vis / SEC % 2 ^ 28)) ::
    (List.range 7).map fun n => .prm (Prm.PLN_HIST (n + 1)) (s.prm (Prm.PLN_HIST n))

/-- Recoveries within PLN_RECOVERY_WINDOW_S. -/
def recentRecoveries (s : State) : List Nat :=
  s.flt.recoveries.filter fun t => decide (s.uptime < t + s.pn Prm.PLN_RECOVERY_WINDOW_S * secTicks)

/-- Every mailbox reads RECOVERING (R798). -/
def mailboxesWait : List Eff := (List.range 64).map fun f => .fld (Reg.MBX_STATE f) Fld.MBX_STATE.STATE 3

/-- A mailbox shows again what it showed: BUSY with a command rung, DONE with a response in its area, else IDLE. -/
def mailboxesResume : Act := fun s => (List.range 64).map fun f =>
  .fld (Reg.MBX_STATE f) Fld.MBX_STATE.STATE
    (if (s.mbx f).rung.isSome then 1 else if (memReadBytes s.pageMem (pageBase f + 0x1000) 32).all (· == 0) then 0 else 2)

/-- Every mailbox answers ST_SELFTEST_FAIL from now on (R88, R712): a command in service is answered so too. -/
def armatureDead : Act := acts [
  eff [.arm fun a => { a with
    dead := true, halted := true, inService := none,
    boxes := match a.inService with
      | some c => if c.f < 64 then a.boxes.upd c.f Mbx.init fun b => { b with rung := some c.cmd } else a.boxes
      | none => a.boxes }, .nvs fun n => { n with reply := none }],
  mailboxesResume]

/-- The checker and the watchdog run: the Armature has been released in BOOT and has not been given up (R800). -/
def watched (s : State) : Bool := !s.arm.dead && decide (2 ≤ s.fld Reg.HUB_BOOT Fld.HUB_BOOT.STATE)

/-- The cores are halted and the sentinel takes over: a recovery begins, or, after PLN_RECOVERY_MAX of them within the window, none
(R85, R86, R712). -/
def haltArmature (cause ev : Nat) : Act := fun s =>
  if !watched s then [] else
  let recent := recentRecoveries s
  let now := s.uptime
  acts [
    eff (.raise ev :: mailboxesWait ++ [.arm fun a => { a with halted := true, cause := cause }]),
    if s.pn Prm.PLN_RECOVERY_MAX ≤ recent.length then
      acts [eff [plinthFld Fld.FLT_PLINTH.GAVE_UP 1, plinthFld Fld.FLT_PLINTH.RECOVERING 0, .count Prm.PLN_GIVEUPS 1], armatureDead]
    else acts [
      eff [.flt (fun x => { x with recoveries := recent ++ [now] }), plinthFld Fld.FLT_PLINTH.RECOVERING 1,
        plinthFld Fld.FLT_PLINTH.RECENT (min 15 (recent.length + 1)), .inc Reg.FLT_PLINTH Fld.FLT_PLINTH.RECOVERIES 1, .count Prm.PLN_RECOVERIES 1],
      pushHist cause, nvsRecord 5 (leBytes 1 cause)]] s

def execArmatureLockstepMismatch (s : State) : Host.Outcome State Fault Refusal := (haltArmature 1 67).outcome s
def execArmatureWatchdogExpiry (s : State) : Host.Outcome State Fault Refusal := (haltArmature 2 66).outcome s

/-- A command that the halt cut off is answered: its sequence becomes LAST_SEQ (R798). -/
def answerLost (f : Nat) (c : Cmd) : Act := acts [
  eff [.fld (Reg.MBX_STATE f) Fld.MBX_STATE.LAST_SEQ c.seq, effMbx f fun b => { b with anySeq := false }],
  respond ⟨f, c, none⟩ ST_BUSY_RECOVERING [] 0]

/-- Work that runs without the Armature: Cast engines, the island, the sentinel (DEDUCED, notes/assumptions/76). -/
def armless (op : Nat) : Bool := [0x501, 0x502, 0x1104, 0x1110, 0x1301, 0x1303].contains op

/-- R798: what the halt cut off is settled. -/
def settleLost : Act := acts [
  (fun s => match s.arm.inService with
    | none => []
    | some c => acts [eff [.nvs fun n => { n with reply := none }],
        if c.f < 64 ∧ c.remote.isNone then answerLost c.f c.cmd else respond c ST_BUSY_RECOVERING [] 0] s),
  (fun s => actsFor ((List.range 64).filterMap fun f => (s.mbx f).rung.map fun c => (f, c)) (fun e => answerLost e.1 e.2) s),
  (fun s => actsFor (s.arm.boxes.keys.flatMap fun f => ((openWork s f).filter fun t => !armless t.opcode).map fun t => (f, t))
    (fun e => cancelTicket e.1 ST_BUSY_RECOVERING e.2) s)]

/-- R87 step 3: the parameters marked Next boot come from the selected bank. Rights stay as in force (notes/assumptions/77). -/
def restoreBootPrms : Act := fun s =>
  ((selBank s).prms.entries.filter fun e => match prmRow e.1 with | some (r, _) => r.mark == .boot | none => false).map fun e => .prm e.1 e.2

/-- The image that a recovery boots (R87, R88), or a reboot with the preferred image first (R661, R801): true for slot B. The second is
tried where the first fails. -/
def bootOrder (s : State) : Bool × Bool :=
  if s.arm.cause = 4 then (bitOf (s.pn Prm.SEC_FW_PREFER) 0, !bitOf (s.pn Prm.SEC_FW_PREFER) 0) else (!s.arm.slotB, s.arm.slotB)

/-- Mailbox service resumes (R87, R798, R801). -/
def resumeService (slotB : Bool) (ms : Nat) : Act := fun s =>
  let counted := s.arm.cause != 4
  acts [
    eff ([.arm (fun a => { a with halted := false, slotB := slotB }), plinthFld Fld.FLT_PLINTH.RECOVERING 0,
      .fld Reg.HUB_BOOT Fld.HUB_BOOT.IMG_SLOT (if slotB then 1 else 0)] ++ (if counted then [.prm Prm.PLN_LAST_MS (w32 ms)] else [])),
    restoreBootPrms,
    if s.arm.serving then acts [settleLost, mailboxesResume, eff [.raise 68]] else eff []] s

/-- R87, R88, R801: the recovery in progress ends after ms milliseconds. ok1 and ok2: the image booted first, and the one after it,
verify. -/
def actArmatureRecovered (ok1 ok2 : Bool) (ms : Nat) : Act := fun s =>
  if s.arm.dead ∨ !s.arm.halted then [] else
  let o := bootOrder s
  if ok1 then resumeService o.1 ms s
  else if ok2 then acts [pushHist 3, resumeService o.2 ms] s
  else acts [pushHist 3, eff [plinthFld Fld.FLT_PLINTH.RECOVERING 0], armatureDead] s

def execArmatureRecovered (otherOk firstOk : Bool) (ms : Nat) (s : State) : Host.Outcome State Fault Refusal :=
  (actArmatureRecovered otherOk firstOk ms).outcome s

/-! ### The abort sequencer (R121 to R128, R802) -/

/-- What an abort finds of one part: 0 aborted, 1 finished first or past its point of no return, 2 idle, 3 refused; and what it does. -/
structure Part where
  result : Nat
  act : Act

def idlePart : Part := ⟨2, fun _ => []⟩
def refusedPart : Part := ⟨3, fun _ => []⟩

/-- The command of a mailbox that an abort meets: in service, or rung and waiting. -/
def metCommand (s : State) (f : Nat) : Option Cmd :=
  match s.arm.inService with
  | some c => if c.f = f ∧ c.remote.isNone then some c.cmd else (s.mbx f).rung
  | none => (s.mbx f).rung

/-- Target 1. A command whose bank write has begun is past its point of no return (R125, R146). -/
def abortMailbox (s : State) (f : Nat) : Part :=
  let writes := s.nvs.reply.isSome && (match s.arm.inService with | some c => c.f == f | none => false)
  let cmd := if writes then none else metCommand s f
  let work := openWork s f
  let past := writes || (s.mbx f).tickets.any fun t => !t.done && t.pnr
  ⟨if cmd.isSome ∨ !work.isEmpty then 0 else if past then 1 else 2,
   acts [
    (match cmd with
     | some c => fun s => acts [respond ⟨f, c, none⟩ ST_ABORTED [] 0,
         if s.arm.halted && !s.arm.dead then eff [.fld (Reg.MBX_STATE f) Fld.MBX_STATE.STATE 3] else eff [],
         match s.arm.inService with
         | some x => if x.f = f ∧ x.remote.isNone then eff [] else eff [.arm fun a => { a with inService := s.arm.inService }]
         | none => eff []] s
     | none => fun _ => []),
    actsFor work (cancelTicket f ST_ABORTED),
    eff [effMbx f fun b => { b with anySeq := true }]]⟩

/-- Target 2: the function's host channel; the internal channels of F0 are idle (notes/assumptions/63). -/
def abortChannel (s : State) (f index : Nat) : Part :=
  if index = 0 then (if dmaOn s f then ⟨0, abortDma f⟩ else idlePart)
  else if f = 0 ∧ 64 ≤ index ∧ index < 80 then idlePart else refusedPart

/-- Target 3. -/
def abortCtx (s : State) (f index : Nat) : Part :=
  match s.ctx index with
  | some c => if c.owner ≠ f then refusedPart else if c.enabled then ⟨0, barCtx index⟩ else idlePart
  | none => refusedPart

/-- A Cast job has work in progress. -/
def jobBusy (j : CastJob) : Bool := j.run.isSome || !j.frames.isEmpty || j.rx.isSome

/-- Target 4. -/
def abortCast (s : State) (f index : Nat) : Part :=
  match s.job index with
  | some j => if j.owner ≠ f then refusedPart else if jobBusy j then ⟨0, abortJob index⟩ else idlePart
  | none => refusedPart

/-- Target 5. -/
def abortClip (s : State) (f : Nat) : Part := if (s.task f).isSome then ⟨0, abortTask f⟩ else idlePart

/-- RESULT of a list of parts (target 15). -/
def joinResult (ps : List Part) : Nat := if ps.any (·.result == 0) then 0 else if ps.any (·.result == 1) then 1 else 2

/-- Target 15 without the mailbox: the channel, every Cast job, the task, then every context. -/
def workParts (s : State) (f : Nat) : List Part :=
  [abortChannel s f 0] ++ ((s.cast.jobs.entries.filter fun e => e.2.owner == f).map fun e => abortCast s f e.1) ++ [abortClip s f] ++
  (ctxsOf s f).map (abortCtx s f)

/-- The target of an abort of function f (R124). -/
def abortTarget (s : State) (f target index : Nat) : Part :=
  match target with
  | 1 => abortMailbox s f
  | 2 => abortChannel s f index
  | 3 => abortCtx s f index
  | 4 => abortCast s f index
  | 5 => abortClip s f
  | 15 => let ps := abortMailbox s f :: workParts s f; ⟨joinResult ps, acts (ps.map (·.act))⟩
  | _ => refusedPart

/-- An abort starts: its target stops and is settled (R126); RESULT and DONE follow when it completes. -/
def startAbort (f target index : Nat) (reset : Bool) : Act := fun s =>
  let p := abortTarget s f target index
  acts [
    eff [.fld (Reg.ABT_CTRL f) Fld.ABT_CTRL.BUSY 1, .fld (Reg.ABT_CTRL f) Fld.ABT_CTRL.GO 1, .fld (Reg.ABT_CTRL f) Fld.ABT_CTRL.QUEUED 0,
      .arm fun a => { a with aborts := a.aborts.put f ⟨p.result, none, reset⟩ }],
    p.act] s

/-- R121, R124, R126: a write of GO, by F0 or by the function itself. -/
def actAbtGo (writer f : Fn) (v : Word) : Act := fun s =>
  let o := Reg.ABT_CTRL f
  if (writer.val ≠ 0 ∧ writer ≠ f) ∨ getFld v Fld.ABT_CTRL.GO = 0 then [] else
  let target := getFld v Fld.ABT_CTRL.TARGET
  let index := getFld v Fld.ABT_CTRL.INDEX
  acts [
    eff [.reg o (hostWord s o v)],
    match s.arm.aborts.find f with
    | none => startAbort f target index false
    | some a => if a.queued.isSome then eff [] else
        eff [.fld o Fld.ABT_CTRL.QUEUED 1, .arm fun x => { x with aborts := x.aborts.put f { a with queued := some (target, index) } }]] s

def execAbtGo (writer f : Fn) (v : Word) (s : State) : Host.Outcome State Fault Refusal := (actAbtGo writer f v).outcome s

/-- R122, R124, R802: an abort completes and is reported; the one queued starts, or, after a reset, the register returns to its reset
value. -/
def finishAbort (f : Nat) (late : Bool) : Act := fun s =>
  match s.arm.aborts.find f with
  | none => []
  | some a => acts [
      eff ([.fld (Reg.ABT_CTRL f) Fld.ABT_CTRL.RESULT a.result, .fld (Reg.ABT_CTRL f) Fld.ABT_CTRL.DONE 1,
        .fld (Reg.ABT_CTRL f) Fld.ABT_CTRL.BUSY 0, .fld (Reg.ABT_CTRL f) Fld.ABT_CTRL.GO 0,
        .arm fun x => { x with aborts := x.aborts.del f }] ++ raiseIf late 65 ++ [.raise f, .raise 64]),
      match a.queued with
      | some (t, i) => startAbort f t i a.reset
      | none => if a.reset then eff [.reg (Reg.ABT_CTRL f) 0] else eff []] s

def execAbortComplete (f : Fn) (s : State) : Host.Outcome State Fault Refusal := (finishAbort f false).outcome s

/-- R123: 2 ms have passed; the abort is finished anyway. -/
def execAbortTimeout (f : Fn) (s : State) : Host.Outcome State Fault Refusal := (finishAbort f true).outcome s

end Sys2Proof.Machine
end

