-- ==== Sys2Proof/Machine/Units.lean ====
section
/-! DEFINITION. Unit faults, re-execution, fencing, retest, eclipse rotation and the sentinels (chapter 21, R696 to R711, R729, R730): rows
UNIT_FAULT to SENTINEL_CHECK, FLT_INJECT to FLT_FENCE and ROTATION_SELFTEST_DONE. -/
namespace Sys2Proof.Machine

/-- The error counter of a fault: 0 residue, 1 parity, 2 CRC, 3 a misrouted token (R23, R24, R30). -/
def errField (kind : Nat) : Fld :=
  if kind = 0 then Fld.FLT_UNIT.RESIDUE_ERRS else if kind = 1 then Fld.FLT_UNIT.PARITY_ERRS else Fld.FLT_UNIT.CRC_ERRS

/-- The unit cannot act: its slot is fenced or powered down, or its die is held in reset. -/
def slotDown (s : State) (p : Nat) : Bool := slotFenced s p || !slotPowered s p || s.boot.excluded.contains (p / 544)

/-- A fault at this moment comes within FLT_FENCE_WINDOW_S of the slot's last one (R702). -/
def faultAgain (s : State) (p : Nat) : Bool :=
  match (s.unitF p).lastFault with
  | some t => decide (s.uptime < t + s.pn Prm.FLT_FENCE_WINDOW_S * secTicks)
  | none => false

/-- R700: one slot of a tile is held for a retried token. A direct drive port whose frame is broken off holds by itself (R514). -/
def holdTile (t : Nat) : Act := fun s =>
  let e := mqTile s.mqt t
  if tlDdp e then [effDdp (tlLink e) fun d => { d with next := .empty }, .count Prm.FLT_RX_HOLDS 1] else
  match tileLatch s t with
  | none => []
  | some l => sendConjunction t l true s ++ [.count Prm.FLT_RX_HOLDS 1]

/-- A retry without a spare (R700, R729): it counts as a re-execution and holds the tiles whose lamps depend on the token. -/
def retryToken (c : Nat) (wall : Bool) (tiles : List Nat) : Act := acts [eff (countRx c), if wall then actsFor tiles holdTile else eff []]

/-- The role that a slot serves is a wall pipeline's. -/
def wallRole (s : State) (p : Nat) : Bool :=
  match s.flt.bind.find (16 * (p / 17) + slotRole s p) with
  | some b => decide (64 ≤ b.start) && b.start != 255
  | none => false

/-- What the cluster does about a fault of one of its slots (R696, R698, R700, R709, R729). -/
def answerFault (p : Nat) (tiles : List Nat) : Act := fun s =>
  let c := p / 17
  let x := s.clusterF c
  let retry := retryToken c (wallRole s p) tiles
  match spareSlot s c with
  | none => retry s
  | some k =>
    if k = p % 17 then retry s
    else match x.reexec with
      | some r => if r.slot = p % 17 then [] else retry s
      | none => effCluster c (fun y => { y with reexec := some ⟨slotRole s p, p % 17, false⟩, rotation := none }) ::
          unitFld (17 * c + k) Fld.FLT_UNIT.POWERED 1 :: countRx c ++ (if x.rotation.isSome then [.count Prm.FLT_ECLIPSE_DEFERRED 1] else [])

/-- R696, R701, R702: one fault of the unit in a slot. tiles: those whose lamps depend on the token (R700). -/
def unitFault (p kind : Nat) (tiles : List Nat) : Act := fun s =>
  if slotDown s p then [] else
  let now := s.uptime
  acts [
    answerFault p tiles,
    eff [.inc (Reg.FLT_UNIT p) (errField kind) 1, effUnit p fun u => { u with lastFault := some now }],
    if faultAgain s p then fence p else eff [],
    swapAbort] s

def execUnitFault (p : Fin 2176) (kind : Fin 4) (tiles : List Nat) (s : State) : Host.Outcome State Fault Refusal := (unitFault p kind tiles).outcome s

/-- R698: the spare holds the role. -/
def actSpareLoaded (c : Fin 128) : Act := fun s =>
  match (s.clusterF c).reexec, spareSlot s c with
  | some r, some k => if r.loaded then [] else
      [effCluster c (fun x => { x with reexec := some { r with loaded := true } }), clusterFld c Fld.FLT_CLUSTER.SPARE_BUSY 1,
       unitFld (17 * c.val + k) Fld.FLT_UNIT.ROLE r.role]
  | _, _ => []

def execSpareLoaded (c : Fin 128) (s : State) : Host.Outcome State Fault Refusal := (actSpareLoaded c).outcome s

/-! ### Retest and return (R703, R704) -/

/-- The cluster summary of a slot is below THM_RELEASE_C (R746). -/
def cooled (s : State) (p : Nat) : Bool :=
  decide (s.fld (Reg.THM_PACE_CLUSTER (p / 17)) Fld.THM_PACE_CLUSTER.TJ_EQ_MAX < s.pn Prm.THM_RELEASE_C + 64)

/-- A fenced slot starts its self-test; one that shut itself down waits for its cluster to cool. -/
def actFenceRetest (p : Fin 2176) : Act := fun s =>
  let u := s.unitF p
  if !slotFenced s p ∨ u.noRetest ∨ u.testing ∨ u.wantReturn ∨ (u.hot ∧ !cooled s p) then [] else [effUnit p fun u => { u with testing := true }]

def execFenceRetest (p : Fin 2176) (s : State) : Host.Outcome State Fault Refusal := (actFenceRetest p).outcome s

/-- A failed retest. -/
def retestFailed (p : Nat) : Act := fun s =>
  let n := (s.unitF p).retestFails + 1
  [.count Prm.FLT_RETEST_FAILS 1, effUnit p fun u => { u with testing := false, retestFails := n, noRetest := u.noRetest || decide (s.pn Prm.FLT_RETEST_MAX ≤ n) }]

/-- The self-test of a fenced slot ends. -/
def actRetestDone (p : Fin 2176) (passed : Bool) : Act := fun s =>
  let u := s.unitF p
  if !slotFenced s p ∨ !u.testing ∨ u.wantReturn then []
  else if !passed then retestFailed p s
  else [effUnit p fun u => { u with testing := false, wantReturn := bitOf (s.pn Prm.FLT_CTRL) 1 }]

def execRetestDone (p : Fin 2176) (passed : Bool) (s : State) : Host.Outcome State Fault Refusal := (actRetestDone p passed).outcome s

/-! ### Eclipse rotation (R706 to R709) -/

/-- The role that a rotation of the cluster takes: the first after the one rotated last that a slot holds. -/
def nextRole (s : State) (c : Nat) : Option Nat :=
  let first := match (s.clusterF c).lastRole with | some r => r + 1 | none => 0
  ((List.range 16).map fun i => (first + i) % 16).find? fun r => (holder s c r).isSome

/-- A rotation instant of a cluster: the spare starts its self-test. -/
def actEclipseRotation (c : Fin 128) : Act := fun s =>
  let x := s.clusterF c
  match spareSlot s c, nextRole s c with
  | some k, some r =>
    if !bitOf (s.pn Prm.FLT_CTRL) 0 ∨ x.reexec.isSome ∨ x.rotation.isSome ∨ s.boot.excluded.contains (c / 32) then [] else
    [effCluster c (fun x => { x with rotation := some r }), unitFld (17 * c.val + k) Fld.FLT_UNIT.POWERED 1, clusterFld c Fld.FLT_CLUSTER.SPARE_BUSY 1]
  | _, _ => []

def execEclipseRotation (c : Fin 128) (s : State) : Host.Outcome State Fault Refusal := (actEclipseRotation c).outcome s

/-- R707, R708: the spare's self-test ends: the spare takes the role and the old unit becomes the spare, or the rotation is abandoned. -/
def actRotationSelftestDone (c : Fin 128) (passed : Bool) : Act := fun s =>
  match (s.clusterF c).rotation, spareSlot s c with
  | some r, some k =>
    let sp := 17 * c.val + k
    if passed then
      match holder s c r with
      | none => []
      | some old => [unitFld sp Fld.FLT_UNIT.IS_SPARE 0, unitFld sp Fld.FLT_UNIT.ROLE r] ++ toSpare c old ++
          [effCluster c (fun x => { x with rotation := none, lastRole := some r }), .count Prm.FLT_ECLIPSES 1]
    else
      let now := s.uptime
      acts [
        eff [effCluster c (fun x => { x with rotation := none }), clusterFld c Fld.FLT_CLUSTER.SPARE_BUSY 0,
          .count Prm.FLT_ECLIPSE_FAILS 1, .raise 246, effUnit sp fun u => { u with lastFault := some now }], eff (powerDown sp),
        if faultAgain s sp then fence sp else eff []] s
  | _, _ => []

def execRotationSelftestDone (c : Fin 128) (passed : Bool) (s : State) : Host.Outcome State Fault Refusal :=
  (actRotationSelftestDone c passed).outcome s

/-! ### Sentinels (R711) -/

/-- A check of P0 by P2; the third missed in a row makes P2 primary. -/
def actSentinelCheck (answered : Bool) : Act := fun s =>
  plinthFld Fld.FLT_PLINTH.RECENT (min 15 (recentRecoveries s).length) ::
  (if s.flag Reg.FLT_PLINTH Fld.FLT_PLINTH.PRIMARY ∨ !s.flag Reg.FLT_PLINTH Fld.FLT_PLINTH.P2_ALIVE ∨ !s.flag Reg.FLT_PLINTH Fld.FLT_PLINTH.P0_ALIVE then []
   else if answered then [.flt fun x => { x with missed := 0 }]
   else if s.flt.missed < 2 then [.flt fun x => { x with missed := x.missed + 1 }]
   else [.flt fun x => { x with missed := 0 }, plinthFld Fld.FLT_PLINTH.PRIMARY 1, plinthFld Fld.FLT_PLINTH.P0_ALIVE 0, .count Prm.PLN_HANDOVERS 1])

def execSentinelCheck (answered : Bool) (s : State) : Host.Outcome State Fault Refusal := (actSentinelCheck answered).outcome s

/-! ### Injection and commands (R730) -/

/-- A write of GO to FLT_INJECT: one fault, handled as a real one; nothing while locked, or where the register's table names no effect.
tiles: those whose lamps depend on the token of the unit. -/
def actFltInject (v : Word) (tiles : List Nat) : Act := fun s =>
  let k := getFld v Fld.FLT_INJECT.KIND
  let p := getFld v Fld.FLT_INJECT.UNIT
  if s.flag Reg.HUB_LOCK Fld.HUB_LOCK.LOCK then [] else
  acts [
    eff [.reg Reg.FLT_INJECT (setFld v Fld.FLT_INJECT.GO 0)],
    if getFld v Fld.FLT_INJECT.GO = 0 then eff []
    else if 1 ≤ k ∧ k ≤ 3 ∧ p < 2176 then unitFault p (k - 1) tiles
    else if k = 4 ∧ pairEn s then eff [.flt fun x => { x with beatHold := 20 }]
    else eff []] s

def execFltInject (v : Word) (tiles : List Nat) (s : State) : Host.Outcome State Fault Refusal := (actFltInject v tiles).outcome s

/-- Milliseconds to the next rotation instant of a cluster (R706). -/
def toRotation (s : State) (c : Nat) : Nat :=
  let per := s.pn Prm.FLT_ECLIPSE_S * SEC
  let phase := c * per / 128
  (per - (s.vis + per - phase) % per) / (1000000 * NS)

def hFltInfo (c : Svc) (s : State) : Reply :=
  let k := c.n 0 1
  checks [c.badLen 4, c.notF0, (127 < k, ST_BAD_PARAM), c.rsv 1 3]
    (.ok (leBytes 4 (s.rd (Reg.FLT_CLUSTER k)).toNat ++ ((List.range 17).flatMap fun i => leBytes 4 (s.rd (Reg.FLT_UNIT (17 * k + i))).toNat) ++
      leBytes 4 (s.pn (Prm.FLT_RX k)) ++ leBytes 4 (toRotation s k)) fun _ => [])

def execFltInfo (s : State) : Host.Outcome State Fault Refusal := (turn 0x1300 hFltInfo).outcome s

/-- FLT_UNFENCE starts a retest whatever R704 says. -/
def hFltUnfence (c : Svc) (s : State) : Reply :=
  let p := c.n 0 2
  checks [c.badLen 4, c.notF0, (2175 < p, ST_BAD_PARAM), c.rsv 2 2, (!slotFenced s p, ST_BAD_PARAM)]
    (.pending (eff [effUnit p fun u => { u with testing := true, wantReturn := false }]))

def execFltUnfence (s : State) : Host.Outcome State Fault Refusal := (turn 0x1301 hFltUnfence).outcome s

/-- The retest of FLT_UNFENCE ends. Passing returns the slot at the next frame start of its role and clears R704's count. -/
def workUnfence (passed : Bool) (t : Ticket) : Reply :=
  let p := fieldN t.payload 0 2
  .ok (leBytes 1 (if passed then 1 else 0) ++ [0, 0, 0]) (
    if passed then eff [effUnit p fun u => { u with wantReturn := true, unfenced := true, testing := false, noRetest := false, retestFails := 0 }]
    else retestFailed p)

def hFltFence (c : Svc) (s : State) : Reply :=
  let p := c.n 0 2
  checks [c.badLen 4, c.notF0, (2175 < p, ST_BAD_PARAM), c.rsv 2 2, (s.flag (Reg.FLT_CLUSTER (p / 17)) Fld.FLT_CLUSTER.NO_SPARE, ST_CONFLICT)]
    (.ok [] (eff [effUnit p fun u => { u with wantFence := true }]))

def execFltFence (s : State) : Host.Outcome State Fault Refusal := (turn 0x1302 hFltFence).outcome s

end Sys2Proof.Machine
end

