-- ==== Sys2Proof/Machine/Poison.lean ====
section
/-! DEFINITION. Poisoned lines: their owner, and their repair (R713 to R716): rows POISON_OWNER_LOOKUP, PATINA_LINE_RESTORE and
CTX_QUARANTINE_REBUILD. -/
namespace Sys2Proof.Machine

/-- Address of a line, and its offset in the device area. -/
def lineAddr (line : Nat) : Nat := 64 * line
def lineOff (s : State) (line : Nat) : Nat := lineAddr line - devBase s

def MIB : Nat := 2 ^ 20

/-- The row of the owner table of R713, from 1 in table order, by the layout of R614 and the granule tags of R615. A line of the
reserved part of the device area stays as it is. -/
def ownerRow (s : State) (line : Nat) : Nat :=
  let a := lineAddr line
  if a < devBase s then (if (granuleOwner s a).isSome then 10 else 11) else
  let o := lineOff s line / MIB
  if o < 512 then 9 else if o < 514 then 4 else if o < 526 then 5
  else if o < 1808 then (if s.pat.activeB then 2 else 1)
  else if o < 3090 then (if s.pat.activeB then 1 else 2)
  else if o < 4372 then 3 else if o < 5396 then 6 else if o < 6074 then 7 else if o < 6086 then 10 else if o < 16326 then 8 else 10

/-- The newest of the 16 lines shown in FLT_POISON_n. -/
def showPoison (line row : Nat) : Act := fun s =>
  [.prm (Prm.FLT_POISON_LO 0) (w32 line), .prm (Prm.FLT_POISON_HI 0) (w32 (row * 2 ^ 24 + line / 2 ^ 32))] ++
  (List.range 15).flatMap fun n => [.prm (Prm.FLT_POISON_LO (n + 1)) (s.prm (Prm.FLT_POISON_LO n)), .prm (Prm.FLT_POISON_HI (n + 1)) (s.prm (Prm.FLT_POISON_HI n))]

/-- A line is whole again. -/
def lineRepaired (line : Nat) : Act := fun s =>
  [.poison line false, .count Prm.FLT_SCRUB_REPAIRS 1] ++ (List.range 16).filterMap fun n =>
    let hi := s.pn (Prm.FLT_POISON_HI n)
    if s.pn (Prm.FLT_POISON_LO n) + 2 ^ 32 * (hi % 256) = line ∧ bitsOf hi 27 24 ≠ 0 then some (.prm (Prm.FLT_POISON_HI n) (w32 (putBits hi 31 31 1))) else none

def syncRepairs : Act := fun s => [.prm Prm.PLN_QUEUED_REPAIRS (w32 (s.flt.queue.countP fun e => e.2 != 0))]

/-- The baseline records that a copy of the system namespace holds, in tile order (R583). -/
def baselineOf (s : State) (bs : Bytes) : FMap Bytes :=
  ((tiles s).flatMap fun t => let e := mqTile s.mqt t; (List.range (tlCols e * tlRows e)).map (tlBase e + ·)).zipIdx.foldl
    (fun m i => m.put i.1 (field bs (32 * i.2) 32)) .empty

/-- The valid copy with the higher PAT_GEN, while the store is available. -/
def savedBaseline (s : State) : Option (Nat × Bytes) :=
  if !storeReady s then none else
  match s.cst.disk.baseA, s.cst.disk.baseB with
  | some a, some b => some (if a.1 < b.1 then b else a)
  | some a, none => some a
  | none, b => b

/-- The line of the baseline copy that holds a record is poisoned. -/
def baselinePoisoned (s : State) (i : Nat) : Bool := s.poison.has ((devBase s + 3090 * MIB + 32 * i) / 64)

/-- A record of the bank in force from the first source that holds it exactly (R715). -/
def recSource (s : State) (i : Nat) : Bytes :=
  let logged : Option Bytes := match s.lib.update with
    | some u => (u.log.find? (·.1 == i)).map (·.2)
    | none => none
  match logged with
  | some r => r
  | none =>
    if s.pat.writer = 0 ∧ !switchStaged s ∧ !s.pat.switching ∨ s.pat.writer = 2 ∨ s.lib.update.isSome then s.idleBank.record i
    else if baselinePoisoned s i then (match savedBaseline s with
      | some b => (baselineOf s b.2).getD i (s.pat.baseline.getD i recZero)
      | none => s.pat.baseline.getD i recZero)
    else s.pat.baseline.getD i recZero

/-- A line of the bank in force is rewritten. Drive entries and tile drive entries, which no libration update changes, are those in
force. -/
def restoreLine (line : Nat) : Act := fun s =>
  let base := if s.pat.activeB then 1808 else 526
  let o := lineOff s line - base * MIB
  let recs := if o < 1024 * MIB then [o / 32, o / 32 + 1] else []
  acts [
    eff (recs.map fun i => effBank s.pat.activeB fun b => if b.recs.has i then { b with recs := b.recs.put i (recSource s i) } else b),
    lineRepaired line, eff [.raise 228]] s

/-- The inactive bank's line: its writer fails, and the sync rewrites it. -/
def failWriter (line : Nat) : Act := fun s =>
  let loads := (s.mbx 0).tickets.filter fun t => t.opcode == 0x800 && !t.done
  acts [
    if s.pat.writer = 1 then actsFor loads fun t => completeTicket 0 t.id ST_INPUT_CORRUPT [] else eff [],
    eff (match s.lib.update with
      | some u => if u.armed.isNone then [.lib fun l => { l with update := none }] else []
      | none => []),
    eff [startSync], lineRepaired line, eff [.raise 228]] s

/-- The generation of an undo log, one of eight used in turn, and every older one leave the history. -/
def dropHistory (k : Nat) : Eff := .lib fun l => { l with history := l.history.takeWhile fun g => g.gen % 8 != k }

/-- Repairs that need firmware, once mailbox service runs (R710): a line of the bank in force, the baseline copy, tables. -/
def repairQueued (line row : Nat) : Act := fun s => acts [
  eff [.flt fun x => { x with queue := x.queue.filter fun e => e.1 != line }],
  (match row with
   | 1 => restoreLine line
   | 3 => (match savedBaseline s with
     | some b => acts [eff [.pat fun p => { p with baseline := baselineOf s b.2 }], lineRepaired line, eff [.raise 228]]
     | none => eff [])
   | _ => lineRepaired line),
  syncRepairs] s

/-- Repairs wait (R710). -/
def repairsWait (s : State) : Bool := s.arm.halted || !s.arm.serving

/-- What R713 does about a line by its owner. Firmware's repairs queue; a line found while the queue is full stays poisoned. -/
def actOnLine (line row : Nat) : Act := fun s =>
  let off := lineOff s line
  let firmware : Act := fun s =>
    if 16 ≤ s.flt.queue.countP fun e => e.2 != 0 then [] else
    acts [eff [.flt fun x => { x with queue := x.queue ++ [(line, row)] }],
      if row ≠ 1 ∧ !repairsWait s then repairQueued line row else eff []] s
  match row with
  | 1 => firmware s
  | 2 => failWriter line s
  | 3 => firmware s
  | 4 =>
    let i := (off - 512 * MIB) / 256
    match s.ctx i with
    | none => lineRepaired line s
    | some c => [effCtx i (fun c => { c with enabled := false }), .flt (fun x => { x with quarantine := x.quarantine.put i c.enabled }),
        .count Prm.FLT_CTX_QUARANTINES 1, .raise 229]
  | 5 => firmware s
  | 6 =>
    let i := (off - 4372 * MIB) / 32
    acts [eff [.lib fun l => { l with map := [i, i + 1].foldl (fun m j => m.alter j fun e => leBytes 32 (putBits (leNat e) 31 31 0)) l.map }],
      lineRepaired line] s
  | 7 =>
    let o := off - 5396 * MIB
    acts [eff (if o < 670 * MIB then [.lib fun l => { l with acc := (l.acc.del (o / 670)).del ((o + 63) / 670) }] else []), lineRepaired line] s
  | 8 => acts [eff [dropHistory ((off - 6086 * MIB) / (1280 * MIB))], lineRepaired line] s
  | 9 => acts [lineRepaired line, haltArmature 2 66] s
  | 11 => acts [eff [.devClear (lineAddr line) 64], lineRepaired line] s
  | _ => []

/-- R713: the owner of a line that the scrubber poisoned is found, and acts. -/
def actPoisonOwnerLookup (line : Nat) : Act := fun s =>
  if !s.flt.queue.contains (line, 0) then [] else
  let row := ownerRow s line
  acts [
    eff [.flt fun x => { x with queue := x.queue.erase (line, 0) }],
    if s.poison.has line && !s.flt.queue.any (fun e => e.1 == line && e.2 != 0) then acts [showPoison line row, actOnLine line row] else eff [],
    syncRepairs] s

def execPoisonOwnerLookup (line : Nat) (s : State) : Host.Outcome State Fault Refusal := (actPoisonOwnerLookup line).outcome s

/-- R715: a queued line is rewritten. -/
def actPatinaLineRestore (line : Nat) : Act := fun s =>
  match s.flt.queue.find? fun e => e.1 == line && e.2 != 0 with
  | none => []
  | some e => if repairsWait s then [] else repairQueued line e.2 s

def execPatinaLineRestore (line : Nat) (s : State) : Host.Outcome State Fault Refusal := (actPatinaLineRestore line).outcome s

/-- R716: firmware rebuilds a quarantined context from its descriptor. Its key, replay protection and pin stay. -/
def actCtxQuarantineRebuild (idx : Fin 4096) : Act := fun s =>
  match s.flt.quarantine.find idx, s.ctx idx with
  | some on, some c =>
    if repairsWait s then [] else
    let n := newCtx s c.owner c.desc
    acts (eff [.flt (fun x => { x with quarantine := x.quarantine.del idx }),
        effCtx idx fun c => { c with enabled := on && !c.barred, a := n.a, b := n.b, cnt := .init, high := none, seen := [] }] ::
      (((List.range 4).map fun k => (devBase s + 512 * MIB + 256 * idx.val) / 64 + k).filter s.poison.has).map lineRepaired) s
  | _, _ => []

def execCtxQuarantineRebuild (idx : Fin 4096) (s : State) : Host.Outcome State Fault Refusal := (actCtxQuarantineRebuild idx).outcome s

end Sys2Proof.Machine
end

