-- ==== Sys2Proof/Machine/ThermBase.lean ====
section
/-! DEFINITION. The throttle's level, its end, and the pins ALERT_N and THERMTRIP_N (chapter 22, R736, R737, R740, R743, R748). -/
namespace Sys2Proof.Machine

/-- ALERT_N follows the throttle request and the supply monitors. -/
def syncAlert : Act := fun s =>
  let a := s.thm.alertThrottle || s.thm.alertSupply
  if a = s.flag Reg.THM_STAT Fld.THM_STAT.ALERT then [] else
  [.fld Reg.THM_STAT Fld.THM_STAT.ALERT (boolNat a), .emit (.pin 66 (!a))]

def throttleFld (f : Fld) (v : Nat) : Eff := .fld Reg.THM_THROTTLE f v

/-- The shed level changes: it takes effect at the next boundary of every group (R740, R743); level 1 sheds libration (R477). -/
def setShed (n : Nat) : List Eff := [throttleFld Fld.THM_THROTTLE.SHED_LEVEL n, .lib fun l => { l with shedWant := decide (1 ≤ n) }]

/-- The request ends (R739, R743): E234, ALERT_N released, VCORE no longer held. -/
def endThrottle : Act := acts [
  eff ([.reg Reg.THM_THROTTLE 0, .count Prm.THM_RELEASES 1, .raise 234,
    .thm fun t => { t with n0 := 0, graceOver := false, restoring := false, alertThrottle := false }] ++
    (List.range 4).map fun d => .fld (Reg.PWR_VCORE d) Fld.PWR_VCORE.THROTTLED 0),
  syncAlert]

/-- R743: level 0, reached by restoration, has taken effect. -/
def restoreEnd : Act := fun s => if s.thm.restoring && shedLevel s == 0 then endThrottle s else []

end Sys2Proof.Machine
end

