-- ==== Sys2Proof/Machine/BootBase.lean ====
section
/-! DEFINITION. The boot states, and the entry into SERVICE at a frame boundary (chapter 23, R755, R761, R762). -/
namespace Sys2Proof.Machine

def bootFld (f : Fld) (v : Nat) : Eff := .fld Reg.HUB_BOOT f v
def bootState (s : State) : Nat := s.fld Reg.HUB_BOOT Fld.HUB_BOOT.STATE

/-- A boot state begins. -/
def setBoot (n : Nat) : Act := fun s =>
  [bootFld Fld.HUB_BOOT.STATE n, bootFld Fld.HUB_BOOT.BOOT_MS (min 65535 ((s.uptime - s.boot.riseAt) / 250000))]

/-- COMMAND-MODE does not wait for time (R761). -/
def timeReady (s : State) : Bool :=
  s.flag Reg.TIM_STATE Fld.TIM_STATE.ACQUIRED || s.boot.timeWaited || [0, 2].contains (s.pn Prm.TIM_SERVO % 4)

/-- WAIT_TIME. -/
def syncWait : Act := fun s => [bootFld Fld.HUB_BOOT.WAIT_TIME (boolNat (bootState s == 5 && !timeReady s))]

/-- The stored configuration beside images and contexts: rules, windows, layers, mode and timing of the groups. -/
def storedItems (s : State) : List Staged :=
  ((selBank s).prms.entries.filter fun e => servicePrm e.1).map (fun e => .prm e.1 e.2) ++
  ((selBank s).objs.entries.filter fun e => [K_RULE, K_WIN, K_LAYER].contains (e.1 / 2 ^ 20)).map fun e => .obj (e.1 / 2 ^ 20) (e.1 % 2 ^ 20) (some e.2)

/-- The stored contexts: a context keeps its index (R760). -/
def restoreCtxs : Act := acts [
  (fun s =>
    let new := (selBank s).objs.entries.filter fun e => e.1 / 2 ^ 20 == K_CTX && !s.str.ctxs.has (e.1 % 2 ^ 20)
    new.map fun e => .str fun t => { t with ctxs := t.ctxs.put (e.1 % 2 ^ 20) (newCtx s (byteAt e.2 0) (e.2.drop 1)) }),
  fun s => [.prm Prm.STR_CTX_USED (w32 s.str.ctxs.size)]]

/-- SERVICE begins. -/
def enterService : Act := acts [setBoot 6, eff [bootFld Fld.HUB_BOOT.WAIT_TIME 0]]

/-- R761: at a boundary in COMMAND-MODE at which all conditions hold, the stored configuration is committed. One that does not pass
validation is a restore that fails (DEDUCED, notes/assumptions/81). -/
def serviceEntry : Act := fun s =>
  if bootState s ≠ 5 ∨ s.flag Reg.HUB_BOOT Fld.HUB_BOOT.RESTORE_FAIL ∨ !s.boot.firstImage ∨ !timeReady s ∨ s.arm.halted then [] else
  let t := restoreCtxs.run s
  let items := storedItems s
  match (verdict 0 items none t).1 with
  | some _ => [bootFld Fld.HUB_BOOT.RESTORE_FAIL 1]
  | none => acts [restoreCtxs, applyItems 0 items, settle, enterService] s

/-- R762: after a restore that failed, SERVICE begins at the boundary of the first commit that sets a group out of command mode. -/
def lateService : Act := fun s =>
  if bootState s == 5 && s.flag Reg.HUB_BOOT Fld.HUB_BOOT.RESTORE_FAIL && (List.range 4).any fun g => grpMode s g != 0 then enterService s else []

end Sys2Proof.Machine
end

