-- ==== Sys2Proof/Machine/Pairs.lean ====
section
/-! DEFINITION. Checkpoints of a pair and the course of a planned swap (R720, R723, R726). The order of fields in a checkpoint is
not in the spec, which gives contents and lengths only (notes/assumptions/38). -/
namespace Sys2Proof.Machine

/-! ### Checkpoints (R720) -/

def ckptLayer (s : State) (l : Nat) : Bytes :=
  let x := s.layerSt l
  let b := fun (x : Bool) (n : Nat) => if x then n else 0
  leBytes 4 (x.held.getD 0) ++ leBytes 1 (b x.held.isSome 1 + b x.off 2 + b x.lost 4 + b x.fallback 8) ++ leBytes 3 0 ++ leBytes 4 x.stale ++ leBytes 4 0

def ckptTile (s : State) (t : Nat) : Bytes :=
  if t < mqTiles s.mqt then
    let e := mqTile s.mqt t
    let k := s.tlkTile (tlLink e) (tlHop e)
    leBytes 1 k.seq ++ leBytes 1 (boolNat (!s.pat.applyDue.contains t && !s.pat.unacked.contains t)) ++ leBytes 6 0 ++
      (List.range 8).flatMap fun n => leBytes 4 (k.crcs.getD n 0)
  else List.replicate 40 0

/-- The 42,112 bytes of a checkpoint of a group's boundary. -/
def checkpointBytes (s : State) (seq g : Nat) : Bytes :=
  field (leBytes 8 seq ++ leBytes 1 g ++ leBytes 8 (groupFrame s g) ++ timeBytes ((s.group g).last.getD 0) ++ leBytes 8 s.pat.gen ++
    leBytes 8 s.arm.clock) 0 64 ++
  (List.range 64).flatMap (ckptLayer s) ++ (List.range 1024).flatMap (ckptTile s) ++
  field (leBytes 8 s.lib.since ++ leBytes 4 (libChip s) ++ leBytes 4 (libSet s) ++
    (List.range 2).flatMap fun w => leBytes 1 (boolNat (match s.lib.wits.find w with | some x => x.lost | none => false))) 0 64

/-- The active sends the checkpoint of a boundary. -/
def sendCheckpoint (g : Nat) : Act := fun s =>
  let q := s.pn64 Prm.FLT_CKPT_SEQ_LO + 1
  let b := checkpointBytes s q g
  [.count64 Prm.FLT_CKPT_SEQ_LO 1, .prm Prm.FLT_CKPT_BYTES (w32 b.length), pairSend 9 b s]

/-- The newer checkpoint of a group. -/
def newestCkpt (s : State) (g : Nat) : Option Checkpoint :=
  s.flt.checkpoints.foldl (fun r c => if c.group ≠ g then r else match r with
    | some x => if x.seq < c.seq then some c else some x
    | none => some c) none

/-- LATCH_SEQ of the tiles of paired links goes on 9 above a checkpoint's (R723). -/
def takeSeqs (g : Nat) : Act := fun s =>
  match newestCkpt s g with
  | none => []
  | some c => ((groupTiles s g).filter fun t => let e := mqTile s.mqt t; !tlDdp e && linkPair s (tlLink e)).map fun t =>
      let e := mqTile s.mqt t
      effTile (tlLink e) (tlHop e) fun x => { x with seq := (fieldN c.content (1088 + 40 * t) 1 + 8) % 256 }

/-- What a group of the new active takes of its checkpoint: layers, frame, LATCH_SEQ and, for its group, libration (R723). -/
def restoreCkpt (g : Nat) : Act := fun s =>
  match newestCkpt s g with
  | none => []
  | some c => acts [
      eff ([.prm (Prm.GRP_FRAME_LO g) (w32 c.frame), .prm (Prm.GRP_FRAME_HI g) (w32 (c.frame / 2 ^ 32))] ++
        (layersOf s g).map (fun x => effLayer x.1 fun y =>
          let o := 64 + 16 * x.1
          let b := fieldN c.content (o + 4) 1
          { y with held := if bitOf b 0 then some (fieldN c.content o 4) else none, off := bitOf b 1, lost := bitOf b 2, fallback := bitOf b 3,
                   stale := fieldN c.content (o + 8) 4 }) ++
        (if g = libGroup s then [.lib fun l => { l with
            since := fieldN c.content 42048 8,
            wits := (List.range 2).foldl (fun m w => m.alter w fun x => { x with lost := fieldN c.content (42064 + w) 1 == 1 }) l.wits }] else [])),
      takeSeqs g] s

/-- A checkpoint that the standby receives: it keeps the last two of each group; while it warms up it compares lamp data (R726). -/
def keepCheckpoint (c : Checkpoint) : Act := fun s =>
  let mine := s.flt.checkpoints.filter (·.group == c.group)
  let kept := (mine ++ [c]).drop (mine.length + 1 - 2)
  let last := mine.foldl (fun a x => max a x.seq) 0
  let differs := (groupTiles s c.group).any fun t =>
    let e := mqTile s.mqt t
    !tlDdp e && linkPair s (tlLink e) &&
      ((s.tlkTile (tlLink e) (tlHop e)).crcs.entries.any fun x => fieldN c.content (1088 + 40 * t + 8 + 4 * x.1) 4 != x.2)
  acts [
    eff ([.flt (fun x => { x with checkpoints := x.checkpoints.filter (·.group != c.group) ++ kept }),
      .prm Prm.FLT_CKPT_SEQ_LO (w32 c.seq), .prm Prm.FLT_CKPT_SEQ_HI (w32 (c.seq / 2 ^ 32)), .prm Prm.FLT_CKPT_BYTES (w32 c.content.length)] ++
      (if last ≠ 0 ∧ last + 1 < c.seq then [.count Prm.FLT_CKPT_MISSED (c.seq - last - 1)] else [])),
    if pairFlag s Fld.FLT_PAIR_STAT.WARM && differs then
      acts [eff [.count Prm.FLT_PAIR_WARM_MISMATCH 1, pairSend 4 [] s], swapAbort] else eff []] s

/-! ### The course of a swap (R726) -/

/-- The roles change at the boundary named. -/
def swapRoles (frame : Nat) : Act := fun s =>
  let now := s.uptime
  let active := pairActive s
  acts [
    eff [pairFld Fld.FLT_PAIR_STAT.ACTIVE (boolNat (!active)), pairFld Fld.FLT_PAIR_STAT.WARM 0, pairFld Fld.FLT_PAIR_STAT.SWAP_PENDING 0,
      pairFld Fld.FLT_PAIR_STAT.LAST_EVENT 2, .count Prm.FLT_SWAPS 1, .raise 247,
      .flt fun x => { x with warm := none, swap := none, healthy := if active then some now else none }],
    if active then swapTicketDone ST_OK (leBytes 8 frame) else actsFor (List.range 4) takeSeqs] s

/-- A boundary of the group that a swap counts by: the warm-up counts down, the boundary is named, the roles change, and the old
active unbinds after that frame. -/
def swapStep (frame : Nat) : Act := fun s =>
  match s.flt.swap, s.flt.warm with
  | some f, _ => if frame = f then swapRoles f s else []
  | none, some n =>
    if !pairActive s then []
    else if n ≤ 1 then
      let f := (frame + 2) % 2 ^ 48
      [.flt (fun x => { x with warm := none, swap := some f }), pairFld Fld.FLT_PAIR_STAT.SWAP_PENDING 1,
       .prm Prm.FLT_PAIR_SWAP_FRAME_LO (w32 f), .prm Prm.FLT_PAIR_SWAP_FRAME_HI (w32 (f / 2 ^ 32)), pairSend 6 (leBytes 8 f) s]
    else [.flt fun x => { x with warm := some (n - 1) }]
  | none, none =>
    if isStandby s ∧ s.flt.bind.entries.any (fun e => decide (64 ≤ e.2.start) && e.2.start != 255) then rebind true s else []

/-- A boundary of a group as its pair sees it. -/
def pairBoundary (g : Nat) : Act := fun s =>
  if !pairEn s then [] else acts [
    if pairActive s && (pairedGroups s).contains g && !pairFlag s Fld.FLT_PAIR_STAT.YIELDED then sendCheckpoint g else eff [],
    if g = pairGroup s then swapStep (groupFrame s g) else eff []] s

end Sys2Proof.Machine
end

