-- ==== Sys2Proof/Machine/Pulses.lean ====
section
/-! DEFINITION. Time-pulse outputs (chapter 14, R536 to R541; rows TPO_ARM, TPO_STOP, TPO_EDGE). -/
namespace Sys2Proof.Machine

def Tpo.init : Tpo := ⟨0, 0, 0, 0, false, false, [], none, false⟩

def State.tpo (s : State) (n : Nat) : Tpo := s.tim.tpo.getD n Tpo.init

def effTpo (n : Nat) (g : Tpo → Tpo) : Eff := .tim fun t => { t with tpo := t.tpo.upd n Tpo.init g }

/-- ACTIVE follows the schedule. -/
def tpoSync (n : Nat) : Act := fun s => [.fld (Reg.TPO_STAT n) Fld.TPO_STAT.ACTIVE (if (s.tpo n).active then 1 else 0)]

/-- The level of the pin: active or not, in the polarity in force. -/
def tpoLevel (n : Nat) (pol active : Bool) : List Eff :=
  [.fld (Reg.TPO_STAT n) Fld.TPO_STAT.LEVEL (if active then 1 else 0), .emit (.pin n (active != pol))]

/-- A pulse fires at its scheduled time (R541, R191). -/
def tpoFire (n t16 : Nat) : Act := fun s =>
  let x := s.tpo n
  acts [eff ([effTpo n fun x => { x with pulse := some (t16 + x.width * NS) }] ++ tpoLevel n x.pol true ++
      [.inc (Reg.TPO_STAT n) Fld.TPO_STAT.FIRED 1, .count (Prm.TPO_FIRED n) 1] ++
      raiseIf (s.flag (Reg.TPO_CTRL n) Fld.TPO_CTRL.REPORT) 212),
    actsFor (trigTargets s (0x20 + n)) (fun sn => captureTrigger sn t16)] s

/-- TPO_START as a time (R518). -/
def tpoStart (s : State) (n : Nat) : Nat :=
  let hi := s.rd (Reg.TPO_START_SEC_HI n)
  ((hi.toNat % 65536) * 2 ^ 32 + (s.rd (Reg.TPO_START_SEC_LO n)).toNat) * SEC + (s.rd (Reg.TPO_START_NS n)).toNat * NS + hi.toNat / 65536

/-- Arming is refused (R537). -/
def armBad (s : State) (n mode : Nat) : Bool :=
  let w := (s.rd (Reg.TPO_WIDTH n)).toNat
  let p := s.rd64 (Reg.TPO_PERIOD_LO n)
  decide (w < 10) || decide (1000000000 < w) ||
    (mode == 2 && (decide (p < 100 * NS) || decide (1000 * SEC < p) || decide (p < (w + 10) * NS))) ||
    decide (1000000000 ≤ (s.rd (Reg.TPO_START_NS n)).toNat) || tooFar s (tpoStart s n)

/-- The fields a write of TPO_CTRL loads at once. -/
def tpoCtrlWord (s : State) (n : Nat) (v : Word) : Eff := .reg (Reg.TPO_CTRL n) (hostWord s (Reg.TPO_CTRL n) v)

/-- R537, R538: ARM loads the shadows. -/
def actTpoArm (n : Fin 16) (v : Word) : Act := fun s =>
  if getFld v Fld.TPO_CTRL.ARM = 0 then [] else
  let mode := getFld v Fld.TPO_CTRL.MODE
  if armBad s n mode then [tpoCtrlWord s n v, .fld (Reg.TPO_STAT n) Fld.TPO_STAT.CFG_ERR 1] else
  let start := tpoStart s n
  let period := s.rd64 (Reg.TPO_PERIOD_LO n)
  let late := mode == 1 && decide (start ≤ s.vis)
  let edges := if mode = 1 then (if late then [] else [start])
    else if mode = 2 then [if s.vis < start then start else gridAfter start period s.vis] else []
  acts [eff [tpoCtrlWord s n v, effTpo n fun x =>
      { x with mode := mode, start := start, period := period, width := (s.rd (Reg.TPO_WIDTH n)).toNat,
               pol := getFld v Fld.TPO_CTRL.POL == 1, active := mode != 0, edges := edges, stopping := false }],
    tpoSync n,
    if late then acts [eff [.fld (Reg.TPO_STAT n) Fld.TPO_STAT.LATE 1], tpoFire n s.vis] else fun _ => []] s

def execTpoArm (n : Fin 16) (v : Word) (s : State) : Host.Outcome State Fault Refusal := (actTpoArm n v).outcome s

/-- R538: STOP ends the schedule after any pulse in progress. -/
def actTpoStop (n : Fin 16) (v : Word) : Act := fun s =>
  if getFld v Fld.TPO_CTRL.STOP = 0 then [] else
  acts [eff [tpoCtrlWord s n v, effTpo n fun x => { x with edges := [], stopping := x.pulse.isSome, active := x.pulse.isSome && x.active }],
    tpoSync n] s

def execTpoStop (n : Fin 16) (v : Word) (s : State) : Host.Outcome State Fault Refusal := (actTpoStop n v).outcome s

/-- The closing edge of a pulse; a once or stopped schedule ends with it. -/
def tpoClose (n : Nat) : Act := fun s =>
  let x := s.tpo n
  acts [eff (effTpo n (fun x => { x with
      pulse := none, stopping := false, active := x.active && !x.stopping && !(x.mode == 1 && x.edges.isEmpty) }) :: tpoLevel n x.pol false), tpoSync n] s

/-- The earliest leading edge of a schedule fires; a periodic one then waits for its next grid point. -/
def tpoLead (n t16 : Nat) : Act := acts [
  eff [effTpo n fun x => { x with edges := if x.mode = 2 then [t16 + x.period] else x.edges.tail }], tpoFire n t16]

/-- The next edge of an output: the end of the pulse in progress or the next leading edge, whichever is scheduled first. -/
def actTpoEdge (n : Fin 16) : Act := fun s =>
  let x := s.tpo n
  match x.pulse, x.edges with
  | some c, e :: _ => if e < c then tpoLead n e s else tpoClose n s
  | some _, [] => tpoClose n s
  | none, e :: _ => if x.active then tpoLead n e s else []
  | none, [] => []

def execTpoEdge (n : Fin 16) (s : State) : Host.Outcome State Fault Refusal := (actTpoEdge n).outcome s

end Sys2Proof.Machine
end

