-- ==== Sys2Proof/Machine/Boundary.lean ====
section
/-! DEFINITION. Frame boundaries of output groups (chapter 10, R389 to R401, R405; chapter 14, R540, R544, R547; R29, R705, R804):
rows FRAME_BOUNDARY, ALIGNED_BOUNDARY and GRP_PERIOD_MAX_EXPIRY. -/
namespace Sys2Proof.Machine

/-! ### Times of a frame -/

/-- A device time as a fraction of 2^-16 ns. -/
abbrev Frac := Nat × Nat

def fracAdd (a b : Frac) : Frac := (a.1 * b.2 + b.1 * a.2, a.2 * b.2)
def fracTime (a : Frac) : Nat := divRound a.1 a.2

/-- T = k × period + GRP_PHASE_NS (R394), exactly. -/
def alignedAt (s : State) (g k : Nat) : Frac :=
  let v := grpMin s g
  (k * perNum v * SEC + s.pn (Prm.GRP_PHASE_NS g) * NS * perDen v, perDen v)

/-- The last k whose T is not after device time; none before the first. -/
def alignedIndex (s : State) (g : Nat) : Option Nat :=
  let v := grpMin s g
  let p := s.pn (Prm.GRP_PHASE_NS g) * NS
  if s.vis < p ∨ perNum v = 0 then none else some ((s.vis - p) * perDen v / (perNum v * SEC))

/-- The latch time of a slot of a frame (R396, R547). -/
def latchTime (s : State) (g : Nat) (t : Frac) (slot : Nat) : Nat :=
  fracTime (fracAdd (fracAdd t (latchOffset s g * NS, 1)) (slotStart s g slot))

/-! ### Layers at a boundary -/

/-- The frame that a sensor captures, or captured last. -/
def sensorFrame (s : State) (sn : Nat) : Option Nat := match (s.sns sn).frame with | some f => some f | none => (s.sns sn).prev

/-- WRITE_SEQ of the newest complete slot of a layer's source (R390, R392). In a ring in memory a slot whose header is all zero has not
been written. -/
def newestSlot (s : State) (b : Bytes) : Option Nat :=
  match lyKind b with
  | 1 => (s.ctx (lyIndex b)).bind fun x => if x.lastDone = 0 then none else some x.lastDone
  | 3 => (layerRing s b).bind fun k =>
      ((List.range (lySlots b)).filterMap fun n =>
        let a := slotAddr k n
        let w := fieldN (s.ringRead a 4) 0 4
        if w = fieldN (s.ringRead (a + 252) 4) 0 4 ∧ !zeroAt (s.ringRead a 256) 0 256 then some w else none).foldl
        (fun r w => match r with
          | some q => if (w + 2 ^ 32 - q) % 2 ^ 32 < 2 ^ 31 then some w else some q
          | none => some w) none
  | 4 => (s.cst.plays.find (lyIndex b)).bind fun p => if p.opening.isSome then none else some p.writeSeq
  | _ => none

/-- The source of a layer is ready: it has a complete frame not yet shown (R390). -/
def layerReady (s : State) (g l : Nat) (b : Bytes) : Bool :=
  match lyKind b with
  | 5 => true
  | 2 => (match sensorFrame s (geo s (lyIndex b)).sensor with | some f => (s.group g).shown != some f | none => false)
  | _ => (match newestSlot s b with | some q => (s.layerSt l).held != some q | none => false)

/-- Layers of a group that gate its boundaries; a shed layer does not. -/
def gatingLayers (s : State) (g : Nat) : List (Nat × Bytes) :=
  (layersOf s g).filter fun x => lyGating x.2 && !shedLayer (shedLevel s) x.2

def gatesReady (s : State) (g : Nat) : Bool := (gatingLayers s g).all fun x => layerReady s g x.1 x.2

/-- A layer's place is taken by its fallback from this boundary on: it had been declared lost before and is not ready (R405). -/
def fallsBack (s : State) (g l : Nat) (b : Bytes) : Bool :=
  (s.layerSt l).lost && !layerReady s g l b && decide (lyFallback b ≤ 31) && lyLoss b != 0

/-- Gating layers that a boundary at GRP_PERIOD_MAX finds not ready, a layer shown by its fallback apart. -/
def lateLayers (s : State) (g : Nat) : List (Nat × Bytes) :=
  (gatingLayers s g).filter fun x => !layerReady s g x.1 x.2 && !fallsBack s g x.1 x.2

/-- R380, R392, R404, R405, R740: what a boundary makes of a layer. -/
def layerStep (g l : Nat) (b : Bytes) : Act := fun s =>
  let fresh := layerReady s g l b
  let fall := fallsBack s g l b
  let old := s.layerSt l
  [effLayer l fun x =>
    { x with off := !s.holds (lyOwner b) R_WINDOW, shed := shedLayer (shedLevel s) b, fallback := fall,
             held := if fresh ∧ lyKind b ≠ 2 ∧ lyKind b ≠ 5 then newestSlot s b else x.held,
             stale := if fresh then 0 else x.stale + 1,
             lost := !fresh && (x.lost || (lyLoss b != 0 && decide (lyLoss b ≤ x.stale + 1))) }] ++
  raiseIf (fall && !old.fallback) 164

/-- R393, R400: what a boundary at GRP_PERIOD_MAX reports; it answers by E161. -/
def lateReport (g : Nat) (ls : List (Nat × Bytes)) (hold : Bool) : Act := fun _ =>
  let rings := ls.filter fun x => lyKind x.2 != 2
  rings.map (fun x => effLayer x.1 fun y => { y with late := y.late + 1 }) ++
  (if rings.isEmpty then [] else [.count (Prm.GRP_LATE_FRAMES g) 1]) ++
  (if hold then [.count (Prm.GRP_HOLDS g) 1] else []) ++
  raiseIf (!ls.isEmpty) 161

/-! ### Latches -/

/-- Latches of earlier frames whose time has passed are over. -/
def dropPast (g at' : Nat) : Act := fun s =>
  actsFor (((s.group g).latches.filter fun l => decide (l.time ≤ at') && !l.cmd).flatMap fun l => l.todo.map fun t => (l, t)) (fun x => fun s =>
    let e := mqTile s.mqt x.2
    match (s.group g).latches.find? fun y => y.time == x.1.time && y.slot == x.1.slot && y.band == x.1.band && !y.cmd with
    | some l => latchDone s g x.2 l ++ [.tlk (fun k => { k with rows := k.rows.filter fun r _ => r / 8388608 != x.2 }),
        effTile (tlLink e) (tlHop e) fun k => { k with rows := [], data := .empty }]
    | none => []) s

/-- The latches of the frame that starts at T: one a slot in raster mode, one a band in chase mode (R396, R398). -/
def newLatches (g : Nat) (t : Frac) (hold : Bool) : Act := fun s =>
  match grpMode s g with
  | 1 => (List.range (grpSlots s g)).map fun k => addLatch g ⟨k, none, latchTime s g t k, hold, false, groupTiles s g⟩
  | 2 => (groupBands s g).map fun b =>
      addLatch g ⟨0, some b, fracTime (fracAdd t (s.pn (Prm.BAND_LATCH_OFFSET b) * NS, 1)), hold, false, bandTiles s g b⟩
  | _ => []

/-! ### Pulses placed by a group (R540) -/

/-- The edge of an output in a frame that starts at T. -/
def groupEdge (s : State) (g n : Nat) (t : Frac) : Option Int :=
  let v := s.pn (Prm.TPO_GROUP n)
  let k := bitsOf v 26 24
  let ofs : Int := sgn 32 (s.pn (Prm.TPO_GROUP_OFS_NS n)) * NS
  if bitOf v 27 then
    let c := s.pn (Prm.SHT_CAM_0 g + k)
    if k < 4 ∧ bitOf c 31 then some ((latchTime s g t (bitsOf c 26 24) : Nat) + (bitsOf c 19 0 * NS : Nat) + ofs) else none
  else if k < grpSlots s g then some ((latchTime s g t k : Nat) + ofs) else none

/-- The edges of a frame are computed. -/
def groupPulses (g frame : Nat) (t : Frac) : Act := fun s =>
  actsFor ((List.range 16).filter fun n =>
    let v := s.pn (Prm.TPO_GROUP n)
    bitOf v 31 && bitsOf v 29 28 == g && (s.tpo n).active && (s.tpo n).mode == 3 && !(s.tpo n).stopping && frame % max 1 (v % 256) == 0) (fun n => fun s =>
      match groupEdge s g n t with
      | none => []
      | some e =>
        if e < ((s.vis + 200 * NS : Nat) : Int) then acts [tpoFire n s.vis, eff [.count (Prm.TPO_LATE n) 1]] s
        else [effTpo n fun x => { x with edges := insertNat e.toNat x.edges }]) s

/-! ### Roles without a slot (R29, R705, R804) -/

/-- Logical units of other clusters that could take a moved role: those outside the reserve first. -/
def spareUnits (s : State) (used : FMap Binding) : List Nat :=
  let free := (List.range 128).flatMap (freeUnits s used)
  let rest := (List.range 128).flatMap fun c => if clusterOff s c then [] else
    ((List.range 16).filter fun r => (holder s c r).isSome && !used.has (16 * c + r)).map (16 * c + ·)
  free ++ rest.filter fun u => !free.contains u

/-- A logical unit has a slot that runs. -/
def unitServed (s : State) (u : Nat) : Bool := (holder s (u / 16) (u % 16)).isSome && !clusterStopped s (u / 16)

/-- R745: the slots of the stopped clusters power down once their roles have moved. -/
def chillSlots : Act := fun s =>
  s.thm.stopped.flatMap fun c => ((List.range 17).filter fun k => slotPowered s (17 * c + k)).flatMap fun k => powerDown (17 * c + k)

/-- Bound roles left without a slot are moved, roles whose slot is back return, and what finds no unit is tried again. It waits while the
Armature is halted (R710). -/
def rehome : Act := fun s =>
  let need := (s.flt.bind.keys.filter fun u => !unitServed s u)
  if s.arm.halted ∨ (need.isEmpty ∧ s.flt.moved.entries.isEmpty) then [] else
  let kept := s.flt.moved.filter fun u v => need.contains u && unitServed s v
  let used := kept.entries.foldl (fun (m : FMap Binding) e => match s.flt.bind.find e.1 with | some b => m.put e.2 b | none => m) s.flt.bind
  let lost := need.filter fun u => !kept.has u
  let pairs := lost.zip (spareUnits s used)
  let past := pairs.any fun p => !((List.range 128).flatMap (freeUnits s used)).contains p.2
  [.flt fun x => { x with moved := pairs.foldl (fun m p => m.put p.1 p.2) kept }] ++ raiseIf (past || decide (pairs.length < lost.length)) 241

/-! ### The boundary -/

/-- A boundary of group g at T: the frame with this number starts. maxed: it came with GRP_PERIOD_MAX. next: where the boundary after
it falls, in an aligned group. -/
def groupBoundary (g : Nat) (t : Frac) (next : Option Frac) (frame : Nat) (maxed : Bool) : Act := acts [
  eff [.prm (Prm.GRP_FRAME_LO g) (w32 frame), .prm (Prm.GRP_FRAME_HI g) (w32 (frame / 2 ^ 32)), effGroup g fun x => { x with last := some (fracTime t) }],
  frameStart (64 + g), serviceEntry, commitBoundary g, lateService, rehome, chillSlots,
  (fun s => if shedLevel s ≠ s.thm.shedAt then bindUnits s else []), restoreEnd,
  patBoundary g, tlkBoundary g, dropPast g (fracTime t),
  fun s =>
    let late := if maxed && grpMode s g != 0 then lateLayers s g else []
    let hold := late.any fun x => lyKind x.2 == 2
    let cams := groupCameras s g
    let shown := match cams with
      | x :: _ => if hold then (s.group g).shown else sensorFrame s (geo s (lyIndex x.2)).sensor
      | [] => none
    acts [
      lateReport g late hold,
      actsFor (layersOf s g) (fun x => layerStep g x.1 x.2),
      eff [effGroup g fun x => { x with hold := hold, waits := hold && grpMode s g == 2, shown := shown }],
      newLatches g t hold,
      if g = libGroup s then libBoundary (if grpMode s g = 1 then (List.range (grpSlots s g)).map fun k => (latchTime s g t k, k) else []) else eff [],
      playBoundary g frame,
      (match next with
       | some u => groupPulses g ((frame + 1) % 2 ^ 48) u
       | none => groupPulses g frame t),
      pairBoundary g, syncEngines] s]

/-- GRP_PERIOD_MIN has passed since the last boundary. -/
def periodPassed (s : State) (g v : Nat) : Bool :=
  match (s.group g).last with
  | none => true
  | some t => decide (perNum v * SEC ≤ (s.vis - t) * perDen v)

def nextFrame (s : State) (g : Nat) : Nat := (groupFrame s g + 1) % 2 ^ 48

/-- Start of frame of the newest frame of the sensor of a group's chase layer (R391); device time where it carries no time-stamp. -/
def chaseTime (s : State) (g : Nat) : Nat :=
  match chaseLayer s g with
  | none => s.vis
  | some x =>
    let sn := (geo s (lyIndex x.2)).sensor
    match sensorFrame s sn with
    | none => s.vis
    | some f => match (s.sns sn).info.find? fun i => i.frame == f with
        | some i => if i.tsValid then i.ts else s.vis
        | none => (s.sns sn).lastSof.getD s.vis

/-- R391: every gating layer is ready and GRP_PERIOD_MIN has passed. -/
def actFrameBoundary (g : Fin 4) : Act := fun s =>
  if grpAlign s g ∨ grpMode s g = 0 ∨ !gatesReady s g ∨ !periodPassed s g (grpMin s g) then [] else
  groupBoundary g (if grpMode s g = 2 then chaseTime s g else s.vis, 1) none (nextFrame s g) false s

def execFrameBoundary (g : Fin 4) (s : State) : Host.Outcome State Fault Refusal := (actFrameBoundary g).outcome s

/-- R394, R544: an aligned boundary. -/
def actAlignedBoundary (g : Fin 4) : Act := fun s =>
  if !grpAlign s g then [] else
  match alignedIndex s g with
  | none => []
  | some k =>
    let t := alignedAt s g k
    if (s.group g).last.any fun l => decide (fracTime t ≤ l) then [] else
    groupBoundary g t (some (alignedAt s g (k + 1))) (k % 2 ^ 48) false s

def execAlignedBoundary (g : Fin 4) (s : State) : Host.Outcome State Fault Refusal := (actAlignedBoundary g).outcome s

/-- R391, R393, R400, R401: GRP_PERIOD_MAX passes. A chase group that has started a HOLD frame waits for its start of frame. -/
def actGrpPeriodMaxExpiry (g : Fin 4) : Act := fun s =>
  if grpAlign s g ∨ (s.group g).waits ∨ !periodPassed s g (grpMax s g) then [] else
  groupBoundary g (s.vis, 1) none (nextFrame s g) true s

def execGrpPeriodMaxExpiry (g : Fin 4) (s : State) : Host.Outcome State Fault Refusal := (actGrpPeriodMaxExpiry g).outcome s

end Sys2Proof.Machine
end

