-- ==== Sys2Proof/Machine/PairRows.lean ====
section
/-! DEFINITION. Package pairs: heartbeats, detection, yield, takeover, the mirror, checkpoints and the start of swaps (R717 to R727): rows
FLT_PAIR_SWAP, FLT_PAIR_INFO and PAIR_HEARTBEAT to PAIR_REVERT, and PAIR_MIRROR_ACK. -/
namespace Sys2Proof.Machine

/-- Tile links that are paired (R717). -/
def pairedLinks (s : State) : List Nat := (List.range 64).filter fun l => linkEn s l && linkPair s l

/-- R721: a heartbeat, class 0, on every link that is up, unless an injection withholds it. -/
def actPairHeartbeat : Act := fun s =>
  if !pairEn s then []
  else if s.flt.beatHold ≠ 0 then [.flt fun x => { x with beatHold := x.beatHold - 1 }]
  else ((List.range 4).filter (xplUp s)).map (fun x => .emit (.packet 3 (partnerPkg s) ([0, 10] ++ leBytes 1 x))) ++
    [.prm Prm.FLT_PAIR_HEALTHY_S (w32 (match s.flt.healthy with | some t => (s.uptime - t) / secTicks | none => 0))]

def execPairHeartbeat (s : State) : Host.Outcome State Fault Refusal := actPairHeartbeat.outcome s

/-- Items that the standby will not acknowledge are armed without it (DEDUCED, notes/assumptions/78). -/
def flushMirror : Act := fun s =>
  acts [
    actsFor s.flt.mirror fun e => if e.2 < 128 then armCommit e.2 else if e.2 = 255 then armNow else eff [],
    eff [.flt (fun x => { x with mirror := [] }), .prm Prm.FLT_PAIR_MIRROR_PENDING 0]] s

/-- R721: no heartbeat for FLT_PAIR_DETECT_US; ring: and none of the active's packets on a B end for FLT_PAIR_RING_US. An active that
hears nothing is no longer protected. -/
def actPairDetectTimeout (ring : Bool) : Act := fun s =>
  if !pairEn s then []
  else if pairActive s then
    acts [eff [.count Prm.FLT_PAIR_HB_LOST 1, pairFld Fld.FLT_PAIR_STAT.PROTECTED 0], flushMirror, swapAbort] s
  else if ring then [.count Prm.FLT_PAIR_HB_LOST 1, .flt fun x => { x with declared := true }]
  else [.count Prm.FLT_PAIR_HB_LOST 1, .count Prm.FLT_PAIR_DECLINED 1, pairFld Fld.FLT_PAIR_STAT.PROTECTED 0, .flt fun x => { x with healthy := none }]

def execPairDetectTimeout (ring : Bool) (s : State) : Host.Outcome State Fault Refusal := (actPairDetectTimeout ring).outcome s

/-- R722: the active yields. The code of its cause in FLT_PAIR_LAST_CAUSE is not stated, so it is a free value. -/
def pairYield (cause : Nat) : Act := fun s =>
  if !pairActive s ∨ pairFlag s Fld.FLT_PAIR_STAT.YIELDED then [] else
  acts [
    eff [pairFld Fld.FLT_PAIR_STAT.YIELDED 1, pairFld Fld.FLT_PAIR_STAT.ACTIVE 0, pairFld Fld.FLT_PAIR_STAT.PROTECTED 0, .count Prm.FLT_YIELDS 1,
      .prm Prm.FLT_PAIR_LAST_CAUSE (w32 (Config.freeAt 79 [cause])), pairSend 2 [] s],
    flushMirror, swapAbort] s

def execPairYield (cause : Fin 3) (s : State) : Host.Outcome State Fault Refusal := (pairYield cause).outcome s

/-- Discovery in the B direction on a paired link (R504, R723). -/
def discoverB (l : Nat) : Act := fun s =>
  if !linkReady s l then [] else
  [effLink l (fun k => { k with discovering := true, seen := [], changes := 0 }), tlkSend l 6 true 0 (leBytes 1 0 ++ leBytes 1 1 ++ leBytes 1 (chainLen s l)) []]

/-- R723: the takeover, us microseconds from the declaration to the first conjunction. A camera layer is ready from the next start of
frame of its sensor. FLT_PAIR_BENDS_SERVED counts the B ends served. -/
def actPairTakeover (us : Nat) : Act := fun s =>
  if !isStandby s ∨ pairFlag s Fld.FLT_PAIR_STAT.YIELDED ∨ !s.flt.declared then [] else
  acts [
    rebind false,
    actsFor (List.range 4) restoreCkpt,
    fun s => (List.range 4).map (fun g => effGroup g fun x => { x with shown := match groupCameras s g with
      | y :: _ => sensorFrame s (geo s (lyIndex y.2)).sensor
      | [] => none }),
    eff [pairFld Fld.FLT_PAIR_STAT.ACTIVE 1, pairFld Fld.FLT_PAIR_STAT.PROTECTED 0, pairFld Fld.FLT_PAIR_STAT.WARM 0,
      pairFld Fld.FLT_PAIR_STAT.SWAP_PENDING 0, pairFld Fld.FLT_PAIR_STAT.LAST_EVENT 1, pairFld Fld.FLT_PAIR_STAT.TAKEOVER_US (min 65535 us),
      .prm Prm.FLT_PAIR_TAKEOVER_US_MAX (w32 (max (s.pn Prm.FLT_PAIR_TAKEOVER_US_MAX) us)), .count Prm.FLT_TAKEOVERS 1,
      .prm Prm.FLT_PAIR_BENDS_SERVED (w32 (pairedLinks s).length), .raise 247,
      .flt fun x => { x with declared := false, warm := none, swap := none, healthy := none }],
    nvsRecord 7 (leBytes 4 us),
    actsFor (pairedLinks s) discoverB] s

def execPairTakeover (us : Nat) (s : State) : Host.Outcome State Fault Refusal := (actPairTakeover us).outcome s

/-- R719: an item of the active: the standby validates and places it. A commit or a switch waits for its frame, kept under 128 times
its sequence and 1; a change of rights, scope or quota is applied at once. An item that fails is not acknowledged. -/
def actPairMirrorItem (seq : Nat) (p : Fin 96) (group : Fin 4) (frame : Option Nat) (prms : List (Nat × Word)) (objs : List (Nat × Nat × Option Bytes)) :
    Act := fun s =>
  if !isStandby s then [] else
  let items := prms.map (fun x => Staged.prm x.1 x.2) ++ objs.map fun x => Staged.obj x.1 x.2.1 x.2.2
  let ack := pairSend 8 (leBytes 4 seq) s
  match frame with
  | some f =>
    if (verdict p items none s).1.isSome then [] else
    [.arm (fun a => { a with
        clock := a.clock + 1,
        commits := a.commits.put (128 * (1 + seq) + p) ⟨0, true, group, f, false, false, items, some 0, a.clock + 1⟩ }), ack]
  | none => acts [
      applyItems p items,
      fun s' => actsFor ((List.range 63).filter fun i => s'.prm (Prm.PRN_RIGHTS_1 i) != s.prm (Prm.PRN_RIGHTS_1 i)) (fun i => acts [
        eff [.raise 94], newRights (i + 1) (s.pn (Prm.PRN_RIGHTS_1 i)) (s'.pn (Prm.PRN_RIGHTS_1 i))]) s',
      requestSave, eff [ack]] s

def execPairMirrorItem (seq : Nat) (p : Fin 96) (group : Fin 4) (frame : Option Nat) (prms : List (Nat × Word)) (objs : List (Nat × Nat × Option Bytes))
    (s : State) : Host.Outcome State Fault Refusal := (actPairMirrorItem seq p group frame prms objs).outcome s

/-- R719: the standby's acknowledgement; the item is armed. A commit whose frame has passed is applied late. -/
def actPairMirrorAck (seq : Nat) : Act := fun s =>
  match s.flt.mirror.find? (·.1 == seq) with
  | none => []
  | some e =>
    let rest := s.flt.mirror.filter (·.1 != seq)
    let late : Bool := match s.arm.commits.find e.2 with
      | some c => !c.next && decide (frameAhead s c.group c.requested ≤ 0)
      | none => false
    acts [
      eff ([.flt (fun x => { x with mirror := rest }), .prm Prm.FLT_PAIR_MIRROR_PENDING (w32 rest.length), pairFld Fld.FLT_PAIR_STAT.PROTECTED 1] ++
        (if e.2 < 128 ∧ late = true then [.count Prm.FLT_PAIR_MIRROR_LATE 1] else [])),
      if e.2 < 128 then armCommit e.2 else if e.2 = 255 then armNow else eff []] s

def execPairMirrorAck (seq : Nat) (s : State) : Host.Outcome State Fault Refusal := (actPairMirrorAck seq).outcome s

/-- R720, R727: a checkpoint arrives at the standby. -/
def actPairCheckpoint (seq : Nat) (group : Fin 4) (frame : Nat) (content : Bytes) : Act := fun s =>
  if !isStandby s then [] else
  let now := s.uptime
  acts [keepCheckpoint ⟨seq, group, frame, content⟩,
    eff [pairFld Fld.FLT_PAIR_STAT.PROTECTED 1, .flt fun x => { x with healthy := match x.healthy with | some t => some t | none => some now }]] s

def execPairCheckpoint (seq : Nat) (group : Fin 4) (frame : Nat) (content : Bytes) (s : State) : Host.Outcome State Fault Refusal :=
  (actPairCheckpoint seq group frame content).outcome s

/-- R726: a scheduled swap time of the active. -/
def actPairSwapTimer : Act := fun s => if pairActive s && pairProtected s && s.pn Prm.FLT_PAIR_SWAP_S != 0 then swapStart s else []

def execPairSwapTimer (s : State) : Host.Outcome State Fault Refusal := actPairSwapTimer.outcome s

/-- R727: a preferred package takes the active role back by a planned swap. -/
def actPairRevert : Act := fun s =>
  let t := s.pn Prm.FLT_PAIR_REVERT_S
  let due : Bool := match s.flt.healthy with | some h => decide (h + t * secTicks ≤ s.uptime) | none => false
  if isStandby s && bitOf (s.pn Prm.FLT_PAIR_CFG) 0 && t != 0 && due && s.fld Reg.HUB_BOOT Fld.HUB_BOOT.STATE == 6 then swapStart s else []

def execPairRevert (s : State) : Host.Outcome State Fault Refusal := actPairRevert.outcome s

/-! ### Commands (R730) -/

/-- The caller gets a ticket that ends with the swap. A swap under way already makes it busy (DESIGN CHOICE, notes/assumptions/78). -/
def hFltPairSwap (c : Svc) (s : State) : Reply :=
  checks [c.badLen 0, c.notF0, (!pairActive s || !pairProtected s, ST_CONFLICT), (s.flt.warm.isSome || s.flt.swap.isSome, ST_BUSY)]
    (.pending (acts [eff [.flt fun x => { x with swapTicket := some (c.f, ticketId c.f (s.mbx c.f).nextTicket) }], swapStart]))

def execFltPairSwap (s : State) : Host.Outcome State Fault Refusal := (turn 0x1303 hFltPairSwap).outcome s

def hFltPairInfo (c : Svc) (s : State) : Reply :=
  checks [c.badLen 0, c.notF0]
    (.ok (leBytes 4 (s.rd Reg.FLT_PAIR_STAT).toNat ++ leBytes 8 (s.pn64 Prm.FLT_CKPT_SEQ_LO) ++ leBytes 8 (s.pn64 Prm.FLT_PAIR_SWAP_FRAME_LO) ++
      leBytes 4 (s.pn Prm.FLT_PAIR_MIRROR_PENDING)) fun _ => [])

def execFltPairInfo (s : State) : Host.Outcome State Fault Refusal := (turn 0x1304 hFltPairInfo).outcome s

end Sys2Proof.Machine
end

