-- ==== Sys2Proof/Machine/Thermal.lean ====
section
/-! DEFINITION. Temperatures, the housekeeping orbit, throttling, cluster stops, THERMTRIP_N, pin faults, service life and VCORE steering
(R70 to R72, R80 to R83, chapter 22): rows PACE_WINDOW_END, HK_SAMPLE, THM_CONV, CONV_DONE, the throttle's, CLUSTER_RESTART, PIN_FAULT,
HOURLY_REANCHOR and VCORE_STEP. A temperature is a signed number of 1/16 °C. -/
namespace Sys2Proof.Machine

/-- A whole number of °C. -/
def degC (n : Nat) : Int := 16 * n

/-- °C + 64 in eight bits. -/
def tempCode (t : Int) : Nat := (clampI 0 255 ((t + 1024) / 16)).toNat

/-! ### THERMTRIP_N (R748) -/

/-- THERMTRIP_N is asserted until a power-on reset: lanes and direct drive ports stop, and a record says why. Its data are a number of
the reading, a channel of R733 or 256 and a physical index, and the temperature (PRESUMED, notes/assumptions/80). -/
def thermTrip (reading : Nat) (t : Int) : Act := fun s =>
  if tripped s then [] else
  acts [
    eff [.emit (.pin 67 false)],
    actsFor (List.range 64) linkDown,
    eff ((List.range 4).flatMap salDown),
    actsFor ((List.range 4).filter (xplUp s)) xplDown,
    eff ((List.range 4).map fun p => .prm (Prm.ETH_STATE p) 0),
    eff ((List.range 16).map fun p => .fld (Reg.DDP_PORT_STAT p) Fld.DDP_PORT_STAT.RUNNING 0),
    syncTlk,
    nvsRecord 4 (leBytes 2 reading ++ leBytes 2 (unsgn 16 t)),
    eff [.fld Reg.THM_STAT Fld.THM_STAT.TRIP 1]] s

/-- The checks of a live reading at 120 °C and 125 °C (R747, R748). -/
def hotChecks (reading : Nat) (t : Int) : Act := acts [
  if degC 120 ≤ t then pairYield 1 else eff [],
  if degC 125 ≤ t then thermTrip reading t else eff []]

/-! ### Pace monitors (R70 to R72, R746) -/

/-- Whole hours of uptime since an instant. -/
def hoursSince (s : State) (t : Nat) : Nat := (s.uptime - t) / (3600 * secTicks)

/-- The temperature equivalent of a unit's rate. -/
def unitTempOf (s : State) (p rate : Nat) : Int :=
  (Config.paceToTemp p rate (s.fld (Reg.PWR_VCORE (p / 544)) Fld.PWR_VCORE.MEASURED_MV) (hoursSince s s.thm.anchor) : Int) - 1024

/-- A unit at 115 °C or more shuts itself down: a unit fault, fenced at once. -/
def thermalShutdown (p : Nat) (t : Int) : Act := acts [
  answerFault p [],
  eff [.count Prm.THM_UNIT_SHUTDOWNS 1, .raise 235],
  fence p,
  nvsRecord 3 (leBytes 2 p ++ leBytes 2 (unsgn 16 t)),
  eff [effUnit p fun u => { u with hot := true }]]

/-- A window of a pace monitor ends. A unit that is powered down has none. -/
def actPaceWindowEnd (p : Fin 2176) (rate : Nat) : Act := fun s =>
  if s.boot.excluded.contains (p / 544) ∨ !slotPowered s p then [.fld (Reg.THM_PACE_UNIT p) Fld.THM_PACE_UNIT.VALID 0] else
  let r := rate % 65536
  let t := unitTempOf s p r
  acts [
    eff [.reg (Reg.THM_PACE_UNIT p) (w32 (2 ^ 31 + r)), .thm fun x => { x with unitTemp := x.unitTemp.put p.val (t + 1024).toNat }],
    if degC 115 ≤ t then acts [thermalShutdown p t, swapAbort] else eff [],
    hotChecks (256 + p) t] s

def execPaceWindowEnd (p : Fin 2176) (rate : Nat) (s : State) : Host.Outcome State Fault Refusal := (actPaceWindowEnd p rate).outcome s

/-! ### Samples (R733, R736, R805, R610) -/

/-- A sampled value as a temperature. -/
def chanTemp (s : State) (ch : Nat) : Int := sgn 16 (s.fld (Reg.THM_CHAN ch) Fld.THM_CHAN.VALUE)

def chanValid (s : State) (ch : Nat) : Bool := s.flag (Reg.THM_CHAN ch) Fld.THM_CHAN.VALID

/-- Units of a cluster that are powered and have a rate. -/
def pacedUnits (s : State) (c : Nat) : List Nat :=
  ((List.range 17).map (17 * c + ·)).filter fun p => slotPowered s p && s.flag (Reg.THM_PACE_UNIT p) Fld.THM_PACE_UNIT.VALID

def paceRate (s : State) (p : Nat) : Nat := s.fld (Reg.THM_PACE_UNIT p) Fld.THM_PACE_UNIT.RATE

/-- The summary of a cluster: its highest temperature, its lowest rate and the slot of that; the centre diode of its die while no unit is
powered (R805). -/
def clusterSummary (s : State) (c : Nat) : Int × Nat × Nat :=
  match pacedUnits s c with
  | [] => (chanTemp s (152 + c / 32), 0, 0)
  | p :: ps =>
    let slow := ps.foldl (fun a q => if paceRate s q < paceRate s a then q else a) p
    let hot := (p :: ps).foldl (fun a q => max a (s.thm.unitTemp.getD q 0)) 0
    ((hot : Int) - 1024, paceRate s slow, slow % 17)

/-- A value joins its channel. -/
def chanPut (ch v : Nat) (bad : Bool) : Eff := .reg (Reg.THM_CHAN ch) (w32 (2 ^ 31 + (if bad then 2 ^ 30 else 0) + v % 65536))

/-- THM_REGION_TJ of a region: its highest summary. -/
def regionTj (r : Nat) : Act := fun s =>
  let ts := ((List.range 8).map (8 * r + ·)).filterMap fun c =>
    if chanValid s c && !s.boot.excluded.contains (c / 32) then some (chanTemp s c) else none
  match ts with
  | [] => []
  | t :: ts => [.prm (Prm.THM_REGION_TJ r) (w32 (unsgn 32 (ts.foldl (fun a b => if a < b then b else a) t)))]

/-- R745: a cluster reaches THM_CLUSTER_STOP_C. Its roles move and its slots power down at the next boundary. -/
def clusterStop (c : Nat) : Eff := .thm fun t => { t with stopped := insertNat c t.stopped }

/-- A cluster summary is sampled. -/
def sampleCluster (c : Nat) : Act := fun s =>
  if s.boot.excluded.contains (c / 32) then [.reg (Reg.THM_PACE_CLUSTER c) 0, chanPut c 0 false] else
  let x := clusterSummary s c
  let now := s.uptime
  let stop := decide (degC (s.pn Prm.THM_CLUSTER_STOP_C) ≤ x.1) && !clusterStopped s c && !s.arm.halted
  let cool := decide (x.1 < degC (s.pn Prm.THM_RELEASE_C))
  acts [
    eff [.reg (Reg.THM_PACE_CLUSTER c) (w32 (tempCode x.1 * 2 ^ 24 + x.2.2 * 2 ^ 16 + x.2.1)), chanPut c (unsgn 16 x.1) false],
    regionTj (c / 8),
    eff (if stop then [clusterStop c, .count Prm.THM_CLUSTER_STOPS 1] else []),
    eff [.thm fun t => { t with stopCool := if cool then (if t.stopCool.has c then t.stopCool else t.stopCool.put c now) else t.stopCool.del c }]] s

/-- A supply monitor is sampled (R736). -/
def sampleSupply (m v : Nat) : Act := fun s =>
  let bad := decide (v < s.pn (Prm.PWR_MON_LO m)) || decide (s.pn (Prm.PWR_MON_HI m) < v)
  let alert := bad && bitOf (s.pn Prm.THM_ALERT_CFG) 1
  acts [
    eff (chanPut (160 + m) v bad :: (if bad then [.count Prm.PWR_MON_EVENTS 1, .raise 237] else [])),
    eff (if alert then [.thm fun t => { t with alertSupply := true }] else []),
    syncAlert] s

/-- A stack's temperature is sampled: double-rate refresh above 85 °C (R610). -/
def sampleStack (m v : Nat) : Act := fun _ =>
  let t := sgn 16 v
  [chanPut (208 + m) v false, .fld (Reg.MEM_STAT m) Fld.MEM_STAT.TEMP (tempCode t), .fld (Reg.MEM_STAT m) Fld.MEM_STAT.REFRESH_2X (boolNat (decide (degC 85 < t)))]

/-- One channel is sampled, and reads v. A cluster summary is what the pace monitors say, and a reserved channel samples nothing. -/
def sampleChan (ch v : Nat) : Act :=
  if ch < 128 then sampleCluster ch
  else if ch < 160 then acts [eff [chanPut ch v false], hotChecks ch (sgn 16 v)]
  else if ch < 208 then sampleSupply (ch - 160) (v % 65536)
  else if ch < 212 then sampleStack (ch - 208) v
  else if ch < 216 then eff [chanPut ch v false]
  else eff []

/-- MEASURED_MV follows the last of the four sense points of a die. -/
def meanVcore (ch : Nat) : Act := fun s =>
  if ch < 160 ∨ 176 ≤ ch ∨ ch % 4 ≠ 3 then [] else
  let sum := ((List.range 4).map fun k => s.fld (Reg.THM_CHAN (ch - k)) Fld.THM_CHAN.VALUE).foldl (· + ·) 0
  [.fld (Reg.PWR_VCORE ((ch - 160) / 4)) Fld.PWR_VCORE.MEASURED_MV (min 1023 (sum / 4))]

/-! ### The end of an orbit (R732, R737 to R739) -/

/-- The highest temperature of some channels. -/
def hottest (s : State) (chs : List Nat) : Option Int :=
  (chs.filter (chanValid s)).foldl (fun a ch => match a with
    | none => some (chanTemp s ch)
    | some t => some (if t < chanTemp s ch then chanTemp s ch else t)) none

/-- The logic class, without the clusters of excluded dies, and the I/O and memory class. -/
def logicTj (s : State) : Option Int := hottest s ((List.range 128).filter fun c => !s.boot.excluded.contains (c / 32))
def ioTj (s : State) : Option Int := hottest s ((List.range 32).map (128 + ·) ++ (List.range 4).map (208 + ·))

/-- Tj: the higher of the two; the lowest temperature there is before anything is sampled. -/
def tjNow (s : State) : Int := match logicTj s, ioTj s with
  | some a, some b => if a < b then b else a
  | some a, none => a
  | none, some b => b
  | none, none => -1024

/-- Power of a rail in 0.1 W (R738). -/
def railPower (s : State) (q : Nat) : Nat :=
  if q < 4 then s.fld (Reg.THM_CHAN (212 + q)) Fld.THM_CHAN.VALUE * s.fld (Reg.PWR_VCORE q) Fld.PWR_VCORE.MEASURED_MV / 1000
  else Config.railModel q s.flt.bind.size % 2 ^ 32

def packagePower (s : State) : Nat := ((List.range 10).map (railPower s)).foldl (· + ·) 0

/-- The causes of R737 as the orbit finds them: bit 0 thermal, bit 1 power. -/
def causesNow (s : State) : Nat :=
  boolNat (decide (degC 100 ≤ tjNow s)) + 2 * boolNat (decide (10 ≤ s.thm.overOrbits))

/-- A new request (R737); during a restoration it starts from the level in force (R743). -/
def newRequest (cause : Nat) : Act := fun s =>
  let n := s.flt.bind.size
  let step := s.pn Prm.THM_TARGET_STEP
  let alert := bitOf (s.pn Prm.THM_ALERT_CFG) 0
  acts [
    eff [throttleFld Fld.THM_THROTTLE.REQUESTED 1, throttleFld Fld.THM_THROTTLE.ENFORCING 0, throttleFld Fld.THM_THROTTLE.CAUSE cause,
      throttleFld Fld.THM_THROTTLE.GRACE_LEFT_MS (s.pn Prm.THM_GRACE_MS), throttleFld Fld.THM_THROTTLE.TARGET (100 - step),
      .thm (fun t => { t with n0 := n, step := step, graceOver := false, restoring := false, alertThrottle := alert }),
      .count Prm.THM_REQUESTS 1, .raise 232],
    syncAlert] s

/-- The firmware's part of an orbit. -/
def throttleOrbit : Act := fun s =>
  let cause := causesNow s
  if s.arm.halted then [] else
  if throttled s ∧ !s.thm.restoring then
    let left := s.fld Reg.THM_THROTTLE Fld.THM_THROTTLE.GRACE_LEFT_MS
    [throttleFld Fld.THM_THROTTLE.CAUSE (s.fld Reg.THM_THROTTLE Fld.THM_THROTTLE.CAUSE ||| cause), throttleFld Fld.THM_THROTTLE.GRACE_LEFT_MS (left - 10), .raise 232]
  else if cause ≠ 0 then newRequest cause s
  else raiseIf (throttled s) 232

/-- Conditions that an orbit reports again: a hot tile zone (R503), steering at its limit (R525), and a follower beyond TIM_AGREE_NS
(R534). -/
def orbitReports : Act := fun s =>
  let zone := s.tlk.tiles.entries.any fun e => match e.2.telem with | some b => e.2.present && zoneHot s b | none => false
  let apart := servoMode s == 3 && (match s.tim.master with
    | some m => (match s.tim.peers.find m with | some p => decide (s.pn Prm.TIM_AGREE_NS * NS < p.theta.natAbs) | none => false)
    | none => false)
  raiseIf zone 196 ++ raiseIf (s.flag Reg.TIM_STATE Fld.TIM_STATE.AT_LIMIT) 211 ++
    (if apart then [.raise 214, .count Prm.TIM_AGREE_EVENTS 1] else [])

/-- An orbit ends: class readings, power, the request. -/
def orbitEnd : Act := acts [
  (fun s =>
    let now := s.uptime
    let tj := tjNow s
    let pw := packagePower s
    let past := decide (10 * s.pn Prm.PWR_LIMIT_W < pw)
    let n := if past then s.thm.overOrbits + 1 else 0
    let cool := decide (tj < degC (s.pn Prm.THM_RELEASE_C))
    let low := decide (pw < 10 * s.pn Prm.PWR_LIMIT_W)
    let clean := !(List.range 48).any fun m => s.flag (Reg.THM_CHAN (160 + m)) Fld.THM_CHAN.OUT_OF_RANGE
    [.fld Reg.THM_STAT Fld.THM_STAT.ORBIT ((s.fld Reg.THM_STAT Fld.THM_STAT.ORBIT + 1) % 4096),
     .fld Reg.THM_STAT Fld.THM_STAT.TJ_LOGIC (match logicTj s with | some t => tempCode t | none => 0),
     .fld Reg.THM_STAT Fld.THM_STAT.TJ_IO (match ioTj s with | some t => tempCode t | none => 0),
     .prm Prm.THM_TJ_MAX (w32 (max (s.pn Prm.THM_TJ_MAX) tj.toNat)), .prm Prm.PWR_PACKAGE_W (w32 pw),
     .thm fun t => { t with
       overOrbits := n, coolSince := if cool then some (t.coolSince.getD now) else none, powSince := if low then some (t.powSince.getD now) else none,
       alertSupply := t.alertSupply && !clean }] ++
    (List.range 10).map (fun q => .prm (Prm.PWR_RAIL_W q) (w32 (railPower s q))) ++
    (if n = 10 then [.count Prm.PWR_LIMIT_EVENTS 1] else [])),
  syncAlert, orbitReports, throttleOrbit]

/-- The housekeeping orbit samples its next channel. It runs from the end of STRAP on. -/
def actHkSample (value : Nat) : Act := fun s =>
  if s.fld Reg.HUB_BOOT Fld.HUB_BOOT.STATE < 2 then [] else
  let ch := s.thm.nextChan % 256
  acts [
    sampleChan ch value, meanVcore ch,
    eff [.thm fun t => { t with nextChan := (ch + 1) % 256 }],
    if ch = 255 then orbitEnd else eff []] s

def execHkSample (value : Nat) (s : State) : Host.Outcome State Fault Refusal := (actHkSample value).outcome s

/-! ### Host-triggered conversions (R734, R735) -/

/-- A write of GO. -/
def actThmConv (v : Word) : Act := fun s =>
  let keep := fun w => setFld (setFld w Fld.THM_CONV.OVERRUN (boolNat (s.flag Reg.THM_CONV Fld.THM_CONV.OVERRUN && getFld v Fld.THM_CONV.OVERRUN == 0)))
    Fld.THM_CONV.DONE (boolNat (s.flag Reg.THM_CONV Fld.THM_CONV.DONE && getFld v Fld.THM_CONV.DONE == 0))
  let w := setFld (keep (s.rd Reg.THM_CONV)) Fld.THM_CONV.CHANNEL (getFld v Fld.THM_CONV.CHANNEL)
  if getFld v Fld.THM_CONV.GO = 0 then []
  else if s.thm.conv.isSome then [.reg Reg.THM_CONV (setFld w Fld.THM_CONV.OVERRUN 1), .count Prm.THM_CONV_OVERRUNS 1, .raise 238]
  else
    let ch := getFld v Fld.THM_CONV.CHANNEL
    [.reg Reg.THM_CONV (setFld (setFld w Fld.THM_CONV.GO 1) Fld.THM_CONV.PENDING 1), .thm fun t => { t with conv := some ch }]

def execThmConv (v : Word) (s : State) : Host.Outcome State Fault Refusal := (actThmConv v).outcome s

/-- The conversion asked for completes. -/
def actConvDone (value : Nat) : Act := fun s =>
  match s.thm.conv with
  | none => []
  | some ch => acts [
      sampleChan ch value,
      fun s => [
        .reg Reg.THM_CONV_RESULT (w32 (2 ^ 31 + ch % 256 * 2 ^ 16 + s.fld (Reg.THM_CHAN ch) Fld.THM_CHAN.VALUE)),
        .fld Reg.THM_CONV Fld.THM_CONV.GO 0, .fld Reg.THM_CONV Fld.THM_CONV.PENDING 0, .fld Reg.THM_CONV Fld.THM_CONV.DONE 1,
        .thm fun t => { t with conv := none }]] s

def execConvDone (value : Nat) (s : State) : Host.Outcome State Fault Refusal := (actConvDone value).outcome s

/-! ### Throttling (R739 to R744) -/

/-- Units that would be bound at a shed level; what is bound where the level leaves no placement. -/
def boundAt (s : State) (level : Nat) : Nat :=
  let t := { s with regs := regPut s.regs Reg.THM_THROTTLE (setFld (s.rd Reg.THM_THROTTLE) Fld.THM_THROTTLE.SHED_LEVEL level) }
  match placement t (isStandby s && s.flt.warm.isNone && s.flt.swap.isNone) with
  | some m => m.size
  | none => s.flt.bind.size

/-- Levels from one above lo to hi are entered (R741: THM_SHED). -/
def shedTo (lo hi : Nat) : List Eff := setShed hi ++ (List.range (hi - lo)).map fun k => .count (Prm.THM_SHED (lo + k)) 1

/-- R740: the grace time has run out. -/
def actThrottleEnforce : Act := fun s =>
  if s.arm.halted ∨ !throttled s ∨ s.thm.graceOver ∨ s.thm.restoring then [] else
  let past := [throttleFld Fld.THM_THROTTLE.GRACE_LEFT_MS 0, .thm fun t => { t with graceOver := true }]
  if !overTarget s s.flt.bind.size then past else
  let cur := shedLevel s
  let lvl := (((List.range 12).filter (cur ≤ ·)).find? fun k => !overTarget s (boundAt s k)).getD 11
  past ++ [throttleFld Fld.THM_THROTTLE.ENFORCING 1, .raise 233, .count Prm.THM_ENFORCEMENTS 1] ++ shedTo cur lvl ++
    (List.range 4).map fun d => .fld (Reg.PWR_VCORE d) Fld.PWR_VCORE.THROTTLED 1

def execThrottleEnforce (s : State) : Host.Outcome State Fault Refusal := actThrottleEnforce.outcome s

def enforcing (s : State) : Bool := s.flag Reg.THM_THROTTLE Fld.THM_THROTTLE.ENFORCING

/-- The causes that hold at a check (R741). -/
def causesHold (s : State) : Nat :=
  boolNat (decide (degC 100 ≤ tjNow s)) + 2 * boolNat (decide (10 * s.pn Prm.PWR_LIMIT_W < s.pn Prm.PWR_PACKAGE_W))

/-- R741: the check of each second. -/
def actThrottleCheck : Act := fun s =>
  if s.arm.halted ∨ !enforcing s ∨ s.thm.restoring ∨ s.fld Reg.THM_THROTTLE Fld.THM_THROTTLE.CAUSE &&& causesHold s = 0 then [] else
  let cur := shedLevel s
  throttleFld Fld.THM_THROTTLE.TARGET (max 10 (s.fld Reg.THM_THROTTLE Fld.THM_THROTTLE.TARGET - s.thm.step)) :: shedTo cur (min 11 (cur + 1))

def execThrottleCheck (s : State) : Host.Outcome State Fault Refusal := actThrottleCheck.outcome s

/-- A condition has held for THM_RELEASE_S. -/
def heldLong (s : State) (since : Option Nat) : Bool :=
  match since with
  | some t => decide (t + s.pn Prm.THM_RELEASE_S * secTicks ≤ s.uptime)
  | none => false

/-- R739, R743: the release condition holds. -/
def actThrottleRelease : Act := fun s =>
  if s.arm.halted ∨ !throttled s ∨ s.thm.restoring ∨ !heldLong s s.thm.coolSince ∨ !heldLong s s.thm.powSince then [] else
  if shedLevel s = 0 then endThrottle s
  else setShed (shedLevel s - 1) ++ [.thm fun t => { t with restoring := true }]

def execThrottleRelease (s : State) : Host.Outcome State Fault Refusal := actThrottleRelease.outcome s

/-- R743: the next level is restored. -/
def actShedRestore : Act := fun s =>
  if s.arm.halted ∨ !s.thm.restoring then [] else setShed (shedLevel s - 1)

def execShedRestore (s : State) : Host.Outcome State Fault Refusal := actShedRestore.outcome s

/-! ### Clusters, pins, life, VCORE -/

/-- R745: a cooled cluster is restarted, and its roles return (R705). -/
def actClusterRestart (c : Fin 128) : Act := fun s =>
  if s.arm.halted ∨ !clusterStopped s c ∨ !heldLong s (s.thm.stopCool.find c) then [] else
  acts [
    eff (.thm (fun t => { t with stopped := t.stopped.erase c.val }) ::
      ((liveSlots s c).filter fun k => !slotSpare s (17 * c + k)).map fun k => unitFld (17 * c + k) Fld.FLT_UNIT.POWERED 1),
    rehome] s

def execClusterRestart (c : Fin 128) (s : State) : Host.Outcome State Fault Refusal := (actClusterRestart c).outcome s

/-- R749, R515: a fault on a single-ended output, or its absence for 1 ms. -/
def actPinFault (n : Fin 68) (present : Bool) : Act := fun s =>
  let f : Fld := ⟨n % 32, n % 32⟩
  let off := Reg.THM_PIN_FAULT (n / 32)
  if present = s.flag off f then []
  else if !present then [.fld off f 0]
  else [.fld off f 1, .count Prm.THM_PIN_FAULTS 1, .raise 239] ++
    (if 16 ≤ n.val ∧ n.val < 64 then
      [.fld (Reg.DDP_PORT_STAT (n % 16)) Fld.DDP_PORT_STAT.PIN_FAULT 1, .fld (Reg.DDP_PORT_STAT (n % 16)) Fld.DDP_PORT_STAT.RUNNING 0, .raise 201]
     else [])

def execPinFault (n : Fin 68) (present : Bool) (s : State) : Host.Outcome State Fault Refusal := (actPinFault n present).outcome s

/-- THM_TJ_LIFE_AVG and THM_LIFE_HOURS show what the NVS holds. -/
def showLife : Act := fun s =>
  if s.nvs.lifeHours = 0 then [.prm Prm.THM_TJ_LIFE_AVG 0, .prm Prm.THM_LIFE_HOURS 0] else
  [.prm Prm.THM_TJ_LIFE_AVG (w32 (unsgn 32 ((s.nvs.lifeSum / s.nvs.lifeHours : Nat) - 1024))), .prm Prm.THM_LIFE_HOURS (w32 s.nvs.lifeHours)]

/-- R72, R750: an hour has passed. -/
def actHourlyReanchor : Act := fun s =>
  let now := s.uptime
  let tj := (tjNow s + 1024).toNat
  acts [
    eff (if s.arm.halted then [] else [.thm fun t => { t with anchor := now }]),
    eff [.nvs fun x => { x with lifeSum := x.lifeSum + tj, lifeHours := x.lifeHours + 1 }],
    showLife] s

def execHourlyReanchor (s : State) : Host.Outcome State Fault Refusal := actHourlyReanchor.outcome s

/-- Firmware takes a step of a die from cur to mV: at most 10 mV, from 0.60 V to 0.90 V, below 0.72 V only in steering mode (R81, R11);
toward VCORE_FIXED_MV in fixed mode; not upward while a throttle holds VCORE (R82, DEDUCED). -/
def vcoreMay (s : State) (die cur mv : Nat) : Bool :=
  let steer := s.pn Prm.VCORE_MODE == 1
  let fixed := s.pn Prm.VCORE_FIXED_MV
  decide ((if steer || cur < mv then 600 else 720) ≤ mv ∧ mv ≤ 900 ∧ mv ≤ cur + 10 ∧ cur ≤ mv + 10) &&
  (steer || decide (min cur fixed ≤ mv ∧ mv ≤ max cur fixed)) &&
  (!s.flag (Reg.PWR_VCORE die) Fld.PWR_VCORE.THROTTLED || decide (mv ≤ cur))

/-- R81, R83, R89: one step; readback: what READ_VOUT answers in mV, none where the regulator does not answer or reports a fault. -/
def actVcoreStep (die : Fin 4) (mv : Nat) (readback : Option Nat) : Act := fun s =>
  let cur := s.fld (Reg.PWR_VCORE die) Fld.PWR_VCORE.COMMANDED_MV
  if s.arm.halted ∨ s.thm.steerOff.contains die.val ∨ !vcoreMay s die cur mv then [] else
  .emit (.pmbus die mv) ::
  (match readback with
   | some v => [.fld (Reg.PWR_VCORE die) Fld.PWR_VCORE.COMMANDED_MV (min 1023 v), .thm fun t => { t with vfail := t.vfail.del die.val }]
   | none =>
     let n := s.thm.vfail.getD die 0 + 1
     if n < 3 then [.thm fun t => { t with vfail := t.vfail.put die.val n }]
     else [.fld (Reg.PWR_VCORE die) Fld.PWR_VCORE.STEER_FAULT 1, .raise 236, .count Prm.THM_STEER_FAULTS 1,
       .thm fun t => { t with vfail := t.vfail.del die.val, steerOff := insertNat die.val t.steerOff }])

def execVcoreStep (die : Fin 4) (mv : Nat) (readback : Option Nat) (s : State) : Host.Outcome State Fault Refusal :=
  (actVcoreStep die mv readback).outcome s

end Sys2Proof.Machine
end

