-- ==== Sys2Proof/Machine/Boot.lean ====
section
/-! DEFINITION. Bring-up, reset scopes and boot (chapter 23; R38, R39, R334, R599, R611, R639, R643, R661, R717, R799, R801, R802): rows SYS_PWROK
to BOOT_TIME_WAIT_EXPIRY, BUS_MASTER_ENABLE_CLEAR and VF_ENABLE_CLEAR. -/
namespace Sys2Proof.Machine

/-- The package has power and is not held in a package reset. -/
def awake (s : State) : Bool := s.pins.sysPwrok && s.pins.pkgResetN

/-! ### Power-on and package reset (R753, R767 to R769) -/

/-- SYS_PWROK: low is a power-on reset; its rise starts STRAP. -/
def actSysPwrok (level : Bool) : Act := fun s =>
  if level = s.pins.sysPwrok then []
  else if level then
    let now := s.uptime
    [.pins fun p => { p with sysPwrok := true }, .boot fun b => { b with riseAt := now }, bootFld Fld.HUB_BOOT.STATE 1]
  else [.powerOn, .pins fun p => { p with sysPwrok := false }]

def execSysPwrok (level : Bool) (s : State) : Host.Outcome State Fault Refusal := (actSysPwrok level).outcome s

/-- A package reset from a cause as LAST_RESET names it; boot restarts at BOOT. In OFF and STRAP there is nothing to reset (DEDUCED,
notes/assumptions/83). -/
def pkgReset (cause : Nat) : Act := fun s =>
  if !s.pins.sysPwrok ∨ bootState s < 2 then [] else
  acts [nvsRecord 2 (leBytes 1 cause), eff [.packageReset], setBoot 2, eff [bootFld Fld.HUB_BOOT.LAST_RESET cause]] s

def actPkgResetN (level : Bool) : Act := fun s =>
  if level = s.pins.pkgResetN then [] else
  acts [eff [.pins fun p => { p with pkgResetN := level }], if level then eff [] else pkgReset 1] s

def execPkgResetN (level : Bool) (s : State) : Host.Outcome State Fault Refusal := (actPkgResetN level).outcome s

/-- A write of HUB_RESET counts: keyed, and not locked. -/
def resetKeyed (s : State) (v : Word) : Bool :=
  getFld v Fld.HUB_RESET.KEY == 0x5A5A && !s.flag Reg.HUB_LOCK Fld.HUB_LOCK.LOCK

def actHubPkgReset (v : Word) : Act := fun s =>
  if resetKeyed s v && getFld v Fld.HUB_RESET.PKG_RESET == 1 then pkgReset 2 s else []

def execHubPkgReset (v : Word) (s : State) : Host.Outcome State Fault Refusal := (actHubPkgReset v).outcome s

/-- R801: the Armature reboots. What it was doing is settled when service resumes; a package reset in the same write wins (R769). -/
def actArmReboot (v : Word) : Act := fun s =>
  if !resetKeyed s v ∨ getFld v Fld.HUB_RESET.ARM_REBOOT = 0 ∨ getFld v Fld.HUB_RESET.PKG_RESET = 1 ∨ bootState s < 2 then [] else
  mailboxesWait ++ [.arm fun a => { a with halted := true, cause := 4, dead := false }, .flt fun x => { x with recoveries := [] },
    plinthFld Fld.FLT_PLINTH.GAVE_UP 0, plinthFld Fld.FLT_PLINTH.RECOVERING 0, plinthFld Fld.FLT_PLINTH.RECENT 0]

def execArmReboot (v : Word) (s : State) : Host.Outcome State Fault Refusal := (actArmReboot v).outcome s

/-! ### Host and function-level reset (R334, R639, R767, R799, R802) -/

/-- R799: tickets of a function at a reset: what is done is freed, what is past its point of no return stays, the rest ends. -/
def settleTickets (f : Nat) : Act := fun s =>
  acts [
    actsFor (openWork s f) (dropWork f),
    eff [effMbx f fun b => { b with tickets := b.tickets.filter fun t => !t.done && t.pnr }],
    syncTickets f] s

/-- The part of a function's host channel: it sends nothing more to host memory, and its registers return to reset (R639). -/
def resetChanPart (s : State) (f : Nat) : Part := ⟨if dmaOn s f then 0 else 2, resetChan f⟩

/-- The abort of target 15 that a reset starts, or that waits for the abort in progress (R802). parts: what it stops now. -/
def resetAbort (f : Nat) (parts : List Part) : Act := fun s =>
  match s.arm.aborts.find f with
  | some a => acts [
      eff [.arm (fun x => { x with aborts := x.aborts.put f { a with queued := some (15, 0), reset := true } }), .fld (Reg.ABT_CTRL f) Fld.ABT_CTRL.QUEUED 1],
      resetChan f] s
  | none => acts [
      eff [.fld (Reg.ABT_CTRL f) Fld.ABT_CTRL.BUSY 1, .fld (Reg.ABT_CTRL f) Fld.ABT_CTRL.GO 1,
        .arm fun a => { a with aborts := a.aborts.put f ⟨joinResult parts, none, true⟩ }],
      acts (parts.map (·.act))] s

/-- The work of a function beside its mailbox and its channel. -/
def otherParts (s : State) (f : Nat) : List Part := (workParts s f).drop 1

/-- The command of a mailbox alone; its tickets are settled apart. -/
def commandPart (s : State) (f : Nat) : Part :=
  match metCommand s f with
  | none => idlePart
  | some _ => ⟨0, abortMailbox s f |>.act⟩

/-- A function-level reset of a function, or the loss of its virtual function (R334). -/
def functionReset (f : Nat) : Act := acts [
  settleTickets f,
  (fun s => resetAbort f ([commandPart s f, resetChanPart s f] ++ otherParts s f) s),
  eff [effMbx f (fun b => { b with anySeq := true }), endSession f, .boot fun b => { b with masterOff := b.masterOff.erase f }]]

def actFunctionLevelReset (f : Fn) : Act := functionReset f

def execFunctionLevelReset (f : Fn) (s : State) : Host.Outcome State Fault Refusal := (actFunctionLevelReset f).outcome s

/-- VF Enable is cleared: every virtual function is reset. -/
def actVfEnableClear : Act := actsFor ((List.range 63).map (· + 1)) functionReset

def execVfEnableClear (s : State) : Host.Outcome State Fault Refusal := actVfEnableClear.outcome s

/-- R639. -/
def actBusMasterEnableClear (f : Fn) : Act := acts [busMasterStop f, eff [.boot fun b => { b with masterOff := insertNat f b.masterOff }]]

def execBusMasterEnableClear (f : Fn) (s : State) : Host.Outcome State Fault Refusal := (actBusMasterEnableClear f).outcome s

/-- The mailbox and the registers of a function return to reset; a ticket that stays open stays. -/
def clearFunction (f : Nat) : Act := fun s =>
  let state := if s.arm.halted && !s.arm.dead || !s.arm.serving && !s.arm.dead then 3 else 0
  let mine : Bool := match s.arm.inService with | some c => c.f == f && c.remote.isNone | none => false
  let old := s.mbx f
  acts [
    eff ([.reg (Reg.MBX_STATE f) (setFld 0 Fld.MBX_STATE.STATE state), .page (pageBase f) (List.replicate 0x1FF0 0), .reg (Reg.EVT_LOCAL f) 0,
      effMbx f (fun _ => { Mbx.init with tickets := old.tickets, nextTicket := old.nextTicket })] ++
      (if mine then [.arm (fun a => { a with inService := none }), .nvs fun n => { n with reply := none }] else []) ++
      (s.pairHeld.keys.filter fun k => k / 2 ^ 26 == f).map (fun k => .held k none) ++ (s.pairLatch.keys.filter fun k => k / 2 ^ 26 == f).map (fun k => .latch k 0) ++
      (List.range 16).map fun k => .reg (0xC0000 + 0x40 * f + 4 * k) (regReset (0xC0000 + 0x40 * f + 4 * k))),
    syncTickets f] s

/-- A host reset of one function. -/
def hostResetOf (f : Nat) : Act := acts [
  settleTickets f,
  (fun s => resetAbort f ((if (metCommand s f).isSome then [⟨0, fun _ => []⟩] else []) ++ [resetChanPart s f] ++ otherParts s f) s),
  clearFunction f]

/-- HOST_PERST_N: low resets the endpoint and every function. -/
def actHostPerstN (level : Bool) : Act := fun s =>
  if level = s.pins.hostPerstN then [] else
  acts [
    eff [.pins fun p => { p with hostPerstN := level }],
    if level then eff [] else acts [actsFor (List.range 64) hostResetOf, eff [.boot fun b => { b with masterOff := [] }]]] s

def execHostPerstN (level : Bool) (s : State) : Host.Outcome State Fault Refusal := (actHostPerstN level).outcome s

/-! ### STRAP and BOOT (R755, R758, R760, R763) -/

/-- Straps are sampled and the clocks lock. -/
def actStrapEnd : Act := fun s =>
  if !s.pins.sysPwrok ∨ bootState s ≠ 1 ∨ s.pins.strapTest then [] else
  acts [
    eff [.fld Reg.HUB_TOPOLOGY Fld.HUB_TOPOLOGY.PKG_ID (s.pins.strapPkg % 16), bootFld Fld.HUB_BOOT.LAST_RESET 0, .thm fun t => { t with nextChan := 0 }],
    setBoot 2] s

def execStrapEnd (s : State) : Host.Outcome State Fault Refusal := actStrapEnd.outcome s

/-- R763: the bank selected. -/
def chooseBank (n : Nvs) : Option Bool :=
  if n.a.valid && n.b.valid then
    (if 0 < sgn 32 (n.a.seq + 2 ^ 32 - n.b.seq % 2 ^ 32) then some false else some true)
  else if n.a.valid then some false else if n.b.valid then some true else none

/-- The bank is selected and shown. -/
def selectBank : Act := acts [
  eff [.nvs fun n => { n with sel := chooseBank n }],
  fun s => [
    bootFld Fld.HUB_BOOT.NVS_BANK (match s.nvs.sel with | none => 3 | some b => boolNat b),
    .fld Reg.NVS_STAT Fld.NVS_STAT.READY 1, .fld Reg.NVS_STAT Fld.NVS_STAT.A_VALID (boolNat s.nvs.a.valid), .fld Reg.NVS_STAT Fld.NVS_STAT.B_VALID (boolNat s.nvs.b.valid),
    .reg Reg.NVS_SEQ (w32 (selBank s).seq), .fld Reg.NVS_RING_HEAD Fld.NVS_RING_HEAD.NEXT (s.nvs.nextRec % 4096)]]

/-- What is restored before mailbox service starts (R760). -/
def restoreEarly : Act := acts [
  (fun s => ((selBank s).prms.entries.filter fun e => bootPrm e.1).map fun e => .prm e.1 e.2),
  (fun s => ((selBank s).objs.entries.filter fun e => [K_SCOPE, K_QUOTA].contains (e.1 / 2 ^ 20)).map fun e => .obj (e.1 / 2 ^ 20) (e.1 % 2 ^ 20) (some e.2)),
  syncLanes, syncTlk]

/-- Dies held in reset are out of service (R38, R39, R599): their units, their stacks, and a sentinel on them. -/
def excludeDies (out : List Nat) : Act := acts [
  eff [.boot fun b => { b with excluded := out }],
  fun s =>
    let three := boolNat (!out.isEmpty)
    let base := if out.isEmpty then 80 * 2 ^ 30 else 56 * 2 ^ 30
    let used := (List.range 4).filter fun d => !out.contains d
    [.fld Reg.HUB_TOPOLOGY Fld.HUB_TOPOLOGY.PIXEL_DIES ((used.map (2 ^ ·)).foldl (· + ·) 0),
     plinthFld Fld.FLT_PLINTH.P0_ALIVE (boolNat (!out.contains 0)), plinthFld Fld.FLT_PLINTH.P2_ALIVE (boolNat (!out.contains 2)),
     plinthFld Fld.FLT_PLINTH.PRIMARY (boolNat (out.contains 0 || s.flag Reg.FLT_PLINTH Fld.FLT_PLINTH.PRIMARY)),
     .prm Prm.MEM_DEV_BASE_LO (w32 base), .prm Prm.MEM_DEV_BASE_HI (w32 (base / 2 ^ 32)),
     .prm Prm.MEM_MAP_STATE (w32 (three + 16 * (used.map (2 ^ ·)).foldl (· + ·) 0))] ++
    (List.range 4).map (fun m => .fld (Reg.MEM_STAT m) Fld.MEM_STAT.THREE_STACK three) ++ raiseIf (!out.isEmpty) 240,
  syncPool]

/-- No sentinel is left (R39). -/
def noSentinel (out : List Nat) : Bool := out.contains 0 && out.contains 2

/-- The image that boots, true for slot B, and how many fail before it: the preferred one first (R661). -/
def chooseImage (s : State) (imgA imgB : Bool) : Option Bool × Nat :=
  let first := bitOf (s.pn Prm.SEC_FW_PREFER) 0
  let ok := fun (b : Bool) => (if b then imgB else imgA) && accepts s (imageIn s b)
  if ok first then (some first, 0) else if ok !first then (some !first, 1) else (none, 2)

/-- SEC_STATE and the parameters of the island after BOOT (R641 to R643). -/
def islandShows : Act := acts [
  (fun s => [.fld Reg.SEC_STATE Fld.SEC_STATE.CO_PROVISIONED (boolNat s.otp.coKey.isSome), .fld Reg.SEC_STATE Fld.SEC_STATE.ZEROISED (boolNat s.nvs.idKey.isNone),
     .fld Reg.SEC_STATE Fld.SEC_STATE.DEBUG (boolNat s.boot.debug)] ++
    hashPrms (Prm.SEC_CO_KEY_HASH 0) (match s.otp.coKey with | some k => Config.sha384 k | none => []) ++
    hashPrms (Prm.SEC_ID_KEY_HASH 0) (match s.nvs.idKey with | some k => Config.sha384 (Config.publicKey (idKeyNo k)) | none => [])),
  syncImages, syncApproved]

/-- Mailbox service starts, on an image (R755, R757). -/
def startService (slotB : Bool) : Act := acts [
  (fun s => [bootFld Fld.HUB_BOOT.IMG_SLOT (boolNat slotB), .fld Reg.SEC_STATE Fld.SEC_STATE.FW_SLOT (boolNat slotB),
    .prm Prm.FW_RELEASE (w32 (imageIn s slotB).release), .arm fun a => { a with slotB := slotB, serving := true, dead := false }]),
  islandShows, mailboxesResume]

/-- The device stays in BOOT (R758). -/
def stopInBoot : Act := acts [islandShows, armatureDead]

/-- BOOT ends. dies: bit n = 1 where Pn passes its self-test; failedTest: the island test that failed, 0 none; imgA, imgB: the signature
and digest of an image verify. Debug mode lasts over a power-on reset only with DEBUG_REQ (R643). -/
def actBootEnd (dies : Fin 16) (failedTest : Nat) (imgA imgB : Bool) : Act := fun s =>
  if !awake s ∨ bootState s ≠ 2 ∨ s.arm.dead ∨ s.arm.halted then [] else
  let out := (List.range 4).filter fun d => !bitOf dies.val d
  let cause := s.fld Reg.HUB_BOOT Fld.HUB_BOOT.LAST_RESET
  acts [
    selectBank, restoreEarly,
    (fun s => [.boot fun b => { b with debug := b.debug && (cause != 0 || bitOf (s.pn Prm.SEC_CTRL) 0) }]),
    selftestDone (failedTest % 65536), excludeDies out, showLife,
    eff [.nvs fun n => { n with bootCount := n.bootCount + 1 }],
    nvsRecord 1 (leBytes 1 cause),
    fun s =>
      let im := chooseImage s imgA imgB
      acts [
        eff (List.replicate im.2 verifyFailed).flatten,
        match im.1 with
        | none => stopInBoot
        | some b => if noSentinel out then stopInBoot else acts [startService b, setBoot 3]] s] s

def execBootEnd (dies : Fin 16) (failedTest : Nat) (imgA imgB : Bool) (s : State) : Host.Outcome State Fault Refusal :=
  (actBootEnd dies failedTest imgA imgB).outcome s

/-! ### TRAIN, DISCOVER and COMMAND-MODE -/

/-- TRAIN ends. lost: dies whose memory failed to train three times, which counts as a failed self-test (R611). -/
def actTrainEnd (lost : Fin 16) : Act := fun s =>
  if !awake s ∨ bootState s ≠ 3 then [] else
  let out := (List.range 4).filter fun d => s.boot.excluded.contains d || bitOf lost.val d
  acts [
    if out = s.boot.excluded then eff [] else excludeDies out,
    eff ((List.range 4).map fun m => .fld (Reg.MEM_STAT m) Fld.MEM_STAT.READY (boolNat (!out.contains m))),
    if noSentinel out then armatureDead else setBoot 4] s

def execTrainEnd (lost : Fin 16) (s : State) : Host.Outcome State Fault Refusal := (actTrainEnd lost).outcome s

/-- R717: the roles of a pair at the end of DISCOVER. partner: the PREFER of a partner that names this package in return; none where
none answers, and this package drives the tiles alone. -/
def pairRoles (partner : Option Bool) : Act := fun s =>
  let cfg := s.pn Prm.FLT_PAIR_CFG
  let peer := bitsOf cfg 19 16
  let mine := bitOf cfg 0
  if !bitOf cfg 31 then [.reg Reg.FLT_PAIR_STAT 0] else
  let active := match partner with
    | none => true
    | some p => if p = mine then decide (ownPkg s < peer) else mine
  [.reg Reg.FLT_PAIR_STAT 0, pairFld Fld.FLT_PAIR_STAT.EN 1, pairFld Fld.FLT_PAIR_STAT.ACTIVE (boolNat active),
   pairFld Fld.FLT_PAIR_STAT.PARTNER_PKG peer, pairFld Fld.FLT_PAIR_STAT.PROTECTED (boolNat (partner.isSome && partnerReached s))]

/-- The images that the selected bank lists, as the store holds them; none where one is missing or fails its CRC (R760, R762). -/
def storedImages (s : State) : Option (List Staged) :=
  if s.nvs.sel.isNone ∨ !storeReady s then none else
  ((selBank s).objs.entries.filter fun e => imageKinds.contains (e.1 / 2 ^ 20)).mapM fun e =>
    match s.cst.disk.images.find e.1 with
    | some b => if leBytes 4 b.length ++ leBytes 4 (crc32 b) = e.2 then some (.obj (e.1 / 2 ^ 20) (e.1 % 2 ^ 20) (some b)) else none
    | none => none

/-- Both patina banks and the baseline copy come from the baseline; every driven tile is sent its drive settings (R760, R761). -/
def restorePatina : Act := fun s =>
  match savedBaseline s with
  | none => []
  | some (gen, bs) =>
    let recs := baselineOf s bs
    let bank : PatBank → PatBank := fun b => { b with recs := recs, drive := s.cst.disk.baseDrive, tile := s.cst.disk.baseTile }
    acts [
      eff [effBank true bank, effBank false bank, .pat (fun p => { p with baseline := recs, gen := gen }),
        .prm Prm.PAT_GEN_LO (w32 gen), .prm Prm.PAT_GEN_HI (w32 (gen / 2 ^ 32))],
      patCounts,
      fun s => actsFor ((tiles s).filter fun t => tlEn (mqTile s.mqt t)) (sendDrive s.activeBank) s] s

/-- DISCOVER ends, and COMMAND-MODE begins with the restore of the images. -/
def actDiscoverEnd (partner : Option Bool) : Act := fun s =>
  if !awake s ∨ bootState s ≠ 4 then [] else
  acts [
    eff (if s.fld Reg.HUB_TOPOLOGY Fld.HUB_TOPOLOGY.PKG_COUNT = 0 then [.fld Reg.HUB_TOPOLOGY Fld.HUB_TOPOLOGY.PKG_COUNT 1] else []),
    electMaster, pairRoles partner, setBoot 5,
    (fun s => match storedImages s with
      | none => [bootFld Fld.HUB_BOOT.RESTORE_FAIL 1]
      | some items => acts [applyItems 0 items, applyLib s items, restorePatina] s),
    settleSets, syncWait] s

def execDiscoverEnd (partner : Option Bool) (s : State) : Host.Outcome State Fault Refusal := (actDiscoverEnd partner).outcome s

/-- The push of a group's boot look to a tile (R402, R761): the whole tile in one colour. -/
def lookPush (s : State) (t : Nat) : Bytes :=
  let e := mqTile s.mqt t
  let rg := s.pn (Prm.BOOT_LOOK_RG (tlGroup e))
  leBytes 2 t ++ [2, 0] ++ leBytes 4 0 ++ leBytes 2 (tlCols e) ++ leBytes 2 (tlRows e) ++ leBytes 4 0 ++
    leBytes 2 (rg / 65536) ++ leBytes 2 rg ++ leBytes 2 (s.pn (Prm.BOOT_LOOK_B (tlGroup e))) ++ leBytes 10 0

/-- A group's latch as soon as possible. -/
def latchSoon (g : Nat) : Act := fun s =>
  [.draw, addLatch g ⟨0, none, s.vis + s.pn (Prm.GRP_LATCH_MARGIN_NS g) * NS + s.free.toNat, false, true, groupTiles s g⟩]

/-- R761: the boot look is pushed to every enabled tile, and every group is latched. -/
def actFirstImageLatched : Act := fun s =>
  if bootState s ≠ 5 ∨ s.boot.firstImage then [] else
  acts [
    actsFor ((tiles s).filter fun t => tlEn (mqTile s.mqt t)) (fun t => fun s => pushRows (lookPush s t) s),
    actsFor (List.range 4) latchSoon,
    eff [.boot fun b => { b with firstImage := true }], syncWait] s

def execFirstImageLatched (s : State) : Host.Outcome State Fault Refusal := actFirstImageLatched.outcome s

/-- BOOT_TIME_WAIT_S has passed since COMMAND-MODE began. -/
def actBootTimeWaitExpiry : Act := fun s =>
  if bootState s ≠ 5 then [] else acts [eff [.boot fun b => { b with timeWaited := true }], syncWait] s

def execBootTimeWaitExpiry (s : State) : Host.Outcome State Fault Refusal := actBootTimeWaitExpiry.outcome s

end Sys2Proof.Machine
end

