-- ==== Sys2Proof/Machine/PrmSet.lean ====
section
/-! DEFINITION. Parameter writes (row PRM_SET; R109, R142, R144, R146, R796, R797). -/
namespace Sys2Proof.Machine

/-! ### The listed range of a parameter -/

/-- The bits a list of fields covers. -/
def fldBits (fs : List PFld) : Nat := fs.foldl (fun m f => m ||| (2 ^ (f.hi + 1) - 2 ^ f.lo)) 0

def fldOk (v : Nat) (f : PFld) : Bool := decide (f.min ≤ bitsOf v f.hi f.lo) && decide (bitsOf v f.hi f.lo ≤ f.max)

/-- The half word from bit lo up is finite as binary16. -/
def finiteAt (v lo : Nat) : Bool := bitsOf v (lo + 14) (lo + 10) != 31

/-- Bits that are reserved in the parameter are 0, and its fields lie within their ranges (R142, R796, R797). -/
def rangeHolds (r : PRange) (v : Nat) : Bool :=
  match r with
  | .ro => false
  | .flds en fs => v &&& fldBits fs == v && ((en && !bitOf v 31) || fs.all (fldOk v))
  | .signed lo hi => decide (lo ≤ sgn 32 v) && decide (sgn 32 v ≤ hi)
  | .fin16 los fs =>
    v &&& (los.foldl (fun m l => m ||| (0xFFFF * 2 ^ l)) (fldBits fs)) == v && los.all (finiteAt v) && fs.all (fldOk v)

/-- A signed byte of a word lies within bounds. -/
def byteWithin (v lo : Nat) (a b : Int) : Bool := decide (a ≤ sgn 8 (v / 2 ^ lo)) && decide (sgn 8 (v / 2 ^ lo) ≤ b)

/-- A power of two among the values of a small range. -/
def powerOfTwo (v : Nat) : Bool := (List.range 32).any fun i => v == 2 ^ i

/-- A PRN_REMOTE value against the other entries (R365). -/
def remoteOk (s : State) (look : Nat → Nat) (n v : Nat) : Bool :=
  !bitOf v 31 || (bitsOf v 27 24 != s.fld Reg.HUB_TOPOLOGY Fld.HUB_TOPOLOGY.PKG_ID &&
    (List.range 32).all fun m => m == n || !bitOf (look (Prm.PRN_REMOTE m)) 31 ||
      bitsOf (look (Prm.PRN_REMOTE m)) 27 24 != bitsOf v 27 24 || bitsOf (look (Prm.PRN_REMOTE m)) 21 16 != bitsOf v 21 16)

/-- What the tables state of a value beyond its fields: multiples, powers of two, gaps after 0, signed bytes and values that depend on
others. look answers the other parameters as they will stand. -/
def extraHolds (s : State) (look : Nat → Nat) (id v : Nat) : Bool :=
  if 0x218 ≤ id ∧ id < 0x220 then v % 8 == 0
  else if 0x248 ≤ id ∧ id < 0x250 then v == 0 || decide (10 ≤ v)
  else if 0x300 ≤ id ∧ id < 0x400 ∧ id % 32 = 20 then v % 4096 == 0
  else if 0x460 ≤ id ∧ id < 0x500 ∧ (id - 0x460) % 10 = 8 then v == 0 || (decide (256 ≤ v) && v % 256 == 0)
  else if 0x690 ≤ id ∧ id < 0x6B0 then remoteOk s look (id - 0x690) v
  else if 0x780 ≤ id ∧ id < 0x7B0 ∧ ((id - 0x780) % 12 = 1 ∨ (id - 0x780) % 12 = 2) then
    decide (v % 2 ^ 16 ≤ 480 * (v / 2 ^ 16)) && decide (v / 2 ^ 16 ≤ v % 2 ^ 16)
  else if 0x840 ≤ id ∧ id < 0x880 ∧ id % 8 = 1 then decide (v ≤ look (id - 1))
  else if id = Prm.LIB_MASK_BLACK then decide (v < look Prm.LIB_MASK_FULL)
  else if id = Prm.LIB_MASK_FULL then decide (look Prm.LIB_MASK_BLACK < v)
  else if 0xA00 ≤ id ∧ id < 0xB00 ∧ id % 8 = 4 then decide (v < look (id - 1))
  else if id = Prm.TIM_PTP_INTERVALS then byteWithin v 16 (-3) 1 && byteWithin v 8 (-7) (-1) && byteWithin v 0 (-7) 0
  else if id = Prm.TIM_UTC_OFFSET then s.pn Prm.TIM_SERVO % 4 != 1 && s.pn Prm.TIM_SERVO % 4 != 3
  else if 0xC20 ≤ id ∧ id < 0xC60 ∧ id % 16 = 0 then !(bitOf v 1 && bitOf v 2)
  else if 0xD00 ≤ id ∧ id < 0xE00 ∧ id % 32 = 4 then powerOfTwo v
  else if 0xF00 ≤ id ∧ id < 0xF16 then masksOk fun i => look (Prm.MEM_MASK_LO i) + 2 ^ 32 * look (Prm.MEM_MASK_HI i)
  else if id = Prm.MEM_SR_IDLE_US then v == 0 || decide (10 ≤ v)
  else if 0x12A0 ≤ id ∧ id < 0x12E0 ∧ id % 16 = 0 then !bitOf v 31 || powerOfTwo (v % 16)
  else if id = Prm.FLT_PAIR_SWAP_S then v == 0 || decide (3600 ≤ v)
  else if id = Prm.FLT_PAIR_REVERT_S then v == 0 || decide (10 ≤ v)
  else if 0x1420 ≤ id ∧ id < 0x1480 ∧ id % 2 = 1 then decide (look (id - 1) < v)
  else true

/-! ### Rights -/

/-- Parameters whose write needs F0 in a CO session (R668). -/
def coPrm (id : Nat) : Bool := (0x1180 ≤ id && id < 0x11C1) || id == Prm.SEC_SELFTEST_PERIOD_H || id == Prm.SEC_FW_PREFER

/-- The command may write a parameter (R143, R144, R668). Writes to the clip-store range need F0: R594 stands nearer to its parameters
than the table of R143 (notes/assumptions/84). -/
def mayWrite (c : Svc) (s : State) (id : Nat) : Bool :=
  if c.isF0 then !coPrm id || roleOf s 0 == 1
  else id / 256 != 0x0E && (match prmRight id with | some r => c.holds s r | none => false)

/-! ### Checks -/

/-- Entry i of the command: ID, reserved field, value. -/
def setId (c : Svc) (i : Nat) : Nat := c.n (4 + 8 * i) 2
def setRsv (c : Svc) (i : Nat) : Nat := c.n (6 + 8 * i) 2
def setVal (c : Svc) (i : Nat) : Nat := c.n (8 + 8 * i) 4

/-- A parameter as the command, the caller's staged set and the stored values will leave it. -/
def setLook (c : Svc) (s : State) (n : Nat) (id : Nat) : Nat :=
  match (List.range n).reverse.find? fun i => setId c i == id with
  | some i => setVal c i
  | none => match stagedPrm (s.stagedOf c.f) id with
    | some v => v.toNat
    | none => match prmRow id with
      | some (r, _) => if r.mark == .boot then (bootValue s id).toNat else s.pn id
      | none => 0

/-- The status of one entry by its own check. -/
def setStatus (c : Svc) (s : State) (n i : Nat) : Nat :=
  let id := setId c i
  if inRanges id ∧ !mayWrite c s id then ST_DENIED
  else match prmRow id with
    | none => ST_BAD_PARAM
    | some (r, _) =>
      if r.mark == .ro || setRsv c i != 0 || !rangeHolds r.range (setVal c i) || !extraHolds s (setLook c s n) id (setVal c i) then ST_BAD_PARAM
      else ST_OK

/-- The parameter is marked Next boot, in whole or for one field. -/
def bootMarked (id : Nat) : Bool := match prmRow id with | some (r, _) => r.mark == .boot | none => false

/-! ### Writes -/

/-- A write that the standby of a pair is told of (R719). -/
def tellPair (id : Nat) (v : Word) : Act := fun s => if mirrors s then mirrorOut 254 (itemBytes (.prm id v)) s else []

/-- A rights mask is written (R330, R331). -/
def writeRights (f : Nat) (v : Word) : Act := fun s =>
  let old := s.rights f
  let id := Prm.PRN_RIGHTS_1 (f - 1)
  acts [eff (.prm id v :: raiseIf (old != v.toNat) 94), newRights f old v.toNat, tellPair id v] s

/-- The grant of a remote principal is written: it is the principal 64 + n in the block. -/
def writeRemote (n : Nat) (v : Word) : Act := fun s =>
  let old := s.rights (64 + n)
  let who := s.pn (Prm.PRN_REMOTE n) / 2 ^ 16
  let new := if v.getLsbD 31 then v.toNat % 64 else 0
  let kept := if v.toNat / 2 ^ 16 = who then new else 0
  acts [eff (.prm (Prm.PRN_REMOTE n) v :: raiseIf (old != new) 94), newRights (64 + n) old kept, tellPair (Prm.PRN_REMOTE n) v] s

/-- XPL_CFG: MAX_WIDTH is in force at once, and a lower one starts a width change (R688, R692); EN waits for the next boot. -/
def writeXplCfg (x : Nat) (v : Word) : Act := fun s =>
  let id := Prm.XPL_CFG x
  let old := s.pn id % 16
  let new := v.toNat % 16
  if !powerOfTwo new then [] else
  acts [eff [.prm id (w32 (putBits (s.pn id) 3 0 new))], if new < old then xplRequest x false else eff []] s

/-- What a write of a parameter marked Next boot puts in force at once: fields of another mark (R146). -/
def bootNow (id : Nat) (v : Word) : Act :=
  if id = Prm.SEC_CTRL then fun s => [.prm id (setFld v ⟨0, 0⟩ (s.pn id % 2))]
  else if 0x12A0 ≤ id ∧ id < 0x12E0 ∧ id % 16 = 0 then writeXplCfg ((id - 0x12A0) / 16) v
  else eff []

/-- An immediate write, with what follows from the value at once. -/
def writeNow (id : Nat) (v : Word) : Act :=
  if 0x6B1 ≤ id ∧ id < 0x6F0 then writeRights (id - 0x6B0) v
  else if 0x690 ≤ id ∧ id < 0x6B0 then writeRemote (id - 0x690) v
  else if 0x1180 ≤ id ∧ id < 0x11C0 then
    acts [fun s => [.prm id (w32 (putBits v.toNat 29 16 (bitsOf (s.pn id) 29 16)))], tellPair id v]
  else if 0xD00 ≤ id ∧ id < 0xE00 ∧ (id % 32 = 6 ∨ id % 32 = 7) then acts [eff [.prm id v], audSync ((id - 0xD00) / 32)]
  else eff [.prm id v]

/-- Rights and quotas, whose change is saved (R765). -/
def savedPrm (id : Nat) : Bool := (0x690 ≤ id && id < 0x6F0) || (0x1180 ≤ id && id < 0x11C0)

/-- One entry is written by its mark (R146). -/
def writePrm (f id : Nat) (v : Word) : Act :=
  match prmRow id with
  | none => eff []
  | some (r, _) => match r.mark with
    | .ro => eff []
    | .imm | .later => writeNow id v
    | .commit => eff [stage f (.prm id v)]
    | .boot => acts [bootNow id v, eff [.nvs fun n => { n with owed := n.owed.put id v }]]

/-- What the turn does: everything, or nothing. -/
def setEntries (c : Svc) (n : Nat) : Act := actsFor (List.range n) fun i => writePrm c.f (setId c i) (w32 (setVal c i))

/-- The payload of the answer: ID and status of each entry. -/
def setAnswer (c : Svc) (n : Nat) (st : Nat → Nat) : Bytes := (List.range n).flatMap fun i => leBytes 2 (setId c i) ++ leBytes 2 (st i)

/-- R109, R146, R765: the service turn of PRM_SET. With an entry marked Next boot it is answered when the bank write is done. -/
def actPrmSet : Act := fun s =>
  match s.arm.inService with
  | none => []
  | some c =>
    if c.cmd.opcode ≠ 0x102 ∨ s.nvs.reply.isSome then [] else
    let n := c.n 0 2
    let sts := (List.range n).map fun i => setStatus c s n i
    let boots := (List.range n).any fun i => bootMarked (setId c i)
    let saves := (List.range n).any fun i => savedPrm (setId c i)
    let own := setAnswer c n fun i => sts.getD i 0
    if c.cmd.len < 4 ∨ c.cmd.len ≠ 4 + 8 * n then respond c ST_BAD_LENGTH [] 0 s
    else if sts.contains ST_DENIED then respond c ST_DENIED (if n ≤ 256 then own else []) 0 s
    else if n = 0 ∨ 256 < n then respond c ST_BAD_PARAM [] 0 s
    else if !c.cmd.clean ∨ c.n 2 2 ≠ 0 ∨ sts.contains ST_BAD_PARAM then respond c ST_BAD_PARAM own 0 s
    else if boots ∧ bankBusy s then
      respond c ST_BUSY (setAnswer c n fun i => if bootMarked (setId c i) then ST_BUSY else ST_OK) 0 s
    else acts [setEntries c n,
      if boots then acts [startBankWrite, eff [.nvs fun x => { x with reply := some (ST_OK, own) }]]
      else acts [if saves then requestSave else eff [], respond c ST_OK own 0]] s

def execPrmSet (s : State) : Host.Outcome State Fault Refusal := actPrmSet.outcome s

end Sys2Proof.Machine
end

