-- ==== Sys2Proof/Machine/Tokens.lean ====
section
/-! DEFINITION. Tokens (row UNIT_TOKEN): the handshake, the route, the CRC, the stage program of the unit's stage on the token's four
pixels, and what leaves (R20 to R24, R30, R36, R47, R404, R607, R695 to R697, R714). -/
namespace Sys2Proof.Machine

/-! ### Units and routes -/

/-- The logical unit that a slot serves: its role, or the role that the spare serves in a re-execution (R696); none for a slot that
is down, a spare at rest, and a slot whose role the spare serves. -/
def servedUnit (s : State) (p : Nat) : Option Nat :=
  let c := p / 17
  let x := s.clusterF c
  let serving : Bool := match x.reexec with | some r => r.loaded | none => false
  let away : Bool := match x.reexec with | some r => r.loaded && r.slot == p % 17 | none => false
  if slotDown s p ∨ clusterStopped s c ∨ away ∨ (slotSpare s p ∧ !serving) then none else some (16 * c + slotRole s p)

/-- The binding that a slot works for: its logical unit's own, or that of a unit whose role moved to it (R29). -/
def worksFor (s : State) (p : Nat) : Option Binding :=
  match servedUnit s p with
  | none => none
  | some u =>
    match s.flt.bind.find u with
    | some b => some b
    | none => match s.flt.moved.entries.find? (·.2 == u) with
      | some e => s.flt.bind.find e.1
      | none => none

/-- The stage whose results feed a stage of the same pipeline: the one before it; the coding branch of a triad branches off before O4,
and the vision branch starts at the crop (R277). -/
def feeder (p : PipeRow) (code : Nat) : Option Nat :=
  let codes := p.stages.map (·.code)
  let before := fun c => match (codes.takeWhile (· != c)).getLast? with | some b => if codes.contains c then some b else none | none => none
  if code = 0x421 then none
  else if code = 0x10414 then before 0x414
  else if code = 0x10415 then some 0x10414
  else before code

/-- The last stage of a sensor pipeline, whose results go to its outputs. -/
def lastCode (p : PipeRow) : Nat := ((p.stages.map (·.code)).getLast?).getD 0

/-- A route that the configuration in force has: between stages of one pipeline, from a sensor pipeline to its outputs, from an output to
the wall stages that read its lines, and into a first stage from a boundary FIFO or memory reader (R30, R46). -/
def routeOk (s : State) (src : Option Binding) (dst : Binding) : Bool :=
  match (pipes s)[dst.pipe]? with
  | none => false
  | some q =>
    match src with
    | none => (feeder q dst.stage).isNone
    | some b =>
      if b.pipe = dst.pipe then feeder q dst.stage == some b.stage
      else match (pipes s)[b.pipe]? with
        | none => false
        | some p =>
          (p.kind == 0 && (q.kind == 1 || q.kind == 2) && b.stage == lastCode p && (feeder q dst.stage).isNone && q.start s == p.index) ||
          (p.kind == 1 && b.stage == 0x415 && q.kind == 4 && (dst.stage == 0x702 || dst.stage == 0x703))

/-! ### Line stores -/

/-- Key of a pixel in the line store of a stage: kind and index of the pipeline, place of the stage. -/
def lineKey (kind index place y x : Nat) : Nat := (((32 * kind + index) * 16 + place) * 2 ^ 15 + y) * 2 ^ 15 + x

/-- Key of a lamp's composited value on its way from M2 to K8: y is 1,024 × tile + row. -/
def lampKey (g y x : Nat) : Nat := (32 * 4 + 8) * 2 ^ 34 + g * 2 ^ 36 + y * 2 ^ 15 + x

/-- A pixel of a line store. A pixel that never arrived is free (notes/assumptions/85). -/
def lineAt (s : State) (key : Nat) : Nat := match s.flt.lines.find key with | some v => v | none => Config.freeAt 85 [key] % 2 ^ 64

def storeLine (key v : Nat) : Eff := .flt fun f => { f with lines := f.lines.put key v }

/-- Pixel i of a token: 64 bits, the first in the low bits (notes/assumptions/85). -/
def tokenPx (data : BitVec 256) (i : Nat) : Nat := data.toNat / 2 ^ (64 * i) % 2 ^ 64

/-- A token of four pixels. -/
def tokenOf (px : List Nat) : BitVec 256 := BitVec.ofNat 256 ((px.zipIdx.map fun p => p.1 % 2 ^ 64 * 2 ^ (64 * p.2)).foldl (· + ·) 0)

/-- The CRC of a token's 256 data bits, the most significant first (R22; the order is DEDUCED, notes/assumptions/85). -/
def tokenCrc (data : BitVec 256) : Nat := crc16 ((List.range 256).map fun i => data.getLsbD (255 - i))

/-! ### Which results a token completes (R47, R209, R246, R254 to R257, R267) -/

/-- The raster of a stage's results and the last input that each needs, in the coordinates of its input. -/
structure StageGeo where
  ho : Nat
  wo : Nat
  /-- Last column of a line of the input. -/
  last : Nat
  needRow : Nat → Nat
  needCol : Nat → Nat

/-- A stage that looks below lines down and right columns to the right in a frame of one size. -/
def windowGeo (h w y0 x0 below right : Nat) : StageGeo :=
  ⟨h, w, x0 + w - 1, fun y => y0 + min (h - 1) (y + below), fun x => x0 + min (w - 1) (x + right)⟩

/-- Last input of an output sample of a polyphase scaler (R256, R258). -/
def polyLast (taps li lo k : Nat) : Nat := (clampI 0 ((li - 1 : Nat) : Int) (posOf li lo k / 65536 + (taps / 2 : Nat))).toNat

/-- The geometry of a front-end or colour stage. -/
def sensorGeo (s : State) (sn code : Nat) : StageGeo :=
  let g := windowGeo (snsHeight s sn) (snsWidth s sn) 0 0
  if code = 0x302 then g 1 1 else if code = 0x303 then g 0 3 else if code = 0x304 then g 1 4 else if code = 0x401 then g 3 3 else g 0 0

/-- The offset of the crop, where the stage is the first of its pipeline. -/
def cropOf (g : OutGeo) (k : Nat) : Nat × Nat := if k = firstStage g then (g.y0, g.x0) else (0, 0)

/-- The geometry of a stage of an output (0 to 15) or triad (16, 17). -/
def outputGeo (s : State) (o code : Nat) : StageGeo :=
  let g := geo s o
  let k := code % 16
  let c := cropOf g k
  let sub := if code = 0x415 ∧ o < 16 then fmtSampling g.fmt else if code = 0x10415 then 2 else 0
  if code = 0x421 then
    let d := visDiv (s.cp (Prm.TRI_VISION (o - 16)))
    ⟨g.hc / d, g.wc / d, g.x0 + g.wc - 1, fun y => g.y0 + d * y + d - 1, fun x => g.x0 + d * x + d - 1⟩
  else if code = 0x422 then
    let d := visDiv (s.cp (Prm.TRI_VISION (o - 16)))
    windowGeo (g.hc / d) (g.wc / d) 0 0 0 0
  else if k = 1 then
    let d := decim g.wc g.wo
    ⟨g.hc, g.wo, c.2 + g.wc - 1, fun y => c.1 + y, fun x => c.2 + min (g.wc - 1) (d * polyLast 8 (g.wc / d) g.wo x + d - 1)⟩
  else if k = 2 then
    ⟨g.ho, g.wo, c.2 + g.wo - 1,
     fun y => c.1 + (if 2 * g.ho < g.hc then ((y + 1) * g.hc + g.ho - 1) / g.ho - 1 else polyLast (fmtVtaps g.fmt) g.hc g.ho y),
     fun x => c.2 + x⟩
  else
    let w := windowGeo g.ho g.wo c.1 c.2 0 (if sub = 0 then 0 else 1)
    if sub = 2 then { w with needRow := fun y => min (g.ho - 1) (y / 2 * 2 + 1) } else w

/-- The groups of four results that the token at a position completes, in raster order (R47): results leave in order, so a row that
needs no later line than the row before it follows when that row is whole. -/
def resultsAt (g : StageGeo) (y x : Nat) : List (Nat × Nat) :=
  match (List.range g.ho).filter fun r => g.needRow r == y with
  | [] => []
  | r :: more =>
    let groups := List.range ((g.wo + 3) / 4)
    ((groups.filter fun k => g.needCol (min (4 * k + 3) (g.wo - 1)) / 4 == x / 4).map fun k => (r, 4 * k)) ++
    (if x / 4 = g.last / 4 then more.flatMap fun q => groups.map fun k => (q, 4 * k) else [])

/-! ### Camera stages -/

/-- One pixel of a camera stage and what it counts. rd reads the stage's own input, raw the input of C1. -/
def cameraPx (s : State) (kind index code frame : Nat) (rd raw : Rd) (y x : Nat) : Nat × List Eff :=
  let o := if kind = 2 then 16 + index else index
  let g := geo s o
  let d := visDiv (s.cp (Prm.TRI_VISION index))
  let fmt := if code = 0x10414 ∨ code = 0x10415 then variantFmt g.fmt true else if kind = 2 then variantFmt g.fmt false else g.fmt
  let gf := { g with fmt := fmt }
  if kind = 0 then
    if code < 0x400 then rfeStage s index (code - 0x300) frame rd y x
    else if code = 0x402 then
      colourStage s index 2 frame (fun r c => if r = y ∧ c = x then rd r c else mkPx (rawU (raw r c)) 0 0 0) y x
    else colourStage s index (code - 0x400) frame rd y x
  else match code with
    | 0x411 => (o1 s o g (outRd g 1 rd) y x, [])
    | 0x412 => (o2 s o g (outRd g 2 rd) y x, [])
    | 0x413 => (o3 s g (outRd g 3 rd y x), [])
    | 0x414 | 0x10414 =>
      let p := outRd g 4 rd y x
      let ll := lightLevel gf p
      (o4 s o gf p, if kind = 1 ∨ code = 0x10414 then [effOut o fun c => { c with maxLl := max c.maxLl ll, sumLl := c.sumLl + ll, pixels := c.pixels + 1 }] else [])
    | 0x421 => (visMean d (fun r c => rd (g.y0 + r) (g.x0 + c)) y x, [])
    | 0x415 | 0x10415 => (o5Token gf rd y x, [])
    | _ => (rd y x, [])

/-- What O5 and the pack stage write for a group of four pixels (R270, R272, R277, R291, R360). -/
def cameraOut (s : State) (kind index code frame : Nat) (rd : Rd) (y x : Nat) : List Eff :=
  let o := if kind = 2 then 16 + index else index
  let g := geo s o
  let seq := ((s.cout o).seq + 1) % 2 ^ 32
  if code = 0x422 then
    visMemory (ring s (16 + 3 * index + 2)) (g.wc / visDiv (s.cp (Prm.TRI_VISION index))) seq rd y x
  else if code = 0x10415 then
    o5Memory (ring s (16 + 3 * index + 1)) { g with fmt := variantFmt g.fmt true } 0x11 seq rd y x
  else if code ≠ 0x415 then []
  else if kind = 2 then o5Memory (ring s (16 + 3 * index)) { g with fmt := variantFmt g.fmt false } 1 seq rd y x
  else
    let v := s.cp (Prm.OUT_SRC o)
    match srcDest v with
    | 0 => o5Memory (ring s o) g (ringFmt s.cp o) seq rd y x
    | 1 => ((List.range 4).filter fun i => x + i < g.wo).map fun i =>
        .wall fun w => { w with pix := w.pix.put (o * 2 ^ 32 + y * 65536 + (x + i)) (o5Token g rd y (x + i)) }
    | 2 => (o5Samples g rd y x).map fun q => txSample (srcIndex v) frame q.1 q.2.1 q.2.2.1 q.2.2.2
    | _ => (o5Samples g rd y x).map fun q => jobSample (srcIndex v) frame q.1 q.2.1 q.2.2.1 q.2.2.2

/-- C2 keeps the pixels of a frame of a witness source (R462). -/
def witnessPx (s : State) (sn frame y x v : Nat) : List Eff :=
  ((List.range 2).filter fun w => bitOf (s.pn (Prm.LIB_WIT_SENSOR w)) 31 && s.pn (Prm.LIB_WIT_SENSOR w) % 8 == sn).map fun w =>
    .lib fun l => { l with wpix := l.wpix.put (w * 2 ^ 40 + frame % 8 * 2 ^ 32 + y * 65536 + x) v }

/-- The frame is one that the pipeline takes: in progress at its sensor, or waiting for its record; of an output, the one it produces. -/
def frameTaken (s : State) (kind index frame : Nat) : Bool :=
  if kind = 0 then (s.sns index).frame == some frame || (s.sns index).due.any (·.1 == frame)
  else (s.cout (if kind = 2 then 16 + index else index)).cur == some frame

/-- Raster of a camera stage. -/
def cameraGeo (s : State) (kind index code : Nat) : StageGeo :=
  if kind = 0 then sensorGeo s index code else outputGeo s (if kind = 2 then 16 + index else index) code

/-- A token at a camera stage: its pixels join the line store, and every result they complete leaves. -/
def cameraToken (p : Nat) (b : Binding) (q : PipeRow) (data : BitVec 256) (frame y x : Nat) : Act := fun s =>
  if !frameTaken s q.kind q.index frame then [] else
  let codes := q.stages.map (·.code)
  let place := codes.findIdx (· == b.stage)
  let rawPlace := codes.findIdx (· == 0x401)
  let x4 := x / 4 * 4
  let geo' := cameraGeo s q.kind q.index b.stage
  acts [
    eff ((List.range 4).map fun i => storeLine (lineKey q.kind q.index place y (x4 + i)) (tokenPx data i)),
    fun s =>
      let rd : Rd := fun r c => lineAt s (lineKey q.kind q.index place r c)
      let raw : Rd := fun r c => lineAt s (lineKey q.kind q.index rawPlace r c)
      let outs := resultsAt geo' y x4
      let one := fun (s : State) (r c : Nat) => cameraPx s q.kind q.index b.stage frame rd raw r c
      let px := fun (g : Nat × Nat) => (List.range 4).map fun i => if g.2 + i < geo'.wo then (one s g.1 (g.2 + i)).1 else 0
      acts [
        actsFor outs (fun g => actsFor ((List.range 4).filter fun i => g.2 + i < geo'.wo) fun i => fun s => (one s g.1 (g.2 + i)).2),
        fun s => outs.flatMap fun g =>
          cameraOut s q.kind q.index b.stage frame rd g.1 g.2 ++
          (if b.stage = 0x402 then (List.range 4).flatMap fun i => if g.2 + i < geo'.wo then witnessPx s q.index frame g.1 (g.2 + i) ((px g).getD i 0) else []
           else []) ++
          [.emit (.token p b.pipe frame g.1 g.2 (tokenOf (px g))), effUnit p fun u => { u with token := some (tokenOf (px g)) }]] s] s

/-! ### Wall stages -/

/-- A line of device memory that the sample of a layer at a lamp takes is poisoned (R607). -/
def samplePoisoned (s : State) (e b : Bytes) (c : LayerSrc) (p : Int × Int) : Bool :=
  let k := filterOf e b c
  let nx := areaTaps (sigma e b c false)
  let ny := areaTaps (sigma e b c true)
  let xs := (taps k nx (srcCoord (lySrc b 0) (lyDst b 0) (srcW b c) (lyDst b 2) (lyFlipX b) p.1)).filter (·.2 != 0)
  let ys := (taps k ny (srcCoord (lySrc b 1) (lyDst b 1) (srcH b c) (lyDst b 3) (lyFlipY b) p.2)).filter (·.2 != 0)
  ys.any fun y => xs.any fun x =>
    srcPoisoned s c (clampI 0 ((c.h : Int) - 1) y.1).toNat (clampI 0 ((c.w : Int) - 1) x.1).toNat

/-- A surface line that the lamp reads is poisoned (R607, R714). -/
def surfacePoisoned (s : State) (tile c r slot : Nat) : Bool :=
  let e := mqTile s.mqt tile
  let p := lampPos s.mqt e c r
  (layersOf s (tlGroup e)).any fun x => layerCovers s x.1 x.2 slot p && !(s.layerSt x.1).fallback && lyKind x.2 != 5 &&
    (match layerSrc s x.1 x.2 with | some k => samplePoisoned s e x.2 k p | none => false)

/-- The line of the lamp's record in the bank in force is poisoned. The banks stand in the device area at 526 and 1,808 MiB (R614). -/
def recordPoisoned (s : State) (tile c r : Nat) : Bool :=
  let e := mqTile s.mqt tile
  let bank := if (s.patGroup (tlGroup e)).bankB then 1808 else 526
  s.poison.has ((devBase s + bank * 2 ^ 20 + 32 * (tlBase e + r * tlCols e + c)) / 64)

/-- R404: a layer underran at a lamp that reached M2: it is off for the rest of the frame. -/
def layerUnderrun (l : Nat) : Act := fun s =>
  if (s.layerSt l).off then [] else
  [effLayer l (fun x => { x with off := true }), .count (Prm.LYR_UNDERRUNS l) 1, .count Prm.LYR_UNDERRUN_TOTAL 1, .raise 160, popUnderrun l]

/-- M2 to M4 of a lamp: its composited value is kept for K8; a lamp that reads a poisoned line is marked with 2^64. -/
def lampMap (g tile c r slot t y : Nat) : Act := fun s =>
  let v := lampColour s tile c r slot t
  acts [eff [storeLine (lampKey g y c) (if surfacePoisoned s tile c r slot then 2 ^ 64 else v.1)], actsFor v.2 layerUnderrun] s

/-- K1 to K8 of a lamp, and its departure; a lamp with a poisoned line holds its last value (R607, R714). -/
def lampCorrect (g tile c r slot y : Nat) : Act := fun s =>
  let v := lineAt s (lampKey g y c)
  if v = 2 ^ 64 ∨ recordPoisoned s tile c r then
    acts [eff [effPatGroup g fun x => { x with poisoned := true }], lampOut tile c r (lastGrey s tile c r)] s
  else
    let x := correct s tile c r slot v
    acts [eff (countLamp s tile c r slot x), lampOut tile c r x.grey] s

/-- A token at a wall stage: four lamps of a row, y = 1,024 × tile + row, x the first column. The lamps serve the latch that their tile
is owed next (DESIGN CHOICE, notes/assumptions/86). M1 uses the tile's entry, M2 composites, K8 encodes; what the other stages pass on
is not stated. -/
def wallToken (p : Nat) (b : Binding) (g : Nat) (data : BitVec 256) (frame y x : Nat) (late : Bool) : Act := fun s =>
  let tile := y / 1024
  let r := y % 1024
  let e := mqTile s.mqt tile
  let cols := (List.range 4).filterMap fun i => if x / 4 * 4 + i < tlCols e then some (x / 4 * 4 + i) else none
  if !(groupTiles s g).contains tile ∨ tlRows e ≤ r ∨ grpMode s g = 0 then [] else
  match tileLatch s tile with
  | none => []
  | some l =>
    if l.hold ∨ l.cmd then [] else
    acts [
      if b.stage = 0x701 then useTile tile late
      else if b.stage = 0x702 then actsFor cols fun c => lampMap g tile c r l.slot l.time y
      else if b.stage = 0x808 then actsFor cols fun c => lampCorrect g tile c r l.slot y
      else eff [],
      if b.stage = 0x808 then eff []
      else eff [.emit (.token p b.pipe frame y (x / 4 * 4) data), effUnit p fun u => { u with token := some data }]] s

/-! ### UNIT_TOKEN -/

/-- The stage program on a token that was received whole. -/
def runToken (p : Nat) (data : BitVec 256) (frame y x : Nat) (late : Bool) : Act := fun s =>
  match worksFor s p with
  | none => []
  | some b =>
    match (pipes s)[b.pipe]? with
    | none => []
    | some q =>
      if q.kind < 3 then cameraToken p b q data frame y x s
      else if q.kind = 4 then wallToken p b q.index data frame y x late s
      else [.emit (.token p b.pipe frame y x data), effUnit p fun u => { u with token := some data }]

/-- R697: what an acknowledged token leaves in the shadow of its sender. -/
def ackSender (q : Nat) : Act := fun s =>
  match servedUnit s q, (s.unitF q).token with
  | some u, some d => [effUnit q fun x => { x with refused := 0 }, .flt fun f => { f with shadow := f.shadow.put u d }]
  | _, _ => [effUnit q fun x => { x with refused := 0 }]

/-- R23: a failed CRC: the token is refused and sent once more; a second failure is a fault of the sending unit. -/
def refuseToken (sender : Option (Fin 2176)) : Act := fun s =>
  match sender with
  | none => []
  | some q => if (s.unitF q).refused = 0 then [effUnit q fun x => { x with refused := 1 }]
      else acts [eff [effUnit q fun x => { x with refused := 0 }], unitFault q 2 []] s

/-- A token with its CRC reaches a slot from another slot, or from a boundary FIFO or memory reader. A token off the committed routes is
dropped and counts against its sender (R30); one whose tag the region gateway does not find is refused (R36). late: the tile entry of a
token at M1 was not ready (R374). denied: the tags did not match, which only a device fault brings about. -/
def actUnitToken (p : Fin 2176) (sender : Option (Fin 2176)) (data : BitVec 256) (crc : BitVec 16) (frame y x : Nat) (late denied : Bool) : Act := fun s =>
  let misrouted := fun (_ : Unit) => match sender with
    | some q => unitFault q 3 [] s
    | none => []
  match worksFor s p with
  | none => if (servedUnit s p).isSome then misrouted () else []
  | some b =>
    let src := sender.bind fun q => worksFor s q
    if (sender.isSome && src.isNone) || !routeOk s src b then misrouted ()
    else if denied then [.inc (Reg.FLT_GATE_DENY (p / 136)) Fld.FLT_GATE_DENY.COUNT 1, .raise 248]
    else if tokenCrc data ≠ crc.toNat then refuseToken sender s
    else acts [(match sender with | some q => ackSender q | none => eff []), runToken p data frame y x late] s

def execUnitToken (p : Fin 2176) (sender : Option (Fin 2176)) (data : BitVec 256) (crc : BitVec 16) (frame y x : Nat) (late denied : Bool)
    (s : State) : Host.Outcome State Fault Refusal := (actUnitToken p sender data crc frame y x late denied).outcome s

end Sys2Proof.Machine
end

