-- ==== Sys2Proof/Machine/Works.lean ====
section
/-! DEFINITION. Firmware-run ticketed work that ends (row TICKETED_WORK_COMPLETE; R101 to R103, R235, R607, R798). -/
namespace Sys2Proof.Machine

/-- What the work of a ticket does when it ends, by the opcode that issued it; none where the work has a row of its own or cannot end
yet. status and data are what the part itself reports: whether a retest passed, what a self-test or an eye scan found. -/
def ticketWork (f status : Nat) (data : Bytes) (t : Ticket) (s : State) : Option Reply :=
  let p := t.payload
  match t.opcode with
  | 0x300 | 0x301 => some (workRfe f t s)
  | 0x400 | 0x401 => some (workCc f t s)
  | 0x700 => some (workMqtLoad f t s)
  | 0x701 => some (workMqtRead t s)
  | 0x800 => some (workPatLoad f t s)
  | 0x801 => some (workPatRead t s)
  | 0x802 | 0x803 => some (workPatTable f t s)
  | 0x901 => some (workLibMapLoad f t s)
  | 0x902 => some (workLibMapRead t s)
  | 0xE01 => some (workFormat f t s)
  | 0xE02 => some (workNsCreate f t s)
  | 0xE03 => if nsQuiet (fieldN p 0 1) s then some (workNsDelete f t s) else none
  | 0xE10 => some (workRecOpen f t s)
  | 0xE11 =>
    if fieldN p 1 1 = 1 then some (workTakeStart f t s)
    else if takeSettled (fieldN p 0 1) s then some (workTakeStop f t s) else none
  | 0x1104 => some (workSelftest (fieldN data 0 2))
  | 0x1110 => some (workFwWrite t s)
  | 0x1200 => some (workEyeScan data)
  | 0x1301 => some (workUnfence (status == ST_OK) t)
  | _ => none

/-- R103: the work of an open ticket ends: its effect, then status and result stored. While the Armature is halted only work that runs
without it ends (R89, R798). Discovery and a planned swap complete the tickets that wait for them. -/
def actTicketedWorkComplete (f : Fin 96) (ticket status : Nat) (data : Bytes) : Act := fun s =>
  match s.ticket f ticket with
  | none => []
  | some t =>
    if t.done ∨ (s.arm.halted ∧ !armless t.opcode) then [] else
    if t.opcode = 0xB00 then endDiscovery (fieldN t.payload 0 1) s
    else if t.opcode = 0x1303 then (if status = ST_OK then [] else swapAbort s)
    else match ticketWork f status data t s with
      | none => []
      | some r => acts [r.act, completeTicket f ticket r.status r.payload] s

def execTicketedWorkComplete (f : Fin 96) (ticket status : Nat) (data : Bytes) (s : State) : Host.Outcome State Fault Refusal :=
  (actTicketedWorkComplete f ticket status data).outcome s

end Sys2Proof.Machine
end

