-- ==== Sys2Proof/Machine/Dispatch.lean ====
section
/-! DEFINITION. The dispatch of commands to their meanings, one arm per constructor. -/
namespace Sys2Proof.Machine

def exec (i : Instr) (s : State) : Host.Outcome State Fault Refusal :=
  match i with
  | .registerWrite f off width v => Sys2Proof.Machine.execRegisterWrite f off width v s
  | .pairLoRead f off => Sys2Proof.Machine.execPairLoRead f off s
  | .pairHiWrite f off v => Sys2Proof.Machine.execPairHiWrite f off v s
  | .pairLoWrite f off v => Sys2Proof.Machine.execPairLoWrite f off v s
  | .hubLock v => Sys2Proof.Machine.execHubLock v s
  | .evtStatusWrite f k v => Sys2Proof.Machine.execEvtStatusWrite f k v s
  | .evtMaskWrite f k v => Sys2Proof.Machine.execEvtMaskWrite f k v s
  | .evtForceWrite k v => Sys2Proof.Machine.execEvtForceWrite k v s
  | .evtRouteWrite e v => Sys2Proof.Machine.execEvtRouteWrite e v s
  | .evtLocalWrite f v => Sys2Proof.Machine.execEvtLocalWrite f v s
  | .evtVfRouteSelf f v => Sys2Proof.Machine.execEvtVfRouteSelf f v s
  | .mbxDoorbell f v => Sys2Proof.Machine.execMbxDoorbell f v s
  | .mbxServiceStart => Sys2Proof.Machine.execMbxServiceStart s
  | .sysInfo => Sys2Proof.Machine.execSysInfo s
  | .prmGet => Sys2Proof.Machine.execPrmGet s
  | .prmSet => Sys2Proof.Machine.execPrmSet s
  | .cfgCommit => Sys2Proof.Machine.execCfgCommit s
  | .cfgDiscard => Sys2Proof.Machine.execCfgDiscard s
  | .cfgStatus => Sys2Proof.Machine.execCfgStatus s
  | .tktGet => Sys2Proof.Machine.execTktGet s
  | .pipeDescribe => Sys2Proof.Machine.execPipeDescribe s
  | .commitValidated p peer => Sys2Proof.Machine.execCommitValidated p peer s
  | .armatureLockstepMismatch => Sys2Proof.Machine.execArmatureLockstepMismatch s
  | .armatureWatchdogExpiry => Sys2Proof.Machine.execArmatureWatchdogExpiry s
  | .armatureRecovered otherOk firstOk ms => Sys2Proof.Machine.execArmatureRecovered otherOk firstOk ms s
  | .abtGo writer f v => Sys2Proof.Machine.execAbtGo writer f v s
  | .abortComplete f => Sys2Proof.Machine.execAbortComplete f s
  | .abortTimeout f => Sys2Proof.Machine.execAbortTimeout f s
  | .paceWindowEnd p rate => Sys2Proof.Machine.execPaceWindowEnd p rate s
  | .hkSample value => Sys2Proof.Machine.execHkSample value s
  | .thmConv v => Sys2Proof.Machine.execThmConv v s
  | .convDone value => Sys2Proof.Machine.execConvDone value s
  | .throttleEnforce => Sys2Proof.Machine.execThrottleEnforce s
  | .throttleCheck => Sys2Proof.Machine.execThrottleCheck s
  | .throttleRelease => Sys2Proof.Machine.execThrottleRelease s
  | .shedRestore => Sys2Proof.Machine.execShedRestore s
  | .clusterRestart c => Sys2Proof.Machine.execClusterRestart c s
  | .pinFault n present => Sys2Proof.Machine.execPinFault n present s
  | .hourlyReanchor => Sys2Proof.Machine.execHourlyReanchor s
  | .vcoreStep die mv readback => Sys2Proof.Machine.execVcoreStep die mv readback s
  | .salPortMode n v => Sys2Proof.Machine.execSalPortMode n v s
  | .laneSlip tlk n v => Sys2Proof.Machine.execLaneSlip tlk n v s
  | .salAlignColumn n skew lanes => Sys2Proof.Machine.execSalAlignColumn n skew lanes s
  | .salBlockLockLost n k => Sys2Proof.Machine.execSalBlockLockLost n k s
  | .salPacket n framing full at4 bytes => Sys2Proof.Machine.execSalPacket n framing full at4 bytes s
  | .salCtrlReply n bytes => Sys2Proof.Machine.execSalCtrlReply n bytes s
  | .salPairWaitTimeout sn => Sys2Proof.Machine.execSalPairWaitTimeout sn s
  | .salFrameTimeout sn => Sys2Proof.Machine.execSalFrameTimeout sn s
  | .salBcTimeout n => Sys2Proof.Machine.execSalBcTimeout n s
  | .salUpstreamTrigger sn => Sys2Proof.Machine.execSalUpstreamTrigger sn s
  | .trigInEdge n falling widthNs => Sys2Proof.Machine.execTrigInEdge n falling widthNs s
  | .salTriggerSend sn => Sys2Proof.Machine.execSalTriggerSend sn s
  | .salBcWrite => Sys2Proof.Machine.execSalBcWrite s
  | .salBcRead => Sys2Proof.Machine.execSalBcRead s
  | .salFrameInfo => Sys2Proof.Machine.execSalFrameInfo s
  | .rfeTableLoad => Sys2Proof.Machine.execRfeTableLoad s
  | .rfeTableRead => Sys2Proof.Machine.execRfeTableRead s
  | .rfeStatInfo => Sys2Proof.Machine.execRfeStatInfo s
  | .statRecordDone sn => Sys2Proof.Machine.execStatRecordDone sn s
  | .ccTableLoad => Sys2Proof.Machine.execCcTableLoad s
  | .ccTableRead => Sys2Proof.Machine.execCcTableRead s
  | .outInfo => Sys2Proof.Machine.execOutInfo s
  | .triadRelease => Sys2Proof.Machine.execTriadRelease s
  | .outputFrameDone o => Sys2Proof.Machine.execOutputFrameDone o s
  | .castOpen => Sys2Proof.Machine.execCastOpen s
  | .castRun => Sys2Proof.Machine.execCastRun s
  | .castClose => Sys2Proof.Machine.execCastClose s
  | .castInfo => Sys2Proof.Machine.execCastInfo s
  | .castRunStart => Sys2Proof.Machine.execCastRunStart s
  | .castRunDone h => Sys2Proof.Machine.execCastRunDone h s
  | .castSlotDone h => Sys2Proof.Machine.execCastSlotDone h s
  | .castCloseDone h => Sys2Proof.Machine.execCastCloseDone h s
  | .castRtpPacket h ts payload => Sys2Proof.Machine.execCastRtpPacket h ts payload s
  | .strCtxCreate => Sys2Proof.Machine.execStrCtxCreate s
  | .strCtxDelete => Sys2Proof.Machine.execStrCtxDelete s
  | .strCtxEnable => Sys2Proof.Machine.execStrCtxEnable s
  | .strCtxDisable => Sys2Proof.Machine.execStrCtxDisable s
  | .strCtxPin => Sys2Proof.Machine.execStrCtxPin s
  | .strCtxUnpin => Sys2Proof.Machine.execStrCtxUnpin s
  | .strCtxInfo => Sys2Proof.Machine.execStrCtxInfo s
  | .strRuleWrite => Sys2Proof.Machine.execStrRuleWrite s
  | .strRuleClear => Sys2Proof.Machine.execStrRuleClear s
  | .strRuleRead => Sys2Proof.Machine.execStrRuleRead s
  | .prnScopeSet => Sys2Proof.Machine.execPrnScopeSet s
  | .prnInfo => Sys2Proof.Machine.execPrnInfo s
  | .ethFrameRx p fcsOk room frame => Sys2Proof.Machine.execEthFrameRx p fcsOk room frame s
  | .ctxMissFill => Sys2Proof.Machine.execCtxMissFill s
  | .missStormWindow => Sys2Proof.Machine.execMissStormWindow s
  | .pathLoss n pathB => Sys2Proof.Machine.execPathLoss n pathB s
  | .streamFrameTimeout n => Sys2Proof.Machine.execStreamFrameTimeout n s
  | .egressPacket n len ready => Sys2Proof.Machine.execEgressPacket n len ready s
  | .ethLinkChange p up fec aligned => Sys2Proof.Machine.execEthLinkChange p up fec aligned s
  | .xplMbxForward pkg f header payload => Sys2Proof.Machine.execXplMbxForward pkg f header payload s
  | .mqtLoad => Sys2Proof.Machine.execMqtLoad s
  | .mqtRead => Sys2Proof.Machine.execMqtRead s
  | .winSet => Sys2Proof.Machine.execWinSet s
  | .lyrSet => Sys2Proof.Machine.execLyrSet s
  | .lyrClear => Sys2Proof.Machine.execLyrClear s
  | .lyrInfo => Sys2Proof.Machine.execLyrInfo s
  | .cmdPush => Sys2Proof.Machine.execCmdPush s
  | .cmdPushDone => Sys2Proof.Machine.execCmdPushDone s
  | .cmdLatch => Sys2Proof.Machine.execCmdLatch s
  | .frameBoundary g => Sys2Proof.Machine.execFrameBoundary g s
  | .alignedBoundary g => Sys2Proof.Machine.execAlignedBoundary g s
  | .grpPeriodMaxExpiry g => Sys2Proof.Machine.execGrpPeriodMaxExpiry g s
  | .tileMissStormWindow => Sys2Proof.Machine.execTileMissStormWindow s
  | .unitToken p sender data crc frame y x late denied => Sys2Proof.Machine.execUnitToken p sender data crc frame y x late denied s
  | .latchDeadline t => Sys2Proof.Machine.execLatchDeadline t s
  | .conjunctionSend t => Sys2Proof.Machine.execConjunctionSend t s
  | .patLoad => Sys2Proof.Machine.execPatLoad s
  | .patRead => Sys2Proof.Machine.execPatRead s
  | .patTableLoad => Sys2Proof.Machine.execPatTableLoad s
  | .patTableRead => Sys2Proof.Machine.execPatTableRead s
  | .patInfo => Sys2Proof.Machine.execPatInfo s
  | .patLampRead => Sys2Proof.Machine.execPatLampRead s
  | .patSyncDone => Sys2Proof.Machine.execPatSyncDone s
  | .libMapBuild => Sys2Proof.Machine.execLibMapBuild s
  | .libMapLoad => Sys2Proof.Machine.execLibMapLoad s
  | .libMapRead => Sys2Proof.Machine.execLibMapRead s
  | .libRollback => Sys2Proof.Machine.execLibRollback s
  | .libInfo => Sys2Proof.Machine.execLibInfo s
  | .libLampInfo => Sys2Proof.Machine.execLibLampInfo s
  | .libReset => Sys2Proof.Machine.execLibReset s
  | .libCommit => Sys2Proof.Machine.execLibCommit s
  | .libWitnessFrame w photo frame started => Sys2Proof.Machine.execLibWitnessFrame w photo frame started s
  | .libPeriodEnd => Sys2Proof.Machine.execLibPeriodEnd s
  | .libUpdateWritten => Sys2Proof.Machine.execLibUpdateWritten s
  | .libMapBuildDone found => Sys2Proof.Machine.execLibMapBuildDone found s
  | .tlkLinkMode l v => Sys2Proof.Machine.execTlkLinkMode l v s
  | .tlkLinkReady l skew => Sys2Proof.Machine.execTlkLinkReady l skew s
  | .tlkBlockLockLost l k los => Sys2Proof.Machine.execTlkBlockLockLost l k los s
  | .timeSyncSend l => Sys2Proof.Machine.execTimeSyncSend l s
  | .syncReply l crcOk hop seq cd cu t2 t3 => Sys2Proof.Machine.execSyncReply l crcOk hop seq cd cu t2 t3 s
  | .telemetry l crcOk hop photo payload => Sys2Proof.Machine.execTelemetry l crcOk hop photo payload s
  | .ctrlAck l crcOk hop tag status values => Sys2Proof.Machine.execCtrlAck l crcOk hop tag status values s
  | .ctrlTimeout l => Sys2Proof.Machine.execCtrlTimeout l s
  | .discoverSend l => Sys2Proof.Machine.execDiscoverSend l s
  | .discoverReply l crcOk hop payload => Sys2Proof.Machine.execDiscoverReply l crcOk hop payload s
  | .tlkBreak l hop => Sys2Proof.Machine.execTlkBreak l hop s
  | .trainReq l tag width rate => Sys2Proof.Machine.execTrainReq l tag width rate s
  | .trainAck l tag width rate agreed => Sys2Proof.Machine.execTrainAck l tag width rate agreed s
  | .tlkRetrainDone l => Sys2Proof.Machine.execTlkRetrainDone l s
  | .tlkDiscover => Sys2Proof.Machine.execTlkDiscover s
  | .tlkTileInfo => Sys2Proof.Machine.execTlkTileInfo s
  | .tlkCtrlWrite => Sys2Proof.Machine.execTlkCtrlWrite s
  | .tlkCtrlRead => Sys2Proof.Machine.execTlkCtrlRead s
  | .tlkRetrain => Sys2Proof.Machine.execTlkRetrain s
  | .ddpInfo => Sys2Proof.Machine.execDdpInfo s
  | .ddpLatch p mismatch => Sys2Proof.Machine.execDdpLatch p mismatch s
  | .timNowRead => Sys2Proof.Machine.execTimNowRead s
  | .timCapRead n => Sys2Proof.Machine.execTimCapRead n s
  | .timGet => Sys2Proof.Machine.execTimGet s
  | .timAcquire => Sys2Proof.Machine.execTimAcquire s
  | .timAdjust => Sys2Proof.Machine.execTimAdjust s
  | .timPtpInfo => Sys2Proof.Machine.execTimPtpInfo s
  | .timPeers => Sys2Proof.Machine.execTimPeers s
  | .ptpMessage p msg => Sys2Proof.Machine.execPtpMessage p msg s
  | .ptpSend p kind => Sys2Proof.Machine.execPtpSend p kind s
  | .ptpAnnounceTimeout p => Sys2Proof.Machine.execPtpAnnounceTimeout p s
  | .xplTimeExchange peer candidate locked holdover t1 t2 t3 t4 cd cu => Sys2Proof.Machine.execXplTimeExchange peer candidate locked holdover t1 t2 t3 t4 cd cu s
  | .tpoArm n v => Sys2Proof.Machine.execTpoArm n v s
  | .tpoStop n v => Sys2Proof.Machine.execTpoStop n v s
  | .tpoEdge n => Sys2Proof.Machine.execTpoEdge n s
  | .audCsRead => Sys2Proof.Machine.execAudCsRead s
  | .audCsWrite => Sys2Proof.Machine.execAudCsWrite s
  | .audInfo => Sys2Proof.Machine.execAudInfo s
  | .audClockLoss p => Sys2Proof.Machine.execAudClockLoss p s
  | .audRatioError p hz => Sys2Proof.Machine.execAudRatioError p hz s
  | .audUnmute p hz => Sys2Proof.Machine.execAudUnmute p hz s
  | .audZcTimeout p => Sys2Proof.Machine.execAudZcTimeout p s
  | .audCsBlock p chan status user => Sys2Proof.Machine.execAudCsBlock p chan status user s
  | .audFrameNeeded p => Sys2Proof.Machine.execAudFrameNeeded p s
  | .cstTaskRead f v => Sys2Proof.Machine.execCstTaskRead f v s
  | .cstTaskWrite f v => Sys2Proof.Machine.execCstTaskWrite f v s
  | .cstTaskFlush f v => Sys2Proof.Machine.execCstTaskFlush f v s
  | .cstTaskDeallocate f v => Sys2Proof.Machine.execCstTaskDeallocate f v s
  | .cstPieceDone f lba ok => Sys2Proof.Machine.execCstPieceDone f lba ok s
  | .cstTaskDone f => Sys2Proof.Machine.execCstTaskDone f s
  | .drvCmdTimeout f lba => Sys2Proof.Machine.execDrvCmdTimeout f lba s
  | .cstIdleEntry => Sys2Proof.Machine.execCstIdleEntry s
  | .cstSleepEntry => Sys2Proof.Machine.execCstSleepEntry s
  | .cstStoreInfo => Sys2Proof.Machine.execCstStoreInfo s
  | .cstStoreFormat => Sys2Proof.Machine.execCstStoreFormat s
  | .cstNsCreate => Sys2Proof.Machine.execCstNsCreate s
  | .cstNsDelete => Sys2Proof.Machine.execCstNsDelete s
  | .cstNsInfo => Sys2Proof.Machine.execCstNsInfo s
  | .cstNsQuota => Sys2Proof.Machine.execCstNsQuota s
  | .recOpen => Sys2Proof.Machine.execRecOpen s
  | .recTakeStart => Sys2Proof.Machine.execRecTakeStart s
  | .recTakeStop => Sys2Proof.Machine.execRecTakeStop s
  | .recClose => Sys2Proof.Machine.execRecClose s
  | .recSlot r ok => Sys2Proof.Machine.execRecSlot r ok s
  | .playOpen => Sys2Proof.Machine.execPlayOpen s
  | .playRun => Sys2Proof.Machine.execPlayRun s
  | .playStop => Sys2Proof.Machine.execPlayStop s
  | .playLoopOn => Sys2Proof.Machine.execPlayLoopOn s
  | .playLoopOff => Sys2Proof.Machine.execPlayLoopOff s
  | .playClose => Sys2Proof.Machine.execPlayClose s
  | .playInfo => Sys2Proof.Machine.execPlayInfo s
  | .playDecodeDone h => Sys2Proof.Machine.execPlayDecodeDone h s
  | .memAlloc => Sys2Proof.Machine.execMemAlloc s
  | .memAllocDone f ticket => Sys2Proof.Machine.execMemAllocDone f ticket s
  | .memFree => Sys2Proof.Machine.execMemFree s
  | .memQuota => Sys2Proof.Machine.execMemQuota s
  | .memInfo => Sys2Proof.Machine.execMemInfo s
  | .memRequest port tag addr write len age waited depth ecc => Sys2Proof.Machine.execMemRequest port tag addr write len age waited depth ecc s
  | .scrubLine m line ecc => Sys2Proof.Machine.execScrubLine m line ecc s
  | .memCeWindow => Sys2Proof.Machine.execMemCeWindow s
  | .memPdEntry m pc self => Sys2Proof.Machine.execMemPdEntry m pc self s
  | .memRetrain m pc => Sys2Proof.Machine.execMemRetrain m pc s
  | .dmaEnable f v => Sys2Proof.Machine.execDmaEnable f v s
  | .dmaDisable f v => Sys2Proof.Machine.execDmaDisable f v s
  | .dmaPause f v => Sys2Proof.Machine.execDmaPause f v s
  | .dmaResume f v => Sys2Proof.Machine.execDmaResume f v s
  | .dmaPaused f bytes => Sys2Proof.Machine.execDmaPaused f bytes s
  | .dmaDoorbell f v => Sys2Proof.Machine.execDmaDoorbell f v s
  | .dmaDescFetch f fail => Sys2Proof.Machine.execDmaDescFetch f fail s
  | .dmaDescDone f fail bytes => Sys2Proof.Machine.execDmaDescDone f fail bytes s
  | .secInfo => Sys2Proof.Machine.execSecInfo s
  | .secChallenge => Sys2Proof.Machine.execSecChallenge s
  | .secLogin => Sys2Proof.Machine.execSecLogin s
  | .secLogout => Sys2Proof.Machine.execSecLogout s
  | .secSelftest => Sys2Proof.Machine.execSecSelftest s
  | .secZeroise => Sys2Proof.Machine.execSecZeroise s
  | .secCoProvision => Sys2Proof.Machine.execSecCoProvision s
  | .secUserEnrol => Sys2Proof.Machine.execSecUserEnrol s
  | .secKexBegin => Sys2Proof.Machine.execSecKexBegin s
  | .secKeyImport => Sys2Proof.Machine.execSecKeyImport s
  | .secKeyDestroy => Sys2Proof.Machine.execSecKeyDestroy s
  | .secCtxKey => Sys2Proof.Machine.execSecCtxKey s
  | .secAttest => Sys2Proof.Machine.execSecAttest s
  | .secIdCert => Sys2Proof.Machine.execSecIdCert s
  | .secIdCsr => Sys2Proof.Machine.execSecIdCsr s
  | .secFwWrite => Sys2Proof.Machine.execSecFwWrite s
  | .secFwConfirm => Sys2Proof.Machine.execSecFwConfirm s
  | .popRead => Sys2Proof.Machine.execPopRead s
  | .secMode => Sys2Proof.Machine.execSecMode s
  | .secZeroiseReg v => Sys2Proof.Machine.execSecZeroiseReg v s
  | .zeroiseN => Sys2Proof.Machine.execZeroiseN s
  | .tamperDetect cause => Sys2Proof.Machine.execTamperDetect cause s
  | .secSessionTimeout f => Sys2Proof.Machine.execSecSessionTimeout f s
  | .secPeriodicSelftest failed => Sys2Proof.Machine.execSecPeriodicSelftest failed s
  | .secKexExpiry f => Sys2Proof.Machine.execSecKexExpiry f s
  | .popIntervalEnd l => Sys2Proof.Machine.execPopIntervalEnd l s
  | .lanCtrlTestWrite n v => Sys2Proof.Machine.execLanCtrlTestWrite n v s
  | .lanEyeScan => Sys2Proof.Machine.execLanEyeScan s
  | .laneLos n => Sys2Proof.Machine.execLaneLos n s
  | .xplFlit x seq ack crcOk badLane cls dst src payload => Sys2Proof.Machine.execXplFlit x seq ack crcOk badLane cls dst src payload s
  | .xplRetrain x v => Sys2Proof.Machine.execXplRetrain x v s
  | .xplWidthRequest x width full => Sys2Proof.Machine.execXplWidthRequest x width full s
  | .xplCollisionRetry x => Sys2Proof.Machine.execXplCollisionRetry x s
  | .xplRetrainDone x ok peer good => Sys2Proof.Machine.execXplRetrainDone x ok peer good s
  | .xplBerWindow x => Sys2Proof.Machine.execXplBerWindow x s
  | .xplRegrow x lane passed => Sys2Proof.Machine.execXplRegrow x lane passed s
  | .xplDiscover x peerPkg peerLink edges => Sys2Proof.Machine.execXplDiscover x peerPkg peerLink edges s
  | .xplRouteRebuild => Sys2Proof.Machine.execXplRouteRebuild s
  | .unitFault p kind tiles => Sys2Proof.Machine.execUnitFault p kind tiles s
  | .spareLoaded c => Sys2Proof.Machine.execSpareLoaded c s
  | .fenceRetest p => Sys2Proof.Machine.execFenceRetest p s
  | .retestDone p passed => Sys2Proof.Machine.execRetestDone p passed s
  | .eclipseRotation c => Sys2Proof.Machine.execEclipseRotation c s
  | .sentinelCheck answered => Sys2Proof.Machine.execSentinelCheck answered s
  | .poisonOwnerLookup line => Sys2Proof.Machine.execPoisonOwnerLookup line s
  | .patinaLineRestore line => Sys2Proof.Machine.execPatinaLineRestore line s
  | .ctxQuarantineRebuild idx => Sys2Proof.Machine.execCtxQuarantineRebuild idx s
  | .fltInject v tiles => Sys2Proof.Machine.execFltInject v tiles s
  | .fltInfo => Sys2Proof.Machine.execFltInfo s
  | .fltUnfence => Sys2Proof.Machine.execFltUnfence s
  | .fltFence => Sys2Proof.Machine.execFltFence s
  | .fltPairSwap => Sys2Proof.Machine.execFltPairSwap s
  | .fltPairInfo => Sys2Proof.Machine.execFltPairInfo s
  | .pairHeartbeat => Sys2Proof.Machine.execPairHeartbeat s
  | .pairDetectTimeout ring => Sys2Proof.Machine.execPairDetectTimeout ring s
  | .pairYield cause => Sys2Proof.Machine.execPairYield cause s
  | .pairTakeover us => Sys2Proof.Machine.execPairTakeover us s
  | .pairMirrorItem seq p group frame prms objs => Sys2Proof.Machine.execPairMirrorItem seq p group frame prms objs s
  | .pairCheckpoint seq group frame content => Sys2Proof.Machine.execPairCheckpoint seq group frame content s
  | .pairSwapTimer => Sys2Proof.Machine.execPairSwapTimer s
  | .pairRevert => Sys2Proof.Machine.execPairRevert s
  | .sysPwrok level => Sys2Proof.Machine.execSysPwrok level s
  | .pkgResetN level => Sys2Proof.Machine.execPkgResetN level s
  | .hubPkgReset v => Sys2Proof.Machine.execHubPkgReset v s
  | .armReboot v => Sys2Proof.Machine.execArmReboot v s
  | .hostPerstN level => Sys2Proof.Machine.execHostPerstN level s
  | .functionLevelReset f => Sys2Proof.Machine.execFunctionLevelReset f s
  | .strapEnd => Sys2Proof.Machine.execStrapEnd s
  | .bootEnd dies failedTest imgA imgB => Sys2Proof.Machine.execBootEnd dies failedTest imgA imgB s
  | .trainEnd lost => Sys2Proof.Machine.execTrainEnd lost s
  | .discoverEnd partner => Sys2Proof.Machine.execDiscoverEnd partner s
  | .firstImageLatched => Sys2Proof.Machine.execFirstImageLatched s
  | .bootTimeWaitExpiry => Sys2Proof.Machine.execBootTimeWaitExpiry s
  | .nvsBankWriteDone => Sys2Proof.Machine.execNvsBankWriteDone s
  | .nvsSaveDeferred => Sys2Proof.Machine.execNvsSaveDeferred s
  | .ticketedWorkComplete f ticket status data => Sys2Proof.Machine.execTicketedWorkComplete f ticket status data s
  | .timAcquireTimeout => Sys2Proof.Machine.execTimAcquireTimeout s
  | .busMasterEnableClear f => Sys2Proof.Machine.execBusMasterEnableClear f s
  | .vfEnableClear => Sys2Proof.Machine.execVfEnableClear s
  | .xplLinkLockLost x => Sys2Proof.Machine.execXplLinkLockLost x s
  | .prbsLock n inverted => Sys2Proof.Machine.execPrbsLock n inverted s
  | .prbsLockLoss n bits errs => Sys2Proof.Machine.execPrbsLockLoss n bits errs s
  | .trainLock tlk n => Sys2Proof.Machine.execTrainLock tlk n s
  | .audInputSample p a b valid parityOk biphaseOk => Sys2Proof.Machine.execAudInputSample p a b valid parityOk biphaseOk s
  | .rotationSelftestDone c passed => Sys2Proof.Machine.execRotationSelftestDone c passed s
  | .pairMirrorAck seq => Sys2Proof.Machine.execPairMirrorAck seq s
  | .nvmeAbortTimeout d => Sys2Proof.Machine.execNvmeAbortTimeout d s

end Sys2Proof.Machine
end

