-- ==== Sys2Proof/Machine/TimeBase.lean ====
section
/-! DEFINITION. What one core clock cycle of 4 ns does where no command waits (notes/assumptions/2). -/
namespace Sys2Proof.Machine

/-- R519: device time advances by 4 ns and four times ρ, modulo 2^48 seconds. -/
def timeAfter (now : Nat) (rho : Int) : Nat :=
  (((now : Int) + 4 * 2 ^ 48 + 4 * rho) % ((2 ^ 48 * SEC * 2 ^ 32 : Nat) : Int)).toNat

/-- At each full second: ρ of a locked servo is remembered (R526), and a second at the limit is counted (TIM_SLEW_LIMIT_S). -/
def secondPassed : Act := fun s =>
  (if timFld s Fld.TIM_STATE.LOCKED = 1 then [.tim fun t => { t with rhoHist := (t.rho :: t.rhoHist).take 3600 }] else []) ++
  (if timFld s Fld.TIM_STATE.AT_LIMIT = 1 then [.count Prm.TIM_SLEW_LIMIT_S 1] else [])

/-- One cycle. -/
def actTick : Act := acts [
  eff [.tick, .tim fun t => { t with now := timeAfter t.now t.rho }],
  fun s => if s.uptime % secTicks = 0 then secondPassed s else []]

/-- The state after one cycle. -/
def tick (s : State) : State := actTick.run s

end Sys2Proof.Machine
end

