-- ==== Sys2Proof/Safety.lean ====
section
/-! DEFINITION. The terms in which claims about the machine are stated: what a safe step is, the invariant of every state, the
event bits, a command in service and what an answer leaves. -/
namespace Sys2Proof.Machine

/-- A step is safe if the block goes on. -/
abbrev safeStep (s : State) : Prop := ∃ t, step s = .next t

/-- The status bit of an event source (R148). -/
def State.evt (s : State) (e : Nat) : Bool := (s.rd (Reg.EVT_STATUS (e / 32))).getLsbD (e % 32)

/-- The entries of a register file: offsets strictly rising, no register at its reset value, and reserved bits 0 (R13). -/
def regsWf (lo : Nat) : List (Nat × Word) → Bool
  | [] => true
  | (k, v) :: t => decide (lo ≤ k) && decide (v ≠ regReset k) && decide (v &&& ~~~regMask k = 0) && regsWf (k + 1) t

/-- The invariant that every step keeps: the three byte memories and the register file are in canonical form, and a reserved bit of a
register reads 0 (R13). -/
abbrev Inv (s : State) : Prop :=
  Memory.wf s.devMem = true ∧ Memory.wf s.hostMem = true ∧ Memory.wf s.pageMem = true ∧ regsWf 0 s.regs.entries = true

/-- The command k of opcode op, of one of the package's own functions, is in service, with no reserved header field set (R91, R99). -/
abbrev Served (s : State) (op : Nat) (k : Svc) : Prop :=
  s.arm.inService = some k ∧ k.cmd.opcode = op ∧ k.cmd.clean = true ∧ k.remote = none ∧ k.f < 64

/-- The state in which a security command is served: its function's session, if it has one, was last used now (R645). -/
def sessionKept (k : Svc) (s : State) : State :=
  applyAll [.sec fun x => { x with sessions := x.sessions.alter k.f fun y => { y with last := s.uptime } }] s

/-- The state that an act leaves and then the answer st with a payload to the command k. -/
def answered (k : Svc) (st : Nat) (payload : Bytes) (a : Act) (s : State) : State := (respond k st payload 0).run (a.run s)

/-- The state that ST_PENDING leaves: a ticket is opened, the act is run, the ticket counts follow, and the ticket is answered. -/
def pended (k : Svc) (a : Act) (s : State) : State :=
  (respond k ST_PENDING [] (ticketId k.f (s.mbx k.f).nextTicket)).run ((syncTickets k.f).run (a.run ((openTicket k).run s)))

/-- The function of k has fewer than 16 tickets (R102). -/
abbrev TicketFree (s : State) (k : Svc) : Prop := (s.mbx k.f).tickets.length < 16

/-- Two states hold the same memories, drives, fuses and pins. -/
abbrev sameStores (s t : State) : Prop :=
  t.devMem = s.devMem ∧ t.hostMem = s.hostMem ∧ t.pageMem = s.pageMem ∧ t.cst = s.cst ∧ t.otp = s.otp ∧ t.pins = s.pins

end Sys2Proof.Machine
end

