-- ==== Sys2Proof/WellFormed.lean ====
section
/-! DEFINITION. Which commands the block's outside can send: an operand that is a number stays within the width of what carries it. A
command's other operands are bounded by their types. -/
namespace Sys2Proof

/-- Every number of a list lies below a bound. -/
def allBelow (b : Nat) (l : List Nat) : Bool := l.all fun x => decide (x < b)

/-- A command that the outside can send. -/
def Instr.wf : Instr → Bool
  | .registerWrite _ off width _ => decide (off < 2 ^ 26) && [1, 2, 4, 8].contains width
  | .pairLoRead _ off => decide (off < 2 ^ 26) && decide (off % 4 = 0)
  | .pairHiWrite _ off _ => decide (off < 2 ^ 26) && decide (off % 4 = 0)
  | .pairLoWrite _ off _ => decide (off < 2 ^ 26) && decide (off % 4 = 0)
  | .commitValidated _ (some (links, crc)) => decide (links < 2 ^ 64) && decide (crc < 2 ^ 32)
  | .paceWindowEnd _ rate => decide (rate < 2 ^ 16)
  | .hkSample value => decide (value < 2 ^ 16)
  | .convDone value => decide (value < 2 ^ 16)
  | .vcoreStep _ mv readback => decide (mv < 1024) && readback.all fun v => decide (v < 1024)
  | .salAlignColumn _ _ lanes => decide (lanes.length ≤ 8) && lanes.all fun l => decide (l.1 < 32)
  | .xplMbxForward _ _ header _ => decide (header.length = 32)
  | .unitToken _ _ _ _ _ y x _ _ => decide (x % 4 = 0) && decide (y < 2 ^ 16) && decide (x < 2 ^ 16)
  | .libMapBuildDone found => found.all fun e => decide (e.1 < 2 ^ 25)
  | .syncReply _ _ _ _ cd cu t2 t3 => allBelow (2 ^ 64) [cd, cu, t2, t3]
  | .audCsBlock _ _ status user => decide (status.length = 24) && decide (user.length = 24)
  | .cstPieceDone _ lba _ => decide (lba < 2 ^ 64)
  | .drvCmdTimeout _ lba => decide (lba < 2 ^ 64)
  | .memAllocDone _ ticket => decide (ticket < 2 ^ 32)
  | .memRequest _ _ addr write len _ _ _ _ =>
    decide (addr < 2 ^ 48) && decide (len ≤ 64) && write.all fun bs => decide (bs.length ≤ 64)
  | .scrubLine _ line _ => decide (line < 2 ^ 42)
  | .secPeriodicSelftest failed => decide (failed < 2 ^ 16)
  | .xplFlit _ seq ack _ _ cls dst src _ => allBelow (2 ^ 16) [seq, ack] && decide (cls < 5) && allBelow 16 [dst, src]
  | .xplWidthRequest _ width _ => [1, 2, 4, 8].contains width
  | .xplRetrainDone _ _ peer _ => decide (peer < 256)
  | .xplDiscover _ _ _ edges => edges.all fun e => allBelow 16 [e.1, e.2.2.1] && allBelow 4 [e.2.1, e.2.2.2]
  | .unitFault _ _ tiles => allBelow 65536 tiles
  | .fltInject _ tiles => allBelow 65536 tiles
  | .poisonOwnerLookup line => decide (line < 2 ^ 42)
  | .patinaLineRestore line => decide (line < 2 ^ 42)
  | .pairMirrorItem _ _ _ _ prms objs => (prms.all fun p => decide (p.1 < 2 ^ 16)) && objs.all fun o => decide (o.2.1 < 2 ^ 20)
  | .ticketedWorkComplete _ ticket status _ => decide (ticket < 2 ^ 32) && decide (status < 2 ^ 16)
  | _ => true

end Sys2Proof
end

