-- ==== Sys2Proof/Certificates/Slice0/Obligations.lean ====
section
/-! DEFINITION. The statements for the provers. A statement of a command's result names the next state: applyAll es s is s after the
effects es in order (statement EffectReads says what each effect leaves and what it keeps), and answered and pended are the states an
answer of the mailbox leaves (statement AnswerReaches). -/
open Sys2Proof Sys2Proof.Machine

/-- The command at the front of the queue leaves it and is executed on the rest. -/
def Obligations.StepRunsFront : Prop := ∀ (c : Instr) (rest : List Instr) (s : State),
  s.pending = c :: rest → step s = exec c { s with pending := rest }

/-- With no command waiting a step advances the core clock by one cycle of 4 ns and changes nothing else that a command can see (notes/assumptions/2). -/
def Obligations.IdleStepTicks : Prop := ∀ s : State, s.pending = [] → step s = .next (tick s) ∧ (tick s).uptime = s.uptime + 1

/-- No command stops the block, and none touches the queue of commands. -/
def Obligations.EveryCommandAnswers : Prop := ∀ (c : Instr) (s : State), ∃ t, exec c s = .next t ∧ t.pending = s.pending

/-- Every step keeps the invariant. -/
def Obligations.StepKeepsInv : Prop := ∀ s t : State, Inv s → step s = .next t → Inv t

/-- The invariant holds at reset. -/
def Obligations.ResetMeetsInv : Prop := Inv State.reset

/-- R13: in every state that meets the invariant a reserved bit of a register reads 0, and an offset that no register has reads 0. -/
def Obligations.ReservedBitsReadZero : Prop := ∀ (s : State) (off i : Nat), Inv s → (regMask off).getLsbD i = false →
  (s.rd off).getLsbD i = false

/-! ### Register accesses (chapters 03 and 04) -/

/-- R131, R132, R133, R134, R135: accesses of the host to registers that have no behaviour of their own, and to pairs. -/
def Obligations.HostRegisterAccess : Prop :=
  (∀ (f : Fn) (off o : Nat) (v : Word) (s : State), off % 4 = 0 → winOff f off = some o → bar0Ignored f o = false → ownRow o = false →
    inCommandArea o = false → (regFind o regTable).isSome → isDmaCtrl o = false → triggers o v = false → audIndexRo s o = false →
    o ≠ Reg.NVS_RING_SEL →
    ∃ t, exec (.registerWrite f off 4 v) s = .next t ∧ t.rd o = hostWord s o v &&& regMask o ∧
      (∀ a, a ≠ o → t.rd a = s.rd a) ∧ sameStores s t ∧ t.prms = s.prms ∧ t.out = s.out) ∧
  (∀ (f : Fn) (off width : Nat) (v : Word) (s : State), width ≠ 4 → exec (.registerWrite f off width v) s = .next s) ∧
  (∀ (f : Fn) (off o : Nat) (w : Bool) (s : State), winOff f off = some o → pairAt o = some w → tripped s = false →
    ∃ t, exec (.pairLoRead f off) s = .next t ∧ t.out = s.out ++ [.readData f o (s.rd o)] ∧ pairHiRead t f o = s.rd (o + 4) ∧
      t.regs = s.regs ∧ sameStores s t) ∧
  (∀ (f : Fn) (off o : Nat) (v : Word) (s : State), winOff f off = some o → bar0Ignored f o = false → pairAt o = some true →
    ∃ t, exec (.pairLoWrite f off v) s = .next t ∧ t.pairHeld.find (pairKey f o) = some v ∧ t.regs = s.regs ∧ sameStores s t) ∧
  (∀ (f : Fn) (off o : Nat) (v lo : Word) (s : State), winOff f off = some o → bar0Ignored f o = false → 4 ≤ o →
    pairAt (o - 4) = some true → s.pairHeld.find (pairKey f (o - 4)) = some lo →
    ∃ t, exec (.pairHiWrite f off v) s = .next t ∧ t.rd (o - 4) = lo &&& regMask (o - 4) ∧ t.rd o = v &&& regMask o ∧
      (∀ a, a ≠ o → a ≠ o - 4 → t.rd a = s.rd a) ∧ t.pairHeld.find (pairKey f (o - 4)) = none ∧ sameStores s t) ∧
  (∀ (v : Word) (s : State), getFld v Fld.HUB_LOCK.LOCK = 1 →
    ∃ t, exec (.hubLock v) s = .next t ∧ t.flag Reg.HUB_LOCK Fld.HUB_LOCK.LOCK = true ∧ (∀ a, a ≠ Reg.HUB_LOCK → t.rd a = s.rd a) ∧ sameStores s t) ∧
  (∀ (v : Word) (s : State), s.flag Reg.HUB_LOCK Fld.HUB_LOCK.LOCK = true →
    ∃ t, exec (.hubLock v) s = .next t ∧ t.flag Reg.HUB_LOCK Fld.HUB_LOCK.LOCK = true)

/-- R132, R135, R140: a host write leaves each bit of a field as the access type of its field says, and a locked RWL field keeps its bits. -/
def Obligations.AccessTypes : Prop := ∀ (locked : Bool) (rows : List FieldRow) (v old i : Nat) (r : FieldRow),
  rows.Pairwise (fun a b => a.hi < b.lo ∨ b.hi < a.lo) → (∀ a ∈ rows, a.lo ≤ a.hi ∧ a.hi < 32) → r ∈ rows → r.lo ≤ i → i ≤ r.hi →
  (accessWord locked rows v old).testBit i =
    match r.acc with
    | .rw => v.testBit i
    | .rwl => if locked then old.testBit i else v.testBit i
    | .w1c => old.testBit i && !v.testBit i
    | .w1s => old.testBit i || v.testBit i
    | .ro => old.testBit i
    | .wo => old.testBit i
    | .sc => old.testBit i

/-- The writes of the event matrix: W1C of a status word, a mask word, a forced source, a route that is allowed, a local vector
and a VF's own route (R148, R150, R152, R153, R154, R157). -/
def Obligations.EventMatrixWrites : Prop :=
  (∀ (f : Fn) (k : Fin 8) (v : Word) (s : State), ∃ t, exec (.evtStatusWrite f k v) s = .next t ∧
    t.rd (Reg.EVT_STATUS k) = s.rd (Reg.EVT_STATUS k) &&& ~~~(v &&& evtView s f k) &&& regMask (Reg.EVT_STATUS k) ∧
    (∀ a, a ≠ Reg.EVT_STATUS k → t.rd a = s.rd a) ∧ sameStores s t) ∧
  (∀ (f : Fn) (k : Fin 8) (v : Word) (s : State), ∃ t, exec (.evtMaskWrite f k v) s = .next t ∧
    t.rd (Reg.EVT_MASK k) = ((s.rd (Reg.EVT_MASK k) &&& ~~~(evtView s f k)) ||| (v &&& evtView s f k)) &&& regMask (Reg.EVT_MASK k) ∧
    (∀ a, a ≠ Reg.EVT_MASK k → t.rd a = s.rd a) ∧ sameStores s t) ∧
  (∀ (k : Fin 8) (v : Word) (s : State) (i : Fin 32), v.getLsbD i = true → evtReserved (32 * k + i) = false →
    ∃ t, exec (.evtForceWrite k v) s = .next t ∧ t.evt (32 * k + i) = true ∧ sameStores s t) ∧
  (∀ (e : Fin 256) (v : Word) (s : State), evtReserved e = false → v.getLsbD 31 = true →
    mayRoute s e (if e.val < 64 then e.val else getFld v Fld.EVT_ROUTE.FUNC) = true →
    getFld v Fld.EVT_ROUTE.VECTOR < vecRange (if e.val < 64 then e.val else getFld v Fld.EVT_ROUTE.FUNC) →
    ∃ t, exec (.evtRouteWrite e v) s = .next t ∧ t.flag (Reg.EVT_ROUTE e) Fld.EVT_ROUTE.EN = true ∧
      t.fld (Reg.EVT_ROUTE e) Fld.EVT_ROUTE.VECTOR = getFld v Fld.EVT_ROUTE.VECTOR ∧
      t.fld (Reg.EVT_ROUTE e) Fld.EVT_ROUTE.FUNC = (if e.val < 64 then e.val else getFld v Fld.EVT_ROUTE.FUNC) ∧
      (∀ a, a ≠ Reg.EVT_ROUTE e → t.rd a = s.rd a) ∧ sameStores s t) ∧
  (∀ (e : Fin 256) (v : Word) (s : State), evtReserved e = false → v.getLsbD 31 = true →
    vecRange (if e.val < 64 then e.val else getFld v Fld.EVT_ROUTE.FUNC) ≤ getFld v Fld.EVT_ROUTE.VECTOR →
    ∃ t, exec (.evtRouteWrite e v) s = .next t ∧ t.flag (Reg.EVT_ROUTE e) Fld.EVT_ROUTE.ROUTE_ERR = true ∧
      t.fld (Reg.EVT_ROUTE e) Fld.EVT_ROUTE.VECTOR = s.fld (Reg.EVT_ROUTE e) Fld.EVT_ROUTE.VECTOR ∧
      t.fld (Reg.EVT_ROUTE e) Fld.EVT_ROUTE.EN = s.fld (Reg.EVT_ROUTE e) Fld.EVT_ROUTE.EN) ∧
  (∀ (f : Fn) (v : Word) (s : State), getFld v Fld.EVT_LOCAL.CST_VEC < vecRange f → getFld v Fld.EVT_LOCAL.DMA_VEC < vecRange f →
    ∃ t, exec (.evtLocalWrite f v) s = .next t ∧ t.rd (Reg.EVT_LOCAL f) = v &&& regMask (Reg.EVT_LOCAL f) ∧
      (∀ a, a ≠ Reg.EVT_LOCAL f → t.rd a = s.rd a) ∧ sameStores s t) ∧
  (∀ (f : Fn) (v : Word) (s : State), f.val ≠ 0 → ∃ t, exec (.evtVfRouteSelf f v) s = .next t ∧
    t.fld (Reg.EVT_ROUTE f) Fld.EVT_ROUTE.VECTOR = bitsOf v.toNat 2 0 ∧ t.fld (Reg.EVT_ROUTE f) Fld.EVT_ROUTE.EN = bitsOf v.toNat 31 31 ∧
    t.fld (Reg.EVT_ROUTE f) Fld.EVT_ROUTE.FUNC = s.fld (Reg.EVT_ROUTE f) Fld.EVT_ROUTE.FUNC ∧ (∀ a, a ≠ Reg.EVT_ROUTE f → t.rd a = s.rd a))

/-! ### Mailboxes, commits and aborts (chapter 03) -/

/-- R92, R93, R98: the answer of a local command reaches its page: the payload, then the header with the opcode, the status, SEQ, the
payload's length and the ticket; the mailbox reads DONE, the response is the stored one, no command is in service, and E000 + f is
raised unless the command polls. SERVICE_US is a free value. -/
def Obligations.AnswerReaches : Prop := ∀ (s : State) (k : Svc) (st ticket : Nat) (payload : Bytes),
  k.remote = none → k.f < 64 → payload.length ≤ 4064 →
  let t := applyAll (respond k st payload ticket s) s
  let h := rspHeader k.cmd.opcode st k.cmd.seq payload.length ticket s.free.toNat
  memReadBytes t.pageMem (pageBase k.f + 0x1000) 32 = h ∧
  memReadBytes t.pageMem (pageBase k.f + 0x1020) payload.length = payload ∧
  (t.mbx k.f).stored = h ++ payload ∧ (t.mbx k.f).rung = none ∧
  t.fld (Reg.MBX_STATE k.f) Fld.MBX_STATE.STATE = 2 ∧ t.arm.inService = none ∧ t.arm.lastServed = k.f ∧
  (k.cmd.poll = false → t.evt k.f = true) ∧ t.freeCtr = s.freeCtr + 1 ∧
  t.devMem = s.devMem ∧ t.hostMem = s.hostMem ∧ t.prms = s.prms ∧
  (∀ a, a < pageBase k.f + 0x1000 ∨ pageBase k.f + 0x1020 + payload.length ≤ a → memRead t.pageMem a = memRead s.pageMem a)

/-- R96, R97, R99: a doorbell copies the command and sets BUSY, or sets RING_LOST while one is in service; the Armature takes the next
rung mailbox; a sequence already answered is answered again with the stored response (R93). -/
def Obligations.MailboxTurn : Prop :=
  (∀ (f : Fn) (v : Word) (s : State), getFld v Fld.MBX_DOORBELL.RING = 1 → s.fld (Reg.MBX_STATE f) Fld.MBX_STATE.STATE ≠ 1 →
    s.fld (Reg.MBX_STATE f) Fld.MBX_STATE.STATE ≠ 3 →
    ∃ t, exec (.mbxDoorbell f v) s = .next t ∧ (t.mbx f).rung = some (copyCommand s f (getFld v Fld.MBX_DOORBELL.SEQ)) ∧
      t.fld (Reg.MBX_STATE f) Fld.MBX_STATE.STATE = 1 ∧ (∀ a, a ≠ Reg.MBX_STATE f → t.rd a = s.rd a) ∧ sameStores s t) ∧
  (∀ (f : Fn) (v : Word) (s : State), getFld v Fld.MBX_DOORBELL.RING = 1 → s.fld (Reg.MBX_STATE f) Fld.MBX_STATE.STATE = 1 →
    ∃ t, exec (.mbxDoorbell f v) s = .next t ∧ t.flag (Reg.MBX_STATE f) Fld.MBX_STATE.RING_LOST = true ∧ t.arm = s.arm) ∧
  (∀ (f : Nat) (c : Cmd) (s : State), s.arm.dead = false → s.arm.serving = true → s.arm.halted = false → s.arm.inService = none →
    nextRung s = some f → f < 64 → (s.mbx f).rung = some c → c.dbSeq = c.seq → (s.mbx f).anySeq = true → opcodeDefined c.opcode = true →
    c.len ≤ 4064 →
    ∃ t, exec .mbxServiceStart s = .next t ∧ t.arm.inService = some ⟨f, c, none⟩ ∧
      t.fld (Reg.MBX_STATE f) Fld.MBX_STATE.LAST_SEQ = c.seq % 65536 ∧ (∀ a, a ≠ Reg.MBX_STATE f → t.rd a = s.rd a) ∧ sameStores s t) ∧
  (∀ (f : Nat) (c : Cmd) (s : State), s.arm.dead = false → s.arm.serving = true → s.arm.halted = false → s.arm.inService = none →
    nextRung s = some f → f < 64 → (s.mbx f).rung = some c → c.dbSeq = c.seq → (s.mbx f).anySeq = false →
    c.seq < 65536 → s.fld (Reg.MBX_STATE f) Fld.MBX_STATE.LAST_SEQ = c.seq → (s.mbx f).stored.length ≤ 4096 → 32 ≤ (s.mbx f).stored.length →
    ∃ t, exec .mbxServiceStart s = .next t ∧ memReadBytes t.pageMem (pageBase f + 0x1000) 32 = (s.mbx f).stored.take 32 ∧
      t.arm.inService = none ∧ t.fld (Reg.MBX_STATE f) Fld.MBX_STATE.STATE = 2 ∧ t.prms = s.prms ∧ t.arm.commits = s.arm.commits)

/-- R108, R110: the commands of opcode group 0x01. Each is answered ST_OK under the conditions named, and does nothing else but what its
effects say. -/
def Obligations.MailboxBasics : Prop :=
  (∀ (k : Svc) (s : State), Served s 0x100 k → k.cmd.len = 0 →
    exec .sysInfo s = .next (answered k ST_OK (leBytes 4 (s.rd Reg.HUB_ID).toNat ++ leBytes 1 s.otp.grade ++
      leBytes 1 (s.fld Reg.HUB_TOPOLOGY Fld.HUB_TOPOLOGY.PKG_ID) ++ leBytes 1 (match k.remote with | none => k.f | some (_, f, _) => f) ++ [0] ++
      leBytes 4 (s.pn Prm.FW_RELEASE) ++ leBytes 4 (k.mask s)) (eff []) s)) ∧
  (∀ (k : Svc) (s : State), Served s 0x101 k → k.n 0 2 = 1 → k.cmd.len = 6 → zeroAt k.cmd.payload 2 2 = true → readClears (k.n 4 2) = false →
    exec .prmGet s = .next (answered k ST_OK (getEntry k s (k.n 4 2)) (eff []) s)) ∧
  (∀ (k : Svc) (s : State), Served s 0x102 k → s.nvs.reply = none → k.n 0 2 = 1 → k.cmd.len = 12 → zeroAt k.cmd.payload 2 2 = true →
    setStatus k s 1 0 = ST_OK → bootMarked (setId k 0) = false → savedPrm (setId k 0) = false →
    exec .prmSet s = .next (answered k ST_OK (setAnswer k 1 fun _ => ST_OK) (setEntries k 1) s)) ∧
  (∀ (k : Svc) (s : State), Served s 0x111 k → k.cmd.len = 0 →
    (s.stagedOf k.f).any (fun x => match x with | .obj q _ _ => q == K_SWITCH | _ => false) = false →
    exec .cfgDiscard s = .next (answered k ST_OK [] (eff [.arm fun a => { a with staged := a.staged.del k.f }]) s)) ∧
  (∀ (k : Svc) (s : State), Served s 0x112 k → k.cmd.len = 0 →
    exec .cfgStatus s = .next (answered k ST_OK (leBytes 4 (s.stagedOf k.f).length ++
      leBytes 4 (match s.arm.commits.find k.f with | some c => c.ticket | none => 0) ++ leBytes 8 (s.arm.lastApplied.getD k.f 0)) (eff []) s)) ∧
  (∀ (k : Svc) (t : Ticket) (s : State), Served s 0x120 k → k.cmd.len = 4 → k.n 0 4 ≠ 0xFFFFFFFF → s.ticket k.f (k.n 0 4) = some t →
    t.done = true → (collect k t).status = ST_OK → exec .tktGet s = .next (answered k ST_OK (collect k t).payload (collect k t).act s)) ∧
  (∀ (k : Svc) (p : PipeRow) (s : State), Served s 0x130 k → k.cmd.len = 4 → (pipes s)[k.n 0 4]? = some p →
    exec .pipeDescribe s = .next (answered k ST_OK (leBytes 4 (k.n 0 4) ++ leBytes 2 (pipes s).length ++ leBytes 1 p.kind ++ leBytes 1 p.index ++
      leBytes 4 p.window ++ leBytes 2 p.stages.length ++ [0, 0] ++ p.stages.flatMap (stageEntry s (k.n 0 4))) (eff []) s))

/-- R112, R113: a commit with NEXT takes the staged set, which is empty after it, and answers ST_PENDING with a ticket; R116: a commit
whose validation finds a fault is answered with that status and nothing of it is applied. -/
def Obligations.CommitTakesStagedSet : Prop :=
  (∀ (k : Svc) (s : State), Served s 0x110 k → k.cmd.len = 16 → k.n 0 1 < 4 → k.n 1 1 = 1 → zeroAt k.cmd.payload 2 6 = true → k.n 14 2 = 0 →
    (standbyRefuses s).1 = false → s.arm.commits.has k.f = false → TicketFree s k →
    ∃ t, exec .cfgCommit s = .next t ∧ t = pended k (eff [.arm fun a => { a with
        commits := a.commits.put k.f ⟨ticketId k.f (s.mbx k.f).nextTicket, k.cmd.poll, k.n 0 1, 0, true, false, s.stagedOf k.f, none, 0⟩,
        staged := a.staged.del k.f }]) s ∧ t.stagedOf k.f = []) ∧
  (∀ (p : Fin 96) (peer : Option (Nat × Nat)) (c : Commit) (st : Nat) (s : State), s.arm.commits.find p = some c → s.arm.halted = false →
    c.order = 0 → (verdict p c.items peer s).1 = some st → stagesKind c.items K_SWITCH = false →
    exec (.commitValidated p peer) s = .next ((endCommit p st (commitResult c.requested 0 0)).run s)) ∧
  (∀ (p : Fin 96) (peer : Option (Nat × Nat)) (c : Commit) (s : State), s.arm.commits.find p = some c → s.arm.halted = false →
    c.order = 0 → (verdict p c.items peer s).1 = none → stagesKind c.items K_LAYER = false → mirrors s = false →
    exec (.commitValidated p peer) s = .next ((armCommit p).run { s with arm := { s.arm with
      clock := s.arm.clock + 1, commits := s.arm.commits.put p { c with order := s.arm.clock + 1 } } }))

/-- R85, R86, R87, R712: a mismatch of the lockstep cores and an expired watchdog halt the Armature, raise E067 or E066 and are counted as
a recovery, and do nothing where the Armature is not watched; a recovery that verifies ends the halt with the slot the boot order names, and one
that verifies neither slot leaves the Armature dead. -/
def Obligations.ArmatureFails : Prop :=
  (∀ s : State, watched s = true → s.fld Reg.HUB_BOOT Fld.HUB_BOOT.STATE = 3 → recentRecoveries s = [] → 0 < s.pn Prm.PLN_RECOVERY_MAX →
    ∃ t, exec .armatureLockstepMismatch s = .next t ∧ t.arm.halted = true ∧ t.arm.cause = 1 ∧ t.evt 67 = true ∧
      t.flt.recoveries = [s.uptime] ∧ t.devMem = s.devMem ∧ t.pageMem = s.pageMem) ∧
  (∀ s : State, watched s = true → s.fld Reg.HUB_BOOT Fld.HUB_BOOT.STATE = 3 → recentRecoveries s = [] → 0 < s.pn Prm.PLN_RECOVERY_MAX →
    ∃ t, exec .armatureWatchdogExpiry s = .next t ∧ t.arm.halted = true ∧ t.arm.cause = 2 ∧ t.evt 66 = true ∧
      t.flt.recoveries = [s.uptime] ∧ t.devMem = s.devMem ∧ t.pageMem = s.pageMem) ∧
  (∀ (s : State), watched s = false →
    exec .armatureLockstepMismatch s = .next s ∧ exec .armatureWatchdogExpiry s = .next s) ∧
  (∀ (firstOk : Bool) (ms : Nat) (s : State), s.arm.dead = false → s.arm.halted = true →
    ∃ t, exec (.armatureRecovered true firstOk ms) s = .next t ∧ t.arm.halted = false ∧ t.arm.slotB = (bootOrder s).1) ∧
  (∀ (ms : Nat) (s : State), s.arm.dead = false → s.arm.halted = true →
    ∃ t, exec (.armatureRecovered false false ms) s = .next t ∧ t.arm.dead = true ∧ t.arm.halted = true)

/-- R121, R124, R126, R122, R123: a write of GO starts an abort, or queues one behind the abort in progress; its end shows RESULT and DONE
and raises E000 + f and E064, with E065 as well where the 2 ms of R123 ran out. -/
def Obligations.Aborts : Prop :=
  (∀ (writer f : Fn) (v : Word) (s : State), (writer.val = 0 ∨ writer = f) → getFld v Fld.ABT_CTRL.GO = 1 → s.arm.aborts.find f = none →
    ∃ t, exec (.abtGo writer f v) s = .next t ∧
      t = (startAbort f (getFld v Fld.ABT_CTRL.TARGET) (getFld v Fld.ABT_CTRL.INDEX) false).run
        (applyAll [.reg (Reg.ABT_CTRL f) (hostWord s (Reg.ABT_CTRL f) v)] s)) ∧
  (∀ (writer f : Fn) (v : Word) (a : Abort) (s : State), (writer.val = 0 ∨ writer = f) → getFld v Fld.ABT_CTRL.GO = 1 →
    s.arm.aborts.find f = some a → a.queued = none →
    ∃ t, exec (.abtGo writer f v) s = .next t ∧ t.flag (Reg.ABT_CTRL f) Fld.ABT_CTRL.QUEUED = true ∧
      (t.arm.aborts.find f).bind (·.queued) = some (getFld v Fld.ABT_CTRL.TARGET, getFld v Fld.ABT_CTRL.INDEX) ∧ sameStores s t) ∧
  (∀ (writer f : Fn) (v : Word) (s : State), writer.val ≠ 0 → writer ≠ f → exec (.abtGo writer f v) s = .next s) ∧
  (∀ (f : Fn) (a : Abort) (s : State), s.arm.aborts.find f = some a → a.queued = none → a.reset = false →
    ∃ t, exec (.abortComplete f) s = .next t ∧ t.arm.aborts.find f = none ∧ t.flag (Reg.ABT_CTRL f) Fld.ABT_CTRL.DONE = true ∧
      t.flag (Reg.ABT_CTRL f) Fld.ABT_CTRL.BUSY = false ∧ t.fld (Reg.ABT_CTRL f) Fld.ABT_CTRL.RESULT = a.result % 4 ∧
      t.evt f = true ∧ t.evt 64 = true ∧ sameStores s t) ∧
  (∀ (f : Fn) (a : Abort) (s : State), s.arm.aborts.find f = some a → a.queued = none → a.reset = false →
    ∃ t, exec (.abortTimeout f) s = .next t ∧ t.arm.aborts.find f = none ∧ t.flag (Reg.ABT_CTRL f) Fld.ABT_CTRL.DONE = true ∧
      t.evt f = true ∧ t.evt 65 = true ∧ t.evt 64 = true ∧ sameStores s t)

/-! ### Thermal and power rows (chapters 02 and 22) -/

/-- R70, R733, R734: a window of a pace monitor, a sample of the housekeeping orbit, and a conversion that the host asks for. -/
def Obligations.SamplesAndWindows : Prop :=
  (∀ (p : Fin 2176) (rate : Nat) (s : State), s.boot.excluded.contains (p / 544) = false → slotPowered s p = true →
    exec (.paceWindowEnd p rate) s = .next ((acts [
      eff [.reg (Reg.THM_PACE_UNIT p) (w32 (2 ^ 31 + rate % 65536)),
        .thm fun x => { x with unitTemp := x.unitTemp.put p.val (unitTempOf s p (rate % 65536) + 1024).toNat }],
      if degC 115 ≤ unitTempOf s p (rate % 65536) then acts [thermalShutdown p (unitTempOf s p (rate % 65536)), swapAbort] else eff [],
      hotChecks (256 + p) (unitTempOf s p (rate % 65536))]).run s)) ∧
  (∀ (p : Fin 2176) (rate : Nat) (s : State), slotPowered s p = false →
    ∃ t, exec (.paceWindowEnd p rate) s = .next t ∧ t.flag (Reg.THM_PACE_UNIT p) Fld.THM_PACE_UNIT.VALID = false ∧
      (∀ a, a ≠ Reg.THM_PACE_UNIT p → t.rd a = s.rd a) ∧ sameStores s t ∧ t.out = s.out) ∧
  (∀ (value ch : Nat) (s : State), 2 ≤ s.fld Reg.HUB_BOOT Fld.HUB_BOOT.STATE → s.thm.nextChan = ch → 212 ≤ ch → ch < 216 →
    ∃ t, exec (.hkSample value) s = .next t ∧ t.fld (Reg.THM_CHAN ch) Fld.THM_CHAN.VALUE = value % 65536 ∧
      t.flag (Reg.THM_CHAN ch) Fld.THM_CHAN.VALID = true ∧ t.thm.nextChan = ch + 1 ∧
      (∀ a, a ≠ Reg.THM_CHAN ch → t.rd a = s.rd a) ∧ sameStores s t ∧ t.prms = s.prms) ∧
  (∀ (v : Word) (s : State), getFld v Fld.THM_CONV.GO = 1 → s.thm.conv = none →
    ∃ t, exec (.thmConv v) s = .next t ∧ t.thm.conv = some (getFld v Fld.THM_CONV.CHANNEL) ∧ t.flag Reg.THM_CONV Fld.THM_CONV.GO = true ∧
      t.flag Reg.THM_CONV Fld.THM_CONV.PENDING = true ∧ (∀ a, a ≠ Reg.THM_CONV → t.rd a = s.rd a) ∧ sameStores s t) ∧
  (∀ (v : Word) (ch : Nat) (s : State), getFld v Fld.THM_CONV.GO = 1 → s.thm.conv = some ch →
    ∃ t, exec (.thmConv v) s = .next t ∧ t.flag Reg.THM_CONV Fld.THM_CONV.OVERRUN = true ∧ t.evt 238 = true ∧ t.thm.conv = some ch) ∧
  (∀ (value ch : Nat) (s : State), s.thm.conv = some ch → 212 ≤ ch → ch < 216 →
    ∃ t, exec (.convDone value) s = .next t ∧ t.thm.conv = none ∧ t.flag Reg.THM_CONV Fld.THM_CONV.DONE = true ∧
      t.flag Reg.THM_CONV Fld.THM_CONV.GO = false ∧ t.flag Reg.THM_CONV Fld.THM_CONV.PENDING = false ∧
      t.fld Reg.THM_CONV_RESULT Fld.THM_CONV_RESULT.VALUE = value % 65536 ∧
      t.fld Reg.THM_CONV_RESULT Fld.THM_CONV_RESULT.CHANNEL = ch ∧ sameStores s t)

/-- R739 to R743, R745: the throttle request: enforcement at the end of the grace time, the check of each second, release, restoration,
and the restart of a cooled cluster. -/
def Obligations.ThrottleRows : Prop :=
  (∀ (s : State), s.arm.halted = false → throttled s = true → s.thm.graceOver = false → s.thm.restoring = false →
    overTarget s s.flt.bind.size = false →
    ∃ t, exec .throttleEnforce s = .next t ∧ t.thm.graceOver = true ∧ t.fld Reg.THM_THROTTLE Fld.THM_THROTTLE.GRACE_LEFT_MS = 0 ∧
      (∀ a, a ≠ Reg.THM_THROTTLE → t.rd a = s.rd a) ∧ sameStores s t) ∧
  (∀ (s : State) (l : Nat), s.arm.halted = false → throttled s = true → s.thm.graceOver = false → s.thm.restoring = false →
    overTarget s s.flt.bind.size = true →
    (((List.range 12).filter (shedLevel s ≤ ·)).find? fun k => !overTarget s (boundAt s k)).getD 11 = l →
    ∃ t, exec .throttleEnforce s = .next t ∧ t.flag Reg.THM_THROTTLE Fld.THM_THROTTLE.ENFORCING = true ∧ shedLevel t = l ∧
      t.evt 233 = true ∧ (∀ d, d < 4 → t.flag (Reg.PWR_VCORE d) Fld.PWR_VCORE.THROTTLED = true) ∧ sameStores s t) ∧
  (∀ (s : State), s.arm.halted = false → enforcing s = true → s.thm.restoring = false →
    s.fld Reg.THM_THROTTLE Fld.THM_THROTTLE.CAUSE &&& causesHold s ≠ 0 → shedLevel s < 11 →
    ∃ t, exec .throttleCheck s = .next t ∧ shedLevel t = shedLevel s + 1 ∧
      t.fld Reg.THM_THROTTLE Fld.THM_THROTTLE.TARGET = max 10 (s.fld Reg.THM_THROTTLE Fld.THM_THROTTLE.TARGET - s.thm.step) ∧
      (∀ a, a ≠ Reg.THM_THROTTLE → t.rd a = s.rd a) ∧ sameStores s t) ∧
  (∀ (s : State), s.arm.halted = false → throttled s = true → s.thm.restoring = false → heldLong s s.thm.coolSince = true →
    heldLong s s.thm.powSince = true → 0 < shedLevel s →
    ∃ t, exec .throttleRelease s = .next t ∧ shedLevel t = shedLevel s - 1 ∧ t.thm.restoring = true ∧
      (∀ a, a ≠ Reg.THM_THROTTLE → t.rd a = s.rd a) ∧ sameStores s t) ∧
  (∀ (s : State), s.arm.halted = false → throttled s = true → s.thm.restoring = false → heldLong s s.thm.coolSince = true →
    heldLong s s.thm.powSince = true → shedLevel s = 0 →
    ∃ t, exec .throttleRelease s = .next t ∧ throttled t = false ∧ t.evt 234 = true ∧ t.thm.alertThrottle = false) ∧
  (∀ (s : State), s.arm.halted = false → s.thm.restoring = true → 0 < shedLevel s →
    ∃ t, exec .shedRestore s = .next t ∧ shedLevel t = shedLevel s - 1 ∧ (∀ a, a ≠ Reg.THM_THROTTLE → t.rd a = s.rd a) ∧ sameStores s t) ∧
  (∀ (c : Fin 128) (s : State), s.arm.halted = false → clusterStopped s c = true → heldLong s (s.thm.stopCool.find c) = true →
    exec (.clusterRestart c) s = .next ((acts [
      eff (.thm (fun t => { t with stopped := t.stopped.erase c.val }) ::
        ((liveSlots s c).filter fun k => !slotSpare s (17 * c + k)).map fun k => unitFld (17 * c + k) Fld.FLT_UNIT.POWERED 1), rehome]).run s))

/-- R749, R72, R750, R81, R83: a pin fault, the hourly anchor and service life, and a step of VCORE. -/
def Obligations.PinsLifeAndVcore : Prop :=
  (∀ (n : Fin 68) (s : State), s.flag (Reg.THM_PIN_FAULT (n / 32)) ⟨n % 32, n % 32⟩ = false → (n.val < 16 ∨ 64 ≤ n.val) →
    ∃ t, exec (.pinFault n true) s = .next t ∧ t.flag (Reg.THM_PIN_FAULT (n / 32)) ⟨n % 32, n % 32⟩ = true ∧ t.evt 239 = true ∧
      sameStores s t ∧ t.pn Prm.THM_PIN_FAULTS = satAdd 0xFFFFFFFF (s.pn Prm.THM_PIN_FAULTS) 1) ∧
  (∀ (n : Fin 68) (s : State), s.flag (Reg.THM_PIN_FAULT (n / 32)) ⟨n % 32, n % 32⟩ = true →
    ∃ t, exec (.pinFault n false) s = .next t ∧ t.flag (Reg.THM_PIN_FAULT (n / 32)) ⟨n % 32, n % 32⟩ = false ∧
      (∀ a, a ≠ Reg.THM_PIN_FAULT (n / 32) → t.rd a = s.rd a) ∧ sameStores s t ∧ t.prms = s.prms) ∧
  (∀ (s : State), s.arm.halted = false → ∃ t, exec .hourlyReanchor s = .next t ∧ t.thm.anchor = s.uptime ∧
    t.nvs.lifeHours = s.nvs.lifeHours + 1 ∧ t.nvs.lifeSum = s.nvs.lifeSum + (tjNow s + 1024).toNat ∧
    t.pn Prm.THM_LIFE_HOURS = (s.nvs.lifeHours + 1) % 2 ^ 32 ∧ t.regs = s.regs ∧ sameStores s t) ∧
  (∀ (die : Fin 4) (mv v : Nat) (s : State), s.arm.halted = false → s.thm.steerOff.contains die.val = false →
    vcoreMay s die (s.fld (Reg.PWR_VCORE die) Fld.PWR_VCORE.COMMANDED_MV) mv = true → v < 1024 →
    ∃ t, exec (.vcoreStep die mv (some v)) s = .next t ∧ t.fld (Reg.PWR_VCORE die) Fld.PWR_VCORE.COMMANDED_MV = v ∧
      t.out = s.out ++ [.pmbus die mv] ∧ (∀ a, a ≠ Reg.PWR_VCORE die → t.rd a = s.rd a) ∧ sameStores s t) ∧
  (∀ (die : Fin 4) (mv : Nat) (s : State), s.arm.halted = false → s.thm.steerOff.contains die.val = false →
    vcoreMay s die (s.fld (Reg.PWR_VCORE die) Fld.PWR_VCORE.COMMANDED_MV) mv = true → s.thm.vfail.getD die 0 = 2 →
    ∃ t, exec (.vcoreStep die mv none) s = .next t ∧ t.flag (Reg.PWR_VCORE die) Fld.PWR_VCORE.STEER_FAULT = true ∧ t.evt 236 = true ∧
      t.fld (Reg.PWR_VCORE die) Fld.PWR_VCORE.COMMANDED_MV = s.fld (Reg.PWR_VCORE die) Fld.PWR_VCORE.COMMANDED_MV ∧ sameStores s t)

/-! ### Sensor ingest over SAL (chapter 05) -/

/-- R166, R188, R189, R190: the mode of a SAL port, bit slips, ALIGN columns, the training pattern of a lane and a lost block lock. -/
def Obligations.SalPorts : Prop :=
  (∀ (n : Fin 4) (v : Word) (s : State), salEn s n = true → getFld v Fld.SAL_PORT_CTRL.MODE = 2 →
    ∃ t, exec (.salPortMode n v) s = .next t ∧ salMode t n = 2 ∧ (∀ a, a ≠ Reg.SAL_PORT_CTRL n → t.rd a = s.rd a) ∧ sameStores s t ∧
      t.out = s.out) ∧
  (∀ (n : Fin 4) (v : Word) (s : State), salEn s n = true → getFld v Fld.SAL_PORT_CTRL.MODE = 0 →
    ∃ t, exec (.salPortMode n v) s = .next t ∧ salMode t n = 0 ∧ salReady t n = false ∧ sameStores s t) ∧
  (∀ (n : Fin 4) (v : Word) (s : State), salEn s n = false → exec (.salPortMode n v) s = .next s) ∧
  (∀ (tlk : Bool) (i : Fin 128) (v : Word) (s : State), getFld v Fld.SAL_LANE_ALIGN.SLIP = 1 → viewHolds s tlk i = true →
    ∃ t, exec (.laneSlip tlk i v) s = .next t ∧
      t.fld (alignReg tlk i) Fld.SAL_LANE_ALIGN.SLIPS = (s.fld (alignReg tlk i) Fld.SAL_LANE_ALIGN.SLIPS + 1) % 66 ∧
      t.flag (alignReg tlk i) Fld.SAL_LANE_ALIGN.TRAIN_LOCK = false ∧ sameStores s t) ∧
  (∀ (n : Fin 4) (skew : Nat) (lanes : List (Nat × Bool)) (s : State), salMode s n = 2 → salEn s n = true →
    columnOk (salLanes s n) lanes = true → skew ≤ 48 → 1 ≤ (s.sal n).columns →
    ∃ t, exec (.salAlignColumn n skew lanes) s = .next t ∧ salReady t n = true ∧ (t.sal n).columns = (s.sal n).columns + 1 ∧ sameStores s t) ∧
  (∀ (n : Fin 4) (skew : Nat) (lanes : List (Nat × Bool)) (s : State), salMode s n = 2 → salEn s n = true →
    columnOk (salLanes s n) lanes = true → 48 < skew →
    ∃ t, exec (.salAlignColumn n skew lanes) s = .next t ∧ salReady t n = false ∧
      t.flag (Reg.SAL_PORT_STAT n) Fld.SAL_PORT_STAT.DESKEW_ERR = true ∧ (t.sal n).columns = 0 ∧ sameStores s t) ∧
  (∀ (n : Fin 4) (k : Fin 8) (s : State), salEn s n = true → salMode s n = 2 → ((List.range 8).filter fun sn => snsOn s sn n) = [] →
    ∃ t, exec (.salBlockLockLost n k) s = .next t ∧ salReady t n = false ∧ salMode t n = 1 ∧ t.evt (120 + n) = true ∧
      t.flag (Reg.SAL_LANE_ALIGN (8 * n + k)) Fld.SAL_LANE_ALIGN.BLOCK_LOCK = false ∧ sameStores s t) ∧
  (∀ (tlk : Bool) (i : Fin 128) (s : State), viewHolds s tlk i = true →
    ∃ t, exec (.trainLock tlk i) s = .next t ∧ t.flag (alignReg tlk i) Fld.SAL_LANE_ALIGN.TRAIN_LOCK = true ∧ sameStores s t)

/-- R168 to R185, R191: packets, replies, time-outs and triggers of the sensors. A damaged packet is counted with E124 and delivers nothing; a
time-out of the back channel sends at most three times; a trigger edge of 10 ns or more is captured. -/
def Obligations.SalTraffic : Prop :=
  (∀ (n : Fin 4) (at4 : Nat) (bytes : Bytes) (s : State), salReady s n = true → parsePkt bytes = none →
    ∃ t, exec (.salPacket n false none at4 bytes) s = .next t ∧ t.evt 124 = true ∧ t.cam = s.cam ∧ sameStores s t ∧
      t.fld (Reg.SAL_PORT_ERRS n) Fld.SAL_PORT_ERRS.CRC_ERRS =
        satAdd (2 ^ (Fld.SAL_PORT_ERRS.CRC_ERRS.hi + 1 - Fld.SAL_PORT_ERRS.CRC_ERRS.lo) - 1) (s.fld (Reg.SAL_PORT_ERRS n) Fld.SAL_PORT_ERRS.CRC_ERRS) 1) ∧
  (∀ (n : Fin 4) (at4 : Nat) (bytes : Bytes) (p : SalPkt) (s : State), salReady s n = true → parsePkt bytes = some p →
    ∃ gap : Nat, exec (.salPacket n false none at4 bytes) s = .next ((takePkt n at4 p).run (applyAll [
      .inc (Reg.SAL_PORT_ERRS n) Fld.SAL_PORT_ERRS.LOST_PKTS gap, effSal n fun x => { x with rxSeq := some p.seq }] s)) ∧
      ((s.sal n).rxSeq = none → gap = 0) ∧ (∀ q, (s.sal n).rxSeq = some q → p.seq = (q + 1) % 65536 → gap = 0)) ∧
  (∀ (n : Fin 4) (bytes : Bytes) (p : SalPkt) (s : State), salReady s n = true → parsePkt bytes = some p → (s.sal n).rxSeq = none →
    exec (.salCtrlReply n bytes) s = .next ((takeReply n p).run (applyAll [
      .inc (Reg.SAL_PORT_ERRS n) Fld.SAL_PORT_ERRS.LOST_PKTS 0, effSal n fun x => { x with rxSeq := some p.seq }] s))) ∧
  (∀ (sn : Fin 8) (f : Nat) (s : State), (s.sns sn).frame = some f → (s.sns sn).early = false → snsPair s sn = true →
    exec (.salPairWaitTimeout sn) s = .next ((deliverReady sn).run (applyAll [effSns sn fun x => { x with
      lo := if x.lo.line < max (s.sns sn).lo.line (s.sns sn).hi.line then { x.lo with line := max (s.sns sn).lo.line (s.sns sn).hi.line, col := 0 } else x.lo,
      hi := if x.hi.line < max (s.sns sn).lo.line (s.sns sn).hi.line then
        { x.hi with line := max (s.sns sn).lo.line (s.sns sn).hi.line, col := snsWidth s sn / 2 } else x.hi }] s))) ∧
  (∀ (sn : Fin 8) (f : Nat) (s : State), (s.sns sn).frame = some f → (s.sns sn).early = true →
    exec (.salFrameTimeout sn) s = .next ((acts [eff [], pushInfo sn,
      (fun s => [.fld (Reg.SAL_SNS_STAT sn) Fld.SAL_SNS_STAT.IN_FRAME 0,
        .fld (Reg.SAL_SNS_STAT sn) Fld.SAL_SNS_STAT.LAST_INCOMPLETE (if (s.sns sn).incomplete then 1 else 0),
        .fld (Reg.SAL_SNS_STAT sn) Fld.SAL_SNS_STAT.LAST_SIZE_ERR (if (s.sns sn).sizeErr then 1 else 0),
        .fld (Reg.SAL_SNS_STAT sn) Fld.SAL_SNS_STAT.LAST_EARLY (if (s.sns sn).early then 1 else 0),
        effSns sn fun x => { x with frame := none, prev := some f, got := .empty, recent := .empty }]),
      endSequence sn]).run s)) ∧
  (∀ (sn : Fin 8) (s : State), (s.sns sn).frame = none → exec (.salFrameTimeout sn) s = .next s) ∧
  (∀ (n : Fin 4) (c : BcCmd) (s : State), (s.sal n).bc = some c → c.sent < 3 → tripped s = false →
    ∃ t, exec (.salBcTimeout n) s = .next t ∧ (t.sal n).bc = some { c with sent := c.sent + 1 } ∧
      t.out = s.out ++ [.packet 0 n (buildPkt (24 + c.sensor) c.kind (s.sal n).txSeq c.packet)] ∧ t.regs = s.regs ∧ sameStores s t) ∧
  (∀ (n : Fin 4) (c : BcCmd) (s : State), (s.sal n).bc = some c → 3 ≤ c.sent →
    ∃ t, exec (.salBcTimeout n) s = .next t ∧ (t.sal n).bc = none ∧ t.evt 126 = true ∧ sameStores s t) ∧
  (∀ (sn : Fin 8) (s : State), trigTargets s (0x30 + sn) = [sn.val] →
    exec (.salUpstreamTrigger sn) s = .next ((captureTrigger sn s.stamp).run s)) ∧
  (∀ (n : Fin 8) (falling : Bool) (widthNs : Nat) (s : State), 10 ≤ widthNs → trigTargets s (0x10 + n) = [] →
    bitOf (s.pn (Prm.TRIG_CFG n)) 1 = true → bitOf (s.pn (Prm.TRIG_CFG n)) 0 = falling → (s.tim.caps.getD n []).length < 4 →
    ∃ t, exec (.trigInEdge n falling widthNs) s = .next t ∧ t.tim.caps.getD n [] = s.tim.caps.getD n [] ++ [s.stamp] ∧
      t.fld (Reg.TIM_CAP_STAT n) Fld.TIM_CAP_STAT.DEPTH = (s.tim.caps.getD n []).length + 1 ∧
      t.flag (Reg.TIM_CAP_STAT n) Fld.TIM_CAP_STAT.VALID = true ∧ sameStores s t) ∧
  (∀ (n : Fin 8) (falling : Bool) (widthNs : Nat) (s : State), widthNs < 10 →
    ∃ t, exec (.trigInEdge n falling widthNs) s = .next t ∧ t.regs = s.regs ∧ t.tim = s.tim ∧ sameStores s t) ∧
  (∀ (sn : Fin 8) (at16 : Nat) (late : Bool) (rest : List (Nat × Bool)) (s : State), (s.sns sn).sends = (at16, late) :: rest → tripped s = false →
    ∃ t, exec (.salTriggerSend sn) s = .next t ∧ (t.sns sn).sends = rest ∧ (t.sns sn).count = ((s.sns sn).count + 1) % 65536 ∧
      t.out = s.out ++ [.packet 0 (snsPort s sn) (triggerBlock sn (((s.sns sn).count + 1) % 65536) at16 late)] ∧ sameStores s t)

/-- R185, R187, R237, R279, R283, R284: the mailbox commands of the sensors, the front end, the colour pipelines and the outputs. -/
def Obligations.CameraCommands : Prop :=
  (∀ (k : Svc) (s : State), Served s 0x200 k → k.f = 0 → k.n 0 1 < 8 → snsBound s (k.n 0 1) = true → zeroAt k.cmd.payload 1 1 = true →
    1 ≤ k.n 2 2 → k.n 2 2 ≤ 64 → k.cmd.len = 4 + 8 * k.n 2 2 → salReady s (snsPort s (k.n 0 1)) = true →
    (s.sal (snsPort s (k.n 0 1))).bc = none → TicketFree s k →
    exec .salBcWrite s = .next (pended k (acts [
      eff [effSal (snsPort s (k.n 0 1)) fun p => { p with tag := (p.tag + 1) % 65536 }],
      salSend (snsPort s (k.n 0 1)) ⟨(s.sal (snsPort s (k.n 0 1))).tag, k.f, ticketId k.f (s.mbx k.f).nextTicket, 1, k.n 0 1, k.n 2 2,
        leBytes 2 (s.sal (snsPort s (k.n 0 1))).tag ++ leBytes 2 (k.n 2 2) ++ k.cmd.payload.drop 4, 0⟩]) s)) ∧
  (∀ (k : Svc) (s : State), Served s 0x201 k → k.f = 0 → k.n 0 1 < 8 → snsBound s (k.n 0 1) = true → zeroAt k.cmd.payload 1 1 = true →
    1 ≤ k.n 2 2 → k.n 2 2 ≤ 64 → k.cmd.len = 4 + 4 * k.n 2 2 → salReady s (snsPort s (k.n 0 1)) = true →
    (s.sal (snsPort s (k.n 0 1))).bc = none → TicketFree s k →
    exec .salBcRead s = .next (pended k (acts [
      eff [effSal (snsPort s (k.n 0 1)) fun p => { p with tag := (p.tag + 1) % 65536 }],
      salSend (snsPort s (k.n 0 1)) ⟨(s.sal (snsPort s (k.n 0 1))).tag, k.f, ticketId k.f (s.mbx k.f).nextTicket, 2, k.n 0 1, k.n 2 2,
        leBytes 2 (s.sal (snsPort s (k.n 0 1))).tag ++ leBytes 2 (k.n 2 2) ++ k.cmd.payload.drop 4, 0⟩]) s)) ∧
  (∀ (k : Svc) (i : FrameInfo) (s : State), Served s 0x202 k → k.f = 0 → k.cmd.len = 8 → k.n 0 1 < 8 → snsBound s (k.n 0 1) = true →
    zeroAt k.cmd.payload 1 3 = true → k.n 4 4 = 0xFFFFFFFF → (s.sns (k.n 0 1)).info.head? = some i →
    exec .salFrameInfo s = .next (answered k ST_OK (infoBytes (k.n 0 1) i) (eff []) s)) ∧
  (∀ (k : Svc) (s : State), Served s 0x300 k → k.f = 0 → k.cmd.len = 24 → k.n 0 1 < 8 → k.n 1 1 < 6 → isStandby s = false → TicketFree s k →
    exec .rfeTableLoad s = .next (pended k (eff []) s)) ∧
  (∀ (k : Svc) (s : State), Served s 0x301 k → k.f = 0 → k.cmd.len = 16 → k.n 0 1 < 8 → k.n 1 1 < 6 → zeroAt k.cmd.payload 2 2 = true →
    TicketFree s k → exec .rfeTableRead s = .next (pended k (eff []) s)) ∧
  (∀ (k : Svc) (s : State), Served s 0x302 k → k.f = 0 → k.cmd.len = 4 → k.n 0 1 < 8 → zeroAt k.cmd.payload 1 3 = true →
    exec .rfeStatInfo s = .next (answered k ST_OK (leBytes 8 (statRing (k.n 0 1)) ++ leBytes 4 262144 ++ leBytes 4 4 ++
      leBytes 8 (s.pn64 (Prm.RFE_STAT_HOST_LO (k.n 0 1))) ++ leBytes 4 (s.pn (Prm.RFE_STAT_LAST (k.n 0 1))) ++
      leBytes 4 (s.sns (k.n 0 1)).lastStat) (eff []) s)) ∧
  (∀ (k : Svc) (s : State), Served s 0x400 k → k.f = 0 → k.cmd.len = 24 → k.n 1 1 = 0 → k.n 0 1 < 8 → ccTriad 0 (k.n 0 1) = none →
    isStandby s = false → TicketFree s k → exec .ccTableLoad s = .next (pended k (eff []) s)) ∧
  (∀ (k : Svc) (s : State), Served s 0x401 k → k.f = 0 → k.cmd.len = 16 → k.n 1 1 = 0 → k.n 0 1 < 8 → ccTriad 0 (k.n 0 1) = none →
    zeroAt k.cmd.payload 2 2 = true → TicketFree s k → exec .ccTableRead s = .next (pended k (eff []) s)) ∧
  (∀ (k : Svc) (s : State), Served s 0x402 k → k.f = 0 → k.cmd.len = 4 → k.n 0 1 < 16 → zeroAt k.cmd.payload 1 3 = true →
    srcEn (s.pn (Prm.OUT_SRC (k.n 0 1))) = true →
    ∃ payload, exec .outInfo s = .next (answered k ST_OK payload (eff []) s) ∧ payload.length = 48 ∧
      field payload 0 8 = leBytes 8 (ringOf s s.pn (k.n 0 1)).base) ∧
  (∀ (k : Svc) (f : Nat) (s : State), Served s 0x403 k → k.f = 0 → k.cmd.len = 4 → k.n 0 1 < 2 → zeroAt k.cmd.payload 1 3 = true →
    triadOwner s (k.n 0 1) = some f →
    ∃ t, exec .triadRelease s = .next t ∧ t.pn (Prm.TRI_OWNER (k.n 0 1)) = 0 ∧ t.arm.inService = none ∧ t.devMem = s.devMem)

/-- R230 to R233, R272, R275: the end of a statistics record counts it and raises its event; the end of an output frame writes its slot in every
ring, the header between the two sequence words, and then raises E140; the end of a triad's frame keeps its sequence number and raises its event. -/
def Obligations.RecordsAndFrames : Prop :=
  (∀ (sn : Fin 8) (frame : Nat) (incomplete : Bool) (ts : Nat) (rest : List (Nat × Bool × Nat)) (s : State),
    (s.sns sn).due = (frame, incomplete, ts) :: rest → hostStat s sn = 0 →
    ∃ t, exec (.statRecordDone sn) s = .next t ∧ (t.sns sn).due = rest ∧ (t.sns sn).records = ((s.sns sn).records + 1) % 2 ^ 32 ∧
      t.pn (Prm.RFE_STAT_LAST sn) = ((s.sns sn).records + 1) % 2 ^ 32 ∧ t.evt (128 + sn) = true ∧ t.hostMem = s.hostMem ∧ t.pageMem = s.pageMem) ∧
  (∀ (o : Fin 18) (f : Nat) (s : State), (s.cout o).cur = some f → o.val < 16 → ringsOf s o = [] →
    ∃ t, exec (.outputFrameDone o) s = .next t ∧ (t.cout o).cur = none ∧ (t.cout o).seq = ((s.cout o).seq + 1) % 2 ^ 32 ∧ t.evt 140 = true ∧
      sameStores s t) ∧
  (∀ (o : Fin 18) (f : Nat) (s : State), (s.cout o).cur = some f → o.val < 16 →
    exec (.outputFrameDone o) s = .next (applyAll (((ringsOf s o).flatMap fun r =>
        [ringWrite (slotAddr (ring s r) (((s.cout o).seq + 1) % 2 ^ 32)) (leBytes 4 (((s.cout o).seq + 1) % 2 ^ 32)),
         ringWrite (slotAddr (ring s r) (((s.cout o).seq + 1) % 2 ^ 32) + 4) (slotHeader s o r (ring s r) (geo s o) (s.cout o) f),
         ringWrite (slotAddr (ring s r) (((s.cout o).seq + 1) % 2 ^ 32) + 252) (leBytes 4 (((s.cout o).seq + 1) % 2 ^ 32))]) ++
      [effOut o fun x => { x with cur := none, seq := ((s.cout o).seq + 1) % 2 ^ 32, done := x.done + 1 }, .raise 140]) s)) ∧
  (∀ (o : Fin 18) (f : Nat) (s : State), (s.cout o).cur = some f → 16 ≤ o.val →
    ∃ t, exec (.outputFrameDone o) s = .next t ∧ (t.cout o).cur = none ∧ t.pn (Prm.TRI_LAST_SEQ (o.val - 16)) = ((s.cout o).seq + 1) % 2 ^ 32 ∧
      t.evt (138 + (o.val - 16)) = true ∧ t.pageMem = s.pageMem ∧ t.otp = s.otp ∧ t.pins = s.pins)

/-! ### Cast (chapter 09) -/

/-- R306, R307, R316, R318: the Cast commands and the start and end of runs and jobs. -/
def Obligations.CastJobs : Prop :=
  (∀ (k : Svc) (h : Nat) (s : State), Served s 0x500 k → k.cmd.len = 32 → (openJob k s).kind < 2 → openFields k (openJob k s) = true →
    freeHandle s = some h → (sharedEngines s).isEmpty = false →
    ∃ t, exec .castOpen s = .next t ∧ (t.job h).isSome ∧ t.arm.inService = none ∧ t.devMem = s.devMem ∧ t.hostMem = s.hostMem) ∧
  (∀ (k : Svc) (j : CastJob) (s : State), Served s 0x501 k → k.cmd.len = 40 → jobHeld s k.f (k.n 0 2) = true → s.job (k.n 0 2) = some j →
    zeroAt k.cmd.payload 2 2 = true → j.kind = 1 → k.n 4 4 = 0 → j.closing = none → j.run = none →
    rangeOk s k.f (k.n 8 8) (runInput j 0 (k.n 16 8)) = true → rangeOk s k.f (k.n 24 8) (k.n 32 8) = true → TicketFree s k →
    exec .castRun s = .next (pended k (eff [.cast fun x => { x with
      jobs := x.jobs.put (k.n 0 2) { j with run := some ⟨ticketId k.f (s.mbx k.f).nextTicket, k.n 8 8, k.n 16 8, k.n 24 8, k.n 32 8, 0,
        x.doorbells, false⟩ }, doorbells := x.doorbells + 1 }]) s)) ∧
  (∀ (k : Svc) (j : CastJob) (s : State), Served s 0x502 k → k.cmd.len = 4 → jobHeld s k.f (k.n 0 2) = true → s.job (k.n 0 2) = some j →
    zeroAt k.cmd.payload 2 2 = true → outputNames s 3 (k.n 0 2) = false → ctxNamesJob s (k.n 0 2) = false → j.closing = none → TicketFree s k →
    exec .castClose s = .next (pended k (eff [effJob (k.n 0 2) fun j => { j with
      closing := some (ticketId k.f (s.mbx k.f).nextTicket) }]) s)) ∧
  (∀ (k : Svc) (j : CastJob) (s : State), Served s 0x503 k → k.cmd.len = 4 → jobHeld s k.f (k.n 0 2) = true → s.job (k.n 0 2) = some j →
    zeroAt k.cmd.payload 2 2 = true →
    exec .castInfo s = .next (answered k ST_OK (leBytes 1 j.kind ++ leBytes 1 (maskOf j.engines) ++
      leBytes 1 (if j.closing.isSome then 2 else if j.run.isSome ∨ j.frames ≠ [] ∨ j.rx.isSome then 1 else 0) ++ [0] ++ leBytes 4 j.done ++
      leBytes 4 j.failed ++ leBytes 4 j.dropped ++ leBytes 4 j.writeSeq ++ leBytes 8 j.ring ++ leBytes 4 j.slotSize ++ leBytes 4 j.slots)
      (eff []) s)) ∧
  (∀ (h : Nat) (j : CastJob) (s : State), firstRun s = some h → s.job h = some j →
    (((sharedEngines s).filter fun e => !(runEngines s).contains e).take j.want).isEmpty = false →
    exec .castRunStart s = .next (applyAll (effJob h (fun j' => { j' with
        engines := ((sharedEngines s).filter fun e => !(runEngines s).contains e).take j.want,
        run := j'.run.map fun r => { r with started := true } }) ::
      showJob (((sharedEngines s).filter fun e => !(runEngines s).contains e).take j.want) h) s)) ∧
  (∀ (h : Fin 4096) (j : CastJob) (r : CastRun) (s : State), s.job h = some j → j.run = some r → r.started = true → runPoisoned s j r = true →
    exec (.castRunDone h) s = .next ((endRun h j r ST_INPUT_CORRUPT 0 0).run s)) ∧
  (∀ (h : Fin 4096) (j : CastJob) (r : CastRun) (s : State), s.job h = some j → j.run = some r → r.started = true → runPoisoned s j r = false →
    j.kind = 1 →
    let bs := s.ringRead r.inAddr r.inLen
    let d := decodeRun r.outAddr (min r.limit (4096 * r.inLen)) (r.inLen / 64 + 1) bs 0
    exec (.castRunDone h) s = .next ((acts [eff d.writes, countSlices j.engines false d.logs,
      endRun h j r d.status (if d.status = ST_OK then d.valid else 0) (if d.status = ST_OK then d.frames else 0)]).run s)) ∧
  (∀ (h : Fin 4096) (j : CastJob) (f : CastFrame) (rest : List CastFrame) (bs : Bytes) (logs : List SliceLog) (s : State), s.job h = some j →
    j.kind = 2 → j.frames = f :: rest →
    encFrame (jobHeader j f.frame f.ts) (j.slotSize - 64) (fun p y x =>
      if (jobHeader j f.frame f.ts).half then halfCode (f.samples.getD (sampleKey p y x) 0) else f.samples.getD (sampleKey p y x) 0) = some (bs, logs) →
    exec (.castSlotDone h) s = .next ((acts [
      eff (putSlot h j ST_OK bs.length j.frameSeq (fun a => [ringWrite (a + 64) bs]) ++
        [effJob h fun j => { j with frames := j.frames.tail, frameSeq := (j.frameSeq + 1) % 2 ^ 32 }]),
      countSlices j.engines true logs, castEgress h f.frame f.ts bs]).run s)) ∧
  (∀ (h : Fin 4096) (j : CastJob) (ticket : Nat) (s : State), s.job h = some j → j.closing = some ticket → j.run = none → j.frames = [] →
    ∃ t, exec (.castCloseDone h) s = .next t ∧ t.job h = none ∧ sameStores s t) ∧
  (∀ (h : Fin 4096) (ts : Nat) (payload : Bytes) (j : CastJob) (s : State), s.job h = some j → j.kind = 3 → payload.length < 8 →
    ∃ t, exec (.castRtpPacket h ts payload) s = .next t ∧ t.cast = s.cast ∧ t.regs = s.regs ∧ sameStores s t) ∧
  (∀ (h : Fin 4096) (ts : Nat) (payload : Bytes) (j : CastJob) (s : State), s.job h = some j → j.kind = 3 → 8 ≤ payload.length →
    fieldN payload 2 1 < 4 → fieldN payload 3 1 = 0 → j.rx = none →
    ∃ t j', exec (.castRtpPacket h ts payload) s = .next t ∧ t.job h = some j' ∧ (j'.rx.map (·.ts)) = some ts ∧ t.regs = s.regs ∧ sameStores s t)

/-! ### Streams (chapters 10 and 11) -/

/-- R335, R338, R339, R347, R363, R332: the mailbox commands of contexts, classification rules and principals. -/
def Obligations.StreamCommands : Prop :=
  (∀ (k : Svc) (i : Nat) (s : State), Served s 0x600 k → k.f = 0 → k.cmd.len = 96 → descOk k.cmd.payload = true → dSealed k.cmd.payload = false →
    dEss k.cmd.payload ≠ 3 → ctxRingBytes k.cmd.payload = 0 → freeCtx s = some i →
    exec .strCtxCreate s = .next (answered k ST_OK (leBytes 2 i ++ leBytes 1 (i % 64) ++ [0]) (eff [
      effStr fun t => { t with ctxs := t.ctxs.put i (newCtx s 0 k.cmd.payload) }, .prm Prm.STR_CTX_USED (w32 (s.str.ctxs.size + 1))]) s)) ∧
  (∀ (k : Svc) (x : StrCtx) (s : State), Served s 0x601 k → k.cmd.len = 4 → k.n 0 2 < 4096 → zeroAt k.cmd.payload 2 2 = true →
    namedCtx k s (k.n 0 2) = some x → ruleNames s (k.n 0 2) = false → layerNames s 1 (k.n 0 2) = false → outputNames s 2 (k.n 0 2) = false →
    (∀ w ∈ s.str.waiting, w.ctx ≠ k.n 0 2) →
    ∃ t, exec .strCtxDelete s = .next t ∧ t.ctx (k.n 0 2) = none ∧ t.arm.inService = none ∧ t.devMem = s.devMem ∧ t.hostMem = s.hostMem) ∧
  (∀ (k : Svc) (x : StrCtx) (s : State), Served s 0x602 k → k.cmd.len = 4 → k.n 2 1 = 1 → k.n 3 1 = 0 → k.n 0 2 < 4096 → k.f = 0 →
    s.ctx (k.n 0 2) = some x → dDir x.desc = 0 → x.owner = 0 →
    ∃ t y, exec .strCtxEnable s = .next t ∧ t.ctx (k.n 0 2) = some y ∧ y.enabled = true ∧ t.arm.inService = none) ∧
  (∀ (k : Svc) (x : StrCtx) (s : State), Served s 0x602 k → k.cmd.len = 4 → k.n 2 1 = 2 → k.n 3 1 = 0 → k.n 0 2 < 4096 → k.f = 0 →
    s.ctx (k.n 0 2) = some x → dDir x.desc = 0 → x.owner = 0 →
    ∃ t y, exec .strCtxDisable s = .next t ∧ t.ctx (k.n 0 2) = some y ∧ y.enabled = false ∧ t.arm.inService = none) ∧
  (∀ (k : Svc) (x : StrCtx) (s : State), Served s 0x602 k → k.cmd.len = 4 → k.n 2 1 = 4 → k.n 3 1 = 0 → k.n 0 2 < 4096 → k.f = 0 →
    s.ctx (k.n 0 2) = some x → dDir x.desc = 0 → x.owner = 0 → s.str.cache.contains (k.n 0 2) = true →
    (pinnedCtxs s).length < 64 → (setOf (pinnedCtxs s) (k.n 0 2)).length < 4 →
    ∃ t y, exec .strCtxPin s = .next t ∧ t.ctx (k.n 0 2) = some y ∧ y.pinned = true ∧ t.arm.inService = none) ∧
  (∀ (k : Svc) (x : StrCtx) (s : State), Served s 0x602 k → k.cmd.len = 4 → k.n 2 1 = 8 → k.n 3 1 = 0 → k.n 0 2 < 4096 → k.f = 0 →
    s.ctx (k.n 0 2) = some x → dDir x.desc = 0 → x.owner = 0 →
    ∃ t y, exec .strCtxUnpin s = .next t ∧ t.ctx (k.n 0 2) = some y ∧ y.pinned = false ∧ t.arm.inService = none) ∧
  (∀ (k : Svc) (x : StrCtx) (s : State), Served s 0x603 k → k.cmd.len = 4 → k.n 0 2 < 4096 → zeroAt k.cmd.payload 2 2 = true →
    namedCtx k s (k.n 0 2) = some x →
    ∃ payload, exec .strCtxInfo s = .next (answered k ST_OK payload (eff []) s) ∧ payload.length = 72 ∧
      field payload 4 8 = leBytes 8 x.cnt.packets ∧ field payload 12 8 = leBytes 8 x.cnt.bytes ∧ field payload 20 4 = leBytes 4 x.cnt.frames) ∧
  (∀ (k : Svc) (x : StrCtx) (s : State), Served s 0x604 k → k.f = 0 → k.cmd.len = 68 → k.n 0 2 < 8192 → ruleOk (field k.cmd.payload 4 64) = true →
    zeroAt k.cmd.payload 2 2 = true → s.ctx (fieldN (field k.cmd.payload 4 64) 0 2) = some x → x.owner = 0 → dDir x.desc = 0 →
    (ruleOwners s (k.n 0 2)).any (· != 0) = false →
    exec .strRuleWrite s = .next (answered k ST_OK [] (eff [stage 0 (.obj K_RULE (k.n 0 2) (some (leBytes 1 0 ++ field k.cmd.payload 4 64)))]) s)) ∧
  (∀ (k : Svc) (s : State), Served s 0x605 k → k.f = 0 → k.cmd.len = 4 → k.n 0 2 < 8192 → zeroAt k.cmd.payload 2 2 = true →
    exec .strRuleClear s = .next (answered k ST_OK [] (eff [stage 0 (.obj K_RULE (k.n 0 2) none)]) s)) ∧
  (∀ (k : Svc) (b : Bytes) (s : State), Served s 0x606 k → k.f = 0 → k.cmd.len = 4 → k.n 0 2 < 8192 → zeroAt k.cmd.payload 2 2 = true →
    s.obj K_RULE (k.n 0 2) = some b →
    exec .strRuleRead s = .next (answered k ST_OK (leBytes 1 (byteAt b 0) ++ leBytes 1 1 ++ [0, 0] ++ field b 1 64) (eff []) s)) ∧
  (∀ (k : Svc) (s : State), Served s 0x610 k → k.f = 0 → k.cmd.len = 8 → 1 ≤ k.n 0 1 → k.n 0 1 < 64 → k.n 1 1 = 0 → zeroAt k.cmd.payload 6 2 = true →
    liveObjs s K_RULE = [] → (ctxsOf s (k.n 0 1)).length ≤ k.n 2 2 → (ruleHeld s (k.n 0 1)).length ≤ k.n 4 2 →
    exec .prnScopeSet s = .next (answered k ST_OK [] (saveObj K_SCOPE (k.n 0 1) (leBytes 1 0 ++ field k.cmd.payload 2 4 ++
      field (k.cmd.payload.drop 8) 0 64)) s)) ∧
  (∀ (k : Svc) (s : State), Served s 0x611 k → k.f = 0 → k.cmd.len = 4 → k.n 0 1 < 64 → zeroAt k.cmd.payload 1 3 = true →
    exec .prnInfo s = .next (answered k ST_OK (leBytes 4 (s.rights (k.n 0 1)) ++ leBytes 2 (ctxsOf s (k.n 0 1)).length ++
      leBytes 2 (ctxQuota s (k.n 0 1)) ++ leBytes 2 (ruleHeld s (k.n 0 1)).length ++ leBytes 2 (ruleQuota s (k.n 0 1)) ++
      leBytes 1 (scopeCount (scopeObj s (k.n 0 1))) ++ [0, 0, 0] ++ field (scopeObj s (k.n 0 1)) 5 64) (eff []) s))

/-- R326, R340, R343, R345, R353, R356, R361, R43, R365: what arrives and leaves on the Ethernet ports, and forwarded commands. -/
def Obligations.StreamTraffic : Prop :=
  (∀ (p : Fin 4) (room : Bool) (frame : Bytes) (s : State), bitOf (s.pn (Prm.ETH_PORT_CFG p)) 31 = true →
    ∃ t, exec (.ethFrameRx p false room frame) s = .next t ∧ t.pn (Prm.ETH_FCS_ERRS p) = satAdd 0xFFFFFFFF (s.pn (Prm.ETH_FCS_ERRS p)) 1 ∧
      t.str = s.str ∧ t.regs = s.regs ∧ sameStores s t) ∧
  (∀ (p : Fin 4) (frame : Bytes) (i : Nat) (q : Pkt) (s : State), bitOf (s.pn (Prm.ETH_PORT_CFG p)) 31 = true → 64 ≤ frame.length →
    frame.length ≤ s.pn (Prm.ETH_MTU p) + 22 → beNat (field frame (tagOf frame).2 2) ≠ 0x8808 → answerFrame s p frame = none →
    parseUdp p s.vis frame = some q → q.dport ≠ 319 → q.dport ≠ 320 → isRtcp q.body = false → classify s q = some i →
    exec (.ethFrameRx p true true frame) s = .next (applyAll ([.count64 (Prm.ETH_RX_FRAMES_LO p) 1,
      .count64 (Prm.ETH_RX_BYTES_LO p) frame.length] ++ meetCache i q frame s) s)) ∧
  (∀ (w : Waiting) (rest : List Waiting) (s : State), s.str.waiting = w :: rest →
    exec .ctxMissFill s = .next ((releaseWaiting w.ctx).run ((cacheLoad w.ctx).run s))) ∧
  (∀ (s : State), s.pn Prm.STR_MISS_STORM_T < s.str.missWin →
    ∃ t, exec .missStormWindow s = .next t ∧ t.evt 88 = true ∧ t.str.missWin = 0 ∧
      t.pn Prm.STR_STORMS = satAdd 0xFFFFFFFF (s.pn Prm.STR_STORMS) 1 ∧ sameStores s t) ∧
  (∀ (s : State), s.str.missWin ≤ s.pn Prm.STR_MISS_STORM_T →
    ∃ t, exec .missStormWindow s = .next t ∧ t.str.missWin = 0 ∧ t.regs = s.regs ∧ t.prms = s.prms ∧ t.out = s.out ∧ sameStores s t) ∧
  (∀ (n : Fin 4096) (pathB : Bool) (x : StrCtx) (s : State), s.ctx n = some x → dDual x.desc = true → (pathOf x pathB).up = true →
    dPortA x.desc < 4 → dPortB x.desc < 4 →
    ∃ t y, exec (.pathLoss n pathB) s = .next t ∧ t.ctx n = some y ∧ (pathOf y pathB).up = false ∧
      t.evt (84 + (if pathB then dPortB x.desc else dPortA x.desc)) = true ∧ sameStores s t) ∧
  (∀ (n : Fin 4096) (x : StrCtx) (bound : Nat) (s : State), s.ctx n = some x → x.high = some bound →
    exec (.streamFrameTimeout n) s = .next ((endVideo n bound).run s)) ∧
  (∀ (n : Fin 4096) (len : Nat) (x : StrCtx) (s : State), s.ctx n = some x → dDir x.desc = 1 → x.enabled = true → dEss x.desc = 1 →
    ∃ t, exec (.egressPacket n len false) s = .next t ∧ t.evt 93 = true ∧
      t.pn Prm.STR_EGRESS_UNDERFLOWS = satAdd 0xFFFFFFFF (s.pn Prm.STR_EGRESS_UNDERFLOWS) 1 ∧ sameStores s t) ∧
  (∀ (n : Fin 4096) (len : Nat) (x : StrCtx) (tx : StrTx) (s : State), s.ctx n = some x → dDir x.desc = 1 → x.enabled = true → dEss x.desc = 0 →
    x.tx = some tx → exec (.egressPacket n len true) s = .next ((egressVideo n x tx).run s)) ∧
  (∀ (p : Fin 4) (up fec aligned : Bool) (s : State), ∃ t, exec (.ethLinkChange p up fec aligned) s = .next t ∧
    t.pn (Prm.ETH_STATE p) = (if up then 1 else 0) + 2 * (if fec then 1 else 0) + 4 * (if aligned then 1 else 0) ∧
    t.pn (Prm.ETH_LINK_CHANGES p) = satAdd 0xFFFFFFFF (s.pn (Prm.ETH_LINK_CHANGES p)) 1 ∧ t.evt (80 + p) = true ∧ sameStores s t) ∧
  (∀ (pkg : Fin 16) (f : Fn) (header payload : Bytes) (s : State), grantOf s pkg f = none →
    ∃ t, exec (.xplMbxForward pkg f header payload) s = .next t ∧ t.evt 95 = true ∧ t.arm = s.arm ∧ t.prms = s.prms ∧ sameStores s t) ∧
  (∀ (pkg : Fin 16) (f : Fn) (header payload : Bytes) (g : Nat × Nat) (s : State), grantOf s pkg f = some g → (s.mbx (remoteKey pkg f)).rung = none →
    ∃ t, exec (.xplMbxForward pkg f header payload) s = .next t ∧
      ((t.mbx (remoteKey pkg f)).rung.map (·.opcode)) = some (fieldN header 0 2) ∧ t.regs = s.regs ∧ t.prms = s.prms ∧ sameStores s t)

/-! ### The wall (chapter 11) -/

/-- R367, R377, R378, R379, R402, R408: the mailbox commands of the wall. -/
def Obligations.WallCommands : Prop :=
  (∀ (k : Svc) (s : State), Served s 0x700 k → k.f = 0 → k.cmd.len = 24 → isStandby s = false → TicketFree s k →
    exec .mqtLoad s = .next (pended k (eff []) s)) ∧
  (∀ (k : Svc) (s : State), Served s 0x701 k → k.f = 0 → k.cmd.len = 16 → zeroAt k.cmd.payload 0 4 = true → TicketFree s k →
    exec .mqtRead s = .next (pended k (eff []) s)) ∧
  (∀ (k : Svc) (s : State), Served s 0x702 k → k.f = 0 → k.cmd.len = 24 → k.n 0 1 < 64 → k.n 1 1 < 16 → k.n 2 1 = 1 →
    zeroAt k.cmd.payload 3 1 = true → zeroAt k.cmd.payload 22 2 = true → halfFinite (k.n 20 2) = true →
    exec .winSet s = .next (answered k ST_OK [] (eff [stage 0 (.obj K_WIN (16 * k.n 0 1 + k.n 1 1) (some (field k.cmd.payload 4 18)))]) s)) ∧
  (∀ (k : Svc) (s : State), Served s 0x703 k → k.cmd.len = 68 → k.holds s R_WINDOW = true → k.n 0 1 < 64 →
    layerFieldsOk (leBytes 1 k.f ++ field k.cmd.payload 4 64) = true → zeroAt k.cmd.payload 1 3 = true →
    (if lyWin (leBytes 1 k.f ++ field k.cmd.payload 4 64) = 255 then !k.isF0
      else (winObj s k.f (lyWin (leBytes 1 k.f ++ field k.cmd.payload 4 64))).isNone) = false →
    layerTaken s k.f (k.n 0 1) = false →
    exec .lyrSet s = .next (answered k ST_OK (leBytes 1 (k.n 0 1) ++ [0, 0, 0])
      (eff [stage k.f (.obj K_LAYER (k.n 0 1) (some (leBytes 1 k.f ++ field k.cmd.payload 4 64)))]) s)) ∧
  (∀ (k : Svc) (s : State), Served s 0x703 k → k.cmd.len = 68 → k.holds s R_WINDOW = false →
    exec .lyrSet s = .next (answered k ST_DENIED [] (eff []) s)) ∧
  (∀ (k : Svc) (s : State), Served s 0x704 k → k.cmd.len = 4 → k.holds s R_WINDOW = true → k.n 0 1 < 64 → zeroAt k.cmd.payload 1 3 = true →
    layerTaken s k.f (k.n 0 1) = false →
    exec .lyrClear s = .next (answered k ST_OK [] (eff [stage k.f (.obj K_LAYER (k.n 0 1) none)]) s)) ∧
  (∀ (k : Svc) (s : State), Served s 0x705 k → k.f = 0 → k.cmd.len = 4 → k.n 0 1 < 64 → zeroAt k.cmd.payload 1 3 = true →
    ∃ payload, exec .lyrInfo s = .next (answered k ST_OK payload (eff []) s) ∧ payload.length = 20 ∧
      field payload 4 4 = leBytes 4 (s.pn (Prm.LYR_UNDERRUNS (k.n 0 1))) ∧ (fieldN payload 0 4) % 2 = if (s.obj K_LAYER (k.n 0 1)).isSome then 1 else 0) ∧
  (∀ (k : Svc) (s : State), Served s 0x706 k → k.f = 0 → k.cmd.len = 32 → k.n 2 1 = 2 → k.n 3 1 = 0 → k.n 0 2 < mqTiles s.mqt → 1 ≤ k.n 8 2 →
    1 ≤ k.n 10 2 → k.n 4 2 + k.n 8 2 ≤ tlCols (mqTile s.mqt (k.n 0 2)) → k.n 6 2 + k.n 10 2 ≤ tlRows (mqTile s.mqt (k.n 0 2)) →
    zeroAt k.cmd.payload 24 8 = true → halfFinite (k.n 16 2) = true → halfFinite (k.n 18 2) = true → halfFinite (k.n 20 2) = true →
    zeroAt k.cmd.payload 22 2 = true → grpMode s (tlGroup (mqTile s.mqt (k.n 0 2))) = 0 → TicketFree s k →
    exec .cmdPush s = .next (pended k (acts [pushRows k.cmd.payload, fun s => [.wall fun x => { x with pushes := x.pushes ++
      [⟨k.f, (((s.mbx k.f).tickets.getLast?).map (·.id)).getD 0, k.cmd.payload⟩] }]]) s)) ∧
  (∀ (p : Push) (rest : List Push) (s : State), s.wall.pushes = p :: rest →
    ∃ t, exec .cmdPushDone s = .next t ∧ t.wall.pushes = rest ∧ t.evt 165 = true ∧
      t.pn Prm.CMD_PUSHES = satAdd 0xFFFFFFFF (s.pn Prm.CMD_PUSHES) 1 ∧ sameStores s t) ∧
  (∀ (k : Svc) (s : State), Served s 0x707 k → k.f = 0 → k.cmd.len = 16 → k.n 0 1 < 4 → k.n 1 1 = 0 → zeroAt k.cmd.payload 2 2 = true →
    grpMode s (k.n 0 1) = 0 →
    exec .cmdLatch s = .next (answered k ST_OK (timeBytes (s.vis + s.pn (Prm.GRP_LATCH_MARGIN_NS (k.n 0 1)) * NS + s.free.toNat) ++ leBytes 4 0)
      (eff [.draw, addLatch (k.n 0 1) ⟨0, none, s.vis + s.pn (Prm.GRP_LATCH_MARGIN_NS (k.n 0 1)) * NS + s.free.toNat, false, true,
        groupTiles s (k.n 0 1)⟩]) s))

/-- R391, R394, R400, R372, R494, R79: the boundaries of the groups, the windows of tile misses, latches and tokens. -/
def Obligations.WallRows : Prop :=
  (∀ (g : Fin 4) (s : State), grpAlign s g = false → grpMode s g = 1 → gatesReady s g = true → periodPassed s g (grpMin s g) = true →
    exec (.frameBoundary g) s = .next ((groupBoundary g (s.vis, 1) none (nextFrame s g) false).run s)) ∧
  (∀ (g : Fin 4) (s : State), gatesReady s g = false → exec (.frameBoundary g) s = .next s) ∧
  (∀ (g : Fin 4) (n : Nat) (s : State), grpAlign s g = true → alignedIndex s g = some n → (s.group g).last = none →
    exec (.alignedBoundary g) s = .next ((groupBoundary g (alignedAt s g n) (some (alignedAt s g (n + 1))) (n % 2 ^ 48) false).run s)) ∧
  (∀ (g : Fin 4) (s : State), grpAlign s g = false → (s.group g).waits = false → periodPassed s g (grpMax s g) = true →
    exec (.grpPeriodMaxExpiry g) s = .next ((groupBoundary g (s.vis, 1) none (nextFrame s g) true).run s)) ∧
  (∀ (s : State), s.pn Prm.TILE_MISS_STORM_T < s.wall.missWin →
    ∃ t, exec .tileMissStormWindow s = .next t ∧ t.evt 163 = true ∧ t.wall.missWin = 0 ∧
      t.pn Prm.TILE_STORMS = satAdd 0xFFFFFFFF (s.pn Prm.TILE_STORMS) 1 ∧ sameStores s t) ∧
  (∀ (s : State), s.wall.missWin ≤ s.pn Prm.TILE_MISS_STORM_T →
    ∃ t, exec .tileMissStormWindow s = .next t ∧ t.wall.missWin = 0 ∧ t.regs = s.regs ∧ t.prms = s.prms ∧ sameStores s t) ∧
  (∀ (p q : Fin 2176) (b c : Binding) (data : BitVec 256) (crc : BitVec 16) (frame y x : Nat) (late : Bool) (s : State),
    worksFor s p = some b → worksFor s q = some c → routeOk s (some c) b = true → tokenCrc data = crc.toNat →
    exec (.unitToken p (some q) data crc frame y x late false) s = .next ((runToken p data frame y x late).run ((ackSender q).run s))) ∧
  (∀ (p q : Fin 2176) (b c : Binding) (data : BitVec 256) (crc : BitVec 16) (frame y x : Nat) (late : Bool) (s : State),
    worksFor s p = some b → worksFor s q = some c → routeOk s (some c) b = true → tokenCrc data ≠ crc.toNat → (s.unitF q).refused = 0 →
    ∃ t, exec (.unitToken p (some q) data crc frame y x late false) s = .next t ∧ (t.unitF q).refused = 1 ∧ t.regs = s.regs ∧ t.out = s.out ∧
      sameStores s t) ∧
  (∀ (p q : Fin 2176) (b c : Binding) (data : BitVec 256) (crc : BitVec 16) (frame y x : Nat) (late : Bool) (s : State),
    worksFor s p = some b → worksFor s q = some c → routeOk s (some c) b = true →
    ∃ t, exec (.unitToken p (some q) data crc frame y x late true) s = .next t ∧ t.evt 248 = true ∧ t.flt = s.flt ∧ sameStores s t) ∧
  (∀ (tile : Fin 1024) (l : Latch) (s : State), tileLatch s tile = some l → tlDdp (mqTile s.mqt tile) = false → l.hold = false → l.cmd = false →
    rowsSent s (mqTile s.mqt tile) = false → pairSilent s = false → (linkEnds s (tlLink (mqTile s.mqt tile))).isEmpty = false →
    (s.tlkTile (tlLink (mqTile s.mqt tile)) (tlHop (mqTile s.mqt tile))).present = true → rxDelays s (tlGroup (mqTile s.mqt tile)) = false →
    exec (.latchDeadline tile) s = .next (applyAll (sendConjunction tile l true s ++ [.count64 Prm.TLK_HOLDS_LO 1]) s)) ∧
  (∀ (tile : Fin 1024) (l : Latch) (s : State), tileLatch s tile = some l → tlDdp (mqTile s.mqt tile) = false → l.hold = false →
    rowsSent s (mqTile s.mqt tile) = true → pairSilent s = false → (linkEnds s (tlLink (mqTile s.mqt tile))).isEmpty = false →
    (s.tlkTile (tlLink (mqTile s.mqt tile)) (tlHop (mqTile s.mqt tile))).present = true →
    (s.tlkTile (tlLink (mqTile s.mqt tile)) (tlHop (mqTile s.mqt tile))).mismatch = false → l.time ≤ s.vis + SEC → driveHeld s tile = false →
    exec (.conjunctionSend tile) s = .next (syncDrive.run (applyAll (sendConjunction tile l false s) s)))

/-! ### Patina and libration (chapters 12 and 13) -/

/-- R416, R418, R419, R440: the commands of the patina store and the end of the background copy. -/
def Obligations.PatinaRows : Prop :=
  (∀ (k : Svc) (s : State), Served s 0x800 k → k.f = 0 → k.cmd.len = 24 → isStandby s = false → bankHeld s = false → TicketFree s k →
    ∃ t, exec .patLoad s = .next t ∧ t = pended k (eff [.pat fun p => { p with writer := 1 }]) s ∧ t.pat.writer = 1) ∧
  (∀ (k : Svc) (s : State), Served s 0x800 k → k.f = 0 → k.cmd.len = 24 → isStandby s = false → bankHeld s = true →
    exec .patLoad s = .next (answered k ST_BUSY [] (eff []) s)) ∧
  (∀ (k : Svc) (s : State), Served s 0x801 k → k.f = 0 → k.cmd.len = 24 → k.n 0 1 ≤ 1 → k.n 1 1 ≤ 1 → zeroAt k.cmd.payload 2 2 = true →
    k.n 4 4 + k.n 8 4 ≤ 33554432 → TicketFree s k → exec .patRead s = .next (pended k (eff []) s)) ∧
  (∀ (k : Svc) (s : State), Served s 0x802 k → k.f = 0 → k.cmd.len = 24 → patTableBad (k.n 1 1) (k.n 0 1) = false → isStandby s = false →
    TicketFree s k → exec .patTableLoad s = .next (pended k (eff []) s)) ∧
  (∀ (k : Svc) (s : State), Served s 0x803 k → k.f = 0 → k.cmd.len = 16 → patTableBad (k.n 1 1) (k.n 0 1) = false →
    zeroAt k.cmd.payload 2 2 = true → TicketFree s k → exec .patTableRead s = .next (pended k (eff []) s)) ∧
  (∀ (k : Svc) (s : State), Served s 0x804 k → k.f = 0 → k.cmd.len = 0 → s.pat.writer = 0 →
    ∃ payload, exec .patInfo s = .next (answered k ST_OK payload (eff []) s) ∧ payload.length = 20 ∧
      field payload 0 2 = [if s.pat.activeB then 1 else 0, 0] ∧ field payload 4 8 = leBytes 8 s.pat.gen ∧ field payload 16 4 = leBytes 4 1000) ∧
  (∀ (k : Svc) (s : State), Served s 0x805 k → k.f = 0 → k.cmd.len = 4 → k.n 0 4 ≤ 33554431 →
    ∃ rest, exec .patLampRead s = .next (answered k ST_OK (s.activeBank.record (k.n 0 4) ++
      field (s.activeBank.drive.getD (k.n 0 4) []) 0 8 ++ rest) (eff []) s)) ∧
  (∀ (s : State), s.pat.writer = 3 → s.lib.wait = none →
    ∃ t, exec .patSyncDone s = .next t ∧ t.pat.writer = 0 ∧ t.regs = s.regs ∧ t.prms = s.prms ∧ sameStores s t) ∧
  (∀ (s : State), s.pat.writer ≠ 3 → s.lib.wait = none → exec .patSyncDone s = .next s)

/-- R459, R472, R474, R480: the commands of libration. -/
def Obligations.LibrationCommands : Prop :=
  (∀ (k : Svc) (s : State), Served s 0x900 k → k.f = 0 → k.cmd.len = 8 → k.n 0 1 = 0 → 1 ≤ k.n 4 2 → k.n 2 2 + k.n 4 2 ≤ mqTiles s.mqt →
    zeroAt k.cmd.payload 1 1 = true → zeroAt k.cmd.payload 6 2 = true → canInject s = true → s.lib.build = none → TicketFree s k →
    exec .libMapBuild s = .next (pended k (acts [fun s' => [.lib fun l => { l with
      build := some ⟨k.f, newTicket k s', 0, k.n 2 2, k.n 4 2, 1, (k.n 4 2 + libN s - 2) / (libN s - 1)⟩ }], syncLib]) s)) ∧
  (∀ (k : Svc) (s : State), Served s 0x901 k → k.f = 0 → k.cmd.len = 24 → memOwned s 0 (k.n 8 8) (k.n 4 4) = true → isStandby s = false →
    TicketFree s k → exec .libMapLoad s = .next (pended k (eff []) s)) ∧
  (∀ (k : Svc) (s : State), Served s 0x902 k → k.f = 0 → k.cmd.len = 24 → k.n 0 4 + k.n 4 4 ≤ 33554432 → zeroAt k.cmd.payload 12 4 = true →
    memOwned s 0 (k.n 16 8) (k.n 8 4) = true → TicketFree s k → exec .libMapRead s = .next (pended k (eff []) s)) ∧
  (∀ (k : Svc) (s : State), Served s 0x903 k → k.f = 0 → k.cmd.len = 12 → k.n 8 1 = 0 → k.n 0 8 = 0 → zeroAt k.cmd.payload 9 3 = true →
    s.pat.writer = 0 → switchStaged s = false → s.pat.switching = false → s.lib.build = none → s.lib.update = none → s.lib.wait = none →
    TicketFree s k →
    exec .libRollback s = .next (pended k (acts [fun s => [.lib fun l => { l with wait := some (k.f, newTicket k s, 0, false) }], eff [],
      beginRollback, syncLib]) s)) ∧
  (∀ (k : Svc) (s : State), Served s 0x904 k → k.f = 0 → k.cmd.len = 0 →
    exec .libInfo s = .next (answered k ST_OK (leBytes 4 (s.pn Prm.LIB_STATE) ++ leBytes 4 (s.pn Prm.LIB_PERIODS) ++ leBytes 4 (s.pn Prm.LIB_CHIP) ++
      leBytes 1 s.lib.history.length ++ [0, 0, 0] ++
      field (s.lib.history.flatMap fun h => leBytes 8 h.gen ++ timeBytes h.time ++ leBytes 4 h.log.length) 0 192) (eff []) s)) ∧
  (∀ (k : Svc) (s : State), Served s 0x905 k → k.f = 0 → k.cmd.len = 4 → k.n 0 4 ≤ 33554431 →
    ∃ rest, exec .libLampInfo s = .next (answered k ST_OK (libEntry s (k.n 0 4) ++ rest) (eff []) s)) ∧
  (∀ (k : Svc) (s : State), Served s 0x906 k → k.f = 0 → k.cmd.len = 0 →
    exec .libReset s = .next (answered k ST_OK [] (eff [.lib fun l => { l with resetDue := true }]) s)) ∧
  (∀ (k : Svc) (u : LibUpdate) (s : State), Served s 0x907 k → k.f = 0 → k.cmd.len = 0 → s.lib.update = some u → u.written = true → u.armed = none →
    exec .libCommit s = .next (answered k ST_OK (leBytes 8 (armFrame s)) (acts [
      eff [.lib fun l => { l with update := l.update.map fun u => { u with armed := some (armFrame s) } }], syncLib]) s))

/-- R453, R456, R459, R463, R464, R470, R478: what libration measures and writes. -/
def Obligations.LibrationRows : Prop :=
  (∀ (w : Fin 2) (frame : Nat) (i : FrameInfo) (s : State), libEn s = true → canInject s = true → bitOf (s.pn (Prm.LIB_WIT_SENSOR w)) 31 = true →
    ((s.sns (s.pn (Prm.LIB_WIT_SENSOR w) % 8)).info.find? fun i => i.frame == frame) = some i →
    ∃ t, exec (.libWitnessFrame w none frame false) s = .next t ∧
      t.pn (Prm.LIB_WIT_EXCL_FRAME w) = satAdd 0xFFFFFFFF (s.pn (Prm.LIB_WIT_EXCL_FRAME w)) 1 ∧ t.lib = s.lib ∧ t.regs = s.regs ∧ sameStores s t) ∧
  (∀ (w : Fin 2) (frame : Nat) (i : FrameInfo) (s : State), libEn s = true → canInject s = true → bitOf (s.pn (Prm.LIB_WIT_SENSOR w)) 31 = true →
    ((s.sns (s.pn (Prm.LIB_WIT_SENSOR w) % 8)).info.find? fun i => i.frame == frame) = some i → i.incomplete = false → i.early = false →
    s.lib.shed = false →
    exec (.libWitnessFrame w none frame true) s = .next ((acts [observe (frameObservation s w frame i.ts), eff [.count (Prm.LIB_WIT_FRAMES w) 1,
      .count (Prm.LIB_WIT_EXCL_EDGE w) (edgeLines s (frameObservation s w frame i.ts)
        (s.pn (Prm.SAL_SNS_SIZE (s.pn (Prm.LIB_WIT_SENSOR w) % 8)) / 65536))]]).run s)) ∧
  (∀ (s : State), libEn s = true →
    exec .libPeriodEnd s = .next ((acts [eff [.raise 176, .prm Prm.LIB_PERIODS (s.prm Prm.LIB_PERIODS + 1)], register (estimates s) 0,
      register (estimates s) 1, reportEstimates (estimates s) (libSteps s (estimates s)), libUpdate (libSteps s (estimates s)), endBlocks, buildPeriod,
      eff ((List.range 64).map (fun l => .prm (Prm.LIB_PHOTO l) (w32 (putBits (s.pn (Prm.LIB_PHOTO l)) 15 0 (s.lib.photos.getD l 0)))) ++
        [.lib fun l => { l with since := l.since + 1, photos := .empty }]), syncLib]).run s)) ∧
  (∀ (s : State), libEn s = false → exec .libPeriodEnd s = .next s) ∧
  (∀ (u : LibUpdate) (s : State), s.lib.update = some u → u.written = false → u.rollback = none → bitOf (s.pn Prm.LIB_CTRL) 2 = false →
    s.lib.wait = none →
    ∃ t, exec .libUpdateWritten s = .next t ∧ t.lib.update = some { u with written := true } ∧ t.evt 177 = true ∧ sameStores s t) ∧
  (∀ (found : List (Nat × Bytes)) (b : LibBuild) (s : State), s.lib.build = some b → b.phase = 3 → b.periods = 0 → b.count = 0 →
    exec (.libMapBuildDone found) s = .next ((acts [
      eff [.lib fun l => { l with
        build := none, wits := l.wits.upd b.src ⟨false, 0, 0, false⟩ (fun w => { w with lost := false, below := 0, built := true }) }], libAssign,
      completeTicket b.f b.ticket ST_OK (leBytes 4 0 ++ leBytes 4 0), eff [.raise 182], syncLib]).run s)) ∧
  (∀ (found : List (Nat × Bytes)) (s : State), s.lib.build = none → exec (.libMapBuildDone found) s = .next s)

/-! ### Tile Link and direct drive (chapter 13) -/

/-- R482, R508, R509, R510: the mode, readiness, loss, breaks and retraining of a tile link. -/
def Obligations.TileLinkStates : Prop :=
  (∀ (l : Fin 64) (v : Word) (s : State), linkEn s l = true → getFld v Fld.TLK_LINK_CTRL.MODE = 2 →
    ∃ t, exec (.tlkLinkMode l v) s = .next t ∧ t.fld (Reg.TLK_LINK_CTRL l) Fld.TLK_LINK_CTRL.MODE = 2 ∧
      (∀ a, a ≠ Reg.TLK_LINK_CTRL l → t.rd a = s.rd a) ∧ sameStores s t) ∧
  (∀ (l : Fin 64) (v : Word) (s : State), linkEn s l = true → getFld v Fld.TLK_LINK_CTRL.MODE = 0 →
    ∃ t, exec (.tlkLinkMode l v) s = .next t ∧ t.fld (Reg.TLK_LINK_CTRL l) Fld.TLK_LINK_CTRL.MODE = 0 ∧ linkReady t l = false ∧ sameStores s t) ∧
  (∀ (l : Fin 64) (skew : Nat) (s : State), linkEn s l = true → s.fld (Reg.TLK_LINK_CTRL l) Fld.TLK_LINK_CTRL.MODE = 2 → linkReady s l = false →
    linkLanes s l = 1 →
    ∃ t, exec (.tlkLinkReady l skew) s = .next t ∧ linkReady t l = true ∧ t.fld (Reg.TLK_LINK_STAT l) Fld.TLK_LINK_STAT.WIDTH = 0 ∧
      (t.tlkLink l).discovering = true ∧ (t.tlkLink l).seen = [] ∧ sameStores s t) ∧
  (∀ (l : Fin 64) (skew : Nat) (s : State), linkEn s l = true → s.fld (Reg.TLK_LINK_CTRL l) Fld.TLK_LINK_CTRL.MODE = 2 → linkReady s l = false →
    linkLanes s l = 2 → 48 < skew →
    ∃ t, exec (.tlkLinkReady l skew) s = .next t ∧ linkReady t l = false ∧ t.flag (Reg.TLK_LINK_STAT l) Fld.TLK_LINK_STAT.DESKEW_ERR = true ∧
      t.tlk = s.tlk ∧ sameStores s t) ∧
  (∀ (l : Fin 64) (n : Fin 2) (los : Bool) (s : State), linkEn s l = true → n.val < linkLanes s l → linkReady s l = true →
    ∃ t, exec (.tlkBlockLockLost l n los) s = .next t ∧ linkReady t l = false ∧ t.evt 192 = true ∧
      t.flag (Reg.TLK_LINK_STAT l) Fld.TLK_LINK_STAT.RETRAINING = true ∧ sameStores s t) ∧
  (∀ (l : Fin 64) (hop : Fin 32) (s : State), linkEn s l = true → linkRing s l = true →
    ∃ t, exec (.tlkBreak l hop) s = .next t ∧ (t.tlkLink l).breakAt = some hop.val ∧ (t.tlkLink l).healed = false ∧ t.regs = s.regs ∧ sameStores s t) ∧
  (∀ (l : Fin 64) (hop h : Fin 32) (s : State), linkEn s l = true → linkRing s l = false → hop < h → (s.tlkTile l h).present = true →
    ∃ t, exec (.tlkBreak l hop) s = .next t ∧ (t.tlkTile l h).present = false ∧ t.evt 197 = true ∧ sameStores s t) ∧
  (∀ (l : Fin 64) (tag width : Fin 256) (rate : Bool) (s : State), linkEn s l = true → (s.tlkLink l).request = none → width.val ≠ 0 →
    ∃ t, exec (.trainReq l tag width rate) s = .next t ∧ (t.tlkLink l).width = some (min (linkLanes s l) width) ∧
      t.flag (Reg.TLK_LINK_STAT l) Fld.TLK_LINK_STAT.RETRAINING = true ∧ sameStores s t) ∧
  (∀ (l : Fin 64) (tag width : Fin 256) (rate : Bool) (agreed : Fin 256) (w : Nat) (s : State), (s.tlkLink l).request = some (tag.val, w) →
    ∃ t, exec (.trainAck l tag width rate agreed) s = .next t ∧ (t.tlkLink l).request = none ∧ (t.tlkLink l).width = some (min w width) ∧
      t.regs = s.regs ∧ sameStores s t) ∧
  (∀ (l : Fin 64) (s : State), s.flag (Reg.TLK_LINK_STAT l) Fld.TLK_LINK_STAT.RETRAINING = true → (s.tlkLink l).width = some 1 →
    (s.tlkLink l).op = none →
    ∃ t, exec (.tlkRetrainDone l) s = .next t ∧ linkReady t l = true ∧ t.flag (Reg.TLK_LINK_STAT l) Fld.TLK_LINK_STAT.RETRAINING = false ∧
      t.fld (Reg.TLK_LINK_STAT l) Fld.TLK_LINK_STAT.WIDTH = 0 ∧ t.evt 202 = true ∧ sameStores s t)

/-- R487, R498, R500, R502, R504, R505: what goes up and down a chain: time, control, telemetry and discovery. -/
def Obligations.TileLinkTraffic : Prop :=
  (∀ (l : Fin 64) (hop : Fin 32) (payload : Bytes) (s : State), linkReady s l = true →
    ∃ t, exec (.discoverReply l false hop payload) s = .next t ∧ t.tlk = s.tlk ∧ sameStores s t ∧
      t.fld (Reg.TLK_LINK_ERRS l) Fld.TLK_LINK_ERRS.UP_CRC_ERRS = satAdd
        (2 ^ (Fld.TLK_LINK_ERRS.UP_CRC_ERRS.hi + 1 - Fld.TLK_LINK_ERRS.UP_CRC_ERRS.lo) - 1) (s.fld (Reg.TLK_LINK_ERRS l) Fld.TLK_LINK_ERRS.UP_CRC_ERRS) 1) ∧
  (∀ (l : Fin 64) (s : State), linkReady s l = true →
    ∃ t, exec (.timeSyncSend l) s = .next t ∧ (t.tlkLink l).syncSeq = ((s.tlkLink l).syncSeq + 1) % 256 ∧ (t.tlkLink l).t1 = s.vis ∧
      t.regs = s.regs ∧ sameStores s t) ∧
  (∀ (l : Fin 64) (hop : Fin 32) (seq : Fin 256) (cd cu t2 t3 : Nat) (s : State), linkReady s l = true → seq.val = (s.tlkLink l).syncSeq →
    (s.tlkTile (aLink s l) hop).present = true →
    ∃ t, exec (.syncReply l true hop seq cd cu t2 t3) s = .next t ∧
      (t.tlkTile (aLink s l) hop).theta = ((t2 : Int) - (s.tlkLink l).t1 - cd) - (((s.vis - cu : Nat) : Int) - t3) ∧
      (t.tlkTile (aLink s l) hop).t4 = some (s.vis - cu) ∧ sameStores s t) ∧
  (∀ (l : Fin 64) (hop : Fin 32) (payload : Bytes) (s : State), linkReady s l = true → (s.tlkTile (aLink s l) hop).present = true →
    ∃ t, exec (.telemetry l true hop true payload) s = .next t ∧ (t.tlkTile (aLink s l) hop).photo = payload ∧ t.regs = s.regs ∧ sameStores s t) ∧
  (∀ (l : Fin 64) (hop : Fin 32) (payload : Bytes) (s : State), linkReady s l = true → (s.tlkTile (aLink s l) hop).present = true →
    ∃ t, exec (.telemetry l true hop false payload) s = .next t ∧ (t.tlkTile (aLink s l) hop).telem = some (field payload 0 56) ∧
      (fieldN (field payload 0 56) 0 2 % 32 ≠ 0 → t.evt 195 = true) ∧ sameStores s t) ∧
  (∀ (l : Fin 64) (hop : Fin 32) (tag : Nat) (values : Bytes) (c : TlkCtrl) (s : State), linkReady s l = true → (s.tlkLink l).ctrl = some c →
    c.tag = tag → c.hop = hop.val → c.owner = none → c.drive = false → (s.tlkLink l).queue = [] →
    ∃ t, exec (.ctrlAck l true hop tag 0 values) s = .next t ∧ (t.tlkLink l).ctrl = none ∧ t.regs = s.regs ∧ sameStores s t) ∧
  (∀ (l : Fin 64) (c : TlkCtrl) (s : State), (s.tlkLink l).ctrl = some c → c.sent < 4 →
    ∃ t, exec (.ctrlTimeout l) s = .next t ∧ (t.tlkLink l).ctrl = some { c with sent := c.sent + 1 } ∧ sameStores s t ∧
      t.fld (Reg.TLK_LINK_ERRS l) Fld.TLK_LINK_ERRS.CTRL_RETRIES = satAdd
        (2 ^ (Fld.TLK_LINK_ERRS.CTRL_RETRIES.hi + 1 - Fld.TLK_LINK_ERRS.CTRL_RETRIES.lo) - 1) (s.fld (Reg.TLK_LINK_ERRS l) Fld.TLK_LINK_ERRS.CTRL_RETRIES) 1) ∧
  (∀ (l : Fin 64) (c : TlkCtrl) (s : State), (s.tlkLink l).ctrl = some c → 4 ≤ c.sent → c.owner = none → (s.tlkLink l).queue = [] →
    ∃ t, exec (.ctrlTimeout l) s = .next t ∧ (t.tlkLink l).ctrl = none ∧ t.evt 194 = true ∧ sameStores s t) ∧
  (∀ (l : Fin 64) (s : State), linkReady s l = true → (s.tlkLink l).discovering = false →
    ∃ t, exec (.discoverSend l) s = .next t ∧ (t.tlkLink l).discovering = true ∧ (t.tlkLink l).seen = [] ∧ t.regs = s.regs ∧ sameStores s t) ∧
  (∀ (l : Fin 64) (hop : Fin 32) (payload : Bytes) (s : State), linkReady s l = true → tileAt s (aLink s l) hop false = none →
    hop.val ∈ (s.tlkLink l).seen → (s.tlkLink l).seen.length ≠ chainLen s (aLink s l) →
    ∃ t, exec (.discoverReply l true hop payload) s = .next t ∧ (t.tlkTile (aLink s l) hop).present = true ∧
      (t.tlkTile (aLink s l) hop).mismatch = true ∧ (t.tlkTile (aLink s l) hop).reply = field payload 0 24 ∧ t.evt 197 = true ∧ sameStores s t)

/-- R502, R504, R508, R512 to R516: the mailbox commands of links and direct drive ports, and a latch of such a port. -/
def Obligations.TileLinkCommands : Prop :=
  (∀ (k : Svc) (s : State), Served s 0xB00 k → k.f = 0 → k.cmd.len = 4 → k.n 0 1 < 64 → zeroAt k.cmd.payload 1 3 = true →
    linkReady s (k.n 0 1) = true → (s.tlkLink (k.n 0 1)).op = none → TicketFree s k →
    exec .tlkDiscover s = .next (pended k (acts [takeOp k (k.n 0 1), endDiscovery (k.n 0 1), discoverSend (k.n 0 1)]) s)) ∧
  (∀ (k : Svc) (s : State), Served s 0xB01 k → k.f = 0 → k.cmd.len = 4 → k.n 0 1 < 64 → k.n 1 1 < 32 → zeroAt k.cmd.payload 2 2 = true →
    linkReady s (k.n 0 1) = true → (s.tlkTile (aLink s (k.n 0 1)) (k.n 1 1)).present = true →
    ∃ state, exec .tlkTileInfo s = .next (answered k ST_OK ((s.tlkTile (aLink s (k.n 0 1)) (k.n 1 1)).reply ++ leBytes 4 state ++
      field ((s.tlkTile (aLink s (k.n 0 1)) (k.n 1 1)).telem.getD []) 0 56 ++
      leBytes 4 (unsgn 32 (rnd 15 (s.tlkTile (aLink s (k.n 0 1)) (k.n 1 1)).theta))) (eff []) s)) ∧
  (∀ (k : Svc) (s : State), Served s 0xB02 k → k.f = 0 → 1 ≤ k.n 2 2 → k.n 2 2 ≤ 256 → k.cmd.len = 8 + 4 * k.n 2 2 → k.n 0 1 < 64 → k.n 1 1 < 32 →
    0x80000000 ≤ k.n 4 4 → linkReady s (k.n 0 1) = true → (s.tlkTile (aLink s (k.n 0 1)) (k.n 1 1)).present = true →
    (s.tlkLink (k.n 0 1)).op = none → TicketFree s k →
    exec .tlkCtrlWrite s = .next (pended k (hostCtrl k (k.n 0 1) (k.n 1 1) 4 (field k.cmd.payload 4 4 ++ leBytes 2 (k.n 2 2) ++ [0, 0] ++
      field k.cmd.payload 8 (4 * k.n 2 2))) s)) ∧
  (∀ (k : Svc) (s : State), Served s 0xB03 k → k.f = 0 → 1 ≤ k.n 2 2 → k.n 2 2 ≤ 256 → k.cmd.len = 8 → k.n 0 1 < 64 → k.n 1 1 < 32 →
    linkReady s (k.n 0 1) = true → (s.tlkTile (aLink s (k.n 0 1)) (k.n 1 1)).present = true → (s.tlkLink (k.n 0 1)).op = none → TicketFree s k →
    exec .tlkCtrlRead s = .next (pended k (hostCtrl k (k.n 0 1) (k.n 1 1) 5 (field k.cmd.payload 4 4 ++ leBytes 2 (k.n 2 2) ++ [0, 0])) s)) ∧
  (∀ (k : Svc) (s : State), Served s 0xB04 k → k.f = 0 → k.cmd.len = 4 → k.n 0 1 < 64 → 1 ≤ k.n 1 1 → k.n 1 1 ≤ linkLanes s (k.n 0 1) →
    zeroAt k.cmd.payload 2 2 = true → linkReady s (k.n 0 1) = true → (s.tlkLink (k.n 0 1)).op = none → TicketFree s k →
    exec .tlkRetrain s = .next (pended k (acts [takeOp k (k.n 0 1), trainRequest (k.n 0 1) (k.n 1 1)]) s)) ∧
  (∀ (k : Svc) (s : State), Served s 0xB05 k → k.f = 0 → k.cmd.len = 4 → k.n 0 1 < 16 → zeroAt k.cmd.payload 1 3 = true →
    ∃ rest, exec .ddpInfo s = .next (answered k ST_OK (leBytes 4 (s.rd (Reg.DDP_PORT_STAT (k.n 0 1))).toNat ++ rest) (eff []) s) ∧ rest.length = 8) ∧
  (∀ (p : Fin 16) (mismatch : Bool) (tile : Nat) (l : Latch) (s : State), tileAt s p 0 true = some tile → tileLatch s tile = some l → l.hold = true →
    ∃ t, exec (.ddpLatch p mismatch) s = .next t ∧ t.evt 198 = true ∧ (t.ddpPort p).next = .empty ∧ (t.ddpPort p).whole = false ∧ sameStores s t ∧
      (∀ q time cfg, .ddpLatch q time cfg ∈ t.out → .ddpLatch q time cfg ∈ s.out)) ∧
  (∀ (p : Fin 16) (mismatch : Bool) (s : State), tileAt s p 0 true = none → exec (.ddpLatch p mismatch) s = .next s)

/-! ### Time and pulses (chapter 14) -/

/-- R521, R542, R549, R522, R525, R537, R538: reads of a time triple and of a capture FIFO, the commands of opcode group 0x0C, and the
arming and stopping of a pulse output. -/
def Obligations.TimeCommands : Prop :=
  (∀ s : State, tripped s = false → ∃ t, exec .timNowRead s = .next t ∧ t.rd Reg.TIM_NOW_NS = w32 (s.vis / NS % 1000000000) ∧
    t.rd Reg.TIM_NOW_SEC_LO = w32 (s.vis / SEC) ∧ t.out = s.out ++ [.readData 0 Reg.TIM_NOW_NS (w32 (s.vis / NS % 1000000000))] ∧
    (∀ a, a ≠ Reg.TIM_NOW_NS → a ≠ Reg.TIM_NOW_SEC_LO → a ≠ Reg.TIM_NOW_SEC_HI → t.rd a = s.rd a) ∧ t.prms = s.prms ∧ t.tim = s.tim ∧
    sameStores s t) ∧
  (∀ (n : Fin 8) (v : Nat) (rest : List Nat) (s : State), s.tim.caps.getD n [] = v :: rest → rest.length < 256 →
    ∃ t, exec (.timCapRead n) s = .next t ∧ t.tim.caps.getD n [] = rest ∧ t.rd (Reg.TIM_CAP_NS n) = w32 (v / NS % 1000000000) ∧
      t.rd (Reg.TIM_CAP_SEC_LO n) = w32 (v / SEC) ∧ t.flag (Reg.TIM_CAP_STAT n) Fld.TIM_CAP_STAT.VALID = (rest ≠ []) ∧ sameStores s t) ∧
  (∀ (k : Svc) (s : State), Served s 0xC00 k → k.cmd.len = 0 →
    ∃ payload, exec .timGet s = .next (answered k ST_OK payload (eff []) s) ∧ payload.take 12 = timeBytes s.vis) ∧
  (∀ (k : Svc) (s : State), Served s 0xC01 k → k.cmd.len = 16 → k.holds s R_TIME = true → k.n 0 1 = 0 → zeroAt k.cmd.payload 1 3 = true →
    timeOk (field k.cmd.payload 4 12) = true → tooFar s (timeOf (field k.cmd.payload 4 12)) = false → mayStep s = true →
    servoMode s ≠ 1 → servoMode s ≠ 3 →
    exec .timAcquire s = .next (answered k ST_OK [] (stepTime (timeOf (field k.cmd.payload 4 12))) s)) ∧
  (∀ (k : Svc) (s : State), Served s 0xC01 k → k.cmd.len = 16 → k.holds s R_TIME = true → k.n 0 1 = 1 → zeroAt k.cmd.payload 1 3 = true →
    zeroAt k.cmd.payload 4 12 = true → mayStep s = true → TicketFree s k →
    exec .timAcquire s = .next (pended k (eff [.tim fun t => { t with
      acquire := t.acquire ++ [(k.f, ticketId k.f (s.mbx k.f).nextTicket)] }]) s)) ∧
  (∀ (k : Svc) (s : State), Served s 0xC01 k → k.cmd.len = 16 → k.holds s R_TIME = true → k.n 0 1 = 1 → zeroAt k.cmd.payload 1 3 = true →
    zeroAt k.cmd.payload 4 12 = true → mayStep s = false → exec .timAcquire s = .next (answered k ST_CONFLICT [] (eff []) s)) ∧
  (∀ (k : Svc) (s : State), Served s 0xC02 k → k.cmd.len = 8 → k.holds s R_TIME = true → (sgn 64 (k.n 0 8)).natAbs ≤ rhoMax.natAbs →
    servoMode s = 2 →
    exec .timAdjust s = .next (answered k ST_OK [] (eff (setRho (sgn 64 (k.n 0 8)))) s)) ∧
  (∀ (k : Svc) (s : State), Served s 0xC03 k → k.cmd.len = 4 → k.holds s R_TIME = true → k.n 0 1 < 4 → zeroAt k.cmd.payload 1 3 = true →
    ∃ payload, exec .timPtpInfo s = .next (answered k ST_OK payload (eff []) s) ∧
      payload.take 3 = leBytes 1 (s.ptp (k.n 0 1)).state ++ leBytes 1 (s.ptp (k.n 0 1)).gmClass ++ leBytes 1 (s.ptp (k.n 0 1)).gmAcc) ∧
  (∀ (k : Svc) (s : State), Served s 0xC04 k → k.cmd.len = 0 → k.holds s R_TIME = true →
    exec .timPeers s = .next (answered k ST_OK (leBytes 1 s.tim.peers.size ++ [0, 0, 0] ++ s.tim.peers.entries.flatMap (peerEntry s)) (eff []) s)) ∧
  (∀ (n : Fin 16) (v : Word) (s : State), getFld v Fld.TPO_CTRL.ARM = 1 → armBad s n (getFld v Fld.TPO_CTRL.MODE) = true →
    ∃ t, exec (.tpoArm n v) s = .next t ∧ t.flag (Reg.TPO_STAT n) Fld.TPO_STAT.CFG_ERR = true ∧ t.tim = s.tim ∧ t.prms = s.prms ∧ sameStores s t) ∧
  (∀ (n : Fin 16) (v : Word) (s : State), getFld v Fld.TPO_CTRL.ARM = 1 → getFld v Fld.TPO_CTRL.MODE = 1 → armBad s n 1 = false →
    s.vis < tpoStart s n →
    ∃ t, exec (.tpoArm n v) s = .next t ∧ (t.tpo n).edges = [tpoStart s n] ∧ (t.tpo n).active = true ∧
      (t.tpo n).width = (s.rd (Reg.TPO_WIDTH n)).toNat ∧ t.flag (Reg.TPO_STAT n) Fld.TPO_STAT.ACTIVE = true ∧ t.prms = s.prms ∧ sameStores s t) ∧
  (∀ (n : Fin 16) (v : Word) (s : State), getFld v Fld.TPO_CTRL.STOP = 1 → (s.tpo n).pulse = none →
    ∃ t, exec (.tpoStop n v) s = .next t ∧ (t.tpo n).edges = [] ∧ (t.tpo n).active = false ∧
      t.flag (Reg.TPO_STAT n) Fld.TPO_STAT.ACTIVE = false ∧ t.prms = s.prms ∧ sameStores s t)

/-- R523, R526, R528, R529, R532, R533, R541: PTP messages, a master's own messages, timeouts, exchanges over XPL and pulse edges. -/
def Obligations.TimeRows : Prop :=
  (∀ (p : Fin 4) (m : Bytes) (s : State), ptpOn s p = true → m.length < 34 →
    ∃ t, exec (.ptpMessage p m) s = .next t ∧ t.pn (Prm.PTP_BAD_RX p) = satAdd 0xFFFFFFFF (s.pn (Prm.PTP_BAD_RX p)) 1 ∧ t.tim = s.tim ∧
      t.regs = s.regs ∧ sameStores s t) ∧
  (∀ (p : Fin 4) (m : Bytes) (s : State), ptpOn s p = true → 44 ≤ m.length → netN m 1 1 % 16 = 2 → netN m 0 1 % 16 = 0 →
    netN m 4 1 = s.pn Prm.TIM_PTP_DOMAIN → (s.ptp p).state = 9 → netN m 20 10 = (s.ptp p).parent → bitOf (netN m 6 1) 1 = true →
    ∃ t, exec (.ptpMessage p m) s = .next t ∧
      (t.ptp p).waiting = some (netN m 30 2, (s.stamp : Int) - sgn 64 (netN m 8 8) - asym s p) ∧
      t.pn (Prm.PTP_SYNC_RX p) = satAdd 0xFFFFFFFF (s.pn (Prm.PTP_SYNC_RX p)) 1 ∧ t.regs = s.regs ∧ sameStores s t) ∧
  (∀ (p : Fin 4) (m : Bytes) (s : State), ptpOn s p = true → 44 ≤ m.length → netN m 1 1 % 16 = 2 → netN m 0 1 % 16 = 1 →
    netN m 4 1 = s.pn Prm.TIM_PTP_DOMAIN → (s.ptp p).state = 6 → tripped s = false →
    ∃ t, exec (.ptpMessage p m) s = .next t ∧ t.tim = s.tim ∧ t.regs = s.regs ∧ sameStores s t ∧
      t.out = s.out ++ [.packet 6 p (ptpHeader s p 9 54 0 (netN m 30 2) (sgn 64 (netN m 8 8)) 3
        (bitsOf (s.pn Prm.TIM_PTP_INTERVALS) 7 0) ++ ptpStamp s.stamp ++ beBytes 10 (netN m 20 10))]) ∧
  (∀ (p : Fin 4) (s : State), ptpOn s p = true → (s.ptp p).state = 9 →
    ∃ t, exec (.ptpSend p 2) s = .next t ∧ (t.ptp p).req = some ((s.ptp p).seqOut, (s.stamp : Int)) ∧
      (t.ptp p).seqOut = ((s.ptp p).seqOut + 1) % 65536 ∧ t.regs = s.regs ∧ sameStores s t) ∧
  (∀ (p : Fin 4) (kind : Fin 3) (s : State), ptpOn s p = true → (s.ptp p).state = 6 → bitOf (s.pn (Prm.PTP_PORT_CFG p)) 2 = false → kind.val < 2 → tripped s = false →
    ∃ t, exec (.ptpSend p kind) s = .next t ∧ (t.ptp p).seqOut = ((s.ptp p).seqOut + 1) % 65536 ∧
      s.out.length < t.out.length ∧ t.regs = s.regs ∧ sameStores s t) ∧
  (∀ (p : Fin 4) (s : State), ∃ t, exec (.ptpAnnounceTimeout (some p)) s = .next t ∧ (t.ptp p).heard = false ∧ (t.ptp p).delay = none ∧ sameStores s t) ∧
  (∀ (s : State), servoMode s = 3 → s.flag Reg.TIM_STATE Fld.TIM_STATE.LOCKED = true →
    ∃ t, exec (.ptpAnnounceTimeout none) s = .next t ∧ t.flag Reg.TIM_STATE Fld.TIM_STATE.LOCKED = false ∧
      t.flag Reg.TIM_STATE Fld.TIM_STATE.HOLDOVER = true ∧ t.evt 209 = true ∧ sameStores s t) ∧
  (∀ (peer : Fin 16) (candidate locked holdover : Bool) (t1 t2 t3 t4 cd cu : Nat) (s : State),
    peer.val ≠ s.fld Reg.HUB_TOPOLOGY Fld.HUB_TOPOLOGY.PKG_ID →
    ∃ t, exec (.xplTimeExchange peer candidate locked holdover t1 t2 t3 t4 cd cu) s = .next t ∧ sameStores s t ∧
      t.tim.peers.find peer = some ⟨s.fld (Reg.XPL_ROUTE peer) Fld.XPL_ROUTE.HOPS,
        (((t2 : Int) - t1 - cd) - ((t4 : Int) - cu - t3)) / 2, candidate, locked, holdover, true⟩) ∧
  (∀ (n : Fin 16) (e : Nat) (s : State), (s.tpo n).pulse = none → (s.tpo n).edges = [e] → (s.tpo n).active = true → (s.tpo n).mode = 1 →
    ∃ t, exec (.tpoEdge n) s = .next t ∧ (t.tpo n).pulse = some (e + (s.tpo n).width * NS) ∧ (t.tpo n).edges = [] ∧
      t.devMem = s.devMem ∧ t.hostMem = s.hostMem) ∧
  (∀ (n : Fin 16) (c : Nat) (s : State), (s.tpo n).pulse = some c → (s.tpo n).edges = [] → (s.tpo n).mode = 1 →
    ∃ t, exec (.tpoEdge n) s = .next t ∧ (t.tpo n).pulse = none ∧ (t.tpo n).active = false ∧
      t.flag (Reg.TPO_STAT n) Fld.TPO_STAT.ACTIVE = false ∧ t.prms = s.prms)

/-! ### Audio ports (chapter 15) -/

/-- R553, R555, R557, R558, R560 to R562: the commands of opcode group 0x0D, and what the clocks and the frames of a port do. -/
def Obligations.AudioPorts : Prop :=
  (∀ (k : Svc) (s : State), Served s 0xD00 k → k.f = 0 → k.cmd.len = 4 → k.n 0 1 < 8 → k.n 1 1 < 2 → zeroAt k.cmd.payload 2 2 = true →
    audOut s (k.n 0 1) = false →
    ∃ rest, exec .audCsRead s = .next (answered k ST_OK (((s.audPort (k.n 0 1)).cs (k.n 1 1)).status ++
      ((s.audPort (k.n 0 1)).cs (k.n 1 1)).user ++ leBytes 4 ((s.audPort (k.n 0 1)).cs (k.n 1 1)).blocks ++ rest) (eff []) s)) ∧
  (∀ (k : Svc) (s : State), Served s 0xD00 k → k.f ≠ 0 → k.cmd.len = 4 → exec .audCsRead s = .next (answered k ST_NOT_OWNER [] (eff []) s)) ∧
  (∀ (k : Svc) (s : State), Served s 0xD01 k → k.f = 0 → k.cmd.len = 28 → k.n 0 1 < 8 → k.n 1 1 < 2 → zeroAt k.cmd.payload 2 2 = true →
    zeroAt k.cmd.payload 27 1 = true → audOut s (k.n 0 1) = true →
    exec .audCsWrite s = .next (answered k ST_OK [] (eff [effCs (k.n 0 1) (k.n 1 1) fun x => { x with
      next := some (field k.cmd.payload 4 23) }]) s)) ∧
  (∀ (k : Svc) (s : State), Served s 0xD01 k → k.f = 0 → k.cmd.len = 28 → audOut s (k.n 0 1) = false →
    exec .audCsWrite s = .next (answered k ST_BAD_PARAM [] (eff []) s)) ∧
  (∀ (k : Svc) (s : State), Served s 0xD02 k → k.f = 0 → k.cmd.len = 4 → k.n 0 1 < 8 → zeroAt k.cmd.payload 1 3 = true →
    exec .audInfo s = .next (answered k ST_OK (leBytes 4 (s.rd (Reg.AUD_PORT_STAT (k.n 0 1))).toNat ++
      leBytes 4 (s.pn (Prm.AUD_RATIO (k.n 0 1))) ++ leBytes 4 (s.pn (Prm.AUD_DELAY_IN_FORCE (k.n 0 1))) ++
      leBytes 4 (s.rd (Reg.AUD_RING_PROD (k.n 0 1))).toNat ++ leBytes 4 (s.rd (Reg.AUD_RING_CONS (k.n 0 1))).toNat ++
      leBytes 4 (s.pn (Prm.AUD_UNDERRUNS (k.n 0 1))) ++ leBytes 4 (s.pn (Prm.AUD_OVERRUNS (k.n 0 1)))) (eff []) s)) ∧
  (∀ (p : Fin 8) (s : State), audEn s p = true → audOut s p = false →
    ∃ t, exec (.audClockLoss p) s = .next t ∧ t.flag (Reg.AUD_PORT_STAT p) Fld.AUD_PORT_STAT.CLOCK_LOST = true ∧
      t.flag (Reg.AUD_PORT_STAT p) Fld.AUD_PORT_STAT.MUTED = true ∧ t.flag (Reg.AUD_PORT_STAT p) Fld.AUD_PORT_STAT.LOCKED = false ∧
      (t.audPort p).a.run = false ∧ (t.audPort p).b.run = false ∧ t.evt 216 = true ∧ sameStores s t) ∧
  (∀ (p : Fin 8) (hz : Nat) (s : State), audEn s p = true → ratioBad s p hz = true →
    ∃ t, exec (.audRatioError p hz) s = .next t ∧ t.flag (Reg.AUD_PORT_STAT p) Fld.AUD_PORT_STAT.RATIO_ERR = true ∧
      t.flag (Reg.AUD_PORT_STAT p) Fld.AUD_PORT_STAT.MUTED = true ∧ (t.audPort p).a.run = false ∧ t.evt 217 = true ∧ sameStores s t) ∧
  (∀ (p : Fin 8) (hz : Nat) (s : State), audEn s p = true → ratioBad s p hz = false →
    ∃ t, exec (.audRatioError p hz) s = .next t ∧ t.flag (Reg.AUD_PORT_STAT p) Fld.AUD_PORT_STAT.RATIO_ERR = false ∧ t.aud = s.aud ∧ sameStores s t) ∧
  (∀ (p : Fin 8) (hz : Nat) (s : State), audEn s p = true → ratioBad s p hz = false → clockPresent s p = true →
    ∃ t, exec (.audUnmute p hz) s = .next t ∧ (t.audPort p).stable = true ∧ t.flag (Reg.AUD_PORT_STAT p) Fld.AUD_PORT_STAT.LOCKED = true ∧
      t.flag (Reg.AUD_PORT_STAT p) Fld.AUD_PORT_STAT.RATIO_ERR = false ∧ sameStores s t) ∧
  (∀ (p : Fin 8) (since : Nat) (s : State), (s.audPort p).since = some since →
    ∃ t, exec (.audZcTimeout p) s = .next t ∧ (t.audPort p).a = audDue s p 0 ∧ (t.audPort p).b = audDue s p 1 ∧ t.evt 219 = true ∧
      t.pn (Prm.AUD_ZC_TIMEOUTS p) = satAdd 0xFFFFFFFF (s.pn (Prm.AUD_ZC_TIMEOUTS p)) 1 ∧ sameStores s t) ∧
  (∀ (p : Fin 8) (chan : Fin 2) (status user : Bytes) (s : State), audEn s p = true → audOut s p = false → status.length = 24 → user.length = 24 →
    csPro status = true → fieldN status 23 1 = crcc status →
    ∃ t, exec (.audCsBlock p chan status user) s = .next t ∧ ((t.audPort p).cs chan).status = status ∧ ((t.audPort p).cs chan).user = user ∧
      ((t.audPort p).cs chan).accepted = true ∧ ((t.audPort p).cs chan).crcOk = true ∧ sameStores s t ∧
      (((s.audPort p).cs chan).accepted = true → ((s.audPort p).cs chan).status.take 23 ≠ status.take 23 → t.evt 218 = true)) ∧
  (∀ (p : Fin 8) (chan : Fin 2) (status user : Bytes) (s : State), audEn s p = true → audOut s p = false → status.length = 24 → user.length = 24 →
    csPro status = true → fieldN status 23 1 ≠ crcc status →
    ∃ t, exec (.audCsBlock p chan status user) s = .next t ∧ ((t.audPort p).cs chan).status = ((s.audPort p).cs chan).status ∧
      ((t.audPort p).cs chan).crcOk = false ∧ t.pn (Prm.AUD_CRCC_ERRS p) = satAdd 0xFFFFFFFF (s.pn (Prm.AUD_CRCC_ERRS p)) 1 ∧
      t.regs = s.regs ∧ sameStores s t) ∧
  (∀ (p : Fin 8) (s : State), audOut s p = true → audEn s p = true → (s.audPort p).a.src % 4 = 3 →
    ∃ t, exec (.audFrameNeeded p) s = .next t ∧ (t.audPort p).frame = ((s.audPort p).frame + 1) % 192 ∧
      s.out.length < t.out.length ∧ sameStores s t)

/-! ### Clip store, recorders and playback (chapter 16) -/

/-- A GO that starts a task (R574 to R576): the command word is stored, BUSY is 1, the task stands with the registers' values, and no
memory and no drive's contents change. -/
def Obligations.TaskStarts : Prop :=
  let started := fun (f : Fn) (v : Word) (op : Nat) (s t : State) =>
    t.flag (Reg.CST_TASK_STATUS f) Fld.CST_TASK_STATUS.BUSY = true ∧ (∃ x, t.task f = some x ∧ x.op = op ∧
      x.fua = (getFld v Fld.CST_TASK_CMD.FUA == 1) ∧ x.space = getFld v Fld.CST_TASK_CMD.NS ∧ x.lba = s.rd64 (Reg.CST_TASK_LBA_LO f) ∧
      x.blocks = s.fld (Reg.CST_TASK_BLOCKS f) Fld.CST_TASK_BLOCKS.BLOCKS ∧ x.addr = s.rd64 (Reg.CST_TASK_ADDR_LO f) ∧ x.done = 0 ∧
      x.fail = none ∧ x.order = s.cst.order) ∧
    t.devMem = s.devMem ∧ t.hostMem = s.hostMem ∧ t.pageMem = s.pageMem ∧ t.cst.disk = s.cst.disk
  let may := fun (f : Fn) (v : Word) (op : Nat) (s : State) => getFld v Fld.CST_TASK_CMD.GO = 1 ∧ getFld v Fld.CST_TASK_CMD.OP = op ∧
    s.flag (Reg.CST_TASK_STATUS f) Fld.CST_TASK_STATUS.BUSY = false ∧ taskChecks s f v = none
  (∀ (f : Fn) (v : Word) (s : State), may f v OP_READ s → ∃ t, exec (.cstTaskRead f v) s = .next t ∧ started f v OP_READ s t) ∧
  (∀ (f : Fn) (v : Word) (s : State), may f v OP_WRITE s → ∃ t, exec (.cstTaskWrite f v) s = .next t ∧ started f v OP_WRITE s t) ∧
  (∀ (f : Fn) (v : Word) (s : State), may f v OP_FLUSH s → ∃ t, exec (.cstTaskFlush f v) s = .next t ∧ started f v OP_FLUSH s t) ∧
  (∀ (f : Fn) (v : Word) (s : State), may f v OP_DEALLOCATE s →
    ∃ t, exec (.cstTaskDeallocate f v) s = .next t ∧ started f v OP_DEALLOCATE s t)

/-- R574, R575, R577, R578, R580: a GO while a task runs is lost; a task that a check refuses ends at once with its status; pieces end and are
counted, a read's data reaches memory and a write's the drives; the last piece ends the task; the drives become idle and go to sleep. -/
def Obligations.TaskEnds : Prop :=
  (∀ (f : Fn) (v : Word) (s : State), getFld v Fld.CST_TASK_CMD.GO = 1 → getFld v Fld.CST_TASK_CMD.OP = OP_READ →
    s.flag (Reg.CST_TASK_STATUS f) Fld.CST_TASK_STATUS.BUSY = true →
    ∃ t, exec (.cstTaskRead f v) s = .next t ∧ t.flag (Reg.CST_TASK_STATUS f) Fld.CST_TASK_STATUS.GO_LOST = true ∧
      t.pn Prm.CST_GO_LOST = satAdd 0xFFFFFFFF (s.pn Prm.CST_GO_LOST) 1 ∧ sameStores s t) ∧
  (∀ (f : Fn) (v : Word) (st : Nat) (s : State), getFld v Fld.CST_TASK_CMD.GO = 1 → getFld v Fld.CST_TASK_CMD.OP = OP_WRITE →
    s.flag (Reg.CST_TASK_STATUS f) Fld.CST_TASK_STATUS.BUSY = false → taskChecks s f v = some st → st < 65536 →
    ∃ t, exec (.cstTaskWrite f v) s = .next t ∧ t.fld (Reg.CST_TASK_STATUS f) Fld.CST_TASK_STATUS.STATUS = st ∧
      t.flag (Reg.CST_TASK_STATUS f) Fld.CST_TASK_STATUS.DONE = true ∧ t.flag (Reg.CST_TASK_STATUS f) Fld.CST_TASK_STATUS.BUSY = false ∧
      t.flag (Reg.CST_TASK_CMD f) Fld.CST_TASK_CMD.GO = false ∧ t.rd (Reg.CST_TASK_RESULT f) = 0 ∧
      t.devMem = s.devMem ∧ t.hostMem = s.hostMem ∧ t.pageMem = s.pageMem ∧ t.cst.disk = s.cst.disk) ∧
  (∀ (f : Fn) (p : Piece) (x : Task) (s : State), s.task f = some x → x.pieces = [p] → p.issued = true → x.op = OP_READ →
    x.addr + (p.lba - x.lba) * BLK < 2 ^ 63 →
    ∃ t y, exec (.cstPieceDone f p.lba true) s = .next t ∧ t.task f = some y ∧ y.pieces = [] ∧ y.done = x.done + p.blocks ∧ y.fail = x.fail ∧
      t.devMem = memWriteBytes s.devMem (x.addr + (p.lba - x.lba) * BLK) (s.cst.disk.readRun x.space p.lba p.blocks) ∧
      t.hostMem = s.hostMem ∧ t.pageMem = s.pageMem ∧ t.cst.disk = s.cst.disk) ∧
  (∀ (f : Fn) (p : Piece) (x : Task) (s : State), s.task f = some x → x.pieces = [p] → p.issued = true → x.op = OP_WRITE →
    firstPoison s (x.addr + (p.lba - x.lba) * BLK) (p.blocks * BLK) = none →
    ∃ t y, exec (.cstPieceDone f p.lba true) s = .next t ∧ t.task f = some y ∧ y.done = x.done + p.blocks ∧
      t.cst.disk = Disk.writeRun (f + 128 * (x.order * 2 ^ 40 + p.lba)) x.fua x.space p.blocks p.lba
        (s.ringRead (x.addr + (p.lba - x.lba) * BLK) (p.blocks * BLK)) s.cst.disk ∧
      t.devMem = s.devMem ∧ t.hostMem = s.hostMem ∧ t.pageMem = s.pageMem) ∧
  (∀ (f : Fn) (p : Piece) (x : Task) (s : State), s.task f = some x → x.pieces = [p] → p.issued = true → x.fail = none →
    ∃ t y, exec (.cstPieceDone f p.lba false) s = .next t ∧ t.task f = some y ∧ y.pieces = [] ∧ y.fail = some (p.lba, ST_MEDIA_ERROR) ∧
      t.pn Prm.CST_MEDIA_ERRS = satAdd 0xFFFFFFFF (s.pn Prm.CST_MEDIA_ERRS) 1 ∧ t.devMem = s.devMem ∧ t.hostMem = s.hostMem ∧
      t.cst.disk = s.cst.disk) ∧
  (∀ (f : Fn) (x : Task) (s : State), s.task f = some x → x.pieces = [] → x.fail = none → x.done < 2 ^ 32 →
    ∃ t, exec (.cstTaskDone f) s = .next t ∧ t.task f = none ∧ t.fld (Reg.CST_TASK_STATUS f) Fld.CST_TASK_STATUS.STATUS = ST_OK ∧
      (t.rd (Reg.CST_TASK_RESULT f)).toNat = x.done ∧ t.rd64 (Reg.CST_TASK_ERR_LBA_LO f) = 0 ∧
      t.flag (Reg.CST_TASK_STATUS f) Fld.CST_TASK_STATUS.DONE = true ∧ t.flag (Reg.CST_TASK_STATUS f) Fld.CST_TASK_STATUS.BUSY = false ∧
      t.devMem = s.devMem ∧ t.hostMem = s.hostMem ∧ t.cst.disk = s.cst.disk) ∧
  (∀ (f : Fn) (p : Piece) (x : Task) (s : State), s.task f = some x → x.pieces = [p] → p.issued = true → x.fail = none →
    ∃ t y, exec (.drvCmdTimeout f p.lba) s = .next t ∧ t.task f = some y ∧ y.pieces = [] ∧ y.fail = some (p.lba, ST_TIMEOUT) ∧
      t.cst.aborting = s.cst.aborting ++ [s.driveOf p.lba] ∧ t.cst.disk = s.cst.disk) ∧
  (∀ s : State, storeReady s = true → pstate s = 0 → outstanding s = 0 →
    ∃ t, exec .cstIdleEntry s = .next t ∧ pstate t = 1 ∧ sameStores s t) ∧
  (∀ s : State, pstate s = 1 → s.pn Prm.CST_SLEEP_MS ≠ 0 → ∃ t, exec .cstSleepEntry s = .next t ∧ pstate t = 2 ∧ sameStores s t) ∧
  (∀ s : State, s.pn Prm.CST_SLEEP_MS = 0 → exec .cstSleepEntry s = .next s)

/-- R568 to R572: the mailbox commands of the store and its namespaces. -/
def Obligations.StoreCommands : Prop :=
  (∀ (k : Svc) (s : State), Served s 0xE00 k → k.cmd.len = 0 → k.holds s R_STORE = true →
    exec .cstStoreInfo s = .next (answered k ST_OK (leBytes 4 (s.rd Reg.CST_STORE_STAT).toNat ++ leBytes 4 s.cst.disk.chunks ++
      leBytes 4 (freeChunks s).length ++ leBytes 4 (s.pn Prm.CST_EXIT_US_IDLE) ++ leBytes 4 (s.pn Prm.CST_EXIT_US_SLEEP)) (eff []) s)) ∧
  (∀ (k : Svc) (s : State), Served s 0xE01 k → k.f = 0 → k.cmd.len = 4 → k.n 0 4 = 0x464D5421 → storeInUse s = false →
    (usableDrives s).isEmpty = false → TicketFree s k → exec .cstStoreFormat s = .next (pended k (eff []) s)) ∧
  (∀ (k : Svc) (s : State), Served s 0xE02 k → k.cmd.len = 8 → k.holds s R_STORE = true → k.n 0 4 ≠ 0 → zeroAt k.cmd.payload 4 4 = true →
    storeReady s = true → firstBad (createChecks s k.f (k.n 0 4)) = none → TicketFree s k →
    exec .cstNsCreate s = .next (pended k (eff []) s)) ∧
  (∀ (k : Svc) (x : Namespace) (s : State), Served s 0xE03 k → k.cmd.len = 4 → k.holds s R_STORE = true → zeroAt k.cmd.payload 1 3 = true →
    storeReady s = true → reachable s k.f (k.n 0 1) = some x → heldBy s (k.n 0 1) = 0 → TicketFree s k →
    exec .cstNsDelete s = .next (pended k (eff [effDisk fun d => { d with spaces := d.spaces.alter (k.n 0 1) fun y => { y with
      deleting := some (k.f, ticketId k.f (s.mbx k.f).nextTicket) } }]) s)) ∧
  (∀ (k : Svc) (x : Namespace) (s : State), Served s 0xE04 k → k.cmd.len = 4 → k.holds s R_STORE = true → zeroAt k.cmd.payload 1 3 = true →
    storeReady s = true → reachable s k.f (k.n 0 1) = some x →
    exec .cstNsInfo s = .next (answered k ST_OK (leBytes 1 x.owner ++ leBytes 1 (heldBy s (k.n 0 1)) ++ [0, 0] ++ leBytes 8 x.blocks)
      (eff []) s)) ∧
  (∀ (k : Svc) (s : State), Served s 0xE05 k → k.f = 0 → k.cmd.len = 8 → 0 < k.n 0 1 → k.n 0 1 < 64 → k.n 1 1 < 64 →
    zeroAt k.cmd.payload 2 2 = true → storeReady s = true →
    exec .cstNsQuota s = .next (answered k ST_OK [] (saveObj K_QUOTA (64 + k.n 0 1) (leBytes 1 (k.n 1 1) ++ leBytes 4 (k.n 4 4))) s)) ∧
  (∀ (k : Svc) (s : State), Served s 0xE05 k → k.f ≠ 0 → k.cmd.len = 8 →
    exec .cstNsQuota s = .next (answered k ST_NOT_OWNER [] (eff []) s))

/-- R584 to R593: recorders and playbacks. -/
def Obligations.RecordAndPlay : Prop :=
  (∀ (k : Svc) (s : State), Served s 0xE10 k → k.f = 0 → k.cmd.len = 8 → k.n 0 1 < 4 → k.n 1 1 < 2 → k.n 2 2 < 4096 →
    zeroAt k.cmd.payload 5 3 = true → firstBad (recOpenChecks s k.f (k.n 0 1) (k.n 1 1) (k.n 2 2) (k.n 4 1)) = none → TicketFree s k →
    exec .recOpen s = .next (pended k (eff []) s)) ∧
  (∀ (k : Svc) (s : State), Served s 0xE11 k → k.n 1 1 = 1 → firstBad (takeChecks k s true) = none → TicketFree s k →
    exec .recTakeStart s = .next (pended k (eff []) s)) ∧
  (∀ (k : Svc) (x : Recorder) (j : CastJob) (s : State), Served s 0xE11 k → k.n 1 1 = 2 → firstBad (takeChecks k s false) = none →
    s.rec_ (k.n 0 1) = some x → s.job x.job = some j → TicketFree s k →
    exec .recTakeStop s = .next (pended k (eff [effTake (k.n 0 1) fun t => { t with stop := some j.writeSeq }]) s)) ∧
  (∀ (k : Svc) (x : Recorder) (s : State), Served s 0xE12 k → k.f = 0 → k.cmd.len = 4 → k.n 0 1 < 4 → zeroAt k.cmd.payload 1 3 = true →
    storeReady s = true → s.rec_ (k.n 0 1) = some x → x.take = none →
    exec .recClose s = .next (answered k ST_OK [] (acts [eff [effCst fun c => { c with recs := c.recs.del (k.n 0 1) },
      .prm (Prm.REC_HELD_SLOTS (k.n 0 1)) 0], showRec (k.n 0 1)]) s)) ∧
  (∀ (r : Fin 4) (ok : Bool) (x : Recorder) (j : CastJob) (s : State), s.rec_ r = some x → s.job x.job = some j → x.take = none →
    x.last ≠ j.writeSeq →
    ∃ t y, exec (.recSlot r ok) s = .next t ∧ t.rec_ r = some y ∧ y.last = (x.last + 1) % 2 ^ 32 ∧ y.take = none ∧ t.regs = s.regs ∧
      t.devMem = s.devMem ∧ t.hostMem = s.hostMem ∧ t.cst.disk = s.cst.disk) ∧
  (∀ (r : Fin 4) (ok : Bool) (x : Recorder) (j : CastJob) (s : State), s.rec_ r = some x → s.job x.job = some j → x.last = j.writeSeq →
    exec (.recSlot r ok) s = .next s) ∧
  (∀ (k : Svc) (c : Bytes) (x : Namespace) (h : Nat) (s : State), Served s 0xE20 k → k.cmd.len = 16 → k.holds s R_STORE = true →
    3 ≤ k.n 1 1 → k.n 1 1 ≤ 8 → k.n 2 1 < 4 → k.n 3 1 ≠ 0 → k.n 4 2 < 4080 → k.n 8 8 % 4096 = 0 → zeroAt k.cmd.payload 6 2 = true →
    storeReady s = true → reachable s k.f (k.n 0 1) = some x → c = dirEntry s.cst.disk (k.n 0 1) (k.n 4 2) →
    dirValid (s.cst.disk.bytesAt (k.n 0 1) 0 64) = true → fieldN c 4 1 = 2 → fieldN c 32 4 ≠ 0 →
    (List.range 16).find? (fun h => (s.play h).isNone) = some h → TicketFree s k →
    let p : Playback := ⟨k.f, k.n 0 1, c, k.n 8 8, k.n 1 1, k.n 2 1, k.n 3 1, 1, some 0, 0, false, false, 0, 0, k.n 1 1 - 1,
      some (k.f, ticketId k.f (s.mbx k.f).nextTicket)⟩
    rangeOk s k.f (k.n 8 8) (k.n 1 1 * (playRing p).size) = true →
    exec .playOpen s = .next (pended k (acts [eff [effCst fun c => { c with plays := c.plays.put h p }], showPlay h]) s)) ∧
  (∀ (k : Svc) (p : Playback) (op : Nat) (s : State), Served s 0xE21 k → k.cmd.len = 8 → k.n 0 1 < 16 → k.n 1 1 = op →
    op = 1 ∨ op = 2 ∨ op = 4 ∨ op = 8 → zeroAt k.cmd.payload 2 2 = true → storeReady s = true → heldPlay k s = some p → k.n 4 4 = 0xFFFFFFFF →
    let t := answered k ST_OK [] (acts [eff [effPlay (k.n 0 1) fun p => { p with
      running := if op = 1 then true else if op = 2 then false else p.running,
      loop := if op = 4 then true else if op = 8 then false else p.loop }], showPlay (k.n 0 1)]) s
    (op = 1 → exec .playRun s = .next t) ∧ (op = 2 → exec .playStop s = .next t) ∧ (op = 4 → exec .playLoopOn s = .next t) ∧
      (op = 8 → exec .playLoopOff s = .next t)) ∧
  (∀ (k : Svc) (p : Playback) (s : State), Served s 0xE22 k → k.cmd.len = 4 → k.n 0 1 < 16 → zeroAt k.cmd.payload 1 3 = true →
    storeReady s = true → heldPlay k s = some p → layerNames s 4 (k.n 0 1) = false →
    exec .playClose s = .next (answered k ST_OK [] (acts [eff [effCst fun c => { c with plays := c.plays.del (k.n 0 1) }],
      showPlay (k.n 0 1)]) s)) ∧
  (∀ (k : Svc) (p : Playback) (s : State), Served s 0xE23 k → k.cmd.len = 4 → k.n 0 1 < 16 → zeroAt k.cmd.payload 1 3 = true →
    storeReady s = true → heldPlay k s = some p →
    exec .playInfo s = .next (answered k ST_OK (leBytes 4 p.shown ++ leBytes 4 p.late ++ leBytes 4 p.skipped ++ leBytes 4 (playWord p))
      (eff []) s)) ∧
  (∀ (h : Fin 16) (p : Playback) (k q : Nat) (hd : CastHdr) (size : Nat) (s : State), s.play h = some p → p.decoding = some k →
    p.opening = none → (sharedEngines s).isEmpty = false →
    let d := s.cst.disk
    let ie := d.bytesAt p.space (fieldN p.clip 24 8 * BLK + 48 * k) 48
    let bs := d.bytesAt p.space ((fieldN p.clip 8 8 + fieldN ie 0 8) * BLK) (fieldN ie 8 4)
    let r := decodeRun (slotAddr (playRing p) q + 256) (min ((playRing p).size - 256) (4096 * fieldN ie 8 4)) 1 bs 0
    fieldN ie 20 2 = ST_OK → nextPlaySlot s h p = some q → readHeader bs = some (hd, size) → r.status = ST_OK →
    ∃ t p', exec (.playDecodeDone h) s = .next t ∧ t.play h = some p' ∧ p'.decoding = none ∧ p'.shown = k ∧ p'.writeSeq = q ∧
      p'.skipped = p.skipped ∧ t.cst.disk = s.cst.disk ∧ t.pageMem = s.pageMem) ∧
  (∀ (h : Fin 16) (p : Playback) (k : Nat) (s : State), s.play h = some p → p.decoding = some k → p.opening = none →
    (sharedEngines s).isEmpty = false →
    fieldN (s.cst.disk.bytesAt p.space (fieldN p.clip 24 8 * BLK + 48 * k) 48) 20 2 ≠ ST_OK →
    ∃ t p', exec (.playDecodeDone h) s = .next t ∧ t.play h = some p' ∧ p'.decoding = none ∧ p'.skipped = p.skipped + 1 ∧ p'.shown = p.shown ∧
      t.devMem = s.devMem ∧ t.hostMem = s.hostMem ∧ t.regs = s.regs)

/-! ### Memory and DMA (chapters 17 and 18) -/

/-- R597, R600, R602, R603, R605 to R609, R612, R613, R616, R617: the memory commands of opcode group 0x0F, an access to a line, and the
work of the controllers. -/
def Obligations.MemoryRows : Prop :=
  (∀ (k : Svc) (b : Nat) (s : State), Served s 0xF00 k → k.f = 0 → k.cmd.len = 8 → k.n 0 4 ≠ 0 → k.n 0 4 % 2 = 0 →
    zeroAt k.cmd.payload 4 4 = true → lowestRun s (k.n 0 4 * 2 ^ 20) = some b → (allocs s).length < 1024 → TicketFree s k →
    exec .memAlloc s = .next (pended k (acts [eff [.obj K_MEMP (b / GRAN) (some (leBytes 1 k.f ++ leBytes 8 b ++
      leBytes 8 (k.n 0 4 * 2 ^ 20) ++ leBytes 4 (ticketId k.f (s.mbx k.f).nextTicket)))], syncPool]) s)) ∧
  (∀ (k : Svc) (s : State), Served s 0xF00 k → k.cmd.len = 8 → k.n 0 4 % 2 = 1 → exec .memAlloc s = .next (answered k ST_BAD_PARAM [] (eff []) s)) ∧
  (∀ (f : Fn) (ticket n : Nat) (b : Bytes) (s : State), reservation s f ticket = some (n, b) →
    ∃ t, exec (.memAllocDone f ticket) s = .next t ∧ t.obj K_MEMP n = none ∧ t.obj K_MEM n = some (b.take 17) ∧
      t.hostMem = s.hostMem ∧ t.pageMem = s.pageMem ∧ t.cst = s.cst ∧
      (∀ a, fieldN b 1 8 ≤ a → a < fieldN b 1 8 + fieldN b 9 8 → memRead t.devMem a = 0) ∧
      (∀ a, a < fieldN b 1 8 ∨ fieldN b 1 8 + fieldN b 9 8 ≤ a → memRead t.devMem a = memRead s.devMem a)) ∧
  (∀ (k : Svc) (b : Bytes) (s : State), Served s 0xF01 k → k.cmd.len = 8 → s.obj K_MEM (k.n 0 8 / GRAN) = some b → fieldN b 1 8 = k.n 0 8 →
    fieldN b 0 1 = k.f →
    ((addrsInForce s ++ addrsStaged s).any fun x => decide (k.n 0 8 ≤ x) && decide (x < k.n 0 8 + fieldN b 9 8)) = false →
    exec .memFree s = .next (answered k ST_OK [] (acts [eff [.obj K_MEM (k.n 0 8 / GRAN) none], syncPool]) s)) ∧
  (∀ (k : Svc) (s : State), Served s 0xF02 k → k.f = 0 → k.cmd.len = 8 → 0 < k.n 0 1 → k.n 0 1 < 64 → zeroAt k.cmd.payload 1 3 = true →
    exec .memQuota s = .next (answered k ST_OK [] (saveObj K_QUOTA (k.n 0 1) (leBytes 4 (k.n 4 4))) s)) ∧
  (∀ (k : Svc) (s : State), Served s 0xF03 k → k.cmd.len = 0 →
    ∃ mine, exec .memInfo s = .next (answered k ST_OK (leBytes 4 mine ++ leBytes 4 (heldMib s k.f) ++
      leBytes 4 (if k.f = 0 then 0xFFFFFFFF else memQuota s k.f) ++ leBytes 4 (poolFree s)) (eff []) s)) ∧
  (∀ (port : Fin 16) (tag : Option Fn) (addr age : Nat) (bs : Bytes) (waited : Bool) (depth : Fin 65) (s : State),
    (∀ f, tag = some f → granuleOwner s addr = some f.val) → 0 < bs.length → addr % 64 + bs.length ≤ 64 → addr < memSize s →
    s.poison.has (addr / 64) = false →
    ∃ t, exec (.memRequest port tag addr (some bs) 0 age waited depth 0) s = .next t ∧ t.devMem = memWriteBytes s.devMem addr bs ∧
      t.poison.has (addr / 64) = false ∧ t.hostMem = s.hostMem ∧ t.pageMem = s.pageMem ∧ t.cst = s.cst) ∧
  (∀ (port : Fin 16) (tag : Option Fn) (addr len age : Nat) (waited : Bool) (depth : Fin 65) (s : State),
    (∀ f, tag = some f → granuleOwner s addr = some f.val) → 0 < len → addr % 64 + len ≤ 64 → addr < memSize s →
    s.poison.has (addr / 64) = false →
    ∃ t, exec (.memRequest port tag addr none len age waited depth 0) s = .next t ∧ sameStores s t ∧
      t.out = s.out ++ [.packet 8 port (leBytes 1 0 ++ memReadBytes s.devMem addr len)]) ∧
  (∀ (port : Fin 16) (f : Fn) (addr age : Nat) (bs : Bytes) (waited : Bool) (depth : Fin 65) (ecc : Fin 3) (s : State),
    granuleOwner s addr ≠ some f.val → 0 < bs.length → addr % 64 + bs.length ≤ 64 → addr < memSize s →
    ∃ t, exec (.memRequest port (some f) addr (some bs) 0 age waited depth ecc) s = .next t ∧ t.evt 248 = true ∧ sameStores s t ∧
      t.pn Prm.MEM_DENY_TOTAL = satAdd 0xFFFFFFFF (s.pn Prm.MEM_DENY_TOTAL) 1) ∧
  (∀ (port : Fin 16) (addr len age : Nat) (waited : Bool) (depth : Fin 65) (s : State),
    0 < len → addr % 64 + len ≤ 64 → addr < memSize s → s.poison.has (addr / 64) = false →
    ∃ t, exec (.memRequest port none addr none len age waited depth 2) s = .next t ∧ t.poison.has (addr / 64) = true ∧ t.evt 225 = true ∧
      sameStores s t) ∧
  (∀ (m : Fin 4) (line : Nat) (s : State), s.mem.scrub.getD m 0 + 1 < stackLines →
    ∃ t, exec (.scrubLine m line 0) s = .next t ∧ t.mem.scrub.getD m 0 = s.mem.scrub.getD m 0 + 1 ∧
      t.flag (Reg.MEM_SCRUB m) Fld.MEM_SCRUB.RUNNING = true ∧ t.poison = s.poison ∧ sameStores s t ∧
      (∀ a, a ≠ Reg.MEM_SCRUB m → t.rd a = s.rd a)) ∧
  (∀ (m : Fin 4) (line : Nat) (s : State), s.poison.has line = false →
    ∃ t, exec (.scrubLine m line 2) s = .next t ∧ t.poison.has line = true ∧ t.evt 226 = true ∧ sameStores s t) ∧
  (∀ (m : Fin 4) (s : State), s.pn Prm.MEM_CE_THRESH < s.mem.window.getD m 0 →
    ∃ t, exec .memCeWindow s = .next t ∧ t.evt 224 = true ∧ t.mem.window = .empty ∧ sameStores s t) ∧
  (∀ (m : Fin 4) (pc : Fin 32) (s : State), bitOf (s.pn (Prm.MEM_PC_DOWN m)) pc = false → s.fld (Reg.MEM_STAT m) Fld.MEM_STAT.PCS_DOWN < 63 →
    ∃ t, exec (.memPdEntry m pc false) s = .next t ∧ bitOf (t.pn (Prm.MEM_PC_DOWN m)) pc = true ∧
      t.fld (Reg.MEM_STAT m) Fld.MEM_STAT.PCS_DOWN = s.fld (Reg.MEM_STAT m) Fld.MEM_STAT.PCS_DOWN + 1 ∧ sameStores s t) ∧
  (∀ (m : Fin 4) (pc : Fin 32) (s : State),
    ∃ t, exec (.memRetrain m pc) s = .next t ∧ t.pn Prm.MEM_RETRAINS = satAdd 0xFFFFFFFF (s.pn Prm.MEM_RETRAINS) 1 ∧ t.regs = s.regs ∧ sameStores s t)

/-- R621 to R635, R639: a channel is enabled, disabled, paused and resumed, fetches its descriptors, moves their bytes and reports. -/
def Obligations.DmaChannels : Prop :=
  (∀ (f : Fn) (v : Word) (s : State), getFld v Fld.DMA_CTRL.EN = 1 → getFld v Fld.DMA_CTRL.PAUSE = 0 → dmaOn s f = false → dmaParked s f = false →
    ∃ t, exec (.dmaEnable f v) s = .next t ∧ dmaOn t f = true ∧ dmaCur t f = s.rd64 (Reg.DMA_HEAD_LO f) ∧ (t.chan f).desc = none ∧
      t.flag (Reg.DMA_STAT f) Fld.DMA_STAT.RUNNING = true ∧ t.flag (Reg.DMA_STAT f) Fld.DMA_STAT.HALTED = false ∧ t.prms = s.prms ∧ sameStores s t) ∧
  (∀ (f : Fn) (v : Word) (s : State), getFld v Fld.DMA_CTRL.EN = 0 → dmaOn s f = true → dmaParked s f = false → dmaPaused s f = true →
    ∃ t, exec (.dmaDisable f v) s = .next t ∧ dmaOn t f = false ∧ dmaPaused t f = false ∧ (t.chan f).desc = none ∧ t.prms = s.prms ∧ sameStores s t) ∧
  (∀ (f : Fn) (v : Word) (s : State), getFld v Fld.DMA_CTRL.EN = 0 → dmaOn s f = true → dmaParked s f = false → dmaPaused s f = false →
    ∃ t, exec (.dmaDisable f v) s = .next t ∧ dmaOn t f = true ∧ t.dma = s.dma ∧ sameStores s t) ∧
  (∀ (f : Fn) (v : Word) (s : State), getFld v Fld.DMA_CTRL.EN = 1 → getFld v Fld.DMA_CTRL.PAUSE = 1 → dmaOn s f = true →
    ∃ t, exec (.dmaPause f v) s = .next t ∧ dmaPausing t f = true ∧ dmaOn t f = true ∧ dmaPaused t f = dmaPaused s f ∧ t.dma = s.dma ∧ sameStores s t) ∧
  (∀ (f : Fn) (v : Word) (s : State), getFld v Fld.DMA_CTRL.EN = 1 → getFld v Fld.DMA_CTRL.PAUSE = 0 → dmaOn s f = true → dmaParked s f = false →
    ∃ t, exec (.dmaResume f v) s = .next t ∧ dmaPausing t f = false ∧ dmaPaused t f = false ∧ dmaOn t f = true ∧
      t.flag (Reg.DMA_STAT f) Fld.DMA_STAT.RUNNING = true ∧ t.dma = s.dma ∧ sameStores s t) ∧
  (∀ (f : Fn) (bytes : Nat) (d : DmaDesc) (s : State), dmaOn s f = true → dmaPausing s f = true → dmaParked s f = false → dmaPaused s f = false →
    (s.chan f).desc = some d → (s.chan f).moved < bytes → bytes ≤ dmaLen d.ctrl → d.dst + (s.chan f).moved < 2 ^ 63 →
    ∃ t, exec (.dmaPaused f bytes) s = .next t ∧ dmaPaused t f = true ∧ (t.chan f).moved = bytes ∧
      t.devMem = memWriteBytes s.devMem (d.dst + (s.chan f).moved) (s.ringRead (d.src + (s.chan f).moved) (bytes - (s.chan f).moved)) ∧
      t.fld (Reg.DMA_CUR_DONE f) Fld.DMA_CUR_DONE.BYTES = bytes ∧ t.hostMem = s.hostMem ∧ t.pageMem = s.pageMem ∧ t.cst = s.cst) ∧
  (∀ (f : Fn) (v : Word) (s : State), getFld v Fld.DMA_DOORBELL.RING = 1 → dmaOn s f = true → dmaParked s f = false →
    ∃ t, exec (.dmaDoorbell f v) s = .next t ∧ t.flag (Reg.DMA_STAT f) Fld.DMA_STAT.DB_PENDING = true ∧ t.dma = s.dma ∧ sameStores s t) ∧
  (∀ (f : Fn) (v : Word) (s : State), getFld v Fld.DMA_DOORBELL.RING = 1 → dmaOn s f = true → dmaParked s f = true →
    dmaTail (w32 (fieldN (s.ringRead (dmaCur s f) 32) 0 4)) = false →
    ∃ t, exec (.dmaDoorbell f v) s = .next t ∧ dmaParked t f = false ∧ (t.chan f).desc = none ∧
      dmaCur t f = fieldN (s.ringRead (dmaCur s f) 32) 20 8 ∧ t.pageMem = s.pageMem ∧ t.cst = s.cst) ∧
  (∀ (f : Fn) (d : DmaDesc) (s : State), dmaOn s f = true → dmaPausing s f = false → dmaParked s f = false → (s.chan f).desc = none →
    dmaCur s f % 32 = 0 → hostBarred s f (dmaCur s f) = false → dmaOwned s f (dmaCur s f) 32 = true → firstPoison s (dmaCur s f) 32 = none →
    d = ⟨w32 (fieldN (s.ringRead (dmaCur s f) 32) 0 4), fieldN (s.ringRead (dmaCur s f) 32) 4 8, fieldN (s.ringRead (dmaCur s f) 32) 12 8,
      fieldN (s.ringRead (dmaCur s f) 32) 20 8⟩ →
    d.ctrl.getLsbD 31 = true → bitsOf d.ctrl.toNat 28 24 = 0 → d.next % 32 = 0 → dmaOwned s f d.src (dmaLen d.ctrl) = true →
    dmaOwned s f d.dst (dmaLen d.ctrl) = true → hostBarred s f d.src = false → hostBarred s f d.dst = false →
    ∃ t, exec (.dmaDescFetch f 0) s = .next t ∧ (t.chan f).desc = some d ∧ (t.chan f).moved = 0 ∧
      t.fld (Reg.DMA_CUR_DONE f) Fld.DMA_CUR_DONE.BYTES = 0 ∧ t.prms = s.prms ∧ sameStores s t) ∧
  (∀ (f : Fn) (fail : Fin 3) (s : State), dmaOn s f = true → dmaPausing s f = false → dmaParked s f = false → (s.chan f).desc = none →
    dmaCur s f % 32 ≠ 0 →
    ∃ t, exec (.dmaDescFetch f fail) s = .next t ∧ dmaOn t f = false ∧ t.flag (Reg.DMA_STAT f) Fld.DMA_STAT.HALTED = true ∧
      t.fld (Reg.DMA_STAT f) Fld.DMA_STAT.LAST_STATUS = ST_BAD_PARAM ∧ sameStores s t) ∧
  (∀ (f : Fn) (fail : Fin 3) (s : State), dmaOn s f = true → dmaPausing s f = false → dmaParked s f = false → (s.chan f).desc = none →
    dmaCur s f % 32 = 0 → dmaOwned s f (dmaCur s f) 32 = false →
    ∃ t, exec (.dmaDescFetch f fail) s = .next t ∧ dmaOn t f = false ∧ t.fld (Reg.DMA_STAT f) Fld.DMA_STAT.LAST_STATUS = ST_DENIED ∧ sameStores s t) ∧
  (∀ (f : Fn) (bytes : Nat) (d : DmaDesc) (s : State), dmaOn s f = true → dmaParked s f = false → dmaPaused s f = false → (s.chan f).desc = some d →
    firstPoison s d.src (dmaLen d.ctrl) = none → dmaTail d.ctrl = false → d.next < 2 ^ 64 → dmaCur s f + 32 ≤ 2 ^ 63 →
    ∃ t, exec (.dmaDescDone f 0 bytes) s = .next t ∧ (t.chan f).desc = none ∧ dmaCur t f = d.next ∧ dmaOn t f = true ∧
      t.rd (Reg.DMA_COUNT f) = s.rd (Reg.DMA_COUNT f) + 1 ∧ t.fld (Reg.DMA_STAT f) Fld.DMA_STAT.LAST_STATUS = ST_OK ∧
      memReadBytes t.devMem (dmaCur s f + 28) 4 = leBytes 4 (2 ^ 31 + dmaLen d.ctrl) ∧ t.pageMem = s.pageMem ∧ t.cst = s.cst) ∧
  (∀ (f : Fn) (s : State), dmaOn s f = true →
    ∃ t, exec (.busMasterEnableClear f) s = .next t ∧ dmaOn t f = false ∧ f.val ∈ t.boot.masterOff ∧
      t.fld (Reg.DMA_STAT f) Fld.DMA_STAT.LAST_STATUS = ST_DENIED ∧ t.pageMem = s.pageMem ∧ t.cst = s.cst)

/-! ### Security boundary (chapter 19) -/

/-- R643 to R647, R650 to R654, R656 to R659, R663, R664, R667: the security commands. Each keeps its function's session alive. A check that
rests on a cryptographic primitive has both outcomes stated: the primitive is a free function. -/
def Obligations.SecurityCommands : Prop :=
  (∀ (k : Svc) (s : State), Served s 0x1100 k → k.cmd.len = 0 → firstBad (gates k s) = none →
    ∃ version, exec .secInfo s = .next (answered k ST_OK (leBytes 4 (s.rd Reg.SEC_STATE).toNat ++ leBytes 2 s.sec.testResult ++ version ++
      leBytes 4 (running s).release) (eff []) (sessionKept k s)) ∧ version.length = 2) ∧
  (∀ (k : Svc) (s : State), Served s 0x1101 k → k.cmd.len = 0 → firstBad (gates k s) = none →
    exec .secChallenge s = .next (answered k ST_OK (field (Config.drbg s.freeCtr) 0 48)
      (eff [.draw, .sec fun x => { x with nonces := x.nonces.put k.f (field (Config.drbg s.freeCtr) 0 48, s.uptime) }]) (sessionKept k s))) ∧
  (∀ (k : Svc) (s : State), Served s 0x1102 k → k.cmd.len = 100 → firstBad (gates k s) = none → lockedOut s k.f = false → k.n 0 1 = 1 ∨ k.n 0 1 = 2 →
    zeroAt k.cmd.payload 1 3 = true →
    exec .secLogin s = .next (if loginOk k (sessionKept k s) then answered k ST_OK [] (eff [endSession k.f, .sec fun x => { x with
        sessions := x.sessions.put k.f ⟨k.n 0 1, s.uptime⟩, nonces := x.nonces.del k.f, fails := x.fails.del k.f }]) (sessionKept k s)
      else answered k ST_DENIED [] (loginFailed k.f) (sessionKept k s))) ∧
  (∀ (k : Svc) (s : State), Served s 0x1102 k → k.cmd.len = 100 → firstBad (gates k s) = none → lockedOut s k.f = true →
    exec .secLogin s = .next (answered k ST_DENIED [] (eff []) (sessionKept k s))) ∧
  (∀ (k : Svc) (s : State), Served s 0x1103 k → k.cmd.len = 0 → firstBad (gates k s) = none →
    exec .secLogout s = .next (answered k ST_OK [] (eff [endSession k.f]) (sessionKept k s))) ∧
  (∀ (k : Svc) (s : State), Served s 0x1104 k → k.cmd.len = 0 → firstBad (gates k s) = none → TicketFree s k →
    exec .secSelftest s = .next (pended k (eff [.fld Reg.SEC_STATE Fld.SEC_STATE.SELFTEST_RUNNING 1]) (sessionKept k s))) ∧
  (∀ (k : Svc) (s : State), Served s 0x1105 k → k.f = 0 → k.cmd.len = 4 → firstBad (gates k s) = none → k.n 0 4 = 0x5A45524F →
    exec .secZeroise s = .next (answered k ST_OK [] zeroise (sessionKept k s))) ∧
  (∀ (k : Svc) (s : State), Served s 0x1106 k → k.f = 0 → k.cmd.len = 96 → firstBad (gates k s) = none → s.otp.coKey = none →
    exec .secCoProvision s = .next (answered k ST_OK [] (eff ([.otp fun o => { o with coKey := some (field k.cmd.payload 0 96) },
      .fld Reg.SEC_STATE Fld.SEC_STATE.CO_PROVISIONED 1] ++ hashPrms (Prm.SEC_CO_KEY_HASH 0) (Config.sha384 (field k.cmd.payload 0 96))))
      (sessionKept k s))) ∧
  (∀ (k : Svc) (s : State), Served s 0x1107 k → k.f = 0 → k.cmd.len = 100 → firstBad (gates k s) = none → roleOf (sessionKept k s) 0 = 1 → k.n 0 1 < 64 →
    k.n 1 1 = 1 → zeroAt k.cmd.payload 2 2 = true →
    exec .secUserEnrol s = .next (answered k ST_OK [] (eff [.nvs fun n => { n with users := n.users.put (k.n 0 1) (field k.cmd.payload 4 96) }])
      (sessionKept k s))) ∧
  (∀ (k : Svc) (key : Nat) (s : State), Served s 0x1108 k → k.cmd.len = 0 → firstBad (gates k s) = none → roleOf (sessionKept k s) k.f ≠ 0 →
    s.nvs.idKey = some key →
    let msg := leBytes 4 s.free.toNat ++ field (Config.publicKey (kexKeyNo s.sec.nextKex)) 0 96
    exec .secKexBegin s = .next (answered k ST_OK (msg ++ field (Config.ecdsaSign (idKeyNo key) msg s.freeCtr) 0 96)
      (eff (signed ++ [.sec fun x => { x with kex := x.kex.put k.f ⟨s.free.toNat, x.nextKex⟩, nextKex := x.nextKex + 1 }])) (sessionKept k s))) ∧
  (∀ (k : Svc) (x : Kex) (slot : Nat) (s : State), Served s 0x1109 k → k.f = 0 → k.cmd.len = 72 → firstBad (gates k s) = none →
    k.holds s R_STREAM = true → roleOf (sessionKept k s) 0 ≠ 0 → s.boot.debug = false → k.n 4 1 = 1 → zeroAt k.cmd.payload 5 3 = true →
    s.sec.kex.find 0 = some x → x.id = k.n 0 4 → freeSlot (sessionKept k s) = some slot →
    exec .secKeyImport s = .next (match unwrapped k (sessionKept k s) x with
      | some p => answered k ST_OK (leBytes 4 (keyHandle (sessionKept k s) 0 slot)) (acts [
          eff [.sec fun y => { y with keys := y.keys.put slot ⟨0, field p 0 32, field p 32 4⟩ }, .count Prm.SEC_KEY_IMPORTS 1], syncKeys 0])
          (sessionKept k s)
      | none => answered k ST_INPUT_CORRUPT [] (eff []) (sessionKept k s))) ∧
  (∀ (k : Svc) (s : State), Served s 0x110A k → k.cmd.len = 4 → firstBad (gates k s) = none → roleOf (sessionKept k s) k.f ≠ 0 →
    keyHeld s k.f (k.n 0 4) = true → (s.str.ctxs.entries.any fun e => e.2.key == k.n 0 4 || e.2.nextKey == k.n 0 4) = false →
    exec .secKeyDestroy s = .next (answered k ST_OK [] (freeKey (k.n 0 4)) (sessionKept k s))) ∧
  (∀ (k : Svc) (c : StrCtx) (s : State), Served s 0x110B k → k.cmd.len = 8 → firstBad (gates k s) = none → roleOf (sessionKept k s) k.f ≠ 0 →
    k.n 0 2 < 4096 → zeroAt k.cmd.payload 2 2 = true → s.ctx (k.n 0 2) = some c → c.owner = k.f → keyHeld s k.f (k.n 4 4) = true →
    dSealed c.desc = true →
    exec .secCtxKey s = .next (answered k ST_OK [] (eff [effCtx (k.n 0 2) fun y => { y with nextKey := k.n 4 4 }]) (sessionKept k s))) ∧
  (∀ (k : Svc) (s : State), Served s 0x110C k → k.cmd.len = 48 → firstBad (gates k s) = none →
    ∃ sig act, exec .secAttest s = .next (answered k ST_OK (reportBody s (field k.cmd.payload 0 48) ++ sig) act (sessionKept k s)) ∧
      (∀ key, s.nvs.certOk = true → s.nvs.idKey = some key →
        sig = field (Config.ecdsaSign (idKeyNo key) (reportBody s (field k.cmd.payload 0 48)) s.freeCtr) 0 96)) ∧
  (∀ (k : Svc) (s : State), Served s 0x110D k → k.cmd.len = 4 → firstBad (gates k s) = none → k.n 0 4 ≠ 0xFFFFFFFF →
    let part := ((certChain s).drop (k.n 0 4)).take 4000
    exec .secIdCert s = .next (answered k ST_OK (leBytes 4 (certChain s).length ++ leBytes 4 part.length ++ part) (eff []) (sessionKept k s))) ∧
  (∀ (k : Svc) (s : State), Served s 0x110D k → 4 < k.cmd.len → firstBad (gates k s) = none → k.n 0 4 = 0xFFFFFFFF →
    exec .secIdCert s = .next (answered k ST_OK (leBytes 4 (k.cmd.payload.drop 4).length ++ leBytes 4 0)
      (eff [.nvs fun n => { n with cert := k.cmd.payload.drop 4, certOk := n.idKey.isSome }]) (sessionKept k s))) ∧
  (∀ (k : Svc) (s : State), Served s 0x110E k → k.f = 0 → k.cmd.len = 32 → firstBad (gates k s) = none → roleOf (sessionKept k s) 0 = 1 →
    s.otp.epoch < 16 →
    let req := (Config.pkcs10 (idKeyNo (s.freeCtr + 1)) (field k.cmd.payload 0 32)).take 1024
    ∃ act, exec .secIdCsr s = .next (answered k ST_OK (leBytes 4 req.length ++ req) act (sessionKept k s)) ∧
      (act.run (sessionKept k s)).nvs.idKey = some (s.freeCtr + 1) ∧ (act.run (sessionKept k s)).nvs.certOk = false) ∧
  (∀ (k : Svc) (s : State), Served s 0x1110 k → k.f = 0 → k.cmd.len = 16 → firstBad (gates k s) = none → roleOf (sessionKept k s) 0 = 1 →
    zeroAt k.cmd.payload 0 4 = true → rangeOk s 0 (k.n 8 8) (k.n 4 4) = true → TicketFree s k →
    exec .secFwWrite s = .next (pended k (eff []) (sessionKept k s))) ∧
  (∀ (k : Svc) (s : State), Served s 0x1111 k → k.f = 0 → k.cmd.len = 0 → firstBad (gates k s) = none → roleOf (sessionKept k s) 0 = 1 →
    (running s).arb ≤ s.otp.arb →
    exec .secFwConfirm s = .next (answered k ST_OK (leBytes 4 (max (running s).arb s.otp.arb)) (acts [
      eff [.prm Prm.SEC_FW_PREFER (if runningB s then 1 else 0),
        .nvs fun n => { n with owed := n.owed.put Prm.SEC_FW_PREFER (if runningB s then 1 else 0) }], requestSave]) (sessionKept k s))) ∧
  (∀ (k : Svc) (s : State), Served s 0x1112 k → k.f = 0 → k.cmd.len = 4 → firstBad (gates k s) = none → k.n 0 1 < 64 → 1 ≤ k.n 1 1 → k.n 1 1 ≤ 15 →
    zeroAt k.cmd.payload 2 2 = true → popUnread s (k.n 0 1) = [] →
    ∃ act, exec .popRead s = .next (answered k ST_OK [0, 0, 0, 0] act (sessionKept k s))) ∧
  (∀ (k : Svc) (s : State), Served s 0x1113 k → k.f = 0 → k.cmd.len = 4 → firstBad (gates k s) = none → roleOf (sessionKept k s) 0 = 1 → k.n 0 1 = 1 →
    zeroAt k.cmd.payload 1 3 = true →
    exec .secMode s = .next (answered k ST_OK [] (acts [zeroise, eff [.boot fun b => { b with debug := true }, .raise 252], syncApproved])
      (sessionKept k s)))

/-- R645, R650, R652, R657, R660, R662, R665: zeroisation by register, pin and tamper; timeouts; periodic tests; interval ends. -/
def Obligations.SecurityRows : Prop :=
  let zeroised := fun (s t : State) => t.sec.keys = .empty ∧ t.sec.sessions = .empty ∧ t.sec.kex = .empty ∧ t.sec.nonces = .empty ∧
    t.nvs.idKey = none ∧ t.nvs.certOk = false ∧ t.otp.epoch = min 16 (s.otp.epoch + 1) ∧ t.flag Reg.SEC_STATE Fld.SEC_STATE.ZEROISED = true ∧
    t.evt 250 = true ∧ t.devMem = s.devMem ∧ t.hostMem = s.hostMem
  (∀ s : State, ∃ t, exec (.secZeroiseReg 0x5A45524F) s = .next t ∧ zeroised s t) ∧
  (∀ (v : Word) (s : State), v ≠ 0x5A45524F → exec (.secZeroiseReg v) s = .next s) ∧
  (∀ s : State, ∃ t, exec .zeroiseN s = .next t ∧ zeroised s t ∧ t.flag Reg.SEC_TAMPER Fld.SEC_TAMPER.PIN = true) ∧
  (∀ (cause : Fin 4) (s : State), fwTickets s = [] →
    ∃ t, exec (.tamperDetect cause) s = .next t ∧ zeroised s t ∧ t.evt 251 = true ∧ t.flag Reg.SEC_TAMPER ⟨cause + 1, cause + 1⟩ = true ∧
      t.pn Prm.SEC_TAMPER_LAST = 2 ^ (cause.val + 1)) ∧
  (∀ (f : Fn) (x : SecSession) (s : State), s.sec.sessions.find f = some x →
    ∃ t, exec (.secSessionTimeout f) s = .next t ∧ roleOf t f = 0 ∧ t.sec.kex.find f = none ∧ t.regs = s.regs ∧ sameStores s t) ∧
  (∀ s : State, ∃ t, exec (.secPeriodicSelftest 0) s = .next t ∧ t.sec.testResult = 0 ∧ t.flag Reg.SEC_STATE Fld.SEC_STATE.ERROR = false ∧
    t.flag Reg.SEC_STATE Fld.SEC_STATE.SELFTEST_RUNNING = false ∧ sameStores s t) ∧
  (∀ (n : Nat) (s : State), 0 < n → n < 65536 →
    ∃ t, exec (.secPeriodicSelftest n) s = .next t ∧ t.sec.testResult = n ∧ t.flag Reg.SEC_STATE Fld.SEC_STATE.ERROR = true ∧ t.evt 249 = true ∧
      t.pn Prm.SEC_SELFTEST_FAILS = satAdd 0xFFFFFFFF (s.pn Prm.SEC_SELFTEST_FAILS) 1 ∧ sameStores s t) ∧
  (∀ (f : Fn) (s : State), ∃ t, exec (.secKexExpiry f) s = .next t ∧ t.sec.kex.find f = none ∧ t.sec.keys = s.sec.keys ∧ t.regs = s.regs ∧
    t.prms = s.prms ∧ sameStores s t) ∧
  (∀ (l : Fin 64) (s : State), popLen s l = 0 → exec (.popIntervalEnd l) s = .next s) ∧
  (∀ (l : Fin 64) (b : Bytes) (s : State), popLen s l ≠ 0 → s.sec.pop.find l = none → s.obj K_LAYER l = some b → popEn s l = true →
    ∃ t, exec (.popIntervalEnd l) s = .next t ∧ (t.sec.pop.find l).map (·.start) = some (s.vis / popLen s l * popLen s l) ∧ t.regs = s.regs ∧
      sameStores s t) ∧
  (∀ (l : Fin 64) (b : Bytes) (p : Pop) (key : Nat) (s : State), popLen s l ≠ 0 → s.sec.pop.find l = some p → s.obj K_LAYER l = some b →
    canSign s = some key → (popUnread s l).length < 256 →
    ∃ t, exec (.popIntervalEnd l) s = .next t ∧ (popUnread t l).length = (popUnread s l).length + 1 ∧ t.evt 253 = true ∧
      t.sec.popSeq = (s.sec.popSeq + 1) % 2 ^ 32 ∧ sameStores s t)

/-! ### Lanes and package links (chapter 20) -/

/-- R673, R678, R679, R681, R691: test fields of lanes, eye scans, loss of signal and the PRBS checkers. -/
def Obligations.LaneRows : Prop :=
  (∀ (n : Fin 160) (v : Word) (s : State), 32 ≤ n.val → laneUser s n = none →
    ∃ t, exec (.lanCtrlTestWrite n v) s = .next t ∧ t.rd (Reg.LAN_CTRL n) = v &&& regMask (Reg.LAN_CTRL n) ∧ t.prms = s.prms ∧ sameStores s t) ∧
  (∀ (n : Fin 160) (v : Word) (s : State), 32 ≤ n.val → (laneUser s n).isSome → v &&& regMask (Reg.LAN_CTRL n) ≠ 0 →
    ∃ t, exec (.lanCtrlTestWrite n v) s = .next t ∧ t.flag (Reg.LAN_STAT n) Fld.LAN_STAT.TEST_REFUSED = true ∧
      t.rd (Reg.LAN_CTRL n) = s.rd (Reg.LAN_CTRL n) ∧ t.prms = s.prms ∧ sameStores s t) ∧
  (∀ (k : Svc) (s : State), Served s 0x1200 k → k.f = 0 → k.cmd.len = 4 → 32 ≤ k.n 0 1 → k.n 0 1 < 160 → 20 ≤ k.n 1 1 → k.n 1 1 ≤ 36 →
    zeroAt k.cmd.payload 2 2 = true → s.flag (Reg.LAN_STAT (k.n 0 1)) Fld.LAN_STAT.CDR_LOCK = true → TicketFree s k →
    exec .lanEyeScan s = .next (pended k (eff []) s)) ∧
  (∀ (n : Fin 160) (s : State), laneUser s n = none →
    ∃ t, exec (.laneLos n) s = .next t ∧ t.flag (Reg.LAN_STAT n) Fld.LAN_STAT.SIGNAL = false ∧
      t.flag (Reg.LAN_STAT n) Fld.LAN_STAT.CDR_LOCK = false ∧ t.pn Prm.LAN_LOS_TOTAL = satAdd 0xFFFFFFFF (s.pn Prm.LAN_LOS_TOTAL) 1 ∧ sameStores s t) ∧
  (∀ (n : Fin 160) (u : LaneUser) (s : State), laneUser s n = some u → u.owner = 5 → u.index < 4 →
    ∃ t, exec (.laneLos n) s = .next t ∧ t.flag (Reg.SAL_PORT_STAT u.index) Fld.SAL_PORT_STAT.READY = false ∧ t.evt (120 + u.index) = true ∧
      sameStores s t) ∧
  (∀ (n : Fin 160) (inverted : Bool) (s : State), s.fld (Reg.LAN_CTRL n) Fld.LAN_CTRL.PRBS_CHK ≠ 0 →
    ∃ t, exec (.prbsLock n inverted) s = .next t ∧ t.flag (Reg.LAN_STAT n) Fld.LAN_STAT.PRBS_LOCK = true ∧
      t.flag (Reg.LAN_STAT n) Fld.LAN_STAT.RX_INVERTED = inverted ∧ sameStores s t) ∧
  (∀ (n : Fin 160) (inverted : Bool) (s : State), s.fld (Reg.LAN_CTRL n) Fld.LAN_CTRL.PRBS_CHK = 0 → exec (.prbsLock n inverted) s = .next s) ∧
  (∀ (n : Fin 160) (bits errs : Nat) (s : State), s.flag (Reg.LAN_STAT n) Fld.LAN_STAT.PRBS_LOCK = true →
    ∃ t, exec (.prbsLockLoss n bits errs) s = .next t ∧ t.flag (Reg.LAN_STAT n) Fld.LAN_STAT.PRBS_LOCK = false ∧
      t.rd64 (Reg.LAN_PRBS_BITS_LO n) = (s.rd64 (Reg.LAN_PRBS_BITS_LO n) + bits) % 2 ^ 64 ∧ t.prms = s.prms ∧ sameStores s t)

/-- R42, R682, R683, R686 to R690: the links between packages. -/
def Obligations.PackageLinks : Prop :=
  (∀ (x : Fin 4) (seq ack : Nat) (lane : Option (Fin 8)) (cls dst src : Nat) (payload : Bytes) (s : State), xplUp s x = true → tripped s = false →
    lane = none →
    ∃ t, exec (.xplFlit x seq ack false lane cls dst src payload) s = .next t ∧
      t.out = s.out ++ [.packet 3 x (leBytes 1 4 ++ leBytes 1 3 ++ leBytes 2 (s.xpl x).rxSeq)] ∧ (t.xpl x).rxSeq = (s.xpl x).rxSeq ∧
      t.regs = s.regs ∧ sameStores s t) ∧
  (∀ (x : Fin 4) (seq ack : Nat) (dst src : Nat) (payload : Bytes) (s : State), xplUp s x = true → seq = (s.xpl x).rxSeq → seq < 65536 →
    dst = ownPkg s →
    ∃ t, exec (.xplFlit x seq ack true none 0 dst src payload) s = .next t ∧ (t.xpl x).rxSeq = (seq + 1) % 65536 ∧
      (t.xpl x).replay = (s.xpl x).replay.filter (fun f => decide (32768 ≤ (ack + 65536 - f.1) % 65536)) ∧ t.regs = s.regs ∧ t.out = s.out ∧
      sameStores s t) ∧
  (∀ (x : Fin 4) (seq ack cls dst src : Nat) (payload : Bytes) (s : State), xplUp s x = true → seq = (s.xpl x).rxSeq → seq < 65536 →
    dst ≠ ownPkg s → dst < 16 → cls ≠ 1 → s.flag (Reg.XPL_ROUTE dst) Fld.XPL_ROUTE.VALID = false →
    ∃ t, exec (.xplFlit x seq ack true none cls dst src payload) s = .next t ∧
      t.pn Prm.XPL_UNROUTABLE = satAdd 0xFFFFFFFF (s.pn Prm.XPL_UNROUTABLE) 1 ∧ t.out = s.out ∧ sameStores s t) ∧
  (∀ (x : Fin 4) (v : Word) (s : State), getFld v Fld.XPL_LINK_CTRL.RETRAIN = 1 → xplEn s x = true → (s.xpl x).request = none →
    s.flag (Reg.XPL_LINK_STAT x) Fld.XPL_LINK_STAT.DUP_ID = false →
    ∃ t, exec (.xplRetrain x v) s = .next t ∧ (t.xpl x).request = some (proposal s x (xplGood s x)) ∧ (t.xpl x).full = true ∧
      retraining t x = true ∧ t.flag (Reg.XPL_LINK_CTRL x) Fld.XPL_LINK_CTRL.RETRAIN = true ∧ sameStores s t) ∧
  (∀ (x : Fin 4) (s : State), xplEn s x = true → (s.xpl x).request = none → s.flag (Reg.XPL_LINK_STAT x) Fld.XPL_LINK_STAT.DUP_ID = false →
    ∃ t, exec (.xplLinkLockLost x) s = .next t ∧ (t.xpl x).full = true ∧ retraining t x = true ∧ sameStores s t) ∧
  (∀ (x : Fin 4) (width : Nat) (full : Bool) (s : State), xplEn s x = true → (s.xpl x).request = none →
    ∃ t, exec (.xplWidthRequest x width full) s = .next t ∧ (t.xpl x).agreed = min width (proposal s x (xplGood s x)) ∧ (t.xpl x).full = full ∧
      retraining t x = true ∧ sameStores s t) ∧
  (∀ (x : Fin 4) (width w : Nat) (full : Bool) (s : State), xplEn s x = true → (s.xpl x).request = some w →
    ∃ t, exec (.xplWidthRequest x width full) s = .next t ∧ (t.xpl x).request = none ∧
      (t.xpl x).retry = decide (ownPkg s < s.fld (Reg.XPL_LINK_STAT x) Fld.XPL_LINK_STAT.PEER_PKG) ∧
      t.flag (Reg.XPL_LINK_STAT x) Fld.XPL_LINK_STAT.COLLISION = true ∧ sameStores s t) ∧
  (∀ (x : Fin 4) (s : State), (s.xpl x).retry = true → xplEn s x = true → (s.xpl x).request = none →
    s.flag (Reg.XPL_LINK_STAT x) Fld.XPL_LINK_STAT.DUP_ID = false →
    ∃ t, exec (.xplCollisionRetry x) s = .next t ∧ (t.xpl x).retry = false ∧ (t.xpl x).request = some (proposal s x (xplGood s x)) ∧ sameStores s t) ∧
  (∀ (x : Fin 4) (peer : Nat) (good : BitVec 8) (s : State), retraining s x = true → (s.xpl x).request = none → (s.xpl x).full = true →
    widthUpTo (min (proposal s x good.toNat) (s.xpl x).agreed) ≠ 0 →
    ∃ t, exec (.xplRetrainDone x true peer good) s = .next t ∧ xplUp t x = true ∧ retraining t x = false ∧
      xplWidth t x = widthUpTo (min (proposal s x good.toNat) (s.xpl x).agreed) ∧ xplGood t x = good.toNat ∧ (t.xpl x).fails = 0 ∧ sameStores s t) ∧
  (∀ (x : Fin 4) (peer : Nat) (good : BitVec 8) (s : State), retraining s x = true → (s.xpl x).fails < 2 →
    ∃ t, exec (.xplRetrainDone x false peer good) s = .next t ∧ (t.xpl x).fails = (s.xpl x).fails + 1 ∧ t.regs = s.regs ∧ sameStores s t) ∧
  (∀ (x : Fin 4) (peer : Nat) (good : BitVec 8) (s : State), retraining s x = true → 2 ≤ (s.xpl x).fails →
    ∃ t, exec (.xplRetrainDone x false peer good) s = .next t ∧ xplUp t x = false ∧ xplWidth t x = 0 ∧ (t.xpl x).replay = [] ∧
      t.nvs.nextRec = (s.nvs.nextRec + 1) % 2 ^ 64 ∧ sameStores s t) ∧
  (∀ (x : Fin 4) (s : State), (s.xpl x).uncorr = .empty →
    ∃ t, exec (.xplBerWindow x) s = .next t ∧ xplGood t x = xplGood s x ∧ (t.xpl x).request = (s.xpl x).request ∧
      (t.xpl x).mark = s.pn64 (Prm.XPL_FLITS_TX_LO x) ∧ sameStores s t) ∧
  (∀ (x : Fin 4) (lane : Fin 8) (s : State), bitOf (xplGood s x) lane = false →
    ∃ t, exec (.xplRegrow x lane true) s = .next t ∧ bitOf (xplGood t x) lane = true ∧ sameStores s t) ∧
  (∀ (x : Fin 4) (lane : Fin 8) (s : State), exec (.xplRegrow x lane false) s = .next s) ∧
  (∀ (x : Fin 4) (peer : Fin 16) (link : Fin 4) (edges : List (Nat × Nat × Nat × Nat)) (s : State), xplEn s x = true → peer.val ≠ ownPkg s →
    xplWidth s x ≠ 0 →
    ∃ t, exec (.xplDiscover x peer link edges) s = .next t ∧ xplUp t x = true ∧ t.fld (Reg.XPL_LINK_STAT x) Fld.XPL_LINK_STAT.PEER_PKG = peer.val ∧
      t.fld (Reg.XPL_LINK_STAT x) Fld.XPL_LINK_STAT.PEER_LINK = link.val ∧ (∀ e ∈ edges, e.1 < 16 → e.2.2.1 < 16 → e ∈ t.lan.graph) ∧ sameStores s t) ∧
  (∀ (x : Fin 4) (peer : Fin 16) (link : Fin 4) (edges : List (Nat × Nat × Nat × Nat)) (s : State), xplEn s x = true → peer.val = ownPkg s →
    ∃ t, exec (.xplDiscover x peer link edges) s = .next t ∧ xplUp t x = false ∧ t.flag (Reg.XPL_LINK_STAT x) Fld.XPL_LINK_STAT.DUP_ID = true ∧
      t.lan = s.lan ∧ sameStores s t) ∧
  (∀ (s : State), ∃ t, exec .xplRouteRebuild s = .next t ∧ t.flag (Reg.XPL_ROUTE (ownPkg s)) Fld.XPL_ROUTE.VALID = true ∧
    t.flag (Reg.XPL_ROUTE (ownPkg s)) Fld.XPL_ROUTE.LOCAL = true ∧ t.fld (Reg.XPL_ROUTE (ownPkg s)) Fld.XPL_ROUTE.HOPS = 0 ∧
    t.pn Prm.XPL_REROUTES = satAdd 0xFFFFFFFF (s.pn Prm.XPL_REROUTES) 1 ∧ t.lan = s.lan ∧ sameStores s t) ∧
  (∀ (d : Fin 16) (s : State), routeTo s d = none →
    ∃ t, exec .xplRouteRebuild s = .next t ∧ t.rd (Reg.XPL_ROUTE d) = 0)

/-! ### Fault tolerance (chapter 21) -/

/-- R696, R698, R701 to R708, R712 to R716: units, spares, retests, rotations, sentinels, poisoned lines and injected faults. -/
def Obligations.UnitFaults : Prop :=
  (∀ (p : Fin 2176) (kind : Fin 4) (tiles : List Nat) (k : Nat) (s : State), slotDown s p = false → spareSlot s (p / 17) = some k → k < 17 → k ≠ p.val % 17 →
    (s.clusterF (p / 17)).reexec = none → faultAgain s p = false →
    ∃ t, exec (.unitFault p kind tiles) s = .next t ∧ (t.clusterF (p / 17)).reexec = some ⟨slotRole s p, p.val % 17, false⟩ ∧
      slotPowered t (17 * (p / 17) + k) = true ∧ (t.unitF p).lastFault = some s.uptime ∧ slotFenced t p = slotFenced s p ∧
      t.devMem = s.devMem ∧ t.hostMem = s.hostMem) ∧
  (∀ (p : Fin 2176) (kind : Fin 4) (tiles : List Nat) (s : State), slotDown s p = false → faultAgain s p = true → slotFenced s p = false →
    ∃ t, exec (.unitFault p kind tiles) s = .next t ∧ slotFenced t p = true ∧ slotPowered t p = false ∧ t.evt 244 = true ∧
      t.devMem = s.devMem ∧ t.hostMem = s.hostMem) ∧
  (∀ (p : Fin 2176) (kind : Fin 4) (tiles : List Nat) (s : State), slotDown s p = true → exec (.unitFault p kind tiles) s = .next s) ∧
  (∀ (c : Fin 128) (r : Reexec) (k : Nat) (s : State), (s.clusterF c).reexec = some r → spareSlot s c = some k → k < 17 → r.loaded = false →
    ∃ t, exec (.spareLoaded c) s = .next t ∧ (t.clusterF c).reexec = some { r with loaded := true } ∧
      t.flag (Reg.FLT_CLUSTER c) Fld.FLT_CLUSTER.SPARE_BUSY = true ∧ t.fld (Reg.FLT_UNIT (17 * c + k)) Fld.FLT_UNIT.ROLE = r.role % 16 ∧ sameStores s t) ∧
  (∀ (p : Fin 2176) (s : State), slotFenced s p = true → s.unitF p = UnitF.init →
    ∃ t, exec (.fenceRetest p) s = .next t ∧ (t.unitF p).testing = true ∧ t.regs = s.regs ∧ sameStores s t) ∧
  (∀ (p : Fin 2176) (s : State), slotFenced s p = true → (s.unitF p).testing = true → (s.unitF p).wantReturn = false →
    ∃ t, exec (.retestDone p true) s = .next t ∧ (t.unitF p).testing = false ∧ (t.unitF p).wantReturn = bitOf (s.pn Prm.FLT_CTRL) 1 ∧
      t.regs = s.regs ∧ sameStores s t) ∧
  (∀ (p : Fin 2176) (s : State), slotFenced s p = true → (s.unitF p).testing = true → (s.unitF p).wantReturn = false →
    ∃ t, exec (.retestDone p false) s = .next t ∧ (t.unitF p).testing = false ∧ (t.unitF p).retestFails = (s.unitF p).retestFails + 1 ∧
      slotFenced t p = true ∧ sameStores s t) ∧
  (∀ (c : Fin 128) (k r : Nat) (s : State), spareSlot s c = some k → k < 17 → nextRole s c = some r → bitOf (s.pn Prm.FLT_CTRL) 0 = true →
    (s.clusterF c).reexec = none → (s.clusterF c).rotation = none → s.boot.excluded.contains (c / 32) = false →
    ∃ t, exec (.eclipseRotation c) s = .next t ∧ (t.clusterF c).rotation = some r ∧ slotPowered t (17 * c + k) = true ∧
      t.flag (Reg.FLT_CLUSTER c) Fld.FLT_CLUSTER.SPARE_BUSY = true ∧ sameStores s t) ∧
  (∀ (c : Fin 128) (k r old : Nat) (s : State), spareSlot s c = some k → k < 17 → (s.clusterF c).rotation = some r → r < 16 → holder s c r = some old →
    old ≠ k → old < 17 →
    ∃ t, exec (.rotationSelftestDone c true) s = .next t ∧ slotSpare t (17 * c + k) = false ∧ slotRole t (17 * c + k) = r ∧
      slotSpare t (17 * c + old) = true ∧ slotPowered t (17 * c + old) = false ∧ spareSlot t c = some old ∧ (t.clusterF c).rotation = none ∧
      t.pn Prm.FLT_ECLIPSES = satAdd 0xFFFFFFFF (s.pn Prm.FLT_ECLIPSES) 1 ∧ sameStores s t) ∧
  (∀ (c : Fin 128) (k r : Nat) (s : State), spareSlot s c = some k → k < 17 → (s.clusterF c).rotation = some r → faultAgain s (17 * c + k) = false →
    ∃ t, exec (.rotationSelftestDone c false) s = .next t ∧ (t.clusterF c).rotation = none ∧ slotPowered t (17 * c + k) = false ∧ t.evt 246 = true ∧
      sameStores s t) ∧
  (∀ (s : State), s.flag Reg.FLT_PLINTH Fld.FLT_PLINTH.PRIMARY = false → s.flag Reg.FLT_PLINTH Fld.FLT_PLINTH.P2_ALIVE = true →
    s.flag Reg.FLT_PLINTH Fld.FLT_PLINTH.P0_ALIVE = true → 2 ≤ s.flt.missed →
    ∃ t, exec (.sentinelCheck false) s = .next t ∧ t.flag Reg.FLT_PLINTH Fld.FLT_PLINTH.PRIMARY = true ∧
      t.flag Reg.FLT_PLINTH Fld.FLT_PLINTH.P0_ALIVE = false ∧ t.flt.missed = 0 ∧ sameStores s t) ∧
  (∀ (s : State), s.flag Reg.FLT_PLINTH Fld.FLT_PLINTH.PRIMARY = false → s.flag Reg.FLT_PLINTH Fld.FLT_PLINTH.P2_ALIVE = true →
    s.flag Reg.FLT_PLINTH Fld.FLT_PLINTH.P0_ALIVE = true →
    ∃ t, exec (.sentinelCheck true) s = .next t ∧ t.flt.missed = 0 ∧ t.flag Reg.FLT_PLINTH Fld.FLT_PLINTH.PRIMARY = false ∧ sameStores s t) ∧
  (∀ (line : Nat) (s : State), (s.flt.queue.contains (line, 0)) = false → exec (.poisonOwnerLookup line) s = .next s) ∧
  (∀ (line : Nat) (s : State), s.flt.queue = [(line, 0)] → s.poison.has line = true → ownerRow s line = 11 → line < 2 ^ 40 →
    ∃ t, exec (.poisonOwnerLookup line) s = .next t ∧ t.flt.queue = [] ∧ t.poison.has line = false ∧ t.pn (Prm.FLT_POISON_LO 0) = line % 2 ^ 32 ∧
      (∀ a, 64 * line ≤ a → a < 64 * line + 64 → memRead t.devMem a = 0) ∧
      (∀ a, a < 64 * line ∨ 64 * line + 64 ≤ a → memRead t.devMem a = memRead s.devMem a) ∧ t.hostMem = s.hostMem) ∧
  (∀ (line row : Nat) (s : State), s.flt.queue = [(line, row)] → row = 5 → repairsWait s = false →
    ∃ t, exec (.patinaLineRestore line) s = .next t ∧ t.flt.queue = [] ∧ t.poison.has line = false ∧ sameStores s t) ∧
  (∀ (idx : Fin 4096) (on : Bool) (c : StrCtx) (s : State), s.flt.quarantine.find idx = some on → s.ctx idx = some c → repairsWait s = false →
    ∃ t y, exec (.ctxQuarantineRebuild idx) s = .next t ∧ t.flt.quarantine.find idx = none ∧ t.ctx idx = some y ∧
      y.enabled = (on && !c.barred) ∧ y.key = c.key ∧ y.desc = c.desc ∧ sameStores s t) ∧
  (∀ (v : Word) (tiles : List Nat) (s : State), s.flag Reg.HUB_LOCK Fld.HUB_LOCK.LOCK = true → exec (.fltInject v tiles) s = .next s) ∧
  (∀ (v : Word) (tiles : List Nat) (s : State), s.flag Reg.HUB_LOCK Fld.HUB_LOCK.LOCK = false → getFld v Fld.FLT_INJECT.GO = 1 →
    getFld v Fld.FLT_INJECT.KIND = 4 → pairEn s = true →
    ∃ t, exec (.fltInject v tiles) s = .next t ∧ t.flt.beatHold = 20 ∧ sameStores s t) ∧
  (∀ (k : Svc) (s : State), Served s 0x1300 k → k.f = 0 → k.cmd.len = 4 → k.n 0 1 < 128 → zeroAt k.cmd.payload 1 3 = true →
    exec .fltInfo s = .next (answered k ST_OK (leBytes 4 (s.rd (Reg.FLT_CLUSTER (k.n 0 1))).toNat ++
      ((List.range 17).flatMap fun j => leBytes 4 (s.rd (Reg.FLT_UNIT (17 * k.n 0 1 + j))).toNat) ++ leBytes 4 (s.pn (Prm.FLT_RX (k.n 0 1))) ++
      leBytes 4 (toRotation s (k.n 0 1))) (eff []) s)) ∧
  (∀ (k : Svc) (s : State), Served s 0x1301 k → k.f = 0 → k.cmd.len = 4 → k.n 0 2 < 2176 → zeroAt k.cmd.payload 2 2 = true →
    slotFenced s (k.n 0 2) = true → TicketFree s k →
    exec .fltUnfence s = .next (pended k (eff [effUnit (k.n 0 2) fun u => { u with testing := true, wantReturn := false }]) s)) ∧
  (∀ (k : Svc) (s : State), Served s 0x1302 k → k.f = 0 → k.cmd.len = 4 → k.n 0 2 < 2176 → zeroAt k.cmd.payload 2 2 = true →
    s.flag (Reg.FLT_CLUSTER (k.n 0 2 / 17)) Fld.FLT_CLUSTER.NO_SPARE = false →
    exec .fltFence s = .next (answered k ST_OK [] (eff [effUnit (k.n 0 2) fun u => { u with wantFence := true }]) s)) ∧
  (∀ (k : Svc) (s : State), Served s 0x1302 k → k.f = 0 → k.cmd.len = 4 → k.n 0 2 < 2176 → zeroAt k.cmd.payload 2 2 = true →
    s.flag (Reg.FLT_CLUSTER (k.n 0 2 / 17)) Fld.FLT_CLUSTER.NO_SPARE = true →
    exec .fltFence s = .next (answered k ST_CONFLICT [] (eff []) s))

/-- R717 to R728: the two packages of a pair: mirror items, checkpoints, heartbeats, yields, takeovers and planned swaps. -/
def Obligations.PackagePairs : Prop :=
  (∀ (k : Svc) (s : State), Served s 0x1303 k → k.f = 0 → k.cmd.len = 0 → pairActive s = true → pairProtected s = true → s.flt.warm = none →
    s.flt.swap = none → TicketFree s k →
    exec .fltPairSwap s = .next (pended k (acts [eff [.flt fun x => { x with
      swapTicket := some (k.f, ticketId k.f (s.mbx k.f).nextTicket) }], swapStart]) s)) ∧
  (∀ (k : Svc) (s : State), Served s 0x1303 k → k.f = 0 → k.cmd.len = 0 → pairActive s = false →
    exec .fltPairSwap s = .next (answered k ST_CONFLICT [] (eff []) s)) ∧
  (∀ (k : Svc) (s : State), Served s 0x1304 k → k.f = 0 → k.cmd.len = 0 →
    exec .fltPairInfo s = .next (answered k ST_OK (leBytes 4 (s.rd Reg.FLT_PAIR_STAT).toNat ++ leBytes 8 (s.pn64 Prm.FLT_CKPT_SEQ_LO) ++
      leBytes 8 (s.pn64 Prm.FLT_PAIR_SWAP_FRAME_LO) ++ leBytes 4 (s.pn Prm.FLT_PAIR_MIRROR_PENDING)) (eff []) s)) ∧
  (∀ (s : State), pairEn s = true → s.flt.beatHold = 0 → tripped s = false →
    ∃ t, exec .pairHeartbeat s = .next t ∧ (∀ x, x < 4 → xplUp s x = true → .packet 3 (partnerPkg s) ([0, 10] ++ leBytes 1 x) ∈ t.out) ∧
      t.flt = s.flt ∧ t.regs = s.regs ∧ sameStores s t) ∧
  (∀ (n : Nat) (s : State), pairEn s = true → s.flt.beatHold = n + 1 →
    ∃ t, exec .pairHeartbeat s = .next t ∧ t.flt.beatHold = n ∧ t.out = s.out ∧ t.regs = s.regs ∧ t.prms = s.prms ∧ sameStores s t) ∧
  (∀ (s : State), isStandby s = true →
    ∃ t, exec (.pairDetectTimeout true) s = .next t ∧ t.flt.declared = true ∧ t.regs = s.regs ∧ sameStores s t ∧
      t.pn Prm.FLT_PAIR_HB_LOST = satAdd 0xFFFFFFFF (s.pn Prm.FLT_PAIR_HB_LOST) 1) ∧
  (∀ (s : State), isStandby s = true →
    ∃ t, exec (.pairDetectTimeout false) s = .next t ∧ t.flt.declared = s.flt.declared ∧ pairProtected t = false ∧ t.flt.healthy = none ∧ sameStores s t) ∧
  (∀ (ring : Bool) (s : State), pairActive s = true → s.flt.mirror = [] → s.flt.warm = none → s.flt.swap = none →
    ∃ t, exec (.pairDetectTimeout ring) s = .next t ∧ pairProtected t = false ∧ pairActive t = true ∧ sameStores s t) ∧
  (∀ (cause : Fin 3) (s : State), pairActive s = true → pairFlag s Fld.FLT_PAIR_STAT.YIELDED = false → s.flt.mirror = [] → s.flt.warm = none →
    s.flt.swap = none →
    ∃ t, exec (.pairYield cause) s = .next t ∧ pairActive t = false ∧ pairFlag t Fld.FLT_PAIR_STAT.YIELDED = true ∧ pairProtected t = false ∧
      t.pn Prm.FLT_YIELDS = satAdd 0xFFFFFFFF (s.pn Prm.FLT_YIELDS) 1 ∧ sameStores s t) ∧
  (∀ (us : Nat) (s : State), isStandby s = true → pairFlag s Fld.FLT_PAIR_STAT.YIELDED = false → s.flt.declared = true →
    ∃ t, exec (.pairTakeover us) s = .next t ∧ pairActive t = true ∧ pairProtected t = false ∧ t.flt.declared = false ∧ t.evt 247 = true ∧
      t.fld Reg.FLT_PAIR_STAT Fld.FLT_PAIR_STAT.TAKEOVER_US = min 65535 us ∧ t.pn Prm.FLT_TAKEOVERS = satAdd 0xFFFFFFFF (s.pn Prm.FLT_TAKEOVERS) 1 ∧
      t.devMem = s.devMem ∧ t.hostMem = s.hostMem) ∧
  (∀ (us : Nat) (s : State), s.flt.declared = false → exec (.pairTakeover us) s = .next s) ∧
  (∀ (seq f : Nat) (p : Fin 96) (group : Fin 4) (prms : List (Nat × Word)) (objs : List (Nat × Nat × Option Bytes)) (s : State), isStandby s = true →
    let items := prms.map (fun x => Staged.prm x.1 x.2) ++ objs.map fun x => Staged.obj x.1 x.2.1 x.2.2
    (verdict p items none s).1 = none →
    ∃ t, exec (.pairMirrorItem seq p group (some f) prms objs) s = .next t ∧ t.arm.commits.find (128 * (1 + seq) + p) =
      some ⟨0, true, group, f, false, false, items, some 0, s.arm.clock + 1⟩ ∧ t.regs = s.regs ∧ t.prms = s.prms ∧ t.objs = s.objs ∧ sameStores s t) ∧
  (∀ (seq f : Nat) (p : Fin 96) (group : Fin 4) (prms : List (Nat × Word)) (objs : List (Nat × Nat × Option Bytes)) (s : State), isStandby s = true →
    (verdict p (prms.map (fun x => Staged.prm x.1 x.2) ++ objs.map fun x => Staged.obj x.1 x.2.1 x.2.2) none s).1.isSome →
    exec (.pairMirrorItem seq p group (some f) prms objs) s = .next s) ∧
  (∀ (seq idx : Nat) (b : Bytes) (p : Fin 96) (group : Fin 4) (s : State), isStandby s = true →
    ∃ t, exec (.pairMirrorItem seq p group none [] [(K_SCOPE, idx, some b)]) s = .next t ∧ t.obj K_SCOPE idx = some b ∧
      t.devMem = s.devMem ∧ t.hostMem = s.hostMem) ∧
  (∀ (seq frame : Nat) (group : Fin 4) (content : Bytes) (s : State), isStandby s = true →
    ∃ t, exec (.pairCheckpoint seq group frame content) s = .next t ∧ pairProtected t = true ∧ ⟨seq, group, frame, content⟩ ∈ t.flt.checkpoints ∧
      t.pn64 Prm.FLT_CKPT_SEQ_LO = seq % 2 ^ 64 ∧ sameStores s t) ∧
  (∀ (s : State), pairActive s = true → pairProtected s = true → s.pn Prm.FLT_PAIR_SWAP_S ≠ 0 → s.flt.warm = none → s.flt.swap = none →
    ∃ t, exec .pairSwapTimer s = .next t ∧ t.flt.warm = some (s.pn Prm.FLT_PAIR_WARM_FRAMES) ∧ t.regs = s.regs ∧ sameStores s t) ∧
  (∀ (s : State), s.pn Prm.FLT_PAIR_SWAP_S = 0 → exec .pairSwapTimer s = .next s) ∧
  (∀ (h : Nat) (s : State), isStandby s = true → bitOf (s.pn Prm.FLT_PAIR_CFG) 0 = true → s.pn Prm.FLT_PAIR_REVERT_S ≠ 0 → s.flt.healthy = some h →
    h + s.pn Prm.FLT_PAIR_REVERT_S * secTicks ≤ s.uptime → s.fld Reg.HUB_BOOT Fld.HUB_BOOT.STATE = 6 → s.flt.warm = none → s.flt.swap = none →
    ∃ t, exec .pairRevert s = .next t ∧ t.flt.warm = some (s.pn Prm.FLT_PAIR_WARM_FRAMES) ∧ pairFlag t Fld.FLT_PAIR_STAT.WARM = true ∧ sameStores s t) ∧
  (∀ (seq p : Nat) (c : Commit) (rest : List (Nat × Nat)) (s : State), s.flt.mirror = (seq, p) :: rest → (∀ e ∈ rest, e.1 ≠ seq) → p < 128 →
    s.arm.commits.find p = some c →
    ∃ t, exec (.pairMirrorAck seq) s = .next t ∧ t.flt.mirror = rest ∧ t.arm.commits.find p = some { c with armed := some s.uptime } ∧
      t.pn Prm.FLT_PAIR_MIRROR_PENDING = rest.length % 2 ^ 32 ∧ pairProtected t = true ∧ sameStores s t) ∧
  (∀ (seq : Nat) (s : State), (∀ e ∈ s.flt.mirror, e.1 ≠ seq) → exec (.pairMirrorAck seq) s = .next s)

/-! ### Bring-up, resets and non-volatile store (chapter 23) -/

/-- R754 to R758, R761, R763, R764, R765, R767, R801: the boot states, resets, and writes of the configuration bank. -/
def Obligations.BootAndResets : Prop :=
  (∀ (s : State), s.pins.sysPwrok = false →
    ∃ t, exec (.sysPwrok true) s = .next t ∧ t.pins.sysPwrok = true ∧ bootState t = 1 ∧ t.boot.riseAt = s.uptime ∧ t.prms = s.prms ∧
      t.devMem = s.devMem ∧ t.hostMem = s.hostMem) ∧
  (∀ (s : State), s.pins.sysPwrok = true →
    ∃ t, exec (.sysPwrok false) s = .next t ∧ t.pins.sysPwrok = false ∧ t.devMem = State.reset.devMem ∧ t.prms = State.reset.prms ∧ t.arm = State.reset.arm ∧
      (∀ a, a ≠ Reg.SEC_STATE → t.rd a = State.reset.rd a) ∧ t.hostMem = s.hostMem ∧ t.otp = s.otp ∧ t.pending = s.pending) ∧
  (∀ (level : Bool) (s : State), level = s.pins.sysPwrok → exec (.sysPwrok level) s = .next s) ∧
  (∀ (s : State), s.pins.pkgResetN = true → s.pins.sysPwrok = true → 2 ≤ bootState s →
    ∃ t, exec (.pkgResetN false) s = .next t ∧ t.pins.pkgResetN = false ∧ bootState t = 2 ∧ t.fld Reg.HUB_BOOT Fld.HUB_BOOT.LAST_RESET = 1 ∧
      t.prms = State.reset.prms ∧ t.devMem = State.reset.devMem ∧ t.rd Reg.HUB_LOCK = s.rd Reg.HUB_LOCK ∧ t.otp = s.otp ∧ t.hostMem = s.hostMem) ∧
  (∀ (s : State), s.pins.pkgResetN = false →
    ∃ t, exec (.pkgResetN true) s = .next t ∧ t.pins.pkgResetN = true ∧ t.regs = s.regs ∧ t.prms = s.prms ∧ t.devMem = s.devMem) ∧
  (∀ (v : Word) (s : State), resetKeyed s v = true → getFld v Fld.HUB_RESET.PKG_RESET = 1 → s.pins.sysPwrok = true → 2 ≤ bootState s →
    ∃ t, exec (.hubPkgReset v) s = .next t ∧ bootState t = 2 ∧ t.fld Reg.HUB_BOOT Fld.HUB_BOOT.LAST_RESET = 2 ∧ t.prms = State.reset.prms ∧
      t.devMem = State.reset.devMem ∧ t.pins = s.pins ∧ t.otp = s.otp ∧ t.hostMem = s.hostMem) ∧
  (∀ (v : Word) (s : State), resetKeyed s v = false → exec (.hubPkgReset v) s = .next s ∧ exec (.armReboot v) s = .next s) ∧
  (∀ (v : Word) (s : State), resetKeyed s v = true → getFld v Fld.HUB_RESET.ARM_REBOOT = 1 → getFld v Fld.HUB_RESET.PKG_RESET = 0 → 2 ≤ bootState s →
    ∃ t, exec (.armReboot v) s = .next t ∧ t.arm.halted = true ∧ t.arm.cause = 4 ∧ t.arm.dead = false ∧ t.flt.recoveries = [] ∧
      (∀ f, f < 64 → t.fld (Reg.MBX_STATE f) Fld.MBX_STATE.STATE = 3) ∧ t.prms = s.prms ∧ sameStores s t) ∧
  (∀ (s : State), s.pins.hostPerstN = false →
    ∃ t, exec (.hostPerstN true) s = .next t ∧ t.pins.hostPerstN = true ∧ t.regs = s.regs ∧ t.prms = s.prms ∧ t.devMem = s.devMem) ∧
  (∀ (s : State), s.pins.hostPerstN = true →
    let u := (List.range 64).foldl (fun t f => (hostResetOf f).run t) { s with pins := { s.pins with hostPerstN := false } }
    exec (.hostPerstN false) s = .next { u with boot := { u.boot with masterOff := [] } }) ∧
  (∀ (f : Fn) (s : State), ∃ t, exec (.functionLevelReset f) s = .next t ∧ (t.mbx f).anySeq = true ∧ roleOf t f = 0) ∧
  (∀ (s : State), exec .vfEnableClear s = .next (((List.range 63).map (· + 1)).foldl (fun t f => (functionReset f).run t) s)) ∧
  (∀ (s : State), s.pins.sysPwrok = true → bootState s = 1 → s.pins.strapTest = false →
    ∃ t, exec .strapEnd s = .next t ∧ bootState t = 2 ∧ t.fld Reg.HUB_TOPOLOGY Fld.HUB_TOPOLOGY.PKG_ID = s.pins.strapPkg % 16 ∧
      t.fld Reg.HUB_BOOT Fld.HUB_BOOT.LAST_RESET = 0 ∧ t.prms = s.prms ∧ sameStores s t) ∧
  (∀ (dies : Fin 16) (failedTest : Nat) (s : State), awake s = true → bootState s = 2 → s.arm.dead = false → s.arm.halted = false →
    ∃ t, exec (.bootEnd dies failedTest false false) s = .next t ∧ t.arm.dead = true ∧ t.nvs.bootCount = s.nvs.bootCount + 1 ∧
      t.nvs.sel = chooseBank s.nvs ∧ t.hostMem = s.hostMem) ∧
  (∀ (s : State), awake s = true → bootState s = 2 → s.arm.dead = false → s.arm.halted = false → accepts s (imageIn s false) = true →
    accepts s (imageIn s true) = true → (imageIn s false).dev = false → (imageIn s true).dev = false →
    ∃ t, exec (.bootEnd 15 0 true true) s = .next t ∧ bootState t = 3 ∧ t.arm.serving = true ∧ t.arm.dead = false ∧ t.boot.excluded = [] ∧
      t.nvs.bootCount = s.nvs.bootCount + 1 ∧ t.nvs.sel = chooseBank s.nvs ∧ t.hostMem = s.hostMem) ∧
  (∀ (s : State), awake s = true → bootState s = 3 → s.boot.excluded = [] →
    ∃ t, exec (.trainEnd 0) s = .next t ∧ bootState t = 4 ∧ (∀ m, m < 4 → t.flag (Reg.MEM_STAT m) Fld.MEM_STAT.READY = true) ∧ t.prms = s.prms ∧
      sameStores s t) ∧
  (∀ (partner : Option Bool) (s : State), awake s = true → bootState s = 4 → ∃ t, exec (.discoverEnd partner) s = .next t ∧ bootState t = 5) ∧
  (∀ (s : State), bootState s = 5 → s.boot.firstImage = false → ∃ t, exec .firstImageLatched s = .next t ∧ t.boot.firstImage = true) ∧
  (∀ (s : State), bootState s = 5 →
    ∃ t, exec .bootTimeWaitExpiry s = .next t ∧ t.boot.timeWaited = true ∧ t.flag Reg.HUB_BOOT Fld.HUB_BOOT.WAIT_TIME = false ∧ bootState t = 5 ∧
      t.prms = s.prms ∧ sameStores s t) ∧
  (∀ (b : NvsBank) (s : State), s.nvs.writing = some b → s.nvs.sel = some false → s.nvs.reply = none → b.seq < 2 ^ 32 →
    ∃ t, exec .nvsBankWriteDone s = .next t ∧ t.nvs.b = b ∧ t.nvs.a = s.nvs.a ∧ t.nvs.sel = some true ∧ t.nvs.writing = none ∧
      t.flag Reg.NVS_STAT Fld.NVS_STAT.WRITING = false ∧ (t.rd Reg.NVS_SEQ).toNat = b.seq ∧ sameStores s t) ∧
  (∀ (s : State), s.nvs.deferred = true → bankBusy s = false →
    ∃ t, exec .nvsSaveDeferred s = .next t ∧ t.nvs.writing = some (snapshot s) ∧ t.nvs.deferred = false ∧ t.nvs.lastWrite = some s.uptime ∧
      t.flag Reg.NVS_STAT Fld.NVS_STAT.WRITING = true ∧ t.devMem = s.devMem ∧ t.hostMem = s.hostMem)

/-! ### Work of tickets, and what acts by time in several chapters -/

/-- R103, R522, R555 to R557, R580: the work of a ticket ends; a time acquisition gives up; a sample reaches an input port's ring; a drive
that does not answer an Abort is reset. -/
def Obligations.WorkAndTimers : Prop :=
  (∀ (f : Fin 96) (ticket status : Nat) (data : Bytes) (k : Ticket) (r : Reply) (s : State), s.ticket f ticket = some k → k.done = false →
    s.arm.halted = false → k.opcode ≠ 0xB00 → k.opcode ≠ 0x1303 → ticketWork f status data k s = some r →
    exec (.ticketedWorkComplete f ticket status data) s = .next ((completeTicket f ticket r.status r.payload).run (r.act.run s))) ∧
  (∀ (f : Fin 64) (ticket status : Nat) (data : Bytes) (k : Ticket) (s : State), s.ticket f ticket = some k → k.done = false → k.opcode = 0x1104 →
    k.poll = false →
    ∃ t k', exec (.ticketedWorkComplete ⟨f, Nat.lt_trans f.isLt (by decide)⟩ ticket status data) s = .next t ∧ t.ticket f ticket = some k' ∧
      k'.done = true ∧ k'.status = ST_OK ∧ k'.result = leBytes 2 (fieldN data 0 2) ++ [0, 0] ∧ t.sec.testResult = fieldN data 0 2 ∧ t.evt f = true ∧
      sameStores s t) ∧
  (∀ (f : Fin 96) (ticket status : Nat) (data : Bytes) (s : State), s.ticket f ticket = none →
    exec (.ticketedWorkComplete f ticket status data) s = .next s) ∧
  (∀ (f : Fn) (ticket : Nat) (k : Ticket) (s : State), s.tim.acquire = [(f.val, ticket)] → s.ticket f ticket = some k → k.done = false →
    ∃ t k', exec .timAcquireTimeout s = .next t ∧ t.tim.acquire = [] ∧ t.ticket f ticket = some k' ∧ k'.done = true ∧ k'.status = ST_TIMEOUT ∧
      sameStores s t) ∧
  (∀ (p : Fin 8) (a b : BitVec 24) (s : State), audOut s p = false → audEn s p = true → ringFrame s p (sampleAt s s.vis) < 2 ^ 63 →
    ∃ t x y, exec (.audInputSample p a b true true true) s = .next t ∧ t.rd (Reg.AUD_RING_PROD p) = w32 (sampleAt s s.vis + 1) ∧
      t.devMem = memWriteBytes s.devMem (ringFrame s p (sampleAt s s.vis)) (packSample (s.pn (Prm.AUD_PACK p)) x ++ packSample (s.pn (Prm.AUD_PACK p)) y) ∧
      t.hostMem = s.hostMem ∧ t.pageMem = s.pageMem) ∧
  (∀ (p : Fin 8) (a b : BitVec 24) (valid parityOk biphaseOk : Bool) (s : State), audOut s p = true →
    exec (.audInputSample p a b valid parityOk biphaseOk) s = .next s) ∧
  (∀ (d : Fin 8) (s : State), s.cst.aborting = [d.val] →
    ∃ t, exec (.nvmeAbortTimeout d) s = .next t ∧ t.cst.aborting = [] ∧ t.pn (Prm.DRV_RESETS d) = satAdd 0xFFFFFFFF (s.pn (Prm.DRV_RESETS d)) 1 ∧
      t.cst.disk = s.cst.disk ∧ t.devMem = s.devMem ∧ t.hostMem = s.hostMem)

/-! ### Effects, the trace, and single rules -/

/-- What each of the plain effects leaves, and that a list of effects is applied in order. A field effect writes one field of a
register, a count stops at its highest value, a raised event sets its status bit (R148), and once THERMTRIP_N is asserted nothing leaves by
a lane or a direct drive port (R748). -/
def Obligations.EffectReads : Prop :=
  (∀ (a : Nat) (v : Word) (s : State), let t := applyAll [.reg a v] s
    t.rd a = v &&& regMask a ∧ (∀ b, b ≠ a → t.rd b = s.rd b) ∧ t = { s with regs := t.regs }) ∧
  (∀ (a : Nat) (f : Fld) (v : Nat) (s : State), let t := applyAll [.fld a f v] s
    t.rd a = setFld (s.rd a) f v &&& regMask a ∧ (∀ b, b ≠ a → t.rd b = s.rd b) ∧ t = { s with regs := t.regs }) ∧
  (∀ (a : Nat) (f : Fld) (n : Nat) (s : State), (∀ i, f.lo ≤ i → i ≤ f.hi → (regMask a).getLsbD i = true) → f.lo ≤ f.hi →
    (applyAll [.inc a f n] s).fld a f = satAdd (2 ^ (f.hi + 1 - f.lo) - 1) (s.fld a f) n) ∧
  (∀ (id : Nat) (v : Word) (s : State), let t := applyAll [.prm id v] s
    (copyFind id prmCopies = none → t.prm id = v) ∧ (∀ b, b ≠ id → t.prm b = s.prm b) ∧ t = { s with prms := t.prms }) ∧
  (∀ (id n : Nat) (s : State), copyFind id prmCopies = none → (applyAll [.count id n] s).pn id = satAdd 0xFFFFFFFF (s.pn id) n) ∧
  (∀ (k j : Nat) (d : Option Bytes) (s : State), let t := applyAll [.obj k j d] s
    t.obj k j = d ∧ (∀ a b, objKey a b ≠ objKey k j → t.obj a b = s.obj a b) ∧ t = { s with objs := t.objs }) ∧
  (∀ (a : Nat) (bs : Bytes) (s : State), let t := applyAll [.dev a bs] s
    memReadBytes t.devMem a bs.length = bs ∧ (∀ x, x < a ∨ a + bs.length ≤ x → memRead t.devMem x = memRead s.devMem x) ∧
      t = { s with devMem := t.devMem }) ∧
  (∀ (e : Nat) (s : State), evtReserved e = false → let t := applyAll [.raise e] s
    t.evt e = true ∧ (∀ d, d ≠ e → d < 256 → t.evt d = s.evt d) ∧
      (∀ a, a < Reg.EVT_STATUS 0 ∨ Reg.EVT_STATUS 7 < a → a ≠ Reg.EVT_LOG_COUNT_LO → a ≠ Reg.EVT_LOG_COUNT_HI → t.rd a = s.rd a) ∧
      t = { s with regs := t.regs, out := t.out }) ∧
  (∀ (e : Nat) (s : State), evtReserved e = true → applyAll [.raise e] s = s) ∧
  (∀ (o : Out) (s : State), (tripped s = false ∨ o.onLane = false) → applyAll [.emit o] s = { s with out := s.out ++ [o] }) ∧
  (∀ (o : Out) (s : State), tripped s = true → o.onLane = true → applyAll [.emit o] s = s) ∧
  (∀ (e : Nat) (s : State), tripped s = true → (applyAll [.raise e] s).out = s.out) ∧
  (∀ (es fs : List Eff) (s : State), applyAll (es ++ fs) s = applyAll fs (applyAll es s))

/-- The trace of what leaves the block only grows, and the counter that free values are drawn by never falls. -/
def Obligations.TraceOnlyGrows : Prop := ∀ s t : State, step s = .next t → (∃ new, t.out = s.out ++ new) ∧ s.freeCtr ≤ t.freeCtr

/-- R134: a write of the low half of a writable pair is held, the following write of the high half loads both, and a write of the high half
with none held keeps the low half. -/
def Obligations.PairWritesAreHeld : Prop := ∀ (f : Fn) (off o : Nat) (s : State), winOff f off = some o → winOff f (off + 4) = some (o + 4) →
  bar0Ignored f o = false → bar0Ignored f (o + 4) = false → pairAt o = some true →
  (∀ v, ∃ t, exec (.pairLoWrite f off v) s = .next t ∧ t.pairHeld.find (pairKey f o) = some v ∧ t.regs = s.regs ∧ t.prms = s.prms ∧ sameStores s t) ∧
  (∀ lo v, s.pairHeld.find (pairKey f o) = some lo → ∃ t, exec (.pairHiWrite f (off + 4) v) s = .next t ∧ t.rd o = lo &&& regMask o ∧
    t.rd (o + 4) = v &&& regMask (o + 4) ∧ t.pairHeld.find (pairKey f o) = none ∧ (∀ a, a ≠ o → a ≠ o + 4 → t.rd a = s.rd a) ∧ sameStores s t) ∧
  (∀ v, Inv s → s.pairHeld.find (pairKey f o) = none → ∃ t, exec (.pairHiWrite f (off + 4) v) s = .next t ∧ t.rd o = s.rd o ∧
    t.rd (o + 4) = v &&& regMask (o + 4) ∧ (∀ a, a ≠ o → a ≠ o + 4 → t.rd a = s.rd a) ∧ sameStores s t)

/-- R97: a doorbell that arrives while the mailbox is BUSY or RECOVERING sets RING_LOST, and neither the command in service nor the one that
waits is affected. -/
def Obligations.BusyDoorbellIsLost : Prop := ∀ (f : Fn) (v : Word) (s : State), getFld v Fld.MBX_DOORBELL.RING = 1 →
  s.fld (Reg.MBX_STATE f) Fld.MBX_STATE.STATE = 1 ∨ s.fld (Reg.MBX_STATE f) Fld.MBX_STATE.STATE = 3 →
  ∃ t, exec (.mbxDoorbell f v) s = .next t ∧ t.flag (Reg.MBX_STATE f) Fld.MBX_STATE.RING_LOST = true ∧
    t.fld (Reg.MBX_STATE f) Fld.MBX_STATE.STATE = s.fld (Reg.MBX_STATE f) Fld.MBX_STATE.STATE ∧ t.arm = s.arm ∧ t.prms = s.prms ∧
    (∀ a, a ≠ Reg.MBX_STATE f → t.rd a = s.rd a) ∧ sameStores s t

/-- R103: work that completes stores its status and result in its ticket, raises E000 + f unless POLL was set, adds 1 to TICKETS_DONE, and
leaves the other tickets. -/
def Obligations.TicketCompletes : Prop := ∀ (f : Fn) (id status : Nat) (result : Bytes) (k : Ticket) (s : State), s.ticket f id = some k → k.done = false →
  ((s.mbx f).tickets.map (·.id)).Nodup → (s.mbx f).tickets.length ≤ 16 →
  s.fld (Reg.MBX_STATE f) Fld.MBX_STATE.TICKETS_DONE = ((s.mbx f).tickets.filter (·.done)).length →
  let t := (completeTicket f id status result).run s
  (∃ k', t.ticket f id = some k' ∧ k'.done = true ∧ k'.status = status ∧ k'.result = result) ∧ (k.poll = false → t.evt f = true) ∧
  (∀ other, other ≠ id → t.ticket f other = s.ticket f other) ∧
  t.fld (Reg.MBX_STATE f) Fld.MBX_STATE.TICKETS_DONE = s.fld (Reg.MBX_STATE f) Fld.MBX_STATE.TICKETS_DONE + 1 ∧ sameStores s t

/-- R113, R114: a second commit is refused with ST_BUSY while the first is pending, and CFG_DISCARD empties the staged set and leaves the
pending commit. -/
def Obligations.OneCommitPending : Prop :=
  (∀ (k : Svc) (s : State), Served s 0x110 k → k.cmd.len = 16 → k.n 0 1 < 4 → k.n 1 1 = 1 → zeroAt k.cmd.payload 2 6 = true → k.n 14 2 = 0 →
    (standbyRefuses s).1 = false → s.arm.commits.has k.f = true →
    exec .cfgCommit s = .next (answered k ST_BUSY [] (eff []) s)) ∧
  (∀ (k : Svc) (s : State), Served s 0x111 k → k.cmd.len = 0 →
    ∃ t, exec .cfgDiscard s = .next t ∧ t.stagedOf k.f = [] ∧ t.arm.commits = s.arm.commits ∧ t.prms = s.prms ∧ t.objs = s.objs)

/-- R593: PLAY_CLOSE is refused with ST_CONFLICT while a committed layer names the handle. -/
def Obligations.NamedPlaybackStays : Prop := ∀ (k : Svc) (p : Playback) (s : State), Served s 0xE22 k → k.cmd.len = 4 → k.n 0 1 < 16 →
  zeroAt k.cmd.payload 1 3 = true → storeReady s = true → heldPlay k s = some p → layerNames s 4 (k.n 0 1) = true →
  ∃ t, exec .playClose s = .next t ∧ t = answered k ST_CONFLICT [] (eff []) s ∧ t.cst = s.cst

/-- R769: a write of HUB_RESET is ignored while HUB_LOCK.LOCK is 1, and where both resets are asked for the package is reset only. -/
def Obligations.LockedResetIsIgnored : Prop :=
  (∀ (v : Word) (s : State), s.flag Reg.HUB_LOCK Fld.HUB_LOCK.LOCK = true → exec (.hubPkgReset v) s = .next s ∧ exec (.armReboot v) s = .next s) ∧
  (∀ (v : Word) (s : State), s.flag Reg.HUB_LOCK Fld.HUB_LOCK.LOCK = false → getFld v Fld.HUB_RESET.KEY = 0x5A5A →
    getFld v Fld.HUB_RESET.PKG_RESET = 1 → getFld v Fld.HUB_RESET.ARM_REBOOT = 1 → s.pins.sysPwrok = true → 2 ≤ bootState s →
    exec (.armReboot v) s = .next s ∧ ∃ t, exec (.hubPkgReset v) s = .next t ∧ bootState t = 2 ∧ t.fld Reg.HUB_BOOT Fld.HUB_BOOT.LAST_RESET = 2)

/-- R26: at reset slots 0 to 15 of every cluster hold roles 0 to 15 in order and are powered, and slot 16 is the spare, powered down. -/
def Obligations.RolesAtReset : Prop :=
  (∀ c k, c < 128 → k < 16 → slotRole State.reset (17 * c + k) = k ∧ slotSpare State.reset (17 * c + k) = false ∧
    slotPowered State.reset (17 * c + k) = true) ∧
  (∀ c, c < 128 → slotSpare State.reset (17 * c + 16) = true ∧ slotPowered State.reset (17 * c + 16) = false)

/-- R571: a namespace of another principal, or a free one, is out of reach of a function other than F0; CST_NS_INFO, CST_NS_DELETE and a flush
task that name one out of reach receive ST_NO_CONTEXT. -/
def Obligations.NamespacesAreOwned : Prop :=
  (∀ (f n : Nat) (s : State), f ≠ 0 → (∀ x, s.space n = some x → x.owner ≠ f) → reachable s f n = none) ∧
  (∀ (k : Svc) (s : State), Served s 0xE04 k → k.cmd.len = 4 → k.holds s R_STORE = true → zeroAt k.cmd.payload 1 3 = true → storeReady s = true →
    reachable s k.f (k.n 0 1) = none → exec .cstNsInfo s = .next (answered k ST_NO_CONTEXT [] (eff []) s)) ∧
  (∀ (k : Svc) (s : State), Served s 0xE03 k → k.cmd.len = 4 → k.holds s R_STORE = true → zeroAt k.cmd.payload 1 3 = true → storeReady s = true →
    reachable s k.f (k.n 0 1) = none → exec .cstNsDelete s = .next (answered k ST_NO_CONTEXT [] (eff []) s)) ∧
  (∀ (f : Fn) (v : Word) (s : State), storeReady s = true → getFld v Fld.CST_TASK_CMD.OP = OP_FLUSH → v &&& ~~~(regMask (Reg.CST_TASK_CMD f)) = 0 →
    s.fld (Reg.CST_TASK_BLOCKS f) Fld.CST_TASK_BLOCKS.BLOCKS = 0 → s.holds f R_STORE = true →
    reachable s f (getFld v Fld.CST_TASK_CMD.NS) = none → taskChecks s f v = some ST_NO_CONTEXT)
end

