-- ==== Sys2Proof/Laws/State.lean ====
section
/-! SUPPORT. One lemma per field of State per effect: what the effect leaves in the field. Each is true by rfl, but for the
effects emit and raise, whose unchanged fields follow by cases. -/
namespace Sys2Proof.Machine

/-! ### reg -/
@[simp] theorem Eff.reg_pending (off : Nat) (v : Word) (s : State) : ((Eff.reg off v).apply s).pending = s.pending := rfl
@[simp] theorem Eff.reg_regs (off : Nat) (v : Word) (s : State) : ((Eff.reg off v).apply s).regs = regPut s.regs off v := rfl
@[simp] theorem Eff.reg_prms (off : Nat) (v : Word) (s : State) : ((Eff.reg off v).apply s).prms = s.prms := rfl
@[simp] theorem Eff.reg_objs (off : Nat) (v : Word) (s : State) : ((Eff.reg off v).apply s).objs = s.objs := rfl
@[simp] theorem Eff.reg_devMem (off : Nat) (v : Word) (s : State) : ((Eff.reg off v).apply s).devMem = s.devMem := rfl
@[simp] theorem Eff.reg_hostMem (off : Nat) (v : Word) (s : State) : ((Eff.reg off v).apply s).hostMem = s.hostMem := rfl
@[simp] theorem Eff.reg_pageMem (off : Nat) (v : Word) (s : State) : ((Eff.reg off v).apply s).pageMem = s.pageMem := rfl
@[simp] theorem Eff.reg_poison (off : Nat) (v : Word) (s : State) : ((Eff.reg off v).apply s).poison = s.poison := rfl
@[simp] theorem Eff.reg_pairLatch (off : Nat) (v : Word) (s : State) : ((Eff.reg off v).apply s).pairLatch = s.pairLatch := rfl
@[simp] theorem Eff.reg_pairHeld (off : Nat) (v : Word) (s : State) : ((Eff.reg off v).apply s).pairHeld = s.pairHeld := rfl
@[simp] theorem Eff.reg_freeCtr (off : Nat) (v : Word) (s : State) : ((Eff.reg off v).apply s).freeCtr = s.freeCtr := rfl
@[simp] theorem Eff.reg_uptime (off : Nat) (v : Word) (s : State) : ((Eff.reg off v).apply s).uptime = s.uptime := rfl
@[simp] theorem Eff.reg_out (off : Nat) (v : Word) (s : State) : ((Eff.reg off v).apply s).out = s.out := rfl
@[simp] theorem Eff.reg_arm (off : Nat) (v : Word) (s : State) : ((Eff.reg off v).apply s).arm = s.arm := rfl
@[simp] theorem Eff.reg_thm (off : Nat) (v : Word) (s : State) : ((Eff.reg off v).apply s).thm = s.thm := rfl
@[simp] theorem Eff.reg_flt (off : Nat) (v : Word) (s : State) : ((Eff.reg off v).apply s).flt = s.flt := rfl
@[simp] theorem Eff.reg_lan (off : Nat) (v : Word) (s : State) : ((Eff.reg off v).apply s).lan = s.lan := rfl
@[simp] theorem Eff.reg_nvs (off : Nat) (v : Word) (s : State) : ((Eff.reg off v).apply s).nvs = s.nvs := rfl
@[simp] theorem Eff.reg_otp (off : Nat) (v : Word) (s : State) : ((Eff.reg off v).apply s).otp = s.otp := rfl
@[simp] theorem Eff.reg_pins (off : Nat) (v : Word) (s : State) : ((Eff.reg off v).apply s).pins = s.pins := rfl
@[simp] theorem Eff.reg_boot (off : Nat) (v : Word) (s : State) : ((Eff.reg off v).apply s).boot = s.boot := rfl
@[simp] theorem Eff.reg_cam (off : Nat) (v : Word) (s : State) : ((Eff.reg off v).apply s).cam = s.cam := rfl
@[simp] theorem Eff.reg_cast (off : Nat) (v : Word) (s : State) : ((Eff.reg off v).apply s).cast = s.cast := rfl
@[simp] theorem Eff.reg_str (off : Nat) (v : Word) (s : State) : ((Eff.reg off v).apply s).str = s.str := rfl
@[simp] theorem Eff.reg_wall (off : Nat) (v : Word) (s : State) : ((Eff.reg off v).apply s).wall = s.wall := rfl
@[simp] theorem Eff.reg_pat (off : Nat) (v : Word) (s : State) : ((Eff.reg off v).apply s).pat = s.pat := rfl
@[simp] theorem Eff.reg_lib (off : Nat) (v : Word) (s : State) : ((Eff.reg off v).apply s).lib = s.lib := rfl
@[simp] theorem Eff.reg_tlk (off : Nat) (v : Word) (s : State) : ((Eff.reg off v).apply s).tlk = s.tlk := rfl
@[simp] theorem Eff.reg_tim (off : Nat) (v : Word) (s : State) : ((Eff.reg off v).apply s).tim = s.tim := rfl
@[simp] theorem Eff.reg_aud (off : Nat) (v : Word) (s : State) : ((Eff.reg off v).apply s).aud = s.aud := rfl
@[simp] theorem Eff.reg_cst (off : Nat) (v : Word) (s : State) : ((Eff.reg off v).apply s).cst = s.cst := rfl
@[simp] theorem Eff.reg_mem (off : Nat) (v : Word) (s : State) : ((Eff.reg off v).apply s).mem = s.mem := rfl
@[simp] theorem Eff.reg_dma (off : Nat) (v : Word) (s : State) : ((Eff.reg off v).apply s).dma = s.dma := rfl
@[simp] theorem Eff.reg_sec (off : Nat) (v : Word) (s : State) : ((Eff.reg off v).apply s).sec = s.sec := rfl
/-! ### fld -/
@[simp] theorem Eff.fld_pending (off : Nat) (f : Fld) (v : Nat) (s : State) : ((Eff.fld off f v).apply s).pending = s.pending := rfl
@[simp] theorem Eff.fld_regs (off : Nat) (f : Fld) (v : Nat) (s : State) :
    ((Eff.fld off f v).apply s).regs = regPut s.regs off (setFld (s.rd off) f v) := rfl
@[simp] theorem Eff.fld_prms (off : Nat) (f : Fld) (v : Nat) (s : State) : ((Eff.fld off f v).apply s).prms = s.prms := rfl
@[simp] theorem Eff.fld_objs (off : Nat) (f : Fld) (v : Nat) (s : State) : ((Eff.fld off f v).apply s).objs = s.objs := rfl
@[simp] theorem Eff.fld_devMem (off : Nat) (f : Fld) (v : Nat) (s : State) : ((Eff.fld off f v).apply s).devMem = s.devMem := rfl
@[simp] theorem Eff.fld_hostMem (off : Nat) (f : Fld) (v : Nat) (s : State) : ((Eff.fld off f v).apply s).hostMem = s.hostMem := rfl
@[simp] theorem Eff.fld_pageMem (off : Nat) (f : Fld) (v : Nat) (s : State) : ((Eff.fld off f v).apply s).pageMem = s.pageMem := rfl
@[simp] theorem Eff.fld_poison (off : Nat) (f : Fld) (v : Nat) (s : State) : ((Eff.fld off f v).apply s).poison = s.poison := rfl
@[simp] theorem Eff.fld_pairLatch (off : Nat) (f : Fld) (v : Nat) (s : State) : ((Eff.fld off f v).apply s).pairLatch = s.pairLatch := rfl
@[simp] theorem Eff.fld_pairHeld (off : Nat) (f : Fld) (v : Nat) (s : State) : ((Eff.fld off f v).apply s).pairHeld = s.pairHeld := rfl
@[simp] theorem Eff.fld_freeCtr (off : Nat) (f : Fld) (v : Nat) (s : State) : ((Eff.fld off f v).apply s).freeCtr = s.freeCtr := rfl
@[simp] theorem Eff.fld_uptime (off : Nat) (f : Fld) (v : Nat) (s : State) : ((Eff.fld off f v).apply s).uptime = s.uptime := rfl
@[simp] theorem Eff.fld_out (off : Nat) (f : Fld) (v : Nat) (s : State) : ((Eff.fld off f v).apply s).out = s.out := rfl
@[simp] theorem Eff.fld_arm (off : Nat) (f : Fld) (v : Nat) (s : State) : ((Eff.fld off f v).apply s).arm = s.arm := rfl
@[simp] theorem Eff.fld_thm (off : Nat) (f : Fld) (v : Nat) (s : State) : ((Eff.fld off f v).apply s).thm = s.thm := rfl
@[simp] theorem Eff.fld_flt (off : Nat) (f : Fld) (v : Nat) (s : State) : ((Eff.fld off f v).apply s).flt = s.flt := rfl
@[simp] theorem Eff.fld_lan (off : Nat) (f : Fld) (v : Nat) (s : State) : ((Eff.fld off f v).apply s).lan = s.lan := rfl
@[simp] theorem Eff.fld_nvs (off : Nat) (f : Fld) (v : Nat) (s : State) : ((Eff.fld off f v).apply s).nvs = s.nvs := rfl
@[simp] theorem Eff.fld_otp (off : Nat) (f : Fld) (v : Nat) (s : State) : ((Eff.fld off f v).apply s).otp = s.otp := rfl
@[simp] theorem Eff.fld_pins (off : Nat) (f : Fld) (v : Nat) (s : State) : ((Eff.fld off f v).apply s).pins = s.pins := rfl
@[simp] theorem Eff.fld_boot (off : Nat) (f : Fld) (v : Nat) (s : State) : ((Eff.fld off f v).apply s).boot = s.boot := rfl
@[simp] theorem Eff.fld_cam (off : Nat) (f : Fld) (v : Nat) (s : State) : ((Eff.fld off f v).apply s).cam = s.cam := rfl
@[simp] theorem Eff.fld_cast (off : Nat) (f : Fld) (v : Nat) (s : State) : ((Eff.fld off f v).apply s).cast = s.cast := rfl
@[simp] theorem Eff.fld_str (off : Nat) (f : Fld) (v : Nat) (s : State) : ((Eff.fld off f v).apply s).str = s.str := rfl
@[simp] theorem Eff.fld_wall (off : Nat) (f : Fld) (v : Nat) (s : State) : ((Eff.fld off f v).apply s).wall = s.wall := rfl
@[simp] theorem Eff.fld_pat (off : Nat) (f : Fld) (v : Nat) (s : State) : ((Eff.fld off f v).apply s).pat = s.pat := rfl
@[simp] theorem Eff.fld_lib (off : Nat) (f : Fld) (v : Nat) (s : State) : ((Eff.fld off f v).apply s).lib = s.lib := rfl
@[simp] theorem Eff.fld_tlk (off : Nat) (f : Fld) (v : Nat) (s : State) : ((Eff.fld off f v).apply s).tlk = s.tlk := rfl
@[simp] theorem Eff.fld_tim (off : Nat) (f : Fld) (v : Nat) (s : State) : ((Eff.fld off f v).apply s).tim = s.tim := rfl
@[simp] theorem Eff.fld_aud (off : Nat) (f : Fld) (v : Nat) (s : State) : ((Eff.fld off f v).apply s).aud = s.aud := rfl
@[simp] theorem Eff.fld_cst (off : Nat) (f : Fld) (v : Nat) (s : State) : ((Eff.fld off f v).apply s).cst = s.cst := rfl
@[simp] theorem Eff.fld_mem (off : Nat) (f : Fld) (v : Nat) (s : State) : ((Eff.fld off f v).apply s).mem = s.mem := rfl
@[simp] theorem Eff.fld_dma (off : Nat) (f : Fld) (v : Nat) (s : State) : ((Eff.fld off f v).apply s).dma = s.dma := rfl
@[simp] theorem Eff.fld_sec (off : Nat) (f : Fld) (v : Nat) (s : State) : ((Eff.fld off f v).apply s).sec = s.sec := rfl
/-! ### inc -/
@[simp] theorem Eff.inc_pending (off : Nat) (f : Fld) (n : Nat) (s : State) : ((Eff.inc off f n).apply s).pending = s.pending := rfl
@[simp] theorem Eff.inc_regs (off : Nat) (f : Fld) (n : Nat) (s : State) :
    ((Eff.inc off f n).apply s).regs = regPut s.regs off (setFld (s.rd off) f (satAdd (2 ^ (f.hi + 1 - f.lo) - 1) (s.fld off f) n)) := rfl
@[simp] theorem Eff.inc_prms (off : Nat) (f : Fld) (n : Nat) (s : State) : ((Eff.inc off f n).apply s).prms = s.prms := rfl
@[simp] theorem Eff.inc_objs (off : Nat) (f : Fld) (n : Nat) (s : State) : ((Eff.inc off f n).apply s).objs = s.objs := rfl
@[simp] theorem Eff.inc_devMem (off : Nat) (f : Fld) (n : Nat) (s : State) : ((Eff.inc off f n).apply s).devMem = s.devMem := rfl
@[simp] theorem Eff.inc_hostMem (off : Nat) (f : Fld) (n : Nat) (s : State) : ((Eff.inc off f n).apply s).hostMem = s.hostMem := rfl
@[simp] theorem Eff.inc_pageMem (off : Nat) (f : Fld) (n : Nat) (s : State) : ((Eff.inc off f n).apply s).pageMem = s.pageMem := rfl
@[simp] theorem Eff.inc_poison (off : Nat) (f : Fld) (n : Nat) (s : State) : ((Eff.inc off f n).apply s).poison = s.poison := rfl
@[simp] theorem Eff.inc_pairLatch (off : Nat) (f : Fld) (n : Nat) (s : State) : ((Eff.inc off f n).apply s).pairLatch = s.pairLatch := rfl
@[simp] theorem Eff.inc_pairHeld (off : Nat) (f : Fld) (n : Nat) (s : State) : ((Eff.inc off f n).apply s).pairHeld = s.pairHeld := rfl
@[simp] theorem Eff.inc_freeCtr (off : Nat) (f : Fld) (n : Nat) (s : State) : ((Eff.inc off f n).apply s).freeCtr = s.freeCtr := rfl
@[simp] theorem Eff.inc_uptime (off : Nat) (f : Fld) (n : Nat) (s : State) : ((Eff.inc off f n).apply s).uptime = s.uptime := rfl
@[simp] theorem Eff.inc_out (off : Nat) (f : Fld) (n : Nat) (s : State) : ((Eff.inc off f n).apply s).out = s.out := rfl
@[simp] theorem Eff.inc_arm (off : Nat) (f : Fld) (n : Nat) (s : State) : ((Eff.inc off f n).apply s).arm = s.arm := rfl
@[simp] theorem Eff.inc_thm (off : Nat) (f : Fld) (n : Nat) (s : State) : ((Eff.inc off f n).apply s).thm = s.thm := rfl
@[simp] theorem Eff.inc_flt (off : Nat) (f : Fld) (n : Nat) (s : State) : ((Eff.inc off f n).apply s).flt = s.flt := rfl
@[simp] theorem Eff.inc_lan (off : Nat) (f : Fld) (n : Nat) (s : State) : ((Eff.inc off f n).apply s).lan = s.lan := rfl
@[simp] theorem Eff.inc_nvs (off : Nat) (f : Fld) (n : Nat) (s : State) : ((Eff.inc off f n).apply s).nvs = s.nvs := rfl
@[simp] theorem Eff.inc_otp (off : Nat) (f : Fld) (n : Nat) (s : State) : ((Eff.inc off f n).apply s).otp = s.otp := rfl
@[simp] theorem Eff.inc_pins (off : Nat) (f : Fld) (n : Nat) (s : State) : ((Eff.inc off f n).apply s).pins = s.pins := rfl
@[simp] theorem Eff.inc_boot (off : Nat) (f : Fld) (n : Nat) (s : State) : ((Eff.inc off f n).apply s).boot = s.boot := rfl
@[simp] theorem Eff.inc_cam (off : Nat) (f : Fld) (n : Nat) (s : State) : ((Eff.inc off f n).apply s).cam = s.cam := rfl
@[simp] theorem Eff.inc_cast (off : Nat) (f : Fld) (n : Nat) (s : State) : ((Eff.inc off f n).apply s).cast = s.cast := rfl
@[simp] theorem Eff.inc_str (off : Nat) (f : Fld) (n : Nat) (s : State) : ((Eff.inc off f n).apply s).str = s.str := rfl
@[simp] theorem Eff.inc_wall (off : Nat) (f : Fld) (n : Nat) (s : State) : ((Eff.inc off f n).apply s).wall = s.wall := rfl
@[simp] theorem Eff.inc_pat (off : Nat) (f : Fld) (n : Nat) (s : State) : ((Eff.inc off f n).apply s).pat = s.pat := rfl
@[simp] theorem Eff.inc_lib (off : Nat) (f : Fld) (n : Nat) (s : State) : ((Eff.inc off f n).apply s).lib = s.lib := rfl
@[simp] theorem Eff.inc_tlk (off : Nat) (f : Fld) (n : Nat) (s : State) : ((Eff.inc off f n).apply s).tlk = s.tlk := rfl
@[simp] theorem Eff.inc_tim (off : Nat) (f : Fld) (n : Nat) (s : State) : ((Eff.inc off f n).apply s).tim = s.tim := rfl
@[simp] theorem Eff.inc_aud (off : Nat) (f : Fld) (n : Nat) (s : State) : ((Eff.inc off f n).apply s).aud = s.aud := rfl
@[simp] theorem Eff.inc_cst (off : Nat) (f : Fld) (n : Nat) (s : State) : ((Eff.inc off f n).apply s).cst = s.cst := rfl
@[simp] theorem Eff.inc_mem (off : Nat) (f : Fld) (n : Nat) (s : State) : ((Eff.inc off f n).apply s).mem = s.mem := rfl
@[simp] theorem Eff.inc_dma (off : Nat) (f : Fld) (n : Nat) (s : State) : ((Eff.inc off f n).apply s).dma = s.dma := rfl
@[simp] theorem Eff.inc_sec (off : Nat) (f : Fld) (n : Nat) (s : State) : ((Eff.inc off f n).apply s).sec = s.sec := rfl
/-! ### prm -/
@[simp] theorem Eff.prm_pending (id : Nat) (v : Word) (s : State) : ((Eff.prm id v).apply s).pending = s.pending := rfl
@[simp] theorem Eff.prm_regs (id : Nat) (v : Word) (s : State) : ((Eff.prm id v).apply s).regs = s.regs := rfl
@[simp] theorem Eff.prm_prms (id : Nat) (v : Word) (s : State) : ((Eff.prm id v).apply s).prms = prmPut s.prms id v := rfl
@[simp] theorem Eff.prm_objs (id : Nat) (v : Word) (s : State) : ((Eff.prm id v).apply s).objs = s.objs := rfl
@[simp] theorem Eff.prm_devMem (id : Nat) (v : Word) (s : State) : ((Eff.prm id v).apply s).devMem = s.devMem := rfl
@[simp] theorem Eff.prm_hostMem (id : Nat) (v : Word) (s : State) : ((Eff.prm id v).apply s).hostMem = s.hostMem := rfl
@[simp] theorem Eff.prm_pageMem (id : Nat) (v : Word) (s : State) : ((Eff.prm id v).apply s).pageMem = s.pageMem := rfl
@[simp] theorem Eff.prm_poison (id : Nat) (v : Word) (s : State) : ((Eff.prm id v).apply s).poison = s.poison := rfl
@[simp] theorem Eff.prm_pairLatch (id : Nat) (v : Word) (s : State) : ((Eff.prm id v).apply s).pairLatch = s.pairLatch := rfl
@[simp] theorem Eff.prm_pairHeld (id : Nat) (v : Word) (s : State) : ((Eff.prm id v).apply s).pairHeld = s.pairHeld := rfl
@[simp] theorem Eff.prm_freeCtr (id : Nat) (v : Word) (s : State) : ((Eff.prm id v).apply s).freeCtr = s.freeCtr := rfl
@[simp] theorem Eff.prm_uptime (id : Nat) (v : Word) (s : State) : ((Eff.prm id v).apply s).uptime = s.uptime := rfl
@[simp] theorem Eff.prm_out (id : Nat) (v : Word) (s : State) : ((Eff.prm id v).apply s).out = s.out := rfl
@[simp] theorem Eff.prm_arm (id : Nat) (v : Word) (s : State) : ((Eff.prm id v).apply s).arm = s.arm := rfl
@[simp] theorem Eff.prm_thm (id : Nat) (v : Word) (s : State) : ((Eff.prm id v).apply s).thm = s.thm := rfl
@[simp] theorem Eff.prm_flt (id : Nat) (v : Word) (s : State) : ((Eff.prm id v).apply s).flt = s.flt := rfl
@[simp] theorem Eff.prm_lan (id : Nat) (v : Word) (s : State) : ((Eff.prm id v).apply s).lan = s.lan := rfl
@[simp] theorem Eff.prm_nvs (id : Nat) (v : Word) (s : State) : ((Eff.prm id v).apply s).nvs = s.nvs := rfl
@[simp] theorem Eff.prm_otp (id : Nat) (v : Word) (s : State) : ((Eff.prm id v).apply s).otp = s.otp := rfl
@[simp] theorem Eff.prm_pins (id : Nat) (v : Word) (s : State) : ((Eff.prm id v).apply s).pins = s.pins := rfl
@[simp] theorem Eff.prm_boot (id : Nat) (v : Word) (s : State) : ((Eff.prm id v).apply s).boot = s.boot := rfl
@[simp] theorem Eff.prm_cam (id : Nat) (v : Word) (s : State) : ((Eff.prm id v).apply s).cam = s.cam := rfl
@[simp] theorem Eff.prm_cast (id : Nat) (v : Word) (s : State) : ((Eff.prm id v).apply s).cast = s.cast := rfl
@[simp] theorem Eff.prm_str (id : Nat) (v : Word) (s : State) : ((Eff.prm id v).apply s).str = s.str := rfl
@[simp] theorem Eff.prm_wall (id : Nat) (v : Word) (s : State) : ((Eff.prm id v).apply s).wall = s.wall := rfl
@[simp] theorem Eff.prm_pat (id : Nat) (v : Word) (s : State) : ((Eff.prm id v).apply s).pat = s.pat := rfl
@[simp] theorem Eff.prm_lib (id : Nat) (v : Word) (s : State) : ((Eff.prm id v).apply s).lib = s.lib := rfl
@[simp] theorem Eff.prm_tlk (id : Nat) (v : Word) (s : State) : ((Eff.prm id v).apply s).tlk = s.tlk := rfl
@[simp] theorem Eff.prm_tim (id : Nat) (v : Word) (s : State) : ((Eff.prm id v).apply s).tim = s.tim := rfl
@[simp] theorem Eff.prm_aud (id : Nat) (v : Word) (s : State) : ((Eff.prm id v).apply s).aud = s.aud := rfl
@[simp] theorem Eff.prm_cst (id : Nat) (v : Word) (s : State) : ((Eff.prm id v).apply s).cst = s.cst := rfl
@[simp] theorem Eff.prm_mem (id : Nat) (v : Word) (s : State) : ((Eff.prm id v).apply s).mem = s.mem := rfl
@[simp] theorem Eff.prm_dma (id : Nat) (v : Word) (s : State) : ((Eff.prm id v).apply s).dma = s.dma := rfl
@[simp] theorem Eff.prm_sec (id : Nat) (v : Word) (s : State) : ((Eff.prm id v).apply s).sec = s.sec := rfl
/-! ### count -/
@[simp] theorem Eff.count_pending (id n : Nat) (s : State) : ((Eff.count id n).apply s).pending = s.pending := rfl
@[simp] theorem Eff.count_regs (id n : Nat) (s : State) : ((Eff.count id n).apply s).regs = s.regs := rfl
@[simp] theorem Eff.count_prms (id n : Nat) (s : State) :
    ((Eff.count id n).apply s).prms = prmPut s.prms id (w32 (satAdd 0xFFFFFFFF (s.pn id) n)) := rfl
@[simp] theorem Eff.count_objs (id n : Nat) (s : State) : ((Eff.count id n).apply s).objs = s.objs := rfl
@[simp] theorem Eff.count_devMem (id n : Nat) (s : State) : ((Eff.count id n).apply s).devMem = s.devMem := rfl
@[simp] theorem Eff.count_hostMem (id n : Nat) (s : State) : ((Eff.count id n).apply s).hostMem = s.hostMem := rfl
@[simp] theorem Eff.count_pageMem (id n : Nat) (s : State) : ((Eff.count id n).apply s).pageMem = s.pageMem := rfl
@[simp] theorem Eff.count_poison (id n : Nat) (s : State) : ((Eff.count id n).apply s).poison = s.poison := rfl
@[simp] theorem Eff.count_pairLatch (id n : Nat) (s : State) : ((Eff.count id n).apply s).pairLatch = s.pairLatch := rfl
@[simp] theorem Eff.count_pairHeld (id n : Nat) (s : State) : ((Eff.count id n).apply s).pairHeld = s.pairHeld := rfl
@[simp] theorem Eff.count_freeCtr (id n : Nat) (s : State) : ((Eff.count id n).apply s).freeCtr = s.freeCtr := rfl
@[simp] theorem Eff.count_uptime (id n : Nat) (s : State) : ((Eff.count id n).apply s).uptime = s.uptime := rfl
@[simp] theorem Eff.count_out (id n : Nat) (s : State) : ((Eff.count id n).apply s).out = s.out := rfl
@[simp] theorem Eff.count_arm (id n : Nat) (s : State) : ((Eff.count id n).apply s).arm = s.arm := rfl
@[simp] theorem Eff.count_thm (id n : Nat) (s : State) : ((Eff.count id n).apply s).thm = s.thm := rfl
@[simp] theorem Eff.count_flt (id n : Nat) (s : State) : ((Eff.count id n).apply s).flt = s.flt := rfl
@[simp] theorem Eff.count_lan (id n : Nat) (s : State) : ((Eff.count id n).apply s).lan = s.lan := rfl
@[simp] theorem Eff.count_nvs (id n : Nat) (s : State) : ((Eff.count id n).apply s).nvs = s.nvs := rfl
@[simp] theorem Eff.count_otp (id n : Nat) (s : State) : ((Eff.count id n).apply s).otp = s.otp := rfl
@[simp] theorem Eff.count_pins (id n : Nat) (s : State) : ((Eff.count id n).apply s).pins = s.pins := rfl
@[simp] theorem Eff.count_boot (id n : Nat) (s : State) : ((Eff.count id n).apply s).boot = s.boot := rfl
@[simp] theorem Eff.count_cam (id n : Nat) (s : State) : ((Eff.count id n).apply s).cam = s.cam := rfl
@[simp] theorem Eff.count_cast (id n : Nat) (s : State) : ((Eff.count id n).apply s).cast = s.cast := rfl
@[simp] theorem Eff.count_str (id n : Nat) (s : State) : ((Eff.count id n).apply s).str = s.str := rfl
@[simp] theorem Eff.count_wall (id n : Nat) (s : State) : ((Eff.count id n).apply s).wall = s.wall := rfl
@[simp] theorem Eff.count_pat (id n : Nat) (s : State) : ((Eff.count id n).apply s).pat = s.pat := rfl
@[simp] theorem Eff.count_lib (id n : Nat) (s : State) : ((Eff.count id n).apply s).lib = s.lib := rfl
@[simp] theorem Eff.count_tlk (id n : Nat) (s : State) : ((Eff.count id n).apply s).tlk = s.tlk := rfl
@[simp] theorem Eff.count_tim (id n : Nat) (s : State) : ((Eff.count id n).apply s).tim = s.tim := rfl
@[simp] theorem Eff.count_aud (id n : Nat) (s : State) : ((Eff.count id n).apply s).aud = s.aud := rfl
@[simp] theorem Eff.count_cst (id n : Nat) (s : State) : ((Eff.count id n).apply s).cst = s.cst := rfl
@[simp] theorem Eff.count_mem (id n : Nat) (s : State) : ((Eff.count id n).apply s).mem = s.mem := rfl
@[simp] theorem Eff.count_dma (id n : Nat) (s : State) : ((Eff.count id n).apply s).dma = s.dma := rfl
@[simp] theorem Eff.count_sec (id n : Nat) (s : State) : ((Eff.count id n).apply s).sec = s.sec := rfl
/-! ### count64 -/
@[simp] theorem Eff.count64_pending (lo n : Nat) (s : State) : ((Eff.count64 lo n).apply s).pending = s.pending := rfl
@[simp] theorem Eff.count64_regs (lo n : Nat) (s : State) : ((Eff.count64 lo n).apply s).regs = s.regs := rfl
@[simp] theorem Eff.count64_prms (lo n : Nat) (s : State) :
    ((Eff.count64 lo n).apply s).prms = prmPut (prmPut s.prms lo (w32 (s.pn lo + 2 ^ 32 * s.pn (lo + 1) + n))) (lo + 1) (w32 ((s.pn lo + 2 ^ 32 * s.pn (lo + 1) + n) / 2 ^ 32)) := rfl
@[simp] theorem Eff.count64_objs (lo n : Nat) (s : State) : ((Eff.count64 lo n).apply s).objs = s.objs := rfl
@[simp] theorem Eff.count64_devMem (lo n : Nat) (s : State) : ((Eff.count64 lo n).apply s).devMem = s.devMem := rfl
@[simp] theorem Eff.count64_hostMem (lo n : Nat) (s : State) : ((Eff.count64 lo n).apply s).hostMem = s.hostMem := rfl
@[simp] theorem Eff.count64_pageMem (lo n : Nat) (s : State) : ((Eff.count64 lo n).apply s).pageMem = s.pageMem := rfl
@[simp] theorem Eff.count64_poison (lo n : Nat) (s : State) : ((Eff.count64 lo n).apply s).poison = s.poison := rfl
@[simp] theorem Eff.count64_pairLatch (lo n : Nat) (s : State) : ((Eff.count64 lo n).apply s).pairLatch = s.pairLatch := rfl
@[simp] theorem Eff.count64_pairHeld (lo n : Nat) (s : State) : ((Eff.count64 lo n).apply s).pairHeld = s.pairHeld := rfl
@[simp] theorem Eff.count64_freeCtr (lo n : Nat) (s : State) : ((Eff.count64 lo n).apply s).freeCtr = s.freeCtr := rfl
@[simp] theorem Eff.count64_uptime (lo n : Nat) (s : State) : ((Eff.count64 lo n).apply s).uptime = s.uptime := rfl
@[simp] theorem Eff.count64_out (lo n : Nat) (s : State) : ((Eff.count64 lo n).apply s).out = s.out := rfl
@[simp] theorem Eff.count64_arm (lo n : Nat) (s : State) : ((Eff.count64 lo n).apply s).arm = s.arm := rfl
@[simp] theorem Eff.count64_thm (lo n : Nat) (s : State) : ((Eff.count64 lo n).apply s).thm = s.thm := rfl
@[simp] theorem Eff.count64_flt (lo n : Nat) (s : State) : ((Eff.count64 lo n).apply s).flt = s.flt := rfl
@[simp] theorem Eff.count64_lan (lo n : Nat) (s : State) : ((Eff.count64 lo n).apply s).lan = s.lan := rfl
@[simp] theorem Eff.count64_nvs (lo n : Nat) (s : State) : ((Eff.count64 lo n).apply s).nvs = s.nvs := rfl
@[simp] theorem Eff.count64_otp (lo n : Nat) (s : State) : ((Eff.count64 lo n).apply s).otp = s.otp := rfl
@[simp] theorem Eff.count64_pins (lo n : Nat) (s : State) : ((Eff.count64 lo n).apply s).pins = s.pins := rfl
@[simp] theorem Eff.count64_boot (lo n : Nat) (s : State) : ((Eff.count64 lo n).apply s).boot = s.boot := rfl
@[simp] theorem Eff.count64_cam (lo n : Nat) (s : State) : ((Eff.count64 lo n).apply s).cam = s.cam := rfl
@[simp] theorem Eff.count64_cast (lo n : Nat) (s : State) : ((Eff.count64 lo n).apply s).cast = s.cast := rfl
@[simp] theorem Eff.count64_str (lo n : Nat) (s : State) : ((Eff.count64 lo n).apply s).str = s.str := rfl
@[simp] theorem Eff.count64_wall (lo n : Nat) (s : State) : ((Eff.count64 lo n).apply s).wall = s.wall := rfl
@[simp] theorem Eff.count64_pat (lo n : Nat) (s : State) : ((Eff.count64 lo n).apply s).pat = s.pat := rfl
@[simp] theorem Eff.count64_lib (lo n : Nat) (s : State) : ((Eff.count64 lo n).apply s).lib = s.lib := rfl
@[simp] theorem Eff.count64_tlk (lo n : Nat) (s : State) : ((Eff.count64 lo n).apply s).tlk = s.tlk := rfl
@[simp] theorem Eff.count64_tim (lo n : Nat) (s : State) : ((Eff.count64 lo n).apply s).tim = s.tim := rfl
@[simp] theorem Eff.count64_aud (lo n : Nat) (s : State) : ((Eff.count64 lo n).apply s).aud = s.aud := rfl
@[simp] theorem Eff.count64_cst (lo n : Nat) (s : State) : ((Eff.count64 lo n).apply s).cst = s.cst := rfl
@[simp] theorem Eff.count64_mem (lo n : Nat) (s : State) : ((Eff.count64 lo n).apply s).mem = s.mem := rfl
@[simp] theorem Eff.count64_dma (lo n : Nat) (s : State) : ((Eff.count64 lo n).apply s).dma = s.dma := rfl
@[simp] theorem Eff.count64_sec (lo n : Nat) (s : State) : ((Eff.count64 lo n).apply s).sec = s.sec := rfl
/-! ### obj -/
@[simp] theorem Eff.obj_pending (k i : Nat) (v : Option Bytes) (s : State) : ((Eff.obj k i v).apply s).pending = s.pending := rfl
@[simp] theorem Eff.obj_regs (k i : Nat) (v : Option Bytes) (s : State) : ((Eff.obj k i v).apply s).regs = s.regs := rfl
@[simp] theorem Eff.obj_prms (k i : Nat) (v : Option Bytes) (s : State) : ((Eff.obj k i v).apply s).prms = s.prms := rfl
@[simp] theorem Eff.obj_objs (k i : Nat) (v : Option Bytes) (s : State) : ((Eff.obj k i v).apply s).objs = s.objs.putOpt (objKey k i) v := rfl
@[simp] theorem Eff.obj_devMem (k i : Nat) (v : Option Bytes) (s : State) : ((Eff.obj k i v).apply s).devMem = s.devMem := rfl
@[simp] theorem Eff.obj_hostMem (k i : Nat) (v : Option Bytes) (s : State) : ((Eff.obj k i v).apply s).hostMem = s.hostMem := rfl
@[simp] theorem Eff.obj_pageMem (k i : Nat) (v : Option Bytes) (s : State) : ((Eff.obj k i v).apply s).pageMem = s.pageMem := rfl
@[simp] theorem Eff.obj_poison (k i : Nat) (v : Option Bytes) (s : State) : ((Eff.obj k i v).apply s).poison = s.poison := rfl
@[simp] theorem Eff.obj_pairLatch (k i : Nat) (v : Option Bytes) (s : State) : ((Eff.obj k i v).apply s).pairLatch = s.pairLatch := rfl
@[simp] theorem Eff.obj_pairHeld (k i : Nat) (v : Option Bytes) (s : State) : ((Eff.obj k i v).apply s).pairHeld = s.pairHeld := rfl
@[simp] theorem Eff.obj_freeCtr (k i : Nat) (v : Option Bytes) (s : State) : ((Eff.obj k i v).apply s).freeCtr = s.freeCtr := rfl
@[simp] theorem Eff.obj_uptime (k i : Nat) (v : Option Bytes) (s : State) : ((Eff.obj k i v).apply s).uptime = s.uptime := rfl
@[simp] theorem Eff.obj_out (k i : Nat) (v : Option Bytes) (s : State) : ((Eff.obj k i v).apply s).out = s.out := rfl
@[simp] theorem Eff.obj_arm (k i : Nat) (v : Option Bytes) (s : State) : ((Eff.obj k i v).apply s).arm = s.arm := rfl
@[simp] theorem Eff.obj_thm (k i : Nat) (v : Option Bytes) (s : State) : ((Eff.obj k i v).apply s).thm = s.thm := rfl
@[simp] theorem Eff.obj_flt (k i : Nat) (v : Option Bytes) (s : State) : ((Eff.obj k i v).apply s).flt = s.flt := rfl
@[simp] theorem Eff.obj_lan (k i : Nat) (v : Option Bytes) (s : State) : ((Eff.obj k i v).apply s).lan = s.lan := rfl
@[simp] theorem Eff.obj_nvs (k i : Nat) (v : Option Bytes) (s : State) : ((Eff.obj k i v).apply s).nvs = s.nvs := rfl
@[simp] theorem Eff.obj_otp (k i : Nat) (v : Option Bytes) (s : State) : ((Eff.obj k i v).apply s).otp = s.otp := rfl
@[simp] theorem Eff.obj_pins (k i : Nat) (v : Option Bytes) (s : State) : ((Eff.obj k i v).apply s).pins = s.pins := rfl
@[simp] theorem Eff.obj_boot (k i : Nat) (v : Option Bytes) (s : State) : ((Eff.obj k i v).apply s).boot = s.boot := rfl
@[simp] theorem Eff.obj_cam (k i : Nat) (v : Option Bytes) (s : State) : ((Eff.obj k i v).apply s).cam = s.cam := rfl
@[simp] theorem Eff.obj_cast (k i : Nat) (v : Option Bytes) (s : State) : ((Eff.obj k i v).apply s).cast = s.cast := rfl
@[simp] theorem Eff.obj_str (k i : Nat) (v : Option Bytes) (s : State) : ((Eff.obj k i v).apply s).str = s.str := rfl
@[simp] theorem Eff.obj_wall (k i : Nat) (v : Option Bytes) (s : State) : ((Eff.obj k i v).apply s).wall = s.wall := rfl
@[simp] theorem Eff.obj_pat (k i : Nat) (v : Option Bytes) (s : State) : ((Eff.obj k i v).apply s).pat = s.pat := rfl
@[simp] theorem Eff.obj_lib (k i : Nat) (v : Option Bytes) (s : State) : ((Eff.obj k i v).apply s).lib = s.lib := rfl
@[simp] theorem Eff.obj_tlk (k i : Nat) (v : Option Bytes) (s : State) : ((Eff.obj k i v).apply s).tlk = s.tlk := rfl
@[simp] theorem Eff.obj_tim (k i : Nat) (v : Option Bytes) (s : State) : ((Eff.obj k i v).apply s).tim = s.tim := rfl
@[simp] theorem Eff.obj_aud (k i : Nat) (v : Option Bytes) (s : State) : ((Eff.obj k i v).apply s).aud = s.aud := rfl
@[simp] theorem Eff.obj_cst (k i : Nat) (v : Option Bytes) (s : State) : ((Eff.obj k i v).apply s).cst = s.cst := rfl
@[simp] theorem Eff.obj_mem (k i : Nat) (v : Option Bytes) (s : State) : ((Eff.obj k i v).apply s).mem = s.mem := rfl
@[simp] theorem Eff.obj_dma (k i : Nat) (v : Option Bytes) (s : State) : ((Eff.obj k i v).apply s).dma = s.dma := rfl
@[simp] theorem Eff.obj_sec (k i : Nat) (v : Option Bytes) (s : State) : ((Eff.obj k i v).apply s).sec = s.sec := rfl
/-! ### dev -/
@[simp] theorem Eff.dev_pending (a : Nat) (bs : Bytes) (s : State) : ((Eff.dev a bs).apply s).pending = s.pending := rfl
@[simp] theorem Eff.dev_regs (a : Nat) (bs : Bytes) (s : State) : ((Eff.dev a bs).apply s).regs = s.regs := rfl
@[simp] theorem Eff.dev_prms (a : Nat) (bs : Bytes) (s : State) : ((Eff.dev a bs).apply s).prms = s.prms := rfl
@[simp] theorem Eff.dev_objs (a : Nat) (bs : Bytes) (s : State) : ((Eff.dev a bs).apply s).objs = s.objs := rfl
@[simp] theorem Eff.dev_devMem (a : Nat) (bs : Bytes) (s : State) : ((Eff.dev a bs).apply s).devMem = memWriteBytes s.devMem a bs := rfl
@[simp] theorem Eff.dev_hostMem (a : Nat) (bs : Bytes) (s : State) : ((Eff.dev a bs).apply s).hostMem = s.hostMem := rfl
@[simp] theorem Eff.dev_pageMem (a : Nat) (bs : Bytes) (s : State) : ((Eff.dev a bs).apply s).pageMem = s.pageMem := rfl
@[simp] theorem Eff.dev_poison (a : Nat) (bs : Bytes) (s : State) : ((Eff.dev a bs).apply s).poison = s.poison := rfl
@[simp] theorem Eff.dev_pairLatch (a : Nat) (bs : Bytes) (s : State) : ((Eff.dev a bs).apply s).pairLatch = s.pairLatch := rfl
@[simp] theorem Eff.dev_pairHeld (a : Nat) (bs : Bytes) (s : State) : ((Eff.dev a bs).apply s).pairHeld = s.pairHeld := rfl
@[simp] theorem Eff.dev_freeCtr (a : Nat) (bs : Bytes) (s : State) : ((Eff.dev a bs).apply s).freeCtr = s.freeCtr := rfl
@[simp] theorem Eff.dev_uptime (a : Nat) (bs : Bytes) (s : State) : ((Eff.dev a bs).apply s).uptime = s.uptime := rfl
@[simp] theorem Eff.dev_out (a : Nat) (bs : Bytes) (s : State) : ((Eff.dev a bs).apply s).out = s.out := rfl
@[simp] theorem Eff.dev_arm (a : Nat) (bs : Bytes) (s : State) : ((Eff.dev a bs).apply s).arm = s.arm := rfl
@[simp] theorem Eff.dev_thm (a : Nat) (bs : Bytes) (s : State) : ((Eff.dev a bs).apply s).thm = s.thm := rfl
@[simp] theorem Eff.dev_flt (a : Nat) (bs : Bytes) (s : State) : ((Eff.dev a bs).apply s).flt = s.flt := rfl
@[simp] theorem Eff.dev_lan (a : Nat) (bs : Bytes) (s : State) : ((Eff.dev a bs).apply s).lan = s.lan := rfl
@[simp] theorem Eff.dev_nvs (a : Nat) (bs : Bytes) (s : State) : ((Eff.dev a bs).apply s).nvs = s.nvs := rfl
@[simp] theorem Eff.dev_otp (a : Nat) (bs : Bytes) (s : State) : ((Eff.dev a bs).apply s).otp = s.otp := rfl
@[simp] theorem Eff.dev_pins (a : Nat) (bs : Bytes) (s : State) : ((Eff.dev a bs).apply s).pins = s.pins := rfl
@[simp] theorem Eff.dev_boot (a : Nat) (bs : Bytes) (s : State) : ((Eff.dev a bs).apply s).boot = s.boot := rfl
@[simp] theorem Eff.dev_cam (a : Nat) (bs : Bytes) (s : State) : ((Eff.dev a bs).apply s).cam = s.cam := rfl
@[simp] theorem Eff.dev_cast (a : Nat) (bs : Bytes) (s : State) : ((Eff.dev a bs).apply s).cast = s.cast := rfl
@[simp] theorem Eff.dev_str (a : Nat) (bs : Bytes) (s : State) : ((Eff.dev a bs).apply s).str = s.str := rfl
@[simp] theorem Eff.dev_wall (a : Nat) (bs : Bytes) (s : State) : ((Eff.dev a bs).apply s).wall = s.wall := rfl
@[simp] theorem Eff.dev_pat (a : Nat) (bs : Bytes) (s : State) : ((Eff.dev a bs).apply s).pat = s.pat := rfl
@[simp] theorem Eff.dev_lib (a : Nat) (bs : Bytes) (s : State) : ((Eff.dev a bs).apply s).lib = s.lib := rfl
@[simp] theorem Eff.dev_tlk (a : Nat) (bs : Bytes) (s : State) : ((Eff.dev a bs).apply s).tlk = s.tlk := rfl
@[simp] theorem Eff.dev_tim (a : Nat) (bs : Bytes) (s : State) : ((Eff.dev a bs).apply s).tim = s.tim := rfl
@[simp] theorem Eff.dev_aud (a : Nat) (bs : Bytes) (s : State) : ((Eff.dev a bs).apply s).aud = s.aud := rfl
@[simp] theorem Eff.dev_cst (a : Nat) (bs : Bytes) (s : State) : ((Eff.dev a bs).apply s).cst = s.cst := rfl
@[simp] theorem Eff.dev_mem (a : Nat) (bs : Bytes) (s : State) : ((Eff.dev a bs).apply s).mem = s.mem := rfl
@[simp] theorem Eff.dev_dma (a : Nat) (bs : Bytes) (s : State) : ((Eff.dev a bs).apply s).dma = s.dma := rfl
@[simp] theorem Eff.dev_sec (a : Nat) (bs : Bytes) (s : State) : ((Eff.dev a bs).apply s).sec = s.sec := rfl
/-! ### host -/
@[simp] theorem Eff.host_pending (a : Nat) (bs : Bytes) (s : State) : ((Eff.host a bs).apply s).pending = s.pending := rfl
@[simp] theorem Eff.host_regs (a : Nat) (bs : Bytes) (s : State) : ((Eff.host a bs).apply s).regs = s.regs := rfl
@[simp] theorem Eff.host_prms (a : Nat) (bs : Bytes) (s : State) : ((Eff.host a bs).apply s).prms = s.prms := rfl
@[simp] theorem Eff.host_objs (a : Nat) (bs : Bytes) (s : State) : ((Eff.host a bs).apply s).objs = s.objs := rfl
@[simp] theorem Eff.host_devMem (a : Nat) (bs : Bytes) (s : State) : ((Eff.host a bs).apply s).devMem = s.devMem := rfl
@[simp] theorem Eff.host_hostMem (a : Nat) (bs : Bytes) (s : State) : ((Eff.host a bs).apply s).hostMem = memWriteBytes s.hostMem a bs := rfl
@[simp] theorem Eff.host_pageMem (a : Nat) (bs : Bytes) (s : State) : ((Eff.host a bs).apply s).pageMem = s.pageMem := rfl
@[simp] theorem Eff.host_poison (a : Nat) (bs : Bytes) (s : State) : ((Eff.host a bs).apply s).poison = s.poison := rfl
@[simp] theorem Eff.host_pairLatch (a : Nat) (bs : Bytes) (s : State) : ((Eff.host a bs).apply s).pairLatch = s.pairLatch := rfl
@[simp] theorem Eff.host_pairHeld (a : Nat) (bs : Bytes) (s : State) : ((Eff.host a bs).apply s).pairHeld = s.pairHeld := rfl
@[simp] theorem Eff.host_freeCtr (a : Nat) (bs : Bytes) (s : State) : ((Eff.host a bs).apply s).freeCtr = s.freeCtr := rfl
@[simp] theorem Eff.host_uptime (a : Nat) (bs : Bytes) (s : State) : ((Eff.host a bs).apply s).uptime = s.uptime := rfl
@[simp] theorem Eff.host_out (a : Nat) (bs : Bytes) (s : State) : ((Eff.host a bs).apply s).out = s.out := rfl
@[simp] theorem Eff.host_arm (a : Nat) (bs : Bytes) (s : State) : ((Eff.host a bs).apply s).arm = s.arm := rfl
@[simp] theorem Eff.host_thm (a : Nat) (bs : Bytes) (s : State) : ((Eff.host a bs).apply s).thm = s.thm := rfl
@[simp] theorem Eff.host_flt (a : Nat) (bs : Bytes) (s : State) : ((Eff.host a bs).apply s).flt = s.flt := rfl
@[simp] theorem Eff.host_lan (a : Nat) (bs : Bytes) (s : State) : ((Eff.host a bs).apply s).lan = s.lan := rfl
@[simp] theorem Eff.host_nvs (a : Nat) (bs : Bytes) (s : State) : ((Eff.host a bs).apply s).nvs = s.nvs := rfl
@[simp] theorem Eff.host_otp (a : Nat) (bs : Bytes) (s : State) : ((Eff.host a bs).apply s).otp = s.otp := rfl
@[simp] theorem Eff.host_pins (a : Nat) (bs : Bytes) (s : State) : ((Eff.host a bs).apply s).pins = s.pins := rfl
@[simp] theorem Eff.host_boot (a : Nat) (bs : Bytes) (s : State) : ((Eff.host a bs).apply s).boot = s.boot := rfl
@[simp] theorem Eff.host_cam (a : Nat) (bs : Bytes) (s : State) : ((Eff.host a bs).apply s).cam = s.cam := rfl
@[simp] theorem Eff.host_cast (a : Nat) (bs : Bytes) (s : State) : ((Eff.host a bs).apply s).cast = s.cast := rfl
@[simp] theorem Eff.host_str (a : Nat) (bs : Bytes) (s : State) : ((Eff.host a bs).apply s).str = s.str := rfl
@[simp] theorem Eff.host_wall (a : Nat) (bs : Bytes) (s : State) : ((Eff.host a bs).apply s).wall = s.wall := rfl
@[simp] theorem Eff.host_pat (a : Nat) (bs : Bytes) (s : State) : ((Eff.host a bs).apply s).pat = s.pat := rfl
@[simp] theorem Eff.host_lib (a : Nat) (bs : Bytes) (s : State) : ((Eff.host a bs).apply s).lib = s.lib := rfl
@[simp] theorem Eff.host_tlk (a : Nat) (bs : Bytes) (s : State) : ((Eff.host a bs).apply s).tlk = s.tlk := rfl
@[simp] theorem Eff.host_tim (a : Nat) (bs : Bytes) (s : State) : ((Eff.host a bs).apply s).tim = s.tim := rfl
@[simp] theorem Eff.host_aud (a : Nat) (bs : Bytes) (s : State) : ((Eff.host a bs).apply s).aud = s.aud := rfl
@[simp] theorem Eff.host_cst (a : Nat) (bs : Bytes) (s : State) : ((Eff.host a bs).apply s).cst = s.cst := rfl
@[simp] theorem Eff.host_mem (a : Nat) (bs : Bytes) (s : State) : ((Eff.host a bs).apply s).mem = s.mem := rfl
@[simp] theorem Eff.host_dma (a : Nat) (bs : Bytes) (s : State) : ((Eff.host a bs).apply s).dma = s.dma := rfl
@[simp] theorem Eff.host_sec (a : Nat) (bs : Bytes) (s : State) : ((Eff.host a bs).apply s).sec = s.sec := rfl
/-! ### page -/
@[simp] theorem Eff.page_pending (a : Nat) (bs : Bytes) (s : State) : ((Eff.page a bs).apply s).pending = s.pending := rfl
@[simp] theorem Eff.page_regs (a : Nat) (bs : Bytes) (s : State) : ((Eff.page a bs).apply s).regs = s.regs := rfl
@[simp] theorem Eff.page_prms (a : Nat) (bs : Bytes) (s : State) : ((Eff.page a bs).apply s).prms = s.prms := rfl
@[simp] theorem Eff.page_objs (a : Nat) (bs : Bytes) (s : State) : ((Eff.page a bs).apply s).objs = s.objs := rfl
@[simp] theorem Eff.page_devMem (a : Nat) (bs : Bytes) (s : State) : ((Eff.page a bs).apply s).devMem = s.devMem := rfl
@[simp] theorem Eff.page_hostMem (a : Nat) (bs : Bytes) (s : State) : ((Eff.page a bs).apply s).hostMem = s.hostMem := rfl
@[simp] theorem Eff.page_pageMem (a : Nat) (bs : Bytes) (s : State) : ((Eff.page a bs).apply s).pageMem = memWriteBytes s.pageMem a bs := rfl
@[simp] theorem Eff.page_poison (a : Nat) (bs : Bytes) (s : State) : ((Eff.page a bs).apply s).poison = s.poison := rfl
@[simp] theorem Eff.page_pairLatch (a : Nat) (bs : Bytes) (s : State) : ((Eff.page a bs).apply s).pairLatch = s.pairLatch := rfl
@[simp] theorem Eff.page_pairHeld (a : Nat) (bs : Bytes) (s : State) : ((Eff.page a bs).apply s).pairHeld = s.pairHeld := rfl
@[simp] theorem Eff.page_freeCtr (a : Nat) (bs : Bytes) (s : State) : ((Eff.page a bs).apply s).freeCtr = s.freeCtr := rfl
@[simp] theorem Eff.page_uptime (a : Nat) (bs : Bytes) (s : State) : ((Eff.page a bs).apply s).uptime = s.uptime := rfl
@[simp] theorem Eff.page_out (a : Nat) (bs : Bytes) (s : State) : ((Eff.page a bs).apply s).out = s.out := rfl
@[simp] theorem Eff.page_arm (a : Nat) (bs : Bytes) (s : State) : ((Eff.page a bs).apply s).arm = s.arm := rfl
@[simp] theorem Eff.page_thm (a : Nat) (bs : Bytes) (s : State) : ((Eff.page a bs).apply s).thm = s.thm := rfl
@[simp] theorem Eff.page_flt (a : Nat) (bs : Bytes) (s : State) : ((Eff.page a bs).apply s).flt = s.flt := rfl
@[simp] theorem Eff.page_lan (a : Nat) (bs : Bytes) (s : State) : ((Eff.page a bs).apply s).lan = s.lan := rfl
@[simp] theorem Eff.page_nvs (a : Nat) (bs : Bytes) (s : State) : ((Eff.page a bs).apply s).nvs = s.nvs := rfl
@[simp] theorem Eff.page_otp (a : Nat) (bs : Bytes) (s : State) : ((Eff.page a bs).apply s).otp = s.otp := rfl
@[simp] theorem Eff.page_pins (a : Nat) (bs : Bytes) (s : State) : ((Eff.page a bs).apply s).pins = s.pins := rfl
@[simp] theorem Eff.page_boot (a : Nat) (bs : Bytes) (s : State) : ((Eff.page a bs).apply s).boot = s.boot := rfl
@[simp] theorem Eff.page_cam (a : Nat) (bs : Bytes) (s : State) : ((Eff.page a bs).apply s).cam = s.cam := rfl
@[simp] theorem Eff.page_cast (a : Nat) (bs : Bytes) (s : State) : ((Eff.page a bs).apply s).cast = s.cast := rfl
@[simp] theorem Eff.page_str (a : Nat) (bs : Bytes) (s : State) : ((Eff.page a bs).apply s).str = s.str := rfl
@[simp] theorem Eff.page_wall (a : Nat) (bs : Bytes) (s : State) : ((Eff.page a bs).apply s).wall = s.wall := rfl
@[simp] theorem Eff.page_pat (a : Nat) (bs : Bytes) (s : State) : ((Eff.page a bs).apply s).pat = s.pat := rfl
@[simp] theorem Eff.page_lib (a : Nat) (bs : Bytes) (s : State) : ((Eff.page a bs).apply s).lib = s.lib := rfl
@[simp] theorem Eff.page_tlk (a : Nat) (bs : Bytes) (s : State) : ((Eff.page a bs).apply s).tlk = s.tlk := rfl
@[simp] theorem Eff.page_tim (a : Nat) (bs : Bytes) (s : State) : ((Eff.page a bs).apply s).tim = s.tim := rfl
@[simp] theorem Eff.page_aud (a : Nat) (bs : Bytes) (s : State) : ((Eff.page a bs).apply s).aud = s.aud := rfl
@[simp] theorem Eff.page_cst (a : Nat) (bs : Bytes) (s : State) : ((Eff.page a bs).apply s).cst = s.cst := rfl
@[simp] theorem Eff.page_mem (a : Nat) (bs : Bytes) (s : State) : ((Eff.page a bs).apply s).mem = s.mem := rfl
@[simp] theorem Eff.page_dma (a : Nat) (bs : Bytes) (s : State) : ((Eff.page a bs).apply s).dma = s.dma := rfl
@[simp] theorem Eff.page_sec (a : Nat) (bs : Bytes) (s : State) : ((Eff.page a bs).apply s).sec = s.sec := rfl
/-! ### devClear -/
@[simp] theorem Eff.devClear_pending (a n : Nat) (s : State) : ((Eff.devClear a n).apply s).pending = s.pending := rfl
@[simp] theorem Eff.devClear_regs (a n : Nat) (s : State) : ((Eff.devClear a n).apply s).regs = s.regs := rfl
@[simp] theorem Eff.devClear_prms (a n : Nat) (s : State) : ((Eff.devClear a n).apply s).prms = s.prms := rfl
@[simp] theorem Eff.devClear_objs (a n : Nat) (s : State) : ((Eff.devClear a n).apply s).objs = s.objs := rfl
@[simp] theorem Eff.devClear_devMem (a n : Nat) (s : State) :
    ((Eff.devClear a n).apply s).devMem = s.devMem.filter (fun c => decide (c.1 < a) || decide (a + n ≤ c.1)) := rfl
@[simp] theorem Eff.devClear_hostMem (a n : Nat) (s : State) : ((Eff.devClear a n).apply s).hostMem = s.hostMem := rfl
@[simp] theorem Eff.devClear_pageMem (a n : Nat) (s : State) : ((Eff.devClear a n).apply s).pageMem = s.pageMem := rfl
@[simp] theorem Eff.devClear_poison (a n : Nat) (s : State) :
    ((Eff.devClear a n).apply s).poison = s.poison.filter (fun l _ => decide (l * 64 < a) || decide (a + n ≤ l * 64)) := rfl
@[simp] theorem Eff.devClear_pairLatch (a n : Nat) (s : State) : ((Eff.devClear a n).apply s).pairLatch = s.pairLatch := rfl
@[simp] theorem Eff.devClear_pairHeld (a n : Nat) (s : State) : ((Eff.devClear a n).apply s).pairHeld = s.pairHeld := rfl
@[simp] theorem Eff.devClear_freeCtr (a n : Nat) (s : State) : ((Eff.devClear a n).apply s).freeCtr = s.freeCtr := rfl
@[simp] theorem Eff.devClear_uptime (a n : Nat) (s : State) : ((Eff.devClear a n).apply s).uptime = s.uptime := rfl
@[simp] theorem Eff.devClear_out (a n : Nat) (s : State) : ((Eff.devClear a n).apply s).out = s.out := rfl
@[simp] theorem Eff.devClear_arm (a n : Nat) (s : State) : ((Eff.devClear a n).apply s).arm = s.arm := rfl
@[simp] theorem Eff.devClear_thm (a n : Nat) (s : State) : ((Eff.devClear a n).apply s).thm = s.thm := rfl
@[simp] theorem Eff.devClear_flt (a n : Nat) (s : State) : ((Eff.devClear a n).apply s).flt = s.flt := rfl
@[simp] theorem Eff.devClear_lan (a n : Nat) (s : State) : ((Eff.devClear a n).apply s).lan = s.lan := rfl
@[simp] theorem Eff.devClear_nvs (a n : Nat) (s : State) : ((Eff.devClear a n).apply s).nvs = s.nvs := rfl
@[simp] theorem Eff.devClear_otp (a n : Nat) (s : State) : ((Eff.devClear a n).apply s).otp = s.otp := rfl
@[simp] theorem Eff.devClear_pins (a n : Nat) (s : State) : ((Eff.devClear a n).apply s).pins = s.pins := rfl
@[simp] theorem Eff.devClear_boot (a n : Nat) (s : State) : ((Eff.devClear a n).apply s).boot = s.boot := rfl
@[simp] theorem Eff.devClear_cam (a n : Nat) (s : State) : ((Eff.devClear a n).apply s).cam = s.cam := rfl
@[simp] theorem Eff.devClear_cast (a n : Nat) (s : State) : ((Eff.devClear a n).apply s).cast = s.cast := rfl
@[simp] theorem Eff.devClear_str (a n : Nat) (s : State) : ((Eff.devClear a n).apply s).str = s.str := rfl
@[simp] theorem Eff.devClear_wall (a n : Nat) (s : State) : ((Eff.devClear a n).apply s).wall = s.wall := rfl
@[simp] theorem Eff.devClear_pat (a n : Nat) (s : State) : ((Eff.devClear a n).apply s).pat = s.pat := rfl
@[simp] theorem Eff.devClear_lib (a n : Nat) (s : State) : ((Eff.devClear a n).apply s).lib = s.lib := rfl
@[simp] theorem Eff.devClear_tlk (a n : Nat) (s : State) : ((Eff.devClear a n).apply s).tlk = s.tlk := rfl
@[simp] theorem Eff.devClear_tim (a n : Nat) (s : State) : ((Eff.devClear a n).apply s).tim = s.tim := rfl
@[simp] theorem Eff.devClear_aud (a n : Nat) (s : State) : ((Eff.devClear a n).apply s).aud = s.aud := rfl
@[simp] theorem Eff.devClear_cst (a n : Nat) (s : State) : ((Eff.devClear a n).apply s).cst = s.cst := rfl
@[simp] theorem Eff.devClear_mem (a n : Nat) (s : State) : ((Eff.devClear a n).apply s).mem = s.mem := rfl
@[simp] theorem Eff.devClear_dma (a n : Nat) (s : State) : ((Eff.devClear a n).apply s).dma = s.dma := rfl
@[simp] theorem Eff.devClear_sec (a n : Nat) (s : State) : ((Eff.devClear a n).apply s).sec = s.sec := rfl
/-! ### poison -/
@[simp] theorem Eff.poison_pending (l : Nat) (p : Bool) (s : State) : ((Eff.poison l p).apply s).pending = s.pending := rfl
@[simp] theorem Eff.poison_regs (l : Nat) (p : Bool) (s : State) : ((Eff.poison l p).apply s).regs = s.regs := rfl
@[simp] theorem Eff.poison_prms (l : Nat) (p : Bool) (s : State) : ((Eff.poison l p).apply s).prms = s.prms := rfl
@[simp] theorem Eff.poison_objs (l : Nat) (p : Bool) (s : State) : ((Eff.poison l p).apply s).objs = s.objs := rfl
@[simp] theorem Eff.poison_devMem (l : Nat) (p : Bool) (s : State) : ((Eff.poison l p).apply s).devMem = s.devMem := rfl
@[simp] theorem Eff.poison_hostMem (l : Nat) (p : Bool) (s : State) : ((Eff.poison l p).apply s).hostMem = s.hostMem := rfl
@[simp] theorem Eff.poison_pageMem (l : Nat) (p : Bool) (s : State) : ((Eff.poison l p).apply s).pageMem = s.pageMem := rfl
@[simp] theorem Eff.poison_poison (l : Nat) (p : Bool) (s : State) :
    ((Eff.poison l p).apply s).poison = (if p then s.poison.put l true else s.poison.del l) := rfl
@[simp] theorem Eff.poison_pairLatch (l : Nat) (p : Bool) (s : State) : ((Eff.poison l p).apply s).pairLatch = s.pairLatch := rfl
@[simp] theorem Eff.poison_pairHeld (l : Nat) (p : Bool) (s : State) : ((Eff.poison l p).apply s).pairHeld = s.pairHeld := rfl
@[simp] theorem Eff.poison_freeCtr (l : Nat) (p : Bool) (s : State) : ((Eff.poison l p).apply s).freeCtr = s.freeCtr := rfl
@[simp] theorem Eff.poison_uptime (l : Nat) (p : Bool) (s : State) : ((Eff.poison l p).apply s).uptime = s.uptime := rfl
@[simp] theorem Eff.poison_out (l : Nat) (p : Bool) (s : State) : ((Eff.poison l p).apply s).out = s.out := rfl
@[simp] theorem Eff.poison_arm (l : Nat) (p : Bool) (s : State) : ((Eff.poison l p).apply s).arm = s.arm := rfl
@[simp] theorem Eff.poison_thm (l : Nat) (p : Bool) (s : State) : ((Eff.poison l p).apply s).thm = s.thm := rfl
@[simp] theorem Eff.poison_flt (l : Nat) (p : Bool) (s : State) : ((Eff.poison l p).apply s).flt = s.flt := rfl
@[simp] theorem Eff.poison_lan (l : Nat) (p : Bool) (s : State) : ((Eff.poison l p).apply s).lan = s.lan := rfl
@[simp] theorem Eff.poison_nvs (l : Nat) (p : Bool) (s : State) : ((Eff.poison l p).apply s).nvs = s.nvs := rfl
@[simp] theorem Eff.poison_otp (l : Nat) (p : Bool) (s : State) : ((Eff.poison l p).apply s).otp = s.otp := rfl
@[simp] theorem Eff.poison_pins (l : Nat) (p : Bool) (s : State) : ((Eff.poison l p).apply s).pins = s.pins := rfl
@[simp] theorem Eff.poison_boot (l : Nat) (p : Bool) (s : State) : ((Eff.poison l p).apply s).boot = s.boot := rfl
@[simp] theorem Eff.poison_cam (l : Nat) (p : Bool) (s : State) : ((Eff.poison l p).apply s).cam = s.cam := rfl
@[simp] theorem Eff.poison_cast (l : Nat) (p : Bool) (s : State) : ((Eff.poison l p).apply s).cast = s.cast := rfl
@[simp] theorem Eff.poison_str (l : Nat) (p : Bool) (s : State) : ((Eff.poison l p).apply s).str = s.str := rfl
@[simp] theorem Eff.poison_wall (l : Nat) (p : Bool) (s : State) : ((Eff.poison l p).apply s).wall = s.wall := rfl
@[simp] theorem Eff.poison_pat (l : Nat) (p : Bool) (s : State) : ((Eff.poison l p).apply s).pat = s.pat := rfl
@[simp] theorem Eff.poison_lib (l : Nat) (p : Bool) (s : State) : ((Eff.poison l p).apply s).lib = s.lib := rfl
@[simp] theorem Eff.poison_tlk (l : Nat) (p : Bool) (s : State) : ((Eff.poison l p).apply s).tlk = s.tlk := rfl
@[simp] theorem Eff.poison_tim (l : Nat) (p : Bool) (s : State) : ((Eff.poison l p).apply s).tim = s.tim := rfl
@[simp] theorem Eff.poison_aud (l : Nat) (p : Bool) (s : State) : ((Eff.poison l p).apply s).aud = s.aud := rfl
@[simp] theorem Eff.poison_cst (l : Nat) (p : Bool) (s : State) : ((Eff.poison l p).apply s).cst = s.cst := rfl
@[simp] theorem Eff.poison_mem (l : Nat) (p : Bool) (s : State) : ((Eff.poison l p).apply s).mem = s.mem := rfl
@[simp] theorem Eff.poison_dma (l : Nat) (p : Bool) (s : State) : ((Eff.poison l p).apply s).dma = s.dma := rfl
@[simp] theorem Eff.poison_sec (l : Nat) (p : Bool) (s : State) : ((Eff.poison l p).apply s).sec = s.sec := rfl
/-! ### latch -/
@[simp] theorem Eff.latch_pending (k : Nat) (v : Word) (s : State) : ((Eff.latch k v).apply s).pending = s.pending := rfl
@[simp] theorem Eff.latch_regs (k : Nat) (v : Word) (s : State) : ((Eff.latch k v).apply s).regs = s.regs := rfl
@[simp] theorem Eff.latch_prms (k : Nat) (v : Word) (s : State) : ((Eff.latch k v).apply s).prms = s.prms := rfl
@[simp] theorem Eff.latch_objs (k : Nat) (v : Word) (s : State) : ((Eff.latch k v).apply s).objs = s.objs := rfl
@[simp] theorem Eff.latch_devMem (k : Nat) (v : Word) (s : State) : ((Eff.latch k v).apply s).devMem = s.devMem := rfl
@[simp] theorem Eff.latch_hostMem (k : Nat) (v : Word) (s : State) : ((Eff.latch k v).apply s).hostMem = s.hostMem := rfl
@[simp] theorem Eff.latch_pageMem (k : Nat) (v : Word) (s : State) : ((Eff.latch k v).apply s).pageMem = s.pageMem := rfl
@[simp] theorem Eff.latch_poison (k : Nat) (v : Word) (s : State) : ((Eff.latch k v).apply s).poison = s.poison := rfl
@[simp] theorem Eff.latch_pairLatch (k : Nat) (v : Word) (s : State) : ((Eff.latch k v).apply s).pairLatch = s.pairLatch.put k v := rfl
@[simp] theorem Eff.latch_pairHeld (k : Nat) (v : Word) (s : State) : ((Eff.latch k v).apply s).pairHeld = s.pairHeld := rfl
@[simp] theorem Eff.latch_freeCtr (k : Nat) (v : Word) (s : State) : ((Eff.latch k v).apply s).freeCtr = s.freeCtr := rfl
@[simp] theorem Eff.latch_uptime (k : Nat) (v : Word) (s : State) : ((Eff.latch k v).apply s).uptime = s.uptime := rfl
@[simp] theorem Eff.latch_out (k : Nat) (v : Word) (s : State) : ((Eff.latch k v).apply s).out = s.out := rfl
@[simp] theorem Eff.latch_arm (k : Nat) (v : Word) (s : State) : ((Eff.latch k v).apply s).arm = s.arm := rfl
@[simp] theorem Eff.latch_thm (k : Nat) (v : Word) (s : State) : ((Eff.latch k v).apply s).thm = s.thm := rfl
@[simp] theorem Eff.latch_flt (k : Nat) (v : Word) (s : State) : ((Eff.latch k v).apply s).flt = s.flt := rfl
@[simp] theorem Eff.latch_lan (k : Nat) (v : Word) (s : State) : ((Eff.latch k v).apply s).lan = s.lan := rfl
@[simp] theorem Eff.latch_nvs (k : Nat) (v : Word) (s : State) : ((Eff.latch k v).apply s).nvs = s.nvs := rfl
@[simp] theorem Eff.latch_otp (k : Nat) (v : Word) (s : State) : ((Eff.latch k v).apply s).otp = s.otp := rfl
@[simp] theorem Eff.latch_pins (k : Nat) (v : Word) (s : State) : ((Eff.latch k v).apply s).pins = s.pins := rfl
@[simp] theorem Eff.latch_boot (k : Nat) (v : Word) (s : State) : ((Eff.latch k v).apply s).boot = s.boot := rfl
@[simp] theorem Eff.latch_cam (k : Nat) (v : Word) (s : State) : ((Eff.latch k v).apply s).cam = s.cam := rfl
@[simp] theorem Eff.latch_cast (k : Nat) (v : Word) (s : State) : ((Eff.latch k v).apply s).cast = s.cast := rfl
@[simp] theorem Eff.latch_str (k : Nat) (v : Word) (s : State) : ((Eff.latch k v).apply s).str = s.str := rfl
@[simp] theorem Eff.latch_wall (k : Nat) (v : Word) (s : State) : ((Eff.latch k v).apply s).wall = s.wall := rfl
@[simp] theorem Eff.latch_pat (k : Nat) (v : Word) (s : State) : ((Eff.latch k v).apply s).pat = s.pat := rfl
@[simp] theorem Eff.latch_lib (k : Nat) (v : Word) (s : State) : ((Eff.latch k v).apply s).lib = s.lib := rfl
@[simp] theorem Eff.latch_tlk (k : Nat) (v : Word) (s : State) : ((Eff.latch k v).apply s).tlk = s.tlk := rfl
@[simp] theorem Eff.latch_tim (k : Nat) (v : Word) (s : State) : ((Eff.latch k v).apply s).tim = s.tim := rfl
@[simp] theorem Eff.latch_aud (k : Nat) (v : Word) (s : State) : ((Eff.latch k v).apply s).aud = s.aud := rfl
@[simp] theorem Eff.latch_cst (k : Nat) (v : Word) (s : State) : ((Eff.latch k v).apply s).cst = s.cst := rfl
@[simp] theorem Eff.latch_mem (k : Nat) (v : Word) (s : State) : ((Eff.latch k v).apply s).mem = s.mem := rfl
@[simp] theorem Eff.latch_dma (k : Nat) (v : Word) (s : State) : ((Eff.latch k v).apply s).dma = s.dma := rfl
@[simp] theorem Eff.latch_sec (k : Nat) (v : Word) (s : State) : ((Eff.latch k v).apply s).sec = s.sec := rfl
/-! ### held -/
@[simp] theorem Eff.held_pending (k : Nat) (v : Word) (s : State) : ((Eff.held k v).apply s).pending = s.pending := rfl
@[simp] theorem Eff.held_regs (k : Nat) (v : Word) (s : State) : ((Eff.held k v).apply s).regs = s.regs := rfl
@[simp] theorem Eff.held_prms (k : Nat) (v : Word) (s : State) : ((Eff.held k v).apply s).prms = s.prms := rfl
@[simp] theorem Eff.held_objs (k : Nat) (v : Word) (s : State) : ((Eff.held k v).apply s).objs = s.objs := rfl
@[simp] theorem Eff.held_devMem (k : Nat) (v : Word) (s : State) : ((Eff.held k v).apply s).devMem = s.devMem := rfl
@[simp] theorem Eff.held_hostMem (k : Nat) (v : Word) (s : State) : ((Eff.held k v).apply s).hostMem = s.hostMem := rfl
@[simp] theorem Eff.held_pageMem (k : Nat) (v : Word) (s : State) : ((Eff.held k v).apply s).pageMem = s.pageMem := rfl
@[simp] theorem Eff.held_poison (k : Nat) (v : Word) (s : State) : ((Eff.held k v).apply s).poison = s.poison := rfl
@[simp] theorem Eff.held_pairLatch (k : Nat) (v : Word) (s : State) : ((Eff.held k v).apply s).pairLatch = s.pairLatch := rfl
@[simp] theorem Eff.held_pairHeld (k : Nat) (v : Word) (s : State) : ((Eff.held k v).apply s).pairHeld = s.pairHeld.putOpt k v := rfl
@[simp] theorem Eff.held_freeCtr (k : Nat) (v : Word) (s : State) : ((Eff.held k v).apply s).freeCtr = s.freeCtr := rfl
@[simp] theorem Eff.held_uptime (k : Nat) (v : Word) (s : State) : ((Eff.held k v).apply s).uptime = s.uptime := rfl
@[simp] theorem Eff.held_out (k : Nat) (v : Word) (s : State) : ((Eff.held k v).apply s).out = s.out := rfl
@[simp] theorem Eff.held_arm (k : Nat) (v : Word) (s : State) : ((Eff.held k v).apply s).arm = s.arm := rfl
@[simp] theorem Eff.held_thm (k : Nat) (v : Word) (s : State) : ((Eff.held k v).apply s).thm = s.thm := rfl
@[simp] theorem Eff.held_flt (k : Nat) (v : Word) (s : State) : ((Eff.held k v).apply s).flt = s.flt := rfl
@[simp] theorem Eff.held_lan (k : Nat) (v : Word) (s : State) : ((Eff.held k v).apply s).lan = s.lan := rfl
@[simp] theorem Eff.held_nvs (k : Nat) (v : Word) (s : State) : ((Eff.held k v).apply s).nvs = s.nvs := rfl
@[simp] theorem Eff.held_otp (k : Nat) (v : Word) (s : State) : ((Eff.held k v).apply s).otp = s.otp := rfl
@[simp] theorem Eff.held_pins (k : Nat) (v : Word) (s : State) : ((Eff.held k v).apply s).pins = s.pins := rfl
@[simp] theorem Eff.held_boot (k : Nat) (v : Word) (s : State) : ((Eff.held k v).apply s).boot = s.boot := rfl
@[simp] theorem Eff.held_cam (k : Nat) (v : Word) (s : State) : ((Eff.held k v).apply s).cam = s.cam := rfl
@[simp] theorem Eff.held_cast (k : Nat) (v : Word) (s : State) : ((Eff.held k v).apply s).cast = s.cast := rfl
@[simp] theorem Eff.held_str (k : Nat) (v : Word) (s : State) : ((Eff.held k v).apply s).str = s.str := rfl
@[simp] theorem Eff.held_wall (k : Nat) (v : Word) (s : State) : ((Eff.held k v).apply s).wall = s.wall := rfl
@[simp] theorem Eff.held_pat (k : Nat) (v : Word) (s : State) : ((Eff.held k v).apply s).pat = s.pat := rfl
@[simp] theorem Eff.held_lib (k : Nat) (v : Word) (s : State) : ((Eff.held k v).apply s).lib = s.lib := rfl
@[simp] theorem Eff.held_tlk (k : Nat) (v : Word) (s : State) : ((Eff.held k v).apply s).tlk = s.tlk := rfl
@[simp] theorem Eff.held_tim (k : Nat) (v : Word) (s : State) : ((Eff.held k v).apply s).tim = s.tim := rfl
@[simp] theorem Eff.held_aud (k : Nat) (v : Word) (s : State) : ((Eff.held k v).apply s).aud = s.aud := rfl
@[simp] theorem Eff.held_cst (k : Nat) (v : Word) (s : State) : ((Eff.held k v).apply s).cst = s.cst := rfl
@[simp] theorem Eff.held_mem (k : Nat) (v : Word) (s : State) : ((Eff.held k v).apply s).mem = s.mem := rfl
@[simp] theorem Eff.held_dma (k : Nat) (v : Word) (s : State) : ((Eff.held k v).apply s).dma = s.dma := rfl
@[simp] theorem Eff.held_sec (k : Nat) (v : Word) (s : State) : ((Eff.held k v).apply s).sec = s.sec := rfl
/-! ### draw -/
@[simp] theorem Eff.draw_pending (s : State) : ((Eff.draw).apply s).pending = s.pending := rfl
@[simp] theorem Eff.draw_regs (s : State) : ((Eff.draw).apply s).regs = s.regs := rfl
@[simp] theorem Eff.draw_prms (s : State) : ((Eff.draw).apply s).prms = s.prms := rfl
@[simp] theorem Eff.draw_objs (s : State) : ((Eff.draw).apply s).objs = s.objs := rfl
@[simp] theorem Eff.draw_devMem (s : State) : ((Eff.draw).apply s).devMem = s.devMem := rfl
@[simp] theorem Eff.draw_hostMem (s : State) : ((Eff.draw).apply s).hostMem = s.hostMem := rfl
@[simp] theorem Eff.draw_pageMem (s : State) : ((Eff.draw).apply s).pageMem = s.pageMem := rfl
@[simp] theorem Eff.draw_poison (s : State) : ((Eff.draw).apply s).poison = s.poison := rfl
@[simp] theorem Eff.draw_pairLatch (s : State) : ((Eff.draw).apply s).pairLatch = s.pairLatch := rfl
@[simp] theorem Eff.draw_pairHeld (s : State) : ((Eff.draw).apply s).pairHeld = s.pairHeld := rfl
@[simp] theorem Eff.draw_freeCtr (s : State) : ((Eff.draw).apply s).freeCtr = s.freeCtr + 1 := rfl
@[simp] theorem Eff.draw_uptime (s : State) : ((Eff.draw).apply s).uptime = s.uptime := rfl
@[simp] theorem Eff.draw_out (s : State) : ((Eff.draw).apply s).out = s.out := rfl
@[simp] theorem Eff.draw_arm (s : State) : ((Eff.draw).apply s).arm = s.arm := rfl
@[simp] theorem Eff.draw_thm (s : State) : ((Eff.draw).apply s).thm = s.thm := rfl
@[simp] theorem Eff.draw_flt (s : State) : ((Eff.draw).apply s).flt = s.flt := rfl
@[simp] theorem Eff.draw_lan (s : State) : ((Eff.draw).apply s).lan = s.lan := rfl
@[simp] theorem Eff.draw_nvs (s : State) : ((Eff.draw).apply s).nvs = s.nvs := rfl
@[simp] theorem Eff.draw_otp (s : State) : ((Eff.draw).apply s).otp = s.otp := rfl
@[simp] theorem Eff.draw_pins (s : State) : ((Eff.draw).apply s).pins = s.pins := rfl
@[simp] theorem Eff.draw_boot (s : State) : ((Eff.draw).apply s).boot = s.boot := rfl
@[simp] theorem Eff.draw_cam (s : State) : ((Eff.draw).apply s).cam = s.cam := rfl
@[simp] theorem Eff.draw_cast (s : State) : ((Eff.draw).apply s).cast = s.cast := rfl
@[simp] theorem Eff.draw_str (s : State) : ((Eff.draw).apply s).str = s.str := rfl
@[simp] theorem Eff.draw_wall (s : State) : ((Eff.draw).apply s).wall = s.wall := rfl
@[simp] theorem Eff.draw_pat (s : State) : ((Eff.draw).apply s).pat = s.pat := rfl
@[simp] theorem Eff.draw_lib (s : State) : ((Eff.draw).apply s).lib = s.lib := rfl
@[simp] theorem Eff.draw_tlk (s : State) : ((Eff.draw).apply s).tlk = s.tlk := rfl
@[simp] theorem Eff.draw_tim (s : State) : ((Eff.draw).apply s).tim = s.tim := rfl
@[simp] theorem Eff.draw_aud (s : State) : ((Eff.draw).apply s).aud = s.aud := rfl
@[simp] theorem Eff.draw_cst (s : State) : ((Eff.draw).apply s).cst = s.cst := rfl
@[simp] theorem Eff.draw_mem (s : State) : ((Eff.draw).apply s).mem = s.mem := rfl
@[simp] theorem Eff.draw_dma (s : State) : ((Eff.draw).apply s).dma = s.dma := rfl
@[simp] theorem Eff.draw_sec (s : State) : ((Eff.draw).apply s).sec = s.sec := rfl
/-! ### tick -/
@[simp] theorem Eff.tick_pending (s : State) : ((Eff.tick).apply s).pending = s.pending := rfl
@[simp] theorem Eff.tick_regs (s : State) : ((Eff.tick).apply s).regs = s.regs := rfl
@[simp] theorem Eff.tick_prms (s : State) : ((Eff.tick).apply s).prms = s.prms := rfl
@[simp] theorem Eff.tick_objs (s : State) : ((Eff.tick).apply s).objs = s.objs := rfl
@[simp] theorem Eff.tick_devMem (s : State) : ((Eff.tick).apply s).devMem = s.devMem := rfl
@[simp] theorem Eff.tick_hostMem (s : State) : ((Eff.tick).apply s).hostMem = s.hostMem := rfl
@[simp] theorem Eff.tick_pageMem (s : State) : ((Eff.tick).apply s).pageMem = s.pageMem := rfl
@[simp] theorem Eff.tick_poison (s : State) : ((Eff.tick).apply s).poison = s.poison := rfl
@[simp] theorem Eff.tick_pairLatch (s : State) : ((Eff.tick).apply s).pairLatch = s.pairLatch := rfl
@[simp] theorem Eff.tick_pairHeld (s : State) : ((Eff.tick).apply s).pairHeld = s.pairHeld := rfl
@[simp] theorem Eff.tick_freeCtr (s : State) : ((Eff.tick).apply s).freeCtr = s.freeCtr := rfl
@[simp] theorem Eff.tick_uptime (s : State) : ((Eff.tick).apply s).uptime = s.uptime + 1 := rfl
@[simp] theorem Eff.tick_out (s : State) : ((Eff.tick).apply s).out = s.out := rfl
@[simp] theorem Eff.tick_arm (s : State) : ((Eff.tick).apply s).arm = s.arm := rfl
@[simp] theorem Eff.tick_thm (s : State) : ((Eff.tick).apply s).thm = s.thm := rfl
@[simp] theorem Eff.tick_flt (s : State) : ((Eff.tick).apply s).flt = s.flt := rfl
@[simp] theorem Eff.tick_lan (s : State) : ((Eff.tick).apply s).lan = s.lan := rfl
@[simp] theorem Eff.tick_nvs (s : State) : ((Eff.tick).apply s).nvs = s.nvs := rfl
@[simp] theorem Eff.tick_otp (s : State) : ((Eff.tick).apply s).otp = s.otp := rfl
@[simp] theorem Eff.tick_pins (s : State) : ((Eff.tick).apply s).pins = s.pins := rfl
@[simp] theorem Eff.tick_boot (s : State) : ((Eff.tick).apply s).boot = s.boot := rfl
@[simp] theorem Eff.tick_cam (s : State) : ((Eff.tick).apply s).cam = s.cam := rfl
@[simp] theorem Eff.tick_cast (s : State) : ((Eff.tick).apply s).cast = s.cast := rfl
@[simp] theorem Eff.tick_str (s : State) : ((Eff.tick).apply s).str = s.str := rfl
@[simp] theorem Eff.tick_wall (s : State) : ((Eff.tick).apply s).wall = s.wall := rfl
@[simp] theorem Eff.tick_pat (s : State) : ((Eff.tick).apply s).pat = s.pat := rfl
@[simp] theorem Eff.tick_lib (s : State) : ((Eff.tick).apply s).lib = s.lib := rfl
@[simp] theorem Eff.tick_tlk (s : State) : ((Eff.tick).apply s).tlk = s.tlk := rfl
@[simp] theorem Eff.tick_tim (s : State) : ((Eff.tick).apply s).tim = s.tim := rfl
@[simp] theorem Eff.tick_aud (s : State) : ((Eff.tick).apply s).aud = s.aud := rfl
@[simp] theorem Eff.tick_cst (s : State) : ((Eff.tick).apply s).cst = s.cst := rfl
@[simp] theorem Eff.tick_mem (s : State) : ((Eff.tick).apply s).mem = s.mem := rfl
@[simp] theorem Eff.tick_dma (s : State) : ((Eff.tick).apply s).dma = s.dma := rfl
@[simp] theorem Eff.tick_sec (s : State) : ((Eff.tick).apply s).sec = s.sec := rfl
/-! ### arm -/
@[simp] theorem Eff.arm_pending (g : Arm → Arm) (s : State) : ((Eff.arm g).apply s).pending = s.pending := rfl
@[simp] theorem Eff.arm_regs (g : Arm → Arm) (s : State) : ((Eff.arm g).apply s).regs = s.regs := rfl
@[simp] theorem Eff.arm_prms (g : Arm → Arm) (s : State) : ((Eff.arm g).apply s).prms = s.prms := rfl
@[simp] theorem Eff.arm_objs (g : Arm → Arm) (s : State) : ((Eff.arm g).apply s).objs = s.objs := rfl
@[simp] theorem Eff.arm_devMem (g : Arm → Arm) (s : State) : ((Eff.arm g).apply s).devMem = s.devMem := rfl
@[simp] theorem Eff.arm_hostMem (g : Arm → Arm) (s : State) : ((Eff.arm g).apply s).hostMem = s.hostMem := rfl
@[simp] theorem Eff.arm_pageMem (g : Arm → Arm) (s : State) : ((Eff.arm g).apply s).pageMem = s.pageMem := rfl
@[simp] theorem Eff.arm_poison (g : Arm → Arm) (s : State) : ((Eff.arm g).apply s).poison = s.poison := rfl
@[simp] theorem Eff.arm_pairLatch (g : Arm → Arm) (s : State) : ((Eff.arm g).apply s).pairLatch = s.pairLatch := rfl
@[simp] theorem Eff.arm_pairHeld (g : Arm → Arm) (s : State) : ((Eff.arm g).apply s).pairHeld = s.pairHeld := rfl
@[simp] theorem Eff.arm_freeCtr (g : Arm → Arm) (s : State) : ((Eff.arm g).apply s).freeCtr = s.freeCtr := rfl
@[simp] theorem Eff.arm_uptime (g : Arm → Arm) (s : State) : ((Eff.arm g).apply s).uptime = s.uptime := rfl
@[simp] theorem Eff.arm_out (g : Arm → Arm) (s : State) : ((Eff.arm g).apply s).out = s.out := rfl
@[simp] theorem Eff.arm_arm (g : Arm → Arm) (s : State) : ((Eff.arm g).apply s).arm = g s.arm := rfl
@[simp] theorem Eff.arm_thm (g : Arm → Arm) (s : State) : ((Eff.arm g).apply s).thm = s.thm := rfl
@[simp] theorem Eff.arm_flt (g : Arm → Arm) (s : State) : ((Eff.arm g).apply s).flt = s.flt := rfl
@[simp] theorem Eff.arm_lan (g : Arm → Arm) (s : State) : ((Eff.arm g).apply s).lan = s.lan := rfl
@[simp] theorem Eff.arm_nvs (g : Arm → Arm) (s : State) : ((Eff.arm g).apply s).nvs = s.nvs := rfl
@[simp] theorem Eff.arm_otp (g : Arm → Arm) (s : State) : ((Eff.arm g).apply s).otp = s.otp := rfl
@[simp] theorem Eff.arm_pins (g : Arm → Arm) (s : State) : ((Eff.arm g).apply s).pins = s.pins := rfl
@[simp] theorem Eff.arm_boot (g : Arm → Arm) (s : State) : ((Eff.arm g).apply s).boot = s.boot := rfl
@[simp] theorem Eff.arm_cam (g : Arm → Arm) (s : State) : ((Eff.arm g).apply s).cam = s.cam := rfl
@[simp] theorem Eff.arm_cast (g : Arm → Arm) (s : State) : ((Eff.arm g).apply s).cast = s.cast := rfl
@[simp] theorem Eff.arm_str (g : Arm → Arm) (s : State) : ((Eff.arm g).apply s).str = s.str := rfl
@[simp] theorem Eff.arm_wall (g : Arm → Arm) (s : State) : ((Eff.arm g).apply s).wall = s.wall := rfl
@[simp] theorem Eff.arm_pat (g : Arm → Arm) (s : State) : ((Eff.arm g).apply s).pat = s.pat := rfl
@[simp] theorem Eff.arm_lib (g : Arm → Arm) (s : State) : ((Eff.arm g).apply s).lib = s.lib := rfl
@[simp] theorem Eff.arm_tlk (g : Arm → Arm) (s : State) : ((Eff.arm g).apply s).tlk = s.tlk := rfl
@[simp] theorem Eff.arm_tim (g : Arm → Arm) (s : State) : ((Eff.arm g).apply s).tim = s.tim := rfl
@[simp] theorem Eff.arm_aud (g : Arm → Arm) (s : State) : ((Eff.arm g).apply s).aud = s.aud := rfl
@[simp] theorem Eff.arm_cst (g : Arm → Arm) (s : State) : ((Eff.arm g).apply s).cst = s.cst := rfl
@[simp] theorem Eff.arm_mem (g : Arm → Arm) (s : State) : ((Eff.arm g).apply s).mem = s.mem := rfl
@[simp] theorem Eff.arm_dma (g : Arm → Arm) (s : State) : ((Eff.arm g).apply s).dma = s.dma := rfl
@[simp] theorem Eff.arm_sec (g : Arm → Arm) (s : State) : ((Eff.arm g).apply s).sec = s.sec := rfl
/-! ### thm -/
@[simp] theorem Eff.thm_pending (g : Thm → Thm) (s : State) : ((Eff.thm g).apply s).pending = s.pending := rfl
@[simp] theorem Eff.thm_regs (g : Thm → Thm) (s : State) : ((Eff.thm g).apply s).regs = s.regs := rfl
@[simp] theorem Eff.thm_prms (g : Thm → Thm) (s : State) : ((Eff.thm g).apply s).prms = s.prms := rfl
@[simp] theorem Eff.thm_objs (g : Thm → Thm) (s : State) : ((Eff.thm g).apply s).objs = s.objs := rfl
@[simp] theorem Eff.thm_devMem (g : Thm → Thm) (s : State) : ((Eff.thm g).apply s).devMem = s.devMem := rfl
@[simp] theorem Eff.thm_hostMem (g : Thm → Thm) (s : State) : ((Eff.thm g).apply s).hostMem = s.hostMem := rfl
@[simp] theorem Eff.thm_pageMem (g : Thm → Thm) (s : State) : ((Eff.thm g).apply s).pageMem = s.pageMem := rfl
@[simp] theorem Eff.thm_poison (g : Thm → Thm) (s : State) : ((Eff.thm g).apply s).poison = s.poison := rfl
@[simp] theorem Eff.thm_pairLatch (g : Thm → Thm) (s : State) : ((Eff.thm g).apply s).pairLatch = s.pairLatch := rfl
@[simp] theorem Eff.thm_pairHeld (g : Thm → Thm) (s : State) : ((Eff.thm g).apply s).pairHeld = s.pairHeld := rfl
@[simp] theorem Eff.thm_freeCtr (g : Thm → Thm) (s : State) : ((Eff.thm g).apply s).freeCtr = s.freeCtr := rfl
@[simp] theorem Eff.thm_uptime (g : Thm → Thm) (s : State) : ((Eff.thm g).apply s).uptime = s.uptime := rfl
@[simp] theorem Eff.thm_out (g : Thm → Thm) (s : State) : ((Eff.thm g).apply s).out = s.out := rfl
@[simp] theorem Eff.thm_arm (g : Thm → Thm) (s : State) : ((Eff.thm g).apply s).arm = s.arm := rfl
@[simp] theorem Eff.thm_thm (g : Thm → Thm) (s : State) : ((Eff.thm g).apply s).thm = g s.thm := rfl
@[simp] theorem Eff.thm_flt (g : Thm → Thm) (s : State) : ((Eff.thm g).apply s).flt = s.flt := rfl
@[simp] theorem Eff.thm_lan (g : Thm → Thm) (s : State) : ((Eff.thm g).apply s).lan = s.lan := rfl
@[simp] theorem Eff.thm_nvs (g : Thm → Thm) (s : State) : ((Eff.thm g).apply s).nvs = s.nvs := rfl
@[simp] theorem Eff.thm_otp (g : Thm → Thm) (s : State) : ((Eff.thm g).apply s).otp = s.otp := rfl
@[simp] theorem Eff.thm_pins (g : Thm → Thm) (s : State) : ((Eff.thm g).apply s).pins = s.pins := rfl
@[simp] theorem Eff.thm_boot (g : Thm → Thm) (s : State) : ((Eff.thm g).apply s).boot = s.boot := rfl
@[simp] theorem Eff.thm_cam (g : Thm → Thm) (s : State) : ((Eff.thm g).apply s).cam = s.cam := rfl
@[simp] theorem Eff.thm_cast (g : Thm → Thm) (s : State) : ((Eff.thm g).apply s).cast = s.cast := rfl
@[simp] theorem Eff.thm_str (g : Thm → Thm) (s : State) : ((Eff.thm g).apply s).str = s.str := rfl
@[simp] theorem Eff.thm_wall (g : Thm → Thm) (s : State) : ((Eff.thm g).apply s).wall = s.wall := rfl
@[simp] theorem Eff.thm_pat (g : Thm → Thm) (s : State) : ((Eff.thm g).apply s).pat = s.pat := rfl
@[simp] theorem Eff.thm_lib (g : Thm → Thm) (s : State) : ((Eff.thm g).apply s).lib = s.lib := rfl
@[simp] theorem Eff.thm_tlk (g : Thm → Thm) (s : State) : ((Eff.thm g).apply s).tlk = s.tlk := rfl
@[simp] theorem Eff.thm_tim (g : Thm → Thm) (s : State) : ((Eff.thm g).apply s).tim = s.tim := rfl
@[simp] theorem Eff.thm_aud (g : Thm → Thm) (s : State) : ((Eff.thm g).apply s).aud = s.aud := rfl
@[simp] theorem Eff.thm_cst (g : Thm → Thm) (s : State) : ((Eff.thm g).apply s).cst = s.cst := rfl
@[simp] theorem Eff.thm_mem (g : Thm → Thm) (s : State) : ((Eff.thm g).apply s).mem = s.mem := rfl
@[simp] theorem Eff.thm_dma (g : Thm → Thm) (s : State) : ((Eff.thm g).apply s).dma = s.dma := rfl
@[simp] theorem Eff.thm_sec (g : Thm → Thm) (s : State) : ((Eff.thm g).apply s).sec = s.sec := rfl
/-! ### flt -/
@[simp] theorem Eff.flt_pending (g : Flt → Flt) (s : State) : ((Eff.flt g).apply s).pending = s.pending := rfl
@[simp] theorem Eff.flt_regs (g : Flt → Flt) (s : State) : ((Eff.flt g).apply s).regs = s.regs := rfl
@[simp] theorem Eff.flt_prms (g : Flt → Flt) (s : State) : ((Eff.flt g).apply s).prms = s.prms := rfl
@[simp] theorem Eff.flt_objs (g : Flt → Flt) (s : State) : ((Eff.flt g).apply s).objs = s.objs := rfl
@[simp] theorem Eff.flt_devMem (g : Flt → Flt) (s : State) : ((Eff.flt g).apply s).devMem = s.devMem := rfl
@[simp] theorem Eff.flt_hostMem (g : Flt → Flt) (s : State) : ((Eff.flt g).apply s).hostMem = s.hostMem := rfl
@[simp] theorem Eff.flt_pageMem (g : Flt → Flt) (s : State) : ((Eff.flt g).apply s).pageMem = s.pageMem := rfl
@[simp] theorem Eff.flt_poison (g : Flt → Flt) (s : State) : ((Eff.flt g).apply s).poison = s.poison := rfl
@[simp] theorem Eff.flt_pairLatch (g : Flt → Flt) (s : State) : ((Eff.flt g).apply s).pairLatch = s.pairLatch := rfl
@[simp] theorem Eff.flt_pairHeld (g : Flt → Flt) (s : State) : ((Eff.flt g).apply s).pairHeld = s.pairHeld := rfl
@[simp] theorem Eff.flt_freeCtr (g : Flt → Flt) (s : State) : ((Eff.flt g).apply s).freeCtr = s.freeCtr := rfl
@[simp] theorem Eff.flt_uptime (g : Flt → Flt) (s : State) : ((Eff.flt g).apply s).uptime = s.uptime := rfl
@[simp] theorem Eff.flt_out (g : Flt → Flt) (s : State) : ((Eff.flt g).apply s).out = s.out := rfl
@[simp] theorem Eff.flt_arm (g : Flt → Flt) (s : State) : ((Eff.flt g).apply s).arm = s.arm := rfl
@[simp] theorem Eff.flt_thm (g : Flt → Flt) (s : State) : ((Eff.flt g).apply s).thm = s.thm := rfl
@[simp] theorem Eff.flt_flt (g : Flt → Flt) (s : State) : ((Eff.flt g).apply s).flt = g s.flt := rfl
@[simp] theorem Eff.flt_lan (g : Flt → Flt) (s : State) : ((Eff.flt g).apply s).lan = s.lan := rfl
@[simp] theorem Eff.flt_nvs (g : Flt → Flt) (s : State) : ((Eff.flt g).apply s).nvs = s.nvs := rfl
@[simp] theorem Eff.flt_otp (g : Flt → Flt) (s : State) : ((Eff.flt g).apply s).otp = s.otp := rfl
@[simp] theorem Eff.flt_pins (g : Flt → Flt) (s : State) : ((Eff.flt g).apply s).pins = s.pins := rfl
@[simp] theorem Eff.flt_boot (g : Flt → Flt) (s : State) : ((Eff.flt g).apply s).boot = s.boot := rfl
@[simp] theorem Eff.flt_cam (g : Flt → Flt) (s : State) : ((Eff.flt g).apply s).cam = s.cam := rfl
@[simp] theorem Eff.flt_cast (g : Flt → Flt) (s : State) : ((Eff.flt g).apply s).cast = s.cast := rfl
@[simp] theorem Eff.flt_str (g : Flt → Flt) (s : State) : ((Eff.flt g).apply s).str = s.str := rfl
@[simp] theorem Eff.flt_wall (g : Flt → Flt) (s : State) : ((Eff.flt g).apply s).wall = s.wall := rfl
@[simp] theorem Eff.flt_pat (g : Flt → Flt) (s : State) : ((Eff.flt g).apply s).pat = s.pat := rfl
@[simp] theorem Eff.flt_lib (g : Flt → Flt) (s : State) : ((Eff.flt g).apply s).lib = s.lib := rfl
@[simp] theorem Eff.flt_tlk (g : Flt → Flt) (s : State) : ((Eff.flt g).apply s).tlk = s.tlk := rfl
@[simp] theorem Eff.flt_tim (g : Flt → Flt) (s : State) : ((Eff.flt g).apply s).tim = s.tim := rfl
@[simp] theorem Eff.flt_aud (g : Flt → Flt) (s : State) : ((Eff.flt g).apply s).aud = s.aud := rfl
@[simp] theorem Eff.flt_cst (g : Flt → Flt) (s : State) : ((Eff.flt g).apply s).cst = s.cst := rfl
@[simp] theorem Eff.flt_mem (g : Flt → Flt) (s : State) : ((Eff.flt g).apply s).mem = s.mem := rfl
@[simp] theorem Eff.flt_dma (g : Flt → Flt) (s : State) : ((Eff.flt g).apply s).dma = s.dma := rfl
@[simp] theorem Eff.flt_sec (g : Flt → Flt) (s : State) : ((Eff.flt g).apply s).sec = s.sec := rfl
/-! ### lan -/
@[simp] theorem Eff.lan_pending (g : Lan → Lan) (s : State) : ((Eff.lan g).apply s).pending = s.pending := rfl
@[simp] theorem Eff.lan_regs (g : Lan → Lan) (s : State) : ((Eff.lan g).apply s).regs = s.regs := rfl
@[simp] theorem Eff.lan_prms (g : Lan → Lan) (s : State) : ((Eff.lan g).apply s).prms = s.prms := rfl
@[simp] theorem Eff.lan_objs (g : Lan → Lan) (s : State) : ((Eff.lan g).apply s).objs = s.objs := rfl
@[simp] theorem Eff.lan_devMem (g : Lan → Lan) (s : State) : ((Eff.lan g).apply s).devMem = s.devMem := rfl
@[simp] theorem Eff.lan_hostMem (g : Lan → Lan) (s : State) : ((Eff.lan g).apply s).hostMem = s.hostMem := rfl
@[simp] theorem Eff.lan_pageMem (g : Lan → Lan) (s : State) : ((Eff.lan g).apply s).pageMem = s.pageMem := rfl
@[simp] theorem Eff.lan_poison (g : Lan → Lan) (s : State) : ((Eff.lan g).apply s).poison = s.poison := rfl
@[simp] theorem Eff.lan_pairLatch (g : Lan → Lan) (s : State) : ((Eff.lan g).apply s).pairLatch = s.pairLatch := rfl
@[simp] theorem Eff.lan_pairHeld (g : Lan → Lan) (s : State) : ((Eff.lan g).apply s).pairHeld = s.pairHeld := rfl
@[simp] theorem Eff.lan_freeCtr (g : Lan → Lan) (s : State) : ((Eff.lan g).apply s).freeCtr = s.freeCtr := rfl
@[simp] theorem Eff.lan_uptime (g : Lan → Lan) (s : State) : ((Eff.lan g).apply s).uptime = s.uptime := rfl
@[simp] theorem Eff.lan_out (g : Lan → Lan) (s : State) : ((Eff.lan g).apply s).out = s.out := rfl
@[simp] theorem Eff.lan_arm (g : Lan → Lan) (s : State) : ((Eff.lan g).apply s).arm = s.arm := rfl
@[simp] theorem Eff.lan_thm (g : Lan → Lan) (s : State) : ((Eff.lan g).apply s).thm = s.thm := rfl
@[simp] theorem Eff.lan_flt (g : Lan → Lan) (s : State) : ((Eff.lan g).apply s).flt = s.flt := rfl
@[simp] theorem Eff.lan_lan (g : Lan → Lan) (s : State) : ((Eff.lan g).apply s).lan = g s.lan := rfl
@[simp] theorem Eff.lan_nvs (g : Lan → Lan) (s : State) : ((Eff.lan g).apply s).nvs = s.nvs := rfl
@[simp] theorem Eff.lan_otp (g : Lan → Lan) (s : State) : ((Eff.lan g).apply s).otp = s.otp := rfl
@[simp] theorem Eff.lan_pins (g : Lan → Lan) (s : State) : ((Eff.lan g).apply s).pins = s.pins := rfl
@[simp] theorem Eff.lan_boot (g : Lan → Lan) (s : State) : ((Eff.lan g).apply s).boot = s.boot := rfl
@[simp] theorem Eff.lan_cam (g : Lan → Lan) (s : State) : ((Eff.lan g).apply s).cam = s.cam := rfl
@[simp] theorem Eff.lan_cast (g : Lan → Lan) (s : State) : ((Eff.lan g).apply s).cast = s.cast := rfl
@[simp] theorem Eff.lan_str (g : Lan → Lan) (s : State) : ((Eff.lan g).apply s).str = s.str := rfl
@[simp] theorem Eff.lan_wall (g : Lan → Lan) (s : State) : ((Eff.lan g).apply s).wall = s.wall := rfl
@[simp] theorem Eff.lan_pat (g : Lan → Lan) (s : State) : ((Eff.lan g).apply s).pat = s.pat := rfl
@[simp] theorem Eff.lan_lib (g : Lan → Lan) (s : State) : ((Eff.lan g).apply s).lib = s.lib := rfl
@[simp] theorem Eff.lan_tlk (g : Lan → Lan) (s : State) : ((Eff.lan g).apply s).tlk = s.tlk := rfl
@[simp] theorem Eff.lan_tim (g : Lan → Lan) (s : State) : ((Eff.lan g).apply s).tim = s.tim := rfl
@[simp] theorem Eff.lan_aud (g : Lan → Lan) (s : State) : ((Eff.lan g).apply s).aud = s.aud := rfl
@[simp] theorem Eff.lan_cst (g : Lan → Lan) (s : State) : ((Eff.lan g).apply s).cst = s.cst := rfl
@[simp] theorem Eff.lan_mem (g : Lan → Lan) (s : State) : ((Eff.lan g).apply s).mem = s.mem := rfl
@[simp] theorem Eff.lan_dma (g : Lan → Lan) (s : State) : ((Eff.lan g).apply s).dma = s.dma := rfl
@[simp] theorem Eff.lan_sec (g : Lan → Lan) (s : State) : ((Eff.lan g).apply s).sec = s.sec := rfl
/-! ### nvs -/
@[simp] theorem Eff.nvs_pending (g : Nvs → Nvs) (s : State) : ((Eff.nvs g).apply s).pending = s.pending := rfl
@[simp] theorem Eff.nvs_regs (g : Nvs → Nvs) (s : State) : ((Eff.nvs g).apply s).regs = s.regs := rfl
@[simp] theorem Eff.nvs_prms (g : Nvs → Nvs) (s : State) : ((Eff.nvs g).apply s).prms = s.prms := rfl
@[simp] theorem Eff.nvs_objs (g : Nvs → Nvs) (s : State) : ((Eff.nvs g).apply s).objs = s.objs := rfl
@[simp] theorem Eff.nvs_devMem (g : Nvs → Nvs) (s : State) : ((Eff.nvs g).apply s).devMem = s.devMem := rfl
@[simp] theorem Eff.nvs_hostMem (g : Nvs → Nvs) (s : State) : ((Eff.nvs g).apply s).hostMem = s.hostMem := rfl
@[simp] theorem Eff.nvs_pageMem (g : Nvs → Nvs) (s : State) : ((Eff.nvs g).apply s).pageMem = s.pageMem := rfl
@[simp] theorem Eff.nvs_poison (g : Nvs → Nvs) (s : State) : ((Eff.nvs g).apply s).poison = s.poison := rfl
@[simp] theorem Eff.nvs_pairLatch (g : Nvs → Nvs) (s : State) : ((Eff.nvs g).apply s).pairLatch = s.pairLatch := rfl
@[simp] theorem Eff.nvs_pairHeld (g : Nvs → Nvs) (s : State) : ((Eff.nvs g).apply s).pairHeld = s.pairHeld := rfl
@[simp] theorem Eff.nvs_freeCtr (g : Nvs → Nvs) (s : State) : ((Eff.nvs g).apply s).freeCtr = s.freeCtr := rfl
@[simp] theorem Eff.nvs_uptime (g : Nvs → Nvs) (s : State) : ((Eff.nvs g).apply s).uptime = s.uptime := rfl
@[simp] theorem Eff.nvs_out (g : Nvs → Nvs) (s : State) : ((Eff.nvs g).apply s).out = s.out := rfl
@[simp] theorem Eff.nvs_arm (g : Nvs → Nvs) (s : State) : ((Eff.nvs g).apply s).arm = s.arm := rfl
@[simp] theorem Eff.nvs_thm (g : Nvs → Nvs) (s : State) : ((Eff.nvs g).apply s).thm = s.thm := rfl
@[simp] theorem Eff.nvs_flt (g : Nvs → Nvs) (s : State) : ((Eff.nvs g).apply s).flt = s.flt := rfl
@[simp] theorem Eff.nvs_lan (g : Nvs → Nvs) (s : State) : ((Eff.nvs g).apply s).lan = s.lan := rfl
@[simp] theorem Eff.nvs_nvs (g : Nvs → Nvs) (s : State) : ((Eff.nvs g).apply s).nvs = g s.nvs := rfl
@[simp] theorem Eff.nvs_otp (g : Nvs → Nvs) (s : State) : ((Eff.nvs g).apply s).otp = s.otp := rfl
@[simp] theorem Eff.nvs_pins (g : Nvs → Nvs) (s : State) : ((Eff.nvs g).apply s).pins = s.pins := rfl
@[simp] theorem Eff.nvs_boot (g : Nvs → Nvs) (s : State) : ((Eff.nvs g).apply s).boot = s.boot := rfl
@[simp] theorem Eff.nvs_cam (g : Nvs → Nvs) (s : State) : ((Eff.nvs g).apply s).cam = s.cam := rfl
@[simp] theorem Eff.nvs_cast (g : Nvs → Nvs) (s : State) : ((Eff.nvs g).apply s).cast = s.cast := rfl
@[simp] theorem Eff.nvs_str (g : Nvs → Nvs) (s : State) : ((Eff.nvs g).apply s).str = s.str := rfl
@[simp] theorem Eff.nvs_wall (g : Nvs → Nvs) (s : State) : ((Eff.nvs g).apply s).wall = s.wall := rfl
@[simp] theorem Eff.nvs_pat (g : Nvs → Nvs) (s : State) : ((Eff.nvs g).apply s).pat = s.pat := rfl
@[simp] theorem Eff.nvs_lib (g : Nvs → Nvs) (s : State) : ((Eff.nvs g).apply s).lib = s.lib := rfl
@[simp] theorem Eff.nvs_tlk (g : Nvs → Nvs) (s : State) : ((Eff.nvs g).apply s).tlk = s.tlk := rfl
@[simp] theorem Eff.nvs_tim (g : Nvs → Nvs) (s : State) : ((Eff.nvs g).apply s).tim = s.tim := rfl
@[simp] theorem Eff.nvs_aud (g : Nvs → Nvs) (s : State) : ((Eff.nvs g).apply s).aud = s.aud := rfl
@[simp] theorem Eff.nvs_cst (g : Nvs → Nvs) (s : State) : ((Eff.nvs g).apply s).cst = s.cst := rfl
@[simp] theorem Eff.nvs_mem (g : Nvs → Nvs) (s : State) : ((Eff.nvs g).apply s).mem = s.mem := rfl
@[simp] theorem Eff.nvs_dma (g : Nvs → Nvs) (s : State) : ((Eff.nvs g).apply s).dma = s.dma := rfl
@[simp] theorem Eff.nvs_sec (g : Nvs → Nvs) (s : State) : ((Eff.nvs g).apply s).sec = s.sec := rfl
/-! ### otp -/
@[simp] theorem Eff.otp_pending (g : Otp → Otp) (s : State) : ((Eff.otp g).apply s).pending = s.pending := rfl
@[simp] theorem Eff.otp_regs (g : Otp → Otp) (s : State) : ((Eff.otp g).apply s).regs = s.regs := rfl
@[simp] theorem Eff.otp_prms (g : Otp → Otp) (s : State) : ((Eff.otp g).apply s).prms = s.prms := rfl
@[simp] theorem Eff.otp_objs (g : Otp → Otp) (s : State) : ((Eff.otp g).apply s).objs = s.objs := rfl
@[simp] theorem Eff.otp_devMem (g : Otp → Otp) (s : State) : ((Eff.otp g).apply s).devMem = s.devMem := rfl
@[simp] theorem Eff.otp_hostMem (g : Otp → Otp) (s : State) : ((Eff.otp g).apply s).hostMem = s.hostMem := rfl
@[simp] theorem Eff.otp_pageMem (g : Otp → Otp) (s : State) : ((Eff.otp g).apply s).pageMem = s.pageMem := rfl
@[simp] theorem Eff.otp_poison (g : Otp → Otp) (s : State) : ((Eff.otp g).apply s).poison = s.poison := rfl
@[simp] theorem Eff.otp_pairLatch (g : Otp → Otp) (s : State) : ((Eff.otp g).apply s).pairLatch = s.pairLatch := rfl
@[simp] theorem Eff.otp_pairHeld (g : Otp → Otp) (s : State) : ((Eff.otp g).apply s).pairHeld = s.pairHeld := rfl
@[simp] theorem Eff.otp_freeCtr (g : Otp → Otp) (s : State) : ((Eff.otp g).apply s).freeCtr = s.freeCtr := rfl
@[simp] theorem Eff.otp_uptime (g : Otp → Otp) (s : State) : ((Eff.otp g).apply s).uptime = s.uptime := rfl
@[simp] theorem Eff.otp_out (g : Otp → Otp) (s : State) : ((Eff.otp g).apply s).out = s.out := rfl
@[simp] theorem Eff.otp_arm (g : Otp → Otp) (s : State) : ((Eff.otp g).apply s).arm = s.arm := rfl
@[simp] theorem Eff.otp_thm (g : Otp → Otp) (s : State) : ((Eff.otp g).apply s).thm = s.thm := rfl
@[simp] theorem Eff.otp_flt (g : Otp → Otp) (s : State) : ((Eff.otp g).apply s).flt = s.flt := rfl
@[simp] theorem Eff.otp_lan (g : Otp → Otp) (s : State) : ((Eff.otp g).apply s).lan = s.lan := rfl
@[simp] theorem Eff.otp_nvs (g : Otp → Otp) (s : State) : ((Eff.otp g).apply s).nvs = s.nvs := rfl
@[simp] theorem Eff.otp_otp (g : Otp → Otp) (s : State) : ((Eff.otp g).apply s).otp = g s.otp := rfl
@[simp] theorem Eff.otp_pins (g : Otp → Otp) (s : State) : ((Eff.otp g).apply s).pins = s.pins := rfl
@[simp] theorem Eff.otp_boot (g : Otp → Otp) (s : State) : ((Eff.otp g).apply s).boot = s.boot := rfl
@[simp] theorem Eff.otp_cam (g : Otp → Otp) (s : State) : ((Eff.otp g).apply s).cam = s.cam := rfl
@[simp] theorem Eff.otp_cast (g : Otp → Otp) (s : State) : ((Eff.otp g).apply s).cast = s.cast := rfl
@[simp] theorem Eff.otp_str (g : Otp → Otp) (s : State) : ((Eff.otp g).apply s).str = s.str := rfl
@[simp] theorem Eff.otp_wall (g : Otp → Otp) (s : State) : ((Eff.otp g).apply s).wall = s.wall := rfl
@[simp] theorem Eff.otp_pat (g : Otp → Otp) (s : State) : ((Eff.otp g).apply s).pat = s.pat := rfl
@[simp] theorem Eff.otp_lib (g : Otp → Otp) (s : State) : ((Eff.otp g).apply s).lib = s.lib := rfl
@[simp] theorem Eff.otp_tlk (g : Otp → Otp) (s : State) : ((Eff.otp g).apply s).tlk = s.tlk := rfl
@[simp] theorem Eff.otp_tim (g : Otp → Otp) (s : State) : ((Eff.otp g).apply s).tim = s.tim := rfl
@[simp] theorem Eff.otp_aud (g : Otp → Otp) (s : State) : ((Eff.otp g).apply s).aud = s.aud := rfl
@[simp] theorem Eff.otp_cst (g : Otp → Otp) (s : State) : ((Eff.otp g).apply s).cst = s.cst := rfl
@[simp] theorem Eff.otp_mem (g : Otp → Otp) (s : State) : ((Eff.otp g).apply s).mem = s.mem := rfl
@[simp] theorem Eff.otp_dma (g : Otp → Otp) (s : State) : ((Eff.otp g).apply s).dma = s.dma := rfl
@[simp] theorem Eff.otp_sec (g : Otp → Otp) (s : State) : ((Eff.otp g).apply s).sec = s.sec := rfl
/-! ### pins -/
@[simp] theorem Eff.pins_pending (g : Pins → Pins) (s : State) : ((Eff.pins g).apply s).pending = s.pending := rfl
@[simp] theorem Eff.pins_regs (g : Pins → Pins) (s : State) : ((Eff.pins g).apply s).regs = s.regs := rfl
@[simp] theorem Eff.pins_prms (g : Pins → Pins) (s : State) : ((Eff.pins g).apply s).prms = s.prms := rfl
@[simp] theorem Eff.pins_objs (g : Pins → Pins) (s : State) : ((Eff.pins g).apply s).objs = s.objs := rfl
@[simp] theorem Eff.pins_devMem (g : Pins → Pins) (s : State) : ((Eff.pins g).apply s).devMem = s.devMem := rfl
@[simp] theorem Eff.pins_hostMem (g : Pins → Pins) (s : State) : ((Eff.pins g).apply s).hostMem = s.hostMem := rfl
@[simp] theorem Eff.pins_pageMem (g : Pins → Pins) (s : State) : ((Eff.pins g).apply s).pageMem = s.pageMem := rfl
@[simp] theorem Eff.pins_poison (g : Pins → Pins) (s : State) : ((Eff.pins g).apply s).poison = s.poison := rfl
@[simp] theorem Eff.pins_pairLatch (g : Pins → Pins) (s : State) : ((Eff.pins g).apply s).pairLatch = s.pairLatch := rfl
@[simp] theorem Eff.pins_pairHeld (g : Pins → Pins) (s : State) : ((Eff.pins g).apply s).pairHeld = s.pairHeld := rfl
@[simp] theorem Eff.pins_freeCtr (g : Pins → Pins) (s : State) : ((Eff.pins g).apply s).freeCtr = s.freeCtr := rfl
@[simp] theorem Eff.pins_uptime (g : Pins → Pins) (s : State) : ((Eff.pins g).apply s).uptime = s.uptime := rfl
@[simp] theorem Eff.pins_out (g : Pins → Pins) (s : State) : ((Eff.pins g).apply s).out = s.out := rfl
@[simp] theorem Eff.pins_arm (g : Pins → Pins) (s : State) : ((Eff.pins g).apply s).arm = s.arm := rfl
@[simp] theorem Eff.pins_thm (g : Pins → Pins) (s : State) : ((Eff.pins g).apply s).thm = s.thm := rfl
@[simp] theorem Eff.pins_flt (g : Pins → Pins) (s : State) : ((Eff.pins g).apply s).flt = s.flt := rfl
@[simp] theorem Eff.pins_lan (g : Pins → Pins) (s : State) : ((Eff.pins g).apply s).lan = s.lan := rfl
@[simp] theorem Eff.pins_nvs (g : Pins → Pins) (s : State) : ((Eff.pins g).apply s).nvs = s.nvs := rfl
@[simp] theorem Eff.pins_otp (g : Pins → Pins) (s : State) : ((Eff.pins g).apply s).otp = s.otp := rfl
@[simp] theorem Eff.pins_pins (g : Pins → Pins) (s : State) : ((Eff.pins g).apply s).pins = g s.pins := rfl
@[simp] theorem Eff.pins_boot (g : Pins → Pins) (s : State) : ((Eff.pins g).apply s).boot = s.boot := rfl
@[simp] theorem Eff.pins_cam (g : Pins → Pins) (s : State) : ((Eff.pins g).apply s).cam = s.cam := rfl
@[simp] theorem Eff.pins_cast (g : Pins → Pins) (s : State) : ((Eff.pins g).apply s).cast = s.cast := rfl
@[simp] theorem Eff.pins_str (g : Pins → Pins) (s : State) : ((Eff.pins g).apply s).str = s.str := rfl
@[simp] theorem Eff.pins_wall (g : Pins → Pins) (s : State) : ((Eff.pins g).apply s).wall = s.wall := rfl
@[simp] theorem Eff.pins_pat (g : Pins → Pins) (s : State) : ((Eff.pins g).apply s).pat = s.pat := rfl
@[simp] theorem Eff.pins_lib (g : Pins → Pins) (s : State) : ((Eff.pins g).apply s).lib = s.lib := rfl
@[simp] theorem Eff.pins_tlk (g : Pins → Pins) (s : State) : ((Eff.pins g).apply s).tlk = s.tlk := rfl
@[simp] theorem Eff.pins_tim (g : Pins → Pins) (s : State) : ((Eff.pins g).apply s).tim = s.tim := rfl
@[simp] theorem Eff.pins_aud (g : Pins → Pins) (s : State) : ((Eff.pins g).apply s).aud = s.aud := rfl
@[simp] theorem Eff.pins_cst (g : Pins → Pins) (s : State) : ((Eff.pins g).apply s).cst = s.cst := rfl
@[simp] theorem Eff.pins_mem (g : Pins → Pins) (s : State) : ((Eff.pins g).apply s).mem = s.mem := rfl
@[simp] theorem Eff.pins_dma (g : Pins → Pins) (s : State) : ((Eff.pins g).apply s).dma = s.dma := rfl
@[simp] theorem Eff.pins_sec (g : Pins → Pins) (s : State) : ((Eff.pins g).apply s).sec = s.sec := rfl
/-! ### boot -/
@[simp] theorem Eff.boot_pending (g : Boot → Boot) (s : State) : ((Eff.boot g).apply s).pending = s.pending := rfl
@[simp] theorem Eff.boot_regs (g : Boot → Boot) (s : State) : ((Eff.boot g).apply s).regs = s.regs := rfl
@[simp] theorem Eff.boot_prms (g : Boot → Boot) (s : State) : ((Eff.boot g).apply s).prms = s.prms := rfl
@[simp] theorem Eff.boot_objs (g : Boot → Boot) (s : State) : ((Eff.boot g).apply s).objs = s.objs := rfl
@[simp] theorem Eff.boot_devMem (g : Boot → Boot) (s : State) : ((Eff.boot g).apply s).devMem = s.devMem := rfl
@[simp] theorem Eff.boot_hostMem (g : Boot → Boot) (s : State) : ((Eff.boot g).apply s).hostMem = s.hostMem := rfl
@[simp] theorem Eff.boot_pageMem (g : Boot → Boot) (s : State) : ((Eff.boot g).apply s).pageMem = s.pageMem := rfl
@[simp] theorem Eff.boot_poison (g : Boot → Boot) (s : State) : ((Eff.boot g).apply s).poison = s.poison := rfl
@[simp] theorem Eff.boot_pairLatch (g : Boot → Boot) (s : State) : ((Eff.boot g).apply s).pairLatch = s.pairLatch := rfl
@[simp] theorem Eff.boot_pairHeld (g : Boot → Boot) (s : State) : ((Eff.boot g).apply s).pairHeld = s.pairHeld := rfl
@[simp] theorem Eff.boot_freeCtr (g : Boot → Boot) (s : State) : ((Eff.boot g).apply s).freeCtr = s.freeCtr := rfl
@[simp] theorem Eff.boot_uptime (g : Boot → Boot) (s : State) : ((Eff.boot g).apply s).uptime = s.uptime := rfl
@[simp] theorem Eff.boot_out (g : Boot → Boot) (s : State) : ((Eff.boot g).apply s).out = s.out := rfl
@[simp] theorem Eff.boot_arm (g : Boot → Boot) (s : State) : ((Eff.boot g).apply s).arm = s.arm := rfl
@[simp] theorem Eff.boot_thm (g : Boot → Boot) (s : State) : ((Eff.boot g).apply s).thm = s.thm := rfl
@[simp] theorem Eff.boot_flt (g : Boot → Boot) (s : State) : ((Eff.boot g).apply s).flt = s.flt := rfl
@[simp] theorem Eff.boot_lan (g : Boot → Boot) (s : State) : ((Eff.boot g).apply s).lan = s.lan := rfl
@[simp] theorem Eff.boot_nvs (g : Boot → Boot) (s : State) : ((Eff.boot g).apply s).nvs = s.nvs := rfl
@[simp] theorem Eff.boot_otp (g : Boot → Boot) (s : State) : ((Eff.boot g).apply s).otp = s.otp := rfl
@[simp] theorem Eff.boot_pins (g : Boot → Boot) (s : State) : ((Eff.boot g).apply s).pins = s.pins := rfl
@[simp] theorem Eff.boot_boot (g : Boot → Boot) (s : State) : ((Eff.boot g).apply s).boot = g s.boot := rfl
@[simp] theorem Eff.boot_cam (g : Boot → Boot) (s : State) : ((Eff.boot g).apply s).cam = s.cam := rfl
@[simp] theorem Eff.boot_cast (g : Boot → Boot) (s : State) : ((Eff.boot g).apply s).cast = s.cast := rfl
@[simp] theorem Eff.boot_str (g : Boot → Boot) (s : State) : ((Eff.boot g).apply s).str = s.str := rfl
@[simp] theorem Eff.boot_wall (g : Boot → Boot) (s : State) : ((Eff.boot g).apply s).wall = s.wall := rfl
@[simp] theorem Eff.boot_pat (g : Boot → Boot) (s : State) : ((Eff.boot g).apply s).pat = s.pat := rfl
@[simp] theorem Eff.boot_lib (g : Boot → Boot) (s : State) : ((Eff.boot g).apply s).lib = s.lib := rfl
@[simp] theorem Eff.boot_tlk (g : Boot → Boot) (s : State) : ((Eff.boot g).apply s).tlk = s.tlk := rfl
@[simp] theorem Eff.boot_tim (g : Boot → Boot) (s : State) : ((Eff.boot g).apply s).tim = s.tim := rfl
@[simp] theorem Eff.boot_aud (g : Boot → Boot) (s : State) : ((Eff.boot g).apply s).aud = s.aud := rfl
@[simp] theorem Eff.boot_cst (g : Boot → Boot) (s : State) : ((Eff.boot g).apply s).cst = s.cst := rfl
@[simp] theorem Eff.boot_mem (g : Boot → Boot) (s : State) : ((Eff.boot g).apply s).mem = s.mem := rfl
@[simp] theorem Eff.boot_dma (g : Boot → Boot) (s : State) : ((Eff.boot g).apply s).dma = s.dma := rfl
@[simp] theorem Eff.boot_sec (g : Boot → Boot) (s : State) : ((Eff.boot g).apply s).sec = s.sec := rfl
/-! ### cam -/
@[simp] theorem Eff.cam_pending (g : Cam → Cam) (s : State) : ((Eff.cam g).apply s).pending = s.pending := rfl
@[simp] theorem Eff.cam_regs (g : Cam → Cam) (s : State) : ((Eff.cam g).apply s).regs = s.regs := rfl
@[simp] theorem Eff.cam_prms (g : Cam → Cam) (s : State) : ((Eff.cam g).apply s).prms = s.prms := rfl
@[simp] theorem Eff.cam_objs (g : Cam → Cam) (s : State) : ((Eff.cam g).apply s).objs = s.objs := rfl
@[simp] theorem Eff.cam_devMem (g : Cam → Cam) (s : State) : ((Eff.cam g).apply s).devMem = s.devMem := rfl
@[simp] theorem Eff.cam_hostMem (g : Cam → Cam) (s : State) : ((Eff.cam g).apply s).hostMem = s.hostMem := rfl
@[simp] theorem Eff.cam_pageMem (g : Cam → Cam) (s : State) : ((Eff.cam g).apply s).pageMem = s.pageMem := rfl
@[simp] theorem Eff.cam_poison (g : Cam → Cam) (s : State) : ((Eff.cam g).apply s).poison = s.poison := rfl
@[simp] theorem Eff.cam_pairLatch (g : Cam → Cam) (s : State) : ((Eff.cam g).apply s).pairLatch = s.pairLatch := rfl
@[simp] theorem Eff.cam_pairHeld (g : Cam → Cam) (s : State) : ((Eff.cam g).apply s).pairHeld = s.pairHeld := rfl
@[simp] theorem Eff.cam_freeCtr (g : Cam → Cam) (s : State) : ((Eff.cam g).apply s).freeCtr = s.freeCtr := rfl
@[simp] theorem Eff.cam_uptime (g : Cam → Cam) (s : State) : ((Eff.cam g).apply s).uptime = s.uptime := rfl
@[simp] theorem Eff.cam_out (g : Cam → Cam) (s : State) : ((Eff.cam g).apply s).out = s.out := rfl
@[simp] theorem Eff.cam_arm (g : Cam → Cam) (s : State) : ((Eff.cam g).apply s).arm = s.arm := rfl
@[simp] theorem Eff.cam_thm (g : Cam → Cam) (s : State) : ((Eff.cam g).apply s).thm = s.thm := rfl
@[simp] theorem Eff.cam_flt (g : Cam → Cam) (s : State) : ((Eff.cam g).apply s).flt = s.flt := rfl
@[simp] theorem Eff.cam_lan (g : Cam → Cam) (s : State) : ((Eff.cam g).apply s).lan = s.lan := rfl
@[simp] theorem Eff.cam_nvs (g : Cam → Cam) (s : State) : ((Eff.cam g).apply s).nvs = s.nvs := rfl
@[simp] theorem Eff.cam_otp (g : Cam → Cam) (s : State) : ((Eff.cam g).apply s).otp = s.otp := rfl
@[simp] theorem Eff.cam_pins (g : Cam → Cam) (s : State) : ((Eff.cam g).apply s).pins = s.pins := rfl
@[simp] theorem Eff.cam_boot (g : Cam → Cam) (s : State) : ((Eff.cam g).apply s).boot = s.boot := rfl
@[simp] theorem Eff.cam_cam (g : Cam → Cam) (s : State) : ((Eff.cam g).apply s).cam = g s.cam := rfl
@[simp] theorem Eff.cam_cast (g : Cam → Cam) (s : State) : ((Eff.cam g).apply s).cast = s.cast := rfl
@[simp] theorem Eff.cam_str (g : Cam → Cam) (s : State) : ((Eff.cam g).apply s).str = s.str := rfl
@[simp] theorem Eff.cam_wall (g : Cam → Cam) (s : State) : ((Eff.cam g).apply s).wall = s.wall := rfl
@[simp] theorem Eff.cam_pat (g : Cam → Cam) (s : State) : ((Eff.cam g).apply s).pat = s.pat := rfl
@[simp] theorem Eff.cam_lib (g : Cam → Cam) (s : State) : ((Eff.cam g).apply s).lib = s.lib := rfl
@[simp] theorem Eff.cam_tlk (g : Cam → Cam) (s : State) : ((Eff.cam g).apply s).tlk = s.tlk := rfl
@[simp] theorem Eff.cam_tim (g : Cam → Cam) (s : State) : ((Eff.cam g).apply s).tim = s.tim := rfl
@[simp] theorem Eff.cam_aud (g : Cam → Cam) (s : State) : ((Eff.cam g).apply s).aud = s.aud := rfl
@[simp] theorem Eff.cam_cst (g : Cam → Cam) (s : State) : ((Eff.cam g).apply s).cst = s.cst := rfl
@[simp] theorem Eff.cam_mem (g : Cam → Cam) (s : State) : ((Eff.cam g).apply s).mem = s.mem := rfl
@[simp] theorem Eff.cam_dma (g : Cam → Cam) (s : State) : ((Eff.cam g).apply s).dma = s.dma := rfl
@[simp] theorem Eff.cam_sec (g : Cam → Cam) (s : State) : ((Eff.cam g).apply s).sec = s.sec := rfl
/-! ### cast -/
@[simp] theorem Eff.cast_pending (g : Cast → Cast) (s : State) : ((Eff.cast g).apply s).pending = s.pending := rfl
@[simp] theorem Eff.cast_regs (g : Cast → Cast) (s : State) : ((Eff.cast g).apply s).regs = s.regs := rfl
@[simp] theorem Eff.cast_prms (g : Cast → Cast) (s : State) : ((Eff.cast g).apply s).prms = s.prms := rfl
@[simp] theorem Eff.cast_objs (g : Cast → Cast) (s : State) : ((Eff.cast g).apply s).objs = s.objs := rfl
@[simp] theorem Eff.cast_devMem (g : Cast → Cast) (s : State) : ((Eff.cast g).apply s).devMem = s.devMem := rfl
@[simp] theorem Eff.cast_hostMem (g : Cast → Cast) (s : State) : ((Eff.cast g).apply s).hostMem = s.hostMem := rfl
@[simp] theorem Eff.cast_pageMem (g : Cast → Cast) (s : State) : ((Eff.cast g).apply s).pageMem = s.pageMem := rfl
@[simp] theorem Eff.cast_poison (g : Cast → Cast) (s : State) : ((Eff.cast g).apply s).poison = s.poison := rfl
@[simp] theorem Eff.cast_pairLatch (g : Cast → Cast) (s : State) : ((Eff.cast g).apply s).pairLatch = s.pairLatch := rfl
@[simp] theorem Eff.cast_pairHeld (g : Cast → Cast) (s : State) : ((Eff.cast g).apply s).pairHeld = s.pairHeld := rfl
@[simp] theorem Eff.cast_freeCtr (g : Cast → Cast) (s : State) : ((Eff.cast g).apply s).freeCtr = s.freeCtr := rfl
@[simp] theorem Eff.cast_uptime (g : Cast → Cast) (s : State) : ((Eff.cast g).apply s).uptime = s.uptime := rfl
@[simp] theorem Eff.cast_out (g : Cast → Cast) (s : State) : ((Eff.cast g).apply s).out = s.out := rfl
@[simp] theorem Eff.cast_arm (g : Cast → Cast) (s : State) : ((Eff.cast g).apply s).arm = s.arm := rfl
@[simp] theorem Eff.cast_thm (g : Cast → Cast) (s : State) : ((Eff.cast g).apply s).thm = s.thm := rfl
@[simp] theorem Eff.cast_flt (g : Cast → Cast) (s : State) : ((Eff.cast g).apply s).flt = s.flt := rfl
@[simp] theorem Eff.cast_lan (g : Cast → Cast) (s : State) : ((Eff.cast g).apply s).lan = s.lan := rfl
@[simp] theorem Eff.cast_nvs (g : Cast → Cast) (s : State) : ((Eff.cast g).apply s).nvs = s.nvs := rfl
@[simp] theorem Eff.cast_otp (g : Cast → Cast) (s : State) : ((Eff.cast g).apply s).otp = s.otp := rfl
@[simp] theorem Eff.cast_pins (g : Cast → Cast) (s : State) : ((Eff.cast g).apply s).pins = s.pins := rfl
@[simp] theorem Eff.cast_boot (g : Cast → Cast) (s : State) : ((Eff.cast g).apply s).boot = s.boot := rfl
@[simp] theorem Eff.cast_cam (g : Cast → Cast) (s : State) : ((Eff.cast g).apply s).cam = s.cam := rfl
@[simp] theorem Eff.cast_cast (g : Cast → Cast) (s : State) : ((Eff.cast g).apply s).cast = g s.cast := rfl
@[simp] theorem Eff.cast_str (g : Cast → Cast) (s : State) : ((Eff.cast g).apply s).str = s.str := rfl
@[simp] theorem Eff.cast_wall (g : Cast → Cast) (s : State) : ((Eff.cast g).apply s).wall = s.wall := rfl
@[simp] theorem Eff.cast_pat (g : Cast → Cast) (s : State) : ((Eff.cast g).apply s).pat = s.pat := rfl
@[simp] theorem Eff.cast_lib (g : Cast → Cast) (s : State) : ((Eff.cast g).apply s).lib = s.lib := rfl
@[simp] theorem Eff.cast_tlk (g : Cast → Cast) (s : State) : ((Eff.cast g).apply s).tlk = s.tlk := rfl
@[simp] theorem Eff.cast_tim (g : Cast → Cast) (s : State) : ((Eff.cast g).apply s).tim = s.tim := rfl
@[simp] theorem Eff.cast_aud (g : Cast → Cast) (s : State) : ((Eff.cast g).apply s).aud = s.aud := rfl
@[simp] theorem Eff.cast_cst (g : Cast → Cast) (s : State) : ((Eff.cast g).apply s).cst = s.cst := rfl
@[simp] theorem Eff.cast_mem (g : Cast → Cast) (s : State) : ((Eff.cast g).apply s).mem = s.mem := rfl
@[simp] theorem Eff.cast_dma (g : Cast → Cast) (s : State) : ((Eff.cast g).apply s).dma = s.dma := rfl
@[simp] theorem Eff.cast_sec (g : Cast → Cast) (s : State) : ((Eff.cast g).apply s).sec = s.sec := rfl
/-! ### str -/
@[simp] theorem Eff.str_pending (g : Str → Str) (s : State) : ((Eff.str g).apply s).pending = s.pending := rfl
@[simp] theorem Eff.str_regs (g : Str → Str) (s : State) : ((Eff.str g).apply s).regs = s.regs := rfl
@[simp] theorem Eff.str_prms (g : Str → Str) (s : State) : ((Eff.str g).apply s).prms = s.prms := rfl
@[simp] theorem Eff.str_objs (g : Str → Str) (s : State) : ((Eff.str g).apply s).objs = s.objs := rfl
@[simp] theorem Eff.str_devMem (g : Str → Str) (s : State) : ((Eff.str g).apply s).devMem = s.devMem := rfl
@[simp] theorem Eff.str_hostMem (g : Str → Str) (s : State) : ((Eff.str g).apply s).hostMem = s.hostMem := rfl
@[simp] theorem Eff.str_pageMem (g : Str → Str) (s : State) : ((Eff.str g).apply s).pageMem = s.pageMem := rfl
@[simp] theorem Eff.str_poison (g : Str → Str) (s : State) : ((Eff.str g).apply s).poison = s.poison := rfl
@[simp] theorem Eff.str_pairLatch (g : Str → Str) (s : State) : ((Eff.str g).apply s).pairLatch = s.pairLatch := rfl
@[simp] theorem Eff.str_pairHeld (g : Str → Str) (s : State) : ((Eff.str g).apply s).pairHeld = s.pairHeld := rfl
@[simp] theorem Eff.str_freeCtr (g : Str → Str) (s : State) : ((Eff.str g).apply s).freeCtr = s.freeCtr := rfl
@[simp] theorem Eff.str_uptime (g : Str → Str) (s : State) : ((Eff.str g).apply s).uptime = s.uptime := rfl
@[simp] theorem Eff.str_out (g : Str → Str) (s : State) : ((Eff.str g).apply s).out = s.out := rfl
@[simp] theorem Eff.str_arm (g : Str → Str) (s : State) : ((Eff.str g).apply s).arm = s.arm := rfl
@[simp] theorem Eff.str_thm (g : Str → Str) (s : State) : ((Eff.str g).apply s).thm = s.thm := rfl
@[simp] theorem Eff.str_flt (g : Str → Str) (s : State) : ((Eff.str g).apply s).flt = s.flt := rfl
@[simp] theorem Eff.str_lan (g : Str → Str) (s : State) : ((Eff.str g).apply s).lan = s.lan := rfl
@[simp] theorem Eff.str_nvs (g : Str → Str) (s : State) : ((Eff.str g).apply s).nvs = s.nvs := rfl
@[simp] theorem Eff.str_otp (g : Str → Str) (s : State) : ((Eff.str g).apply s).otp = s.otp := rfl
@[simp] theorem Eff.str_pins (g : Str → Str) (s : State) : ((Eff.str g).apply s).pins = s.pins := rfl
@[simp] theorem Eff.str_boot (g : Str → Str) (s : State) : ((Eff.str g).apply s).boot = s.boot := rfl
@[simp] theorem Eff.str_cam (g : Str → Str) (s : State) : ((Eff.str g).apply s).cam = s.cam := rfl
@[simp] theorem Eff.str_cast (g : Str → Str) (s : State) : ((Eff.str g).apply s).cast = s.cast := rfl
@[simp] theorem Eff.str_str (g : Str → Str) (s : State) : ((Eff.str g).apply s).str = g s.str := rfl
@[simp] theorem Eff.str_wall (g : Str → Str) (s : State) : ((Eff.str g).apply s).wall = s.wall := rfl
@[simp] theorem Eff.str_pat (g : Str → Str) (s : State) : ((Eff.str g).apply s).pat = s.pat := rfl
@[simp] theorem Eff.str_lib (g : Str → Str) (s : State) : ((Eff.str g).apply s).lib = s.lib := rfl
@[simp] theorem Eff.str_tlk (g : Str → Str) (s : State) : ((Eff.str g).apply s).tlk = s.tlk := rfl
@[simp] theorem Eff.str_tim (g : Str → Str) (s : State) : ((Eff.str g).apply s).tim = s.tim := rfl
@[simp] theorem Eff.str_aud (g : Str → Str) (s : State) : ((Eff.str g).apply s).aud = s.aud := rfl
@[simp] theorem Eff.str_cst (g : Str → Str) (s : State) : ((Eff.str g).apply s).cst = s.cst := rfl
@[simp] theorem Eff.str_mem (g : Str → Str) (s : State) : ((Eff.str g).apply s).mem = s.mem := rfl
@[simp] theorem Eff.str_dma (g : Str → Str) (s : State) : ((Eff.str g).apply s).dma = s.dma := rfl
@[simp] theorem Eff.str_sec (g : Str → Str) (s : State) : ((Eff.str g).apply s).sec = s.sec := rfl
/-! ### wall -/
@[simp] theorem Eff.wall_pending (g : Wall → Wall) (s : State) : ((Eff.wall g).apply s).pending = s.pending := rfl
@[simp] theorem Eff.wall_regs (g : Wall → Wall) (s : State) : ((Eff.wall g).apply s).regs = s.regs := rfl
@[simp] theorem Eff.wall_prms (g : Wall → Wall) (s : State) : ((Eff.wall g).apply s).prms = s.prms := rfl
@[simp] theorem Eff.wall_objs (g : Wall → Wall) (s : State) : ((Eff.wall g).apply s).objs = s.objs := rfl
@[simp] theorem Eff.wall_devMem (g : Wall → Wall) (s : State) : ((Eff.wall g).apply s).devMem = s.devMem := rfl
@[simp] theorem Eff.wall_hostMem (g : Wall → Wall) (s : State) : ((Eff.wall g).apply s).hostMem = s.hostMem := rfl
@[simp] theorem Eff.wall_pageMem (g : Wall → Wall) (s : State) : ((Eff.wall g).apply s).pageMem = s.pageMem := rfl
@[simp] theorem Eff.wall_poison (g : Wall → Wall) (s : State) : ((Eff.wall g).apply s).poison = s.poison := rfl
@[simp] theorem Eff.wall_pairLatch (g : Wall → Wall) (s : State) : ((Eff.wall g).apply s).pairLatch = s.pairLatch := rfl
@[simp] theorem Eff.wall_pairHeld (g : Wall → Wall) (s : State) : ((Eff.wall g).apply s).pairHeld = s.pairHeld := rfl
@[simp] theorem Eff.wall_freeCtr (g : Wall → Wall) (s : State) : ((Eff.wall g).apply s).freeCtr = s.freeCtr := rfl
@[simp] theorem Eff.wall_uptime (g : Wall → Wall) (s : State) : ((Eff.wall g).apply s).uptime = s.uptime := rfl
@[simp] theorem Eff.wall_out (g : Wall → Wall) (s : State) : ((Eff.wall g).apply s).out = s.out := rfl
@[simp] theorem Eff.wall_arm (g : Wall → Wall) (s : State) : ((Eff.wall g).apply s).arm = s.arm := rfl
@[simp] theorem Eff.wall_thm (g : Wall → Wall) (s : State) : ((Eff.wall g).apply s).thm = s.thm := rfl
@[simp] theorem Eff.wall_flt (g : Wall → Wall) (s : State) : ((Eff.wall g).apply s).flt = s.flt := rfl
@[simp] theorem Eff.wall_lan (g : Wall → Wall) (s : State) : ((Eff.wall g).apply s).lan = s.lan := rfl
@[simp] theorem Eff.wall_nvs (g : Wall → Wall) (s : State) : ((Eff.wall g).apply s).nvs = s.nvs := rfl
@[simp] theorem Eff.wall_otp (g : Wall → Wall) (s : State) : ((Eff.wall g).apply s).otp = s.otp := rfl
@[simp] theorem Eff.wall_pins (g : Wall → Wall) (s : State) : ((Eff.wall g).apply s).pins = s.pins := rfl
@[simp] theorem Eff.wall_boot (g : Wall → Wall) (s : State) : ((Eff.wall g).apply s).boot = s.boot := rfl
@[simp] theorem Eff.wall_cam (g : Wall → Wall) (s : State) : ((Eff.wall g).apply s).cam = s.cam := rfl
@[simp] theorem Eff.wall_cast (g : Wall → Wall) (s : State) : ((Eff.wall g).apply s).cast = s.cast := rfl
@[simp] theorem Eff.wall_str (g : Wall → Wall) (s : State) : ((Eff.wall g).apply s).str = s.str := rfl
@[simp] theorem Eff.wall_wall (g : Wall → Wall) (s : State) : ((Eff.wall g).apply s).wall = g s.wall := rfl
@[simp] theorem Eff.wall_pat (g : Wall → Wall) (s : State) : ((Eff.wall g).apply s).pat = s.pat := rfl
@[simp] theorem Eff.wall_lib (g : Wall → Wall) (s : State) : ((Eff.wall g).apply s).lib = s.lib := rfl
@[simp] theorem Eff.wall_tlk (g : Wall → Wall) (s : State) : ((Eff.wall g).apply s).tlk = s.tlk := rfl
@[simp] theorem Eff.wall_tim (g : Wall → Wall) (s : State) : ((Eff.wall g).apply s).tim = s.tim := rfl
@[simp] theorem Eff.wall_aud (g : Wall → Wall) (s : State) : ((Eff.wall g).apply s).aud = s.aud := rfl
@[simp] theorem Eff.wall_cst (g : Wall → Wall) (s : State) : ((Eff.wall g).apply s).cst = s.cst := rfl
@[simp] theorem Eff.wall_mem (g : Wall → Wall) (s : State) : ((Eff.wall g).apply s).mem = s.mem := rfl
@[simp] theorem Eff.wall_dma (g : Wall → Wall) (s : State) : ((Eff.wall g).apply s).dma = s.dma := rfl
@[simp] theorem Eff.wall_sec (g : Wall → Wall) (s : State) : ((Eff.wall g).apply s).sec = s.sec := rfl
/-! ### pat -/
@[simp] theorem Eff.pat_pending (g : Pat → Pat) (s : State) : ((Eff.pat g).apply s).pending = s.pending := rfl
@[simp] theorem Eff.pat_regs (g : Pat → Pat) (s : State) : ((Eff.pat g).apply s).regs = s.regs := rfl
@[simp] theorem Eff.pat_prms (g : Pat → Pat) (s : State) : ((Eff.pat g).apply s).prms = s.prms := rfl
@[simp] theorem Eff.pat_objs (g : Pat → Pat) (s : State) : ((Eff.pat g).apply s).objs = s.objs := rfl
@[simp] theorem Eff.pat_devMem (g : Pat → Pat) (s : State) : ((Eff.pat g).apply s).devMem = s.devMem := rfl
@[simp] theorem Eff.pat_hostMem (g : Pat → Pat) (s : State) : ((Eff.pat g).apply s).hostMem = s.hostMem := rfl
@[simp] theorem Eff.pat_pageMem (g : Pat → Pat) (s : State) : ((Eff.pat g).apply s).pageMem = s.pageMem := rfl
@[simp] theorem Eff.pat_poison (g : Pat → Pat) (s : State) : ((Eff.pat g).apply s).poison = s.poison := rfl
@[simp] theorem Eff.pat_pairLatch (g : Pat → Pat) (s : State) : ((Eff.pat g).apply s).pairLatch = s.pairLatch := rfl
@[simp] theorem Eff.pat_pairHeld (g : Pat → Pat) (s : State) : ((Eff.pat g).apply s).pairHeld = s.pairHeld := rfl
@[simp] theorem Eff.pat_freeCtr (g : Pat → Pat) (s : State) : ((Eff.pat g).apply s).freeCtr = s.freeCtr := rfl
@[simp] theorem Eff.pat_uptime (g : Pat → Pat) (s : State) : ((Eff.pat g).apply s).uptime = s.uptime := rfl
@[simp] theorem Eff.pat_out (g : Pat → Pat) (s : State) : ((Eff.pat g).apply s).out = s.out := rfl
@[simp] theorem Eff.pat_arm (g : Pat → Pat) (s : State) : ((Eff.pat g).apply s).arm = s.arm := rfl
@[simp] theorem Eff.pat_thm (g : Pat → Pat) (s : State) : ((Eff.pat g).apply s).thm = s.thm := rfl
@[simp] theorem Eff.pat_flt (g : Pat → Pat) (s : State) : ((Eff.pat g).apply s).flt = s.flt := rfl
@[simp] theorem Eff.pat_lan (g : Pat → Pat) (s : State) : ((Eff.pat g).apply s).lan = s.lan := rfl
@[simp] theorem Eff.pat_nvs (g : Pat → Pat) (s : State) : ((Eff.pat g).apply s).nvs = s.nvs := rfl
@[simp] theorem Eff.pat_otp (g : Pat → Pat) (s : State) : ((Eff.pat g).apply s).otp = s.otp := rfl
@[simp] theorem Eff.pat_pins (g : Pat → Pat) (s : State) : ((Eff.pat g).apply s).pins = s.pins := rfl
@[simp] theorem Eff.pat_boot (g : Pat → Pat) (s : State) : ((Eff.pat g).apply s).boot = s.boot := rfl
@[simp] theorem Eff.pat_cam (g : Pat → Pat) (s : State) : ((Eff.pat g).apply s).cam = s.cam := rfl
@[simp] theorem Eff.pat_cast (g : Pat → Pat) (s : State) : ((Eff.pat g).apply s).cast = s.cast := rfl
@[simp] theorem Eff.pat_str (g : Pat → Pat) (s : State) : ((Eff.pat g).apply s).str = s.str := rfl
@[simp] theorem Eff.pat_wall (g : Pat → Pat) (s : State) : ((Eff.pat g).apply s).wall = s.wall := rfl
@[simp] theorem Eff.pat_pat (g : Pat → Pat) (s : State) : ((Eff.pat g).apply s).pat = g s.pat := rfl
@[simp] theorem Eff.pat_lib (g : Pat → Pat) (s : State) : ((Eff.pat g).apply s).lib = s.lib := rfl
@[simp] theorem Eff.pat_tlk (g : Pat → Pat) (s : State) : ((Eff.pat g).apply s).tlk = s.tlk := rfl
@[simp] theorem Eff.pat_tim (g : Pat → Pat) (s : State) : ((Eff.pat g).apply s).tim = s.tim := rfl
@[simp] theorem Eff.pat_aud (g : Pat → Pat) (s : State) : ((Eff.pat g).apply s).aud = s.aud := rfl
@[simp] theorem Eff.pat_cst (g : Pat → Pat) (s : State) : ((Eff.pat g).apply s).cst = s.cst := rfl
@[simp] theorem Eff.pat_mem (g : Pat → Pat) (s : State) : ((Eff.pat g).apply s).mem = s.mem := rfl
@[simp] theorem Eff.pat_dma (g : Pat → Pat) (s : State) : ((Eff.pat g).apply s).dma = s.dma := rfl
@[simp] theorem Eff.pat_sec (g : Pat → Pat) (s : State) : ((Eff.pat g).apply s).sec = s.sec := rfl
/-! ### lib -/
@[simp] theorem Eff.lib_pending (g : Lib → Lib) (s : State) : ((Eff.lib g).apply s).pending = s.pending := rfl
@[simp] theorem Eff.lib_regs (g : Lib → Lib) (s : State) : ((Eff.lib g).apply s).regs = s.regs := rfl
@[simp] theorem Eff.lib_prms (g : Lib → Lib) (s : State) : ((Eff.lib g).apply s).prms = s.prms := rfl
@[simp] theorem Eff.lib_objs (g : Lib → Lib) (s : State) : ((Eff.lib g).apply s).objs = s.objs := rfl
@[simp] theorem Eff.lib_devMem (g : Lib → Lib) (s : State) : ((Eff.lib g).apply s).devMem = s.devMem := rfl
@[simp] theorem Eff.lib_hostMem (g : Lib → Lib) (s : State) : ((Eff.lib g).apply s).hostMem = s.hostMem := rfl
@[simp] theorem Eff.lib_pageMem (g : Lib → Lib) (s : State) : ((Eff.lib g).apply s).pageMem = s.pageMem := rfl
@[simp] theorem Eff.lib_poison (g : Lib → Lib) (s : State) : ((Eff.lib g).apply s).poison = s.poison := rfl
@[simp] theorem Eff.lib_pairLatch (g : Lib → Lib) (s : State) : ((Eff.lib g).apply s).pairLatch = s.pairLatch := rfl
@[simp] theorem Eff.lib_pairHeld (g : Lib → Lib) (s : State) : ((Eff.lib g).apply s).pairHeld = s.pairHeld := rfl
@[simp] theorem Eff.lib_freeCtr (g : Lib → Lib) (s : State) : ((Eff.lib g).apply s).freeCtr = s.freeCtr := rfl
@[simp] theorem Eff.lib_uptime (g : Lib → Lib) (s : State) : ((Eff.lib g).apply s).uptime = s.uptime := rfl
@[simp] theorem Eff.lib_out (g : Lib → Lib) (s : State) : ((Eff.lib g).apply s).out = s.out := rfl
@[simp] theorem Eff.lib_arm (g : Lib → Lib) (s : State) : ((Eff.lib g).apply s).arm = s.arm := rfl
@[simp] theorem Eff.lib_thm (g : Lib → Lib) (s : State) : ((Eff.lib g).apply s).thm = s.thm := rfl
@[simp] theorem Eff.lib_flt (g : Lib → Lib) (s : State) : ((Eff.lib g).apply s).flt = s.flt := rfl
@[simp] theorem Eff.lib_lan (g : Lib → Lib) (s : State) : ((Eff.lib g).apply s).lan = s.lan := rfl
@[simp] theorem Eff.lib_nvs (g : Lib → Lib) (s : State) : ((Eff.lib g).apply s).nvs = s.nvs := rfl
@[simp] theorem Eff.lib_otp (g : Lib → Lib) (s : State) : ((Eff.lib g).apply s).otp = s.otp := rfl
@[simp] theorem Eff.lib_pins (g : Lib → Lib) (s : State) : ((Eff.lib g).apply s).pins = s.pins := rfl
@[simp] theorem Eff.lib_boot (g : Lib → Lib) (s : State) : ((Eff.lib g).apply s).boot = s.boot := rfl
@[simp] theorem Eff.lib_cam (g : Lib → Lib) (s : State) : ((Eff.lib g).apply s).cam = s.cam := rfl
@[simp] theorem Eff.lib_cast (g : Lib → Lib) (s : State) : ((Eff.lib g).apply s).cast = s.cast := rfl
@[simp] theorem Eff.lib_str (g : Lib → Lib) (s : State) : ((Eff.lib g).apply s).str = s.str := rfl
@[simp] theorem Eff.lib_wall (g : Lib → Lib) (s : State) : ((Eff.lib g).apply s).wall = s.wall := rfl
@[simp] theorem Eff.lib_pat (g : Lib → Lib) (s : State) : ((Eff.lib g).apply s).pat = s.pat := rfl
@[simp] theorem Eff.lib_lib (g : Lib → Lib) (s : State) : ((Eff.lib g).apply s).lib = g s.lib := rfl
@[simp] theorem Eff.lib_tlk (g : Lib → Lib) (s : State) : ((Eff.lib g).apply s).tlk = s.tlk := rfl
@[simp] theorem Eff.lib_tim (g : Lib → Lib) (s : State) : ((Eff.lib g).apply s).tim = s.tim := rfl
@[simp] theorem Eff.lib_aud (g : Lib → Lib) (s : State) : ((Eff.lib g).apply s).aud = s.aud := rfl
@[simp] theorem Eff.lib_cst (g : Lib → Lib) (s : State) : ((Eff.lib g).apply s).cst = s.cst := rfl
@[simp] theorem Eff.lib_mem (g : Lib → Lib) (s : State) : ((Eff.lib g).apply s).mem = s.mem := rfl
@[simp] theorem Eff.lib_dma (g : Lib → Lib) (s : State) : ((Eff.lib g).apply s).dma = s.dma := rfl
@[simp] theorem Eff.lib_sec (g : Lib → Lib) (s : State) : ((Eff.lib g).apply s).sec = s.sec := rfl
/-! ### tlk -/
@[simp] theorem Eff.tlk_pending (g : Tlk → Tlk) (s : State) : ((Eff.tlk g).apply s).pending = s.pending := rfl
@[simp] theorem Eff.tlk_regs (g : Tlk → Tlk) (s : State) : ((Eff.tlk g).apply s).regs = s.regs := rfl
@[simp] theorem Eff.tlk_prms (g : Tlk → Tlk) (s : State) : ((Eff.tlk g).apply s).prms = s.prms := rfl
@[simp] theorem Eff.tlk_objs (g : Tlk → Tlk) (s : State) : ((Eff.tlk g).apply s).objs = s.objs := rfl
@[simp] theorem Eff.tlk_devMem (g : Tlk → Tlk) (s : State) : ((Eff.tlk g).apply s).devMem = s.devMem := rfl
@[simp] theorem Eff.tlk_hostMem (g : Tlk → Tlk) (s : State) : ((Eff.tlk g).apply s).hostMem = s.hostMem := rfl
@[simp] theorem Eff.tlk_pageMem (g : Tlk → Tlk) (s : State) : ((Eff.tlk g).apply s).pageMem = s.pageMem := rfl
@[simp] theorem Eff.tlk_poison (g : Tlk → Tlk) (s : State) : ((Eff.tlk g).apply s).poison = s.poison := rfl
@[simp] theorem Eff.tlk_pairLatch (g : Tlk → Tlk) (s : State) : ((Eff.tlk g).apply s).pairLatch = s.pairLatch := rfl
@[simp] theorem Eff.tlk_pairHeld (g : Tlk → Tlk) (s : State) : ((Eff.tlk g).apply s).pairHeld = s.pairHeld := rfl
@[simp] theorem Eff.tlk_freeCtr (g : Tlk → Tlk) (s : State) : ((Eff.tlk g).apply s).freeCtr = s.freeCtr := rfl
@[simp] theorem Eff.tlk_uptime (g : Tlk → Tlk) (s : State) : ((Eff.tlk g).apply s).uptime = s.uptime := rfl
@[simp] theorem Eff.tlk_out (g : Tlk → Tlk) (s : State) : ((Eff.tlk g).apply s).out = s.out := rfl
@[simp] theorem Eff.tlk_arm (g : Tlk → Tlk) (s : State) : ((Eff.tlk g).apply s).arm = s.arm := rfl
@[simp] theorem Eff.tlk_thm (g : Tlk → Tlk) (s : State) : ((Eff.tlk g).apply s).thm = s.thm := rfl
@[simp] theorem Eff.tlk_flt (g : Tlk → Tlk) (s : State) : ((Eff.tlk g).apply s).flt = s.flt := rfl
@[simp] theorem Eff.tlk_lan (g : Tlk → Tlk) (s : State) : ((Eff.tlk g).apply s).lan = s.lan := rfl
@[simp] theorem Eff.tlk_nvs (g : Tlk → Tlk) (s : State) : ((Eff.tlk g).apply s).nvs = s.nvs := rfl
@[simp] theorem Eff.tlk_otp (g : Tlk → Tlk) (s : State) : ((Eff.tlk g).apply s).otp = s.otp := rfl
@[simp] theorem Eff.tlk_pins (g : Tlk → Tlk) (s : State) : ((Eff.tlk g).apply s).pins = s.pins := rfl
@[simp] theorem Eff.tlk_boot (g : Tlk → Tlk) (s : State) : ((Eff.tlk g).apply s).boot = s.boot := rfl
@[simp] theorem Eff.tlk_cam (g : Tlk → Tlk) (s : State) : ((Eff.tlk g).apply s).cam = s.cam := rfl
@[simp] theorem Eff.tlk_cast (g : Tlk → Tlk) (s : State) : ((Eff.tlk g).apply s).cast = s.cast := rfl
@[simp] theorem Eff.tlk_str (g : Tlk → Tlk) (s : State) : ((Eff.tlk g).apply s).str = s.str := rfl
@[simp] theorem Eff.tlk_wall (g : Tlk → Tlk) (s : State) : ((Eff.tlk g).apply s).wall = s.wall := rfl
@[simp] theorem Eff.tlk_pat (g : Tlk → Tlk) (s : State) : ((Eff.tlk g).apply s).pat = s.pat := rfl
@[simp] theorem Eff.tlk_lib (g : Tlk → Tlk) (s : State) : ((Eff.tlk g).apply s).lib = s.lib := rfl
@[simp] theorem Eff.tlk_tlk (g : Tlk → Tlk) (s : State) : ((Eff.tlk g).apply s).tlk = g s.tlk := rfl
@[simp] theorem Eff.tlk_tim (g : Tlk → Tlk) (s : State) : ((Eff.tlk g).apply s).tim = s.tim := rfl
@[simp] theorem Eff.tlk_aud (g : Tlk → Tlk) (s : State) : ((Eff.tlk g).apply s).aud = s.aud := rfl
@[simp] theorem Eff.tlk_cst (g : Tlk → Tlk) (s : State) : ((Eff.tlk g).apply s).cst = s.cst := rfl
@[simp] theorem Eff.tlk_mem (g : Tlk → Tlk) (s : State) : ((Eff.tlk g).apply s).mem = s.mem := rfl
@[simp] theorem Eff.tlk_dma (g : Tlk → Tlk) (s : State) : ((Eff.tlk g).apply s).dma = s.dma := rfl
@[simp] theorem Eff.tlk_sec (g : Tlk → Tlk) (s : State) : ((Eff.tlk g).apply s).sec = s.sec := rfl
/-! ### tim -/
@[simp] theorem Eff.tim_pending (g : Tim → Tim) (s : State) : ((Eff.tim g).apply s).pending = s.pending := rfl
@[simp] theorem Eff.tim_regs (g : Tim → Tim) (s : State) : ((Eff.tim g).apply s).regs = s.regs := rfl
@[simp] theorem Eff.tim_prms (g : Tim → Tim) (s : State) : ((Eff.tim g).apply s).prms = s.prms := rfl
@[simp] theorem Eff.tim_objs (g : Tim → Tim) (s : State) : ((Eff.tim g).apply s).objs = s.objs := rfl
@[simp] theorem Eff.tim_devMem (g : Tim → Tim) (s : State) : ((Eff.tim g).apply s).devMem = s.devMem := rfl
@[simp] theorem Eff.tim_hostMem (g : Tim → Tim) (s : State) : ((Eff.tim g).apply s).hostMem = s.hostMem := rfl
@[simp] theorem Eff.tim_pageMem (g : Tim → Tim) (s : State) : ((Eff.tim g).apply s).pageMem = s.pageMem := rfl
@[simp] theorem Eff.tim_poison (g : Tim → Tim) (s : State) : ((Eff.tim g).apply s).poison = s.poison := rfl
@[simp] theorem Eff.tim_pairLatch (g : Tim → Tim) (s : State) : ((Eff.tim g).apply s).pairLatch = s.pairLatch := rfl
@[simp] theorem Eff.tim_pairHeld (g : Tim → Tim) (s : State) : ((Eff.tim g).apply s).pairHeld = s.pairHeld := rfl
@[simp] theorem Eff.tim_freeCtr (g : Tim → Tim) (s : State) : ((Eff.tim g).apply s).freeCtr = s.freeCtr := rfl
@[simp] theorem Eff.tim_uptime (g : Tim → Tim) (s : State) : ((Eff.tim g).apply s).uptime = s.uptime := rfl
@[simp] theorem Eff.tim_out (g : Tim → Tim) (s : State) : ((Eff.tim g).apply s).out = s.out := rfl
@[simp] theorem Eff.tim_arm (g : Tim → Tim) (s : State) : ((Eff.tim g).apply s).arm = s.arm := rfl
@[simp] theorem Eff.tim_thm (g : Tim → Tim) (s : State) : ((Eff.tim g).apply s).thm = s.thm := rfl
@[simp] theorem Eff.tim_flt (g : Tim → Tim) (s : State) : ((Eff.tim g).apply s).flt = s.flt := rfl
@[simp] theorem Eff.tim_lan (g : Tim → Tim) (s : State) : ((Eff.tim g).apply s).lan = s.lan := rfl
@[simp] theorem Eff.tim_nvs (g : Tim → Tim) (s : State) : ((Eff.tim g).apply s).nvs = s.nvs := rfl
@[simp] theorem Eff.tim_otp (g : Tim → Tim) (s : State) : ((Eff.tim g).apply s).otp = s.otp := rfl
@[simp] theorem Eff.tim_pins (g : Tim → Tim) (s : State) : ((Eff.tim g).apply s).pins = s.pins := rfl
@[simp] theorem Eff.tim_boot (g : Tim → Tim) (s : State) : ((Eff.tim g).apply s).boot = s.boot := rfl
@[simp] theorem Eff.tim_cam (g : Tim → Tim) (s : State) : ((Eff.tim g).apply s).cam = s.cam := rfl
@[simp] theorem Eff.tim_cast (g : Tim → Tim) (s : State) : ((Eff.tim g).apply s).cast = s.cast := rfl
@[simp] theorem Eff.tim_str (g : Tim → Tim) (s : State) : ((Eff.tim g).apply s).str = s.str := rfl
@[simp] theorem Eff.tim_wall (g : Tim → Tim) (s : State) : ((Eff.tim g).apply s).wall = s.wall := rfl
@[simp] theorem Eff.tim_pat (g : Tim → Tim) (s : State) : ((Eff.tim g).apply s).pat = s.pat := rfl
@[simp] theorem Eff.tim_lib (g : Tim → Tim) (s : State) : ((Eff.tim g).apply s).lib = s.lib := rfl
@[simp] theorem Eff.tim_tlk (g : Tim → Tim) (s : State) : ((Eff.tim g).apply s).tlk = s.tlk := rfl
@[simp] theorem Eff.tim_tim (g : Tim → Tim) (s : State) : ((Eff.tim g).apply s).tim = g s.tim := rfl
@[simp] theorem Eff.tim_aud (g : Tim → Tim) (s : State) : ((Eff.tim g).apply s).aud = s.aud := rfl
@[simp] theorem Eff.tim_cst (g : Tim → Tim) (s : State) : ((Eff.tim g).apply s).cst = s.cst := rfl
@[simp] theorem Eff.tim_mem (g : Tim → Tim) (s : State) : ((Eff.tim g).apply s).mem = s.mem := rfl
@[simp] theorem Eff.tim_dma (g : Tim → Tim) (s : State) : ((Eff.tim g).apply s).dma = s.dma := rfl
@[simp] theorem Eff.tim_sec (g : Tim → Tim) (s : State) : ((Eff.tim g).apply s).sec = s.sec := rfl
/-! ### aud -/
@[simp] theorem Eff.aud_pending (g : Aud → Aud) (s : State) : ((Eff.aud g).apply s).pending = s.pending := rfl
@[simp] theorem Eff.aud_regs (g : Aud → Aud) (s : State) : ((Eff.aud g).apply s).regs = s.regs := rfl
@[simp] theorem Eff.aud_prms (g : Aud → Aud) (s : State) : ((Eff.aud g).apply s).prms = s.prms := rfl
@[simp] theorem Eff.aud_objs (g : Aud → Aud) (s : State) : ((Eff.aud g).apply s).objs = s.objs := rfl
@[simp] theorem Eff.aud_devMem (g : Aud → Aud) (s : State) : ((Eff.aud g).apply s).devMem = s.devMem := rfl
@[simp] theorem Eff.aud_hostMem (g : Aud → Aud) (s : State) : ((Eff.aud g).apply s).hostMem = s.hostMem := rfl
@[simp] theorem Eff.aud_pageMem (g : Aud → Aud) (s : State) : ((Eff.aud g).apply s).pageMem = s.pageMem := rfl
@[simp] theorem Eff.aud_poison (g : Aud → Aud) (s : State) : ((Eff.aud g).apply s).poison = s.poison := rfl
@[simp] theorem Eff.aud_pairLatch (g : Aud → Aud) (s : State) : ((Eff.aud g).apply s).pairLatch = s.pairLatch := rfl
@[simp] theorem Eff.aud_pairHeld (g : Aud → Aud) (s : State) : ((Eff.aud g).apply s).pairHeld = s.pairHeld := rfl
@[simp] theorem Eff.aud_freeCtr (g : Aud → Aud) (s : State) : ((Eff.aud g).apply s).freeCtr = s.freeCtr := rfl
@[simp] theorem Eff.aud_uptime (g : Aud → Aud) (s : State) : ((Eff.aud g).apply s).uptime = s.uptime := rfl
@[simp] theorem Eff.aud_out (g : Aud → Aud) (s : State) : ((Eff.aud g).apply s).out = s.out := rfl
@[simp] theorem Eff.aud_arm (g : Aud → Aud) (s : State) : ((Eff.aud g).apply s).arm = s.arm := rfl
@[simp] theorem Eff.aud_thm (g : Aud → Aud) (s : State) : ((Eff.aud g).apply s).thm = s.thm := rfl
@[simp] theorem Eff.aud_flt (g : Aud → Aud) (s : State) : ((Eff.aud g).apply s).flt = s.flt := rfl
@[simp] theorem Eff.aud_lan (g : Aud → Aud) (s : State) : ((Eff.aud g).apply s).lan = s.lan := rfl
@[simp] theorem Eff.aud_nvs (g : Aud → Aud) (s : State) : ((Eff.aud g).apply s).nvs = s.nvs := rfl
@[simp] theorem Eff.aud_otp (g : Aud → Aud) (s : State) : ((Eff.aud g).apply s).otp = s.otp := rfl
@[simp] theorem Eff.aud_pins (g : Aud → Aud) (s : State) : ((Eff.aud g).apply s).pins = s.pins := rfl
@[simp] theorem Eff.aud_boot (g : Aud → Aud) (s : State) : ((Eff.aud g).apply s).boot = s.boot := rfl
@[simp] theorem Eff.aud_cam (g : Aud → Aud) (s : State) : ((Eff.aud g).apply s).cam = s.cam := rfl
@[simp] theorem Eff.aud_cast (g : Aud → Aud) (s : State) : ((Eff.aud g).apply s).cast = s.cast := rfl
@[simp] theorem Eff.aud_str (g : Aud → Aud) (s : State) : ((Eff.aud g).apply s).str = s.str := rfl
@[simp] theorem Eff.aud_wall (g : Aud → Aud) (s : State) : ((Eff.aud g).apply s).wall = s.wall := rfl
@[simp] theorem Eff.aud_pat (g : Aud → Aud) (s : State) : ((Eff.aud g).apply s).pat = s.pat := rfl
@[simp] theorem Eff.aud_lib (g : Aud → Aud) (s : State) : ((Eff.aud g).apply s).lib = s.lib := rfl
@[simp] theorem Eff.aud_tlk (g : Aud → Aud) (s : State) : ((Eff.aud g).apply s).tlk = s.tlk := rfl
@[simp] theorem Eff.aud_tim (g : Aud → Aud) (s : State) : ((Eff.aud g).apply s).tim = s.tim := rfl
@[simp] theorem Eff.aud_aud (g : Aud → Aud) (s : State) : ((Eff.aud g).apply s).aud = g s.aud := rfl
@[simp] theorem Eff.aud_cst (g : Aud → Aud) (s : State) : ((Eff.aud g).apply s).cst = s.cst := rfl
@[simp] theorem Eff.aud_mem (g : Aud → Aud) (s : State) : ((Eff.aud g).apply s).mem = s.mem := rfl
@[simp] theorem Eff.aud_dma (g : Aud → Aud) (s : State) : ((Eff.aud g).apply s).dma = s.dma := rfl
@[simp] theorem Eff.aud_sec (g : Aud → Aud) (s : State) : ((Eff.aud g).apply s).sec = s.sec := rfl
/-! ### cst -/
@[simp] theorem Eff.cst_pending (g : Cst → Cst) (s : State) : ((Eff.cst g).apply s).pending = s.pending := rfl
@[simp] theorem Eff.cst_regs (g : Cst → Cst) (s : State) : ((Eff.cst g).apply s).regs = s.regs := rfl
@[simp] theorem Eff.cst_prms (g : Cst → Cst) (s : State) : ((Eff.cst g).apply s).prms = s.prms := rfl
@[simp] theorem Eff.cst_objs (g : Cst → Cst) (s : State) : ((Eff.cst g).apply s).objs = s.objs := rfl
@[simp] theorem Eff.cst_devMem (g : Cst → Cst) (s : State) : ((Eff.cst g).apply s).devMem = s.devMem := rfl
@[simp] theorem Eff.cst_hostMem (g : Cst → Cst) (s : State) : ((Eff.cst g).apply s).hostMem = s.hostMem := rfl
@[simp] theorem Eff.cst_pageMem (g : Cst → Cst) (s : State) : ((Eff.cst g).apply s).pageMem = s.pageMem := rfl
@[simp] theorem Eff.cst_poison (g : Cst → Cst) (s : State) : ((Eff.cst g).apply s).poison = s.poison := rfl
@[simp] theorem Eff.cst_pairLatch (g : Cst → Cst) (s : State) : ((Eff.cst g).apply s).pairLatch = s.pairLatch := rfl
@[simp] theorem Eff.cst_pairHeld (g : Cst → Cst) (s : State) : ((Eff.cst g).apply s).pairHeld = s.pairHeld := rfl
@[simp] theorem Eff.cst_freeCtr (g : Cst → Cst) (s : State) : ((Eff.cst g).apply s).freeCtr = s.freeCtr := rfl
@[simp] theorem Eff.cst_uptime (g : Cst → Cst) (s : State) : ((Eff.cst g).apply s).uptime = s.uptime := rfl
@[simp] theorem Eff.cst_out (g : Cst → Cst) (s : State) : ((Eff.cst g).apply s).out = s.out := rfl
@[simp] theorem Eff.cst_arm (g : Cst → Cst) (s : State) : ((Eff.cst g).apply s).arm = s.arm := rfl
@[simp] theorem Eff.cst_thm (g : Cst → Cst) (s : State) : ((Eff.cst g).apply s).thm = s.thm := rfl
@[simp] theorem Eff.cst_flt (g : Cst → Cst) (s : State) : ((Eff.cst g).apply s).flt = s.flt := rfl
@[simp] theorem Eff.cst_lan (g : Cst → Cst) (s : State) : ((Eff.cst g).apply s).lan = s.lan := rfl
@[simp] theorem Eff.cst_nvs (g : Cst → Cst) (s : State) : ((Eff.cst g).apply s).nvs = s.nvs := rfl
@[simp] theorem Eff.cst_otp (g : Cst → Cst) (s : State) : ((Eff.cst g).apply s).otp = s.otp := rfl
@[simp] theorem Eff.cst_pins (g : Cst → Cst) (s : State) : ((Eff.cst g).apply s).pins = s.pins := rfl
@[simp] theorem Eff.cst_boot (g : Cst → Cst) (s : State) : ((Eff.cst g).apply s).boot = s.boot := rfl
@[simp] theorem Eff.cst_cam (g : Cst → Cst) (s : State) : ((Eff.cst g).apply s).cam = s.cam := rfl
@[simp] theorem Eff.cst_cast (g : Cst → Cst) (s : State) : ((Eff.cst g).apply s).cast = s.cast := rfl
@[simp] theorem Eff.cst_str (g : Cst → Cst) (s : State) : ((Eff.cst g).apply s).str = s.str := rfl
@[simp] theorem Eff.cst_wall (g : Cst → Cst) (s : State) : ((Eff.cst g).apply s).wall = s.wall := rfl
@[simp] theorem Eff.cst_pat (g : Cst → Cst) (s : State) : ((Eff.cst g).apply s).pat = s.pat := rfl
@[simp] theorem Eff.cst_lib (g : Cst → Cst) (s : State) : ((Eff.cst g).apply s).lib = s.lib := rfl
@[simp] theorem Eff.cst_tlk (g : Cst → Cst) (s : State) : ((Eff.cst g).apply s).tlk = s.tlk := rfl
@[simp] theorem Eff.cst_tim (g : Cst → Cst) (s : State) : ((Eff.cst g).apply s).tim = s.tim := rfl
@[simp] theorem Eff.cst_aud (g : Cst → Cst) (s : State) : ((Eff.cst g).apply s).aud = s.aud := rfl
@[simp] theorem Eff.cst_cst (g : Cst → Cst) (s : State) : ((Eff.cst g).apply s).cst = g s.cst := rfl
@[simp] theorem Eff.cst_mem (g : Cst → Cst) (s : State) : ((Eff.cst g).apply s).mem = s.mem := rfl
@[simp] theorem Eff.cst_dma (g : Cst → Cst) (s : State) : ((Eff.cst g).apply s).dma = s.dma := rfl
@[simp] theorem Eff.cst_sec (g : Cst → Cst) (s : State) : ((Eff.cst g).apply s).sec = s.sec := rfl
/-! ### mem -/
@[simp] theorem Eff.mem_pending (g : MemSt → MemSt) (s : State) : ((Eff.mem g).apply s).pending = s.pending := rfl
@[simp] theorem Eff.mem_regs (g : MemSt → MemSt) (s : State) : ((Eff.mem g).apply s).regs = s.regs := rfl
@[simp] theorem Eff.mem_prms (g : MemSt → MemSt) (s : State) : ((Eff.mem g).apply s).prms = s.prms := rfl
@[simp] theorem Eff.mem_objs (g : MemSt → MemSt) (s : State) : ((Eff.mem g).apply s).objs = s.objs := rfl
@[simp] theorem Eff.mem_devMem (g : MemSt → MemSt) (s : State) : ((Eff.mem g).apply s).devMem = s.devMem := rfl
@[simp] theorem Eff.mem_hostMem (g : MemSt → MemSt) (s : State) : ((Eff.mem g).apply s).hostMem = s.hostMem := rfl
@[simp] theorem Eff.mem_pageMem (g : MemSt → MemSt) (s : State) : ((Eff.mem g).apply s).pageMem = s.pageMem := rfl
@[simp] theorem Eff.mem_poison (g : MemSt → MemSt) (s : State) : ((Eff.mem g).apply s).poison = s.poison := rfl
@[simp] theorem Eff.mem_pairLatch (g : MemSt → MemSt) (s : State) : ((Eff.mem g).apply s).pairLatch = s.pairLatch := rfl
@[simp] theorem Eff.mem_pairHeld (g : MemSt → MemSt) (s : State) : ((Eff.mem g).apply s).pairHeld = s.pairHeld := rfl
@[simp] theorem Eff.mem_freeCtr (g : MemSt → MemSt) (s : State) : ((Eff.mem g).apply s).freeCtr = s.freeCtr := rfl
@[simp] theorem Eff.mem_uptime (g : MemSt → MemSt) (s : State) : ((Eff.mem g).apply s).uptime = s.uptime := rfl
@[simp] theorem Eff.mem_out (g : MemSt → MemSt) (s : State) : ((Eff.mem g).apply s).out = s.out := rfl
@[simp] theorem Eff.mem_arm (g : MemSt → MemSt) (s : State) : ((Eff.mem g).apply s).arm = s.arm := rfl
@[simp] theorem Eff.mem_thm (g : MemSt → MemSt) (s : State) : ((Eff.mem g).apply s).thm = s.thm := rfl
@[simp] theorem Eff.mem_flt (g : MemSt → MemSt) (s : State) : ((Eff.mem g).apply s).flt = s.flt := rfl
@[simp] theorem Eff.mem_lan (g : MemSt → MemSt) (s : State) : ((Eff.mem g).apply s).lan = s.lan := rfl
@[simp] theorem Eff.mem_nvs (g : MemSt → MemSt) (s : State) : ((Eff.mem g).apply s).nvs = s.nvs := rfl
@[simp] theorem Eff.mem_otp (g : MemSt → MemSt) (s : State) : ((Eff.mem g).apply s).otp = s.otp := rfl
@[simp] theorem Eff.mem_pins (g : MemSt → MemSt) (s : State) : ((Eff.mem g).apply s).pins = s.pins := rfl
@[simp] theorem Eff.mem_boot (g : MemSt → MemSt) (s : State) : ((Eff.mem g).apply s).boot = s.boot := rfl
@[simp] theorem Eff.mem_cam (g : MemSt → MemSt) (s : State) : ((Eff.mem g).apply s).cam = s.cam := rfl
@[simp] theorem Eff.mem_cast (g : MemSt → MemSt) (s : State) : ((Eff.mem g).apply s).cast = s.cast := rfl
@[simp] theorem Eff.mem_str (g : MemSt → MemSt) (s : State) : ((Eff.mem g).apply s).str = s.str := rfl
@[simp] theorem Eff.mem_wall (g : MemSt → MemSt) (s : State) : ((Eff.mem g).apply s).wall = s.wall := rfl
@[simp] theorem Eff.mem_pat (g : MemSt → MemSt) (s : State) : ((Eff.mem g).apply s).pat = s.pat := rfl
@[simp] theorem Eff.mem_lib (g : MemSt → MemSt) (s : State) : ((Eff.mem g).apply s).lib = s.lib := rfl
@[simp] theorem Eff.mem_tlk (g : MemSt → MemSt) (s : State) : ((Eff.mem g).apply s).tlk = s.tlk := rfl
@[simp] theorem Eff.mem_tim (g : MemSt → MemSt) (s : State) : ((Eff.mem g).apply s).tim = s.tim := rfl
@[simp] theorem Eff.mem_aud (g : MemSt → MemSt) (s : State) : ((Eff.mem g).apply s).aud = s.aud := rfl
@[simp] theorem Eff.mem_cst (g : MemSt → MemSt) (s : State) : ((Eff.mem g).apply s).cst = s.cst := rfl
@[simp] theorem Eff.mem_mem (g : MemSt → MemSt) (s : State) : ((Eff.mem g).apply s).mem = g s.mem := rfl
@[simp] theorem Eff.mem_dma (g : MemSt → MemSt) (s : State) : ((Eff.mem g).apply s).dma = s.dma := rfl
@[simp] theorem Eff.mem_sec (g : MemSt → MemSt) (s : State) : ((Eff.mem g).apply s).sec = s.sec := rfl
/-! ### dma -/
@[simp] theorem Eff.dma_pending (g : Dma → Dma) (s : State) : ((Eff.dma g).apply s).pending = s.pending := rfl
@[simp] theorem Eff.dma_regs (g : Dma → Dma) (s : State) : ((Eff.dma g).apply s).regs = s.regs := rfl
@[simp] theorem Eff.dma_prms (g : Dma → Dma) (s : State) : ((Eff.dma g).apply s).prms = s.prms := rfl
@[simp] theorem Eff.dma_objs (g : Dma → Dma) (s : State) : ((Eff.dma g).apply s).objs = s.objs := rfl
@[simp] theorem Eff.dma_devMem (g : Dma → Dma) (s : State) : ((Eff.dma g).apply s).devMem = s.devMem := rfl
@[simp] theorem Eff.dma_hostMem (g : Dma → Dma) (s : State) : ((Eff.dma g).apply s).hostMem = s.hostMem := rfl
@[simp] theorem Eff.dma_pageMem (g : Dma → Dma) (s : State) : ((Eff.dma g).apply s).pageMem = s.pageMem := rfl
@[simp] theorem Eff.dma_poison (g : Dma → Dma) (s : State) : ((Eff.dma g).apply s).poison = s.poison := rfl
@[simp] theorem Eff.dma_pairLatch (g : Dma → Dma) (s : State) : ((Eff.dma g).apply s).pairLatch = s.pairLatch := rfl
@[simp] theorem Eff.dma_pairHeld (g : Dma → Dma) (s : State) : ((Eff.dma g).apply s).pairHeld = s.pairHeld := rfl
@[simp] theorem Eff.dma_freeCtr (g : Dma → Dma) (s : State) : ((Eff.dma g).apply s).freeCtr = s.freeCtr := rfl
@[simp] theorem Eff.dma_uptime (g : Dma → Dma) (s : State) : ((Eff.dma g).apply s).uptime = s.uptime := rfl
@[simp] theorem Eff.dma_out (g : Dma → Dma) (s : State) : ((Eff.dma g).apply s).out = s.out := rfl
@[simp] theorem Eff.dma_arm (g : Dma → Dma) (s : State) : ((Eff.dma g).apply s).arm = s.arm := rfl
@[simp] theorem Eff.dma_thm (g : Dma → Dma) (s : State) : ((Eff.dma g).apply s).thm = s.thm := rfl
@[simp] theorem Eff.dma_flt (g : Dma → Dma) (s : State) : ((Eff.dma g).apply s).flt = s.flt := rfl
@[simp] theorem Eff.dma_lan (g : Dma → Dma) (s : State) : ((Eff.dma g).apply s).lan = s.lan := rfl
@[simp] theorem Eff.dma_nvs (g : Dma → Dma) (s : State) : ((Eff.dma g).apply s).nvs = s.nvs := rfl
@[simp] theorem Eff.dma_otp (g : Dma → Dma) (s : State) : ((Eff.dma g).apply s).otp = s.otp := rfl
@[simp] theorem Eff.dma_pins (g : Dma → Dma) (s : State) : ((Eff.dma g).apply s).pins = s.pins := rfl
@[simp] theorem Eff.dma_boot (g : Dma → Dma) (s : State) : ((Eff.dma g).apply s).boot = s.boot := rfl
@[simp] theorem Eff.dma_cam (g : Dma → Dma) (s : State) : ((Eff.dma g).apply s).cam = s.cam := rfl
@[simp] theorem Eff.dma_cast (g : Dma → Dma) (s : State) : ((Eff.dma g).apply s).cast = s.cast := rfl
@[simp] theorem Eff.dma_str (g : Dma → Dma) (s : State) : ((Eff.dma g).apply s).str = s.str := rfl
@[simp] theorem Eff.dma_wall (g : Dma → Dma) (s : State) : ((Eff.dma g).apply s).wall = s.wall := rfl
@[simp] theorem Eff.dma_pat (g : Dma → Dma) (s : State) : ((Eff.dma g).apply s).pat = s.pat := rfl
@[simp] theorem Eff.dma_lib (g : Dma → Dma) (s : State) : ((Eff.dma g).apply s).lib = s.lib := rfl
@[simp] theorem Eff.dma_tlk (g : Dma → Dma) (s : State) : ((Eff.dma g).apply s).tlk = s.tlk := rfl
@[simp] theorem Eff.dma_tim (g : Dma → Dma) (s : State) : ((Eff.dma g).apply s).tim = s.tim := rfl
@[simp] theorem Eff.dma_aud (g : Dma → Dma) (s : State) : ((Eff.dma g).apply s).aud = s.aud := rfl
@[simp] theorem Eff.dma_cst (g : Dma → Dma) (s : State) : ((Eff.dma g).apply s).cst = s.cst := rfl
@[simp] theorem Eff.dma_mem (g : Dma → Dma) (s : State) : ((Eff.dma g).apply s).mem = s.mem := rfl
@[simp] theorem Eff.dma_dma (g : Dma → Dma) (s : State) : ((Eff.dma g).apply s).dma = g s.dma := rfl
@[simp] theorem Eff.dma_sec (g : Dma → Dma) (s : State) : ((Eff.dma g).apply s).sec = s.sec := rfl
/-! ### sec -/
@[simp] theorem Eff.sec_pending (g : Sec → Sec) (s : State) : ((Eff.sec g).apply s).pending = s.pending := rfl
@[simp] theorem Eff.sec_regs (g : Sec → Sec) (s : State) : ((Eff.sec g).apply s).regs = s.regs := rfl
@[simp] theorem Eff.sec_prms (g : Sec → Sec) (s : State) : ((Eff.sec g).apply s).prms = s.prms := rfl
@[simp] theorem Eff.sec_objs (g : Sec → Sec) (s : State) : ((Eff.sec g).apply s).objs = s.objs := rfl
@[simp] theorem Eff.sec_devMem (g : Sec → Sec) (s : State) : ((Eff.sec g).apply s).devMem = s.devMem := rfl
@[simp] theorem Eff.sec_hostMem (g : Sec → Sec) (s : State) : ((Eff.sec g).apply s).hostMem = s.hostMem := rfl
@[simp] theorem Eff.sec_pageMem (g : Sec → Sec) (s : State) : ((Eff.sec g).apply s).pageMem = s.pageMem := rfl
@[simp] theorem Eff.sec_poison (g : Sec → Sec) (s : State) : ((Eff.sec g).apply s).poison = s.poison := rfl
@[simp] theorem Eff.sec_pairLatch (g : Sec → Sec) (s : State) : ((Eff.sec g).apply s).pairLatch = s.pairLatch := rfl
@[simp] theorem Eff.sec_pairHeld (g : Sec → Sec) (s : State) : ((Eff.sec g).apply s).pairHeld = s.pairHeld := rfl
@[simp] theorem Eff.sec_freeCtr (g : Sec → Sec) (s : State) : ((Eff.sec g).apply s).freeCtr = s.freeCtr := rfl
@[simp] theorem Eff.sec_uptime (g : Sec → Sec) (s : State) : ((Eff.sec g).apply s).uptime = s.uptime := rfl
@[simp] theorem Eff.sec_out (g : Sec → Sec) (s : State) : ((Eff.sec g).apply s).out = s.out := rfl
@[simp] theorem Eff.sec_arm (g : Sec → Sec) (s : State) : ((Eff.sec g).apply s).arm = s.arm := rfl
@[simp] theorem Eff.sec_thm (g : Sec → Sec) (s : State) : ((Eff.sec g).apply s).thm = s.thm := rfl
@[simp] theorem Eff.sec_flt (g : Sec → Sec) (s : State) : ((Eff.sec g).apply s).flt = s.flt := rfl
@[simp] theorem Eff.sec_lan (g : Sec → Sec) (s : State) : ((Eff.sec g).apply s).lan = s.lan := rfl
@[simp] theorem Eff.sec_nvs (g : Sec → Sec) (s : State) : ((Eff.sec g).apply s).nvs = s.nvs := rfl
@[simp] theorem Eff.sec_otp (g : Sec → Sec) (s : State) : ((Eff.sec g).apply s).otp = s.otp := rfl
@[simp] theorem Eff.sec_pins (g : Sec → Sec) (s : State) : ((Eff.sec g).apply s).pins = s.pins := rfl
@[simp] theorem Eff.sec_boot (g : Sec → Sec) (s : State) : ((Eff.sec g).apply s).boot = s.boot := rfl
@[simp] theorem Eff.sec_cam (g : Sec → Sec) (s : State) : ((Eff.sec g).apply s).cam = s.cam := rfl
@[simp] theorem Eff.sec_cast (g : Sec → Sec) (s : State) : ((Eff.sec g).apply s).cast = s.cast := rfl
@[simp] theorem Eff.sec_str (g : Sec → Sec) (s : State) : ((Eff.sec g).apply s).str = s.str := rfl
@[simp] theorem Eff.sec_wall (g : Sec → Sec) (s : State) : ((Eff.sec g).apply s).wall = s.wall := rfl
@[simp] theorem Eff.sec_pat (g : Sec → Sec) (s : State) : ((Eff.sec g).apply s).pat = s.pat := rfl
@[simp] theorem Eff.sec_lib (g : Sec → Sec) (s : State) : ((Eff.sec g).apply s).lib = s.lib := rfl
@[simp] theorem Eff.sec_tlk (g : Sec → Sec) (s : State) : ((Eff.sec g).apply s).tlk = s.tlk := rfl
@[simp] theorem Eff.sec_tim (g : Sec → Sec) (s : State) : ((Eff.sec g).apply s).tim = s.tim := rfl
@[simp] theorem Eff.sec_aud (g : Sec → Sec) (s : State) : ((Eff.sec g).apply s).aud = s.aud := rfl
@[simp] theorem Eff.sec_cst (g : Sec → Sec) (s : State) : ((Eff.sec g).apply s).cst = s.cst := rfl
@[simp] theorem Eff.sec_mem (g : Sec → Sec) (s : State) : ((Eff.sec g).apply s).mem = s.mem := rfl
@[simp] theorem Eff.sec_dma (g : Sec → Sec) (s : State) : ((Eff.sec g).apply s).dma = s.dma := rfl
@[simp] theorem Eff.sec_sec (g : Sec → Sec) (s : State) : ((Eff.sec g).apply s).sec = g s.sec := rfl
/-! ### raise -/
@[simp] theorem Eff.raise_pending (e : Nat) (s : State) : ((Eff.raise e).apply s).pending = s.pending := by
  show (raiseEvt e s).pending = s.pending; unfold raiseEvt; split <;> rfl
@[simp] theorem Eff.raise_prms (e : Nat) (s : State) : ((Eff.raise e).apply s).prms = s.prms := by
  show (raiseEvt e s).prms = s.prms; unfold raiseEvt; split <;> rfl
@[simp] theorem Eff.raise_objs (e : Nat) (s : State) : ((Eff.raise e).apply s).objs = s.objs := by
  show (raiseEvt e s).objs = s.objs; unfold raiseEvt; split <;> rfl
@[simp] theorem Eff.raise_devMem (e : Nat) (s : State) : ((Eff.raise e).apply s).devMem = s.devMem := by
  show (raiseEvt e s).devMem = s.devMem; unfold raiseEvt; split <;> rfl
@[simp] theorem Eff.raise_hostMem (e : Nat) (s : State) : ((Eff.raise e).apply s).hostMem = s.hostMem := by
  show (raiseEvt e s).hostMem = s.hostMem; unfold raiseEvt; split <;> rfl
@[simp] theorem Eff.raise_pageMem (e : Nat) (s : State) : ((Eff.raise e).apply s).pageMem = s.pageMem := by
  show (raiseEvt e s).pageMem = s.pageMem; unfold raiseEvt; split <;> rfl
@[simp] theorem Eff.raise_poison (e : Nat) (s : State) : ((Eff.raise e).apply s).poison = s.poison := by
  show (raiseEvt e s).poison = s.poison; unfold raiseEvt; split <;> rfl
@[simp] theorem Eff.raise_pairLatch (e : Nat) (s : State) : ((Eff.raise e).apply s).pairLatch = s.pairLatch := by
  show (raiseEvt e s).pairLatch = s.pairLatch; unfold raiseEvt; split <;> rfl
@[simp] theorem Eff.raise_pairHeld (e : Nat) (s : State) : ((Eff.raise e).apply s).pairHeld = s.pairHeld := by
  show (raiseEvt e s).pairHeld = s.pairHeld; unfold raiseEvt; split <;> rfl
@[simp] theorem Eff.raise_freeCtr (e : Nat) (s : State) : ((Eff.raise e).apply s).freeCtr = s.freeCtr := by
  show (raiseEvt e s).freeCtr = s.freeCtr; unfold raiseEvt; split <;> rfl
@[simp] theorem Eff.raise_uptime (e : Nat) (s : State) : ((Eff.raise e).apply s).uptime = s.uptime := by
  show (raiseEvt e s).uptime = s.uptime; unfold raiseEvt; split <;> rfl
@[simp] theorem Eff.raise_arm (e : Nat) (s : State) : ((Eff.raise e).apply s).arm = s.arm := by
  show (raiseEvt e s).arm = s.arm; unfold raiseEvt; split <;> rfl
@[simp] theorem Eff.raise_thm (e : Nat) (s : State) : ((Eff.raise e).apply s).thm = s.thm := by
  show (raiseEvt e s).thm = s.thm; unfold raiseEvt; split <;> rfl
@[simp] theorem Eff.raise_flt (e : Nat) (s : State) : ((Eff.raise e).apply s).flt = s.flt := by
  show (raiseEvt e s).flt = s.flt; unfold raiseEvt; split <;> rfl
@[simp] theorem Eff.raise_lan (e : Nat) (s : State) : ((Eff.raise e).apply s).lan = s.lan := by
  show (raiseEvt e s).lan = s.lan; unfold raiseEvt; split <;> rfl
@[simp] theorem Eff.raise_nvs (e : Nat) (s : State) : ((Eff.raise e).apply s).nvs = s.nvs := by
  show (raiseEvt e s).nvs = s.nvs; unfold raiseEvt; split <;> rfl
@[simp] theorem Eff.raise_otp (e : Nat) (s : State) : ((Eff.raise e).apply s).otp = s.otp := by
  show (raiseEvt e s).otp = s.otp; unfold raiseEvt; split <;> rfl
@[simp] theorem Eff.raise_pins (e : Nat) (s : State) : ((Eff.raise e).apply s).pins = s.pins := by
  show (raiseEvt e s).pins = s.pins; unfold raiseEvt; split <;> rfl
@[simp] theorem Eff.raise_boot (e : Nat) (s : State) : ((Eff.raise e).apply s).boot = s.boot := by
  show (raiseEvt e s).boot = s.boot; unfold raiseEvt; split <;> rfl
@[simp] theorem Eff.raise_cam (e : Nat) (s : State) : ((Eff.raise e).apply s).cam = s.cam := by
  show (raiseEvt e s).cam = s.cam; unfold raiseEvt; split <;> rfl
@[simp] theorem Eff.raise_cast (e : Nat) (s : State) : ((Eff.raise e).apply s).cast = s.cast := by
  show (raiseEvt e s).cast = s.cast; unfold raiseEvt; split <;> rfl
@[simp] theorem Eff.raise_str (e : Nat) (s : State) : ((Eff.raise e).apply s).str = s.str := by
  show (raiseEvt e s).str = s.str; unfold raiseEvt; split <;> rfl
@[simp] theorem Eff.raise_wall (e : Nat) (s : State) : ((Eff.raise e).apply s).wall = s.wall := by
  show (raiseEvt e s).wall = s.wall; unfold raiseEvt; split <;> rfl
@[simp] theorem Eff.raise_pat (e : Nat) (s : State) : ((Eff.raise e).apply s).pat = s.pat := by
  show (raiseEvt e s).pat = s.pat; unfold raiseEvt; split <;> rfl
@[simp] theorem Eff.raise_lib (e : Nat) (s : State) : ((Eff.raise e).apply s).lib = s.lib := by
  show (raiseEvt e s).lib = s.lib; unfold raiseEvt; split <;> rfl
@[simp] theorem Eff.raise_tlk (e : Nat) (s : State) : ((Eff.raise e).apply s).tlk = s.tlk := by
  show (raiseEvt e s).tlk = s.tlk; unfold raiseEvt; split <;> rfl
@[simp] theorem Eff.raise_tim (e : Nat) (s : State) : ((Eff.raise e).apply s).tim = s.tim := by
  show (raiseEvt e s).tim = s.tim; unfold raiseEvt; split <;> rfl
@[simp] theorem Eff.raise_aud (e : Nat) (s : State) : ((Eff.raise e).apply s).aud = s.aud := by
  show (raiseEvt e s).aud = s.aud; unfold raiseEvt; split <;> rfl
@[simp] theorem Eff.raise_cst (e : Nat) (s : State) : ((Eff.raise e).apply s).cst = s.cst := by
  show (raiseEvt e s).cst = s.cst; unfold raiseEvt; split <;> rfl
@[simp] theorem Eff.raise_mem (e : Nat) (s : State) : ((Eff.raise e).apply s).mem = s.mem := by
  show (raiseEvt e s).mem = s.mem; unfold raiseEvt; split <;> rfl
@[simp] theorem Eff.raise_dma (e : Nat) (s : State) : ((Eff.raise e).apply s).dma = s.dma := by
  show (raiseEvt e s).dma = s.dma; unfold raiseEvt; split <;> rfl
@[simp] theorem Eff.raise_sec (e : Nat) (s : State) : ((Eff.raise e).apply s).sec = s.sec := by
  show (raiseEvt e s).sec = s.sec; unfold raiseEvt; split <;> rfl
/-! ### emit -/
@[simp] theorem Eff.emit_pending (o : Out) (s : State) : ((Eff.emit o).apply s).pending = s.pending := by
  show (if o.onLane && tripped s then s else ({ s with out := s.out ++ [o] } : State)).pending = s.pending; split <;> rfl
@[simp] theorem Eff.emit_regs (o : Out) (s : State) : ((Eff.emit o).apply s).regs = s.regs := by
  show (if o.onLane && tripped s then s else ({ s with out := s.out ++ [o] } : State)).regs = s.regs; split <;> rfl
@[simp] theorem Eff.emit_prms (o : Out) (s : State) : ((Eff.emit o).apply s).prms = s.prms := by
  show (if o.onLane && tripped s then s else ({ s with out := s.out ++ [o] } : State)).prms = s.prms; split <;> rfl
@[simp] theorem Eff.emit_objs (o : Out) (s : State) : ((Eff.emit o).apply s).objs = s.objs := by
  show (if o.onLane && tripped s then s else ({ s with out := s.out ++ [o] } : State)).objs = s.objs; split <;> rfl
@[simp] theorem Eff.emit_devMem (o : Out) (s : State) : ((Eff.emit o).apply s).devMem = s.devMem := by
  show (if o.onLane && tripped s then s else ({ s with out := s.out ++ [o] } : State)).devMem = s.devMem; split <;> rfl
@[simp] theorem Eff.emit_hostMem (o : Out) (s : State) : ((Eff.emit o).apply s).hostMem = s.hostMem := by
  show (if o.onLane && tripped s then s else ({ s with out := s.out ++ [o] } : State)).hostMem = s.hostMem; split <;> rfl
@[simp] theorem Eff.emit_pageMem (o : Out) (s : State) : ((Eff.emit o).apply s).pageMem = s.pageMem := by
  show (if o.onLane && tripped s then s else ({ s with out := s.out ++ [o] } : State)).pageMem = s.pageMem; split <;> rfl
@[simp] theorem Eff.emit_poison (o : Out) (s : State) : ((Eff.emit o).apply s).poison = s.poison := by
  show (if o.onLane && tripped s then s else ({ s with out := s.out ++ [o] } : State)).poison = s.poison; split <;> rfl
@[simp] theorem Eff.emit_pairLatch (o : Out) (s : State) : ((Eff.emit o).apply s).pairLatch = s.pairLatch := by
  show (if o.onLane && tripped s then s else ({ s with out := s.out ++ [o] } : State)).pairLatch = s.pairLatch; split <;> rfl
@[simp] theorem Eff.emit_pairHeld (o : Out) (s : State) : ((Eff.emit o).apply s).pairHeld = s.pairHeld := by
  show (if o.onLane && tripped s then s else ({ s with out := s.out ++ [o] } : State)).pairHeld = s.pairHeld; split <;> rfl
@[simp] theorem Eff.emit_freeCtr (o : Out) (s : State) : ((Eff.emit o).apply s).freeCtr = s.freeCtr := by
  show (if o.onLane && tripped s then s else ({ s with out := s.out ++ [o] } : State)).freeCtr = s.freeCtr; split <;> rfl
@[simp] theorem Eff.emit_uptime (o : Out) (s : State) : ((Eff.emit o).apply s).uptime = s.uptime := by
  show (if o.onLane && tripped s then s else ({ s with out := s.out ++ [o] } : State)).uptime = s.uptime; split <;> rfl
@[simp] theorem Eff.emit_arm (o : Out) (s : State) : ((Eff.emit o).apply s).arm = s.arm := by
  show (if o.onLane && tripped s then s else ({ s with out := s.out ++ [o] } : State)).arm = s.arm; split <;> rfl
@[simp] theorem Eff.emit_thm (o : Out) (s : State) : ((Eff.emit o).apply s).thm = s.thm := by
  show (if o.onLane && tripped s then s else ({ s with out := s.out ++ [o] } : State)).thm = s.thm; split <;> rfl
@[simp] theorem Eff.emit_flt (o : Out) (s : State) : ((Eff.emit o).apply s).flt = s.flt := by
  show (if o.onLane && tripped s then s else ({ s with out := s.out ++ [o] } : State)).flt = s.flt; split <;> rfl
@[simp] theorem Eff.emit_lan (o : Out) (s : State) : ((Eff.emit o).apply s).lan = s.lan := by
  show (if o.onLane && tripped s then s else ({ s with out := s.out ++ [o] } : State)).lan = s.lan; split <;> rfl
@[simp] theorem Eff.emit_nvs (o : Out) (s : State) : ((Eff.emit o).apply s).nvs = s.nvs := by
  show (if o.onLane && tripped s then s else ({ s with out := s.out ++ [o] } : State)).nvs = s.nvs; split <;> rfl
@[simp] theorem Eff.emit_otp (o : Out) (s : State) : ((Eff.emit o).apply s).otp = s.otp := by
  show (if o.onLane && tripped s then s else ({ s with out := s.out ++ [o] } : State)).otp = s.otp; split <;> rfl
@[simp] theorem Eff.emit_pins (o : Out) (s : State) : ((Eff.emit o).apply s).pins = s.pins := by
  show (if o.onLane && tripped s then s else ({ s with out := s.out ++ [o] } : State)).pins = s.pins; split <;> rfl
@[simp] theorem Eff.emit_boot (o : Out) (s : State) : ((Eff.emit o).apply s).boot = s.boot := by
  show (if o.onLane && tripped s then s else ({ s with out := s.out ++ [o] } : State)).boot = s.boot; split <;> rfl
@[simp] theorem Eff.emit_cam (o : Out) (s : State) : ((Eff.emit o).apply s).cam = s.cam := by
  show (if o.onLane && tripped s then s else ({ s with out := s.out ++ [o] } : State)).cam = s.cam; split <;> rfl
@[simp] theorem Eff.emit_cast (o : Out) (s : State) : ((Eff.emit o).apply s).cast = s.cast := by
  show (if o.onLane && tripped s then s else ({ s with out := s.out ++ [o] } : State)).cast = s.cast; split <;> rfl
@[simp] theorem Eff.emit_str (o : Out) (s : State) : ((Eff.emit o).apply s).str = s.str := by
  show (if o.onLane && tripped s then s else ({ s with out := s.out ++ [o] } : State)).str = s.str; split <;> rfl
@[simp] theorem Eff.emit_wall (o : Out) (s : State) : ((Eff.emit o).apply s).wall = s.wall := by
  show (if o.onLane && tripped s then s else ({ s with out := s.out ++ [o] } : State)).wall = s.wall; split <;> rfl
@[simp] theorem Eff.emit_pat (o : Out) (s : State) : ((Eff.emit o).apply s).pat = s.pat := by
  show (if o.onLane && tripped s then s else ({ s with out := s.out ++ [o] } : State)).pat = s.pat; split <;> rfl
@[simp] theorem Eff.emit_lib (o : Out) (s : State) : ((Eff.emit o).apply s).lib = s.lib := by
  show (if o.onLane && tripped s then s else ({ s with out := s.out ++ [o] } : State)).lib = s.lib; split <;> rfl
@[simp] theorem Eff.emit_tlk (o : Out) (s : State) : ((Eff.emit o).apply s).tlk = s.tlk := by
  show (if o.onLane && tripped s then s else ({ s with out := s.out ++ [o] } : State)).tlk = s.tlk; split <;> rfl
@[simp] theorem Eff.emit_tim (o : Out) (s : State) : ((Eff.emit o).apply s).tim = s.tim := by
  show (if o.onLane && tripped s then s else ({ s with out := s.out ++ [o] } : State)).tim = s.tim; split <;> rfl
@[simp] theorem Eff.emit_aud (o : Out) (s : State) : ((Eff.emit o).apply s).aud = s.aud := by
  show (if o.onLane && tripped s then s else ({ s with out := s.out ++ [o] } : State)).aud = s.aud; split <;> rfl
@[simp] theorem Eff.emit_cst (o : Out) (s : State) : ((Eff.emit o).apply s).cst = s.cst := by
  show (if o.onLane && tripped s then s else ({ s with out := s.out ++ [o] } : State)).cst = s.cst; split <;> rfl
@[simp] theorem Eff.emit_mem (o : Out) (s : State) : ((Eff.emit o).apply s).mem = s.mem := by
  show (if o.onLane && tripped s then s else ({ s with out := s.out ++ [o] } : State)).mem = s.mem; split <;> rfl
@[simp] theorem Eff.emit_dma (o : Out) (s : State) : ((Eff.emit o).apply s).dma = s.dma := by
  show (if o.onLane && tripped s then s else ({ s with out := s.out ++ [o] } : State)).dma = s.dma; split <;> rfl
@[simp] theorem Eff.emit_sec (o : Out) (s : State) : ((Eff.emit o).apply s).sec = s.sec := by
  show (if o.onLane && tripped s then s else ({ s with out := s.out ++ [o] } : State)).sec = s.sec; split <;> rfl

end Sys2Proof.Machine
end

