-- ==== Sys2Proof/Laws/Ops.lean ====
section
/-! SUPPORT. What the shared operations of Machine/Ops.lean do: sparse maps, byte memory and its canonical form, bit fields,
the register file, parameters, and lists of effects. -/
namespace Sys2Proof.Machine

/-! ### Sparse maps -/

@[simp] theorem mapFind_insert_same {α : Type} (k : Nat) (v : α) (l : List (Nat × α)) : mapFind k (mapInsert k v l) = some v := by
  induction l with
  | nil => simp [mapInsert, mapFind]
  | cons e t ih =>
    obtain ⟨k', v'⟩ := e
    by_cases h1 : k < k'
    · simp [mapInsert, mapFind, h1]
    · by_cases h2 : k = k' <;> simp [mapInsert, mapFind, h1, h2, ih]

theorem mapFind_insert_ne {α : Type} {j k : Nat} (h : j ≠ k) (v : α) (l : List (Nat × α)) :
    mapFind j (mapInsert k v l) = mapFind j l := by
  induction l with
  | nil => simp [mapInsert, mapFind, h]
  | cons e t ih =>
    obtain ⟨k', v'⟩ := e
    by_cases h1 : k < k'
    · simp [mapInsert, mapFind, h1, h]
    · by_cases h2 : k = k'
      · subst h2; simp [mapInsert, mapFind, h]
      · simp [mapInsert, mapFind, h1, h2, ih]

@[simp] theorem mapFind_erase_same {α : Type} (k : Nat) (l : List (Nat × α)) : mapFind k (mapErase k l) = none := by
  induction l with
  | nil => simp [mapErase, mapFind]
  | cons e t ih =>
    obtain ⟨k', v'⟩ := e
    by_cases h : k = k' <;> simp [mapErase, mapFind, h] <;> simpa [h] using ih

theorem mapFind_erase_ne {α : Type} {j k : Nat} (h : j ≠ k) (l : List (Nat × α)) : mapFind j (mapErase k l) = mapFind j l := by
  induction l with
  | nil => simp [mapErase, mapFind]
  | cons e t ih =>
    obtain ⟨k', v'⟩ := e
    by_cases h1 : k = k'
    · subst h1; simp [mapErase, mapFind, h, ih]
    · simp [mapErase, mapFind, h1, ih]

@[simp] theorem FMap.find_put_same {α : Type} (m : FMap α) (k : Nat) (v : α) : (m.put k v).find k = some v := by
  simp [FMap.find, FMap.put]

theorem FMap.find_put_ne {α : Type} (m : FMap α) {j k : Nat} (h : j ≠ k) (v : α) : (m.put k v).find j = m.find j := by
  simp [FMap.find, FMap.put, mapFind_insert_ne h]

@[simp] theorem FMap.find_del_same {α : Type} (m : FMap α) (k : Nat) : (m.del k).find k = none := by
  simp [FMap.find, FMap.del]

theorem FMap.find_del_ne {α : Type} (m : FMap α) {j k : Nat} (h : j ≠ k) : (m.del k).find j = m.find j := by
  simp [FMap.find, FMap.del, mapFind_erase_ne h]

@[simp] theorem FMap.getD_put_same {α : Type} (m : FMap α) (k : Nat) (v d : α) : (m.put k v).getD k d = v := by
  simp [FMap.getD]

theorem FMap.getD_put_ne {α : Type} (m : FMap α) {j k : Nat} (h : j ≠ k) (v d : α) : (m.put k v).getD j d = m.getD j d := by
  simp [FMap.getD, FMap.find_put_ne m h]

@[simp] theorem FMap.getD_upd_same {α : Type} (m : FMap α) (k : Nat) (d e : α) (g : α → α) : (m.upd k d g).getD k e = g (m.getD k d) := by
  simp [FMap.upd]

theorem FMap.getD_upd_ne {α : Type} (m : FMap α) {j k : Nat} (h : j ≠ k) (d e : α) (g : α → α) : (m.upd k d g).getD j e = m.getD j e := by
  simp [FMap.upd, FMap.getD_put_ne m h]

@[simp] theorem FMap.find_empty {α : Type} (k : Nat) : (FMap.empty : FMap α).find k = none := rfl

/-! ### Keys strictly rising -/

/-- Keys strictly rising from lo. -/
def risingFrom {α : Type} (lo : Nat) : List (Nat × α) → Bool
  | [] => true
  | (k, _) :: t => decide (lo ≤ k) && risingFrom (k + 1) t

theorem risingFrom_mono {α : Type} {a b : Nat} (h : a ≤ b) (l : List (Nat × α)) (hb : risingFrom b l = true) : risingFrom a l = true := by
  cases l with
  | nil => rfl
  | cons e t =>
    simp only [risingFrom, Bool.and_eq_true, decide_eq_true_eq] at hb ⊢
    exact ⟨by omega, hb.2⟩

theorem risingFrom_insert {α : Type} (k : Nat) (v : α) (l : List (Nat × α)) (lo : Nat) (hk : lo ≤ k) (h : risingFrom lo l = true) :
    risingFrom lo (mapInsert k v l) = true := by
  induction l generalizing lo with
  | nil => simp [mapInsert, risingFrom, hk]
  | cons e t ih =>
    obtain ⟨k', v'⟩ := e
    simp only [risingFrom, Bool.and_eq_true, decide_eq_true_eq] at h
    by_cases h1 : k < k'
    · simp only [mapInsert, h1, if_true, risingFrom, Bool.and_eq_true, decide_eq_true_eq]; exact ⟨hk, by omega, h.2⟩
    · by_cases h2 : k = k'
      · subst h2; simp only [mapInsert, lt_irrefl, if_false, if_true, risingFrom, Bool.and_eq_true, decide_eq_true_eq]; exact h
      · simp only [mapInsert, h1, h2, if_false, risingFrom, Bool.and_eq_true, decide_eq_true_eq]
        exact ⟨h.1, ih (k' + 1) (by omega) h.2⟩

theorem risingFrom_erase {α : Type} (k : Nat) (l : List (Nat × α)) (lo : Nat) (h : risingFrom lo l = true) :
    risingFrom lo (mapErase k l) = true := by
  induction l generalizing lo with
  | nil => rfl
  | cons e t ih =>
    obtain ⟨k', v'⟩ := e
    simp only [risingFrom, Bool.and_eq_true, decide_eq_true_eq] at h
    by_cases h1 : k = k'
    · simp only [mapErase, h1, if_true]; exact h1 ▸ risingFrom_mono (by omega) _ (ih _ h.2)
    · simp only [mapErase, h1, if_false, risingFrom, Bool.and_eq_true, decide_eq_true_eq]; exact ⟨h.1, ih _ h.2⟩

theorem mem_mapInsert {α : Type} {k : Nat} {v : α} {l : List (Nat × α)} {e : Nat × α} (h : e ∈ mapInsert k v l) : e = (k, v) ∨ e ∈ l := by
  induction l with
  | nil => simpa [mapInsert] using h
  | cons d t ih =>
    obtain ⟨k', v'⟩ := d
    unfold mapInsert at h
    split at h
    · simpa using h
    · split at h
      · rcases List.mem_cons.mp h with h | h
        · exact .inl h
        · exact .inr (List.mem_cons_of_mem _ h)
      · rcases List.mem_cons.mp h with h | h
        · exact .inr (h ▸ List.mem_cons_self)
        · exact (ih h).imp id (List.mem_cons_of_mem _)

theorem mem_mapErase {α : Type} {k : Nat} {l : List (Nat × α)} {e : Nat × α} (h : e ∈ mapErase k l) : e ∈ l ∧ e.1 ≠ k := by
  induction l with
  | nil => simp [mapErase] at h
  | cons d t ih =>
    obtain ⟨k', v'⟩ := d
    unfold mapErase at h
    split at h
    · have := ih h; exact ⟨List.mem_cons_of_mem _ this.1, this.2⟩
    · rcases List.mem_cons.mp h with h | h
      · subst h; exact ⟨List.mem_cons_self, fun hk => absurd hk.symm (by assumption)⟩
      · have := ih h; exact ⟨List.mem_cons_of_mem _ this.1, this.2⟩

/-! ### Byte memory -/

@[simp] theorem memRead_write_same (m : Mem) (a : Nat) (b : Byte) : memRead (memWrite m a b) a = b := by
  unfold memRead memWrite; split <;> simp_all

theorem memRead_write_ne (m : Mem) {a a' : Nat} (h : a' ≠ a) (b : Byte) : memRead (memWrite m a b) a' = memRead m a' := by
  unfold memRead memWrite; split <;> simp [mapFind_insert_ne h, mapFind_erase_ne h]

/-- A write of bytes leaves every address outside them. -/
theorem memRead_writeBytes_out (bs : Bytes) (m : Mem) (a x : Nat) (h : x < a ∨ a + bs.length ≤ x) :
    memRead (memWriteBytes m a bs) x = memRead m x := by
  induction bs generalizing m a with
  | nil => rfl
  | cons b t ih =>
    simp only [memWriteBytes, List.length_cons] at *
    rw [ih _ _ (by omega), memRead_write_ne _ (by omega)]

/-- A write of bytes puts the i-th byte at the i-th address. -/
theorem memRead_writeBytes_in (bs : Bytes) (m : Mem) (a i : Nat) (h : i < bs.length) :
    memRead (memWriteBytes m a bs) (a + i) = bs[i] := by
  induction bs generalizing m a i with
  | nil => simp at h
  | cons b t ih =>
    cases i with
    | zero => simp only [memWriteBytes, Nat.add_zero, List.getElem_cons_zero]; rw [memRead_writeBytes_out _ _ _ _ (by omega)]; simp
    | succ i =>
      simp only [memWriteBytes, List.getElem_cons_succ]
      have := ih (memWrite m a b) (a + 1) i (by simpa using h)
      rw [← this]; congr 1; omega

theorem memWfFrom_mono {a b : Nat} (h : a ≤ b) (m : Mem) (hb : memWfFrom b m = true) : memWfFrom a m = true := by
  cases m with
  | nil => rfl
  | cons e t => simp [memWfFrom] at *; exact ⟨⟨by omega, hb.1.2⟩, hb.2⟩

theorem memWfFrom_insert (k : Nat) (v : Byte) (hv : v ≠ 0) (m : Mem) (lo : Nat) (hk : lo ≤ k) (h : memWfFrom lo m = true) :
    memWfFrom lo (mapInsert k v m) = true := by
  induction m generalizing lo with
  | nil => simp only [mapInsert, memWfFrom, Bool.and_eq_true, decide_eq_true_eq]; exact ⟨⟨hk, hv⟩, trivial⟩
  | cons e t ih =>
    obtain ⟨k', v'⟩ := e
    simp only [memWfFrom, Bool.and_eq_true, decide_eq_true_eq] at h
    by_cases h1 : k < k'
    · simp only [mapInsert, h1, if_true, memWfFrom, Bool.and_eq_true, decide_eq_true_eq]; exact ⟨⟨hk, hv⟩, ⟨by omega, h.1.2⟩, h.2⟩
    · by_cases h2 : k = k'
      · subst h2; simp only [mapInsert, lt_irrefl, if_false, if_true, memWfFrom, Bool.and_eq_true, decide_eq_true_eq]; exact ⟨⟨hk, hv⟩, h.2⟩
      · simp only [mapInsert, h1, h2, if_false, memWfFrom, Bool.and_eq_true, decide_eq_true_eq]
        exact ⟨h.1, ih (k' + 1) (by omega) h.2⟩

theorem memWfFrom_erase (k : Nat) (m : Mem) (lo : Nat) (h : memWfFrom lo m = true) : memWfFrom lo (mapErase k m) = true := by
  induction m generalizing lo with
  | nil => rfl
  | cons e t ih =>
    obtain ⟨k', v'⟩ := e
    simp only [memWfFrom, Bool.and_eq_true, decide_eq_true_eq] at h
    by_cases h1 : k = k'
    · simp only [mapErase, h1, if_true]; exact h1 ▸ memWfFrom_mono (by omega) _ (ih _ h.2)
    · simp only [mapErase, h1, if_false, memWfFrom, Bool.and_eq_true, decide_eq_true_eq]; exact ⟨h.1, ih _ h.2⟩

theorem memWfFrom_filter (p : Host.Cell → Bool) (m : Mem) (lo : Nat) (h : memWfFrom lo m = true) : memWfFrom lo (m.filter p) = true := by
  induction m generalizing lo with
  | nil => rfl
  | cons e t ih =>
    obtain ⟨k', v'⟩ := e
    simp only [memWfFrom, Bool.and_eq_true, decide_eq_true_eq] at h
    by_cases hp : p (k', v') = true
    · simp only [List.filter_cons, hp, if_true, memWfFrom, Bool.and_eq_true, decide_eq_true_eq]; exact ⟨h.1, ih _ h.2⟩
    · simp only [List.filter_cons, hp]; exact memWfFrom_mono (by omega) _ (ih _ h.2)

/-- A write of a byte keeps the canonical form. -/
theorem memWrite_wf (m : Mem) (a : Nat) (b : Byte) (h : Memory.wf m = true) : Memory.wf (memWrite m a b) = true := by
  unfold memWrite
  split
  · exact memWfFrom_erase _ _ _ h
  · exact memWfFrom_insert _ _ ‹_› _ _ (Nat.zero_le _) h

/-- A write of bytes keeps the canonical form. -/
theorem memWriteBytes_wf (bs : Bytes) (m : Mem) (a : Nat) (h : Memory.wf m = true) : Memory.wf (memWriteBytes m a bs) = true := by
  induction bs generalizing m a with
  | nil => exact h
  | cons b t ih => exact ih _ _ (memWrite_wf _ _ _ h)

/-- Taking entries out keeps the canonical form. -/
theorem memFilter_wf (p : Host.Cell → Bool) (m : Mem) (h : Memory.wf m = true) : Memory.wf (m.filter p) = true :=
  memWfFrom_filter p m 0 h

/-- Reading n bytes gives n bytes. -/
@[simp] theorem memReadBytes_length (m : Mem) (n a : Nat) : (memReadBytes m a n).length = n := by
  induction n generalizing a with
  | zero => rfl
  | succ n ih => simp [memReadBytes, ih]

/-! ### Bit fields -/

theorem testBit_bitsOf (n hi lo i : Nat) : (bitsOf n hi lo).testBit i = (decide (i < hi + 1 - lo) && n.testBit (lo + i)) := by
  rw [bitsOf, Nat.testBit_mod_two_pow, Nat.testBit_div_two_pow, Nat.add_comm i lo]

theorem testBit_putBits (n hi lo v i : Nat) (h : lo ≤ hi + 1) :
    (putBits n hi lo v).testBit i =
      if i < lo then n.testBit i else if i ≤ hi then v.testBit (i - lo) else n.testBit i := by
  have e : hi + 1 = lo + (hi + 1 - lo) := by omega
  have hb : v % 2 ^ (hi + 1 - lo) * 2 ^ lo + n % 2 ^ lo < 2 ^ (hi + 1) := by
    have h1 : v % 2 ^ (hi + 1 - lo) < 2 ^ (hi + 1 - lo) := Nat.mod_lt _ (by positivity)
    have h2 : n % 2 ^ lo < 2 ^ lo := Nat.mod_lt _ (by positivity)
    calc v % 2 ^ (hi + 1 - lo) * 2 ^ lo + n % 2 ^ lo < v % 2 ^ (hi + 1 - lo) * 2 ^ lo + 2 ^ lo := by omega
      _ = (v % 2 ^ (hi + 1 - lo) + 1) * 2 ^ lo := by ring
      _ ≤ 2 ^ (hi + 1 - lo) * 2 ^ lo := Nat.mul_le_mul_right _ h1
      _ = 2 ^ (hi + 1) := by rw [← pow_add]; congr 1; omega
  have q : putBits n hi lo v = 2 ^ (hi + 1) * (n / 2 ^ (hi + 1)) + (2 ^ lo * (v % 2 ^ (hi + 1 - lo)) + n % 2 ^ lo) := by
    unfold putBits; ring
  rw [q, Nat.testBit_two_pow_mul_add _ (by rw [Nat.mul_comm]; exact hb),
    Nat.testBit_two_pow_mul_add _ (Nat.mod_lt _ (by positivity))]
  by_cases h1 : i < lo
  · simp [h1, show i < hi + 1 by omega, Nat.testBit_mod_two_pow]
  · by_cases h2 : i ≤ hi
    · simp [h1, h2, show i < hi + 1 by omega, Nat.testBit_mod_two_pow, show i - lo < hi + 1 - lo by omega]
    · have h3 : ¬ i < hi + 1 := by omega
      simp [h1, h2, h3, Nat.testBit_div_two_pow, show i - (hi + 1) + (hi + 1) = i by omega]

theorem testBit_w32 (n i : Nat) : (w32 n).toNat.testBit i = (decide (i < 32) && n.testBit i) := by
  rw [w32, BitVec.toNat_ofNat, Nat.testBit_mod_two_pow]

/-- Every bit of a field is a bit of the mask. -/
def covers (m : Word) (f : Fld) : Bool := decide (f.lo ≤ f.hi + 1 ∧ f.hi < 32) && (List.range 32).all fun i => !(decide (f.lo ≤ i ∧ i ≤ f.hi)) || m.getLsbD i

theorem covers_bit {m : Word} {f : Fld} (h : covers m f = true) {i : Nat} (hl : f.lo ≤ i) (hh : i ≤ f.hi) : m.getLsbD i = true := by
  simp only [covers, Bool.and_eq_true, decide_eq_true_eq, List.all_eq_true, List.mem_range] at h
  have := h.2 i (by omega)
  simpa [hl, hh] using this

/-- A field of a word that was just set, with reserved bits cleared, holds what was set. -/
theorem getFld_set_mask (w m : Word) (f : Fld) (v : Nat) (h : covers m f = true) :
    getFld (setFld w f v &&& m) f = v % 2 ^ (f.hi + 1 - f.lo) := by
  have hc : f.lo ≤ f.hi + 1 ∧ f.hi < 32 := by
    simp only [covers, Bool.and_eq_true, decide_eq_true_eq] at h; exact h.1
  apply Nat.eq_of_testBit_eq
  intro i
  rw [getFld, testBit_bitsOf, Nat.testBit_mod_two_pow]
  by_cases hi : i < f.hi + 1 - f.lo
  · have hm : m.getLsbD (f.lo + i) = true := covers_bit h (by omega) (by omega)
    have hm' : m.toNat.testBit (f.lo + i) = true := hm
    simp [hi, BitVec.toNat_and, Nat.testBit_and, hm', setFld, testBit_w32, testBit_putBits _ _ _ _ _ hc.1,
      show f.lo + i < 32 by omega, show ¬ f.lo + i < f.lo by omega, show f.lo + i ≤ f.hi by omega]
  · simp [hi]

/-- A field apart from the one set keeps its value. -/
theorem getFld_set_mask_ne (w m : Word) (f g : Fld) (v : Nat) (hf : f.lo ≤ f.hi + 1) (hg : covers m g = true) (h : f.hi < g.lo ∨ g.hi < f.lo) :
    getFld (setFld w f v &&& m) g = getFld w g := by
  have hc : g.lo ≤ g.hi + 1 ∧ g.hi < 32 := by
    simp only [covers, Bool.and_eq_true, decide_eq_true_eq] at hg; exact hg.1
  apply Nat.eq_of_testBit_eq
  intro i
  rw [getFld, getFld, testBit_bitsOf, testBit_bitsOf]
  by_cases hi : i < g.hi + 1 - g.lo
  · have hm : m.toNat.testBit (g.lo + i) = true := covers_bit hg (by omega) (by omega)
    simp only [hi, decide_true, Bool.true_and, BitVec.toNat_and, Nat.testBit_and, hm, setFld, testBit_w32,
      testBit_putBits _ _ _ _ _ hf, show g.lo + i < 32 by omega, Bool.and_true]
    split
    · rfl
    · split
      · omega
      · rfl
  · simp [hi]

/-! ### The register file -/

/-- A register after it was loaded: what was loaded, less the reserved bits (R13). -/
theorem regPut_same (m : FMap Word) (off : Nat) (v : Word) : (regPut m off v).getD off (regReset off) = v &&& regMask off := by
  unfold regPut
  simp only
  split
  · next h => simp [FMap.getD, ← h]
  · simp

/-- Every other register is unchanged. -/
theorem regPut_ne (m : FMap Word) {a off : Nat} (h : a ≠ off) (v d : Word) : (regPut m off v).getD a d = m.getD a d := by
  unfold regPut
  simp only
  split
  · simp [FMap.getD, FMap.find_del_ne m h]
  · exact FMap.getD_put_ne m h _ _

theorem rd_reg_same (off : Nat) (v : Word) (s : State) : ((Eff.reg off v).apply s).rd off = v &&& regMask off := regPut_same _ _ _

theorem rd_reg_ne {a off : Nat} (h : a ≠ off) (v : Word) (s : State) : ((Eff.reg off v).apply s).rd a = s.rd a := regPut_ne _ h _ _

theorem rd_fld_same (off : Nat) (f : Fld) (v : Nat) (s : State) :
    ((Eff.fld off f v).apply s).rd off = setFld (s.rd off) f v &&& regMask off := regPut_same _ _ _

theorem rd_fld_ne {a off : Nat} (h : a ≠ off) (f : Fld) (v : Nat) (s : State) : ((Eff.fld off f v).apply s).rd a = s.rd a := regPut_ne _ h _ _

theorem rd_inc_ne {a off : Nat} (h : a ≠ off) (f : Fld) (n : Nat) (s : State) : ((Eff.inc off f n).apply s).rd a = s.rd a := regPut_ne _ h _ _

/-- A field after it was loaded. -/
theorem fld_fld_same (off : Nat) (f : Fld) (v : Nat) (s : State) (h : covers (regMask off) f = true) :
    ((Eff.fld off f v).apply s).fld off f = v % 2 ^ (f.hi + 1 - f.lo) := by
  show bitsOf (((Eff.fld off f v).apply s).rd off).toNat f.hi f.lo = _
  rw [rd_fld_same]; exact getFld_set_mask _ _ _ _ h

/-- Another field of the same register keeps its value. -/
theorem fld_fld_other (off : Nat) (f g : Fld) (v : Nat) (s : State) (hf : f.lo ≤ f.hi + 1) (hg : covers (regMask off) g = true)
    (h : f.hi < g.lo ∨ g.hi < f.lo) : ((Eff.fld off f v).apply s).fld off g = s.fld off g := by
  show bitsOf (((Eff.fld off f v).apply s).rd off).toNat g.hi g.lo = _
  rw [rd_fld_same]; exact getFld_set_mask_ne _ _ _ _ _ hf hg h

theorem fld_fld_ne {a off : Nat} (h : a ≠ off) (f g : Fld) (v : Nat) (s : State) : ((Eff.fld off f v).apply s).fld a g = s.fld a g := by
  show bitsOf (((Eff.fld off f v).apply s).rd a).toNat g.hi g.lo = _
  rw [rd_fld_ne h]; rfl

theorem fld_reg_ne {a off : Nat} (h : a ≠ off) (g : Fld) (v : Word) (s : State) : ((Eff.reg off v).apply s).fld a g = s.fld a g := by
  show bitsOf (((Eff.reg off v).apply s).rd a).toNat g.hi g.lo = _
  rw [rd_reg_ne h]; rfl

/-- A register is read from the register file alone. -/
theorem rd_congr {s t : State} (h : s.regs = t.regs) (off : Nat) : s.rd off = t.rd off := by unfold State.rd; rw [h]

theorem fld_congr {s t : State} (h : s.regs = t.regs) (off : Nat) (f : Fld) : s.fld off f = t.fld off f := by unfold State.fld; rw [rd_congr h]

/-! ### Parameters -/

theorem prmPut_same (m : FMap Word) (id : Nat) (v : Word) : (prmPut m id v).getD id (prmDefault id) = v := by
  unfold prmPut; split
  · next h => simp [FMap.getD, ← h]
  · simp

theorem prmPut_ne (m : FMap Word) {a id : Nat} (h : a ≠ id) (v d : Word) : (prmPut m id v).getD a d = m.getD a d := by
  unfold prmPut; split
  · simp [FMap.getD, FMap.find_del_ne m h]
  · exact FMap.getD_put_ne m h _ _

/-- A parameter that is no copy of a register, after it was set. -/
theorem prm_prm_same (id : Nat) (v : Word) (s : State) (h : copyFind id prmCopies = none) : ((Eff.prm id v).apply s).prm id = v := by
  simp only [State.prm, h]; exact prmPut_same _ _ _

theorem prm_count_same (id n : Nat) (s : State) (h : copyFind id prmCopies = none) :
    ((Eff.count id n).apply s).prm id = w32 (satAdd 0xFFFFFFFF (s.pn id) n) := by
  simp only [State.prm, h]; exact prmPut_same _ _ _

theorem prm_prm_ne {a id : Nat} (h : a ≠ id) (v : Word) (s : State) : ((Eff.prm id v).apply s).prm a = s.prm a := by
  simp only [State.prm]; split
  · rfl
  · exact prmPut_ne _ h _ _

theorem prm_count_ne {a id : Nat} (h : a ≠ id) (n : Nat) (s : State) : ((Eff.count id n).apply s).prm a = s.prm a := by
  simp only [State.prm]; split
  · rfl
  · exact prmPut_ne _ h _ _

/-! ### Lists of effects -/

@[simp] theorem applyAll_nil (s : State) : applyAll [] s = s := rfl

@[simp] theorem applyAll_cons (e : Eff) (es : List Eff) (s : State) : applyAll (e :: es) s = applyAll es (e.apply s) := rfl

@[simp] theorem applyAll_append (a b : List Eff) (s : State) : applyAll (a ++ b) s = applyAll b (applyAll a s) := by
  simp [applyAll, List.foldl_append]

@[simp] theorem Act.outcome_eq (a : Act) (s : State) : a.outcome s = .next (applyAll (a s) s) := rfl

@[simp] theorem Act.run_eq (a : Act) (s : State) : a.run s = applyAll (a s) s := rfl

@[simp] theorem acts_nil (s : State) : acts [] s = [] := rfl

/-- The list of acts run one after another. -/
@[simp] theorem applyAll_acts_cons (a : Act) (l : List Act) (s : State) :
    applyAll (acts (a :: l) s) s = applyAll (acts l (applyAll (a s) s)) (applyAll (a s) s) := by
  simp [acts, Act.seq]

@[simp] theorem eff_apply (es : List Eff) (s : State) : eff es s = es := rfl

/-- What every effect keeps, a list of effects keeps. -/
theorem applyAll_keeps {P : State → Prop} (h : ∀ (e : Eff) (s : State), P s → P (e.apply s)) (es : List Eff) (s : State) (hs : P s) :
    P (applyAll es s) := by
  induction es generalizing s with
  | nil => exact hs
  | cons e t ih => exact ih _ (h e s hs)

end Sys2Proof.Machine
end

