-- ==== Sys2Proof/Tests/Slice0.lean ====
section
/-! SUPPORT. Tests: the ill-formed commands that WellFormed refuses, worked examples of the chapters of spec/ checked on the functions
that model them, and for each statement of Certificates/Slice0 concrete operands and states that meet its hypotheses (a statement of
several clauses: each clause that has any). -/
open Sys2Proof Sys2Proof.Machine

section

set_option Elab.async false
set_option linter.unusedVariables false

namespace Sys2Proof.Tests

/-- n bytes of 0. -/
def z (n : Nat) : Bytes := List.replicate n 0

/-- A number in k bytes, least significant first. -/
def w (k n : Nat) : Bytes := leBytes k n

/-- n bytes with pieces laid over zeros. -/
def mk (n : Nat) (l : List (Nat × Bytes)) : Bytes :=
  l.foldl (fun b x => field b 0 x.1 ++ x.2 ++ b.drop (x.1 + x.2.length)) (List.replicate n 0)

/-- The command of an opcode that function f rang with a payload, as the Armature serves it. -/
def svc (f op : Nat) (payload : Bytes) (n : Nat := payload.length) : Svc := ⟨f, ⟨op, 0, 7, n, true, payload, 7⟩, none⟩

/-- The command is in service. -/
def serve (k : Svc) : Eff := .arm fun a => { a with inService := some k }

/-! ### Ill-formed commands, one for each check -/

theorem test_wf_register : Instr.wf (.registerWrite 0 0x4000000 4 0) = false ∧ Instr.wf (.registerWrite 0 0 3 0) = false ∧
    Instr.wf (.registerWrite 0 0 4 0) = true := by decide
theorem test_wf_pairs : Instr.wf (.pairLoRead 0 0x4000000) = false ∧ Instr.wf (.pairLoRead 0 2) = false ∧
    Instr.wf (.pairHiWrite 0 0x4000000 0) = false ∧ Instr.wf (.pairHiWrite 0 2 0) = false ∧
    Instr.wf (.pairLoWrite 0 0x4000000 0) = false ∧ Instr.wf (.pairLoWrite 0 2 0) = false := by decide
theorem test_wf_commit : Instr.wf (.commitValidated 0 (some (2 ^ 64, 0))) = false ∧ Instr.wf (.commitValidated 0 (some (0, 2 ^ 32))) = false := by decide
theorem test_wf_samples : Instr.wf (.paceWindowEnd 0 65536) = false ∧ Instr.wf (.hkSample 65536) = false ∧ Instr.wf (.convDone 65536) = false ∧
    Instr.wf (.vcoreStep 0 1024 none) = false ∧ Instr.wf (.vcoreStep 0 700 (some 1024)) = false := by decide
theorem test_wf_sal : Instr.wf (.salAlignColumn 0 0 (List.replicate 9 (0, false))) = false ∧ Instr.wf (.salAlignColumn 0 0 [(32, false)]) = false := by decide
theorem test_wf_forward : Instr.wf (.xplMbxForward 0 0 [] []) = false := by decide
theorem test_wf_token : Instr.wf (.unitToken 0 none 0 0 0 0 3 false false) = false ∧ Instr.wf (.unitToken 0 none 0 0 0 65536 0 false false) = false ∧
    Instr.wf (.unitToken 0 none 0 0 0 0 65536 false false) = false := by decide
theorem test_wf_build : Instr.wf (.libMapBuildDone [(2 ^ 25, [])]) = false := by decide
theorem test_wf_sync : Instr.wf (.syncReply 0 true 0 0 (2 ^ 64) 0 0 0) = false ∧ Instr.wf (.syncReply 0 true 0 0 0 (2 ^ 64) 0 0) = false ∧
    Instr.wf (.syncReply 0 true 0 0 0 0 (2 ^ 64) 0) = false ∧ Instr.wf (.syncReply 0 true 0 0 0 0 0 (2 ^ 64)) = false := by decide
theorem test_wf_block : Instr.wf (.audCsBlock 0 0 [] (List.replicate 24 0)) = false ∧ Instr.wf (.audCsBlock 0 0 (List.replicate 24 0) []) = false := by decide
theorem test_wf_pieces : Instr.wf (.cstPieceDone 0 (2 ^ 64) true) = false ∧ Instr.wf (.drvCmdTimeout 0 (2 ^ 64)) = false := by decide
theorem test_wf_memory : Instr.wf (.memAllocDone 0 (2 ^ 32)) = false ∧ Instr.wf (.memRequest 0 none (2 ^ 48) none 0 0 false 0 0) = false ∧
    Instr.wf (.memRequest 0 none 0 none 65 0 false 0 0) = false ∧ Instr.wf (.memRequest 0 none 0 (some (List.replicate 65 0)) 0 0 false 0 0) = false ∧
    Instr.wf (.scrubLine 0 (2 ^ 42) 0) = false := by decide
theorem test_wf_selftest : Instr.wf (.secPeriodicSelftest 65536) = false := by decide
theorem test_wf_flit : Instr.wf (.xplFlit 0 65536 0 true none 0 0 0 []) = false ∧ Instr.wf (.xplFlit 0 0 65536 true none 0 0 0 []) = false ∧
    Instr.wf (.xplFlit 0 0 0 true none 5 0 0 []) = false ∧ Instr.wf (.xplFlit 0 0 0 true none 0 16 0 []) = false ∧
    Instr.wf (.xplFlit 0 0 0 true none 0 0 16 []) = false := by decide
theorem test_wf_links : Instr.wf (.xplWidthRequest 0 3 true) = false ∧ Instr.wf (.xplRetrainDone 0 true 256 0) = false ∧
    Instr.wf (.xplDiscover 0 0 0 [(16, 0, 0, 0)]) = false ∧ Instr.wf (.xplDiscover 0 0 0 [(0, 4, 0, 0)]) = false ∧
    Instr.wf (.xplDiscover 0 0 0 [(0, 0, 16, 0)]) = false ∧ Instr.wf (.xplDiscover 0 0 0 [(0, 0, 0, 4)]) = false := by decide
theorem test_wf_faults : Instr.wf (.unitFault 0 0 [65536]) = false ∧ Instr.wf (.fltInject 0 [65536]) = false ∧
    Instr.wf (.poisonOwnerLookup (2 ^ 42)) = false ∧ Instr.wf (.patinaLineRestore (2 ^ 42)) = false := by decide
theorem test_wf_mirror : Instr.wf (.pairMirrorItem 0 0 0 none [(65536, 0)] []) = false ∧
    Instr.wf (.pairMirrorItem 0 0 0 none [] [(0, 2 ^ 20, none)]) = false := by decide
theorem test_wf_work : Instr.wf (.ticketedWorkComplete 0 (2 ^ 32) 0 []) = false ∧ Instr.wf (.ticketedWorkComplete 0 0 65536 []) = false := by decide

/-! ### Worked examples -/

/-- Chapter 00: HUB_ID reads 0x948000B1. -/
theorem test_hub_id : State.reset.rd Reg.HUB_ID = 0x948000B1#32 := by decide +kernel

/-- Chapter 01, after R26: at reset role 12 of cluster 93 sits in slot 12, physical index 1,593. -/
theorem test_logical_unit_1500 : slotRole State.reset 1593 = 12 ∧ 17 * (1500 / 16) + 12 = 1593 := by decide +kernel

/-- Chapter 04, the underrun handler on F5: F0 grants WINDOW to F5 and routes E160 to F5 on vector 2. -/
theorem test_route_f5 : let s := applyAll [.prm (Prm.PRN_RIGHTS_1 4) (w32 (2 ^ R_WINDOW))] State.reset
    (match execEvtRouteWrite 160 0x80050002#32 s with | .next t => t.rd (Reg.EVT_ROUTE 160) | _ => 0) = 0x80050002#32 := by decide +kernel

/-- Chapter 08, one site of the main sensor: prediction, context, Rice parameter, code word and update. -/
theorem test_cast_site : let k : CastPar := ⟨16, 0, 4, 4, 64, 9728⟩
    castPred 15900 15960 15880 = 15960 ∧ castContext k (15900, 15960, 15880, 16040) = (89, 1) ∧ residue k 1 15960 15976 = 16 ∧
    ctxGet k .empty 89 = (1, 1024) ∧ riceK 1 1024 = 10 ∧
    codeWord 10 32 = ([true, false, false, false, false, true, false, false, false, false, false], false) ∧
    (ctxAdd k .empty 89 16).find 89 = some (2, 1040) ∧ riceK 2 1040 = 10 := by decide +kernel

/-- Chapter 11, gain folding of the lamp's R emitter (H at its default, the largest N of the tile 0.80). -/
theorem test_gain_folding : let n := foldN 8192 (recSetRow recZero 0 [2540, 82, 0]) 0
    foldGc State.reset 1 214748364 = 204 ∧ foldDc State.reset 1 204 n = 230 ∧ foldP 2540 204 230 = 3520 ∧ foldP 82 204 230 = 114 := by decide +kernel

/-- Chapter 11, stages K3 and K4 of the same emitter. -/
theorem test_k3_k4 : tempGain (mk 18 [(6, w 2 16712), (8, w 2 16876)]) 1 736 = 16824 ∧ rnd 14 (29072 * 16824) = 29853 ∧
    k4 (mk 936 [(932, w 2 29700), (934, w 2 29771)]) 0 29853 = 7611436 := by decide +kernel

/-- Chapter 13, the header of row 50 of tile 64 at hop 4. -/
theorem test_lamp_data_header : (tlkBytes 1 false 4 [0x2C, 4, 0x32, 0, 0, 0, 0x20, 1] (z 2304)).take 16 =
    [1, 4, 0, 9, 0x2C, 4, 0x32, 0, 0, 0, 0x20, 1, 0, 0, 0, 0] := by decide +kernel

/-- Chapter 13: TLK_LINK_CFG_10 = 0x8100_006E is enabled, in line mode, with one lane, lane 110. -/
theorem test_link_10 : let s := applyAll [.prm (Prm.TLK_LINK_CFG 10) (w32 0x8100006E)] State.reset
    linkEn s 10 = true ∧ linkRing s 10 = false ∧ (laneUser s 110).map (fun u => (u.owner, u.index, u.first, u.count)) = some (6, 10, 110, 1) := by
  decide +kernel

/-- Chapter 17, one patina record: the mapping of 0x14_2B07_1480 under the default masks. -/
theorem test_memory_mapping : pcOf State.reset 0x142B071480 = 27 ∧ stackOf State.reset 0x142B071480 = 2 ∧
    bankOf State.reset 0x142B071480 = (1, 2) ∧ bankAddr State.reset 0x142B071480 = 42295488 ∧ pcOf State.reset (0x142B071480 + 64) = 26 := by
  decide +kernel

/-- Chapter 18, a graphics ring for F5: a slot of 8,298,496 bytes, and the control word of D2. -/
theorem test_graphics_ring : (ringLayout 0 3 7680 [1080] 7680 256).size = 8298496 ∧ dmaLen 0xE0000004#32 = 4 ∧ dmaTail 0xE0000004#32 = true := by
  decide +kernel

/-- Chapter 20, the collision: with lane 3 bad each end has 7 good lanes and proposes width 4; package 0, the lower PKG_ID, tries again. -/
theorem test_collision : let s := applyAll [.prm (Prm.XPL_CFG 0) (w32 0x80000008), .fld (Reg.XPL_LINK_STAT 0) Fld.XPL_LINK_STAT.PEER_PKG 1,
      effXpl 0 fun x => { x with request := some 4 }] State.reset
    proposal s 0 0xF7 = 4 ∧ (match execXplWidthRequest 0 4 true s with | .next t => ((t.xpl 0).retry, (t.xpl 0).request) | _ => (false, none)) = (true, none) := by
  decide +kernel

/-- R97: the second ring of a BUSY mailbox is lost. -/
theorem test_doorbell_twice : let v := setFld (setFld 0 Fld.MBX_DOORBELL.RING 1) Fld.MBX_DOORBELL.SEQ 7
    let s := applyAll [.fld (Reg.MBX_STATE 0) Fld.MBX_STATE.STATE 0] State.reset
    (match execMbxDoorbell 0 v s with
     | .next t => (t.fld (Reg.MBX_STATE 0) Fld.MBX_STATE.STATE, match execMbxDoorbell 0 v t with
        | .next u => u.flag (Reg.MBX_STATE 0) Fld.MBX_STATE.RING_LOST
        | _ => false)
     | _ => (0, false)) = (1, true) := by decide +kernel

/-- No word spells a command: the opcode table gives its rows no bits. -/
theorem test_no_words : decodeTableWord 32 5 = none ∧ (State.reset.withFetchWord 32 5).pending = [] := by decide +kernel

/-! ### The hypotheses of the statements can hold -/

theorem witness_StepRunsFront : ∃ (c : Instr) (rest : List Instr) (s : State), s.pending = c :: rest :=
  ⟨.sysInfo, [], { State.reset with pending := [.sysInfo] }, rfl⟩

theorem witness_IdleStepTicks : ∃ s : State, s.pending = [] := ⟨State.reset, rfl⟩

theorem witness_StepKeepsInv : ∃ s t : State, Inv s ∧ step s = .next t := ⟨State.reset, tick State.reset, by decide +kernel, rfl⟩

theorem witness_ReservedBitsReadZero : ∃ (s : State) (off i : Nat), Inv s ∧ (regMask off).getLsbD i = false :=
  ⟨State.reset, Reg.TPO_STAT 0, 20, by decide +kernel⟩

theorem witness_TraceOnlyGrows : ∃ s t : State, step s = .next t := ⟨State.reset, tick State.reset, rfl⟩

/-- The hypotheses of HostRegisterAccess can hold, in each clause. -/
theorem witness_HostRegisterAccess :
    (∃ (f : Fn) (off : Nat) (o : Nat) (v : Word) (s : State), off % 4 = 0 ∧ winOff f off = some o ∧ bar0Ignored f o = false ∧ ownRow o = false ∧ inCommandArea o = false ∧ (regFind o regTable).isSome ∧ isDmaCtrl o = false ∧ triggers o v = false ∧ audIndexRo s o = false ∧ o ≠ Reg.NVS_RING_SEL) ∧
    (∃ (f : Fn) (off : Nat) (width : Nat) (v : Word) (s : State), width ≠ 4) ∧
    (∃ (f : Fn) (off : Nat) (o : Nat) (w : Bool) (s : State), winOff f off = some o ∧ pairAt o = some w ∧ tripped s = false) ∧
    (∃ (f : Fn) (off : Nat) (o : Nat) (v : Word) (s : State), winOff f off = some o ∧ bar0Ignored f o = false ∧ pairAt o = some true) ∧
    (∃ (f : Fn) (off : Nat) (o : Nat) (v : Word) (lo : Word) (s : State), winOff f off = some o ∧ bar0Ignored f o = false ∧ 4 ≤ o ∧ pairAt (o - 4) = some true ∧ s.pairHeld.find (pairKey f (o - 4)) = some lo) ∧
    (∃ (v : Word) (s : State), getFld v Fld.HUB_LOCK.LOCK = 1) ∧
    (∃ (v : Word) (s : State), s.flag Reg.HUB_LOCK Fld.HUB_LOCK.LOCK = true) :=
  ⟨⟨0, Reg.TPO_WIDTH 0, Reg.TPO_WIDTH 0, 5#32, applyAll [] State.reset, by decide +kernel⟩,
   ⟨0, 0, 2, 0#32, applyAll [] State.reset, by decide +kernel⟩,
   ⟨0, 0x10060, 0x10060, false, applyAll [.fld Reg.THM_STAT Fld.THM_STAT.TRIP 0] State.reset, by decide +kernel⟩,
   ⟨0, 0xB0004, 0xB0004, 7#32, applyAll [] State.reset, by decide +kernel⟩,
   ⟨0, 0xB0008, 0xB0008, 7#32, 6#32, applyAll [.held (pairKey 0 0xB0004) (some 6#32)] State.reset, by decide +kernel⟩,
   ⟨setFld 0 Fld.HUB_LOCK.LOCK 1, applyAll [] State.reset, by decide +kernel⟩,
   ⟨0#32, applyAll [.fld (Reg.HUB_LOCK) Fld.HUB_LOCK.LOCK 1] State.reset, by decide +kernel⟩⟩

/-- The hypotheses of AccessTypes can hold. -/
theorem witness_AccessTypes :
    (∃ (locked : Bool) (rows : List FieldRow) (v : Nat) (old : Nat) (i : Nat) (r : FieldRow), (rows.Pairwise (fun a b => a.hi < b.lo ∨ b.hi < a.lo)) ∧ (∀ a ∈ rows, a.lo ≤ a.hi ∧ a.hi < 32) ∧ r ∈ rows ∧ r.lo ≤ i ∧ i ≤ r.hi) :=
  ⟨true, [⟨3, 0, .rw⟩, ⟨7, 4, .w1c⟩], 0x15, 0x3A, 4, ⟨7, 4, .w1c⟩, by decide +kernel⟩

/-- The hypotheses of EventMatrixWrites can hold, in each clause. -/
theorem witness_EventMatrixWrites :
    (∃ (k : Fin 8) (v : Word) (s : State) (i : Fin 32), v.getLsbD i = true ∧ evtReserved (32 * k + i) = false) ∧
    (∃ (e : Fin 256) (v : Word) (s : State), evtReserved e = false ∧ v.getLsbD 31 = true ∧ mayRoute s e (if e.val < 64 then e.val else getFld v Fld.EVT_ROUTE.FUNC) = true ∧ getFld v Fld.EVT_ROUTE.VECTOR < vecRange (if e.val < 64 then e.val else getFld v Fld.EVT_ROUTE.FUNC)) ∧
    (∃ (e : Fin 256) (v : Word) (s : State), evtReserved e = false ∧ v.getLsbD 31 = true ∧ vecRange (if e.val < 64 then e.val else getFld v Fld.EVT_ROUTE.FUNC) ≤ getFld v Fld.EVT_ROUTE.VECTOR) ∧
    (∃ (f : Fn) (v : Word) (s : State), getFld v Fld.EVT_LOCAL.CST_VEC < vecRange f ∧ getFld v Fld.EVT_LOCAL.DMA_VEC < vecRange f) ∧
    (∃ (f : Fn) (v : Word) (s : State), f.val ≠ 0) :=
  ⟨⟨0, 1#32, applyAll [] State.reset, 0, by decide +kernel⟩,
   ⟨0, 0x80000000#32, applyAll [] State.reset, by decide +kernel⟩,
   ⟨(1 : Fin 256), 0x80000008#32, applyAll [] State.reset, by decide +kernel⟩,
   ⟨0, 0#32, applyAll [] State.reset, by decide +kernel⟩,
   ⟨(1 : Fn), 0#32, applyAll [] State.reset, by decide +kernel⟩⟩

/-- The hypotheses of AnswerReaches can hold. -/
theorem witness_AnswerReaches :
    (∃ (s : State) (k : Svc) (st : Nat) (ticket : Nat) (payload : Bytes), k.remote = none ∧ k.f < 64 ∧ payload.length ≤ 4064) :=
  ⟨applyAll [] State.reset, svc 0 0 (z 0), 0, 0, [], by decide +kernel⟩

/-- The hypotheses of MailboxTurn can hold, in each clause. -/
theorem witness_MailboxTurn :
    (∃ (f : Fn) (v : Word) (s : State), getFld v Fld.MBX_DOORBELL.RING = 1 ∧ s.fld (Reg.MBX_STATE f) Fld.MBX_STATE.STATE ≠ 1 ∧ s.fld (Reg.MBX_STATE f) Fld.MBX_STATE.STATE ≠ 3) ∧
    (∃ (f : Fn) (v : Word) (s : State), getFld v Fld.MBX_DOORBELL.RING = 1 ∧ s.fld (Reg.MBX_STATE f) Fld.MBX_STATE.STATE = 1) ∧
    (∃ (f : Nat) (c : Cmd) (s : State), s.arm.dead = false ∧ s.arm.serving = true ∧ s.arm.halted = false ∧ s.arm.inService = none ∧ nextRung s = some f ∧ f < 64 ∧ (s.mbx f).rung = some c ∧ c.dbSeq = c.seq ∧ (s.mbx f).anySeq = true ∧ opcodeDefined c.opcode = true ∧ c.len ≤ 4064) ∧
    (∃ (f : Nat) (c : Cmd) (s : State), s.arm.dead = false ∧ s.arm.serving = true ∧ s.arm.halted = false ∧ s.arm.inService = none ∧ nextRung s = some f ∧ f < 64 ∧ (s.mbx f).rung = some c ∧ c.dbSeq = c.seq ∧ (s.mbx f).anySeq = false ∧ c.seq < 65536 ∧ s.fld (Reg.MBX_STATE f) Fld.MBX_STATE.LAST_SEQ = c.seq ∧ (s.mbx f).stored.length ≤ 4096 ∧ 32 ≤ (s.mbx f).stored.length) :=
  ⟨⟨0, setFld 0 Fld.MBX_DOORBELL.RING 1, applyAll [.fld (Reg.MBX_STATE 0) Fld.MBX_STATE.STATE 0] State.reset, by decide +kernel⟩,
   ⟨0, setFld 0 Fld.MBX_DOORBELL.RING 1, applyAll [.fld (Reg.MBX_STATE 0) Fld.MBX_STATE.STATE 1] State.reset, by decide +kernel⟩,
   ⟨0, ⟨0x100, 0, 7, 0, true, [], 7⟩, applyAll [.arm fun a => { a with serving := true }, effMbx 0 fun m => { m with rung := some ⟨0x100, 0, 7, 0, true, [], 7⟩ }] State.reset, by decide +kernel⟩,
   ⟨0, ⟨0x100, 0, 7, 0, true, [], 7⟩, applyAll [.arm fun a => { a with serving := true }, effMbx 0 fun m => { m with rung := some ⟨0x100, 0, 7, 0, true, [], 7⟩, anySeq := false, stored := leBytes 32 0x1234567 }, .fld (Reg.MBX_STATE 0) Fld.MBX_STATE.LAST_SEQ 7] State.reset, by decide +kernel⟩⟩

/-- The hypotheses of MailboxBasics can hold, in each clause. -/
theorem witness_MailboxBasics :
    (∃ (k : Svc) (s : State), Served s 0x100 k ∧ k.cmd.len = 0) ∧
    (∃ (k : Svc) (s : State), Served s 0x101 k ∧ k.n 0 2 = 1 ∧ k.cmd.len = 6 ∧ zeroAt k.cmd.payload 2 2 = true ∧ readClears (k.n 4 2) = false) ∧
    (∃ (k : Svc) (s : State), Served s 0x102 k ∧ s.nvs.reply = none ∧ k.n 0 2 = 1 ∧ k.cmd.len = 12 ∧ zeroAt k.cmd.payload 2 2 = true ∧ setStatus k s 1 0 = ST_OK ∧ bootMarked (setId k 0) = false ∧ savedPrm (setId k 0) = false) ∧
    (∃ (k : Svc) (s : State), Served s 0x111 k ∧ k.cmd.len = 0 ∧ (s.stagedOf k.f).any (fun x => match x with | .obj q _ _ => q == K_SWITCH | _ => false) = false) ∧
    (∃ (k : Svc) (s : State), Served s 0x112 k ∧ k.cmd.len = 0) ∧
    (∃ (k : Svc) (t : Ticket) (s : State), Served s 0x120 k ∧ k.cmd.len = 4 ∧ k.n 0 4 ≠ 0xFFFFFFFF ∧ s.ticket k.f (k.n 0 4) = some t ∧ t.done = true ∧ (collect k t).status = ST_OK) ∧
    (∃ (k : Svc) (p : PipeRow) (s : State), Served s 0x130 k ∧ k.cmd.len = 4 ∧ (pipes s)[k.n 0 4]? = some p) :=
  ⟨⟨svc 0 0x100 (z 0), applyAll [serve (svc 0 0x100 (z 0))] State.reset, by decide +kernel⟩,
   ⟨svc 0 0x101 (leBytes 2 1 ++ [0, 0] ++ leBytes 2 0x111), applyAll [serve (svc 0 0x101 (leBytes 2 1 ++ [0, 0] ++ leBytes 2 0x111))] State.reset, by decide +kernel⟩,
   ⟨svc 0 0x102 (leBytes 2 1 ++ [0, 0] ++ leBytes 2 0x111 ++ [0, 0] ++ leBytes 4 5), applyAll [serve (svc 0 0x102 (leBytes 2 1 ++ [0, 0] ++ leBytes 2 0x111 ++ [0, 0] ++ leBytes 4 5))] State.reset, by decide +kernel⟩,
   ⟨svc 0 0x111 (z 0), applyAll [serve (svc 0 0x111 (z 0))] State.reset, by decide +kernel⟩,
   ⟨svc 0 0x112 (z 0), applyAll [serve (svc 0 0x112 (z 0))] State.reset, by decide +kernel⟩,
   ⟨svc 0 0x120 (leBytes 4 5), ⟨5, 0x700, false, [], true, 0, [], 1, false⟩, applyAll [serve (svc 0 0x120 (leBytes 4 5)), effMbx 0 fun m => { m with tickets := [⟨5, 0x700, false, [], true, 0, [], 1, false⟩] }] State.reset, by decide +kernel⟩,
   ⟨svc 0 0x130 (z 4), match (pipes (applyAll [serve (svc 0 0x130 (z 4)), .prm (Prm.SAL_SNS_PORT 0) (w32 0)] State.reset : State))[0]? with | some p => p | none => ⟨0, 0, 0, 0, []⟩, applyAll [serve (svc 0 0x130 (z 4)), .prm (Prm.SAL_SNS_PORT 0) (w32 0)] State.reset, by decide +kernel⟩⟩

/-- The hypotheses of CommitTakesStagedSet can hold, in each clause. -/
theorem witness_CommitTakesStagedSet :
    (∃ (k : Svc) (s : State), Served s 0x110 k ∧ k.cmd.len = 16 ∧ k.n 0 1 < 4 ∧ k.n 1 1 = 1 ∧ zeroAt k.cmd.payload 2 6 = true ∧ k.n 14 2 = 0 ∧ (standbyRefuses s).1 = false ∧ s.arm.commits.has k.f = false ∧ TicketFree s k) ∧
    (∃ (p : Fin 96) (peer : Option (Nat × Nat)) (c : Commit) (st : Nat) (s : State), s.arm.commits.find p = some c ∧ s.arm.halted = false ∧ c.order = 0 ∧ (verdict p c.items peer s).1 = some st ∧ stagesKind c.items K_SWITCH = false) ∧
    (∃ (p : Fin 96) (peer : Option (Nat × Nat)) (c : Commit) (s : State), s.arm.commits.find p = some c ∧ s.arm.halted = false ∧ c.order = 0 ∧ (verdict p c.items peer s).1 = none ∧ stagesKind c.items K_LAYER = false ∧ mirrors s = false) :=
  ⟨⟨svc 0 0x110 ([0, 1] ++ z 14), applyAll [serve (svc 0 0x110 ([0, 1] ++ z 14)), .fld (Reg.FLT_PAIR_STAT) Fld.FLT_PAIR_STAT.EN 0] State.reset, by decide +kernel⟩,
   ⟨0, none, ⟨1, false, 0, 0, true, false, [.prm (Prm.OUT_SRC 0) (w32 0x800000FF)], none, 0⟩, ((verdict (0 : Fin 96) (⟨1, false, 0, 0, true, false, [.prm (Prm.OUT_SRC 0) (w32 0x800000FF)], none, 0⟩ : Commit).items (none : Option (Nat × Nat)) (applyAll [.arm fun a => { a with commits := a.commits.put 0 ⟨1, false, 0, 0, true, false, [.prm (Prm.OUT_SRC 0) (w32 0x800000FF)], none, 0⟩ }, .fld (Reg.FLT_PAIR_STAT) Fld.FLT_PAIR_STAT.EN 0] State.reset : State)).1.getD 0), applyAll [.arm fun a => { a with commits := a.commits.put 0 ⟨1, false, 0, 0, true, false, [.prm (Prm.OUT_SRC 0) (w32 0x800000FF)], none, 0⟩ }, .fld (Reg.FLT_PAIR_STAT) Fld.FLT_PAIR_STAT.EN 0] State.reset, by decide +kernel⟩,
   ⟨0, none, ⟨1, false, 0, 0, true, false, [], none, 0⟩, applyAll [.arm fun a => { a with commits := a.commits.put 0 ⟨1, false, 0, 0, true, false, [], none, 0⟩ }, .fld (Reg.FLT_PAIR_STAT) Fld.FLT_PAIR_STAT.EN 0] State.reset, by decide +kernel⟩⟩

/-- The hypotheses of ArmatureFails can hold, in each clause. -/
theorem witness_ArmatureFails :
    (∃ (s : State), watched s = true ∧ s.fld Reg.HUB_BOOT Fld.HUB_BOOT.STATE = 3 ∧ recentRecoveries s = [] ∧ 0 < s.pn Prm.PLN_RECOVERY_MAX) ∧
    (∃ (s : State), watched s = true ∧ s.fld Reg.HUB_BOOT Fld.HUB_BOOT.STATE = 3 ∧ recentRecoveries s = [] ∧ 0 < s.pn Prm.PLN_RECOVERY_MAX) ∧
    (∃ (s : State), watched s = false) ∧
    (∃ (firstOk : Bool) (ms : Nat) (s : State), s.arm.dead = false ∧ s.arm.halted = true) ∧
    (∃ (ms : Nat) (s : State), s.arm.dead = false ∧ s.arm.halted = true) :=
  ⟨⟨applyAll [.arm fun a => { a with dead := false }, .fld (Reg.HUB_BOOT) Fld.HUB_BOOT.STATE 3, .prm (Prm.PLN_RECOVERY_MAX) (w32 3)] State.reset, by decide +kernel⟩,
   ⟨applyAll [.arm fun a => { a with dead := false }, .fld (Reg.HUB_BOOT) Fld.HUB_BOOT.STATE 3, .prm (Prm.PLN_RECOVERY_MAX) (w32 3)] State.reset, by decide +kernel⟩,
   ⟨applyAll [.fld (Reg.HUB_BOOT) Fld.HUB_BOOT.STATE 0] State.reset, by decide +kernel⟩,
   ⟨true, 0, applyAll [.arm fun a => { a with halted := true }] State.reset, by decide +kernel⟩,
   ⟨0, applyAll [.arm fun a => { a with halted := true }] State.reset, by decide +kernel⟩⟩

/-- The hypotheses of Aborts can hold, in each clause. -/
theorem witness_Aborts :
    (∃ (writer : Fn) (f : Fn) (v : Word) (s : State), ((writer.val = 0 ∨ writer = f)) ∧ getFld v Fld.ABT_CTRL.GO = 1 ∧ s.arm.aborts.find f = none) ∧
    (∃ (writer : Fn) (f : Fn) (v : Word) (a : Abort) (s : State), ((writer.val = 0 ∨ writer = f)) ∧ getFld v Fld.ABT_CTRL.GO = 1 ∧ s.arm.aborts.find f = some a ∧ a.queued = none) ∧
    (∃ (writer : Fn) (f : Fn) (v : Word) (s : State), writer.val ≠ 0 ∧ writer ≠ f) ∧
    (∃ (f : Fn) (a : Abort) (s : State), s.arm.aborts.find f = some a ∧ a.queued = none ∧ a.reset = false) ∧
    (∃ (f : Fn) (a : Abort) (s : State), s.arm.aborts.find f = some a ∧ a.queued = none ∧ a.reset = false) :=
  ⟨⟨0, 0, setFld 0 Fld.ABT_CTRL.GO 1, applyAll [] State.reset, by decide +kernel⟩,
   ⟨0, 0, setFld 0 Fld.ABT_CTRL.GO 1, ⟨1, none, false⟩, applyAll [.arm fun a => { a with aborts := a.aborts.put 0 ⟨1, none, false⟩ }] State.reset, by decide +kernel⟩,
   ⟨(1 : Fn), (2 : Fn), 0#32, applyAll [] State.reset, by decide +kernel⟩,
   ⟨0, ⟨1, none, false⟩, applyAll [.arm fun a => { a with aborts := a.aborts.put 0 ⟨1, none, false⟩ }] State.reset, by decide +kernel⟩,
   ⟨0, ⟨1, none, false⟩, applyAll [.arm fun a => { a with aborts := a.aborts.put 0 ⟨1, none, false⟩ }] State.reset, by decide +kernel⟩⟩

/-- The hypotheses of SamplesAndWindows can hold, in each clause. -/
theorem witness_SamplesAndWindows :
    (∃ (p : Fin 2176) (rate : Nat) (s : State), s.boot.excluded.contains (p / 544) = false ∧ slotPowered s p = true) ∧
    (∃ (p : Fin 2176) (rate : Nat) (s : State), slotPowered s p = false) ∧
    (∃ (value : Nat) (ch : Nat) (s : State), 2 ≤ s.fld Reg.HUB_BOOT Fld.HUB_BOOT.STATE ∧ s.thm.nextChan = ch ∧ 212 ≤ ch ∧ ch < 216) ∧
    (∃ (v : Word) (s : State), getFld v Fld.THM_CONV.GO = 1 ∧ s.thm.conv = none) ∧
    (∃ (v : Word) (ch : Nat) (s : State), getFld v Fld.THM_CONV.GO = 1 ∧ s.thm.conv = some ch) ∧
    (∃ (value : Nat) (ch : Nat) (s : State), s.thm.conv = some ch ∧ 212 ≤ ch ∧ ch < 216) :=
  ⟨⟨0, 100, applyAll [.fld (Reg.FLT_UNIT 0) Fld.FLT_UNIT.POWERED 1] State.reset, by decide +kernel⟩,
   ⟨0, 100, applyAll [.fld (Reg.FLT_UNIT 0) Fld.FLT_UNIT.POWERED 0] State.reset, by decide +kernel⟩,
   ⟨100, 212, applyAll [.fld (Reg.HUB_BOOT) Fld.HUB_BOOT.STATE 2, .thm fun x => { x with nextChan := 212 }] State.reset, by decide +kernel⟩,
   ⟨setFld 0 Fld.THM_CONV.GO 1, applyAll [] State.reset, by decide +kernel⟩,
   ⟨setFld 0 Fld.THM_CONV.GO 1, 0, applyAll [.thm fun x => { x with conv := some 0 }] State.reset, by decide +kernel⟩,
   ⟨100, 212, applyAll [.thm fun x => { x with conv := some 212 }] State.reset, by decide +kernel⟩⟩

/-- The hypotheses of ThrottleRows can hold, in each clause. -/
theorem witness_ThrottleRows :
    (∃ (s : State), s.arm.halted = false ∧ throttled s = true ∧ s.thm.graceOver = false ∧ s.thm.restoring = false ∧ overTarget s s.flt.bind.size = false) ∧
    (∃ (s : State) (l : Nat), s.arm.halted = false ∧ throttled s = true ∧ s.thm.graceOver = false ∧ s.thm.restoring = false ∧ overTarget s s.flt.bind.size = true ∧ (((List.range 12).filter (shedLevel s ≤ ·)).find? fun k => !overTarget s (boundAt s k)).getD 11 = l) ∧
    (∃ (s : State), s.arm.halted = false ∧ enforcing s = true ∧ s.thm.restoring = false ∧ s.fld Reg.THM_THROTTLE Fld.THM_THROTTLE.CAUSE &&& causesHold s ≠ 0 ∧ shedLevel s < 11) ∧
    (∃ (s : State), s.arm.halted = false ∧ throttled s = true ∧ s.thm.restoring = false ∧ heldLong s s.thm.coolSince = true ∧ heldLong s s.thm.powSince = true ∧ 0 < shedLevel s) ∧
    (∃ (s : State), s.arm.halted = false ∧ throttled s = true ∧ s.thm.restoring = false ∧ heldLong s s.thm.coolSince = true ∧ heldLong s s.thm.powSince = true ∧ shedLevel s = 0) ∧
    (∃ (s : State), s.arm.halted = false ∧ s.thm.restoring = true ∧ 0 < shedLevel s) ∧
    (∃ (c : Fin 128) (s : State), s.arm.halted = false ∧ clusterStopped s c = true ∧ heldLong s (s.thm.stopCool.find c) = true) :=
  ⟨⟨applyAll [.fld (Reg.THM_THROTTLE) Fld.THM_THROTTLE.REQUESTED 1] State.reset, by decide +kernel⟩,
   ⟨applyAll [.fld (Reg.THM_THROTTLE) Fld.THM_THROTTLE.REQUESTED 1, .fld (Reg.THM_THROTTLE) Fld.THM_THROTTLE.SHED_LEVEL 0, .flt fun x => { x with bind := x.bind.put 0 ⟨0, 0, 0, 0⟩ }] State.reset, 0, by decide +kernel⟩,
   ⟨applyAll [.fld (Reg.THM_THROTTLE) Fld.THM_THROTTLE.ENFORCING 1, .fld (Reg.THM_THROTTLE) Fld.THM_THROTTLE.CAUSE 2, .prm (Prm.PWR_LIMIT_W) (w32 1), .prm (Prm.PWR_PACKAGE_W) (w32 100), .fld (Reg.THM_THROTTLE) Fld.THM_THROTTLE.SHED_LEVEL 0] State.reset, by decide +kernel⟩,
   ⟨applyAll [.fld (Reg.THM_THROTTLE) Fld.THM_THROTTLE.REQUESTED 1, .thm fun x => { x with coolSince := some 0, powSince := some 0 }, .prm (Prm.THM_RELEASE_S) (w32 0), .fld (Reg.THM_THROTTLE) Fld.THM_THROTTLE.SHED_LEVEL 3] State.reset, by decide +kernel⟩,
   ⟨applyAll [.fld (Reg.THM_THROTTLE) Fld.THM_THROTTLE.REQUESTED 1, .thm fun x => { x with coolSince := some 0, powSince := some 0 }, .prm (Prm.THM_RELEASE_S) (w32 0), .fld (Reg.THM_THROTTLE) Fld.THM_THROTTLE.SHED_LEVEL 0] State.reset, by decide +kernel⟩,
   ⟨applyAll [.thm fun x => { x with restoring := true }, .fld (Reg.THM_THROTTLE) Fld.THM_THROTTLE.SHED_LEVEL 3] State.reset, by decide +kernel⟩,
   ⟨0, applyAll [.thm fun x => { x with stopped := [0], stopCool := x.stopCool.put 0 0 }, .prm (Prm.THM_RELEASE_S) (w32 0)] State.reset, by decide +kernel⟩⟩

/-- The hypotheses of PinsLifeAndVcore can hold, in each clause. -/
theorem witness_PinsLifeAndVcore :
    (∃ (n : Fin 68) (s : State), s.flag (Reg.THM_PIN_FAULT (n / 32)) ⟨n % 32, n % 32⟩ = false ∧ ((n.val < 16 ∨ 64 ≤ n.val))) ∧
    (∃ (n : Fin 68) (s : State), s.flag (Reg.THM_PIN_FAULT (n / 32)) ⟨n % 32, n % 32⟩ = true) ∧
    (∃ (s : State), s.arm.halted = false) ∧
    (∃ (die : Fin 4) (mv : Nat) (v : Nat) (s : State), s.arm.halted = false ∧ s.thm.steerOff.contains die.val = false ∧ vcoreMay s die (s.fld (Reg.PWR_VCORE die) Fld.PWR_VCORE.COMMANDED_MV) mv = true ∧ v < 1024) ∧
    (∃ (die : Fin 4) (mv : Nat) (s : State), s.arm.halted = false ∧ s.thm.steerOff.contains die.val = false ∧ vcoreMay s die (s.fld (Reg.PWR_VCORE die) Fld.PWR_VCORE.COMMANDED_MV) mv = true ∧ s.thm.vfail.getD die 0 = 2) :=
  ⟨⟨0, applyAll [.reg (Reg.THM_PIN_FAULT 0) 0] State.reset, by decide +kernel⟩,
   ⟨0, applyAll [.reg (Reg.THM_PIN_FAULT 0) 1] State.reset, by decide +kernel⟩,
   ⟨applyAll [] State.reset, by decide +kernel⟩,
   ⟨0, 755, 755, applyAll [.fld (Reg.PWR_VCORE 0) Fld.PWR_VCORE.COMMANDED_MV 750, .fld (Reg.PWR_VCORE 0) Fld.PWR_VCORE.THROTTLED 0, .prm (Prm.VCORE_MODE) (w32 1)] State.reset, by decide +kernel⟩,
   ⟨0, 755, applyAll [.fld (Reg.PWR_VCORE 0) Fld.PWR_VCORE.COMMANDED_MV 750, .fld (Reg.PWR_VCORE 0) Fld.PWR_VCORE.THROTTLED 0, .prm (Prm.VCORE_MODE) (w32 1), .thm fun x => { x with vfail := x.vfail.put 0 2 }] State.reset, by decide +kernel⟩⟩

/-- The hypotheses of SalPorts can hold, in each clause. -/
theorem witness_SalPorts :
    (∃ (n : Fin 4) (v : Word) (s : State), salEn s n = true ∧ getFld v Fld.SAL_PORT_CTRL.MODE = 2) ∧
    (∃ (n : Fin 4) (v : Word) (s : State), salEn s n = true ∧ getFld v Fld.SAL_PORT_CTRL.MODE = 0) ∧
    (∃ (n : Fin 4) (v : Word) (s : State), salEn s n = false) ∧
    (∃ (tlk : Bool) (i : Fin 128) (v : Word) (s : State), getFld v Fld.SAL_LANE_ALIGN.SLIP = 1 ∧ viewHolds s tlk i = true) ∧
    (∃ (n : Fin 4) (skew : Nat) (lanes : List (Nat × Bool)) (s : State), salMode s n = 2 ∧ salEn s n = true ∧ columnOk (salLanes s n) lanes = true ∧ skew ≤ 48 ∧ 1 ≤ (s.sal n).columns) ∧
    (∃ (n : Fin 4) (skew : Nat) (lanes : List (Nat × Bool)) (s : State), salMode s n = 2 ∧ salEn s n = true ∧ columnOk (salLanes s n) lanes = true ∧ 48 < skew) ∧
    (∃ (n : Fin 4) (k : Fin 8) (s : State), salEn s n = true ∧ salMode s n = 2 ∧ ((List.range 8).filter fun sn => snsOn s sn n) = []) ∧
    (∃ (tlk : Bool) (i : Fin 128) (s : State), viewHolds s tlk i = true) :=
  ⟨⟨0, setFld 0 Fld.SAL_PORT_CTRL.MODE 2, applyAll [.prm (Prm.SAL_PORT_CFG 0) (w32 0x80000100)] State.reset, by decide +kernel⟩,
   ⟨0, 0#32, applyAll [.prm (Prm.SAL_PORT_CFG 0) (w32 0x80000100)] State.reset, by decide +kernel⟩,
   ⟨0, 0#32, applyAll [.prm (Prm.SAL_PORT_CFG 0) (w32 0)] State.reset, by decide +kernel⟩,
   ⟨false, 0, setFld 0 Fld.SAL_LANE_ALIGN.SLIP 1, applyAll [.prm (Prm.SAL_PORT_CFG 0) (w32 0x80000100)] State.reset, by decide +kernel⟩,
   ⟨0, 10, [(0, false)], applyAll [.prm (Prm.SAL_PORT_CFG 0) (w32 0x80000100), .fld (Reg.SAL_PORT_CTRL 0) Fld.SAL_PORT_CTRL.MODE 2, effSal 0 fun p => { p with columns := 1 }] State.reset, by decide +kernel⟩,
   ⟨0, 49, [(0, false)], applyAll [.prm (Prm.SAL_PORT_CFG 0) (w32 0x80000100), .fld (Reg.SAL_PORT_CTRL 0) Fld.SAL_PORT_CTRL.MODE 2] State.reset, by decide +kernel⟩,
   ⟨0, 0, applyAll [.prm (Prm.SAL_PORT_CFG 0) (w32 0x80000100), .fld (Reg.SAL_PORT_CTRL 0) Fld.SAL_PORT_CTRL.MODE 2] State.reset, by decide +kernel⟩,
   ⟨false, 0, applyAll [.prm (Prm.SAL_PORT_CFG 0) (w32 0x80000100)] State.reset, by decide +kernel⟩⟩

/-- The hypotheses of SalTraffic can hold, in each clause. -/
theorem witness_SalTraffic :
    (∃ (n : Fin 4) (at4 : Nat) (bytes : Bytes) (s : State), salReady s n = true ∧ parsePkt bytes = none) ∧
    (∃ (n : Fin 4) (at4 : Nat) (bytes : Bytes) (p : SalPkt) (s : State), salReady s n = true ∧ parsePkt bytes = some p) ∧
    (∃ (n : Fin 4) (bytes : Bytes) (p : SalPkt) (s : State), salReady s n = true ∧ parsePkt bytes = some p ∧ (s.sal n).rxSeq = none) ∧
    (∃ (sn : Fin 8) (f : Nat) (s : State), (s.sns sn).frame = some f ∧ (s.sns sn).early = false ∧ snsPair s sn = true) ∧
    (∃ (sn : Fin 8) (f : Nat) (s : State), (s.sns sn).frame = some f ∧ (s.sns sn).early = true) ∧
    (∃ (sn : Fin 8) (s : State), (s.sns sn).frame = none) ∧
    (∃ (n : Fin 4) (c : BcCmd) (s : State), (s.sal n).bc = some c ∧ c.sent < 3 ∧ tripped s = false) ∧
    (∃ (n : Fin 4) (c : BcCmd) (s : State), (s.sal n).bc = some c ∧ 3 ≤ c.sent) ∧
    (∃ (sn : Fin 8) (s : State), trigTargets s (0x30 + sn) = [sn.val]) ∧
    (∃ (n : Fin 8) (falling : Bool) (widthNs : Nat) (s : State), 10 ≤ widthNs ∧ trigTargets s (0x10 + n) = [] ∧ bitOf (s.pn (Prm.TRIG_CFG n)) 1 = true ∧ bitOf (s.pn (Prm.TRIG_CFG n)) 0 = falling ∧ (s.tim.caps.getD n []).length < 4) ∧
    (∃ (n : Fin 8) (falling : Bool) (widthNs : Nat) (s : State), widthNs < 10) ∧
    (∃ (sn : Fin 8) (at16 : Nat) (late : Bool) (rest : List (Nat × Bool)) (s : State), (s.sns sn).sends = (at16, late) :: rest ∧ tripped s = false) :=
  ⟨⟨0, 0, [], applyAll [.fld (Reg.SAL_PORT_STAT 0) Fld.SAL_PORT_STAT.READY 1] State.reset, by decide +kernel⟩,
   ⟨0, 0, buildPkt 24 1 0 (z 8), match parsePkt (buildPkt 24 1 0 (z 8) : Bytes) with | some p => p | none => ⟨0, 0, 0, 0, 0, 0, 0, []⟩, applyAll [.fld (Reg.SAL_PORT_STAT 0) Fld.SAL_PORT_STAT.READY 1] State.reset, by decide +kernel⟩,
   ⟨0, buildPkt 24 1 0 (z 8), match parsePkt (buildPkt 24 1 0 (z 8) : Bytes) with | some p => p | none => ⟨0, 0, 0, 0, 0, 0, 0, []⟩, applyAll [.fld (Reg.SAL_PORT_STAT 0) Fld.SAL_PORT_STAT.READY 1] State.reset, by decide +kernel⟩,
   ⟨0, 5, applyAll [effSns 0 fun x => { x with frame := some 5 }, .prm (Prm.SAL_SNS_PORT 0) (w32 0x10)] State.reset, by decide +kernel⟩,
   ⟨0, 5, applyAll [effSns 0 fun x => { x with frame := some 5, early := true }, .prm (Prm.SAL_SNS_PORT 0) (w32 0)] State.reset, by decide +kernel⟩,
   ⟨0, applyAll [] State.reset, by decide +kernel⟩,
   ⟨0, ⟨1, 0, 1, 1, 0, 1, z 8, 1⟩, applyAll [.fld Reg.THM_STAT Fld.THM_STAT.TRIP 0, effSal 0 fun p => { p with bc := some ⟨1, 0, 1, 1, 0, 1, z 8, 1⟩ }] State.reset, by decide +kernel⟩,
   ⟨0, ⟨1, 0, 1, 1, 0, 1, z 8, 3⟩, applyAll [effSal 0 fun p => { p with bc := some ⟨1, 0, 1, 1, 0, 1, z 8, 3⟩ }] State.reset, by decide +kernel⟩,
   ⟨0, applyAll [.prm (Prm.SAL_SNS_PORT 0) (w32 0), .prm (Prm.SAL_TRIG_SRC 0) (w32 0x30)] State.reset, by decide +kernel⟩,
   ⟨0, false, 20, applyAll [.prm (Prm.TRIG_CFG 0) (w32 2)] State.reset, by decide +kernel⟩,
   ⟨0, true, 0, applyAll [] State.reset, by decide +kernel⟩,
   ⟨0, 5, false, [], applyAll [.fld Reg.THM_STAT Fld.THM_STAT.TRIP 0, .prm (Prm.SAL_SNS_PORT 0) (w32 0), effSns 0 fun x => { x with sends := [(5, false)] }] State.reset, by decide +kernel⟩⟩

/-- The hypotheses of CameraCommands can hold, in each clause. -/
theorem witness_CameraCommands :
    (∃ (k : Svc) (s : State), Served s 0x200 k ∧ k.f = 0 ∧ k.n 0 1 < 8 ∧ snsBound s (k.n 0 1) = true ∧ zeroAt k.cmd.payload 1 1 = true ∧ 1 ≤ k.n 2 2 ∧ k.n 2 2 ≤ 64 ∧ k.cmd.len = 4 + 8 * k.n 2 2 ∧ salReady s (snsPort s (k.n 0 1)) = true ∧ (s.sal (snsPort s (k.n 0 1))).bc = none ∧ TicketFree s k) ∧
    (∃ (k : Svc) (s : State), Served s 0x201 k ∧ k.f = 0 ∧ k.n 0 1 < 8 ∧ snsBound s (k.n 0 1) = true ∧ zeroAt k.cmd.payload 1 1 = true ∧ 1 ≤ k.n 2 2 ∧ k.n 2 2 ≤ 64 ∧ k.cmd.len = 4 + 4 * k.n 2 2 ∧ salReady s (snsPort s (k.n 0 1)) = true ∧ (s.sal (snsPort s (k.n 0 1))).bc = none ∧ TicketFree s k) ∧
    (∃ (k : Svc) (i : FrameInfo) (s : State), Served s 0x202 k ∧ k.f = 0 ∧ k.cmd.len = 8 ∧ k.n 0 1 < 8 ∧ snsBound s (k.n 0 1) = true ∧ zeroAt k.cmd.payload 1 3 = true ∧ k.n 4 4 = 0xFFFFFFFF ∧ (s.sns (k.n 0 1)).info.head? = some i) ∧
    (∃ (k : Svc) (s : State), Served s 0x300 k ∧ k.f = 0 ∧ k.cmd.len = 24 ∧ k.n 0 1 < 8 ∧ k.n 1 1 < 6 ∧ isStandby s = false ∧ TicketFree s k) ∧
    (∃ (k : Svc) (s : State), Served s 0x301 k ∧ k.f = 0 ∧ k.cmd.len = 16 ∧ k.n 0 1 < 8 ∧ k.n 1 1 < 6 ∧ zeroAt k.cmd.payload 2 2 = true ∧ TicketFree s k) ∧
    (∃ (k : Svc) (s : State), Served s 0x302 k ∧ k.f = 0 ∧ k.cmd.len = 4 ∧ k.n 0 1 < 8 ∧ zeroAt k.cmd.payload 1 3 = true) ∧
    (∃ (k : Svc) (s : State), Served s 0x400 k ∧ k.f = 0 ∧ k.cmd.len = 24 ∧ k.n 1 1 = 0 ∧ k.n 0 1 < 8 ∧ ccTriad 0 (k.n 0 1) = none ∧ isStandby s = false ∧ TicketFree s k) ∧
    (∃ (k : Svc) (s : State), Served s 0x401 k ∧ k.f = 0 ∧ k.cmd.len = 16 ∧ k.n 1 1 = 0 ∧ k.n 0 1 < 8 ∧ ccTriad 0 (k.n 0 1) = none ∧ zeroAt k.cmd.payload 2 2 = true ∧ TicketFree s k) ∧
    (∃ (k : Svc) (s : State), Served s 0x402 k ∧ k.f = 0 ∧ k.cmd.len = 4 ∧ k.n 0 1 < 16 ∧ zeroAt k.cmd.payload 1 3 = true ∧ srcEn (s.pn (Prm.OUT_SRC (k.n 0 1))) = true) ∧
    (∃ (k : Svc) (f : Nat) (s : State), Served s 0x403 k ∧ k.f = 0 ∧ k.cmd.len = 4 ∧ k.n 0 1 < 2 ∧ zeroAt k.cmd.payload 1 3 = true ∧ triadOwner s (k.n 0 1) = some f) :=
  ⟨⟨svc 0 0x200 ([0, 0] ++ leBytes 2 1 ++ z 8), applyAll [serve (svc 0 0x200 ([0, 0] ++ leBytes 2 1 ++ z 8)), .prm (Prm.SAL_SNS_PORT 0) (w32 0), .fld (Reg.SAL_PORT_STAT 0) Fld.SAL_PORT_STAT.READY 1, .fld (Reg.FLT_PAIR_STAT) Fld.FLT_PAIR_STAT.EN 0] State.reset, by decide +kernel⟩,
   ⟨svc 0 0x201 ([0, 0] ++ leBytes 2 1 ++ z 4), applyAll [serve (svc 0 0x201 ([0, 0] ++ leBytes 2 1 ++ z 4)), .prm (Prm.SAL_SNS_PORT 0) (w32 0), .fld (Reg.SAL_PORT_STAT 0) Fld.SAL_PORT_STAT.READY 1, .fld (Reg.FLT_PAIR_STAT) Fld.FLT_PAIR_STAT.EN 0] State.reset, by decide +kernel⟩,
   ⟨svc 0 0x202 (z 4 ++ leBytes 4 0xFFFFFFFF), ⟨5, false, false, false, false, true, 9, 0, 0⟩, applyAll [serve (svc 0 0x202 (z 4 ++ leBytes 4 0xFFFFFFFF)), .prm (Prm.SAL_SNS_PORT 0) (w32 0), effSns 0 fun x => { x with info := [⟨5, false, false, false, false, true, 9, 0, 0⟩] }] State.reset, by decide +kernel⟩,
   ⟨svc 0 0x300 (z 24), applyAll [serve (svc 0 0x300 (z 24)), .fld (Reg.FLT_PAIR_STAT) Fld.FLT_PAIR_STAT.EN 0] State.reset, by decide +kernel⟩,
   ⟨svc 0 0x301 (z 16), applyAll [serve (svc 0 0x301 (z 16)), .fld (Reg.FLT_PAIR_STAT) Fld.FLT_PAIR_STAT.EN 0] State.reset, by decide +kernel⟩,
   ⟨svc 0 0x302 (z 4), applyAll [serve (svc 0 0x302 (z 4)), .fld (Reg.FLT_PAIR_STAT) Fld.FLT_PAIR_STAT.EN 0] State.reset, by decide +kernel⟩,
   ⟨svc 0 0x400 (z 24), applyAll [serve (svc 0 0x400 (z 24)), .fld (Reg.FLT_PAIR_STAT) Fld.FLT_PAIR_STAT.EN 0] State.reset, by decide +kernel⟩,
   ⟨svc 0 0x401 (z 16), applyAll [serve (svc 0 0x401 (z 16)), .fld (Reg.FLT_PAIR_STAT) Fld.FLT_PAIR_STAT.EN 0] State.reset, by decide +kernel⟩,
   ⟨svc 0 0x402 (z 4), applyAll [serve (svc 0 0x402 (z 4)), .prm (Prm.OUT_SRC 0) (w32 0x80000000)] State.reset, by decide +kernel⟩,
   ⟨svc 0 0x403 (z 4), 0, applyAll [serve (svc 0 0x403 (z 4)), .prm (Prm.TRI_OWNER 0) (w32 0x80000000)] State.reset, by decide +kernel⟩⟩

/-- The hypotheses of RecordsAndFrames can hold, in each clause. -/
theorem witness_RecordsAndFrames :
    (∃ (sn : Fin 8) (frame : Nat) (incomplete : Bool) (ts : Nat) (rest : List (Nat × Bool × Nat)) (s : State), (s.sns sn).due = (frame, incomplete, ts) :: rest ∧ hostStat s sn = 0) ∧
    (∃ (o : Fin 18) (f : Nat) (s : State), (s.cout o).cur = some f ∧ o.val < 16 ∧ ringsOf s o = []) ∧
    (∃ (o : Fin 18) (f : Nat) (s : State), (s.cout o).cur = some f ∧ o.val < 16) ∧
    (∃ (o : Fin 18) (f : Nat) (s : State), (s.cout o).cur = some f ∧ 16 ≤ o.val) :=
  ⟨⟨0, 5, false, 9, [], applyAll [effSns 0 fun x => { x with due := [(5, false, 9)] }] State.reset, by decide +kernel⟩,
   ⟨0, 5, applyAll [effOut 0 fun x => { x with cur := some 5, seq := 3 }, .cam fun c => { c with active := c.active.put (Prm.OUT_SRC 0) (w32 0x80000010) }] State.reset, by decide +kernel⟩,
   ⟨0, 5, applyAll [effOut 0 fun x => { x with cur := some 5, seq := 3 }, .prm (Prm.OUT_SRC 0) (w32 0x80000000)] State.reset, by decide +kernel⟩,
   ⟨(16 : Fin 18), 5, applyAll [effOut 16 fun x => { x with cur := some 5 }] State.reset, by decide +kernel⟩⟩

/-- The hypotheses of CastJobs can hold, in each clause. -/
theorem witness_CastJobs :
    (∃ (k : Svc) (h : Nat) (s : State), Served s 0x500 k ∧ k.cmd.len = 32 ∧ (openJob k s).kind < 2 ∧ openFields k (openJob k s) = true ∧ freeHandle s = some h ∧ (sharedEngines s).isEmpty = false) ∧
    (∃ (k : Svc) (j : CastJob) (s : State), Served s 0x501 k ∧ k.cmd.len = 40 ∧ jobHeld s k.f (k.n 0 2) = true ∧ s.job (k.n 0 2) = some j ∧ zeroAt k.cmd.payload 2 2 = true ∧ j.kind = 1 ∧ k.n 4 4 = 0 ∧ j.closing = none ∧ j.run = none ∧ rangeOk s k.f (k.n 8 8) (runInput j 0 (k.n 16 8)) = true ∧ rangeOk s k.f (k.n 24 8) (k.n 32 8) = true ∧ TicketFree s k) ∧
    (∃ (k : Svc) (j : CastJob) (s : State), Served s 0x502 k ∧ k.cmd.len = 4 ∧ jobHeld s k.f (k.n 0 2) = true ∧ s.job (k.n 0 2) = some j ∧ zeroAt k.cmd.payload 2 2 = true ∧ outputNames s 3 (k.n 0 2) = false ∧ ctxNamesJob s (k.n 0 2) = false ∧ j.closing = none ∧ TicketFree s k) ∧
    (∃ (k : Svc) (j : CastJob) (s : State), Served s 0x503 k ∧ k.cmd.len = 4 ∧ jobHeld s k.f (k.n 0 2) = true ∧ s.job (k.n 0 2) = some j ∧ zeroAt k.cmd.payload 2 2 = true) ∧
    (∃ (h : Nat) (j : CastJob) (s : State), firstRun s = some h ∧ s.job h = some j ∧ (((sharedEngines s).filter fun e => !(runEngines s).contains e).take j.want).isEmpty = false) ∧
    (∃ (h : Fin 4096) (j : CastJob) (r : CastRun) (s : State), s.job h = some j ∧ j.run = some r ∧ r.started = true ∧ runPoisoned s j r = true) ∧
    (∃ (h : Fin 4096) (j : CastJob) (r : CastRun) (s : State), s.job h = some j ∧ j.run = some r ∧ r.started = true ∧ runPoisoned s j r = false ∧ j.kind = 1) ∧
    (∃ (h : Fin 4096) (j : CastJob) (f : CastFrame) (rest : List CastFrame) (bs : Bytes) (logs : List SliceLog) (s : State), s.job h = some j ∧ j.kind = 2 ∧ j.frames = f :: rest ∧ encFrame (jobHeader j f.frame f.ts) (j.slotSize - 64) (fun p y x => if (jobHeader j f.frame f.ts).half then halfCode (f.samples.getD (sampleKey p y x) 0) else f.samples.getD (sampleKey p y x) 0) = some (bs, logs)) ∧
    (∃ (h : Fin 4096) (j : CastJob) (ticket : Nat) (s : State), s.job h = some j ∧ j.closing = some ticket ∧ j.run = none ∧ j.frames = []) ∧
    (∃ (h : Fin 4096) (ts : Nat) (payload : Bytes) (j : CastJob) (s : State), s.job h = some j ∧ j.kind = 3 ∧ payload.length < 8) ∧
    (∃ (h : Fin 4096) (ts : Nat) (payload : Bytes) (j : CastJob) (s : State), s.job h = some j ∧ j.kind = 3 ∧ 8 ≤ payload.length ∧ fieldN payload 2 1 < 4 ∧ fieldN payload 3 1 = 0 ∧ j.rx = none) :=
  ⟨⟨svc 0 0x500 (mk 32 [(0, [1, 1]), (16, [255])]), 0, applyAll [serve (svc 0 0x500 (mk 32 [(0, [1, 1]), (16, [255])]))] State.reset, by decide +kernel⟩,
   ⟨svc 0 0x501 (mk 40 [(8, w 8 (2 ^ 63)), (16, w 8 64), (24, w 8 (2 ^ 63 + 4096)), (32, w 8 4096)]), ⟨1, 0, 1, [], 0, 0, 0, 8, 1, 1, 64, 4, 4, 64, none, 0, 0, 0, 0, 0, 0, 0, 0, none, [], none, none⟩, applyAll [serve (svc 0 0x501 (mk 40 [(8, w 8 (2 ^ 63)), (16, w 8 64), (24, w 8 (2 ^ 63 + 4096)), (32, w 8 4096)])), .cast fun x => { x with jobs := x.jobs.put 0 ⟨1, 0, 1, [], 0, 0, 0, 8, 1, 1, 64, 4, 4, 64, none, 0, 0, 0, 0, 0, 0, 0, 0, none, [], none, none⟩ }] State.reset, by decide +kernel⟩,
   ⟨svc 0 0x502 (z 4), ⟨1, 0, 1, [], 0, 0, 0, 8, 1, 1, 64, 4, 4, 64, none, 0, 0, 0, 0, 0, 0, 0, 0, none, [], none, none⟩, applyAll [serve (svc 0 0x502 (z 4)), .cast fun x => { x with jobs := x.jobs.put 0 ⟨1, 0, 1, [], 0, 0, 0, 8, 1, 1, 64, 4, 4, 64, none, 0, 0, 0, 0, 0, 0, 0, 0, none, [], none, none⟩ }] State.reset, by decide +kernel⟩,
   ⟨svc 0 0x503 (z 4), ⟨1, 0, 1, [], 0, 0, 0, 8, 1, 1, 64, 4, 4, 64, none, 0, 0, 0, 0, 0, 0, 0, 0, none, [], none, none⟩, applyAll [serve (svc 0 0x503 (z 4)), .cast fun x => { x with jobs := x.jobs.put 0 ⟨1, 0, 1, [], 0, 0, 0, 8, 1, 1, 64, 4, 4, 64, none, 0, 0, 0, 0, 0, 0, 0, 0, none, [], none, none⟩ }] State.reset, by decide +kernel⟩,
   ⟨0, ⟨1, 0, 1, [], 0, 0, 0, 8, 1, 1, 64, 4, 4, 64, none, 0, 0, 0, 0, 0, 0, 0, 0, some ⟨1, 0, 64, 2 ^ 63, 64, 0, 0, false⟩, [], none, none⟩, applyAll [.cast fun x => { x with jobs := x.jobs.put 0 ⟨1, 0, 1, [], 0, 0, 0, 8, 1, 1, 64, 4, 4, 64, none, 0, 0, 0, 0, 0, 0, 0, 0, some ⟨1, 0, 64, 2 ^ 63, 64, 0, 0, false⟩, [], none, none⟩ }] State.reset, by decide +kernel⟩,
   ⟨0, ⟨1, 0, 1, [], 0, 0, 0, 8, 1, 1, 64, 4, 4, 64, none, 0, 0, 0, 0, 0, 0, 0, 0, some ⟨1, 0, 64, 2 ^ 63, 64, 0, 0, true⟩, [], none, none⟩, ⟨1, 0, 64, 2 ^ 63, 64, 0, 0, true⟩, applyAll [.cast fun x => { x with jobs := x.jobs.put 0 ⟨1, 0, 1, [], 0, 0, 0, 8, 1, 1, 64, 4, 4, 64, none, 0, 0, 0, 0, 0, 0, 0, 0, some ⟨1, 0, 64, 2 ^ 63, 64, 0, 0, true⟩, [], none, none⟩ }, .poison 0 true] State.reset, by decide +kernel⟩,
   ⟨0, ⟨1, 0, 1, [], 0, 0, 0, 8, 1, 1, 64, 4, 4, 64, none, 0, 0, 0, 0, 0, 0, 0, 0, some ⟨1, 0, 64, 2 ^ 63, 64, 0, 0, true⟩, [], none, none⟩, ⟨1, 0, 64, 2 ^ 63, 64, 0, 0, true⟩, applyAll [.cast fun x => { x with jobs := x.jobs.put 0 ⟨1, 0, 1, [], 0, 0, 0, 8, 1, 1, 64, 4, 4, 64, none, 0, 0, 0, 0, 0, 0, 0, 0, some ⟨1, 0, 64, 2 ^ 63, 64, 0, 0, true⟩, [], none, none⟩ }] State.reset, by decide +kernel⟩,
   ⟨0, ⟨2, 0, 1, [], 0, 0, 0x20, 8, 1, 1, 64, 4, 4, 64, none, 2, 2 ^ 63, 4096, 0, 0, 0, 0, 0, none, [⟨5, 9, .empty⟩], none, none⟩, ⟨5, 9, .empty⟩, [], match encFrame (jobHeader (⟨2, 0, 1, [], 0, 0, 0x20, 8, 1, 1, 64, 4, 4, 64, none, 2, 2 ^ 63, 4096, 0, 0, 0, 0, 0, none, [⟨5, 9, .empty⟩], none, none⟩ : CastJob) (⟨5, 9, .empty⟩ : CastFrame).frame (⟨5, 9, .empty⟩ : CastFrame).ts) ((⟨2, 0, 1, [], 0, 0, 0x20, 8, 1, 1, 64, 4, 4, 64, none, 2, 2 ^ 63, 4096, 0, 0, 0, 0, 0, none, [⟨5, 9, .empty⟩], none, none⟩ : CastJob).slotSize - 64) (fun p y x => if (jobHeader (⟨2, 0, 1, [], 0, 0, 0x20, 8, 1, 1, 64, 4, 4, 64, none, 2, 2 ^ 63, 4096, 0, 0, 0, 0, 0, none, [⟨5, 9, .empty⟩], none, none⟩ : CastJob) (⟨5, 9, .empty⟩ : CastFrame).frame (⟨5, 9, .empty⟩ : CastFrame).ts).half then halfCode ((⟨5, 9, .empty⟩ : CastFrame).samples.getD (sampleKey p y x) 0) else (⟨5, 9, .empty⟩ : CastFrame).samples.getD (sampleKey p y x) 0) with | some x => x.1 | none => [], match encFrame (jobHeader (⟨2, 0, 1, [], 0, 0, 0x20, 8, 1, 1, 64, 4, 4, 64, none, 2, 2 ^ 63, 4096, 0, 0, 0, 0, 0, none, [⟨5, 9, .empty⟩], none, none⟩ : CastJob) (⟨5, 9, .empty⟩ : CastFrame).frame (⟨5, 9, .empty⟩ : CastFrame).ts) ((⟨2, 0, 1, [], 0, 0, 0x20, 8, 1, 1, 64, 4, 4, 64, none, 2, 2 ^ 63, 4096, 0, 0, 0, 0, 0, none, [⟨5, 9, .empty⟩], none, none⟩ : CastJob).slotSize - 64) (fun p y x => if (jobHeader (⟨2, 0, 1, [], 0, 0, 0x20, 8, 1, 1, 64, 4, 4, 64, none, 2, 2 ^ 63, 4096, 0, 0, 0, 0, 0, none, [⟨5, 9, .empty⟩], none, none⟩ : CastJob) (⟨5, 9, .empty⟩ : CastFrame).frame (⟨5, 9, .empty⟩ : CastFrame).ts).half then halfCode ((⟨5, 9, .empty⟩ : CastFrame).samples.getD (sampleKey p y x) 0) else (⟨5, 9, .empty⟩ : CastFrame).samples.getD (sampleKey p y x) 0) with | some x => x.2 | none => [], applyAll [.cast fun x => { x with jobs := x.jobs.put 0 ⟨2, 0, 1, [], 0, 0, 0x20, 8, 1, 1, 64, 4, 4, 64, none, 2, 2 ^ 63, 4096, 0, 0, 0, 0, 0, none, [⟨5, 9, .empty⟩], none, none⟩ }] State.reset, by decide +kernel⟩,
   ⟨0, ⟨1, 0, 1, [], 0, 0, 0, 8, 1, 1, 64, 4, 4, 64, none, 0, 0, 0, 0, 0, 0, 0, 0, none, [], none, some 1⟩, 1, applyAll [.cast fun x => { x with jobs := x.jobs.put 0 ⟨1, 0, 1, [], 0, 0, 0, 8, 1, 1, 64, 4, 4, 64, none, 0, 0, 0, 0, 0, 0, 0, 0, none, [], none, some 1⟩ }] State.reset, by decide +kernel⟩,
   ⟨0, 0, [], ⟨3, 0, 1, [], 0, 0, 0, 8, 1, 1, 64, 4, 4, 64, none, 0, 0, 0, 0, 0, 0, 0, 0, none, [], none, none⟩, applyAll [.cast fun x => { x with jobs := x.jobs.put 0 ⟨3, 0, 1, [], 0, 0, 0, 8, 1, 1, 64, 4, 4, 64, none, 0, 0, 0, 0, 0, 0, 0, 0, none, [], none, none⟩ }] State.reset, by decide +kernel⟩,
   ⟨0, 0, mk 12 [(8, [1, 2, 3, 4])], ⟨3, 0, 1, [], 0, 0, 0, 8, 1, 1, 64, 4, 4, 64, none, 0, 0, 0, 0, 0, 0, 0, 0, none, [], none, none⟩, applyAll [.cast fun x => { x with jobs := x.jobs.put 0 ⟨3, 0, 1, [], 0, 0, 0, 8, 1, 1, 64, 4, 4, 64, none, 0, 0, 0, 0, 0, 0, 0, 0, none, [], none, none⟩ }] State.reset, by decide +kernel⟩⟩

/-- The hypotheses of StreamCommands can hold, in each clause. -/
theorem witness_StreamCommands :
    (∃ (k : Svc) (i : Nat) (s : State), Served s 0x600 k ∧ k.f = 0 ∧ k.cmd.len = 96 ∧ descOk k.cmd.payload = true ∧ dSealed k.cmd.payload = false ∧ dEss k.cmd.payload ≠ 3 ∧ ctxRingBytes k.cmd.payload = 0 ∧ freeCtx s = some i) ∧
    (∃ (k : Svc) (x : StrCtx) (s : State), Served s 0x601 k ∧ k.cmd.len = 4 ∧ k.n 0 2 < 4096 ∧ zeroAt k.cmd.payload 2 2 = true ∧ namedCtx k s (k.n 0 2) = some x ∧ ruleNames s (k.n 0 2) = false ∧ layerNames s 1 (k.n 0 2) = false ∧ outputNames s 2 (k.n 0 2) = false ∧ (∀ w ∈ s.str.waiting, w.ctx ≠ k.n 0 2)) ∧
    (∃ (k : Svc) (x : StrCtx) (s : State), Served s 0x602 k ∧ k.cmd.len = 4 ∧ k.n 2 1 = 1 ∧ k.n 3 1 = 0 ∧ k.n 0 2 < 4096 ∧ k.f = 0 ∧ s.ctx (k.n 0 2) = some x ∧ dDir x.desc = 0 ∧ x.owner = 0) ∧
    (∃ (k : Svc) (x : StrCtx) (s : State), Served s 0x602 k ∧ k.cmd.len = 4 ∧ k.n 2 1 = 2 ∧ k.n 3 1 = 0 ∧ k.n 0 2 < 4096 ∧ k.f = 0 ∧ s.ctx (k.n 0 2) = some x ∧ dDir x.desc = 0 ∧ x.owner = 0) ∧
    (∃ (k : Svc) (x : StrCtx) (s : State), Served s 0x602 k ∧ k.cmd.len = 4 ∧ k.n 2 1 = 4 ∧ k.n 3 1 = 0 ∧ k.n 0 2 < 4096 ∧ k.f = 0 ∧ s.ctx (k.n 0 2) = some x ∧ dDir x.desc = 0 ∧ x.owner = 0 ∧ s.str.cache.contains (k.n 0 2) = true ∧ (pinnedCtxs s).length < 64 ∧ (setOf (pinnedCtxs s) (k.n 0 2)).length < 4) ∧
    (∃ (k : Svc) (x : StrCtx) (s : State), Served s 0x602 k ∧ k.cmd.len = 4 ∧ k.n 2 1 = 8 ∧ k.n 3 1 = 0 ∧ k.n 0 2 < 4096 ∧ k.f = 0 ∧ s.ctx (k.n 0 2) = some x ∧ dDir x.desc = 0 ∧ x.owner = 0) ∧
    (∃ (k : Svc) (x : StrCtx) (s : State), Served s 0x603 k ∧ k.cmd.len = 4 ∧ k.n 0 2 < 4096 ∧ zeroAt k.cmd.payload 2 2 = true ∧ namedCtx k s (k.n 0 2) = some x) ∧
    (∃ (k : Svc) (x : StrCtx) (s : State), Served s 0x604 k ∧ k.f = 0 ∧ k.cmd.len = 68 ∧ k.n 0 2 < 8192 ∧ ruleOk (field k.cmd.payload 4 64) = true ∧ zeroAt k.cmd.payload 2 2 = true ∧ s.ctx (fieldN (field k.cmd.payload 4 64) 0 2) = some x ∧ x.owner = 0 ∧ dDir x.desc = 0 ∧ (ruleOwners s (k.n 0 2)).any (· != 0) = false) ∧
    (∃ (k : Svc) (s : State), Served s 0x605 k ∧ k.f = 0 ∧ k.cmd.len = 4 ∧ k.n 0 2 < 8192 ∧ zeroAt k.cmd.payload 2 2 = true) ∧
    (∃ (k : Svc) (b : Bytes) (s : State), Served s 0x606 k ∧ k.f = 0 ∧ k.cmd.len = 4 ∧ k.n 0 2 < 8192 ∧ zeroAt k.cmd.payload 2 2 = true ∧ s.obj K_RULE (k.n 0 2) = some b) ∧
    (∃ (k : Svc) (s : State), Served s 0x610 k ∧ k.f = 0 ∧ k.cmd.len = 8 ∧ 1 ≤ k.n 0 1 ∧ k.n 0 1 < 64 ∧ k.n 1 1 = 0 ∧ zeroAt k.cmd.payload 6 2 = true ∧ liveObjs s K_RULE = [] ∧ (ctxsOf s (k.n 0 1)).length ≤ k.n 2 2 ∧ (ruleHeld s (k.n 0 1)).length ≤ k.n 4 2) ∧
    (∃ (k : Svc) (s : State), Served s 0x611 k ∧ k.f = 0 ∧ k.cmd.len = 4 ∧ k.n 0 1 < 64 ∧ zeroAt k.cmd.payload 1 3 = true) :=
  ⟨⟨svc 0 0x600 (mk 96 [(0, [1, 0]), (4, [96]), (40, w 2 64), (42, w 2 32), (44, w 2 1), (46, w 2 60)]), 0, applyAll [serve (svc 0 0x600 (mk 96 [(0, [1, 0]), (4, [96]), (40, w 2 64), (42, w 2 32), (44, w 2 1), (46, w 2 60)]))] State.reset, by decide +kernel⟩,
   ⟨svc 0 0x601 (z 4), { newCtx State.reset 0 (z 96) with rtpSeq := 0 }, applyAll [serve (svc 0 0x601 (z 4)), effStr fun t => { t with ctxs := t.ctxs.put 0 ({ newCtx State.reset 0 (z 96) with rtpSeq := 0 }) }] State.reset, by decide +kernel⟩,
   ⟨svc 0 0x602 ([0, 0, 1, 0]), { newCtx State.reset 0 (z 96) with rtpSeq := 0 }, applyAll [serve (svc 0 0x602 ([0, 0, 1, 0])), effStr fun t => { t with ctxs := t.ctxs.put 0 ({ newCtx State.reset 0 (z 96) with rtpSeq := 0 }) }] State.reset, by decide +kernel⟩,
   ⟨svc 0 0x602 ([0, 0, 2, 0]), { newCtx State.reset 0 (z 96) with rtpSeq := 0 }, applyAll [serve (svc 0 0x602 ([0, 0, 2, 0])), effStr fun t => { t with ctxs := t.ctxs.put 0 ({ newCtx State.reset 0 (z 96) with rtpSeq := 0 }) }] State.reset, by decide +kernel⟩,
   ⟨svc 0 0x602 ([0, 0, 4, 0]), { newCtx State.reset 0 (z 96) with rtpSeq := 0 }, applyAll [serve (svc 0 0x602 ([0, 0, 4, 0])), effStr fun t => { t with ctxs := t.ctxs.put 0 ({ newCtx State.reset 0 (z 96) with rtpSeq := 0 }) }, effStr fun t => { t with cache := [0] }] State.reset, by decide +kernel⟩,
   ⟨svc 0 0x602 ([0, 0, 8, 0]), { newCtx State.reset 0 (z 96) with rtpSeq := 0 }, applyAll [serve (svc 0 0x602 ([0, 0, 8, 0])), effStr fun t => { t with ctxs := t.ctxs.put 0 ({ newCtx State.reset 0 (z 96) with rtpSeq := 0 }) }] State.reset, by decide +kernel⟩,
   ⟨svc 0 0x603 (z 4), { newCtx State.reset 0 (z 96) with rtpSeq := 0 }, applyAll [serve (svc 0 0x603 (z 4)), effStr fun t => { t with ctxs := t.ctxs.put 0 ({ newCtx State.reset 0 (z 96) with rtpSeq := 0 }) }] State.reset, by decide +kernel⟩,
   ⟨svc 0 0x604 (z 4 ++ mk 64 [(3, [1])]), { newCtx State.reset 0 (z 96) with rtpSeq := 0 }, applyAll [serve (svc 0 0x604 (z 4 ++ mk 64 [(3, [1])])), effStr fun t => { t with ctxs := t.ctxs.put 0 ({ newCtx State.reset 0 (z 96) with rtpSeq := 0 }) }] State.reset, by decide +kernel⟩,
   ⟨svc 0 0x605 (z 4), applyAll [serve (svc 0 0x605 (z 4))] State.reset, by decide +kernel⟩,
   ⟨svc 0 0x606 (z 4), leBytes 1 0 ++ (mk 64 [(3, [1])]), applyAll [serve (svc 0 0x606 (z 4)), .obj K_RULE 0 (some (leBytes 1 0 ++ mk 64 [(3, [1])]))] State.reset, by decide +kernel⟩,
   ⟨svc 0 0x610 (mk 8 [(0, [1])]), applyAll [serve (svc 0 0x610 (mk 8 [(0, [1])]))] State.reset, by decide +kernel⟩,
   ⟨svc 0 0x611 (z 4), applyAll [serve (svc 0 0x611 (z 4))] State.reset, by decide +kernel⟩⟩

/-- The hypotheses of StreamTraffic can hold, in each clause. -/
theorem witness_StreamTraffic :
    (∃ (p : Fin 4) (room : Bool) (frame : Bytes) (s : State), bitOf (s.pn (Prm.ETH_PORT_CFG p)) 31 = true) ∧
    (∃ (p : Fin 4) (frame : Bytes) (i : Nat) (q : Pkt) (s : State), bitOf (s.pn (Prm.ETH_PORT_CFG p)) 31 = true ∧ 64 ≤ frame.length ∧ frame.length ≤ s.pn (Prm.ETH_MTU p) + 22 ∧ beNat (field frame (tagOf frame).2 2) ≠ 0x8808 ∧ answerFrame s p frame = none ∧ parseUdp p s.vis frame = some q ∧ q.dport ≠ 319 ∧ q.dport ≠ 320 ∧ isRtcp q.body = false ∧ classify s q = some i) ∧
    (∃ (w : Waiting) (rest : List Waiting) (s : State), s.str.waiting = w :: rest) ∧
    (∃ (s : State), s.pn Prm.STR_MISS_STORM_T < s.str.missWin) ∧
    (∃ (s : State), s.str.missWin ≤ s.pn Prm.STR_MISS_STORM_T) ∧
    (∃ (n : Fin 4096) (pathB : Bool) (x : StrCtx) (s : State), s.ctx n = some x ∧ dDual x.desc = true ∧ (pathOf x pathB).up = true ∧ dPortA x.desc < 4 ∧ dPortB x.desc < 4) ∧
    (∃ (n : Fin 4096) (x : StrCtx) (bound : Nat) (s : State), s.ctx n = some x ∧ x.high = some bound) ∧
    (∃ (n : Fin 4096) (len : Nat) (x : StrCtx) (s : State), s.ctx n = some x ∧ dDir x.desc = 1 ∧ x.enabled = true ∧ dEss x.desc = 1) ∧
    (∃ (n : Fin 4096) (len : Nat) (x : StrCtx) (tx : StrTx) (s : State), s.ctx n = some x ∧ dDir x.desc = 1 ∧ x.enabled = true ∧ dEss x.desc = 0 ∧ x.tx = some tx) ∧
    (∃ (pkg : Fin 16) (f : Fn) (header : Bytes) (payload : Bytes) (s : State), grantOf s pkg f = none) ∧
    (∃ (pkg : Fin 16) (f : Fn) (header : Bytes) (payload : Bytes) (g : Nat × Nat) (s : State), grantOf s pkg f = some g ∧ (s.mbx (remoteKey pkg f)).rung = none) :=
  ⟨⟨0, true, [], applyAll [.prm (Prm.ETH_PORT_CFG 0) (w32 0x80000000)] State.reset, by decide +kernel⟩,
   ⟨0, (z 12 ++ [8, 0] ++ mk 46 [(0, [0x45]), (2, beBytes 2 36), (9, [17]), (10, beBytes 2 0xBABF), (22, [0x12, 0x34]), (24, beBytes 2 16)] ++ z 4), 0, match parseUdp (0 : Fin 4) (applyAll [.prm (Prm.ETH_PORT_CFG 0) (w32 0x80000000), effStr fun t => { t with ctxs := t.ctxs.put 0 ({ newCtx State.reset 0 (z 96) with rtpSeq := 0 }) }, .obj K_RULE 0 (some (leBytes 1 0 ++ mk 64 [(3, [1]), (14, w 2 65535)])), .prm (Prm.ETH_MTU 0) (w32 1500)] State.reset : State).vis ((z 12 ++ [8, 0] ++ mk 46 [(0, [0x45]), (2, beBytes 2 36), (9, [17]), (10, beBytes 2 0xBABF), (22, [0x12, 0x34]), (24, beBytes 2 16)] ++ z 4) : Bytes) with | some q => q | none => ⟨0, none, false, [], [], 0, 0, [], false, 0, 0⟩, applyAll [.prm (Prm.ETH_PORT_CFG 0) (w32 0x80000000), effStr fun t => { t with ctxs := t.ctxs.put 0 ({ newCtx State.reset 0 (z 96) with rtpSeq := 0 }) }, .obj K_RULE 0 (some (leBytes 1 0 ++ mk 64 [(3, [1]), (14, w 2 65535)])), .prm (Prm.ETH_MTU 0) (w32 1500)] State.reset, by decide +kernel⟩,
   ⟨⟨0, 0, 1, []⟩, [], applyAll [effStr fun t => { t with waiting := [⟨0, 0, 1, []⟩] }, effStr fun t => { t with ctxs := t.ctxs.put 0 ({ newCtx State.reset 0 (z 96) with rtpSeq := 0 }) }] State.reset, by decide +kernel⟩,
   ⟨applyAll [.prm (Prm.STR_MISS_STORM_T) (w32 1), effStr fun t => { t with missWin := 2 }] State.reset, by decide +kernel⟩,
   ⟨applyAll [.prm (Prm.STR_MISS_STORM_T) (w32 1), effStr fun t => { t with missWin := 1 }] State.reset, by decide +kernel⟩,
   ⟨0, false, { newCtx State.reset 0 (mk 96 [(2, [0x84])]) with rtpSeq := 0, a := ⟨true, 0, 0, 0⟩ }, applyAll [effStr fun t => { t with ctxs := t.ctxs.put 0 ({ newCtx State.reset 0 (mk 96 [(2, [0x84])]) with rtpSeq := 0, a := ⟨true, 0, 0, 0⟩ }) }] State.reset, by decide +kernel⟩,
   ⟨0, { newCtx State.reset 0 (z 96) with rtpSeq := 0, high := some 5 }, 5, applyAll [effStr fun t => { t with ctxs := t.ctxs.put 0 ({ newCtx State.reset 0 (z 96) with rtpSeq := 0, high := some 5 }) }] State.reset, by decide +kernel⟩,
   ⟨0, 10, { newCtx State.reset 0 (mk 96 [(0, [1, 1])]) with rtpSeq := 0 }, applyAll [effStr fun t => { t with ctxs := t.ctxs.put 0 ({ newCtx State.reset 0 (mk 96 [(0, [1, 1])]) with rtpSeq := 0 }) }] State.reset, by decide +kernel⟩,
   ⟨0, 0, { newCtx State.reset 0 (mk 96 [(0, [1, 0])]) with rtpSeq := 0, tx := some ⟨0, 0, .empty, [], 0, 0⟩ }, ⟨0, 0, .empty, [], 0, 0⟩, applyAll [effStr fun t => { t with ctxs := t.ctxs.put 0 ({ newCtx State.reset 0 (mk 96 [(0, [1, 0])]) with rtpSeq := 0, tx := some ⟨0, 0, .empty, [], 0, 0⟩ }) }] State.reset, by decide +kernel⟩,
   ⟨0, 0, [], [], applyAll [] State.reset, by decide +kernel⟩,
   ⟨0, 0, leBytes 32 0x100, [], (0, 0), applyAll [.prm (Prm.PRN_REMOTE 0) (w32 0x80000000)] State.reset, by decide +kernel⟩⟩

/-- The hypotheses of WallCommands can hold, in each clause. -/
theorem witness_WallCommands :
    (∃ (k : Svc) (s : State), Served s 0x700 k ∧ k.f = 0 ∧ k.cmd.len = 24 ∧ isStandby s = false ∧ TicketFree s k) ∧
    (∃ (k : Svc) (s : State), Served s 0x701 k ∧ k.f = 0 ∧ k.cmd.len = 16 ∧ zeroAt k.cmd.payload 0 4 = true ∧ TicketFree s k) ∧
    (∃ (k : Svc) (s : State), Served s 0x702 k ∧ k.f = 0 ∧ k.cmd.len = 24 ∧ k.n 0 1 < 64 ∧ k.n 1 1 < 16 ∧ k.n 2 1 = 1 ∧ zeroAt k.cmd.payload 3 1 = true ∧ zeroAt k.cmd.payload 22 2 = true ∧ halfFinite (k.n 20 2) = true) ∧
    (∃ (k : Svc) (s : State), Served s 0x703 k ∧ k.cmd.len = 68 ∧ k.holds s R_WINDOW = true ∧ k.n 0 1 < 64 ∧ layerFieldsOk (leBytes 1 k.f ++ field k.cmd.payload 4 64) = true ∧ zeroAt k.cmd.payload 1 3 = true ∧ (if lyWin (leBytes 1 k.f ++ field k.cmd.payload 4 64) = 255 then !k.isF0 else (winObj s k.f (lyWin (leBytes 1 k.f ++ field k.cmd.payload 4 64))).isNone) = false ∧ layerTaken s k.f (k.n 0 1) = false) ∧
    (∃ (k : Svc) (s : State), Served s 0x703 k ∧ k.cmd.len = 68 ∧ k.holds s R_WINDOW = false) ∧
    (∃ (k : Svc) (s : State), Served s 0x704 k ∧ k.cmd.len = 4 ∧ k.holds s R_WINDOW = true ∧ k.n 0 1 < 64 ∧ zeroAt k.cmd.payload 1 3 = true ∧ layerTaken s k.f (k.n 0 1) = false) ∧
    (∃ (k : Svc) (s : State), Served s 0x705 k ∧ k.f = 0 ∧ k.cmd.len = 4 ∧ k.n 0 1 < 64 ∧ zeroAt k.cmd.payload 1 3 = true) ∧
    (∃ (k : Svc) (s : State), Served s 0x706 k ∧ k.f = 0 ∧ k.cmd.len = 32 ∧ k.n 2 1 = 2 ∧ k.n 3 1 = 0 ∧ k.n 0 2 < mqTiles s.mqt ∧ 1 ≤ k.n 8 2 ∧ 1 ≤ k.n 10 2 ∧ k.n 4 2 + k.n 8 2 ≤ tlCols (mqTile s.mqt (k.n 0 2)) ∧ k.n 6 2 + k.n 10 2 ≤ tlRows (mqTile s.mqt (k.n 0 2)) ∧ zeroAt k.cmd.payload 24 8 = true ∧ halfFinite (k.n 16 2) = true ∧ halfFinite (k.n 18 2) = true ∧ halfFinite (k.n 20 2) = true ∧ zeroAt k.cmd.payload 22 2 = true ∧ grpMode s (tlGroup (mqTile s.mqt (k.n 0 2))) = 0 ∧ TicketFree s k) ∧
    (∃ (p : Push) (rest : List Push) (s : State), s.wall.pushes = p :: rest) ∧
    (∃ (k : Svc) (s : State), Served s 0x707 k ∧ k.f = 0 ∧ k.cmd.len = 16 ∧ k.n 0 1 < 4 ∧ k.n 1 1 = 0 ∧ zeroAt k.cmd.payload 2 2 = true ∧ grpMode s (k.n 0 1) = 0) :=
  ⟨⟨svc 0 0x700 (z 24), applyAll [serve (svc 0 0x700 (z 24)), .fld (Reg.FLT_PAIR_STAT) Fld.FLT_PAIR_STAT.EN 0] State.reset, by decide +kernel⟩,
   ⟨svc 0 0x701 (z 16), applyAll [serve (svc 0 0x701 (z 16))] State.reset, by decide +kernel⟩,
   ⟨svc 0 0x702 (mk 24 [(2, [1])]), applyAll [serve (svc 0 0x702 (mk 24 [(2, [1])]))] State.reset, by decide +kernel⟩,
   ⟨svc 0 0x703 (z 4 ++ mk 64 [(0, [4]), (3, [255]), (8, [1]), (10, [255]), (24, w 4 1), (28, w 4 1)]), applyAll [serve (svc 0 0x703 (z 4 ++ mk 64 [(0, [4]), (3, [255]), (8, [1]), (10, [255]), (24, w 4 1), (28, w 4 1)]))] State.reset, by decide +kernel⟩,
   ⟨svc 1 0x703 (z 68), applyAll [serve (svc 1 0x703 (z 68)), .prm (Prm.PRN_RIGHTS_1 0) (w32 0)] State.reset, by decide +kernel⟩,
   ⟨svc 0 0x704 (z 4), applyAll [serve (svc 0 0x704 (z 4))] State.reset, by decide +kernel⟩,
   ⟨svc 0 0x705 (z 4), applyAll [serve (svc 0 0x705 (z 4))] State.reset, by decide +kernel⟩,
   ⟨svc 0 0x706 (mk 32 [(2, [2]), (8, w 2 1), (10, w 2 1)]), applyAll [serve (svc 0 0x706 (mk 32 [(2, [2]), (8, w 2 1), (10, w 2 1)])), .obj K_MQT 0 (some (mk 576 [(6, w 2 1), (12, w 4 1), (68, w 2 1), (70, w 2 1), (82, [1])])), .prm (Prm.GRP_MODE 0) (w32 0)] State.reset, by decide +kernel⟩,
   ⟨⟨0, 1, mk 32 [(2, [2]), (8, w 2 1), (10, w 2 1)]⟩, [], applyAll [.wall fun x => { x with pushes := [⟨0, 1, mk 32 [(2, [2]), (8, w 2 1), (10, w 2 1)]⟩] }] State.reset, by decide +kernel⟩,
   ⟨svc 0 0x707 (z 16), applyAll [serve (svc 0 0x707 (z 16)), .prm (Prm.GRP_MODE 0) (w32 0)] State.reset, by decide +kernel⟩⟩

/-- The hypotheses of WallRows can hold, in each clause. -/
theorem witness_WallRows :
    (∃ (g : Fin 4) (s : State), grpAlign s g = false ∧ grpMode s g = 1 ∧ gatesReady s g = true ∧ periodPassed s g (grpMin s g) = true) ∧
    (∃ (g : Fin 4) (s : State), gatesReady s g = false) ∧
    (∃ (g : Fin 4) (n : Nat) (s : State), grpAlign s g = true ∧ alignedIndex s g = some n ∧ (s.group g).last = none) ∧
    (∃ (g : Fin 4) (s : State), grpAlign s g = false ∧ (s.group g).waits = false ∧ periodPassed s g (grpMax s g) = true) ∧
    (∃ (s : State), s.pn Prm.TILE_MISS_STORM_T < s.wall.missWin) ∧
    (∃ (s : State), s.wall.missWin ≤ s.pn Prm.TILE_MISS_STORM_T) ∧
    (∃ (p : Fin 2176) (q : Fin 2176) (b : Binding) (c : Binding) (data : BitVec 256) (crc : BitVec 16) (frame : Nat) (y : Nat) (x : Nat) (late : Bool) (s : State), worksFor s p = some b ∧ worksFor s q = some c ∧ routeOk s (some c) b = true ∧ tokenCrc data = crc.toNat) ∧
    (∃ (p : Fin 2176) (q : Fin 2176) (b : Binding) (c : Binding) (data : BitVec 256) (crc : BitVec 16) (frame : Nat) (y : Nat) (x : Nat) (late : Bool) (s : State), worksFor s p = some b ∧ worksFor s q = some c ∧ routeOk s (some c) b = true ∧ tokenCrc data ≠ crc.toNat ∧ (s.unitF q).refused = 0) ∧
    (∃ (p : Fin 2176) (q : Fin 2176) (b : Binding) (c : Binding) (data : BitVec 256) (crc : BitVec 16) (frame : Nat) (y : Nat) (x : Nat) (late : Bool) (s : State), worksFor s p = some b ∧ worksFor s q = some c ∧ routeOk s (some c) b = true) ∧
    (∃ (tile : Fin 1024) (l : Latch) (s : State), tileLatch s tile = some l ∧ tlDdp (mqTile s.mqt tile) = false ∧ l.hold = false ∧ l.cmd = false ∧ rowsSent s (mqTile s.mqt tile) = false ∧ pairSilent s = false ∧ (linkEnds s (tlLink (mqTile s.mqt tile))).isEmpty = false ∧ (s.tlkTile (tlLink (mqTile s.mqt tile)) (tlHop (mqTile s.mqt tile))).present = true ∧ rxDelays s (tlGroup (mqTile s.mqt tile)) = false) ∧
    (∃ (tile : Fin 1024) (l : Latch) (s : State), tileLatch s tile = some l ∧ tlDdp (mqTile s.mqt tile) = false ∧ l.hold = false ∧ rowsSent s (mqTile s.mqt tile) = true ∧ pairSilent s = false ∧ (linkEnds s (tlLink (mqTile s.mqt tile))).isEmpty = false ∧ (s.tlkTile (tlLink (mqTile s.mqt tile)) (tlHop (mqTile s.mqt tile))).present = true ∧ (s.tlkTile (tlLink (mqTile s.mqt tile)) (tlHop (mqTile s.mqt tile))).mismatch = false ∧ l.time ≤ s.vis + SEC ∧ driveHeld s tile = false) :=
  ⟨⟨0, applyAll [.prm (Prm.GRP_MODE 0) (w32 1)] State.reset, by decide +kernel⟩,
   ⟨0, applyAll [.prm (Prm.GRP_MODE 0) (w32 1), .obj K_LAYER 0 (some (0 :: mk 64 [(0, [3]), (9, [1])])), .fld (Reg.THM_THROTTLE) Fld.THM_THROTTLE.SHED_LEVEL 0] State.reset, by decide +kernel⟩,
   ⟨0, (alignedIndex (applyAll [.prm (Prm.GRP_MODE 0) (w32 0x101)] State.reset : State) (0 : Fin 4)).getD 0, applyAll [.prm (Prm.GRP_MODE 0) (w32 0x101)] State.reset, by decide +kernel⟩,
   ⟨0, applyAll [.prm (Prm.GRP_MODE 0) (w32 1)] State.reset, by decide +kernel⟩,
   ⟨applyAll [.prm (Prm.TILE_MISS_STORM_T) (w32 1), .wall fun x => { x with missWin := 2 }] State.reset, by decide +kernel⟩,
   ⟨applyAll [.prm (Prm.TILE_MISS_STORM_T) (w32 1), .wall fun x => { x with missWin := 1 }] State.reset, by decide +kernel⟩,
   ⟨(0 : Fin 2176), (1 : Fin 2176), ⟨0, 0x302, 0, 0⟩, ⟨0, 0x301, 0, 0⟩, 0, BitVec.ofNat 16 (tokenCrc 0), 0, 0, 0, true, applyAll [.prm (Prm.SAL_SNS_PORT 0) (w32 0), .prm (Prm.RFE_EN 0) (w32 0x1F), .flt fun f => { f with bind := (f.bind.put 0 ⟨0, 0x302, 0, 0⟩).put 1 ⟨0, 0x301, 0, 0⟩ }, .fld (Reg.FLT_UNIT 0) Fld.FLT_UNIT.POWERED 1, .fld (Reg.FLT_UNIT 1) Fld.FLT_UNIT.POWERED 1] State.reset, by decide +kernel⟩,
   ⟨(0 : Fin 2176), (1 : Fin 2176), ⟨0, 0x302, 0, 0⟩, ⟨0, 0x301, 0, 0⟩, 0, BitVec.ofNat 16 (tokenCrc 0 + 1), 0, 0, 0, true, applyAll [.prm (Prm.SAL_SNS_PORT 0) (w32 0), .prm (Prm.RFE_EN 0) (w32 0x1F), .flt fun f => { f with bind := (f.bind.put 0 ⟨0, 0x302, 0, 0⟩).put 1 ⟨0, 0x301, 0, 0⟩ }, .fld (Reg.FLT_UNIT 0) Fld.FLT_UNIT.POWERED 1, .fld (Reg.FLT_UNIT 1) Fld.FLT_UNIT.POWERED 1] State.reset, by decide +kernel⟩,
   ⟨(0 : Fin 2176), (1 : Fin 2176), ⟨0, 0x302, 0, 0⟩, ⟨0, 0x301, 0, 0⟩, 0, 0, 0, 0, 0, true, applyAll [.prm (Prm.SAL_SNS_PORT 0) (w32 0), .prm (Prm.RFE_EN 0) (w32 0x1F), .flt fun f => { f with bind := (f.bind.put 0 ⟨0, 0x302, 0, 0⟩).put 1 ⟨0, 0x301, 0, 0⟩ }, .fld (Reg.FLT_UNIT 0) Fld.FLT_UNIT.POWERED 1, .fld (Reg.FLT_UNIT 1) Fld.FLT_UNIT.POWERED 1] State.reset, by decide +kernel⟩,
   ⟨0, ⟨0, none, 5, false, false, [0]⟩, applyAll [.obj K_MQT 0 (some (mk 576 [(6, w 2 1), (12, w 4 1), (68, w 2 1), (70, w 2 1), (82, [1])])), .prm (Prm.TLK_LINK_CFG 0) (w32 0x80000000), .fld (Reg.TLK_LINK_STAT 0) Fld.TLK_LINK_STAT.READY 1, effTile 0 0 fun x => { x with present := true }, .fld (Reg.FLT_PAIR_STAT) Fld.FLT_PAIR_STAT.EN 0, .fld (Reg.FLT_PAIR_STAT) Fld.FLT_PAIR_STAT.YIELDED 0, effGroup 0 fun x => { x with latches := [⟨0, none, 5, false, false, [0]⟩] }] State.reset, by decide +kernel⟩,
   ⟨0, ⟨0, none, 5, false, false, [0]⟩, applyAll [.obj K_MQT 0 (some (mk 576 [(6, w 2 1), (12, w 4 1), (68, w 2 1), (70, w 2 1), (82, [1])])), .prm (Prm.TLK_LINK_CFG 0) (w32 0x80000000), .fld (Reg.TLK_LINK_STAT 0) Fld.TLK_LINK_STAT.READY 1, effTile 0 0 fun x => { x with present := true }, .fld (Reg.FLT_PAIR_STAT) Fld.FLT_PAIR_STAT.EN 0, .fld (Reg.FLT_PAIR_STAT) Fld.FLT_PAIR_STAT.YIELDED 0, effGroup 0 fun x => { x with latches := [⟨0, none, 5, false, false, [0]⟩] }, effTile 0 0 fun x => { x with rows := [0] }] State.reset, by decide +kernel⟩⟩

/-- The hypotheses of PatinaRows can hold, in each clause. -/
theorem witness_PatinaRows :
    (∃ (k : Svc) (s : State), Served s 0x800 k ∧ k.f = 0 ∧ k.cmd.len = 24 ∧ isStandby s = false ∧ bankHeld s = false ∧ TicketFree s k) ∧
    (∃ (k : Svc) (s : State), Served s 0x800 k ∧ k.f = 0 ∧ k.cmd.len = 24 ∧ isStandby s = false ∧ bankHeld s = true) ∧
    (∃ (k : Svc) (s : State), Served s 0x801 k ∧ k.f = 0 ∧ k.cmd.len = 24 ∧ k.n 0 1 ≤ 1 ∧ k.n 1 1 ≤ 1 ∧ zeroAt k.cmd.payload 2 2 = true ∧ k.n 4 4 + k.n 8 4 ≤ 33554432 ∧ TicketFree s k) ∧
    (∃ (k : Svc) (s : State), Served s 0x802 k ∧ k.f = 0 ∧ k.cmd.len = 24 ∧ patTableBad (k.n 1 1) (k.n 0 1) = false ∧ isStandby s = false ∧ TicketFree s k) ∧
    (∃ (k : Svc) (s : State), Served s 0x803 k ∧ k.f = 0 ∧ k.cmd.len = 16 ∧ patTableBad (k.n 1 1) (k.n 0 1) = false ∧ zeroAt k.cmd.payload 2 2 = true ∧ TicketFree s k) ∧
    (∃ (k : Svc) (s : State), Served s 0x804 k ∧ k.f = 0 ∧ k.cmd.len = 0 ∧ s.pat.writer = 0) ∧
    (∃ (k : Svc) (s : State), Served s 0x805 k ∧ k.f = 0 ∧ k.cmd.len = 4 ∧ k.n 0 4 ≤ 33554431) ∧
    (∃ (s : State), s.pat.writer = 3 ∧ s.lib.wait = none) ∧
    (∃ (s : State), s.pat.writer ≠ 3 ∧ s.lib.wait = none) :=
  ⟨⟨svc 0 0x800 (z 24), applyAll [serve (svc 0 0x800 (z 24)), .fld (Reg.FLT_PAIR_STAT) Fld.FLT_PAIR_STAT.EN 0] State.reset, by decide +kernel⟩,
   ⟨svc 0 0x800 (z 24), applyAll [serve (svc 0 0x800 (z 24)), .fld (Reg.FLT_PAIR_STAT) Fld.FLT_PAIR_STAT.EN 0, .pat fun p => { p with writer := 1 }] State.reset, by decide +kernel⟩,
   ⟨svc 0 0x801 (z 24), applyAll [serve (svc 0 0x801 (z 24))] State.reset, by decide +kernel⟩,
   ⟨svc 0 0x802 (z 24), applyAll [serve (svc 0 0x802 (z 24)), .fld (Reg.FLT_PAIR_STAT) Fld.FLT_PAIR_STAT.EN 0] State.reset, by decide +kernel⟩,
   ⟨svc 0 0x803 (z 16), applyAll [serve (svc 0 0x803 (z 16))] State.reset, by decide +kernel⟩,
   ⟨svc 0 0x804 (z 0), applyAll [serve (svc 0 0x804 (z 0))] State.reset, by decide +kernel⟩,
   ⟨svc 0 0x805 (z 4), applyAll [serve (svc 0 0x805 (z 4))] State.reset, by decide +kernel⟩,
   ⟨applyAll [.pat fun p => { p with writer := 3 }] State.reset, by decide +kernel⟩,
   ⟨applyAll [] State.reset, by decide +kernel⟩⟩

/-- The hypotheses of LibrationCommands can hold, in each clause. -/
theorem witness_LibrationCommands :
    (∃ (k : Svc) (s : State), Served s 0x900 k ∧ k.f = 0 ∧ k.cmd.len = 8 ∧ k.n 0 1 = 0 ∧ 1 ≤ k.n 4 2 ∧ k.n 2 2 + k.n 4 2 ≤ mqTiles s.mqt ∧ zeroAt k.cmd.payload 1 1 = true ∧ zeroAt k.cmd.payload 6 2 = true ∧ canInject s = true ∧ s.lib.build = none ∧ TicketFree s k) ∧
    (∃ (k : Svc) (s : State), Served s 0x901 k ∧ k.f = 0 ∧ k.cmd.len = 24 ∧ memOwned s 0 (k.n 8 8) (k.n 4 4) = true ∧ isStandby s = false ∧ TicketFree s k) ∧
    (∃ (k : Svc) (s : State), Served s 0x902 k ∧ k.f = 0 ∧ k.cmd.len = 24 ∧ k.n 0 4 + k.n 4 4 ≤ 33554432 ∧ zeroAt k.cmd.payload 12 4 = true ∧ memOwned s 0 (k.n 16 8) (k.n 8 4) = true ∧ TicketFree s k) ∧
    (∃ (k : Svc) (s : State), Served s 0x903 k ∧ k.f = 0 ∧ k.cmd.len = 12 ∧ k.n 8 1 = 0 ∧ k.n 0 8 = 0 ∧ zeroAt k.cmd.payload 9 3 = true ∧ s.pat.writer = 0 ∧ switchStaged s = false ∧ s.pat.switching = false ∧ s.lib.build = none ∧ s.lib.update = none ∧ s.lib.wait = none ∧ TicketFree s k) ∧
    (∃ (k : Svc) (s : State), Served s 0x904 k ∧ k.f = 0 ∧ k.cmd.len = 0) ∧
    (∃ (k : Svc) (s : State), Served s 0x905 k ∧ k.f = 0 ∧ k.cmd.len = 4 ∧ k.n 0 4 ≤ 33554431) ∧
    (∃ (k : Svc) (s : State), Served s 0x906 k ∧ k.f = 0 ∧ k.cmd.len = 0) ∧
    (∃ (k : Svc) (u : LibUpdate) (s : State), Served s 0x907 k ∧ k.f = 0 ∧ k.cmd.len = 0 ∧ s.lib.update = some u ∧ u.written = true ∧ u.armed = none) :=
  ⟨⟨svc 0 0x900 (mk 8 [(4, w 2 1)]), applyAll [serve (svc 0 0x900 (mk 8 [(4, w 2 1)])), .obj K_MQT 0 (some (mk 576 [(6, w 2 1), (12, w 4 1), (68, w 2 1), (70, w 2 1), (82, [1])])), .prm (Prm.LIB_GROUP) (w32 0), .prm (Prm.GRP_MODE 0) (w32 1), .prm (Prm.LIB_SLOT_MASK) (w32 1), .prm (Prm.SHT_SLOT_START_0 0) (w32 0)] State.reset, by decide +kernel⟩,
   ⟨svc 0 0x901 (z 24), applyAll [serve (svc 0 0x901 (z 24)), .fld (Reg.FLT_PAIR_STAT) Fld.FLT_PAIR_STAT.EN 0, .obj K_MEM 0 (some (mk 17 [(9, w 8 4096)]))] State.reset, by decide +kernel⟩,
   ⟨svc 0 0x902 (z 24), applyAll [serve (svc 0 0x902 (z 24)), .obj K_MEM 0 (some (mk 17 [(9, w 8 4096)]))] State.reset, by decide +kernel⟩,
   ⟨svc 0 0x903 (z 12), applyAll [serve (svc 0 0x903 (z 12))] State.reset, by decide +kernel⟩,
   ⟨svc 0 0x904 (z 0), applyAll [serve (svc 0 0x904 (z 0))] State.reset, by decide +kernel⟩,
   ⟨svc 0 0x905 (z 4), applyAll [serve (svc 0 0x905 (z 4))] State.reset, by decide +kernel⟩,
   ⟨svc 0 0x906 (z 0), applyAll [serve (svc 0 0x906 (z 0))] State.reset, by decide +kernel⟩,
   ⟨svc 0 0x907 (z 0), ⟨[], none, none, true⟩, applyAll [serve (svc 0 0x907 (z 0)), .lib fun x => { x with update := some ⟨[], none, none, true⟩ }] State.reset, by decide +kernel⟩⟩

/-- The hypotheses of LibrationRows can hold, in each clause. -/
theorem witness_LibrationRows :
    (∃ (w : Fin 2) (frame : Nat) (i : FrameInfo) (s : State), libEn s = true ∧ canInject s = true ∧ bitOf (s.pn (Prm.LIB_WIT_SENSOR w)) 31 = true ∧ ((s.sns (s.pn (Prm.LIB_WIT_SENSOR w) % 8)).info.find? fun i => i.frame == frame) = some i) ∧
    (∃ (w : Fin 2) (frame : Nat) (i : FrameInfo) (s : State), libEn s = true ∧ canInject s = true ∧ bitOf (s.pn (Prm.LIB_WIT_SENSOR w)) 31 = true ∧ ((s.sns (s.pn (Prm.LIB_WIT_SENSOR w) % 8)).info.find? fun i => i.frame == frame) = some i ∧ i.incomplete = false ∧ i.early = false ∧ s.lib.shed = false) ∧
    (∃ (s : State), libEn s = true) ∧
    (∃ (s : State), libEn s = false) ∧
    (∃ (u : LibUpdate) (s : State), s.lib.update = some u ∧ u.written = false ∧ u.rollback = none ∧ bitOf (s.pn Prm.LIB_CTRL) 2 = false ∧ s.lib.wait = none) ∧
    (∃ (found : List (Nat × Bytes)) (b : LibBuild) (s : State), s.lib.build = some b ∧ b.phase = 3 ∧ b.periods = 0 ∧ b.count = 0) ∧
    (∃ (found : List (Nat × Bytes)) (s : State), s.lib.build = none) :=
  ⟨⟨0, 5, ⟨5, false, false, false, false, true, 9, 0, 0⟩, applyAll [.prm (Prm.LIB_CTRL) (w32 1), .prm (Prm.LIB_GROUP) (w32 0), .prm (Prm.GRP_MODE 0) (w32 1), .prm (Prm.LIB_SLOT_MASK) (w32 1), .prm (Prm.SHT_SLOT_START_0 0) (w32 0), .prm (Prm.LIB_WIT_SENSOR 0) (w32 0x80000000), effSns 0 fun x => { x with info := [⟨5, false, false, false, false, true, 9, 0, 0⟩] }] State.reset, by decide +kernel⟩,
   ⟨0, 5, ⟨5, false, false, false, false, true, 9, 0, 0⟩, applyAll [.prm (Prm.LIB_CTRL) (w32 1), .prm (Prm.LIB_GROUP) (w32 0), .prm (Prm.GRP_MODE 0) (w32 1), .prm (Prm.LIB_SLOT_MASK) (w32 1), .prm (Prm.SHT_SLOT_START_0 0) (w32 0), .prm (Prm.LIB_WIT_SENSOR 0) (w32 0x80000000), effSns 0 fun x => { x with info := [⟨5, false, false, false, false, true, 9, 0, 0⟩] }] State.reset, by decide +kernel⟩,
   ⟨applyAll [.prm (Prm.LIB_CTRL) (w32 1)] State.reset, by decide +kernel⟩,
   ⟨applyAll [.prm (Prm.LIB_CTRL) (w32 0)] State.reset, by decide +kernel⟩,
   ⟨⟨[], none, none, false⟩, applyAll [.lib fun x => { x with update := some ⟨[], none, none, false⟩ }, .prm (Prm.LIB_CTRL) (w32 0)] State.reset, by decide +kernel⟩,
   ⟨[], ⟨0, 1, 0, 0, 0, 3, 0⟩, applyAll [.lib fun x => { x with build := some ⟨0, 1, 0, 0, 0, 3, 0⟩ }] State.reset, by decide +kernel⟩,
   ⟨[], applyAll [] State.reset, by decide +kernel⟩⟩

/-- The hypotheses of TileLinkStates can hold, in each clause. -/
theorem witness_TileLinkStates :
    (∃ (l : Fin 64) (v : Word) (s : State), linkEn s l = true ∧ getFld v Fld.TLK_LINK_CTRL.MODE = 2) ∧
    (∃ (l : Fin 64) (v : Word) (s : State), linkEn s l = true ∧ getFld v Fld.TLK_LINK_CTRL.MODE = 0) ∧
    (∃ (l : Fin 64) (skew : Nat) (s : State), linkEn s l = true ∧ s.fld (Reg.TLK_LINK_CTRL l) Fld.TLK_LINK_CTRL.MODE = 2 ∧ linkReady s l = false ∧ linkLanes s l = 1) ∧
    (∃ (l : Fin 64) (skew : Nat) (s : State), linkEn s l = true ∧ s.fld (Reg.TLK_LINK_CTRL l) Fld.TLK_LINK_CTRL.MODE = 2 ∧ linkReady s l = false ∧ linkLanes s l = 2 ∧ 48 < skew) ∧
    (∃ (l : Fin 64) (n : Fin 2) (los : Bool) (s : State), linkEn s l = true ∧ n.val < linkLanes s l ∧ linkReady s l = true) ∧
    (∃ (l : Fin 64) (hop : Fin 32) (s : State), linkEn s l = true ∧ linkRing s l = true) ∧
    (∃ (l : Fin 64) (hop : Fin 32) (h : Fin 32) (s : State), linkEn s l = true ∧ linkRing s l = false ∧ hop < h ∧ (s.tlkTile l h).present = true) ∧
    (∃ (l : Fin 64) (tag : Fin 256) (width : Fin 256) (rate : Bool) (s : State), linkEn s l = true ∧ (s.tlkLink l).request = none ∧ width.val ≠ 0) ∧
    (∃ (l : Fin 64) (tag : Fin 256) (width : Fin 256) (rate : Bool) (agreed : Fin 256) (w : Nat) (s : State), (s.tlkLink l).request = some (tag.val, w)) ∧
    (∃ (l : Fin 64) (s : State), s.flag (Reg.TLK_LINK_STAT l) Fld.TLK_LINK_STAT.RETRAINING = true ∧ (s.tlkLink l).width = some 1 ∧ (s.tlkLink l).op = none) :=
  ⟨⟨0, setFld 0 Fld.TLK_LINK_CTRL.MODE 2, applyAll [.prm (Prm.TLK_LINK_CFG 0) (w32 0x80000000)] State.reset, by decide +kernel⟩,
   ⟨0, 0#32, applyAll [.prm (Prm.TLK_LINK_CFG 0) (w32 0x80000000)] State.reset, by decide +kernel⟩,
   ⟨0, 5, applyAll [.prm (Prm.TLK_LINK_CFG 0) (w32 0x80000000), .fld (Reg.TLK_LINK_CTRL 0) Fld.TLK_LINK_CTRL.MODE 2, .fld (Reg.TLK_LINK_STAT 0) Fld.TLK_LINK_STAT.READY 0] State.reset, by decide +kernel⟩,
   ⟨0, 49, applyAll [.prm (Prm.TLK_LINK_CFG 0) (w32 0x80100000), .fld (Reg.TLK_LINK_CTRL 0) Fld.TLK_LINK_CTRL.MODE 2, .fld (Reg.TLK_LINK_STAT 0) Fld.TLK_LINK_STAT.READY 0] State.reset, by decide +kernel⟩,
   ⟨0, 0, true, applyAll [.prm (Prm.TLK_LINK_CFG 0) (w32 0x80000000), .fld (Reg.TLK_LINK_STAT 0) Fld.TLK_LINK_STAT.READY 1] State.reset, by decide +kernel⟩,
   ⟨0, 0, applyAll [.prm (Prm.TLK_LINK_CFG 0) (w32 0xC0000000)] State.reset, by decide +kernel⟩,
   ⟨0, 0, (1 : Fin 32), applyAll [.prm (Prm.TLK_LINK_CFG 0) (w32 0x80000000), effTile 0 1 fun x => { x with present := true }] State.reset, by decide +kernel⟩,
   ⟨0, 0, (1 : Fin 256), true, applyAll [.prm (Prm.TLK_LINK_CFG 0) (w32 0x80000000)] State.reset, by decide +kernel⟩,
   ⟨0, (3 : Fin 256), (1 : Fin 256), true, 0, 1, applyAll [effLink 0 fun x => { x with request := some (3, 1) }] State.reset, by decide +kernel⟩,
   ⟨0, applyAll [.fld (Reg.TLK_LINK_STAT 0) Fld.TLK_LINK_STAT.RETRAINING 1, effLink 0 fun x => { x with width := some 1 }] State.reset, by decide +kernel⟩⟩

/-- The hypotheses of TileLinkTraffic can hold, in each clause. -/
theorem witness_TileLinkTraffic :
    (∃ (l : Fin 64) (hop : Fin 32) (payload : Bytes) (s : State), linkReady s l = true) ∧
    (∃ (l : Fin 64) (s : State), linkReady s l = true) ∧
    (∃ (l : Fin 64) (hop : Fin 32) (seq : Fin 256) (cd : Nat) (cu : Nat) (t2 : Nat) (t3 : Nat) (s : State), linkReady s l = true ∧ seq.val = (s.tlkLink l).syncSeq ∧ (s.tlkTile (aLink s l) hop).present = true) ∧
    (∃ (l : Fin 64) (hop : Fin 32) (payload : Bytes) (s : State), linkReady s l = true ∧ (s.tlkTile (aLink s l) hop).present = true) ∧
    (∃ (l : Fin 64) (hop : Fin 32) (payload : Bytes) (s : State), linkReady s l = true ∧ (s.tlkTile (aLink s l) hop).present = true) ∧
    (∃ (l : Fin 64) (hop : Fin 32) (tag : Nat) (values : Bytes) (c : TlkCtrl) (s : State), linkReady s l = true ∧ (s.tlkLink l).ctrl = some c ∧ c.tag = tag ∧ c.hop = hop.val ∧ c.owner = none ∧ c.drive = false ∧ (s.tlkLink l).queue = []) ∧
    (∃ (l : Fin 64) (c : TlkCtrl) (s : State), (s.tlkLink l).ctrl = some c ∧ c.sent < 4) ∧
    (∃ (l : Fin 64) (c : TlkCtrl) (s : State), (s.tlkLink l).ctrl = some c ∧ 4 ≤ c.sent ∧ c.owner = none ∧ (s.tlkLink l).queue = []) ∧
    (∃ (l : Fin 64) (s : State), linkReady s l = true ∧ (s.tlkLink l).discovering = false) ∧
    (∃ (l : Fin 64) (hop : Fin 32) (payload : Bytes) (s : State), linkReady s l = true ∧ tileAt s (aLink s l) hop false = none ∧ hop.val ∈ (s.tlkLink l).seen ∧ (s.tlkLink l).seen.length ≠ chainLen s (aLink s l)) :=
  ⟨⟨0, 0, [], applyAll [.fld (Reg.TLK_LINK_STAT 0) Fld.TLK_LINK_STAT.READY 1] State.reset, by decide +kernel⟩,
   ⟨0, applyAll [.fld (Reg.TLK_LINK_STAT 0) Fld.TLK_LINK_STAT.READY 1] State.reset, by decide +kernel⟩,
   ⟨0, 0, 0, 0, 0, 0, 0, applyAll [.fld (Reg.TLK_LINK_STAT 0) Fld.TLK_LINK_STAT.READY 1, effTile 0 0 fun x => { x with present := true }] State.reset, by decide +kernel⟩,
   ⟨0, 0, [], applyAll [.fld (Reg.TLK_LINK_STAT 0) Fld.TLK_LINK_STAT.READY 1, effTile 0 0 fun x => { x with present := true }] State.reset, by decide +kernel⟩,
   ⟨0, 0, [1], applyAll [.fld (Reg.TLK_LINK_STAT 0) Fld.TLK_LINK_STAT.READY 1, effTile 0 0 fun x => { x with present := true }] State.reset, by decide +kernel⟩,
   ⟨0, 0, 3, [], ⟨3, 0, 4, [], 1, none, false⟩, applyAll [.fld (Reg.TLK_LINK_STAT 0) Fld.TLK_LINK_STAT.READY 1, effLink 0 fun x => { x with ctrl := some ⟨3, 0, 4, [], 1, none, false⟩ }] State.reset, by decide +kernel⟩,
   ⟨0, ⟨3, 0, 4, [], 1, none, false⟩, applyAll [effLink 0 fun x => { x with ctrl := some ⟨3, 0, 4, [], 1, none, false⟩ }] State.reset, by decide +kernel⟩,
   ⟨0, ⟨3, 0, 4, [], 4, none, false⟩, applyAll [effLink 0 fun x => { x with ctrl := some ⟨3, 0, 4, [], 4, none, false⟩ }] State.reset, by decide +kernel⟩,
   ⟨0, applyAll [.fld (Reg.TLK_LINK_STAT 0) Fld.TLK_LINK_STAT.READY 1] State.reset, by decide +kernel⟩,
   ⟨0, 0, [], applyAll [.fld (Reg.TLK_LINK_STAT 0) Fld.TLK_LINK_STAT.READY 1, effLink 0 fun x => { x with seen := [0] }] State.reset, by decide +kernel⟩⟩

/-- The hypotheses of TileLinkCommands can hold, in each clause. -/
theorem witness_TileLinkCommands :
    (∃ (k : Svc) (s : State), Served s 0xB00 k ∧ k.f = 0 ∧ k.cmd.len = 4 ∧ k.n 0 1 < 64 ∧ zeroAt k.cmd.payload 1 3 = true ∧ linkReady s (k.n 0 1) = true ∧ (s.tlkLink (k.n 0 1)).op = none ∧ TicketFree s k) ∧
    (∃ (k : Svc) (s : State), Served s 0xB01 k ∧ k.f = 0 ∧ k.cmd.len = 4 ∧ k.n 0 1 < 64 ∧ k.n 1 1 < 32 ∧ zeroAt k.cmd.payload 2 2 = true ∧ linkReady s (k.n 0 1) = true ∧ (s.tlkTile (aLink s (k.n 0 1)) (k.n 1 1)).present = true) ∧
    (∃ (k : Svc) (s : State), Served s 0xB02 k ∧ k.f = 0 ∧ 1 ≤ k.n 2 2 ∧ k.n 2 2 ≤ 256 ∧ k.cmd.len = 8 + 4 * k.n 2 2 ∧ k.n 0 1 < 64 ∧ k.n 1 1 < 32 ∧ 0x80000000 ≤ k.n 4 4 ∧ linkReady s (k.n 0 1) = true ∧ (s.tlkTile (aLink s (k.n 0 1)) (k.n 1 1)).present = true ∧ (s.tlkLink (k.n 0 1)).op = none ∧ TicketFree s k) ∧
    (∃ (k : Svc) (s : State), Served s 0xB03 k ∧ k.f = 0 ∧ 1 ≤ k.n 2 2 ∧ k.n 2 2 ≤ 256 ∧ k.cmd.len = 8 ∧ k.n 0 1 < 64 ∧ k.n 1 1 < 32 ∧ linkReady s (k.n 0 1) = true ∧ (s.tlkTile (aLink s (k.n 0 1)) (k.n 1 1)).present = true ∧ (s.tlkLink (k.n 0 1)).op = none ∧ TicketFree s k) ∧
    (∃ (k : Svc) (s : State), Served s 0xB04 k ∧ k.f = 0 ∧ k.cmd.len = 4 ∧ k.n 0 1 < 64 ∧ 1 ≤ k.n 1 1 ∧ k.n 1 1 ≤ linkLanes s (k.n 0 1) ∧ zeroAt k.cmd.payload 2 2 = true ∧ linkReady s (k.n 0 1) = true ∧ (s.tlkLink (k.n 0 1)).op = none ∧ TicketFree s k) ∧
    (∃ (k : Svc) (s : State), Served s 0xB05 k ∧ k.f = 0 ∧ k.cmd.len = 4 ∧ k.n 0 1 < 16 ∧ zeroAt k.cmd.payload 1 3 = true) ∧
    (∃ (p : Fin 16) (mismatch : Bool) (tile : Nat) (l : Latch) (s : State), tileAt s p 0 true = some tile ∧ tileLatch s tile = some l ∧ l.hold = true) ∧
    (∃ (p : Fin 16) (mismatch : Bool) (s : State), tileAt s p 0 true = none) :=
  ⟨⟨svc 0 0xB00 (z 4), applyAll [serve (svc 0 0xB00 (z 4)), .fld (Reg.TLK_LINK_STAT 0) Fld.TLK_LINK_STAT.READY 1] State.reset, by decide +kernel⟩,
   ⟨svc 0 0xB01 (z 4), applyAll [serve (svc 0 0xB01 (z 4)), .fld (Reg.TLK_LINK_STAT 0) Fld.TLK_LINK_STAT.READY 1, effTile 0 0 fun x => { x with present := true }] State.reset, by decide +kernel⟩,
   ⟨svc 0 0xB02 (mk 12 [(2, w 2 1), (4, w 4 0x80000000)]), applyAll [serve (svc 0 0xB02 (mk 12 [(2, w 2 1), (4, w 4 0x80000000)])), .fld (Reg.TLK_LINK_STAT 0) Fld.TLK_LINK_STAT.READY 1, effTile 0 0 fun x => { x with present := true }] State.reset, by decide +kernel⟩,
   ⟨svc 0 0xB03 (mk 8 [(2, w 2 1)]), applyAll [serve (svc 0 0xB03 (mk 8 [(2, w 2 1)])), .fld (Reg.TLK_LINK_STAT 0) Fld.TLK_LINK_STAT.READY 1, effTile 0 0 fun x => { x with present := true }] State.reset, by decide +kernel⟩,
   ⟨svc 0 0xB04 ([0, 1, 0, 0]), applyAll [serve (svc 0 0xB04 ([0, 1, 0, 0])), .prm (Prm.TLK_LINK_CFG 0) (w32 0x80000000), .fld (Reg.TLK_LINK_STAT 0) Fld.TLK_LINK_STAT.READY 1] State.reset, by decide +kernel⟩,
   ⟨svc 0 0xB05 (z 4), applyAll [serve (svc 0 0xB05 (z 4))] State.reset, by decide +kernel⟩,
   ⟨0, true, 0, ⟨0, none, 5, true, false, [0]⟩, applyAll [.obj K_MQT 0 (some (mk 576 [(6, w 2 1), (12, w 4 1), (68, w 2 1), (70, w 2 1), (82, [3])])), effGroup 0 fun x => { x with latches := [⟨0, none, 5, true, false, [0]⟩] }] State.reset, by decide +kernel⟩,
   ⟨0, true, applyAll [] State.reset, by decide +kernel⟩⟩

/-- The hypotheses of TimeCommands can hold, in each clause. -/
theorem witness_TimeCommands :
    (∃ (s : State), tripped s = false) ∧
    (∃ (n : Fin 8) (v : Nat) (rest : List Nat) (s : State), s.tim.caps.getD n [] = v :: rest ∧ rest.length < 256) ∧
    (∃ (k : Svc) (s : State), Served s 0xC00 k ∧ k.cmd.len = 0) ∧
    (∃ (k : Svc) (s : State), Served s 0xC01 k ∧ k.cmd.len = 16 ∧ k.holds s R_TIME = true ∧ k.n 0 1 = 0 ∧ zeroAt k.cmd.payload 1 3 = true ∧ timeOk (field k.cmd.payload 4 12) = true ∧ tooFar s (timeOf (field k.cmd.payload 4 12)) = false ∧ mayStep s = true ∧ servoMode s ≠ 1 ∧ servoMode s ≠ 3) ∧
    (∃ (k : Svc) (s : State), Served s 0xC01 k ∧ k.cmd.len = 16 ∧ k.holds s R_TIME = true ∧ k.n 0 1 = 1 ∧ zeroAt k.cmd.payload 1 3 = true ∧ zeroAt k.cmd.payload 4 12 = true ∧ mayStep s = true ∧ TicketFree s k) ∧
    (∃ (k : Svc) (s : State), Served s 0xC01 k ∧ k.cmd.len = 16 ∧ k.holds s R_TIME = true ∧ k.n 0 1 = 1 ∧ zeroAt k.cmd.payload 1 3 = true ∧ zeroAt k.cmd.payload 4 12 = true ∧ mayStep s = false) ∧
    (∃ (k : Svc) (s : State), Served s 0xC02 k ∧ k.cmd.len = 8 ∧ k.holds s R_TIME = true ∧ (sgn 64 (k.n 0 8)).natAbs ≤ rhoMax.natAbs ∧ servoMode s = 2) ∧
    (∃ (k : Svc) (s : State), Served s 0xC03 k ∧ k.cmd.len = 4 ∧ k.holds s R_TIME = true ∧ k.n 0 1 < 4 ∧ zeroAt k.cmd.payload 1 3 = true) ∧
    (∃ (k : Svc) (s : State), Served s 0xC04 k ∧ k.cmd.len = 0 ∧ k.holds s R_TIME = true) ∧
    (∃ (n : Fin 16) (v : Word) (s : State), getFld v Fld.TPO_CTRL.ARM = 1 ∧ armBad s n (getFld v Fld.TPO_CTRL.MODE) = true) ∧
    (∃ (n : Fin 16) (v : Word) (s : State), getFld v Fld.TPO_CTRL.ARM = 1 ∧ getFld v Fld.TPO_CTRL.MODE = 1 ∧ armBad s n 1 = false ∧ s.vis < tpoStart s n) ∧
    (∃ (n : Fin 16) (v : Word) (s : State), getFld v Fld.TPO_CTRL.STOP = 1 ∧ (s.tpo n).pulse = none) :=
  ⟨⟨applyAll [.fld Reg.THM_STAT Fld.THM_STAT.TRIP 0] State.reset, by decide +kernel⟩,
   ⟨0, 5, [6], applyAll [.tim fun t => { t with caps := t.caps.put 0 [5, 6] }] State.reset, by decide +kernel⟩,
   ⟨svc 0 0xC00 (z 0), applyAll [serve (svc 0 0xC00 (z 0))] State.reset, by decide +kernel⟩,
   ⟨svc 0 0xC01 (z 16), applyAll [serve (svc 0 0xC01 (z 16)), .prm (Prm.GRP_MODE 0) (w32 0), .prm (Prm.GRP_MODE 1) (w32 0), .prm (Prm.GRP_MODE 2) (w32 0), .prm (Prm.GRP_MODE 3) (w32 0), .prm (Prm.TIM_SERVO) (w32 2)] State.reset, by decide +kernel⟩,
   ⟨svc 0 0xC01 (mk 16 [(0, [1])]), applyAll [serve (svc 0 0xC01 (mk 16 [(0, [1])])), .prm (Prm.GRP_MODE 0) (w32 0), .prm (Prm.GRP_MODE 1) (w32 0), .prm (Prm.GRP_MODE 2) (w32 0), .prm (Prm.GRP_MODE 3) (w32 0)] State.reset, by decide +kernel⟩,
   ⟨svc 0 0xC01 (mk 16 [(0, [1])]), applyAll [serve (svc 0 0xC01 (mk 16 [(0, [1])])), .prm (Prm.GRP_MODE 0) (w32 1)] State.reset, by decide +kernel⟩,
   ⟨svc 0 0xC02 (z 8), applyAll [serve (svc 0 0xC02 (z 8)), .prm (Prm.TIM_SERVO) (w32 2)] State.reset, by decide +kernel⟩,
   ⟨svc 0 0xC03 (z 4), applyAll [serve (svc 0 0xC03 (z 4))] State.reset, by decide +kernel⟩,
   ⟨svc 0 0xC04 (z 0), applyAll [serve (svc 0 0xC04 (z 0))] State.reset, by decide +kernel⟩,
   ⟨0, setFld 0 Fld.TPO_CTRL.ARM 1, applyAll [.reg (Reg.TPO_WIDTH 0) 0] State.reset, by decide +kernel⟩,
   ⟨0, setFld (setFld 0 Fld.TPO_CTRL.ARM 1) Fld.TPO_CTRL.MODE 1, applyAll [.reg (Reg.TPO_START_SEC_LO 0) 0, .reg (Reg.TPO_START_SEC_HI 0) 0, .reg (Reg.TPO_START_NS 0) (w32 1000), .reg (Reg.TPO_WIDTH 0) (w32 20)] State.reset, by decide +kernel⟩,
   ⟨0, setFld 0 Fld.TPO_CTRL.STOP 1, applyAll [] State.reset, by decide +kernel⟩⟩

/-- The hypotheses of TimeRows can hold, in each clause. -/
theorem witness_TimeRows :
    (∃ (p : Fin 4) (m : Bytes) (s : State), ptpOn s p = true ∧ m.length < 34) ∧
    (∃ (p : Fin 4) (m : Bytes) (s : State), ptpOn s p = true ∧ 44 ≤ m.length ∧ netN m 1 1 % 16 = 2 ∧ netN m 0 1 % 16 = 0 ∧ netN m 4 1 = s.pn Prm.TIM_PTP_DOMAIN ∧ (s.ptp p).state = 9 ∧ netN m 20 10 = (s.ptp p).parent ∧ bitOf (netN m 6 1) 1 = true) ∧
    (∃ (p : Fin 4) (m : Bytes) (s : State), ptpOn s p = true ∧ 44 ≤ m.length ∧ netN m 1 1 % 16 = 2 ∧ netN m 0 1 % 16 = 1 ∧ netN m 4 1 = s.pn Prm.TIM_PTP_DOMAIN ∧ (s.ptp p).state = 6 ∧ tripped s = false) ∧
    (∃ (p : Fin 4) (s : State), ptpOn s p = true ∧ (s.ptp p).state = 9) ∧
    (∃ (p : Fin 4) (kind : Fin 3) (s : State), ptpOn s p = true ∧ (s.ptp p).state = 6 ∧ bitOf (s.pn (Prm.PTP_PORT_CFG p)) 2 = false ∧ kind.val < 2 ∧ tripped s = false) ∧
    (∃ (s : State), servoMode s = 3 ∧ s.flag Reg.TIM_STATE Fld.TIM_STATE.LOCKED = true) ∧
    (∃ (peer : Fin 16) (candidate : Bool) (locked : Bool) (holdover : Bool) (t1 : Nat) (t2 : Nat) (t3 : Nat) (t4 : Nat) (cd : Nat) (cu : Nat) (s : State), peer.val ≠ s.fld Reg.HUB_TOPOLOGY Fld.HUB_TOPOLOGY.PKG_ID) ∧
    (∃ (n : Fin 16) (e : Nat) (s : State), (s.tpo n).pulse = none ∧ (s.tpo n).edges = [e] ∧ (s.tpo n).active = true ∧ (s.tpo n).mode = 1) ∧
    (∃ (n : Fin 16) (c : Nat) (s : State), (s.tpo n).pulse = some c ∧ (s.tpo n).edges = [] ∧ (s.tpo n).mode = 1) :=
  ⟨⟨0, [], applyAll [.prm (Prm.TIM_PTP_PORTS) (w32 0x101), .prm (Prm.PTP_PORT_CFG 0) (w32 1), .prm (Prm.TIM_PTP_DOMAIN) (w32 0)] State.reset, by decide +kernel⟩,
   ⟨0, mk 44 [(1, [2]), (6, [2])], applyAll [.prm (Prm.TIM_PTP_PORTS) (w32 0x101), .prm (Prm.PTP_PORT_CFG 0) (w32 1), .prm (Prm.TIM_PTP_DOMAIN) (w32 0), effPtp 0 fun x => { x with state := 9 }] State.reset, by decide +kernel⟩,
   ⟨0, mk 44 [(0, [1]), (1, [2])], applyAll [.prm (Prm.TIM_PTP_PORTS) (w32 0x101), .prm (Prm.PTP_PORT_CFG 0) (w32 1), .prm (Prm.TIM_PTP_DOMAIN) (w32 0), effPtp 0 fun x => { x with state := 6 }, .fld Reg.THM_STAT Fld.THM_STAT.TRIP 0] State.reset, by decide +kernel⟩,
   ⟨0, applyAll [.prm (Prm.TIM_PTP_PORTS) (w32 0x101), .prm (Prm.PTP_PORT_CFG 0) (w32 1), .prm (Prm.TIM_PTP_DOMAIN) (w32 0), effPtp 0 fun x => { x with state := 9 }] State.reset, by decide +kernel⟩,
   ⟨0, 0, applyAll [.prm (Prm.TIM_PTP_PORTS) (w32 0x101), .prm (Prm.PTP_PORT_CFG 0) (w32 1), .prm (Prm.TIM_PTP_DOMAIN) (w32 0), effPtp 0 fun x => { x with state := 6 }, .fld Reg.THM_STAT Fld.THM_STAT.TRIP 0] State.reset, by decide +kernel⟩,
   ⟨applyAll [.fld (Reg.HUB_TOPOLOGY) Fld.HUB_TOPOLOGY.PKG_ID 0, .prm (Prm.TIM_SERVO) (w32 3), .tim fun t => { t with master := some 3 }, .fld (Reg.TIM_STATE) Fld.TIM_STATE.LOCKED 1] State.reset, by decide +kernel⟩,
   ⟨(1 : Fin 16), true, true, true, 0, 0, 0, 0, 0, 0, applyAll [.fld (Reg.HUB_TOPOLOGY) Fld.HUB_TOPOLOGY.PKG_ID 0] State.reset, by decide +kernel⟩,
   ⟨0, 5, applyAll [effTpo 0 fun x => { x with edges := [5], active := true, mode := 1, width := 20 }] State.reset, by decide +kernel⟩,
   ⟨0, 7, applyAll [effTpo 0 fun x => { x with pulse := some 7, mode := 1 }] State.reset, by decide +kernel⟩⟩

/-- The hypotheses of AudioPorts can hold, in each clause. -/
theorem witness_AudioPorts :
    (∃ (k : Svc) (s : State), Served s 0xD00 k ∧ k.f = 0 ∧ k.cmd.len = 4 ∧ k.n 0 1 < 8 ∧ k.n 1 1 < 2 ∧ zeroAt k.cmd.payload 2 2 = true ∧ audOut s (k.n 0 1) = false) ∧
    (∃ (k : Svc) (s : State), Served s 0xD00 k ∧ k.f ≠ 0 ∧ k.cmd.len = 4) ∧
    (∃ (k : Svc) (s : State), Served s 0xD01 k ∧ k.f = 0 ∧ k.cmd.len = 28 ∧ k.n 0 1 < 8 ∧ k.n 1 1 < 2 ∧ zeroAt k.cmd.payload 2 2 = true ∧ zeroAt k.cmd.payload 27 1 = true ∧ audOut s (k.n 0 1) = true) ∧
    (∃ (k : Svc) (s : State), Served s 0xD01 k ∧ k.f = 0 ∧ k.cmd.len = 28 ∧ audOut s (k.n 0 1) = false) ∧
    (∃ (k : Svc) (s : State), Served s 0xD02 k ∧ k.f = 0 ∧ k.cmd.len = 4 ∧ k.n 0 1 < 8 ∧ zeroAt k.cmd.payload 1 3 = true) ∧
    (∃ (p : Fin 8) (s : State), audEn s p = true ∧ audOut s p = false) ∧
    (∃ (p : Fin 8) (hz : Nat) (s : State), audEn s p = true ∧ ratioBad s p hz = true) ∧
    (∃ (p : Fin 8) (hz : Nat) (s : State), audEn s p = true ∧ ratioBad s p hz = false) ∧
    (∃ (p : Fin 8) (hz : Nat) (s : State), audEn s p = true ∧ ratioBad s p hz = false ∧ clockPresent s p = true) ∧
    (∃ (p : Fin 8) (since : Nat) (s : State), (s.audPort p).since = some since) ∧
    (∃ (p : Fin 8) (chan : Fin 2) (status : Bytes) (user : Bytes) (s : State), audEn s p = true ∧ audOut s p = false ∧ status.length = 24 ∧ user.length = 24 ∧ csPro status = true ∧ fieldN status 23 1 = crcc status) ∧
    (∃ (p : Fin 8) (chan : Fin 2) (status : Bytes) (user : Bytes) (s : State), audEn s p = true ∧ audOut s p = false ∧ status.length = 24 ∧ user.length = 24 ∧ csPro status = true ∧ fieldN status 23 1 ≠ crcc status) ∧
    (∃ (p : Fin 8) (s : State), audOut s p = true ∧ audEn s p = true ∧ (s.audPort p).a.src % 4 = 3) :=
  ⟨⟨svc 0 0xD00 (z 4), applyAll [serve (svc 0 0xD00 (z 4)), .prm (Prm.AUD_CFG 0) (w32 0)] State.reset, by decide +kernel⟩,
   ⟨svc 1 0xD00 (z 4), applyAll [serve (svc 1 0xD00 (z 4))] State.reset, by decide +kernel⟩,
   ⟨svc 0 0xD01 (z 28), applyAll [serve (svc 0 0xD01 (z 28)), .prm (Prm.AUD_CFG 0) (w32 0xC0000000)] State.reset, by decide +kernel⟩,
   ⟨svc 0 0xD01 (z 28), applyAll [serve (svc 0 0xD01 (z 28)), .prm (Prm.AUD_CFG 0) (w32 0)] State.reset, by decide +kernel⟩,
   ⟨svc 0 0xD02 (z 4), applyAll [serve (svc 0 0xD02 (z 4))] State.reset, by decide +kernel⟩,
   ⟨0, applyAll [.prm (Prm.AUD_CFG 0) (w32 0x80000000)] State.reset, by decide +kernel⟩,
   ⟨0, 0, applyAll [.prm (Prm.AUD_CFG 0) (w32 0x80000000), .prm (Prm.AUD_RATIO_TOL_PPM 0) (w32 100)] State.reset, by decide +kernel⟩,
   ⟨0, nominalHz (bitsOf ((applyAll [.prm (Prm.AUD_CFG 0) (w32 0x80000000), .prm (Prm.AUD_RATIO_TOL_PPM 0) (w32 100)] State.reset : State).pn (Prm.AUD_CFG (0 : Fin 8))) 3 0), applyAll [.prm (Prm.AUD_CFG 0) (w32 0x80000000), .prm (Prm.AUD_RATIO_TOL_PPM 0) (w32 100)] State.reset, by decide +kernel⟩,
   ⟨0, nominalHz (bitsOf ((applyAll [.prm (Prm.AUD_CFG 0) (w32 0x80000000), .prm (Prm.AUD_RATIO_TOL_PPM 0) (w32 100)] State.reset : State).pn (Prm.AUD_CFG (0 : Fin 8))) 3 0), applyAll [.prm (Prm.AUD_CFG 0) (w32 0x80000000), .prm (Prm.AUD_RATIO_TOL_PPM 0) (w32 100)] State.reset, by decide +kernel⟩,
   ⟨0, 0, applyAll [effAud 0 fun x => { x with since := some 0 }] State.reset, by decide +kernel⟩,
   ⟨0, 0, mk 23 [(0, [1])] ++ leBytes 1 (crcc (mk 23 [(0, [1])])), z 24, applyAll [.prm (Prm.AUD_CFG 0) (w32 0x80000000)] State.reset, by decide +kernel⟩,
   ⟨0, 0, mk 24 [(0, [1]), (23, [9])], z 24, applyAll [.prm (Prm.AUD_CFG 0) (w32 0x80000000)] State.reset, by decide +kernel⟩,
   ⟨0, applyAll [.prm (Prm.AUD_CFG 0) (w32 0xC0000000), .fld Reg.THM_STAT Fld.THM_STAT.TRIP 0, effAud 0 fun x => { x with a := { x.a with src := 3 } }] State.reset, by decide +kernel⟩⟩

/-- The hypotheses of TaskStarts can hold, in each clause. -/
theorem witness_TaskStarts :
    (∃ (f : Fn) (v : Word) (s : State), getFld v Fld.CST_TASK_CMD.GO = 1 ∧ getFld v Fld.CST_TASK_CMD.OP = OP_READ ∧ s.flag (Reg.CST_TASK_STATUS f) Fld.CST_TASK_STATUS.BUSY = false ∧ taskChecks s f v = none) ∧
    (∃ (f : Fn) (v : Word) (s : State), getFld v Fld.CST_TASK_CMD.GO = 1 ∧ getFld v Fld.CST_TASK_CMD.OP = OP_WRITE ∧ s.flag (Reg.CST_TASK_STATUS f) Fld.CST_TASK_STATUS.BUSY = false ∧ taskChecks s f v = none) ∧
    (∃ (f : Fn) (v : Word) (s : State), getFld v Fld.CST_TASK_CMD.GO = 1 ∧ getFld v Fld.CST_TASK_CMD.OP = OP_FLUSH ∧ s.flag (Reg.CST_TASK_STATUS f) Fld.CST_TASK_STATUS.BUSY = false ∧ taskChecks s f v = none) ∧
    (∃ (f : Fn) (v : Word) (s : State), getFld v Fld.CST_TASK_CMD.GO = 1 ∧ getFld v Fld.CST_TASK_CMD.OP = OP_DEALLOCATE ∧ s.flag (Reg.CST_TASK_STATUS f) Fld.CST_TASK_STATUS.BUSY = false ∧ taskChecks s f v = none) :=
  ⟨⟨0, setFld (setFld (setFld 0 Fld.CST_TASK_CMD.GO 1) Fld.CST_TASK_CMD.OP OP_READ) Fld.CST_TASK_CMD.NS 1, applyAll [.fld (Reg.CST_STORE_STAT) Fld.CST_STORE_STAT.READY 1, effDisk fun d => { d with ports := [0], chunks := 50, spaces := d.spaces.put 1 ⟨0, 1000, [3], none⟩ }, .fld (Reg.CST_TASK_STATUS 0) Fld.CST_TASK_STATUS.BUSY 0, .reg (Reg.CST_TASK_LBA_LO 0) 0, .reg (Reg.CST_TASK_LBA_HI 0) 0, .reg (Reg.CST_TASK_ADDR_LO 0) 0, .reg (Reg.CST_TASK_ADDR_HI 0) (w32 0x80000000), .fld (Reg.CST_TASK_BLOCKS 0) Fld.CST_TASK_BLOCKS.BLOCKS 1] State.reset, by decide +kernel⟩,
   ⟨0, setFld (setFld (setFld 0 Fld.CST_TASK_CMD.GO 1) Fld.CST_TASK_CMD.OP OP_WRITE) Fld.CST_TASK_CMD.NS 1, applyAll [.fld (Reg.CST_STORE_STAT) Fld.CST_STORE_STAT.READY 1, effDisk fun d => { d with ports := [0], chunks := 50, spaces := d.spaces.put 1 ⟨0, 1000, [3], none⟩ }, .fld (Reg.CST_TASK_STATUS 0) Fld.CST_TASK_STATUS.BUSY 0, .reg (Reg.CST_TASK_LBA_LO 0) 0, .reg (Reg.CST_TASK_LBA_HI 0) 0, .reg (Reg.CST_TASK_ADDR_LO 0) 0, .reg (Reg.CST_TASK_ADDR_HI 0) (w32 0x80000000), .fld (Reg.CST_TASK_BLOCKS 0) Fld.CST_TASK_BLOCKS.BLOCKS 1] State.reset, by decide +kernel⟩,
   ⟨0, setFld (setFld (setFld 0 Fld.CST_TASK_CMD.GO 1) Fld.CST_TASK_CMD.OP OP_FLUSH) Fld.CST_TASK_CMD.NS 1, applyAll [.fld (Reg.CST_STORE_STAT) Fld.CST_STORE_STAT.READY 1, effDisk fun d => { d with ports := [0], chunks := 50, spaces := d.spaces.put 1 ⟨0, 1000, [3], none⟩ }, .fld (Reg.CST_TASK_STATUS 0) Fld.CST_TASK_STATUS.BUSY 0, .reg (Reg.CST_TASK_LBA_LO 0) 0, .reg (Reg.CST_TASK_LBA_HI 0) 0, .reg (Reg.CST_TASK_ADDR_LO 0) 0, .reg (Reg.CST_TASK_ADDR_HI 0) (w32 0x80000000), .fld (Reg.CST_TASK_BLOCKS 0) Fld.CST_TASK_BLOCKS.BLOCKS 0] State.reset, by decide +kernel⟩,
   ⟨0, setFld (setFld (setFld 0 Fld.CST_TASK_CMD.GO 1) Fld.CST_TASK_CMD.OP OP_DEALLOCATE) Fld.CST_TASK_CMD.NS 1, applyAll [.fld (Reg.CST_STORE_STAT) Fld.CST_STORE_STAT.READY 1, effDisk fun d => { d with ports := [0], chunks := 50, spaces := d.spaces.put 1 ⟨0, 1000, [3], none⟩ }, .fld (Reg.CST_TASK_STATUS 0) Fld.CST_TASK_STATUS.BUSY 0, .reg (Reg.CST_TASK_LBA_LO 0) 0, .reg (Reg.CST_TASK_LBA_HI 0) 0, .reg (Reg.CST_TASK_ADDR_LO 0) 0, .reg (Reg.CST_TASK_ADDR_HI 0) (w32 0x80000000), .fld (Reg.CST_TASK_BLOCKS 0) Fld.CST_TASK_BLOCKS.BLOCKS 1] State.reset, by decide +kernel⟩⟩

/-- The hypotheses of TaskEnds can hold, in each clause. -/
theorem witness_TaskEnds :
    (∃ (f : Fn) (v : Word) (s : State), getFld v Fld.CST_TASK_CMD.GO = 1 ∧ getFld v Fld.CST_TASK_CMD.OP = OP_READ ∧ s.flag (Reg.CST_TASK_STATUS f) Fld.CST_TASK_STATUS.BUSY = true) ∧
    (∃ (f : Fn) (v : Word) (st : Nat) (s : State), getFld v Fld.CST_TASK_CMD.GO = 1 ∧ getFld v Fld.CST_TASK_CMD.OP = OP_WRITE ∧ s.flag (Reg.CST_TASK_STATUS f) Fld.CST_TASK_STATUS.BUSY = false ∧ taskChecks s f v = some st ∧ st < 65536) ∧
    (∃ (f : Fn) (p : Piece) (x : Task) (s : State), s.task f = some x ∧ x.pieces = [p] ∧ p.issued = true ∧ x.op = OP_READ ∧ x.addr + (p.lba - x.lba) * BLK < 2 ^ 63) ∧
    (∃ (f : Fn) (p : Piece) (x : Task) (s : State), s.task f = some x ∧ x.pieces = [p] ∧ p.issued = true ∧ x.op = OP_WRITE ∧ firstPoison s (x.addr + (p.lba - x.lba) * BLK) (p.blocks * BLK) = none) ∧
    (∃ (f : Fn) (p : Piece) (x : Task) (s : State), s.task f = some x ∧ x.pieces = [p] ∧ p.issued = true ∧ x.fail = none) ∧
    (∃ (f : Fn) (x : Task) (s : State), s.task f = some x ∧ x.pieces = [] ∧ x.fail = none ∧ x.done < 2 ^ 32) ∧
    (∃ (f : Fn) (p : Piece) (x : Task) (s : State), s.task f = some x ∧ x.pieces = [p] ∧ p.issued = true ∧ x.fail = none) ∧
    (∃ (s : State), storeReady s = true ∧ pstate s = 0 ∧ outstanding s = 0) ∧
    (∃ (s : State), pstate s = 1 ∧ s.pn Prm.CST_SLEEP_MS ≠ 0) ∧
    (∃ (s : State), s.pn Prm.CST_SLEEP_MS = 0) :=
  ⟨⟨0, setFld (setFld (setFld 0 Fld.CST_TASK_CMD.GO 1) Fld.CST_TASK_CMD.OP OP_READ) Fld.CST_TASK_CMD.NS 1, applyAll [.fld (Reg.CST_TASK_STATUS 0) Fld.CST_TASK_STATUS.BUSY 1] State.reset, by decide +kernel⟩,
   ⟨0, setFld (setFld (setFld 0 Fld.CST_TASK_CMD.GO 1) Fld.CST_TASK_CMD.OP OP_WRITE) Fld.CST_TASK_CMD.NS 1, (taskChecks (applyAll [.fld (Reg.CST_STORE_STAT) Fld.CST_STORE_STAT.READY 0, .fld (Reg.CST_TASK_STATUS 0) Fld.CST_TASK_STATUS.BUSY 0] State.reset : State) (0 : Fn) (setFld (setFld (setFld 0 Fld.CST_TASK_CMD.GO 1) Fld.CST_TASK_CMD.OP OP_WRITE) Fld.CST_TASK_CMD.NS 1 : Word)).getD 0, applyAll [.fld (Reg.CST_STORE_STAT) Fld.CST_STORE_STAT.READY 0, .fld (Reg.CST_TASK_STATUS 0) Fld.CST_TASK_STATUS.BUSY 0] State.reset, by decide +kernel⟩,
   ⟨0, ⟨0, 1, true⟩, ⟨OP_READ, false, 1, 0, 1, 4096, [⟨0, 1, true⟩], 0, none, 0⟩, applyAll [effDisk fun d => { d with ports := [0], chunks := 50, spaces := d.spaces.put 1 ⟨0, 1000, [3], none⟩ }, effCst fun c => { c with tasks := c.tasks.put 0 ⟨OP_READ, false, 1, 0, 1, 4096, [⟨0, 1, true⟩], 0, none, 0⟩ }] State.reset, by decide +kernel⟩,
   ⟨0, ⟨0, 1, true⟩, ⟨OP_WRITE, false, 1, 0, 1, 4096, [⟨0, 1, true⟩], 0, none, 0⟩, applyAll [effDisk fun d => { d with ports := [0], chunks := 50, spaces := d.spaces.put 1 ⟨0, 1000, [3], none⟩ }, effCst fun c => { c with tasks := c.tasks.put 0 ⟨OP_WRITE, false, 1, 0, 1, 4096, [⟨0, 1, true⟩], 0, none, 0⟩ }] State.reset, by decide +kernel⟩,
   ⟨0, ⟨0, 1, true⟩, ⟨OP_READ, false, 1, 0, 1, 4096, [⟨0, 1, true⟩], 0, none, 0⟩, applyAll [effDisk fun d => { d with ports := [0], chunks := 50, spaces := d.spaces.put 1 ⟨0, 1000, [3], none⟩ }, effCst fun c => { c with tasks := c.tasks.put 0 ⟨OP_READ, false, 1, 0, 1, 4096, [⟨0, 1, true⟩], 0, none, 0⟩ }] State.reset, by decide +kernel⟩,
   ⟨0, ⟨OP_READ, false, 1, 0, 1, 4096, [], 3, none, 0⟩, applyAll [effDisk fun d => { d with ports := [0], chunks := 50, spaces := d.spaces.put 1 ⟨0, 1000, [3], none⟩ }, effCst fun c => { c with tasks := c.tasks.put 0 ⟨OP_READ, false, 1, 0, 1, 4096, [], 3, none, 0⟩ }] State.reset, by decide +kernel⟩,
   ⟨0, ⟨0, 1, true⟩, ⟨OP_READ, false, 1, 0, 1, 4096, [⟨0, 1, true⟩], 0, none, 0⟩, applyAll [effDisk fun d => { d with ports := [0], chunks := 50, spaces := d.spaces.put 1 ⟨0, 1000, [3], none⟩ }, effCst fun c => { c with tasks := c.tasks.put 0 ⟨OP_READ, false, 1, 0, 1, 4096, [⟨0, 1, true⟩], 0, none, 0⟩ }] State.reset, by decide +kernel⟩,
   ⟨applyAll [.fld (Reg.CST_STORE_STAT) Fld.CST_STORE_STAT.READY 1, .fld (Reg.CST_STORE_STAT) Fld.CST_STORE_STAT.PSTATE 0] State.reset, by decide +kernel⟩,
   ⟨applyAll [.fld (Reg.CST_STORE_STAT) Fld.CST_STORE_STAT.PSTATE 1, .prm (Prm.CST_SLEEP_MS) (w32 5)] State.reset, by decide +kernel⟩,
   ⟨applyAll [.prm (Prm.CST_SLEEP_MS) (w32 0)] State.reset, by decide +kernel⟩⟩

/-- The hypotheses of StoreCommands can hold, in each clause. -/
theorem witness_StoreCommands :
    (∃ (k : Svc) (s : State), Served s 0xE00 k ∧ k.cmd.len = 0 ∧ k.holds s R_STORE = true) ∧
    (∃ (k : Svc) (s : State), Served s 0xE01 k ∧ k.f = 0 ∧ k.cmd.len = 4 ∧ k.n 0 4 = 0x464D5421 ∧ storeInUse s = false ∧ (usableDrives s).isEmpty = false ∧ TicketFree s k) ∧
    (∃ (k : Svc) (s : State), Served s 0xE02 k ∧ k.cmd.len = 8 ∧ k.holds s R_STORE = true ∧ k.n 0 4 ≠ 0 ∧ zeroAt k.cmd.payload 4 4 = true ∧ storeReady s = true ∧ firstBad (createChecks s k.f (k.n 0 4)) = none ∧ TicketFree s k) ∧
    (∃ (k : Svc) (x : Namespace) (s : State), Served s 0xE03 k ∧ k.cmd.len = 4 ∧ k.holds s R_STORE = true ∧ zeroAt k.cmd.payload 1 3 = true ∧ storeReady s = true ∧ reachable s k.f (k.n 0 1) = some x ∧ heldBy s (k.n 0 1) = 0 ∧ TicketFree s k) ∧
    (∃ (k : Svc) (x : Namespace) (s : State), Served s 0xE04 k ∧ k.cmd.len = 4 ∧ k.holds s R_STORE = true ∧ zeroAt k.cmd.payload 1 3 = true ∧ storeReady s = true ∧ reachable s k.f (k.n 0 1) = some x) ∧
    (∃ (k : Svc) (s : State), Served s 0xE05 k ∧ k.f = 0 ∧ k.cmd.len = 8 ∧ 0 < k.n 0 1 ∧ k.n 0 1 < 64 ∧ k.n 1 1 < 64 ∧ zeroAt k.cmd.payload 2 2 = true ∧ storeReady s = true) ∧
    (∃ (k : Svc) (s : State), Served s 0xE05 k ∧ k.f ≠ 0 ∧ k.cmd.len = 8) :=
  ⟨⟨svc 0 0xE00 (z 0), applyAll [serve (svc 0 0xE00 (z 0))] State.reset, by decide +kernel⟩,
   ⟨svc 0 0xE01 (w 4 0x464D5421), applyAll [serve (svc 0 0xE01 (w 4 0x464D5421)), .prm (Prm.DRV_STATE 0) (w32 3)] State.reset, by decide +kernel⟩,
   ⟨svc 0 0xE02 (w 4 1 ++ z 4), applyAll [serve (svc 0 0xE02 (w 4 1 ++ z 4)), .fld (Reg.CST_STORE_STAT) Fld.CST_STORE_STAT.READY 1, effDisk fun d => { d with ports := [0], chunks := 50, spaces := d.spaces.put 1 ⟨0, 1000, [3], none⟩ }] State.reset, by decide +kernel⟩,
   ⟨svc 0 0xE03 ([1, 0, 0, 0]), ⟨0, 1000, [3], none⟩, applyAll [serve (svc 0 0xE03 ([1, 0, 0, 0])), .fld (Reg.CST_STORE_STAT) Fld.CST_STORE_STAT.READY 1, effDisk fun d => { d with ports := [0], chunks := 50, spaces := d.spaces.put 1 ⟨0, 1000, [3], none⟩ }] State.reset, by decide +kernel⟩,
   ⟨svc 0 0xE04 ([1, 0, 0, 0]), ⟨0, 1000, [3], none⟩, applyAll [serve (svc 0 0xE04 ([1, 0, 0, 0])), .fld (Reg.CST_STORE_STAT) Fld.CST_STORE_STAT.READY 1, effDisk fun d => { d with ports := [0], chunks := 50, spaces := d.spaces.put 1 ⟨0, 1000, [3], none⟩ }] State.reset, by decide +kernel⟩,
   ⟨svc 0 0xE05 ([1, 2, 0, 0] ++ w 4 5), applyAll [serve (svc 0 0xE05 ([1, 2, 0, 0] ++ w 4 5)), .fld (Reg.CST_STORE_STAT) Fld.CST_STORE_STAT.READY 1] State.reset, by decide +kernel⟩,
   ⟨svc 1 0xE05 (z 8), applyAll [serve (svc 1 0xE05 (z 8))] State.reset, by decide +kernel⟩⟩

/-- The hypotheses of RecordAndPlay can hold, in each clause. -/
theorem witness_RecordAndPlay :
    (∃ (k : Svc) (s : State), Served s 0xE10 k ∧ k.f = 0 ∧ k.cmd.len = 8 ∧ k.n 0 1 < 4 ∧ k.n 1 1 < 2 ∧ k.n 2 2 < 4096 ∧ zeroAt k.cmd.payload 5 3 = true ∧ firstBad (recOpenChecks s k.f (k.n 0 1) (k.n 1 1) (k.n 2 2) (k.n 4 1)) = none ∧ TicketFree s k) ∧
    (∃ (k : Svc) (s : State), Served s 0xE11 k ∧ k.n 1 1 = 1 ∧ firstBad (takeChecks k s true) = none ∧ TicketFree s k) ∧
    (∃ (k : Svc) (x : Recorder) (j : CastJob) (s : State), Served s 0xE11 k ∧ k.n 1 1 = 2 ∧ firstBad (takeChecks k s false) = none ∧ s.rec_ (k.n 0 1) = some x ∧ s.job x.job = some j ∧ TicketFree s k) ∧
    (∃ (k : Svc) (x : Recorder) (s : State), Served s 0xE12 k ∧ k.f = 0 ∧ k.cmd.len = 4 ∧ k.n 0 1 < 4 ∧ zeroAt k.cmd.payload 1 3 = true ∧ storeReady s = true ∧ s.rec_ (k.n 0 1) = some x ∧ x.take = none) ∧
    (∃ (r : Fin 4) (ok : Bool) (x : Recorder) (j : CastJob) (s : State), s.rec_ r = some x ∧ s.job x.job = some j ∧ x.take = none ∧ x.last ≠ j.writeSeq) ∧
    (∃ (r : Fin 4) (ok : Bool) (x : Recorder) (j : CastJob) (s : State), s.rec_ r = some x ∧ s.job x.job = some j ∧ x.last = j.writeSeq) ∧
    (∃ (k : Svc) (c : Bytes) (x : Namespace) (h : Nat) (s : State), Served s 0xE20 k ∧ k.cmd.len = 16 ∧ k.holds s R_STORE = true ∧ 3 ≤ k.n 1 1 ∧ k.n 1 1 ≤ 8 ∧ k.n 2 1 < 4 ∧ k.n 3 1 ≠ 0 ∧ k.n 4 2 < 4080 ∧ k.n 8 8 % 4096 = 0 ∧ zeroAt k.cmd.payload 6 2 = true ∧ storeReady s = true ∧ reachable s k.f (k.n 0 1) = some x ∧ c = dirEntry s.cst.disk (k.n 0 1) (k.n 4 2) ∧ dirValid (s.cst.disk.bytesAt (k.n 0 1) 0 64) = true ∧ fieldN c 4 1 = 2 ∧ fieldN c 32 4 ≠ 0 ∧ (List.range 16).find? (fun h => (s.play h).isNone) = some h ∧ TicketFree s k ∧ (let p : Playback := ⟨k.f, k.n 0 1, c, k.n 8 8, k.n 1 1, k.n 2 1, k.n 3 1, 1, some 0, 0, false, false, 0, 0, k.n 1 1 - 1, some (k.f, ticketId k.f (s.mbx k.f).nextTicket)⟩
      rangeOk s k.f (k.n 8 8) (k.n 1 1 * (playRing p).size) = true)) ∧
    (∃ (k : Svc) (p : Playback) (op : Nat) (s : State), Served s 0xE21 k ∧ k.cmd.len = 8 ∧ k.n 0 1 < 16 ∧ k.n 1 1 = op ∧ (op = 1 ∨ op = 2 ∨ op = 4 ∨ op = 8) ∧ zeroAt k.cmd.payload 2 2 = true ∧ storeReady s = true ∧ heldPlay k s = some p ∧ k.n 4 4 = 0xFFFFFFFF) ∧
    (∃ (k : Svc) (p : Playback) (s : State), Served s 0xE22 k ∧ k.cmd.len = 4 ∧ k.n 0 1 < 16 ∧ zeroAt k.cmd.payload 1 3 = true ∧ storeReady s = true ∧ heldPlay k s = some p ∧ layerNames s 4 (k.n 0 1) = false) ∧
    (∃ (k : Svc) (p : Playback) (s : State), Served s 0xE23 k ∧ k.cmd.len = 4 ∧ k.n 0 1 < 16 ∧ zeroAt k.cmd.payload 1 3 = true ∧ storeReady s = true ∧ heldPlay k s = some p) ∧
    (∃ (h : Fin 16) (p : Playback) (k : Nat) (q : Nat) (hd : CastHdr) (size : Nat) (s : State), s.play h = some p ∧ p.decoding = some k ∧ p.opening = none ∧ (sharedEngines s).isEmpty = false ∧ (let d := s.cst.disk
      (let ie := d.bytesAt p.space (fieldN p.clip 24 8 * BLK + 48 * k) 48
      (let bs := d.bytesAt p.space ((fieldN p.clip 8 8 + fieldN ie 0 8) * BLK) (fieldN ie 8 4)
      (let r := decodeRun (slotAddr (playRing p) q + 256) (min ((playRing p).size - 256) (4096 * fieldN ie 8 4)) 1 bs 0
      fieldN ie 20 2 = ST_OK ∧ nextPlaySlot s h p = some q ∧ readHeader bs = some (hd, size) ∧ r.status = ST_OK))))) ∧
    (∃ (h : Fin 16) (p : Playback) (k : Nat) (s : State), s.play h = some p ∧ p.decoding = some k ∧ p.opening = none ∧ (sharedEngines s).isEmpty = false ∧ fieldN (s.cst.disk.bytesAt p.space (fieldN p.clip 24 8 * BLK + 48 * k) 48) 20 2 ≠ ST_OK) :=
  ⟨⟨svc 0 0xE10 ([0, 1, 0, 0, 1, 0, 0, 0]), applyAll [serve (svc 0 0xE10 ([0, 1, 0, 0, 1, 0, 0, 0])), .fld (Reg.CST_STORE_STAT) Fld.CST_STORE_STAT.READY 1, effDisk fun d => { d with ports := [0], chunks := 50, spaces := d.spaces.put 1 ⟨0, 1000, [3], none⟩ }, .cast fun x => { x with jobs := x.jobs.put 0 ⟨2, 0, 1, [], 0, 0, 0, 8, 1, 1, 64, 4, 4, 64, none, 0, 0, 0, 0, 0, 0, 0, 0, none, [], none, none⟩ }, .prm (Prm.CST_WRITE_MBS) (w32 0)] State.reset, by decide +kernel⟩,
   ⟨svc 0 0xE11 (mk 36 [(1, [1])]), applyAll [serve (svc 0 0xE11 (mk 36 [(1, [1])])), .fld (Reg.CST_STORE_STAT) Fld.CST_STORE_STAT.READY 1, effDisk fun d => { d with ports := [0], chunks := 50, spaces := d.spaces.put 1 ⟨0, 1000, [3], none⟩ }, .cast fun x => { x with jobs := x.jobs.put 0 ⟨2, 0, 1, [], 0, 0, 0, 8, 1, 1, 64, 4, 4, 64, none, 0, 0, 0, 0, 0, 0, 0, 0, none, [], none, none⟩ }, effCst fun c => { c with recs := c.recs.put 0 ⟨0, 1, 0, 0, none⟩ }, effDisk fun d => { d with blocks := (d.blocks.put (blockKey 1 0) (mk 60 [(0, [0x43, 0x4C, 0x50, 0x44, 1])] ++ leBytes 4 (crc32 (mk 60 [(0, [0x43, 0x4C, 0x50, 0x44, 1])])))).put (blockKey 1 1) (mk 256 [(4, [2]), (32, w 4 1), (8, w 8 2), (24, w 8 3), (88, w 2 16), (90, w 2 4), (128, [0x20])]) }] State.reset, by decide +kernel⟩,
   ⟨svc 0 0xE11 (mk 36 [(1, [2])]), ⟨0, 1, 0, 0, some ⟨0, 0, 0, 0, [], 0, 0, 0, [], [], [], [], none, 0, 0, none, false⟩⟩, ⟨2, 0, 1, [], 0, 0, 0, 8, 1, 1, 64, 4, 4, 64, none, 0, 0, 0, 0, 0, 0, 0, 0, none, [], none, none⟩, applyAll [serve (svc 0 0xE11 (mk 36 [(1, [2])])), .fld (Reg.CST_STORE_STAT) Fld.CST_STORE_STAT.READY 1, effDisk fun d => { d with ports := [0], chunks := 50, spaces := d.spaces.put 1 ⟨0, 1000, [3], none⟩ }, .cast fun x => { x with jobs := x.jobs.put 0 ⟨2, 0, 1, [], 0, 0, 0, 8, 1, 1, 64, 4, 4, 64, none, 0, 0, 0, 0, 0, 0, 0, 0, none, [], none, none⟩ }, effCst fun c => { c with recs := c.recs.put 0 ⟨0, 1, 0, 0, some ⟨0, 0, 0, 0, [], 0, 0, 0, [], [], [], [], none, 0, 0, none, false⟩⟩ }] State.reset, by decide +kernel⟩,
   ⟨svc 0 0xE12 (z 4), ⟨0, 1, 0, 0, none⟩, applyAll [serve (svc 0 0xE12 (z 4)), .fld (Reg.CST_STORE_STAT) Fld.CST_STORE_STAT.READY 1, effDisk fun d => { d with ports := [0], chunks := 50, spaces := d.spaces.put 1 ⟨0, 1000, [3], none⟩ }, .cast fun x => { x with jobs := x.jobs.put 0 ⟨2, 0, 1, [], 0, 0, 0, 8, 1, 1, 64, 4, 4, 64, none, 0, 0, 0, 0, 0, 0, 0, 0, none, [], none, none⟩ }, effCst fun c => { c with recs := c.recs.put 0 ⟨0, 1, 0, 0, none⟩ }] State.reset, by decide +kernel⟩,
   ⟨0, true, ⟨0, 1, 0, 0, none⟩, ⟨2, 0, 1, [], 0, 0, 0, 8, 1, 1, 64, 4, 4, 64, none, 0, 0, 0, 0, 0, 0, 3, 0, none, [], none, none⟩, applyAll [.fld (Reg.CST_STORE_STAT) Fld.CST_STORE_STAT.READY 1, effDisk fun d => { d with ports := [0], chunks := 50, spaces := d.spaces.put 1 ⟨0, 1000, [3], none⟩ }, .cast fun x => { x with jobs := x.jobs.put 0 ⟨2, 0, 1, [], 0, 0, 0, 8, 1, 1, 64, 4, 4, 64, none, 0, 0, 0, 0, 0, 0, 3, 0, none, [], none, none⟩ }, effCst fun c => { c with recs := c.recs.put 0 ⟨0, 1, 0, 0, none⟩ }] State.reset, by decide +kernel⟩,
   ⟨0, true, ⟨0, 1, 0, 3, none⟩, ⟨2, 0, 1, [], 0, 0, 0, 8, 1, 1, 64, 4, 4, 64, none, 0, 0, 0, 0, 0, 0, 3, 0, none, [], none, none⟩, applyAll [.fld (Reg.CST_STORE_STAT) Fld.CST_STORE_STAT.READY 1, effDisk fun d => { d with ports := [0], chunks := 50, spaces := d.spaces.put 1 ⟨0, 1000, [3], none⟩ }, .cast fun x => { x with jobs := x.jobs.put 0 ⟨2, 0, 1, [], 0, 0, 0, 8, 1, 1, 64, 4, 4, 64, none, 0, 0, 0, 0, 0, 0, 3, 0, none, [], none, none⟩ }, effCst fun c => { c with recs := c.recs.put 0 ⟨0, 1, 0, 3, none⟩ }] State.reset, by decide +kernel⟩,
   ⟨svc 0 0xE20 (mk 16 [(0, [1, 3, 0, 1]), (8, w 8 (2 ^ 63))]), dirEntry (applyAll [serve (svc 0 0xE20 (mk 16 [(0, [1, 3, 0, 1]), (8, w 8 (2 ^ 63))])), .fld (Reg.CST_STORE_STAT) Fld.CST_STORE_STAT.READY 1, effDisk fun d => { d with ports := [0], chunks := 50, spaces := d.spaces.put 1 ⟨0, 1000, [3], none⟩ }, effDisk fun d => { d with blocks := (d.blocks.put (blockKey 1 0) (mk 60 [(0, [0x43, 0x4C, 0x50, 0x44, 1])] ++ leBytes 4 (crc32 (mk 60 [(0, [0x43, 0x4C, 0x50, 0x44, 1])])))).put (blockKey 1 1) (mk 256 [(4, [2]), (32, w 4 1), (8, w 8 2), (24, w 8 3), (88, w 2 16), (90, w 2 4), (128, [0x20])]) }] State.reset : State).cst.disk ((svc 0 0xE20 (mk 16 [(0, [1, 3, 0, 1]), (8, w 8 (2 ^ 63))]) : Svc).n 0 1) ((svc 0 0xE20 (mk 16 [(0, [1, 3, 0, 1]), (8, w 8 (2 ^ 63))]) : Svc).n 4 2), ⟨0, 1000, [3], none⟩, 0, applyAll [serve (svc 0 0xE20 (mk 16 [(0, [1, 3, 0, 1]), (8, w 8 (2 ^ 63))])), .fld (Reg.CST_STORE_STAT) Fld.CST_STORE_STAT.READY 1, effDisk fun d => { d with ports := [0], chunks := 50, spaces := d.spaces.put 1 ⟨0, 1000, [3], none⟩ }, effDisk fun d => { d with blocks := (d.blocks.put (blockKey 1 0) (mk 60 [(0, [0x43, 0x4C, 0x50, 0x44, 1])] ++ leBytes 4 (crc32 (mk 60 [(0, [0x43, 0x4C, 0x50, 0x44, 1])])))).put (blockKey 1 1) (mk 256 [(4, [2]), (32, w 4 1), (8, w 8 2), (24, w 8 3), (88, w 2 16), (90, w 2 4), (128, [0x20])]) }] State.reset, by decide +kernel⟩,
   ⟨svc 0 0xE21 ([0, 1, 0, 0] ++ w 4 0xFFFFFFFF), ⟨0, 1, mk 256 [(4, [2]), (32, w 4 1), (8, w 8 2), (24, w 8 3), (88, w 2 16), (90, w 2 4), (128, [0x20])], 2 ^ 63, 3, 0, 1, 1, some 0, 0, true, false, 0, 0, 2, none⟩, 1, applyAll [serve (svc 0 0xE21 ([0, 1, 0, 0] ++ w 4 0xFFFFFFFF)), .fld (Reg.CST_STORE_STAT) Fld.CST_STORE_STAT.READY 1, effCst fun c => { c with plays := c.plays.put 0 ⟨0, 1, mk 256 [(4, [2]), (32, w 4 1), (8, w 8 2), (24, w 8 3), (88, w 2 16), (90, w 2 4), (128, [0x20])], 2 ^ 63, 3, 0, 1, 1, some 0, 0, true, false, 0, 0, 2, none⟩ }] State.reset, by decide +kernel⟩,
   ⟨svc 0 0xE22 (z 4), ⟨0, 1, mk 256 [(4, [2]), (32, w 4 1), (8, w 8 2), (24, w 8 3), (88, w 2 16), (90, w 2 4), (128, [0x20])], 2 ^ 63, 3, 0, 1, 1, some 0, 0, true, false, 0, 0, 2, none⟩, applyAll [serve (svc 0 0xE22 (z 4)), .fld (Reg.CST_STORE_STAT) Fld.CST_STORE_STAT.READY 1, effCst fun c => { c with plays := c.plays.put 0 ⟨0, 1, mk 256 [(4, [2]), (32, w 4 1), (8, w 8 2), (24, w 8 3), (88, w 2 16), (90, w 2 4), (128, [0x20])], 2 ^ 63, 3, 0, 1, 1, some 0, 0, true, false, 0, 0, 2, none⟩ }] State.reset, by decide +kernel⟩,
   ⟨svc 0 0xE23 (z 4), ⟨0, 1, mk 256 [(4, [2]), (32, w 4 1), (8, w 8 2), (24, w 8 3), (88, w 2 16), (90, w 2 4), (128, [0x20])], 2 ^ 63, 3, 0, 1, 1, some 0, 0, true, false, 0, 0, 2, none⟩, applyAll [serve (svc 0 0xE23 (z 4)), .fld (Reg.CST_STORE_STAT) Fld.CST_STORE_STAT.READY 1, effCst fun c => { c with plays := c.plays.put 0 ⟨0, 1, mk 256 [(4, [2]), (32, w 4 1), (8, w 8 2), (24, w 8 3), (88, w 2 16), (90, w 2 4), (128, [0x20])], 2 ^ 63, 3, 0, 1, 1, some 0, 0, true, false, 0, 0, 2, none⟩ }] State.reset, by decide +kernel⟩,
   ⟨0, ⟨0, 1, mk 256 [(4, [2]), (32, w 4 1), (8, w 8 2), (24, w 8 3), (88, w 2 16), (90, w 2 4), (128, [0x20])], 2 ^ 63, 3, 0, 1, 1, some 0, 0, true, false, 0, 0, 2, none⟩, 0, (nextPlaySlot (applyAll [effDisk fun d => { d with ports := [0], chunks := 50, spaces := d.spaces.put 1 ⟨0, 1000, [3], none⟩ }, effDisk fun d => { d with blocks := (d.blocks.put (blockKey 1 0) (mk 60 [(0, [0x43, 0x4C, 0x50, 0x44, 1])] ++ leBytes 4 (crc32 (mk 60 [(0, [0x43, 0x4C, 0x50, 0x44, 1])])))).put (blockKey 1 1) (mk 256 [(4, [2]), (32, w 4 1), (8, w 8 2), (24, w 8 3), (88, w 2 16), (90, w 2 4), (128, [0x20])]) }, effCst fun c => { c with plays := c.plays.put 0 ⟨0, 1, mk 256 [(4, [2]), (32, w 4 1), (8, w 8 2), (24, w 8 3), (88, w 2 16), (90, w 2 4), (128, [0x20])], 2 ^ 63, 3, 0, 1, 1, some 0, 0, true, false, 0, 0, 2, none⟩ }, effDisk fun d => { d with blocks := ((d.blocks.put (blockKey 1 2) (match encFrame (jobHeader ⟨2, 0, 1, [], 0, 0, 0x20, 8, 1, 1, 16, 4, 4, 64, none, 0, 0, 0, 0, 0, 0, 0, 0, none, [], none, none⟩ 5 9) 4096 (fun _ _ _ => 0) with | some x => x.1 | none => []))).put (blockKey 1 3) (mk 48 [(8, w 4 (match encFrame (jobHeader ⟨2, 0, 1, [], 0, 0, 0x20, 8, 1, 1, 16, 4, 4, 64, none, 0, 0, 0, 0, 0, 0, 0, 0, none, [], none, none⟩ 5 9) 4096 (fun _ _ _ => 0) with | some x => x.1 | none => []).length)]) }] State.reset : State) 0 ⟨0, 1, mk 256 [(4, [2]), (32, w 4 1), (8, w 8 2), (24, w 8 3), (88, w 2 16), (90, w 2 4), (128, [0x20])], 2 ^ 63, 3, 0, 1, 1, some 0, 0, true, false, 0, 0, 2, none⟩).getD 0, (readHeader (match encFrame (jobHeader ⟨2, 0, 1, [], 0, 0, 0x20, 8, 1, 1, 16, 4, 4, 64, none, 0, 0, 0, 0, 0, 0, 0, 0, none, [], none, none⟩ 5 9) 4096 (fun _ _ _ => 0) with | some x => x.1 | none => [])).elim ⟨false, false, 0, 0, 0, 0, 0, 0, 0, [], 0, 0, 0, 0⟩ (·.1), (readHeader (match encFrame (jobHeader ⟨2, 0, 1, [], 0, 0, 0x20, 8, 1, 1, 16, 4, 4, 64, none, 0, 0, 0, 0, 0, 0, 0, 0, none, [], none, none⟩ 5 9) 4096 (fun _ _ _ => 0) with | some x => x.1 | none => [])).elim 0 (·.2), applyAll [effDisk fun d => { d with ports := [0], chunks := 50, spaces := d.spaces.put 1 ⟨0, 1000, [3], none⟩ }, effDisk fun d => { d with blocks := (d.blocks.put (blockKey 1 0) (mk 60 [(0, [0x43, 0x4C, 0x50, 0x44, 1])] ++ leBytes 4 (crc32 (mk 60 [(0, [0x43, 0x4C, 0x50, 0x44, 1])])))).put (blockKey 1 1) (mk 256 [(4, [2]), (32, w 4 1), (8, w 8 2), (24, w 8 3), (88, w 2 16), (90, w 2 4), (128, [0x20])]) }, effCst fun c => { c with plays := c.plays.put 0 ⟨0, 1, mk 256 [(4, [2]), (32, w 4 1), (8, w 8 2), (24, w 8 3), (88, w 2 16), (90, w 2 4), (128, [0x20])], 2 ^ 63, 3, 0, 1, 1, some 0, 0, true, false, 0, 0, 2, none⟩ }, effDisk fun d => { d with blocks := ((d.blocks.put (blockKey 1 2) (match encFrame (jobHeader ⟨2, 0, 1, [], 0, 0, 0x20, 8, 1, 1, 16, 4, 4, 64, none, 0, 0, 0, 0, 0, 0, 0, 0, none, [], none, none⟩ 5 9) 4096 (fun _ _ _ => 0) with | some x => x.1 | none => []))).put (blockKey 1 3) (mk 48 [(8, w 4 (match encFrame (jobHeader ⟨2, 0, 1, [], 0, 0, 0x20, 8, 1, 1, 16, 4, 4, 64, none, 0, 0, 0, 0, 0, 0, 0, 0, none, [], none, none⟩ 5 9) 4096 (fun _ _ _ => 0) with | some x => x.1 | none => []).length)]) }] State.reset, by decide +kernel⟩,
   ⟨0, ⟨0, 1, mk 256 [(4, [2]), (32, w 4 1), (8, w 8 2), (24, w 8 3), (88, w 2 16), (90, w 2 4), (128, [0x20])], 2 ^ 63, 3, 0, 1, 1, some 0, 0, true, false, 0, 0, 2, none⟩, 0, applyAll [effDisk fun d => { d with ports := [0], chunks := 50, spaces := d.spaces.put 1 ⟨0, 1000, [3], none⟩ }, effDisk fun d => { d with blocks := (d.blocks.put (blockKey 1 0) (mk 60 [(0, [0x43, 0x4C, 0x50, 0x44, 1])] ++ leBytes 4 (crc32 (mk 60 [(0, [0x43, 0x4C, 0x50, 0x44, 1])])))).put (blockKey 1 1) (mk 256 [(4, [2]), (32, w 4 1), (8, w 8 2), (24, w 8 3), (88, w 2 16), (90, w 2 4), (128, [0x20])]) }, effCst fun c => { c with plays := c.plays.put 0 ⟨0, 1, mk 256 [(4, [2]), (32, w 4 1), (8, w 8 2), (24, w 8 3), (88, w 2 16), (90, w 2 4), (128, [0x20])], 2 ^ 63, 3, 0, 1, 1, some 0, 0, true, false, 0, 0, 2, none⟩ }, effDisk fun d => { d with blocks := d.blocks.put (blockKey 1 3) (mk 48 [(20, [1])]) }] State.reset, by decide +kernel⟩⟩

/-- The hypotheses of MemoryRows can hold, in each clause. -/
theorem witness_MemoryRows :
    (∃ (k : Svc) (b : Nat) (s : State), Served s 0xF00 k ∧ k.f = 0 ∧ k.cmd.len = 8 ∧ k.n 0 4 ≠ 0 ∧ k.n 0 4 % 2 = 0 ∧ zeroAt k.cmd.payload 4 4 = true ∧ lowestRun s (k.n 0 4 * 2 ^ 20) = some b ∧ (allocs s).length < 1024 ∧ TicketFree s k) ∧
    (∃ (k : Svc) (s : State), Served s 0xF00 k ∧ k.cmd.len = 8 ∧ k.n 0 4 % 2 = 1) ∧
    (∃ (f : Fn) (ticket : Nat) (n : Nat) (b : Bytes) (s : State), reservation s f ticket = some (n, b)) ∧
    (∃ (k : Svc) (b : Bytes) (s : State), Served s 0xF01 k ∧ k.cmd.len = 8 ∧ s.obj K_MEM (k.n 0 8 / GRAN) = some b ∧ fieldN b 1 8 = k.n 0 8 ∧ fieldN b 0 1 = k.f ∧ ((addrsInForce s ++ addrsStaged s).any fun x => decide (k.n 0 8 ≤ x) && decide (x < k.n 0 8 + fieldN b 9 8)) = false) ∧
    (∃ (k : Svc) (s : State), Served s 0xF02 k ∧ k.f = 0 ∧ k.cmd.len = 8 ∧ 0 < k.n 0 1 ∧ k.n 0 1 < 64 ∧ zeroAt k.cmd.payload 1 3 = true) ∧
    (∃ (k : Svc) (s : State), Served s 0xF03 k ∧ k.cmd.len = 0) ∧
    (∃ (port : Fin 16) (tag : Option Fn) (addr : Nat) (age : Nat) (bs : Bytes) (waited : Bool) (depth : Fin 65) (s : State), (∀ f, tag = some f → granuleOwner s addr = some f.val) ∧ 0 < bs.length ∧ addr % 64 + bs.length ≤ 64 ∧ addr < memSize s ∧ s.poison.has (addr / 64) = false) ∧
    (∃ (port : Fin 16) (tag : Option Fn) (addr : Nat) (len : Nat) (age : Nat) (waited : Bool) (depth : Fin 65) (s : State), (∀ f, tag = some f → granuleOwner s addr = some f.val) ∧ 0 < len ∧ addr % 64 + len ≤ 64 ∧ addr < memSize s ∧ s.poison.has (addr / 64) = false) ∧
    (∃ (port : Fin 16) (f : Fn) (addr : Nat) (age : Nat) (bs : Bytes) (waited : Bool) (depth : Fin 65) (ecc : Fin 3) (s : State), granuleOwner s addr ≠ some f.val ∧ 0 < bs.length ∧ addr % 64 + bs.length ≤ 64 ∧ addr < memSize s) ∧
    (∃ (port : Fin 16) (addr : Nat) (len : Nat) (age : Nat) (waited : Bool) (depth : Fin 65) (s : State), 0 < len ∧ addr % 64 + len ≤ 64 ∧ addr < memSize s ∧ s.poison.has (addr / 64) = false) ∧
    (∃ (m : Fin 4) (line : Nat) (s : State), s.mem.scrub.getD m 0 + 1 < stackLines) ∧
    (∃ (m : Fin 4) (line : Nat) (s : State), s.poison.has line = false) ∧
    (∃ (m : Fin 4) (s : State), s.pn Prm.MEM_CE_THRESH < s.mem.window.getD m 0) ∧
    (∃ (m : Fin 4) (pc : Fin 32) (s : State), bitOf (s.pn (Prm.MEM_PC_DOWN m)) pc = false ∧ s.fld (Reg.MEM_STAT m) Fld.MEM_STAT.PCS_DOWN < 63) :=
  ⟨⟨svc 0 0xF00 (w 4 2 ++ z 4), (lowestRun (applyAll [serve (svc 0 0xF00 (w 4 2 ++ z 4)), .prm (Prm.MEM_DEV_BASE_LO) (w32 0), .prm (Prm.MEM_DEV_BASE_HI) (w32 1)] State.reset : State) (2 * 2 ^ 20)).getD 0, applyAll [serve (svc 0 0xF00 (w 4 2 ++ z 4)), .prm (Prm.MEM_DEV_BASE_LO) (w32 0), .prm (Prm.MEM_DEV_BASE_HI) (w32 1)] State.reset, by decide +kernel⟩,
   ⟨svc 0 0xF00 (w 4 1 ++ z 4), applyAll [serve (svc 0 0xF00 (w 4 1 ++ z 4))] State.reset, by decide +kernel⟩,
   ⟨0, 9, 5, mk 21 [(1, w 8 128), (9, w 8 64), (17, w 4 9)], applyAll [.obj K_MEMP 5 (some (mk 21 [(1, w 8 128), (9, w 8 64), (17, w 4 9)]))] State.reset, by decide +kernel⟩,
   ⟨svc 0 0xF01 (z 8), mk 17 [(9, w 8 4096)], applyAll [serve (svc 0 0xF01 (z 8)), .obj K_MEM 0 (some (mk 17 [(9, w 8 4096)]))] State.reset, by decide +kernel⟩,
   ⟨svc 0 0xF02 ([1, 0, 0, 0] ++ w 4 7), applyAll [serve (svc 0 0xF02 ([1, 0, 0, 0] ++ w 4 7))] State.reset, by decide +kernel⟩,
   ⟨svc 0 0xF03 (z 0), applyAll [serve (svc 0 0xF03 (z 0))] State.reset, by decide +kernel⟩,
   ⟨0, none, 0, 0, [1, 2, 3], true, 0, applyAll [] State.reset, by decide +kernel⟩,
   ⟨0, none, 0, 8, 0, true, 0, applyAll [.fld Reg.THM_STAT Fld.THM_STAT.TRIP 0] State.reset, by decide +kernel⟩,
   ⟨0, (1 : Fn), 0, 0, [1, 2], true, 0, 0, applyAll [] State.reset, by decide +kernel⟩,
   ⟨0, 0, 8, 0, true, 0, applyAll [] State.reset, by decide +kernel⟩,
   ⟨0, 0, applyAll [] State.reset, by decide +kernel⟩,
   ⟨0, 0, applyAll [] State.reset, by decide +kernel⟩,
   ⟨0, applyAll [.prm (Prm.MEM_CE_THRESH) (w32 1), effMem fun m => { m with window := m.window.put 0 2 }] State.reset, by decide +kernel⟩,
   ⟨0, 0, applyAll [.prm (Prm.MEM_PC_DOWN 0) (w32 0), .fld (Reg.MEM_STAT 0) Fld.MEM_STAT.PCS_DOWN 3] State.reset, by decide +kernel⟩⟩

/-- The hypotheses of DmaChannels can hold, in each clause. -/
theorem witness_DmaChannels :
    (∃ (f : Fn) (v : Word) (s : State), getFld v Fld.DMA_CTRL.EN = 1 ∧ getFld v Fld.DMA_CTRL.PAUSE = 0 ∧ dmaOn s f = false ∧ dmaParked s f = false) ∧
    (∃ (f : Fn) (v : Word) (s : State), getFld v Fld.DMA_CTRL.EN = 0 ∧ dmaOn s f = true ∧ dmaParked s f = false ∧ dmaPaused s f = true) ∧
    (∃ (f : Fn) (v : Word) (s : State), getFld v Fld.DMA_CTRL.EN = 0 ∧ dmaOn s f = true ∧ dmaParked s f = false ∧ dmaPaused s f = false) ∧
    (∃ (f : Fn) (v : Word) (s : State), getFld v Fld.DMA_CTRL.EN = 1 ∧ getFld v Fld.DMA_CTRL.PAUSE = 1 ∧ dmaOn s f = true) ∧
    (∃ (f : Fn) (v : Word) (s : State), getFld v Fld.DMA_CTRL.EN = 1 ∧ getFld v Fld.DMA_CTRL.PAUSE = 0 ∧ dmaOn s f = true ∧ dmaParked s f = false) ∧
    (∃ (f : Fn) (bytes : Nat) (d : DmaDesc) (s : State), dmaOn s f = true ∧ dmaPausing s f = true ∧ dmaParked s f = false ∧ dmaPaused s f = false ∧ (s.chan f).desc = some d ∧ (s.chan f).moved < bytes ∧ bytes ≤ dmaLen d.ctrl ∧ d.dst + (s.chan f).moved < 2 ^ 63) ∧
    (∃ (f : Fn) (v : Word) (s : State), getFld v Fld.DMA_DOORBELL.RING = 1 ∧ dmaOn s f = true ∧ dmaParked s f = false) ∧
    (∃ (f : Fn) (v : Word) (s : State), getFld v Fld.DMA_DOORBELL.RING = 1 ∧ dmaOn s f = true ∧ dmaParked s f = true ∧ dmaTail (w32 (fieldN (s.ringRead (dmaCur s f) 32) 0 4)) = false) ∧
    (∃ (f : Fn) (d : DmaDesc) (s : State), dmaOn s f = true ∧ dmaPausing s f = false ∧ dmaParked s f = false ∧ (s.chan f).desc = none ∧ dmaCur s f % 32 = 0 ∧ hostBarred s f (dmaCur s f) = false ∧ dmaOwned s f (dmaCur s f) 32 = true ∧ firstPoison s (dmaCur s f) 32 = none ∧ d = ⟨w32 (fieldN (s.ringRead (dmaCur s f) 32) 0 4), fieldN (s.ringRead (dmaCur s f) 32) 4 8, fieldN (s.ringRead (dmaCur s f) 32) 12 8, fieldN (s.ringRead (dmaCur s f) 32) 20 8⟩ ∧ d.ctrl.getLsbD 31 = true ∧ bitsOf d.ctrl.toNat 28 24 = 0 ∧ d.next % 32 = 0 ∧ dmaOwned s f d.src (dmaLen d.ctrl) = true ∧ dmaOwned s f d.dst (dmaLen d.ctrl) = true ∧ hostBarred s f d.src = false ∧ hostBarred s f d.dst = false) ∧
    (∃ (f : Fn) (fail : Fin 3) (s : State), dmaOn s f = true ∧ dmaPausing s f = false ∧ dmaParked s f = false ∧ (s.chan f).desc = none ∧ dmaCur s f % 32 ≠ 0) ∧
    (∃ (f : Fn) (fail : Fin 3) (s : State), dmaOn s f = true ∧ dmaPausing s f = false ∧ dmaParked s f = false ∧ (s.chan f).desc = none ∧ dmaCur s f % 32 = 0 ∧ dmaOwned s f (dmaCur s f) 32 = false) ∧
    (∃ (f : Fn) (bytes : Nat) (d : DmaDesc) (s : State), dmaOn s f = true ∧ dmaParked s f = false ∧ dmaPaused s f = false ∧ (s.chan f).desc = some d ∧ firstPoison s d.src (dmaLen d.ctrl) = none ∧ dmaTail d.ctrl = false ∧ d.next < 2 ^ 64 ∧ dmaCur s f + 32 ≤ 2 ^ 63) ∧
    (∃ (f : Fn) (s : State), dmaOn s f = true) :=
  ⟨⟨0, setFld 0 Fld.DMA_CTRL.EN 1, applyAll [.reg (Reg.DMA_CTRL 0) 0, .reg (Reg.DMA_STAT 0) 0] State.reset, by decide +kernel⟩,
   ⟨0, 0#32, applyAll [.reg (Reg.DMA_CTRL 0) 0, .reg (Reg.DMA_STAT 0) 0, .fld (Reg.DMA_CTRL 0) Fld.DMA_CTRL.EN 1, .fld (Reg.DMA_STAT 0) Fld.DMA_STAT.PAUSED 1] State.reset, by decide +kernel⟩,
   ⟨0, 0#32, applyAll [.reg (Reg.DMA_CTRL 0) 0, .reg (Reg.DMA_STAT 0) 0, .fld (Reg.DMA_CTRL 0) Fld.DMA_CTRL.EN 1] State.reset, by decide +kernel⟩,
   ⟨0, setFld (setFld 0 Fld.DMA_CTRL.EN 1) Fld.DMA_CTRL.PAUSE 1, applyAll [.reg (Reg.DMA_CTRL 0) 0, .reg (Reg.DMA_STAT 0) 0, .fld (Reg.DMA_CTRL 0) Fld.DMA_CTRL.EN 1] State.reset, by decide +kernel⟩,
   ⟨0, setFld 0 Fld.DMA_CTRL.EN 1, applyAll [.reg (Reg.DMA_CTRL 0) 0, .reg (Reg.DMA_STAT 0) 0, .fld (Reg.DMA_CTRL 0) Fld.DMA_CTRL.EN 1, .fld (Reg.DMA_CTRL 0) Fld.DMA_CTRL.PAUSE 1, .fld (Reg.DMA_STAT 0) Fld.DMA_STAT.PAUSED 1] State.reset, by decide +kernel⟩,
   ⟨0, 8, ⟨w32 (2 ^ 31 + 16), 8192, 16384, 64⟩, applyAll [.reg (Reg.DMA_CTRL 0) 0, .reg (Reg.DMA_STAT 0) 0, .fld (Reg.DMA_CTRL 0) Fld.DMA_CTRL.EN 1, .fld (Reg.DMA_CTRL 0) Fld.DMA_CTRL.PAUSE 1, effChan 0 fun c => { c with desc := some ⟨w32 (2 ^ 31 + 16), 8192, 16384, 64⟩ }] State.reset, by decide +kernel⟩,
   ⟨0, setFld 0 Fld.DMA_DOORBELL.RING 1, applyAll [.reg (Reg.DMA_CTRL 0) 0, .reg (Reg.DMA_STAT 0) 0, .fld (Reg.DMA_CTRL 0) Fld.DMA_CTRL.EN 1] State.reset, by decide +kernel⟩,
   ⟨0, setFld 0 Fld.DMA_DOORBELL.RING 1, applyAll [.reg (Reg.DMA_CTRL 0) 0, .reg (Reg.DMA_STAT 0) 0, .fld (Reg.DMA_CTRL 0) Fld.DMA_CTRL.EN 1, .fld (Reg.DMA_STAT 0) Fld.DMA_STAT.PARKED 1, .reg (Reg.DMA_CUR_LO 0) (w32 64), .reg (Reg.DMA_CUR_HI 0) 0, .dev 64 (z 20 ++ w 8 96)] State.reset, by decide +kernel⟩,
   ⟨0, ⟨w32 (2 ^ 31 + 16), 8192, 16384, 64⟩, applyAll [.reg (Reg.DMA_CTRL 0) 0, .reg (Reg.DMA_STAT 0) 0, .fld (Reg.DMA_CTRL 0) Fld.DMA_CTRL.EN 1, .reg (Reg.DMA_CUR_LO 0) (w32 4096), .reg (Reg.DMA_CUR_HI 0) 0, .obj K_MEM 0 (some (mk 17 [(9, w 8 4194304)])), .dev 4096 (w 4 (2 ^ 31 + 16) ++ w 8 8192 ++ w 8 16384 ++ w 8 64)] State.reset, by decide +kernel⟩,
   ⟨0, 0, applyAll [.reg (Reg.DMA_CTRL 0) 0, .reg (Reg.DMA_STAT 0) 0, .fld (Reg.DMA_CTRL 0) Fld.DMA_CTRL.EN 1, .reg (Reg.DMA_CUR_LO 0) (w32 5), .reg (Reg.DMA_CUR_HI 0) 0] State.reset, by decide +kernel⟩,
   ⟨0, 0, applyAll [.reg (Reg.DMA_CTRL 0) 0, .reg (Reg.DMA_STAT 0) 0, .fld (Reg.DMA_CTRL 0) Fld.DMA_CTRL.EN 1, .reg (Reg.DMA_CUR_LO 0) (w32 4096), .reg (Reg.DMA_CUR_HI 0) 0] State.reset, by decide +kernel⟩,
   ⟨0, 0, ⟨w32 (2 ^ 31 + 16), 8192, 16384, 64⟩, applyAll [.reg (Reg.DMA_CTRL 0) 0, .reg (Reg.DMA_STAT 0) 0, .fld (Reg.DMA_CTRL 0) Fld.DMA_CTRL.EN 1, .reg (Reg.DMA_CUR_LO 0) (w32 4096), .reg (Reg.DMA_CUR_HI 0) 0, effChan 0 fun c => { c with desc := some ⟨w32 (2 ^ 31 + 16), 8192, 16384, 64⟩ }] State.reset, by decide +kernel⟩,
   ⟨0, applyAll [.reg (Reg.DMA_CTRL 0) 0, .reg (Reg.DMA_STAT 0) 0, .fld (Reg.DMA_CTRL 0) Fld.DMA_CTRL.EN 1] State.reset, by decide +kernel⟩⟩

/-- The hypotheses of SecurityCommands can hold, in each clause. -/
theorem witness_SecurityCommands :
    (∃ (k : Svc) (s : State), Served s 0x1100 k ∧ k.cmd.len = 0 ∧ firstBad (gates k s) = none) ∧
    (∃ (k : Svc) (s : State), Served s 0x1101 k ∧ k.cmd.len = 0 ∧ firstBad (gates k s) = none) ∧
    (∃ (k : Svc) (s : State), Served s 0x1102 k ∧ k.cmd.len = 100 ∧ firstBad (gates k s) = none ∧ lockedOut s k.f = false ∧ (k.n 0 1 = 1 ∨ k.n 0 1 = 2) ∧ zeroAt k.cmd.payload 1 3 = true) ∧
    (∃ (k : Svc) (s : State), Served s 0x1102 k ∧ k.cmd.len = 100 ∧ firstBad (gates k s) = none ∧ lockedOut s k.f = true) ∧
    (∃ (k : Svc) (s : State), Served s 0x1103 k ∧ k.cmd.len = 0 ∧ firstBad (gates k s) = none) ∧
    (∃ (k : Svc) (s : State), Served s 0x1104 k ∧ k.cmd.len = 0 ∧ firstBad (gates k s) = none ∧ TicketFree s k) ∧
    (∃ (k : Svc) (s : State), Served s 0x1105 k ∧ k.f = 0 ∧ k.cmd.len = 4 ∧ firstBad (gates k s) = none ∧ k.n 0 4 = 0x5A45524F) ∧
    (∃ (k : Svc) (s : State), Served s 0x1106 k ∧ k.f = 0 ∧ k.cmd.len = 96 ∧ firstBad (gates k s) = none ∧ s.otp.coKey = none) ∧
    (∃ (k : Svc) (s : State), Served s 0x1107 k ∧ k.f = 0 ∧ k.cmd.len = 100 ∧ firstBad (gates k s) = none ∧ roleOf (sessionKept k s) 0 = 1 ∧ k.n 0 1 < 64 ∧ k.n 1 1 = 1 ∧ zeroAt k.cmd.payload 2 2 = true) ∧
    (∃ (k : Svc) (key : Nat) (s : State), Served s 0x1108 k ∧ k.cmd.len = 0 ∧ firstBad (gates k s) = none ∧ roleOf (sessionKept k s) k.f ≠ 0 ∧ s.nvs.idKey = some key) ∧
    (∃ (k : Svc) (x : Kex) (slot : Nat) (s : State), Served s 0x1109 k ∧ k.f = 0 ∧ k.cmd.len = 72 ∧ firstBad (gates k s) = none ∧ k.holds s R_STREAM = true ∧ roleOf (sessionKept k s) 0 ≠ 0 ∧ s.boot.debug = false ∧ k.n 4 1 = 1 ∧ zeroAt k.cmd.payload 5 3 = true ∧ s.sec.kex.find 0 = some x ∧ x.id = k.n 0 4 ∧ freeSlot (sessionKept k s) = some slot) ∧
    (∃ (k : Svc) (s : State), Served s 0x110A k ∧ k.cmd.len = 4 ∧ firstBad (gates k s) = none ∧ roleOf (sessionKept k s) k.f ≠ 0 ∧ keyHeld s k.f (k.n 0 4) = true ∧ (s.str.ctxs.entries.any fun e => e.2.key == k.n 0 4 || e.2.nextKey == k.n 0 4) = false) ∧
    (∃ (k : Svc) (c : StrCtx) (s : State), Served s 0x110B k ∧ k.cmd.len = 8 ∧ firstBad (gates k s) = none ∧ roleOf (sessionKept k s) k.f ≠ 0 ∧ k.n 0 2 < 4096 ∧ zeroAt k.cmd.payload 2 2 = true ∧ s.ctx (k.n 0 2) = some c ∧ c.owner = k.f ∧ keyHeld s k.f (k.n 4 4) = true ∧ dSealed c.desc = true) ∧
    (∃ (k : Svc) (s : State), Served s 0x110C k ∧ k.cmd.len = 48 ∧ firstBad (gates k s) = none) ∧
    (∃ (k : Svc) (s : State), Served s 0x110D k ∧ k.cmd.len = 4 ∧ firstBad (gates k s) = none ∧ k.n 0 4 ≠ 0xFFFFFFFF) ∧
    (∃ (k : Svc) (s : State), Served s 0x110D k ∧ 4 < k.cmd.len ∧ firstBad (gates k s) = none ∧ k.n 0 4 = 0xFFFFFFFF) ∧
    (∃ (k : Svc) (s : State), Served s 0x110E k ∧ k.f = 0 ∧ k.cmd.len = 32 ∧ firstBad (gates k s) = none ∧ roleOf (sessionKept k s) 0 = 1 ∧ s.otp.epoch < 16) ∧
    (∃ (k : Svc) (s : State), Served s 0x1110 k ∧ k.f = 0 ∧ k.cmd.len = 16 ∧ firstBad (gates k s) = none ∧ roleOf (sessionKept k s) 0 = 1 ∧ zeroAt k.cmd.payload 0 4 = true ∧ rangeOk s 0 (k.n 8 8) (k.n 4 4) = true ∧ TicketFree s k) ∧
    (∃ (k : Svc) (s : State), Served s 0x1111 k ∧ k.f = 0 ∧ k.cmd.len = 0 ∧ firstBad (gates k s) = none ∧ roleOf (sessionKept k s) 0 = 1 ∧ (running s).arb ≤ s.otp.arb) ∧
    (∃ (k : Svc) (s : State), Served s 0x1112 k ∧ k.f = 0 ∧ k.cmd.len = 4 ∧ firstBad (gates k s) = none ∧ k.n 0 1 < 64 ∧ 1 ≤ k.n 1 1 ∧ k.n 1 1 ≤ 15 ∧ zeroAt k.cmd.payload 2 2 = true ∧ popUnread s (k.n 0 1) = []) ∧
    (∃ (k : Svc) (s : State), Served s 0x1113 k ∧ k.f = 0 ∧ k.cmd.len = 4 ∧ firstBad (gates k s) = none ∧ roleOf (sessionKept k s) 0 = 1 ∧ k.n 0 1 = 1 ∧ zeroAt k.cmd.payload 1 3 = true) :=
  ⟨⟨svc 0 0x1100 (z 0), applyAll [serve (svc 0 0x1100 (z 0)), .fld (Reg.SEC_STATE) Fld.SEC_STATE.ERROR 0, .fld (Reg.SEC_STATE) Fld.SEC_STATE.ZEROISED 0, .otp fun o => { o with coKey := some (z 96) }] State.reset, by decide +kernel⟩,
   ⟨svc 0 0x1101 (z 0), applyAll [serve (svc 0 0x1101 (z 0)), .fld (Reg.SEC_STATE) Fld.SEC_STATE.ERROR 0, .fld (Reg.SEC_STATE) Fld.SEC_STATE.ZEROISED 0, .otp fun o => { o with coKey := some (z 96) }] State.reset, by decide +kernel⟩,
   ⟨svc 0 0x1102 (mk 100 [(0, [1])]), applyAll [serve (svc 0 0x1102 (mk 100 [(0, [1])])), .fld (Reg.SEC_STATE) Fld.SEC_STATE.ERROR 0, .fld (Reg.SEC_STATE) Fld.SEC_STATE.ZEROISED 0, .otp fun o => { o with coKey := some (z 96) }] State.reset, by decide +kernel⟩,
   ⟨svc 0 0x1102 (z 100), applyAll [serve (svc 0 0x1102 (z 100)), .fld (Reg.SEC_STATE) Fld.SEC_STATE.ERROR 0, .fld (Reg.SEC_STATE) Fld.SEC_STATE.ZEROISED 0, .otp fun o => { o with coKey := some (z 96) }, .sec fun x => { x with locked := x.locked.put 0 (10 ^ 20) }] State.reset, by decide +kernel⟩,
   ⟨svc 0 0x1103 (z 0), applyAll [serve (svc 0 0x1103 (z 0)), .fld (Reg.SEC_STATE) Fld.SEC_STATE.ERROR 0, .fld (Reg.SEC_STATE) Fld.SEC_STATE.ZEROISED 0, .otp fun o => { o with coKey := some (z 96) }] State.reset, by decide +kernel⟩,
   ⟨svc 0 0x1104 (z 0), applyAll [serve (svc 0 0x1104 (z 0)), .fld (Reg.SEC_STATE) Fld.SEC_STATE.ERROR 0, .fld (Reg.SEC_STATE) Fld.SEC_STATE.ZEROISED 0, .otp fun o => { o with coKey := some (z 96) }] State.reset, by decide +kernel⟩,
   ⟨svc 0 0x1105 (w 4 0x5A45524F), applyAll [serve (svc 0 0x1105 (w 4 0x5A45524F)), .fld (Reg.SEC_STATE) Fld.SEC_STATE.ERROR 0, .fld (Reg.SEC_STATE) Fld.SEC_STATE.ZEROISED 0, .otp fun o => { o with coKey := some (z 96) }] State.reset, by decide +kernel⟩,
   ⟨svc 0 0x1106 (z 96), applyAll [serve (svc 0 0x1106 (z 96)), .fld (Reg.SEC_STATE) Fld.SEC_STATE.ERROR 0, .fld (Reg.SEC_STATE) Fld.SEC_STATE.ZEROISED 0] State.reset, by decide +kernel⟩,
   ⟨svc 0 0x1107 (mk 100 [(1, [1])]), applyAll [serve (svc 0 0x1107 (mk 100 [(1, [1])])), .fld (Reg.SEC_STATE) Fld.SEC_STATE.ERROR 0, .fld (Reg.SEC_STATE) Fld.SEC_STATE.ZEROISED 0, .otp fun o => { o with coKey := some (z 96) }, .sec fun x => { x with sessions := x.sessions.put 0 ⟨1, 0⟩ }] State.reset, by decide +kernel⟩,
   ⟨svc 0 0x1108 (z 0), 0, applyAll [serve (svc 0 0x1108 (z 0)), .fld (Reg.SEC_STATE) Fld.SEC_STATE.ERROR 0, .fld (Reg.SEC_STATE) Fld.SEC_STATE.ZEROISED 0, .otp fun o => { o with coKey := some (z 96) }, .sec fun x => { x with sessions := x.sessions.put 0 ⟨1, 0⟩ }] State.reset, by decide +kernel⟩,
   ⟨svc 0 0x1109 (mk 72 [(0, w 4 5), (4, [1])]), ⟨5, 0⟩, 0, applyAll [serve (svc 0 0x1109 (mk 72 [(0, w 4 5), (4, [1])])), .fld (Reg.SEC_STATE) Fld.SEC_STATE.ERROR 0, .fld (Reg.SEC_STATE) Fld.SEC_STATE.ZEROISED 0, .otp fun o => { o with coKey := some (z 96) }, .sec fun x => { x with sessions := x.sessions.put 0 ⟨1, 0⟩ }, .sec fun x => { x with kex := x.kex.put 0 ⟨5, 0⟩ }] State.reset, by decide +kernel⟩,
   ⟨svc 0 0x110A (w 4 3), applyAll [serve (svc 0 0x110A (w 4 3)), .fld (Reg.SEC_STATE) Fld.SEC_STATE.ERROR 0, .fld (Reg.SEC_STATE) Fld.SEC_STATE.ZEROISED 0, .otp fun o => { o with coKey := some (z 96) }, .sec fun x => { x with sessions := x.sessions.put 0 ⟨1, 0⟩ }, .sec fun x => { x with keys := x.keys.put 0 ⟨0, z 32, z 4⟩ }] State.reset, by decide +kernel⟩,
   ⟨svc 0 0x110B (z 4 ++ w 4 3), { newCtx State.reset 0 (mk 96 [(3, [1])]) with rtpSeq := 0 }, applyAll [serve (svc 0 0x110B (z 4 ++ w 4 3)), .fld (Reg.SEC_STATE) Fld.SEC_STATE.ERROR 0, .fld (Reg.SEC_STATE) Fld.SEC_STATE.ZEROISED 0, .otp fun o => { o with coKey := some (z 96) }, .sec fun x => { x with sessions := x.sessions.put 0 ⟨1, 0⟩ }, .sec fun x => { x with keys := x.keys.put 0 ⟨0, z 32, z 4⟩ }, effStr fun t => { t with ctxs := t.ctxs.put 0 ({ newCtx State.reset 0 (mk 96 [(3, [1])]) with rtpSeq := 0 }) }] State.reset, by decide +kernel⟩,
   ⟨svc 0 0x110C (z 48), applyAll [serve (svc 0 0x110C (z 48)), .fld (Reg.SEC_STATE) Fld.SEC_STATE.ERROR 0, .fld (Reg.SEC_STATE) Fld.SEC_STATE.ZEROISED 0, .otp fun o => { o with coKey := some (z 96) }] State.reset, by decide +kernel⟩,
   ⟨svc 0 0x110D (z 4), applyAll [serve (svc 0 0x110D (z 4)), .fld (Reg.SEC_STATE) Fld.SEC_STATE.ERROR 0, .fld (Reg.SEC_STATE) Fld.SEC_STATE.ZEROISED 0, .otp fun o => { o with coKey := some (z 96) }] State.reset, by decide +kernel⟩,
   ⟨svc 0 0x110D (w 4 0xFFFFFFFF ++ [1, 2, 3]), applyAll [serve (svc 0 0x110D (w 4 0xFFFFFFFF ++ [1, 2, 3])), .fld (Reg.SEC_STATE) Fld.SEC_STATE.ERROR 0, .fld (Reg.SEC_STATE) Fld.SEC_STATE.ZEROISED 0, .otp fun o => { o with coKey := some (z 96) }] State.reset, by decide +kernel⟩,
   ⟨svc 0 0x110E (z 32), applyAll [serve (svc 0 0x110E (z 32)), .fld (Reg.SEC_STATE) Fld.SEC_STATE.ERROR 0, .fld (Reg.SEC_STATE) Fld.SEC_STATE.ZEROISED 0, .otp fun o => { o with coKey := some (z 96) }, .sec fun x => { x with sessions := x.sessions.put 0 ⟨1, 0⟩ }] State.reset, by decide +kernel⟩,
   ⟨svc 0 0x1110 (mk 16 [(8, w 8 (2 ^ 63))]), applyAll [serve (svc 0 0x1110 (mk 16 [(8, w 8 (2 ^ 63))])), .fld (Reg.SEC_STATE) Fld.SEC_STATE.ERROR 0, .fld (Reg.SEC_STATE) Fld.SEC_STATE.ZEROISED 0, .otp fun o => { o with coKey := some (z 96) }, .sec fun x => { x with sessions := x.sessions.put 0 ⟨1, 0⟩ }] State.reset, by decide +kernel⟩,
   ⟨svc 0 0x1111 (z 0), applyAll [serve (svc 0 0x1111 (z 0)), .fld (Reg.SEC_STATE) Fld.SEC_STATE.ERROR 0, .fld (Reg.SEC_STATE) Fld.SEC_STATE.ZEROISED 0, .otp fun o => { o with coKey := some (z 96) }, .sec fun x => { x with sessions := x.sessions.put 0 ⟨1, 0⟩ }] State.reset, by decide +kernel⟩,
   ⟨svc 0 0x1112 ([0, 1, 0, 0]), applyAll [serve (svc 0 0x1112 ([0, 1, 0, 0])), .fld (Reg.SEC_STATE) Fld.SEC_STATE.ERROR 0, .fld (Reg.SEC_STATE) Fld.SEC_STATE.ZEROISED 0, .otp fun o => { o with coKey := some (z 96) }] State.reset, by decide +kernel⟩,
   ⟨svc 0 0x1113 ([1, 0, 0, 0]), applyAll [serve (svc 0 0x1113 ([1, 0, 0, 0])), .fld (Reg.SEC_STATE) Fld.SEC_STATE.ERROR 0, .fld (Reg.SEC_STATE) Fld.SEC_STATE.ZEROISED 0, .otp fun o => { o with coKey := some (z 96) }, .sec fun x => { x with sessions := x.sessions.put 0 ⟨1, 0⟩ }] State.reset, by decide +kernel⟩⟩

/-- The hypotheses of SecurityRows can hold, in each clause. -/
theorem witness_SecurityRows :
    (∃ (v : Word) (s : State), v ≠ 0x5A45524F) ∧
    (∃ (cause : Fin 4) (s : State), fwTickets s = []) ∧
    (∃ (f : Fn) (x : SecSession) (s : State), s.sec.sessions.find f = some x) ∧
    (∃ (n : Nat) (s : State), 0 < n ∧ n < 65536) ∧
    (∃ (l : Fin 64) (s : State), popLen s l = 0) ∧
    (∃ (l : Fin 64) (b : Bytes) (s : State), popLen s l ≠ 0 ∧ s.sec.pop.find l = none ∧ s.obj K_LAYER l = some b ∧ popEn s l = true) ∧
    (∃ (l : Fin 64) (b : Bytes) (p : Pop) (key : Nat) (s : State), popLen s l ≠ 0 ∧ s.sec.pop.find l = some p ∧ s.obj K_LAYER l = some b ∧ canSign s = some key ∧ (popUnread s l).length < 256) :=
  ⟨⟨5#32, applyAll [] State.reset, by decide +kernel⟩,
   ⟨0, applyAll [] State.reset, by decide +kernel⟩,
   ⟨0, ⟨1, 0⟩, applyAll [.sec fun x => { x with sessions := x.sessions.put 0 ⟨1, 0⟩ }] State.reset, by decide +kernel⟩,
   ⟨5, applyAll [] State.reset, by decide +kernel⟩,
   ⟨0, applyAll [.prm (Prm.POP_CFG 0) (w32 0)] State.reset, by decide +kernel⟩,
   ⟨0, mk 65 [(1, [3])], applyAll [.obj K_LAYER 0 (some (mk 65 [(1, [3])])), .prm (Prm.POP_CFG 0) (w32 0x80000001)] State.reset, by decide +kernel⟩,
   ⟨0, mk 65 [(1, [3])], ⟨0, 0, 0, 0, 0, [], [], false⟩, 0, applyAll [.obj K_LAYER 0 (some (mk 65 [(1, [3])])), .prm (Prm.POP_CFG 0) (w32 0x80000001), .fld (Reg.SEC_STATE) Fld.SEC_STATE.ERROR 0, .fld (Reg.SEC_STATE) Fld.SEC_STATE.ZEROISED 0, .sec fun x => { x with pop := x.pop.put 0 ⟨0, 0, 0, 0, 0, [], [], false⟩ }] State.reset, by decide +kernel⟩⟩

/-- The hypotheses of LaneRows can hold, in each clause. -/
theorem witness_LaneRows :
    (∃ (n : Fin 160) (v : Word) (s : State), 32 ≤ n.val ∧ laneUser s n = none) ∧
    (∃ (n : Fin 160) (v : Word) (s : State), 32 ≤ n.val ∧ (laneUser s n).isSome ∧ v &&& regMask (Reg.LAN_CTRL n) ≠ 0) ∧
    (∃ (k : Svc) (s : State), Served s 0x1200 k ∧ k.f = 0 ∧ k.cmd.len = 4 ∧ 32 ≤ k.n 0 1 ∧ k.n 0 1 < 160 ∧ 20 ≤ k.n 1 1 ∧ k.n 1 1 ≤ 36 ∧ zeroAt k.cmd.payload 2 2 = true ∧ s.flag (Reg.LAN_STAT (k.n 0 1)) Fld.LAN_STAT.CDR_LOCK = true ∧ TicketFree s k) ∧
    (∃ (n : Fin 160) (s : State), laneUser s n = none) ∧
    (∃ (n : Fin 160) (u : LaneUser) (s : State), laneUser s n = some u ∧ u.owner = 5 ∧ u.index < 4) ∧
    (∃ (n : Fin 160) (inverted : Bool) (s : State), s.fld (Reg.LAN_CTRL n) Fld.LAN_CTRL.PRBS_CHK ≠ 0) ∧
    (∃ (n : Fin 160) (inverted : Bool) (s : State), s.fld (Reg.LAN_CTRL n) Fld.LAN_CTRL.PRBS_CHK = 0) ∧
    (∃ (n : Fin 160) (bits : Nat) (errs : Nat) (s : State), s.flag (Reg.LAN_STAT n) Fld.LAN_STAT.PRBS_LOCK = true) :=
  ⟨⟨(64 : Fin 160), 5#32, applyAll [.prm (Prm.SAL_PORT_CFG 0) (w32 0), .prm (Prm.SAL_PORT_CFG 1) (w32 0), .prm (Prm.SAL_PORT_CFG 2) (w32 0), .prm (Prm.SAL_PORT_CFG 3) (w32 0), .prm (Prm.ETH_PORT_CFG 0) (w32 0), .prm (Prm.ETH_PORT_CFG 1) (w32 0), .prm (Prm.ETH_PORT_CFG 2) (w32 0), .prm (Prm.ETH_PORT_CFG 3) (w32 0)] State.reset, by decide +kernel⟩,
   ⟨(32 : Fin 160), 0xFFFFFFFF#32, applyAll [.prm (Prm.XPL_CFG 0) (w32 0x80000008)] State.reset, by decide +kernel⟩,
   ⟨svc 0 0x1200 ([64, 20, 0, 0]), applyAll [serve (svc 0 0x1200 ([64, 20, 0, 0])), .fld (Reg.LAN_STAT 64) Fld.LAN_STAT.CDR_LOCK 1] State.reset, by decide +kernel⟩,
   ⟨(64 : Fin 160), applyAll [.prm (Prm.SAL_PORT_CFG 0) (w32 0), .prm (Prm.SAL_PORT_CFG 1) (w32 0), .prm (Prm.SAL_PORT_CFG 2) (w32 0), .prm (Prm.SAL_PORT_CFG 3) (w32 0), .prm (Prm.ETH_PORT_CFG 0) (w32 0), .prm (Prm.ETH_PORT_CFG 1) (w32 0), .prm (Prm.ETH_PORT_CFG 2) (w32 0), .prm (Prm.ETH_PORT_CFG 3) (w32 0)] State.reset, by decide +kernel⟩,
   ⟨(64 : Fin 160), (laneUser (applyAll [.prm (Prm.SAL_PORT_CFG 0) (w32 0), .prm (Prm.SAL_PORT_CFG 1) (w32 0), .prm (Prm.SAL_PORT_CFG 2) (w32 0), .prm (Prm.SAL_PORT_CFG 3) (w32 0), .prm (Prm.ETH_PORT_CFG 0) (w32 0), .prm (Prm.ETH_PORT_CFG 1) (w32 0), .prm (Prm.ETH_PORT_CFG 2) (w32 0), .prm (Prm.ETH_PORT_CFG 3) (w32 0), .prm (Prm.SAL_PORT_CFG 0) (w32 0x80000108)] State.reset : State) ((64 : Fin 160) : Fin 160)).getD ⟨0, 0, 0, 0, 0⟩, applyAll [.prm (Prm.SAL_PORT_CFG 0) (w32 0), .prm (Prm.SAL_PORT_CFG 1) (w32 0), .prm (Prm.SAL_PORT_CFG 2) (w32 0), .prm (Prm.SAL_PORT_CFG 3) (w32 0), .prm (Prm.ETH_PORT_CFG 0) (w32 0), .prm (Prm.ETH_PORT_CFG 1) (w32 0), .prm (Prm.ETH_PORT_CFG 2) (w32 0), .prm (Prm.ETH_PORT_CFG 3) (w32 0), .prm (Prm.SAL_PORT_CFG 0) (w32 0x80000108)] State.reset, by decide +kernel⟩,
   ⟨(64 : Fin 160), true, applyAll [.fld (Reg.LAN_CTRL 64) Fld.LAN_CTRL.PRBS_CHK 1] State.reset, by decide +kernel⟩,
   ⟨(64 : Fin 160), true, applyAll [.fld (Reg.LAN_CTRL 64) Fld.LAN_CTRL.PRBS_CHK 0] State.reset, by decide +kernel⟩,
   ⟨(64 : Fin 160), 5, 1, applyAll [.fld (Reg.LAN_STAT 64) Fld.LAN_STAT.PRBS_LOCK 1] State.reset, by decide +kernel⟩⟩

/-- The hypotheses of PackageLinks can hold, in each clause. -/
theorem witness_PackageLinks :
    (∃ (x : Fin 4) (seq : Nat) (ack : Nat) (lane : Option (Fin 8)) (cls : Nat) (dst : Nat) (src : Nat) (payload : Bytes) (s : State), xplUp s x = true ∧ tripped s = false ∧ lane = none) ∧
    (∃ (x : Fin 4) (seq : Nat) (ack : Nat) (dst : Nat) (src : Nat) (payload : Bytes) (s : State), xplUp s x = true ∧ seq = (s.xpl x).rxSeq ∧ seq < 65536 ∧ dst = ownPkg s) ∧
    (∃ (x : Fin 4) (seq : Nat) (ack : Nat) (cls : Nat) (dst : Nat) (src : Nat) (payload : Bytes) (s : State), xplUp s x = true ∧ seq = (s.xpl x).rxSeq ∧ seq < 65536 ∧ dst ≠ ownPkg s ∧ dst < 16 ∧ cls ≠ 1 ∧ s.flag (Reg.XPL_ROUTE dst) Fld.XPL_ROUTE.VALID = false) ∧
    (∃ (x : Fin 4) (v : Word) (s : State), getFld v Fld.XPL_LINK_CTRL.RETRAIN = 1 ∧ xplEn s x = true ∧ (s.xpl x).request = none ∧ s.flag (Reg.XPL_LINK_STAT x) Fld.XPL_LINK_STAT.DUP_ID = false) ∧
    (∃ (x : Fin 4) (s : State), xplEn s x = true ∧ (s.xpl x).request = none ∧ s.flag (Reg.XPL_LINK_STAT x) Fld.XPL_LINK_STAT.DUP_ID = false) ∧
    (∃ (x : Fin 4) (width : Nat) (full : Bool) (s : State), xplEn s x = true ∧ (s.xpl x).request = none) ∧
    (∃ (x : Fin 4) (width : Nat) (w : Nat) (full : Bool) (s : State), xplEn s x = true ∧ (s.xpl x).request = some w) ∧
    (∃ (x : Fin 4) (s : State), (s.xpl x).retry = true ∧ xplEn s x = true ∧ (s.xpl x).request = none ∧ s.flag (Reg.XPL_LINK_STAT x) Fld.XPL_LINK_STAT.DUP_ID = false) ∧
    (∃ (x : Fin 4) (peer : Nat) (good : BitVec 8) (s : State), retraining s x = true ∧ (s.xpl x).request = none ∧ (s.xpl x).full = true ∧ widthUpTo (min (proposal s x good.toNat) (s.xpl x).agreed) ≠ 0) ∧
    (∃ (x : Fin 4) (peer : Nat) (good : BitVec 8) (s : State), retraining s x = true ∧ (s.xpl x).fails < 2) ∧
    (∃ (x : Fin 4) (peer : Nat) (good : BitVec 8) (s : State), retraining s x = true ∧ 2 ≤ (s.xpl x).fails) ∧
    (∃ (x : Fin 4) (s : State), (s.xpl x).uncorr = .empty) ∧
    (∃ (x : Fin 4) (lane : Fin 8) (s : State), bitOf (xplGood s x) lane = false) ∧
    (∃ (x : Fin 4) (peer : Fin 16) (link : Fin 4) (edges : List (Nat × Nat × Nat × Nat)) (s : State), xplEn s x = true ∧ peer.val ≠ ownPkg s ∧ xplWidth s x ≠ 0) ∧
    (∃ (x : Fin 4) (peer : Fin 16) (link : Fin 4) (edges : List (Nat × Nat × Nat × Nat)) (s : State), xplEn s x = true ∧ peer.val = ownPkg s) ∧
    (∃ (d : Fin 16) (s : State), routeTo s d = none) :=
  ⟨⟨0, 0, 0, none, 0, 0, 0, [], applyAll [.fld (Reg.XPL_LINK_STAT 0) Fld.XPL_LINK_STAT.UP 1, .fld Reg.THM_STAT Fld.THM_STAT.TRIP 0] State.reset, by decide +kernel⟩,
   ⟨0, 0, 0, 0, 0, [], applyAll [.fld (Reg.XPL_LINK_STAT 0) Fld.XPL_LINK_STAT.UP 1, .fld (Reg.HUB_TOPOLOGY) Fld.HUB_TOPOLOGY.PKG_ID 0] State.reset, by decide +kernel⟩,
   ⟨0, 0, 0, 0, 5, 0, [], applyAll [.fld (Reg.XPL_LINK_STAT 0) Fld.XPL_LINK_STAT.UP 1, .fld (Reg.HUB_TOPOLOGY) Fld.HUB_TOPOLOGY.PKG_ID 0, .fld (Reg.XPL_ROUTE 5) Fld.XPL_ROUTE.VALID 0] State.reset, by decide +kernel⟩,
   ⟨0, setFld 0 Fld.XPL_LINK_CTRL.RETRAIN 1, applyAll [.prm (Prm.XPL_CFG 0) (w32 0x80000008), .fld (Reg.XPL_LINK_STAT 0) Fld.XPL_LINK_STAT.DUP_ID 0] State.reset, by decide +kernel⟩,
   ⟨0, applyAll [.prm (Prm.XPL_CFG 0) (w32 0x80000008), .fld (Reg.XPL_LINK_STAT 0) Fld.XPL_LINK_STAT.DUP_ID 0] State.reset, by decide +kernel⟩,
   ⟨0, 4, true, applyAll [.prm (Prm.XPL_CFG 0) (w32 0x80000008)] State.reset, by decide +kernel⟩,
   ⟨0, 4, 2, true, applyAll [.prm (Prm.XPL_CFG 0) (w32 0x80000008), effXpl 0 fun x => { x with request := some 2 }] State.reset, by decide +kernel⟩,
   ⟨0, applyAll [.prm (Prm.XPL_CFG 0) (w32 0x80000008), .fld (Reg.XPL_LINK_STAT 0) Fld.XPL_LINK_STAT.DUP_ID 0, effXpl 0 fun x => { x with retry := true }] State.reset, by decide +kernel⟩,
   ⟨0, 0, 0xFF#8, applyAll [.prm (Prm.XPL_CFG 0) (w32 0x80000008), .fld (Reg.XPL_LINK_STAT 0) Fld.XPL_LINK_STAT.RETRAINING 1, effXpl 0 fun x => { x with full := true, agreed := 8 }] State.reset, by decide +kernel⟩,
   ⟨0, 0, 0, applyAll [.fld (Reg.XPL_LINK_STAT 0) Fld.XPL_LINK_STAT.RETRAINING 1] State.reset, by decide +kernel⟩,
   ⟨0, 0, 0, applyAll [.fld (Reg.XPL_LINK_STAT 0) Fld.XPL_LINK_STAT.RETRAINING 1, effXpl 0 fun x => { x with fails := 2 }] State.reset, by decide +kernel⟩,
   ⟨0, applyAll [] State.reset, by decide +kernel⟩,
   ⟨0, (3 : Fin 8), applyAll [.fld (Reg.XPL_LINK_STAT 0) Fld.XPL_LINK_STAT.GOOD_LANES 0] State.reset, by decide +kernel⟩,
   ⟨0, (1 : Fin 16), 0, [(0, 0, 1, 0)], applyAll [.prm (Prm.XPL_CFG 0) (w32 0x80000008), .fld (Reg.HUB_TOPOLOGY) Fld.HUB_TOPOLOGY.PKG_ID 0, .fld (Reg.XPL_LINK_STAT 0) Fld.XPL_LINK_STAT.WIDTH 8] State.reset, by decide +kernel⟩,
   ⟨0, 0, 0, [], applyAll [.prm (Prm.XPL_CFG 0) (w32 0x80000008), .fld (Reg.HUB_TOPOLOGY) Fld.HUB_TOPOLOGY.PKG_ID 0] State.reset, by decide +kernel⟩,
   ⟨(5 : Fin 16), applyAll [.fld (Reg.HUB_TOPOLOGY) Fld.HUB_TOPOLOGY.PKG_ID 0] State.reset, by decide +kernel⟩⟩

/-- The hypotheses of UnitFaults can hold, in each clause. -/
theorem witness_UnitFaults :
    (∃ (p : Fin 2176) (kind : Fin 4) (tiles : List Nat) (k : Nat) (s : State), slotDown s p = false ∧ spareSlot s (p / 17) = some k ∧ k < 17 ∧ k ≠ p.val % 17 ∧ (s.clusterF (p / 17)).reexec = none ∧ faultAgain s p = false) ∧
    (∃ (p : Fin 2176) (kind : Fin 4) (tiles : List Nat) (s : State), slotDown s p = false ∧ faultAgain s p = true ∧ slotFenced s p = false) ∧
    (∃ (p : Fin 2176) (kind : Fin 4) (tiles : List Nat) (s : State), slotDown s p = true) ∧
    (∃ (c : Fin 128) (r : Reexec) (k : Nat) (s : State), (s.clusterF c).reexec = some r ∧ spareSlot s c = some k ∧ k < 17 ∧ r.loaded = false) ∧
    (∃ (p : Fin 2176) (s : State), slotFenced s p = true ∧ s.unitF p = UnitF.init) ∧
    (∃ (p : Fin 2176) (s : State), slotFenced s p = true ∧ (s.unitF p).testing = true ∧ (s.unitF p).wantReturn = false) ∧
    (∃ (p : Fin 2176) (s : State), slotFenced s p = true ∧ (s.unitF p).testing = true ∧ (s.unitF p).wantReturn = false) ∧
    (∃ (c : Fin 128) (k : Nat) (r : Nat) (s : State), spareSlot s c = some k ∧ k < 17 ∧ nextRole s c = some r ∧ bitOf (s.pn Prm.FLT_CTRL) 0 = true ∧ (s.clusterF c).reexec = none ∧ (s.clusterF c).rotation = none ∧ s.boot.excluded.contains (c / 32) = false) ∧
    (∃ (c : Fin 128) (k : Nat) (r : Nat) (old : Nat) (s : State), spareSlot s c = some k ∧ k < 17 ∧ (s.clusterF c).rotation = some r ∧ r < 16 ∧ holder s c r = some old ∧ old ≠ k ∧ old < 17) ∧
    (∃ (c : Fin 128) (k : Nat) (r : Nat) (s : State), spareSlot s c = some k ∧ k < 17 ∧ (s.clusterF c).rotation = some r ∧ faultAgain s (17 * c + k) = false) ∧
    (∃ (s : State), s.flag Reg.FLT_PLINTH Fld.FLT_PLINTH.PRIMARY = false ∧ s.flag Reg.FLT_PLINTH Fld.FLT_PLINTH.P2_ALIVE = true ∧ s.flag Reg.FLT_PLINTH Fld.FLT_PLINTH.P0_ALIVE = true ∧ 2 ≤ s.flt.missed) ∧
    (∃ (s : State), s.flag Reg.FLT_PLINTH Fld.FLT_PLINTH.PRIMARY = false ∧ s.flag Reg.FLT_PLINTH Fld.FLT_PLINTH.P2_ALIVE = true ∧ s.flag Reg.FLT_PLINTH Fld.FLT_PLINTH.P0_ALIVE = true) ∧
    (∃ (line : Nat) (s : State), (s.flt.queue.contains (line, 0)) = false) ∧
    (∃ (line : Nat) (s : State), s.flt.queue = [(line, 0)] ∧ s.poison.has line = true ∧ ownerRow s line = 11 ∧ line < 2 ^ 40) ∧
    (∃ (line : Nat) (row : Nat) (s : State), s.flt.queue = [(line, row)] ∧ row = 5 ∧ repairsWait s = false) ∧
    (∃ (idx : Fin 4096) (on : Bool) (c : StrCtx) (s : State), s.flt.quarantine.find idx = some on ∧ s.ctx idx = some c ∧ repairsWait s = false) ∧
    (∃ (v : Word) (tiles : List Nat) (s : State), s.flag Reg.HUB_LOCK Fld.HUB_LOCK.LOCK = true) ∧
    (∃ (v : Word) (tiles : List Nat) (s : State), s.flag Reg.HUB_LOCK Fld.HUB_LOCK.LOCK = false ∧ getFld v Fld.FLT_INJECT.GO = 1 ∧ getFld v Fld.FLT_INJECT.KIND = 4 ∧ pairEn s = true) ∧
    (∃ (k : Svc) (s : State), Served s 0x1300 k ∧ k.f = 0 ∧ k.cmd.len = 4 ∧ k.n 0 1 < 128 ∧ zeroAt k.cmd.payload 1 3 = true) ∧
    (∃ (k : Svc) (s : State), Served s 0x1301 k ∧ k.f = 0 ∧ k.cmd.len = 4 ∧ k.n 0 2 < 2176 ∧ zeroAt k.cmd.payload 2 2 = true ∧ slotFenced s (k.n 0 2) = true ∧ TicketFree s k) ∧
    (∃ (k : Svc) (s : State), Served s 0x1302 k ∧ k.f = 0 ∧ k.cmd.len = 4 ∧ k.n 0 2 < 2176 ∧ zeroAt k.cmd.payload 2 2 = true ∧ s.flag (Reg.FLT_CLUSTER (k.n 0 2 / 17)) Fld.FLT_CLUSTER.NO_SPARE = false) ∧
    (∃ (k : Svc) (s : State), Served s 0x1302 k ∧ k.f = 0 ∧ k.cmd.len = 4 ∧ k.n 0 2 < 2176 ∧ zeroAt k.cmd.payload 2 2 = true ∧ s.flag (Reg.FLT_CLUSTER (k.n 0 2 / 17)) Fld.FLT_CLUSTER.NO_SPARE = true) :=
  ⟨⟨0, 0, [], 16, applyAll [.fld (Reg.FLT_CLUSTER 0) Fld.FLT_CLUSTER.NO_SPARE 0, .fld (Reg.FLT_CLUSTER 0) Fld.FLT_CLUSTER.SPARE_SLOT 16, .reg (Reg.FLT_UNIT 0) (w32 0x40), .reg (Reg.FLT_UNIT 16) (w32 0x10)] State.reset, by decide +kernel⟩,
   ⟨0, 0, [], applyAll [.fld (Reg.FLT_CLUSTER 0) Fld.FLT_CLUSTER.NO_SPARE 0, .fld (Reg.FLT_CLUSTER 0) Fld.FLT_CLUSTER.SPARE_SLOT 16, .reg (Reg.FLT_UNIT 0) (w32 0x40), .reg (Reg.FLT_UNIT 16) (w32 0x10), effUnit 0 fun x => { x with lastFault := some (10 ^ 20) }] State.reset, by decide +kernel⟩,
   ⟨0, 0, [], applyAll [.fld (Reg.FLT_UNIT 0) Fld.FLT_UNIT.POWERED 0] State.reset, by decide +kernel⟩,
   ⟨0, ⟨0, 0, false⟩, 16, applyAll [.fld (Reg.FLT_CLUSTER 0) Fld.FLT_CLUSTER.NO_SPARE 0, .fld (Reg.FLT_CLUSTER 0) Fld.FLT_CLUSTER.SPARE_SLOT 16, .reg (Reg.FLT_UNIT 0) (w32 0x40), .reg (Reg.FLT_UNIT 16) (w32 0x10), effCluster 0 fun x => { x with reexec := some ⟨0, 0, false⟩ }] State.reset, by decide +kernel⟩,
   ⟨0, applyAll [.fld (Reg.FLT_UNIT 0) Fld.FLT_UNIT.FENCED 1] State.reset, by decide +kernel⟩,
   ⟨0, applyAll [.fld (Reg.FLT_UNIT 0) Fld.FLT_UNIT.FENCED 1, effUnit 0 fun x => { x with testing := true }] State.reset, by decide +kernel⟩,
   ⟨0, applyAll [.fld (Reg.FLT_UNIT 0) Fld.FLT_UNIT.FENCED 1, effUnit 0 fun x => { x with testing := true }] State.reset, by decide +kernel⟩,
   ⟨0, 16, 0, applyAll [.fld (Reg.FLT_CLUSTER 0) Fld.FLT_CLUSTER.NO_SPARE 0, .fld (Reg.FLT_CLUSTER 0) Fld.FLT_CLUSTER.SPARE_SLOT 16, .reg (Reg.FLT_UNIT 0) (w32 0x40), .reg (Reg.FLT_UNIT 16) (w32 0x10), .prm (Prm.FLT_CTRL) (w32 1)] State.reset, by decide +kernel⟩,
   ⟨0, 16, 0, 0, applyAll [.fld (Reg.FLT_CLUSTER 0) Fld.FLT_CLUSTER.NO_SPARE 0, .fld (Reg.FLT_CLUSTER 0) Fld.FLT_CLUSTER.SPARE_SLOT 16, .reg (Reg.FLT_UNIT 0) (w32 0x40), .reg (Reg.FLT_UNIT 16) (w32 0x10), effCluster 0 fun x => { x with rotation := some 0 }] State.reset, by decide +kernel⟩,
   ⟨0, 16, 0, applyAll [.fld (Reg.FLT_CLUSTER 0) Fld.FLT_CLUSTER.NO_SPARE 0, .fld (Reg.FLT_CLUSTER 0) Fld.FLT_CLUSTER.SPARE_SLOT 16, .reg (Reg.FLT_UNIT 0) (w32 0x40), .reg (Reg.FLT_UNIT 16) (w32 0x10), effCluster 0 fun x => { x with rotation := some 0 }] State.reset, by decide +kernel⟩,
   ⟨applyAll [.fld (Reg.FLT_PLINTH) Fld.FLT_PLINTH.PRIMARY 0, .fld (Reg.FLT_PLINTH) Fld.FLT_PLINTH.P2_ALIVE 1, .fld (Reg.FLT_PLINTH) Fld.FLT_PLINTH.P0_ALIVE 1, .flt fun x => { x with missed := 2 }] State.reset, by decide +kernel⟩,
   ⟨applyAll [.fld (Reg.FLT_PLINTH) Fld.FLT_PLINTH.PRIMARY 0, .fld (Reg.FLT_PLINTH) Fld.FLT_PLINTH.P2_ALIVE 1, .fld (Reg.FLT_PLINTH) Fld.FLT_PLINTH.P0_ALIVE 1] State.reset, by decide +kernel⟩,
   ⟨0, applyAll [] State.reset, by decide +kernel⟩,
   ⟨5, applyAll [.flt fun x => { x with queue := [(5, 0)] }, .poison 5 true, .prm (Prm.MEM_DEV_BASE_LO) (w32 0), .prm (Prm.MEM_DEV_BASE_HI) (w32 1)] State.reset, by decide +kernel⟩,
   ⟨5, 5, applyAll [.flt fun x => { x with queue := [(5, 5)] }, .arm fun a => { a with serving := true }] State.reset, by decide +kernel⟩,
   ⟨0, true, { newCtx State.reset 0 (z 96) with rtpSeq := 0 }, applyAll [.flt fun x => { x with quarantine := x.quarantine.put 0 true }, .arm fun a => { a with serving := true }, effStr fun t => { t with ctxs := t.ctxs.put 0 ({ newCtx State.reset 0 (z 96) with rtpSeq := 0 }) }] State.reset, by decide +kernel⟩,
   ⟨0#32, [], applyAll [.fld (Reg.HUB_LOCK) Fld.HUB_LOCK.LOCK 1] State.reset, by decide +kernel⟩,
   ⟨setFld (setFld 0 Fld.FLT_INJECT.GO 1) Fld.FLT_INJECT.KIND 4, [], applyAll [.fld (Reg.HUB_LOCK) Fld.HUB_LOCK.LOCK 0, .fld (Reg.FLT_PAIR_STAT) Fld.FLT_PAIR_STAT.EN 1] State.reset, by decide +kernel⟩,
   ⟨svc 0 0x1300 (z 4), applyAll [serve (svc 0 0x1300 (z 4))] State.reset, by decide +kernel⟩,
   ⟨svc 0 0x1301 (z 4), applyAll [serve (svc 0 0x1301 (z 4)), .fld (Reg.FLT_UNIT 0) Fld.FLT_UNIT.FENCED 1] State.reset, by decide +kernel⟩,
   ⟨svc 0 0x1302 (z 4), applyAll [serve (svc 0 0x1302 (z 4)), .fld (Reg.FLT_CLUSTER 0) Fld.FLT_CLUSTER.NO_SPARE 0, .fld (Reg.FLT_CLUSTER 0) Fld.FLT_CLUSTER.SPARE_SLOT 16] State.reset, by decide +kernel⟩,
   ⟨svc 0 0x1302 (z 4), applyAll [serve (svc 0 0x1302 (z 4)), .fld (Reg.FLT_CLUSTER 0) Fld.FLT_CLUSTER.NO_SPARE 1] State.reset, by decide +kernel⟩⟩

/-- The hypotheses of PackagePairs can hold, in each clause. -/
theorem witness_PackagePairs :
    (∃ (k : Svc) (s : State), Served s 0x1303 k ∧ k.f = 0 ∧ k.cmd.len = 0 ∧ pairActive s = true ∧ pairProtected s = true ∧ s.flt.warm = none ∧ s.flt.swap = none ∧ TicketFree s k) ∧
    (∃ (k : Svc) (s : State), Served s 0x1303 k ∧ k.f = 0 ∧ k.cmd.len = 0 ∧ pairActive s = false) ∧
    (∃ (k : Svc) (s : State), Served s 0x1304 k ∧ k.f = 0 ∧ k.cmd.len = 0) ∧
    (∃ (s : State), pairEn s = true ∧ s.flt.beatHold = 0 ∧ tripped s = false) ∧
    (∃ (n : Nat) (s : State), pairEn s = true ∧ s.flt.beatHold = n + 1) ∧
    (∃ (s : State), isStandby s = true) ∧
    (∃ (s : State), isStandby s = true) ∧
    (∃ (ring : Bool) (s : State), pairActive s = true ∧ s.flt.mirror = [] ∧ s.flt.warm = none ∧ s.flt.swap = none) ∧
    (∃ (cause : Fin 3) (s : State), pairActive s = true ∧ pairFlag s Fld.FLT_PAIR_STAT.YIELDED = false ∧ s.flt.mirror = [] ∧ s.flt.warm = none ∧ s.flt.swap = none) ∧
    (∃ (us : Nat) (s : State), isStandby s = true ∧ pairFlag s Fld.FLT_PAIR_STAT.YIELDED = false ∧ s.flt.declared = true) ∧
    (∃ (us : Nat) (s : State), s.flt.declared = false) ∧
    (∃ (seq : Nat) (f : Nat) (p : Fin 96) (group : Fin 4) (prms : List (Nat × Word)) (objs : List (Nat × Nat × Option Bytes)) (s : State), isStandby s = true ∧ (let items := prms.map (fun x => Staged.prm x.1 x.2) ++ objs.map fun x => Staged.obj x.1 x.2.1 x.2.2
      (verdict p items none s).1 = none)) ∧
    (∃ (seq : Nat) (f : Nat) (p : Fin 96) (group : Fin 4) (prms : List (Nat × Word)) (objs : List (Nat × Nat × Option Bytes)) (s : State), isStandby s = true ∧ (verdict p (prms.map (fun x => Staged.prm x.1 x.2) ++ objs.map fun x => Staged.obj x.1 x.2.1 x.2.2) none s).1.isSome) ∧
    (∃ (seq : Nat) (idx : Nat) (b : Bytes) (p : Fin 96) (group : Fin 4) (s : State), isStandby s = true) ∧
    (∃ (seq : Nat) (frame : Nat) (group : Fin 4) (content : Bytes) (s : State), isStandby s = true) ∧
    (∃ (s : State), pairActive s = true ∧ pairProtected s = true ∧ s.pn Prm.FLT_PAIR_SWAP_S ≠ 0 ∧ s.flt.warm = none ∧ s.flt.swap = none) ∧
    (∃ (s : State), s.pn Prm.FLT_PAIR_SWAP_S = 0) ∧
    (∃ (h : Nat) (s : State), isStandby s = true ∧ bitOf (s.pn Prm.FLT_PAIR_CFG) 0 = true ∧ s.pn Prm.FLT_PAIR_REVERT_S ≠ 0 ∧ s.flt.healthy = some h ∧ h + s.pn Prm.FLT_PAIR_REVERT_S * secTicks ≤ s.uptime ∧ s.fld Reg.HUB_BOOT Fld.HUB_BOOT.STATE = 6 ∧ s.flt.warm = none ∧ s.flt.swap = none) ∧
    (∃ (seq : Nat) (p : Nat) (c : Commit) (rest : List (Nat × Nat)) (s : State), s.flt.mirror = (seq, p) :: rest ∧ (∀ e ∈ rest, e.1 ≠ seq) ∧ p < 128 ∧ s.arm.commits.find p = some c) ∧
    (∃ (seq : Nat) (s : State), (∀ e ∈ s.flt.mirror, e.1 ≠ seq)) :=
  ⟨⟨svc 0 0x1303 (z 0), applyAll [serve (svc 0 0x1303 (z 0)), .fld (Reg.FLT_PAIR_STAT) Fld.FLT_PAIR_STAT.EN 1, .fld (Reg.FLT_PAIR_STAT) Fld.FLT_PAIR_STAT.ACTIVE 1, .fld (Reg.FLT_PAIR_STAT) Fld.FLT_PAIR_STAT.PROTECTED 1] State.reset, by decide +kernel⟩,
   ⟨svc 0 0x1303 (z 0), applyAll [serve (svc 0 0x1303 (z 0)), .fld (Reg.FLT_PAIR_STAT) Fld.FLT_PAIR_STAT.EN 0] State.reset, by decide +kernel⟩,
   ⟨svc 0 0x1304 (z 0), applyAll [serve (svc 0 0x1304 (z 0))] State.reset, by decide +kernel⟩,
   ⟨applyAll [.fld (Reg.FLT_PAIR_STAT) Fld.FLT_PAIR_STAT.EN 1, .fld Reg.THM_STAT Fld.THM_STAT.TRIP 0, .fld (Reg.XPL_LINK_STAT 0) Fld.XPL_LINK_STAT.UP 1] State.reset, by decide +kernel⟩,
   ⟨2, applyAll [.fld (Reg.FLT_PAIR_STAT) Fld.FLT_PAIR_STAT.EN 1, .flt fun x => { x with beatHold := 3 }] State.reset, by decide +kernel⟩,
   ⟨applyAll [.fld (Reg.FLT_PAIR_STAT) Fld.FLT_PAIR_STAT.EN 1, .fld (Reg.FLT_PAIR_STAT) Fld.FLT_PAIR_STAT.ACTIVE 0] State.reset, by decide +kernel⟩,
   ⟨applyAll [.fld (Reg.FLT_PAIR_STAT) Fld.FLT_PAIR_STAT.EN 1, .fld (Reg.FLT_PAIR_STAT) Fld.FLT_PAIR_STAT.ACTIVE 0] State.reset, by decide +kernel⟩,
   ⟨true, applyAll [.fld (Reg.FLT_PAIR_STAT) Fld.FLT_PAIR_STAT.EN 1, .fld (Reg.FLT_PAIR_STAT) Fld.FLT_PAIR_STAT.ACTIVE 1] State.reset, by decide +kernel⟩,
   ⟨0, applyAll [.fld (Reg.FLT_PAIR_STAT) Fld.FLT_PAIR_STAT.EN 1, .fld (Reg.FLT_PAIR_STAT) Fld.FLT_PAIR_STAT.ACTIVE 1, .fld (Reg.FLT_PAIR_STAT) Fld.FLT_PAIR_STAT.YIELDED 0] State.reset, by decide +kernel⟩,
   ⟨5, applyAll [.fld (Reg.FLT_PAIR_STAT) Fld.FLT_PAIR_STAT.EN 1, .fld (Reg.FLT_PAIR_STAT) Fld.FLT_PAIR_STAT.ACTIVE 0, .fld (Reg.FLT_PAIR_STAT) Fld.FLT_PAIR_STAT.YIELDED 0, .flt fun x => { x with declared := true }] State.reset, by decide +kernel⟩,
   ⟨0, applyAll [] State.reset, by decide +kernel⟩,
   ⟨3, 9, 0, 0, [], [], applyAll [.fld (Reg.FLT_PAIR_STAT) Fld.FLT_PAIR_STAT.EN 1, .fld (Reg.FLT_PAIR_STAT) Fld.FLT_PAIR_STAT.ACTIVE 0] State.reset, by decide +kernel⟩,
   ⟨3, 9, 0, 0, [(Prm.OUT_SRC 0, w32 0x800000FF)], [], applyAll [.fld (Reg.FLT_PAIR_STAT) Fld.FLT_PAIR_STAT.EN 1, .fld (Reg.FLT_PAIR_STAT) Fld.FLT_PAIR_STAT.ACTIVE 0] State.reset, by decide +kernel⟩,
   ⟨3, 0, [1], 0, 0, applyAll [.fld (Reg.FLT_PAIR_STAT) Fld.FLT_PAIR_STAT.EN 1, .fld (Reg.FLT_PAIR_STAT) Fld.FLT_PAIR_STAT.ACTIVE 0] State.reset, by decide +kernel⟩,
   ⟨3, 7, 0, [], applyAll [.fld (Reg.FLT_PAIR_STAT) Fld.FLT_PAIR_STAT.EN 1, .fld (Reg.FLT_PAIR_STAT) Fld.FLT_PAIR_STAT.ACTIVE 0] State.reset, by decide +kernel⟩,
   ⟨applyAll [.fld (Reg.FLT_PAIR_STAT) Fld.FLT_PAIR_STAT.EN 1, .fld (Reg.FLT_PAIR_STAT) Fld.FLT_PAIR_STAT.ACTIVE 1, .fld (Reg.FLT_PAIR_STAT) Fld.FLT_PAIR_STAT.PROTECTED 1, .prm (Prm.FLT_PAIR_SWAP_S) (w32 5)] State.reset, by decide +kernel⟩,
   ⟨applyAll [.prm (Prm.FLT_PAIR_SWAP_S) (w32 0)] State.reset, by decide +kernel⟩,
   ⟨0, applyAll [.fld (Reg.FLT_PAIR_STAT) Fld.FLT_PAIR_STAT.EN 1, .fld (Reg.FLT_PAIR_STAT) Fld.FLT_PAIR_STAT.ACTIVE 0, .prm (Prm.FLT_PAIR_CFG) (w32 1), .prm (Prm.FLT_PAIR_REVERT_S) (w32 1), .flt fun x => { x with healthy := some 0 }, .fld (Reg.HUB_BOOT) Fld.HUB_BOOT.STATE 6] ({ State.reset with uptime := 10 ^ 12 }), by decide +kernel⟩,
   ⟨3, 0, ⟨1, false, 0, 0, true, false, [], none, 0⟩, [], applyAll [.arm fun a => { a with commits := a.commits.put 0 ⟨1, false, 0, 0, true, false, [], none, 0⟩ }, .flt fun x => { x with mirror := [(3, 0)] }] State.reset, by decide +kernel⟩,
   ⟨0, applyAll [] State.reset, by decide +kernel⟩⟩

/-- The hypotheses of BootAndResets can hold, in each clause. -/
theorem witness_BootAndResets :
    (∃ (s : State), s.pins.sysPwrok = false) ∧
    (∃ (s : State), s.pins.sysPwrok = true) ∧
    (∃ (level : Bool) (s : State), level = s.pins.sysPwrok) ∧
    (∃ (s : State), s.pins.pkgResetN = true ∧ s.pins.sysPwrok = true ∧ 2 ≤ bootState s) ∧
    (∃ (s : State), s.pins.pkgResetN = false) ∧
    (∃ (v : Word) (s : State), resetKeyed s v = true ∧ getFld v Fld.HUB_RESET.PKG_RESET = 1 ∧ s.pins.sysPwrok = true ∧ 2 ≤ bootState s) ∧
    (∃ (v : Word) (s : State), resetKeyed s v = false) ∧
    (∃ (v : Word) (s : State), resetKeyed s v = true ∧ getFld v Fld.HUB_RESET.ARM_REBOOT = 1 ∧ getFld v Fld.HUB_RESET.PKG_RESET = 0 ∧ 2 ≤ bootState s) ∧
    (∃ (s : State), s.pins.hostPerstN = false) ∧
    (∃ (s : State), s.pins.hostPerstN = true) ∧
    (∃ (s : State), s.pins.sysPwrok = true ∧ bootState s = 1 ∧ s.pins.strapTest = false) ∧
    (∃ (dies : Fin 16) (failedTest : Nat) (s : State), awake s = true ∧ bootState s = 2 ∧ s.arm.dead = false ∧ s.arm.halted = false) ∧
    (∃ (s : State), awake s = true ∧ bootState s = 2 ∧ s.arm.dead = false ∧ s.arm.halted = false ∧ accepts s (imageIn s false) = true ∧ accepts s (imageIn s true) = true ∧ (imageIn s false).dev = false ∧ (imageIn s true).dev = false) ∧
    (∃ (s : State), awake s = true ∧ bootState s = 3 ∧ s.boot.excluded = []) ∧
    (∃ (partner : Option Bool) (s : State), awake s = true ∧ bootState s = 4) ∧
    (∃ (s : State), bootState s = 5 ∧ s.boot.firstImage = false) ∧
    (∃ (s : State), bootState s = 5) ∧
    (∃ (b : NvsBank) (s : State), s.nvs.writing = some b ∧ s.nvs.sel = some false ∧ s.nvs.reply = none ∧ b.seq < 2 ^ 32) ∧
    (∃ (s : State), s.nvs.deferred = true ∧ bankBusy s = false) :=
  ⟨⟨applyAll [.pins fun x => { x with sysPwrok := false }] State.reset, by decide +kernel⟩,
   ⟨applyAll [] State.reset, by decide +kernel⟩,
   ⟨true, applyAll [] State.reset, by decide +kernel⟩,
   ⟨applyAll [.fld (Reg.HUB_BOOT) Fld.HUB_BOOT.STATE 3] State.reset, by decide +kernel⟩,
   ⟨applyAll [.pins fun x => { x with pkgResetN := false }] State.reset, by decide +kernel⟩,
   ⟨setFld (setFld 0 Fld.HUB_RESET.KEY 0x5A5A) Fld.HUB_RESET.PKG_RESET 1, applyAll [.fld (Reg.HUB_LOCK) Fld.HUB_LOCK.LOCK 0, .fld (Reg.HUB_BOOT) Fld.HUB_BOOT.STATE 3] State.reset, by decide +kernel⟩,
   ⟨0#32, applyAll [] State.reset, by decide +kernel⟩,
   ⟨setFld (setFld 0 Fld.HUB_RESET.KEY 0x5A5A) Fld.HUB_RESET.ARM_REBOOT 1, applyAll [.fld (Reg.HUB_LOCK) Fld.HUB_LOCK.LOCK 0, .fld (Reg.HUB_BOOT) Fld.HUB_BOOT.STATE 3] State.reset, by decide +kernel⟩,
   ⟨applyAll [.pins fun x => { x with hostPerstN := false }] State.reset, by decide +kernel⟩,
   ⟨applyAll [] State.reset, by decide +kernel⟩,
   ⟨applyAll [.fld (Reg.HUB_BOOT) Fld.HUB_BOOT.STATE 1] State.reset, by decide +kernel⟩,
   ⟨0, 0, applyAll [.fld (Reg.HUB_BOOT) Fld.HUB_BOOT.STATE 2] State.reset, by decide +kernel⟩,
   ⟨applyAll [.fld (Reg.HUB_BOOT) Fld.HUB_BOOT.STATE 2] State.reset, by decide +kernel⟩,
   ⟨applyAll [.fld (Reg.HUB_BOOT) Fld.HUB_BOOT.STATE 3] State.reset, by decide +kernel⟩,
   ⟨none, applyAll [.fld (Reg.HUB_BOOT) Fld.HUB_BOOT.STATE 4] State.reset, by decide +kernel⟩,
   ⟨applyAll [.fld (Reg.HUB_BOOT) Fld.HUB_BOOT.STATE 5] State.reset, by decide +kernel⟩,
   ⟨applyAll [.fld (Reg.HUB_BOOT) Fld.HUB_BOOT.STATE 5] State.reset, by decide +kernel⟩,
   ⟨⟨true, 5, .empty, .empty⟩, applyAll [.nvs fun n => { n with writing := some ⟨true, 5, .empty, .empty⟩, sel := some false }] State.reset, by decide +kernel⟩,
   ⟨applyAll [.nvs fun n => { n with deferred := true }] State.reset, by decide +kernel⟩⟩

/-- The hypotheses of WorkAndTimers can hold, in each clause. -/
theorem witness_WorkAndTimers :
    (∃ (f : Fin 96) (ticket : Nat) (status : Nat) (data : Bytes) (k : Ticket) (r : Reply) (s : State), s.ticket f ticket = some k ∧ k.done = false ∧ s.arm.halted = false ∧ k.opcode ≠ 0xB00 ∧ k.opcode ≠ 0x1303 ∧ ticketWork f status data k s = some r) ∧
    (∃ (f : Fin 64) (ticket : Nat) (status : Nat) (data : Bytes) (k : Ticket) (s : State), s.ticket f ticket = some k ∧ k.done = false ∧ k.opcode = 0x1104 ∧ k.poll = false) ∧
    (∃ (f : Fin 96) (ticket : Nat) (status : Nat) (data : Bytes) (s : State), s.ticket f ticket = none) ∧
    (∃ (f : Fn) (ticket : Nat) (k : Ticket) (s : State), s.tim.acquire = [(f.val, ticket)] ∧ s.ticket f ticket = some k ∧ k.done = false) ∧
    (∃ (p : Fin 8) (a : BitVec 24) (b : BitVec 24) (s : State), audOut s p = false ∧ audEn s p = true ∧ ringFrame s p (sampleAt s s.vis) < 2 ^ 63) ∧
    (∃ (p : Fin 8) (a : BitVec 24) (b : BitVec 24) (valid : Bool) (parityOk : Bool) (biphaseOk : Bool) (s : State), audOut s p = true) ∧
    (∃ (d : Fin 8) (s : State), s.cst.aborting = [d.val]) :=
  ⟨⟨0, 5, 0, [3, 0], ⟨5, 0x1104, false, [], false, 0, [], 1, false⟩, workSelftest (fieldN [3, 0] 0 2), applyAll [effMbx 0 fun m => { m with tickets := [⟨5, 0x1104, false, [], false, 0, [], 1, false⟩] }] State.reset, by decide +kernel, by decide, by decide +kernel, by decide, by decide, rfl⟩,
   ⟨0, 5, 0, [3, 0], ⟨5, 0x1104, false, [], false, 0, [], 1, false⟩, applyAll [effMbx 0 fun m => { m with tickets := [⟨5, 0x1104, false, [], false, 0, [], 1, false⟩] }] State.reset, by decide +kernel⟩,
   ⟨0, 0, 0, [], applyAll [] State.reset, by decide +kernel⟩,
   ⟨0, 5, ⟨5, 0xC01, false, [], false, 0, [], 1, false⟩, applyAll [.tim fun t => { t with acquire := [(0, 5)] }, effMbx 0 fun m => { m with tickets := [⟨5, 0xC01, false, [], false, 0, [], 1, false⟩] }] State.reset, by decide +kernel⟩,
   ⟨0, 0, 0, applyAll [.prm (Prm.AUD_CFG 0) (w32 0x80000000), .prm (Prm.AUD_RING_ADDR_LO 0) (w32 4096), .prm (Prm.AUD_RING_ADDR_HI 0) (w32 0), .prm (Prm.AUD_RING_FRAMES 0) (w32 64)] State.reset, by decide +kernel⟩,
   ⟨0, 0, 0, true, true, true, applyAll [.prm (Prm.AUD_CFG 0) (w32 0xC0000000)] State.reset, by decide +kernel⟩,
   ⟨0, applyAll [.cst fun c => { c with aborting := [0] }] State.reset, by decide +kernel⟩⟩

/-- The hypotheses of EffectReads can hold, in each clause. -/
theorem witness_EffectReads :
    (∃ (a : Nat) (f : Fld) (n : Nat) (s : State), (∀ i, f.lo ≤ i → i ≤ f.hi → (regMask a).getLsbD i = true) ∧ f.lo ≤ f.hi) ∧
    (∃ (id : Nat) (n : Nat) (s : State), copyFind id prmCopies = none) ∧
    (∃ (e : Nat) (s : State), evtReserved e = false) ∧
    (∃ (e : Nat) (s : State), evtReserved e = true) ∧
    (∃ (o : Out) (s : State), ((tripped s = false ∨ o.onLane = false))) ∧
    (∃ (o : Out) (s : State), tripped s = true ∧ o.onLane = true) ∧
    (∃ (e : Nat) (s : State), tripped s = true) :=
  ⟨⟨Reg.SAL_PORT_ERRS 0, Fld.SAL_PORT_ERRS.CRC_ERRS, 3, applyAll [] State.reset, by decide +kernel⟩,
   ⟨Prm.MEM_RETRAINS, 3, applyAll [] State.reset, by decide +kernel⟩,
   ⟨64, applyAll [] State.reset, by decide +kernel⟩,
   ⟨70, applyAll [] State.reset, by decide +kernel⟩,
   ⟨.pin 1 true, applyAll [.fld Reg.THM_STAT Fld.THM_STAT.TRIP 0] State.reset, by decide +kernel⟩,
   ⟨.packet 0 0 [], applyAll [.fld (Reg.THM_STAT) Fld.THM_STAT.TRIP 1] State.reset, by decide +kernel⟩,
   ⟨64, applyAll [.fld (Reg.THM_STAT) Fld.THM_STAT.TRIP 1] State.reset, by decide +kernel⟩⟩

/-- The hypotheses of PairWritesAreHeld can hold. -/
theorem witness_PairWritesAreHeld :
    (∃ (f : Fn) (off : Nat) (o : Nat) (s : State), winOff f off = some o ∧ winOff f (off + 4) = some (o + 4) ∧ bar0Ignored f o = false ∧ bar0Ignored f (o + 4) = false ∧ pairAt o = some true) :=
  ⟨0, 0xB0004, 0xB0004, applyAll [] State.reset, by decide +kernel⟩

/-- The hypotheses of BusyDoorbellIsLost can hold. -/
theorem witness_BusyDoorbellIsLost :
    (∃ (f : Fn) (v : Word) (s : State), getFld v Fld.MBX_DOORBELL.RING = 1 ∧ (s.fld (Reg.MBX_STATE f) Fld.MBX_STATE.STATE = 1 ∨ s.fld (Reg.MBX_STATE f) Fld.MBX_STATE.STATE = 3)) :=
  ⟨0, setFld 0 Fld.MBX_DOORBELL.RING 1, applyAll [.fld (Reg.MBX_STATE 0) Fld.MBX_STATE.STATE 1] State.reset, by decide +kernel⟩

/-- The hypotheses of TicketCompletes can hold. -/
theorem witness_TicketCompletes :
    (∃ (f : Fn) (id : Nat) (status : Nat) (result : Bytes) (k : Ticket) (s : State), s.ticket f id = some k ∧ k.done = false ∧ ((s.mbx f).tickets.map (·.id)).Nodup ∧ (s.mbx f).tickets.length ≤ 16 ∧ s.fld (Reg.MBX_STATE f) Fld.MBX_STATE.TICKETS_DONE = ((s.mbx f).tickets.filter (·.done)).length) :=
  ⟨0, 5, 3, [9], ⟨5, 0x700, false, [], false, 0, [], 1, false⟩, applyAll [effMbx 0 fun m => { m with tickets := [⟨5, 0x700, false, [], false, 0, [], 1, false⟩] }, .fld (Reg.MBX_STATE 0) Fld.MBX_STATE.TICKETS_DONE 0] State.reset, by decide +kernel⟩

/-- The hypotheses of OneCommitPending can hold, in each clause. -/
theorem witness_OneCommitPending :
    (∃ (k : Svc) (s : State), Served s 0x110 k ∧ k.cmd.len = 16 ∧ k.n 0 1 < 4 ∧ k.n 1 1 = 1 ∧ zeroAt k.cmd.payload 2 6 = true ∧ k.n 14 2 = 0 ∧ (standbyRefuses s).1 = false ∧ s.arm.commits.has k.f = true) ∧
    (∃ (k : Svc) (s : State), Served s 0x111 k ∧ k.cmd.len = 0) :=
  ⟨⟨svc 0 0x110 ([0, 1] ++ z 14), applyAll [serve (svc 0 0x110 ([0, 1] ++ z 14)), .fld (Reg.FLT_PAIR_STAT) Fld.FLT_PAIR_STAT.EN 0, .arm fun a => { a with commits := a.commits.put 0 ⟨1, false, 0, 0, true, false, [], none, 0⟩ }] State.reset, by decide +kernel⟩,
   ⟨svc 0 0x111 (z 0), applyAll [serve (svc 0 0x111 (z 0))] State.reset, by decide +kernel⟩⟩

/-- The hypotheses of NamedPlaybackStays can hold. -/
theorem witness_NamedPlaybackStays :
    (∃ (k : Svc) (p : Playback) (s : State), Served s 0xE22 k ∧ k.cmd.len = 4 ∧ k.n 0 1 < 16 ∧ zeroAt k.cmd.payload 1 3 = true ∧ storeReady s = true ∧ heldPlay k s = some p ∧ layerNames s 4 (k.n 0 1) = true) :=
  ⟨svc 0 0xE22 (z 4), ⟨0, 1, mk 256 [(4, [2]), (32, w 4 1), (8, w 8 2), (24, w 8 3), (88, w 2 16), (90, w 2 4), (128, [0x20])], 2 ^ 63, 3, 0, 1, 1, some 0, 0, true, false, 0, 0, 2, none⟩, applyAll [serve (svc 0 0xE22 (z 4)), .fld (Reg.CST_STORE_STAT) Fld.CST_STORE_STAT.READY 1, effCst fun c => { c with plays := c.plays.put 0 ⟨0, 1, mk 256 [(4, [2]), (32, w 4 1), (8, w 8 2), (24, w 8 3), (88, w 2 16), (90, w 2 4), (128, [0x20])], 2 ^ 63, 3, 0, 1, 1, some 0, 0, true, false, 0, 0, 2, none⟩ }, .obj K_LAYER 0 (some (mk 65 [(1, [4])]))] State.reset, by decide +kernel⟩

/-- The hypotheses of LockedResetIsIgnored can hold, in each clause. -/
theorem witness_LockedResetIsIgnored :
    (∃ (v : Word) (s : State), s.flag Reg.HUB_LOCK Fld.HUB_LOCK.LOCK = true) ∧
    (∃ (v : Word) (s : State), s.flag Reg.HUB_LOCK Fld.HUB_LOCK.LOCK = false ∧ getFld v Fld.HUB_RESET.KEY = 0x5A5A ∧ getFld v Fld.HUB_RESET.PKG_RESET = 1 ∧ getFld v Fld.HUB_RESET.ARM_REBOOT = 1 ∧ s.pins.sysPwrok = true ∧ 2 ≤ bootState s) :=
  ⟨⟨0#32, applyAll [.fld (Reg.HUB_LOCK) Fld.HUB_LOCK.LOCK 1] State.reset, by decide +kernel⟩,
   ⟨setFld (setFld (setFld 0 Fld.HUB_RESET.KEY 0x5A5A) Fld.HUB_RESET.PKG_RESET 1) Fld.HUB_RESET.ARM_REBOOT 1, applyAll [.fld (Reg.HUB_LOCK) Fld.HUB_LOCK.LOCK 0, .fld (Reg.HUB_BOOT) Fld.HUB_BOOT.STATE 3] State.reset, by decide +kernel⟩⟩

/-- The hypotheses of RolesAtReset can hold, in each clause. -/
theorem witness_RolesAtReset :
    (∃ (c : Nat) (k : Nat), c < 128 ∧ k < 16) ∧
    (∃ (c : Nat), c < 128) :=
  ⟨⟨0, 0, by decide +kernel⟩,
   ⟨0, by decide +kernel⟩⟩

/-- The hypotheses of NamespacesAreOwned can hold, in each clause. -/
theorem witness_NamespacesAreOwned :
    (∃ (f : Nat) (n : Nat) (s : State), f ≠ 0 ∧ (∀ x, s.space n = some x → x.owner ≠ f)) ∧
    (∃ (k : Svc) (s : State), Served s 0xE04 k ∧ k.cmd.len = 4 ∧ k.holds s R_STORE = true ∧ zeroAt k.cmd.payload 1 3 = true ∧ storeReady s = true ∧ reachable s k.f (k.n 0 1) = none) ∧
    (∃ (k : Svc) (s : State), Served s 0xE03 k ∧ k.cmd.len = 4 ∧ k.holds s R_STORE = true ∧ zeroAt k.cmd.payload 1 3 = true ∧ storeReady s = true ∧ reachable s k.f (k.n 0 1) = none) ∧
    (∃ (f : Fn) (v : Word) (s : State), storeReady s = true ∧ getFld v Fld.CST_TASK_CMD.OP = OP_FLUSH ∧ v &&& ~~~(regMask (Reg.CST_TASK_CMD f)) = 0 ∧ s.fld (Reg.CST_TASK_BLOCKS f) Fld.CST_TASK_BLOCKS.BLOCKS = 0 ∧ s.holds f R_STORE = true ∧ reachable s f (getFld v Fld.CST_TASK_CMD.NS) = none) :=
  ⟨⟨2, 1, applyAll [effDisk fun d => { d with ports := [0], chunks := 50, spaces := d.spaces.put 1 ⟨0, 1000, [3], none⟩ }] State.reset, by decide +kernel⟩,
   ⟨svc 0 0xE04 ([2, 0, 0, 0]), applyAll [serve (svc 0 0xE04 ([2, 0, 0, 0])), .fld (Reg.CST_STORE_STAT) Fld.CST_STORE_STAT.READY 1, effDisk fun d => { d with ports := [0], chunks := 50, spaces := d.spaces.put 1 ⟨0, 1000, [3], none⟩ }] State.reset, by decide +kernel⟩,
   ⟨svc 0 0xE03 ([2, 0, 0, 0]), applyAll [serve (svc 0 0xE03 ([2, 0, 0, 0])), .fld (Reg.CST_STORE_STAT) Fld.CST_STORE_STAT.READY 1, effDisk fun d => { d with ports := [0], chunks := 50, spaces := d.spaces.put 1 ⟨0, 1000, [3], none⟩ }] State.reset, by decide +kernel⟩,
   ⟨0, setFld (setFld 0 Fld.CST_TASK_CMD.OP OP_FLUSH) Fld.CST_TASK_CMD.NS 2, applyAll [.fld (Reg.CST_STORE_STAT) Fld.CST_STORE_STAT.READY 1, effDisk fun d => { d with ports := [0], chunks := 50, spaces := d.spaces.put 1 ⟨0, 1000, [3], none⟩ }, .fld (Reg.CST_TASK_BLOCKS 0) Fld.CST_TASK_BLOCKS.BLOCKS 0] State.reset, by decide +kernel⟩⟩

end Sys2Proof.Tests

end
end

section
/-! The slots of the clusters at reset (R26): where the register file holds FLT_UNIT, what it reads there after a reset, and
the role, the spare bit and the power bit of a slot from that. -/
open Sys2Proof Sys2Proof.Machine

namespace Sys2Proof.RolesAtReset

/-- The family of FLT_UNIT in the register map. -/
def unitRow : RegRow :=
  ⟨0x1A1000, 0x4, 2176, .unit, [⟨31, 24, .rw⟩, ⟨23, 16, .rw⟩, ⟨15, 8, .rw⟩, ⟨6, 6, .ro⟩, ⟨5, 5, .ro⟩, ⟨4, 4, .ro⟩, ⟨3, 0, .ro⟩]⟩

/-! ### Finding a family and a listed word -/

/-- A family whose words all lie below the offset is passed over. -/
theorem regFind_cons_of_beyond {r : RegRow} {off : Nat} (t : List RegRow) (h : r.count ≤ (off - r.base) / r.stride) :
    regFind off (r :: t) = regFind off t :=
  if_neg fun ⟨_, _, hc⟩ => absurd hc (Nat.not_lt.mpr h)

/-- The n-th word of the first family of a table is found there. -/
theorem regFind_cons_of_word {r : RegRow} {n : Nat} (t : List RegRow) (hn : n < r.count) (hs : 0 < r.stride) :
    regFind (r.base + r.stride * n) (r :: t) = some (r, n) := by
  simp [regFind, Nat.mul_div_cancel_left n hs, hn]

theorem mapFind_eq_none_of_forall_ne {α : Type} {k : Nat} {l : List (Nat × α)} (h : ∀ e ∈ l, k ≠ e.1) : mapFind k l = none := by
  induction l with
  | nil => rfl
  | cons e t ih =>
    obtain ⟨hne, ht⟩ := List.forall_mem_cons.mp h
    rw [mapFind, if_neg hne, ih ht]

/-! ### Registers after a reset -/

/-- The words the reset lists are the mailbox states, all below 0xA0000; every register from there on has its reset value. -/
theorem rd_reset_of_ge {off : Nat} (h : 0xA0000 ≤ off) : State.reset.rd off = regReset off := by
  have hfind : mapFind off State.reset.regs.entries = none := by
    refine mapFind_eq_none_of_forall_ne fun e he => ?_
    obtain ⟨f, hf, rfl⟩ := List.mem_map.mp he
    have := List.mem_range.mp hf
    show off ≠ 0x21FF4 + 0x2000 * f
    omega
  simp [State.rd, FMap.getD, FMap.find, hfind]

/-- The words of FLT_CLUSTER, the one family before FLT_UNIT that comes near it, end below it. -/
theorem regFind_unit {p : Nat} (hp : p < 2176) : regFind (Reg.FLT_UNIT p) regTable = some (unitRow, p) := by
  have hge : 0x1A1000 ≤ Reg.FLT_UNIT p := Nat.le_add_right ..
  show regFind (Reg.FLT_UNIT p) (_ :: _ :: _ :: unitRow :: _) = _
  iterate 3 rw [regFind_cons_of_beyond _ (by simp only; omega)]
  exact regFind_cons_of_word _ hp (by decide)

/-- FLT_UNIT of slot k of a cluster after a reset. -/
theorem rd_reset_unit {c k : Nat} (hc : c < 128) (hk : k < 17) :
    State.reset.rd (Reg.FLT_UNIT (17 * c + k)) = w32 (if k = 16 then 0x10 else 0x40 + k) := by
  have hslot : (17 * c + k) % 17 = k := by omega
  rw [rd_reset_of_ge (by unfold Reg.FLT_UNIT; omega), regReset, regFind_unit (by omega)]
  simp [unitRow, resetOf, hslot]

/-! ### The fields of a slot -/

/-- A slot with a role: the role is the slot's number, the spare bit is 0 and the power bit 1. -/
theorem slot_reset_of_role {c k : Nat} (hc : c < 128) (hk : k < 16) :
    slotRole State.reset (17 * c + k) = k ∧ slotSpare State.reset (17 * c + k) = false ∧
      slotPowered State.reset (17 * c + k) = true := by
  have hrd : State.reset.rd (Reg.FLT_UNIT (17 * c + k)) = w32 (0x40 + k) := by
    rw [rd_reset_unit hc (by omega), if_neg (by omega)]
  simp only [slotRole, slotSpare, slotPowered, State.flag, State.fld, hrd]
  clear hrd
  revert k
  decide

/-- Slot 16: the spare bit is 1 and the power bit 0. -/
theorem slot_reset_of_spare {c : Nat} (hc : c < 128) :
    slotSpare State.reset (17 * c + 16) = true ∧ slotPowered State.reset (17 * c + 16) = false := by
  simp only [slotSpare, slotPowered, State.flag, State.fld, rd_reset_unit hc (show 16 < 17 by decide)]
  decide

/-- Settles O59: a slot's word at reset is its family's reset value, whose fields are read off for the 17 slots of a cluster. -/
theorem rolesAtReset : Obligations.RolesAtReset :=
  ⟨fun _ _ hc hk => slot_reset_of_role hc hk, fun _ hc => slot_reset_of_spare hc⟩

end Sys2Proof.RolesAtReset
end

section
/-! The service turn: the checks of a handler, what a turn that opens no ticket answers, and what an answer leaves unchanged. -/
open Sys2Proof Sys2Proof.Machine

namespace Sys2Proof.ServiceTurn

/-! ### The checks of a command (R106) -/

@[simp] theorem checks_nil (r : Reply) : checks [] r = r := rfl

@[simp] theorem checks_cons (c : Bool × Nat) (t : List (Bool × Nat)) (r : Reply) :
    checks (c :: t) r = if c.1 = true then Reply.refuse c.2 else checks t r := by
  obtain ⟨_ | _, st⟩ := c <;> rfl

@[simp] theorem badLen_fst (k : Svc) (n : Nat) : (k.badLen n).1 = (k.cmd.len != n) := rfl

@[simp] theorem rsv_fst (k : Svc) (o n : Nat) : (k.rsv o n).1 = !zeroAt k.cmd.payload o n := rfl

theorem guardHeader_of_clean {k : Svc} (h : k.cmd.clean = true) (r : Reply) : guardHeader k r = r := if_pos (.inl h)

/-- A turn whose handler does not answer ST_PENDING leaves what the handler's act leaves and then its answer. -/
theorem outcome_turn_of_ne_pending {op : Nat} {h : Svc → State → Reply} {k : Svc} {s : State} {r : Reply} (hs : Served s op k)
    (hr : h k s = r) (hp : r.status ≠ ST_PENDING) :
    (turn op h).outcome s = .next (answered k r.status r.payload r.act s) := by
  obtain ⟨hin, hop, hclean, -, -⟩ := hs
  simp [turn, hin, hop, hr, guardHeader_of_clean hclean, hp, answered]

theorem outcome_turn_of_refuse {op : Nat} {h : Svc → State → Reply} {k : Svc} {s : State} {st : Nat} (hs : Served s op k)
    (hr : h k s = .refuse st) (hp : st ≠ ST_PENDING) : (turn op h).outcome s = .next (answered k st [] (eff []) s) := by
  rw [outcome_turn_of_ne_pending hs hr hp]
  rfl

theorem outcome_turn_of_ok {op : Nat} {h : Svc → State → Reply} {k : Svc} {s : State} {bs : Bytes} {a : Act} (hs : Served s op k)
    (hr : h k s = .ok bs a) : (turn op h).outcome s = .next (answered k ST_OK bs a s) := by
  rw [outcome_turn_of_ne_pending hs hr (show ST_OK ≠ ST_PENDING by decide)]
  rfl

/-! ### What an answer leaves unchanged -/

/-- The effects an answer is made of: those on the Armature leave its commits and its staged sets. -/
inductive AnswerEff : Eff → Prop
  | draw : AnswerEff .draw
  | page (a : Nat) (bs : Bytes) : AnswerEff (.page a bs)
  | fld (off : Nat) (f : Fld) (v : Nat) : AnswerEff (.fld off f v)
  | raise (e : Nat) : AnswerEff (.raise e)
  | emit (o : Out) : AnswerEff (.emit o)
  | arm (g : Arm → Arm) (hc : ∀ a, (g a).commits = a.commits) (hs : ∀ a, (g a).staged = a.staged) : AnswerEff (.arm g)

theorem answerEff_of_mem_present {f : Nat} {rsp : Bytes} {poll : Bool} {u : State} {e : Eff} (h : e ∈ present f rsp poll u) :
    AnswerEff e := by
  simp only [present, List.mem_append, List.mem_cons, List.not_mem_nil, or_false] at h
  obtain (rfl | rfl | rfl) | h := h
  · exact .page _ _
  · exact .page _ _
  · exact .fld _ _ _
  · cases poll
    · obtain rfl := List.mem_singleton.mp h
      exact .raise _
    · exact absurd h List.not_mem_nil

theorem answerEff_effMbx (f : Nat) (g : Mbx → Mbx) : AnswerEff (effMbx f g) := .arm _ (fun _ => rfl) (fun _ => rfl)

theorem answerEff_endTurn (f : Nat) : AnswerEff (endTurn f) := .arm _ (fun _ => rfl) (fun _ => rfl)

theorem answerEff_of_mem_respond {k : Svc} {st : Nat} {p : Bytes} {t : Nat} {u : State} {e : Eff} (h : e ∈ respond k st p t u) :
    AnswerEff e := by
  rcases hk : k.remote with _ | r
  · simp only [respond, hk, List.mem_append, List.mem_cons, List.not_mem_nil, or_false] at h
    obtain ((rfl | rfl) | h) | rfl := h
    · exact .draw
    · exact answerEff_effMbx _ _
    · exact answerEff_of_mem_present h
    · exact answerEff_endTurn _
  · simp only [respond, hk, List.mem_cons, List.not_mem_nil, or_false] at h
    obtain rfl | rfl | rfl := h
    · exact .draw
    · exact .emit _
    · exact answerEff_endTurn _

/-- What each effect of a list keeps, the list keeps. -/
theorem applyAll_keeps_of_mem {α : Type} (p : State → α) {es : List Eff} (h : ∀ e ∈ es, ∀ s, p (e.apply s) = p s) (s : State) :
    p (applyAll es s) = p s := by
  induction es generalizing s with
  | nil => rfl
  | cons e t ih =>
    obtain ⟨he, ht⟩ := List.forall_mem_cons.mp h
    rw [applyAll_cons, ih ht, he]

/-- What the effects of an answer keep is after the answer what the command's act left. -/
theorem answered_keeps {α : Type} (p : State → α) (h : ∀ e, AnswerEff e → ∀ s, p (e.apply s) = p s) (k : Svc) (st : Nat) (bs : Bytes)
    (a : Act) (s : State) : p (answered k st bs a s) = p (a.run s) :=
  applyAll_keeps_of_mem p (fun e he => h e (answerEff_of_mem_respond he)) _

theorem answered_prms (k : Svc) (st : Nat) (bs : Bytes) (a : Act) (s : State) : (answered k st bs a s).prms = (a.run s).prms :=
  answered_keeps (·.prms) (fun _ he _ => by cases he <;> simp) ..

theorem answered_objs (k : Svc) (st : Nat) (bs : Bytes) (a : Act) (s : State) : (answered k st bs a s).objs = (a.run s).objs :=
  answered_keeps (·.objs) (fun _ he _ => by cases he <;> simp) ..

theorem answered_commits (k : Svc) (st : Nat) (bs : Bytes) (a : Act) (s : State) :
    (answered k st bs a s).arm.commits = (a.run s).arm.commits :=
  answered_keeps (·.arm.commits) (fun _ he _ => by cases he <;> simp [*]) ..

theorem answered_staged (k : Svc) (st : Nat) (bs : Bytes) (a : Act) (s : State) :
    (answered k st bs a s).arm.staged = (a.run s).arm.staged :=
  answered_keeps (·.arm.staged) (fun _ he _ => by cases he <;> simp [*]) ..

end Sys2Proof.ServiceTurn
end

section
/-! A doorbell of a mailbox that is BUSY or RECOVERING (R97): where the register file holds MBX_STATE, and what the doorbell leaves. -/
open Sys2Proof Sys2Proof.Machine Sys2Proof.RolesAtReset

namespace Sys2Proof.BusyDoorbell

/-- The family of MBX_STATE in the register map. -/
def stateRow : RegRow :=
  ⟨0x21FF4, 0x2000, 64, .c 0x0, [⟨31, 30, .ro⟩, ⟨29, 29, .w1c⟩, ⟨25, 21, .ro⟩, ⟨20, 16, .ro⟩, ⟨15, 0, .ro⟩]⟩

/-- A family that starts above the offset is passed over. -/
theorem regFind_cons_of_below {r : RegRow} {off : Nat} (t : List RegRow) (h : off < r.base) : regFind off (r :: t) = regFind off t :=
  if_neg fun ⟨hb, _⟩ => absurd hb (Nat.not_le.mpr h)

/-- A family is passed over by an offset between its words. -/
theorem regFind_cons_of_between {r : RegRow} {off : Nat} (t : List RegRow) (h : (off - r.base) % r.stride ≠ 0) :
    regFind off (r :: t) = regFind off t :=
  if_neg fun ⟨_, hm, _⟩ => h hm

/-- The 64 words of MBX_STATE end below 0xA0000. -/
theorem mbxState_lt (f : Fn) : Reg.MBX_STATE f < 0xA0000 := by unfold Reg.MBX_STATE; omega

/-- The families before MBX_STATE lie wholly above its words or wholly below them, but for MBX_DOORBELL, whose words stand 4 bytes
before them. -/
theorem regFind_mbxState (f : Fn) : regFind (Reg.MBX_STATE f) regTable = some (stateRow, f.val) := by
  have hlo : 0x21FF4 ≤ Reg.MBX_STATE f := Nat.le_add_right ..
  have hhi := mbxState_lt f
  show regFind _ (_ :: _ :: _ :: _ :: _ :: _ :: _ :: _ :: _ :: _ :: stateRow :: _) = _
  iterate 2 rw [regFind_cons_of_beyond _ (by simp only; omega)]
  iterate 3 rw [regFind_cons_of_below _ (by simp only; omega)]
  rw [regFind_cons_of_beyond _ (by simp only; omega)]
  iterate 3 rw [regFind_cons_of_below _ (by simp only; omega)]
  rw [regFind_cons_of_between _ (by simp only [Reg.MBX_STATE]; omega)]
  exact regFind_cons_of_word _ f.isLt (by decide)

/-- The bits of MBX_STATE that are not reserved: all but bits 28 to 26. -/
theorem regMask_mbxState (f : Fn) : regMask (Reg.MBX_STATE f) = 0xE3FFFFFF#32 := by
  simp only [regMask, regFind_mbxState, stateRow]
  decide

theorem covers_ringLost (f : Fn) : covers (regMask (Reg.MBX_STATE f)) Fld.MBX_STATE.RING_LOST = true := by
  rw [regMask_mbxState]
  decide

theorem covers_state (f : Fn) : covers (regMask (Reg.MBX_STATE f)) Fld.MBX_STATE.STATE = true := by
  rw [regMask_mbxState]
  decide

/-- The one effect of a doorbell that finds its mailbox BUSY or RECOVERING. -/
theorem actMbxDoorbell_of_busy {f : Fn} {v : Word} {s : State} (hv : getFld v Fld.MBX_DOORBELL.RING = 1)
    (hs : s.fld (Reg.MBX_STATE f) Fld.MBX_STATE.STATE = 1 ∨ s.fld (Reg.MBX_STATE f) Fld.MBX_STATE.STATE = 3) :
    actMbxDoorbell f v s = [.fld (Reg.MBX_STATE f) Fld.MBX_STATE.RING_LOST 1] := by
  rw [actMbxDoorbell, if_neg (by omega)]
  exact if_pos hs

theorem exec_mbxDoorbell (f : Fn) (v : Word) (s : State) : exec (.mbxDoorbell f v) s = (actMbxDoorbell f v).outcome s := rfl

theorem exec_mbxDoorbell_of_busy {f : Fn} {v : Word} {s : State} (hv : getFld v Fld.MBX_DOORBELL.RING = 1)
    (hs : s.fld (Reg.MBX_STATE f) Fld.MBX_STATE.STATE = 1 ∨ s.fld (Reg.MBX_STATE f) Fld.MBX_STATE.STATE = 3) :
    exec (.mbxDoorbell f v) s = .next ((Eff.fld (Reg.MBX_STATE f) Fld.MBX_STATE.RING_LOST 1).apply s) := by
  rw [exec_mbxDoorbell, Act.outcome_eq, actMbxDoorbell_of_busy hv hs, applyAll_cons, applyAll_nil]

theorem flag_ringLost_of_set (f : Fn) (s : State) :
    ((Eff.fld (Reg.MBX_STATE f) Fld.MBX_STATE.RING_LOST 1).apply s).flag (Reg.MBX_STATE f) Fld.MBX_STATE.RING_LOST = true := by
  rw [State.flag, fld_fld_same _ _ _ _ (covers_ringLost f)]
  decide

/-- Settles O54: the doorbell's one effect loads RING_LOST, a field of MBX_STATE apart from STATE. -/
theorem busyDoorbellIsLost : Obligations.BusyDoorbellIsLost := by
  intro f v s hv hs
  refine ⟨(Eff.fld (Reg.MBX_STATE f) Fld.MBX_STATE.RING_LOST 1).apply s, exec_mbxDoorbell_of_busy hv hs, flag_ringLost_of_set f s,
    fld_fld_other _ _ _ _ _ (by decide) (covers_state f) (by decide), Eff.fld_arm .., Eff.fld_prms .., fun a ha => rd_fld_ne ha _ _ s,
    Eff.fld_devMem .., Eff.fld_hostMem .., Eff.fld_pageMem .., Eff.fld_cst .., Eff.fld_otp .., Eff.fld_pins ..⟩

end Sys2Proof.BusyDoorbell
end

section
/-! A second commit and a discard while a commit is pending (R113, R114). -/
open Sys2Proof Sys2Proof.Machine Sys2Proof.ServiceTurn

namespace Sys2Proof.PendingCommit

theorem exec_cfgCommit (s : State) : exec .cfgCommit s = (turn 0x110 hCfgCommit).outcome s := rfl

theorem exec_cfgDiscard (s : State) : exec .cfgDiscard s = (turn 0x111 hCfgDiscard).outcome s := rfl

/-- R113: a commit with NEXT that passes every check before the last is refused with ST_BUSY where its function has one pending. -/
theorem hCfgCommit_of_pending {k : Svc} {s : State} (hlen : k.cmd.len = 16) (hg : k.n 0 1 < 4) (hnext : k.n 1 1 = 1)
    (hrsv : zeroAt k.cmd.payload 2 6 = true) (hzero : k.n 14 2 = 0) (hstandby : (standbyRefuses s).1 = false)
    (hpend : s.arm.commits.has k.f = true) : hCfgCommit k s = .refuse ST_BUSY := by
  simp [hCfgCommit, hlen, hg, hnext, hrsv, hzero, hstandby, hpend]

/-- R114: a discard has LENGTH for its one check, and its act empties the staged set and may start a background sync (R419), no more. -/
theorem hCfgDiscard_eq_ok {k : Svc} (hlen : k.cmd.len = 0) (s : State) : ∃ a : Act, hCfgDiscard k s = .ok [] a ∧
    (a.run s).arm = { s.arm with staged := s.arm.staged.del k.f } ∧ (a.run s).prms = s.prms ∧ (a.run s).objs = s.objs := by
  have hpass (r : Reply) : checks [k.badLen 0] r = r := by simp [hlen]
  refine ⟨_, hpass _, ?_⟩
  split <;> exact ⟨rfl, rfl, rfl⟩

theorem stagedOf_eq_nil {s t : State} {f : Nat} (h : t.arm.staged = s.arm.staged.del f) : t.stagedOf f = [] := by
  simp [State.stagedOf, h, FMap.getD]

/-- Settles O56: the commit fails its last check only, and neither the discard's act nor its answer reaches the commits. -/
theorem oneCommitPending : Obligations.OneCommitPending := by
  refine ⟨fun k s hs hlen hg hnext hrsv hzero hstandby hpend => ?_, fun k s hs hlen => ?_⟩
  · rw [exec_cfgCommit]
    exact outcome_turn_of_refuse hs (hCfgCommit_of_pending hlen hg hnext hrsv hzero hstandby hpend) (by decide)
  · obtain ⟨a, hans, harm, hprms, hobjs⟩ := hCfgDiscard_eq_ok hlen s
    refine ⟨answered k ST_OK [] a s, (exec_cfgDiscard s).trans (outcome_turn_of_ok hs hans), stagedOf_eq_nil (s := s) ?_, ?_, ?_, ?_⟩
    · rw [answered_staged, harm]
    · rw [answered_commits, harm]
    · rw [answered_prms, hprms]
    · rw [answered_objs, hobjs]

end Sys2Proof.PendingCommit
end

section
/-! Writes of a writable pair (R134): the one effect of a write of the low half, and what a write of the high half loads. Where no low half
is held the word in force is loaded again, so here too stands that a register loaded with what it holds is unchanged (R13). -/
open Sys2Proof Sys2Proof.Machine

namespace Sys2Proof.PairWrites

/-! ### Reserved bits (R13) -/

theorem and_eq_self_of_and_not_eq_zero {v m : Word} (h : v &&& ~~~m = 0) : v &&& m = v :=
  calc v &&& m = (v &&& m) ||| (v &&& ~~~m) := by rw [h]; exact (BitVec.or_zero).symm
    _ = v := by ext i; cases hm : m[i] <;> simp [hm]

/-- The reset values that occur in a family. -/
def resetValues : ResetKind → List Nat
  | .c v => [v]
  | .unit => (List.range 17).map (resetOf .unit)
  | .mask => (List.range 9).map (resetOf .mask)
  | .route => (List.range 65).map (resetOf .route)

/-- A function that is constant from b on takes no values beyond those at 0 to b. -/
theorem mem_map_range_of_const_from {α : Type} {g : Nat → α} {b : Nat} (h : ∀ m, b ≤ m → g m = g b) (n : Nat) :
    g n ∈ (List.range (b + 1)).map g := by
  refine List.mem_map.mpr ⟨min n b, List.mem_range.mpr (by omega), ?_⟩
  obtain hn | hn := Nat.le_total n b
  · rw [Nat.min_eq_left hn]
  · rw [Nat.min_eq_right hn, h n hn]

theorem resetOf_mem_resetValues (k : ResetKind) (n : Nat) : resetOf k n ∈ resetValues k := by
  cases k with
  | c v => exact List.mem_singleton_self v
  | unit => exact List.mem_map.mpr ⟨n % 17, List.mem_range.mpr (by omega), by simp [resetOf]⟩
  | mask => exact mem_map_range_of_const_from (b := 8) (fun m hm => List.getD_eq_default _ _ hm) n
  | route => exact mem_map_range_of_const_from (b := 64) (fun m hm => if_neg (Nat.not_lt.mpr hm)) n

/-- Every reset value of the register map lies within the fields of its family. -/
theorem resetValues_within_fields :
    ∀ r ∈ regTable, ∀ v ∈ resetValues r.reset, w32 v &&& w32 (fieldMask r.fields) = w32 v := by
  decide +kernel

theorem mem_of_regFind {off n : Nat} {r : RegRow} {l : List RegRow} (h : regFind off l = some (r, n)) : r ∈ l := by
  induction l with
  | nil => cases h
  | cons r' t ih =>
    rw [regFind] at h
    split at h
    · cases h
      exact List.mem_cons_self
    · exact List.mem_cons_of_mem _ (ih h)

theorem regReset_and_regMask (off : Nat) : regReset off &&& regMask off = regReset off := by
  unfold regReset regMask
  cases h : regFind off regTable with
  | none => rfl
  | some p => exact resetValues_within_fields _ (mem_of_regFind h) _ (resetOf_mem_resetValues _ _)

/-- A word listed in a register file in canonical form has its reserved bits 0. -/
theorem and_regMask_of_mapFind {off lo : Nat} {v : Word} {l : List (Nat × Word)} (hwf : regsWf lo l = true)
    (h : mapFind off l = some v) : v &&& regMask off = v := by
  induction l generalizing lo with
  | nil => cases h
  | cons e t ih =>
    obtain ⟨k, w⟩ := e
    simp only [regsWf, Bool.and_eq_true, decide_eq_true_eq] at hwf
    obtain ⟨⟨-, hres⟩, ht⟩ := hwf
    rw [mapFind] at h
    split at h
    · next hk =>
      cases h
      exact hk ▸ and_eq_self_of_and_not_eq_zero hres
    · exact ih ht h

/-- A register of a state that meets the invariant, its reserved bits cleared, is what it was. -/
theorem rd_and_regMask {s : State} (hs : Inv s) (off : Nat) : s.rd off &&& regMask off = s.rd off := by
  obtain ⟨-, -, -, hwf⟩ := hs
  unfold State.rd FMap.getD FMap.find
  cases h : mapFind off s.regs.entries with
  | none => exact regReset_and_regMask off
  | some v => exact and_regMask_of_mapFind hwf h

/-! ### The low half -/

/-- The state after a write of the low half of the pair at o: the word is held for the function. -/
def loHeld (f o : Nat) (v : Word) (s : State) : State := (Eff.held (pairKey f o) (some v)).apply s

theorem exec_pairLoWrite_of_pair {f : Fn} {off o : Nat} (hwin : winOff f off = some o) (hign : bar0Ignored f o = false)
    (hpair : pairAt o = some true) (v : Word) (s : State) : exec (.pairLoWrite f off v) s = .next (loHeld f o v s) := by
  show (actPairLoWrite f off v).outcome s = _
  simp [actPairLoWrite, hwin, hign, hpair, loHeld]

theorem loHeld_find (f o : Nat) (v : Word) (s : State) : (loHeld f o v s).pairHeld.find (pairKey f o) = some v :=
  FMap.find_put_same ..

theorem loHeld_sameStores (f o : Nat) (v : Word) (s : State) : sameStores s (loHeld f o v s) := ⟨rfl, rfl, rfl, rfl, rfl, rfl⟩

/-! ### The high half -/

/-- The state after a write of the high half of the pair at o that loads lo and v: no low half is held any more. -/
def pairLoaded (f o : Nat) (lo v : Word) (s : State) : State :=
  applyAll [.reg o lo, .reg (o + 4) v, .held (pairKey f o) none] s

theorem exec_pairHiWrite_of_pair {f : Fn} {off o : Nat} (hwin : winOff f off = some (o + 4)) (hign : bar0Ignored f (o + 4) = false)
    (hpair : pairAt o = some true) (v : Word) (s : State) :
    exec (.pairHiWrite f off v) s = .next (pairLoaded f o ((s.pairHeld.find (pairKey f o)).getD (s.rd o)) v s) := by
  show (actPairHiWrite f off v).outcome s = _
  simp [actPairHiWrite, hwin, hign, hpair, pairLoaded]

section
variable (f o : Nat) (lo v : Word) (s : State)

theorem pairLoaded_regs : (pairLoaded f o lo v s).regs = regPut (regPut s.regs o lo) (o + 4) v := rfl

theorem pairLoaded_rd (a : Nat) :
    (pairLoaded f o lo v s).rd a = (regPut (regPut s.regs o lo) (o + 4) v).getD a (regReset a) := by
  rw [State.rd, pairLoaded_regs]

theorem pairLoaded_rd_lo : (pairLoaded f o lo v s).rd o = lo &&& regMask o := by
  rw [pairLoaded_rd, regPut_ne _ (by omega), regPut_same]

theorem pairLoaded_rd_hi : (pairLoaded f o lo v s).rd (o + 4) = v &&& regMask (o + 4) := by
  rw [pairLoaded_rd, regPut_same]

theorem pairLoaded_rd_ne (a : Nat) (hlo : a ≠ o) (hhi : a ≠ o + 4) : (pairLoaded f o lo v s).rd a = s.rd a := by
  rw [pairLoaded_rd, regPut_ne _ hhi, regPut_ne _ hlo, State.rd]

theorem pairLoaded_find : (pairLoaded f o lo v s).pairHeld.find (pairKey f o) = none := FMap.find_del_same ..

theorem pairLoaded_sameStores : sameStores s (pairLoaded f o lo v s) := ⟨rfl, rfl, rfl, rfl, rfl, rfl⟩

end

/-- Settles O53: with a low half held the write of the high half loads it; with none held it loads the low half in force, which has no
reserved bit set. -/
theorem pairWritesAreHeld : Obligations.PairWritesAreHeld := by
  intro f off o s hlo hhi hignLo hignHi hpair
  refine ⟨fun v => ?_, fun lo v hheld => ?_, fun v hs hnone => ?_⟩
  · exact ⟨loHeld f o v s, exec_pairLoWrite_of_pair hlo hignLo hpair v s, loHeld_find .., rfl, rfl, loHeld_sameStores ..⟩
  · have hexec := exec_pairHiWrite_of_pair hhi hignHi hpair v s
    rw [hheld, Option.getD_some] at hexec
    exact ⟨pairLoaded f o lo v s, hexec, pairLoaded_rd_lo .., pairLoaded_rd_hi .., pairLoaded_find .., pairLoaded_rd_ne f o lo v s,
      pairLoaded_sameStores ..⟩
  · have hexec := exec_pairHiWrite_of_pair hhi hignHi hpair v s
    rw [hnone, Option.getD_none] at hexec
    exact ⟨pairLoaded f o (s.rd o) v s, hexec, (pairLoaded_rd_lo ..).trans (rd_and_regMask hs o), pairLoaded_rd_hi ..,
      pairLoaded_rd_ne f o (s.rd o) v s, pairLoaded_sameStores ..⟩

end Sys2Proof.PairWrites
end

section
/-! A playback that a committed layer names (R593). -/
open Sys2Proof Sys2Proof.Machine Sys2Proof.ServiceTurn

namespace Sys2Proof.NamedPlayback

/-- An answer leaves the clip store, its recorders and playbacks included, as the command's act left it. -/
theorem answered_cst (k : Svc) (st : Nat) (bs : Bytes) (a : Act) (s : State) : (answered k st bs a s).cst = (a.run s).cst :=
  answered_keeps (·.cst) (fun _ he _ => by cases he <;> simp) ..

/-- A ready store passes the check that a command of the store makes of it (R567). -/
theorem noStore_fst_of_ready {s : State} (h : storeReady s = true) : (noStore s).1 = false := by
  simp [noStore, h]

theorem exec_playClose (s : State) : exec .playClose s = (turn 0xE22 hPlayClose).outcome s := rfl

/-- R593: a PLAY_CLOSE that passes every check before the last is refused with ST_CONFLICT where a committed layer names the handle. -/
theorem hPlayClose_of_named {k : Svc} {p : Playback} {s : State} (hlen : k.cmd.len = 4) (hh : k.n 0 1 < 16)
    (hrsv : zeroAt k.cmd.payload 1 3 = true) (hready : storeReady s = true) (hheld : heldPlay k s = some p)
    (hnamed : layerNames s 4 (k.n 0 1) = true) : hPlayClose k s = .refuse ST_CONFLICT := by
  have hrange : ¬ 15 < k.n 0 1 := by omega
  simp [hPlayClose, hlen, hrange, hrsv, noStore_fst_of_ready hready, hheld, hnamed]

/-- Settles O57: the close fails its last check only, and neither the refusal nor its answer reaches the clip store. -/
theorem namedPlaybackStays : Obligations.NamedPlaybackStays := by
  intro k p s hs hlen hh hrsv hready hheld hnamed
  have hrefuse := hPlayClose_of_named hlen hh hrsv hready hheld hnamed
  exact ⟨answered k ST_CONFLICT [] (eff []) s, (exec_playClose s).trans (outcome_turn_of_refuse hs hrefuse (by decide)), rfl,
    answered_cst ..⟩

end Sys2Proof.NamedPlayback
end

section
/-! Writes of HUB_RESET (R769): which writes count, and the boot state and the reset cause that a package reset leaves in HUB_BOOT. -/
open Sys2Proof Sys2Proof.Machine

namespace Sys2Proof.HubReset

theorem exec_hubPkgReset (v : Word) (s : State) : exec (.hubPkgReset v) s = (actHubPkgReset v).outcome s := rfl

theorem exec_armReboot (v : Word) (s : State) : exec (.armReboot v) s = (actArmReboot v).outcome s := rfl

/-! ### Which writes count -/

theorem resetKeyed_of_locked {s : State} (h : s.flag Reg.HUB_LOCK Fld.HUB_LOCK.LOCK = true) (v : Word) : resetKeyed s v = false := by
  simp [resetKeyed, h]

theorem resetKeyed_of_unlocked {s : State} {v : Word} (h : s.flag Reg.HUB_LOCK Fld.HUB_LOCK.LOCK = false)
    (hkey : getFld v Fld.HUB_RESET.KEY = 0x5A5A) : resetKeyed s v = true := by
  simp [resetKeyed, h, hkey]

/-! ### The two resets a write can ask for -/

theorem exec_hubPkgReset_of_not_keyed {s : State} {v : Word} (h : resetKeyed s v = false) : exec (.hubPkgReset v) s = .next s := by
  simp [exec_hubPkgReset, actHubPkgReset, h]

theorem exec_hubPkgReset_of_keyed {s : State} {v : Word} (h : resetKeyed s v = true) (hpkg : getFld v Fld.HUB_RESET.PKG_RESET = 1) :
    exec (.hubPkgReset v) s = .next ((pkgReset 2).run s) := by
  simp [exec_hubPkgReset, actHubPkgReset, h, hpkg]

theorem exec_armReboot_of_not_keyed {s : State} {v : Word} (h : resetKeyed s v = false) : exec (.armReboot v) s = .next s := by
  simp [exec_armReboot, actArmReboot, h]

/-- R769: the package reset of the same write leaves nothing to the Armature reboot. -/
theorem exec_armReboot_of_pkgReset {v : Word} (hpkg : getFld v Fld.HUB_RESET.PKG_RESET = 1) (s : State) :
    exec (.armReboot v) s = .next s := by
  simp [exec_armReboot, actArmReboot, hpkg]

/-! ### HUB_BOOT after a package reset -/

theorem covers_bootState : covers (regMask Reg.HUB_BOOT) Fld.HUB_BOOT.STATE = true := by decide +kernel

theorem covers_lastReset : covers (regMask Reg.HUB_BOOT) Fld.HUB_BOOT.LAST_RESET = true := by decide +kernel

/-- A load of another field of HUB_BOOT leaves the boot state. -/
theorem bootState_bootFld_other {f : Fld} (hf : f.lo ≤ f.hi + 1) (h : f.hi < Fld.HUB_BOOT.STATE.lo) (v : Nat) (s : State) :
    bootState ((bootFld f v).apply s) = bootState s :=
  fld_fld_other _ _ _ _ _ hf covers_bootState (.inl h)

theorem bootState_run_setBoot (n : Nat) (s : State) : bootState ((setBoot n).run s) = n % 8 :=
  (bootState_bootFld_other (by decide) (by decide) _ _).trans (fld_fld_same _ _ _ _ covers_bootState)

/-- Once the package is reset, boot restarts at BOOT, and the cause is loaded last. -/
theorem run_pkgReset {s : State} (hpwr : s.pins.sysPwrok = true) (hboot : 2 ≤ bootState s) (cause : Nat) :
    (pkgReset cause).run s = (bootFld Fld.HUB_BOOT.LAST_RESET cause).apply
      ((setBoot 2).run (Eff.packageReset.apply ((nvsRecord 2 (leBytes 1 cause)).run s))) := by
  simp [pkgReset, hpwr, Nat.not_lt.mpr hboot]

theorem bootState_run_pkgReset {s : State} (hpwr : s.pins.sysPwrok = true) (hboot : 2 ≤ bootState s) (cause : Nat) :
    bootState ((pkgReset cause).run s) = 2 := by
  rw [run_pkgReset hpwr hboot, bootState_bootFld_other (by decide) (by decide), bootState_run_setBoot]

theorem lastReset_run_pkgReset {s : State} (hpwr : s.pins.sysPwrok = true) (hboot : 2 ≤ bootState s) (cause : Nat) :
    ((pkgReset cause).run s).fld Reg.HUB_BOOT Fld.HUB_BOOT.LAST_RESET = cause % 4 := by
  rw [run_pkgReset hpwr hboot]
  exact fld_fld_same _ _ _ _ covers_lastReset

/-- Settles O58: a locked write does not count, and one that asks for both resets runs the package reset's act and not the reboot's. -/
theorem lockedResetIsIgnored : Obligations.LockedResetIsIgnored := by
  refine ⟨fun v s hlock => ?_, fun v s hlock hkey hpkg _ hpwr hboot => ?_⟩
  · have hkeyed := resetKeyed_of_locked hlock v
    exact ⟨exec_hubPkgReset_of_not_keyed hkeyed, exec_armReboot_of_not_keyed hkeyed⟩
  · exact ⟨exec_armReboot_of_pkgReset hpkg s, (pkgReset 2).run s, exec_hubPkgReset_of_keyed (resetKeyed_of_unlocked hlock hkey) hpkg,
      bootState_run_pkgReset hpwr hboot 2, lastReset_run_pkgReset hpwr hboot 2⟩

end Sys2Proof.HubReset
end

section
/-! What every step of the block does: a command's outcome is a list of effects applied to the state, so what every effect keeps every
step keeps. From that the invariant, the queue of commands, the trace and the counter of free values. -/
open Sys2Proof Sys2Proof.Machine Sys2Proof.PairWrites

namespace Sys2Proof.Steps

/-- A command's meaning is a list of effects. -/
theorem exec_eq_applyAll (c : Instr) (s : State) : ∃ es, exec c s = .next (applyAll es s) := by
  cases c <;> exact ⟨_, rfl⟩

theorem step_of_pending_cons {c : Instr} {rest : List Instr} {s : State} (h : s.pending = c :: rest) :
    step s = exec c { s with pending := rest } := by
  rw [step, h]

theorem step_of_pending_nil {s : State} (h : s.pending = []) : step s = .next (tick s) := by
  rw [step, h]

/-- A step is a list of effects on the state whose queue has lost the command. -/
theorem step_eq_applyAll (s : State) : ∃ rest es, step s = .next (applyAll es { s with pending := rest }) := by
  cases h : s.pending with
  | nil => exact ⟨[], actTick s, by rw [step_of_pending_nil h, ← h]; rfl⟩
  | cons c rest =>
    obtain ⟨es, hes⟩ := exec_eq_applyAll c { s with pending := rest }
    exact ⟨rest, es, (step_of_pending_cons h).trans hes⟩

/-- What a change of the queue and every effect keep, every step keeps. -/
theorem step_keeps {P : State → Prop} (hq : ∀ s q, P s → P { s with pending := q }) (he : ∀ (e : Eff) (s : State), P s → P (e.apply s))
    {s t : State} (hs : P s) (h : step s = .next t) : P t := by
  obtain ⟨rest, es, hes⟩ := step_eq_applyAll s
  rw [hes] at h
  cases h
  exact applyAll_keeps he es _ (hq s rest hs)

/-! ### The queue of commands -/

theorem apply_pending (e : Eff) (s : State) : (e.apply s).pending = s.pending := by
  cases e with
  | raise e => exact Eff.raise_pending e s
  | emit o => exact Eff.emit_pending o s
  | _ => rfl

theorem applyAll_pending (es : List Eff) (s : State) : (applyAll es s).pending = s.pending :=
  applyAll_keeps (P := fun t => t.pending = s.pending) (fun e t ht => (apply_pending e t).trans ht) es s rfl

/-- Settles O3: the next state is the one the command's effects leave, none of which touches the queue. -/
theorem everyCommandAnswers : Obligations.EveryCommandAnswers := by
  intro c s
  obtain ⟨es, hes⟩ := exec_eq_applyAll c s
  exact ⟨applyAll es s, hes, applyAll_pending es s⟩

/-- Settles O1: the queue's two forms are the two branches of a step. -/
theorem stepRunsFront : Obligations.StepRunsFront := fun _ _ _ h => step_of_pending_cons h

theorem uptime_tick (s : State) : (tick s).uptime = s.uptime + 1 := by
  have hsecond (t : State) : (applyAll (secondPassed t) t).uptime = t.uptime := by
    unfold secondPassed
    split <;> split <;> rfl
  have hcycle (t : State) :
      (applyAll (if t.uptime % secTicks = 0 then secondPassed t else []) t).uptime = t.uptime := by
    split
    · exact hsecond t
    · rfl
  simp only [tick, actTick, Act.run_eq, applyAll_acts_cons, acts_nil, applyAll_nil]
  exact hcycle _

/-- Settles O2: the cycle's first effect advances the clock, and the work of a full second leaves it. -/
theorem idleStepTicks : Obligations.IdleStepTicks := fun s h => ⟨step_of_pending_nil h, uptime_tick s⟩

/-! ### The register file in canonical form (R13) -/

theorem regsWf_mono {a b : Nat} (h : a ≤ b) {l : List (Nat × Word)} (hb : regsWf b l = true) : regsWf a l = true := by
  cases l with
  | nil => rfl
  | cons e t =>
    simp only [regsWf, Bool.and_eq_true, decide_eq_true_eq] at hb ⊢
    obtain ⟨⟨⟨hlo, hne⟩, hres⟩, ht⟩ := hb
    exact ⟨⟨⟨by omega, hne⟩, hres⟩, ht⟩

theorem regsWf_insert {k : Nat} {v : Word} (hne : v ≠ regReset k) (hres : v &&& ~~~regMask k = 0) {l : List (Nat × Word)} {lo : Nat}
    (hk : lo ≤ k) (h : regsWf lo l = true) : regsWf lo (mapInsert k v l) = true := by
  induction l generalizing lo with
  | nil => simp only [mapInsert, regsWf, Bool.and_eq_true, decide_eq_true_eq]; exact ⟨⟨⟨hk, hne⟩, hres⟩, trivial⟩
  | cons e t ih =>
    obtain ⟨k', v'⟩ := e
    simp only [regsWf, Bool.and_eq_true, decide_eq_true_eq] at h
    obtain ⟨⟨⟨hlo, hne'⟩, hres'⟩, ht⟩ := h
    unfold mapInsert
    split
    · simp only [regsWf, Bool.and_eq_true, decide_eq_true_eq]
      exact ⟨⟨⟨hk, hne⟩, hres⟩, ⟨⟨by omega, hne'⟩, hres'⟩, ht⟩
    · split
      · subst k
        simp only [regsWf, Bool.and_eq_true, decide_eq_true_eq]
        exact ⟨⟨⟨hk, hne⟩, hres⟩, ht⟩
      · simp only [regsWf, Bool.and_eq_true, decide_eq_true_eq]
        exact ⟨⟨⟨hlo, hne'⟩, hres'⟩, ih (by omega) ht⟩

theorem regsWf_erase {k : Nat} {l : List (Nat × Word)} {lo : Nat} (h : regsWf lo l = true) : regsWf lo (mapErase k l) = true := by
  induction l generalizing lo with
  | nil => rfl
  | cons e t ih =>
    obtain ⟨k', v'⟩ := e
    simp only [regsWf, Bool.and_eq_true, decide_eq_true_eq] at h
    obtain ⟨⟨⟨hlo, hne⟩, hres⟩, ht⟩ := h
    unfold mapErase
    split
    · exact regsWf_mono (by omega) (ih ht)
    · simp only [regsWf, Bool.and_eq_true, decide_eq_true_eq]
      exact ⟨⟨⟨hlo, hne⟩, hres⟩, ih ht⟩

/-- A register load clears the reserved bits and lists no register at its reset value. -/
theorem regsWf_regPut {m : FMap Word} (h : regsWf 0 m.entries = true) (off : Nat) (v : Word) :
    regsWf 0 (regPut m off v).entries = true := by
  unfold regPut
  dsimp only
  split
  · exact regsWf_erase h
  · next hne => exact regsWf_insert hne (by ext i; simp +contextual) (Nat.zero_le _) h

theorem regsWf_evtRegs {m : FMap Word} (h : regsWf 0 m.entries = true) (e : Nat) : regsWf 0 (evtRegs m e).entries = true :=
  regsWf_regPut (regsWf_regPut (regsWf_regPut h _ _) _ _) _ _

/-! ### The invariant -/

/-- Settles O5: the reset lists the mailbox states and nothing else. -/
theorem resetMeetsInv : Obligations.ResetMeetsInv := by
  unfold Obligations.ResetMeetsInv
  decide +kernel

theorem inv_raiseEvt {s : State} (h : Inv s) (e : Nat) : Inv (raiseEvt e s) := by
  unfold raiseEvt
  split
  · exact h
  · obtain ⟨hdev, hhost, hpage, hregs⟩ := h
    exact ⟨hdev, hhost, hpage, regsWf_evtRegs hregs e⟩

theorem inv_emit {s : State} (h : Inv s) (o : Out) : Inv ((Eff.emit o).apply s) := by
  simpa only [Machine.Inv, Eff.emit_devMem, Eff.emit_hostMem, Eff.emit_pageMem, Eff.emit_regs] using h

/-- A power-on reset leaves the memories and registers of the reset state, and the host's memory. -/
theorem inv_afterPowerOn {s : State} (h : Inv s) : Inv (afterPowerOn s) := by
  obtain ⟨-, hhost, -, -⟩ := h
  obtain ⟨hdev, -, hpage, hregs⟩ := resetMeetsInv
  exact ⟨hdev, hhost, hpage, regsWf_regPut hregs _ _⟩

theorem inv_afterPackageReset {s : State} (h : Inv s) : Inv (afterPackageReset s) := by
  obtain ⟨hdev, hhost, hpage, hregs⟩ := inv_afterPowerOn h
  exact ⟨hdev, hhost, hpage, regsWf_regPut (regsWf_regPut hregs _ _) _ _⟩

/-- Every effect keeps the invariant: the register loads, the writes of the three memories and the resets each by its own lemma, and no
other effect reaches what the invariant speaks of. -/
theorem inv_apply (e : Eff) (s : State) (h : Inv s) : Inv (e.apply s) := by
  have ⟨hdev, hhost, hpage, hregs⟩ := h
  cases e with
  | reg | fld | inc => exact ⟨hdev, hhost, hpage, regsWf_regPut hregs _ _⟩
  | raise e => exact inv_raiseEvt h e
  | emit o => exact inv_emit h o
  | dev => exact ⟨memWriteBytes_wf _ _ _ hdev, hhost, hpage, hregs⟩
  | host => exact ⟨hdev, memWriteBytes_wf _ _ _ hhost, hpage, hregs⟩
  | page => exact ⟨hdev, hhost, memWriteBytes_wf _ _ _ hpage, hregs⟩
  | devClear => exact ⟨memFilter_wf _ _ hdev, hhost, hpage, hregs⟩
  | powerOn => exact inv_afterPowerOn h
  | packageReset => exact inv_afterPackageReset h
  | _ => exact ⟨hdev, hhost, hpage, hregs⟩

/-- Settles O4: every effect keeps the invariant, and a step is a list of effects. -/
theorem stepKeepsInv : Obligations.StepKeepsInv := fun _ _ hs h => step_keeps (fun _ _ hs => hs) inv_apply hs h

/-- Settles O6: a word of the register file in canonical form is its own meet with the mask. -/
theorem reservedBitsReadZero : Obligations.ReservedBitsReadZero := by
  intro s off i hs hbit
  rw [← rd_and_regMask hs off, BitVec.getLsbD_and, hbit, Bool.and_false]

/-! ### The trace and the counter of free values -/

/-- The state's trace extends the earlier one's, and its counter is no smaller. -/
def Extends (s t : State) : Prop := (∃ new, t.out = s.out ++ new) ∧ s.freeCtr ≤ t.freeCtr

theorem Extends.refl (s : State) : Extends s s := ⟨⟨[], (List.append_nil _).symm⟩, Nat.le_refl _⟩

theorem Extends.trans {s t u : State} (hst : Extends s t) (htu : Extends t u) : Extends s u := by
  obtain ⟨⟨a, ha⟩, hctr⟩ := hst
  obtain ⟨⟨b, hb⟩, hctr'⟩ := htu
  exact ⟨⟨a ++ b, by rw [hb, ha, List.append_assoc]⟩, hctr.trans hctr'⟩

theorem extends_of_eq {s t : State} (hout : t.out = s.out) (hctr : s.freeCtr ≤ t.freeCtr) : Extends s t :=
  ⟨⟨[], by rw [hout, List.append_nil]⟩, hctr⟩

theorem extends_raiseEvt (e : Nat) (s : State) : Extends s (raiseEvt e s) := by
  unfold raiseEvt
  split
  · exact .refl s
  · dsimp only
    split
    · exact extends_of_eq rfl (Nat.le_refl _)
    · exact ⟨⟨_, rfl⟩, Nat.le_refl _⟩

theorem extends_emit (o : Out) (s : State) : Extends s ((Eff.emit o).apply s) := by
  show Extends s (if o.onLane && tripped s then s else { s with out := s.out ++ [o] })
  split
  · exact .refl s
  · exact ⟨⟨[o], rfl⟩, Nat.le_refl _⟩

/-- Only a raised event and a message add to the trace; only a draw and the resets advance the counter. -/
theorem extends_apply (e : Eff) (s : State) : Extends s (e.apply s) := by
  cases e with
  | raise e => exact extends_raiseEvt e s
  | emit o => exact extends_emit o s
  | draw | powerOn | packageReset => exact extends_of_eq rfl (Nat.le_succ _)
  | _ => exact extends_of_eq rfl (Nat.le_refl _)

/-- Settles O52: no effect takes back what was sent or drawn. -/
theorem traceOnlyGrows : Obligations.TraceOnlyGrows := fun s _ h =>
  step_keeps (P := Extends s) (fun _ _ h => h) (fun e t ht => ht.trans (extends_apply e t)) (.refl s) h

end Sys2Proof.Steps
end

section
/-! Reading registers, fields, events and parameters through effects: the words of a register family and their masks, and for each
reader of the state which effects it passes by. -/
open Sys2Proof Sys2Proof.Machine Sys2Proof.RolesAtReset Sys2Proof.PairWrites

namespace Sys2Proof.Reads

/-! ### Arithmetic progressions without a common term -/

/-- The first c terms of the progression from b by st and the first c' terms of the one from b' by st' have none in common, because one
ends before the other starts or because they differ modulo the common divisor of the strides. -/
def apart (b st c b' st' c' : Nat) : Bool :=
  decide (b + st * (c - 1) < b') || decide (b' + st' * (c' - 1) < b) || decide (b % Nat.gcd st st' ≠ b' % Nat.gcd st st')

theorem term_le {b st c n : Nat} (hn : n < c) : b + st * n ≤ b + st * (c - 1) :=
  Nat.add_le_add_left (Nat.mul_le_mul_left _ (by omega)) _

theorem term_mod {b st g : Nat} (h : g ∣ st) (n : Nat) : (b + st * n) % g = b % g := by
  obtain ⟨k, rfl⟩ := h
  rw [Nat.mul_assoc, Nat.add_mul_mod_self_left]

theorem term_ne_of_apart {b st c b' st' c' n m : Nat} (h : apart b st c b' st' c' = true) (hn : n < c) (hm : m < c') :
    b + st * n ≠ b' + st' * m := by
  simp only [apart, Bool.or_eq_true, decide_eq_true_eq] at h
  have hle : b + st * n ≤ b + st * (c - 1) := term_le hn
  have hle' : b' + st' * m ≤ b' + st' * (c' - 1) := term_le hm
  intro heq
  obtain (hend | hend) | hmod := h
  · have : b' ≤ b' + st' * m := Nat.le_add_right ..
    omega
  · have : b ≤ b + st * n := Nat.le_add_right ..
    omega
  · refine hmod ?_
    rw [← term_mod (Nat.gcd_dvd_left st st') n, heq, term_mod (Nat.gcd_dvd_right st st')]

/-! ### Register families -/

/-- Two families share no word. -/
def famApart (r q : RegRow) : Bool := apart r.base r.stride r.count q.base q.stride q.count

/-- No two families of the register map share a word. -/
theorem regTable_apart : regTable.Pairwise fun r q => famApart r q = true := by decide +kernel

theorem regTable_stride_pos : ∀ r ∈ regTable, 0 < r.stride := by decide +kernel

/-- A family that an offset is found in has the offset as one of its words. -/
theorem word_of_contains {r : RegRow} {off : Nat} (hlo : r.base ≤ off) (hmod : (off - r.base) % r.stride = 0) :
    off = r.base + r.stride * ((off - r.base) / r.stride) := by
  have := Nat.div_add_mod (off - r.base) r.stride
  omega

/-- A word of a family is found there, as no family before it holds the word too. -/
theorem regFind_word {l : List RegRow} (hl : l.Pairwise fun r q => famApart r q = true) (hpos : ∀ r ∈ l, 0 < r.stride) {r : RegRow}
    (hr : r ∈ l) {n : Nat} (hn : n < r.count) : regFind (r.base + r.stride * n) l = some (r, n) := by
  induction l with
  | nil => cases hr
  | cons q t ih =>
    obtain ⟨hq, ht⟩ := List.pairwise_cons.mp hl
    obtain ⟨-, hposT⟩ := List.forall_mem_cons.mp hpos
    obtain rfl | hr := List.mem_cons.mp hr
    · exact regFind_cons_of_word t hn (hpos _ List.mem_cons_self)
    · rw [regFind, if_neg, ih ht hposT hr]
      rintro ⟨hlo, hmod, hcount⟩
      exact term_ne_of_apart (hq r hr) hcount hn (word_of_contains hlo hmod).symm

/-- The family found at a base holds c words of the stride whose unreserved bits are those of the mask m. -/
def famMask (b st c : Nat) (m : Word) : Bool :=
  match regFind b regTable with
  | some (r, i) => decide (r.base + r.stride * i = b ∧ r.stride = st ∧ i + c ≤ r.count ∧ w32 (fieldMask r.fields) = m)
  | none => false

/-- The mask of the words of a register family. -/
theorem regMask_word {b st c n : Nat} {m : Word} (h : famMask b st c m = true) (hn : n < c) : regMask (b + st * n) = m := by
  unfold famMask at h
  split at h
  · next r i hfind =>
    obtain ⟨hb, hst, hcount, hm⟩ := of_decide_eq_true h
    have hword : b + st * n = r.base + r.stride * (i + n) := by rw [← hb, hst, Nat.mul_add, Nat.add_assoc]
    rw [regMask, hword, regFind_word regTable_apart regTable_stride_pos (mem_of_regFind hfind) (by omega)]
    exact hm
  · cases h

/-- The family found at a base holds c words of the stride, and the field lies in their unreserved bits. -/
def famCovers (b st c : Nat) (f : Fld) : Bool := famMask b st c (regMask b) && covers (regMask b) f

theorem covers_word {b st c n : Nat} {f : Fld} (h : famCovers b st c f = true) (hn : n < c) : covers (regMask (b + st * n)) f = true := by
  simp only [famCovers, Bool.and_eq_true] at h
  rw [regMask_word h.1 hn]
  exact h.2

/-! ### Parameters that are no copies -/

/-- The c parameters from b by st are no copies of registers. -/
def famPlain (b st c : Nat) : Bool := prmCopies.all fun r => apart b st c r.1 r.2.1 r.2.2.1

theorem copyFind_eq_none {b st c n : Nat} (hn : n < c) {l : List (Nat × Nat × Nat × Nat × Nat × Fld)}
    (h : (l.all fun r => apart b st c r.1 r.2.1 r.2.2.1) = true) : copyFind (b + st * n) l = none := by
  induction l with
  | nil => rfl
  | cons r t ih =>
    obtain ⟨rb, rst, rc, ro⟩ := r
    simp only [List.all_cons, Bool.and_eq_true] at h
    rw [copyFind, if_neg, ih h.2]
    rintro ⟨hlo, hmod, hcount⟩
    refine term_ne_of_apart h.1 hn hcount ?_
    have := Nat.div_add_mod (b + st * n - rb) rst
    omega

theorem plain_prm {b st c n : Nat} (h : famPlain b st c = true) (hn : n < c) : copyFind (b + st * n) prmCopies = none :=
  copyFind_eq_none hn h

/-- A parameter that is no copy is read from the parameters alone. -/
theorem pn_congr {s t : State} {id : Nat} (hc : copyFind id prmCopies = none) (h : t.prms = s.prms) : t.pn id = s.pn id := by
  simp only [State.pn, State.prm, hc, h]

theorem pn_prm_same {id : Nat} (hc : copyFind id prmCopies = none) (v : Word) (s : State) : ((Eff.prm id v).apply s).pn id = v.toNat :=
  congrArg BitVec.toNat (prm_prm_same id v s hc)

theorem pn_prm_ne {a id : Nat} (h : a ≠ id) (v : Word) (s : State) : ((Eff.prm id v).apply s).pn a = s.pn a :=
  congrArg BitVec.toNat (prm_prm_ne h v s)

theorem pn_lt (s : State) (id : Nat) : s.pn id < 2 ^ 32 := (s.prm id).isLt

theorem satAdd_le (max n k : Nat) : satAdd max n k ≤ max := by
  unfold satAdd
  split <;> omega

theorem pn_count_same {id : Nat} (hc : copyFind id prmCopies = none) (n : Nat) (s : State) :
    ((Eff.count id n).apply s).pn id = satAdd 0xFFFFFFFF (s.pn id) n := by
  have hlt := pn_lt s id
  have hle : satAdd 0xFFFFFFFF (s.pn id) n ≤ 0xFFFFFFFF := satAdd_le ..
  rw [State.pn, prm_count_same id n s hc, w32, BitVec.toNat_ofNat, Nat.mod_eq_of_lt (by omega)]

theorem pn_count_ne {a id : Nat} (h : a ≠ id) (n : Nat) (s : State) : ((Eff.count id n).apply s).pn a = s.pn a :=
  congrArg BitVec.toNat (prm_count_ne h n s)

/-! ### Which parts of the state an effect reaches -/

/-- The parts of the state. -/
inductive StatePart where
  | regs | prms | objs | devMem | hostMem | pageMem | poison | pairLatch | pairHeld | freeCtr | uptime | out | arm | thm
    | flt | lan | nvs | otp | pins | boot | cam | cast | str | wall | pat | lib | tlk | tim | aud | cst | mem | dma |
    sec
  deriving DecidableEq

/-- The effect may change the part. -/
def touches : Eff → StatePart → Bool
  | .reg .., p | .fld .., p | .inc .., p => p == .regs
  | .raise _, p => p == .regs || p == .out
  | .emit _, p => p == .out
  | .prm .., p | .count .., p | .count64 .., p => p == .prms
  | .obj .., p => p == .objs
  | .dev .., p => p == .devMem
  | .host .., p => p == .hostMem
  | .page .., p => p == .pageMem
  | .devClear .., p => p == .devMem || p == .poison
  | .poison .., p => p == .poison
  | .latch .., p => p == .pairLatch
  | .held .., p => p == .pairHeld
  | .draw, p => p == .freeCtr
  | .tick, p => p == .uptime
  | .arm _, p => p == .arm
  | .thm _, p => p == .thm
  | .flt _, p => p == .flt
  | .lan _, p => p == .lan
  | .nvs _, p => p == .nvs
  | .otp _, p => p == .otp
  | .pins _, p => p == .pins
  | .boot _, p => p == .boot
  | .cam _, p => p == .cam
  | .cast _, p => p == .cast
  | .str _, p => p == .str
  | .wall _, p => p == .wall
  | .pat _, p => p == .pat
  | .lib _, p => p == .lib
  | .tlk _, p => p == .tlk
  | .tim _, p => p == .tim
  | .aud _, p => p == .aud
  | .cst _, p => p == .cst
  | .mem _, p => p == .mem
  | .dma _, p => p == .dma
  | .sec _, p => p == .sec
  | .powerOn, _ | .packageReset, _ => true

/-- The second state has of the first every part that w does not name. -/
structure Agree (w : StatePart → Bool) (s t : State) : Prop where
  regs : w .regs = false → t.regs = s.regs
  prms : w .prms = false → t.prms = s.prms
  objs : w .objs = false → t.objs = s.objs
  devMem : w .devMem = false → t.devMem = s.devMem
  hostMem : w .hostMem = false → t.hostMem = s.hostMem
  pageMem : w .pageMem = false → t.pageMem = s.pageMem
  poison : w .poison = false → t.poison = s.poison
  pairLatch : w .pairLatch = false → t.pairLatch = s.pairLatch
  pairHeld : w .pairHeld = false → t.pairHeld = s.pairHeld
  freeCtr : w .freeCtr = false → t.freeCtr = s.freeCtr
  uptime : w .uptime = false → t.uptime = s.uptime
  out : w .out = false → t.out = s.out
  arm : w .arm = false → t.arm = s.arm
  thm : w .thm = false → t.thm = s.thm
  flt : w .flt = false → t.flt = s.flt
  lan : w .lan = false → t.lan = s.lan
  nvs : w .nvs = false → t.nvs = s.nvs
  otp : w .otp = false → t.otp = s.otp
  pins : w .pins = false → t.pins = s.pins
  boot : w .boot = false → t.boot = s.boot
  cam : w .cam = false → t.cam = s.cam
  cast : w .cast = false → t.cast = s.cast
  str : w .str = false → t.str = s.str
  wall : w .wall = false → t.wall = s.wall
  pat : w .pat = false → t.pat = s.pat
  lib : w .lib = false → t.lib = s.lib
  tlk : w .tlk = false → t.tlk = s.tlk
  tim : w .tim = false → t.tim = s.tim
  aud : w .aud = false → t.aud = s.aud
  cst : w .cst = false → t.cst = s.cst
  mem : w .mem = false → t.mem = s.mem
  dma : w .dma = false → t.dma = s.dma
  sec : w .sec = false → t.sec = s.sec

theorem Agree.refl (w : StatePart → Bool) (s : State) : Agree w s s := by
  constructor <;> exact fun _ => rfl

theorem Agree.trans {w : StatePart → Bool} {s t u : State} (hst : Agree w s t) (htu : Agree w t u) : Agree w s u where
  regs h := (htu.regs h).trans (hst.regs h)
  prms h := (htu.prms h).trans (hst.prms h)
  objs h := (htu.objs h).trans (hst.objs h)
  devMem h := (htu.devMem h).trans (hst.devMem h)
  hostMem h := (htu.hostMem h).trans (hst.hostMem h)
  pageMem h := (htu.pageMem h).trans (hst.pageMem h)
  poison h := (htu.poison h).trans (hst.poison h)
  pairLatch h := (htu.pairLatch h).trans (hst.pairLatch h)
  pairHeld h := (htu.pairHeld h).trans (hst.pairHeld h)
  freeCtr h := (htu.freeCtr h).trans (hst.freeCtr h)
  uptime h := (htu.uptime h).trans (hst.uptime h)
  out h := (htu.out h).trans (hst.out h)
  arm h := (htu.arm h).trans (hst.arm h)
  thm h := (htu.thm h).trans (hst.thm h)
  flt h := (htu.flt h).trans (hst.flt h)
  lan h := (htu.lan h).trans (hst.lan h)
  nvs h := (htu.nvs h).trans (hst.nvs h)
  otp h := (htu.otp h).trans (hst.otp h)
  pins h := (htu.pins h).trans (hst.pins h)
  boot h := (htu.boot h).trans (hst.boot h)
  cam h := (htu.cam h).trans (hst.cam h)
  cast h := (htu.cast h).trans (hst.cast h)
  str h := (htu.str h).trans (hst.str h)
  wall h := (htu.wall h).trans (hst.wall h)
  pat h := (htu.pat h).trans (hst.pat h)
  lib h := (htu.lib h).trans (hst.lib h)
  tlk h := (htu.tlk h).trans (hst.tlk h)
  tim h := (htu.tim h).trans (hst.tim h)
  aud h := (htu.aud h).trans (hst.aud h)
  cst h := (htu.cst h).trans (hst.cst h)
  mem h := (htu.mem h).trans (hst.mem h)
  dma h := (htu.dma h).trans (hst.dma h)
  sec h := (htu.sec h).trans (hst.sec h)

theorem Agree.mono {w v : StatePart → Bool} {s t : State} (h : Agree w s t) (hw : ∀ p, v p = false → w p = false) : Agree v s t where
  regs hv := h.regs (hw _ hv)
  prms hv := h.prms (hw _ hv)
  objs hv := h.objs (hw _ hv)
  devMem hv := h.devMem (hw _ hv)
  hostMem hv := h.hostMem (hw _ hv)
  pageMem hv := h.pageMem (hw _ hv)
  poison hv := h.poison (hw _ hv)
  pairLatch hv := h.pairLatch (hw _ hv)
  pairHeld hv := h.pairHeld (hw _ hv)
  freeCtr hv := h.freeCtr (hw _ hv)
  uptime hv := h.uptime (hw _ hv)
  out hv := h.out (hw _ hv)
  arm hv := h.arm (hw _ hv)
  thm hv := h.thm (hw _ hv)
  flt hv := h.flt (hw _ hv)
  lan hv := h.lan (hw _ hv)
  nvs hv := h.nvs (hw _ hv)
  otp hv := h.otp (hw _ hv)
  pins hv := h.pins (hw _ hv)
  boot hv := h.boot (hw _ hv)
  cam hv := h.cam (hw _ hv)
  cast hv := h.cast (hw _ hv)
  str hv := h.str (hw _ hv)
  wall hv := h.wall (hw _ hv)
  pat hv := h.pat (hw _ hv)
  lib hv := h.lib (hw _ hv)
  tlk hv := h.tlk (hw _ hv)
  tim hv := h.tim (hw _ hv)
  aud hv := h.aud (hw _ hv)
  cst hv := h.cst (hw _ hv)
  mem hv := h.mem (hw _ hv)
  dma hv := h.dma (hw _ hv)
  sec hv := h.sec (hw _ hv)

theorem Agree.sameStores {w : StatePart → Bool} {s t : State} (h : Agree w s t) (hdev : w .devMem = false) (hhost : w .hostMem = false)
    (hpage : w .pageMem = false) (hcst : w .cst = false) (hotp : w .otp = false) (hpins : w .pins = false) : Machine.sameStores s t :=
  ⟨h.devMem hdev, h.hostMem hhost, h.pageMem hpage, h.cst hcst, h.otp hotp, h.pins hpins⟩

/-- A raised event reaches the registers and the trace. -/
theorem agree_raiseEvt (n : Nat) (s : State) : Agree (touches (.raise n)) s (raiseEvt n s) := by
  unfold raiseEvt
  split
  · exact .refl _ s
  · constructor <;> first | exact fun _ => rfl | exact fun h => nomatch h

theorem agree_emit (o : Out) (s : State) : Agree (touches (.emit o)) s ((Eff.emit o).apply s) := by
  show Agree _ s (if o.onLane && tripped s then s else { s with out := s.out ++ [o] })
  split
  · exact .refl _ s
  · constructor <;> first | exact fun _ => rfl | exact fun h => nomatch h

theorem agree_apply (e : Eff) (s : State) : Agree (touches e) s (e.apply s) := by
  cases e with
  | raise n => exact agree_raiseEvt n s
  | emit o => exact agree_emit o s
  | _ => constructor <;> first | exact fun _ => rfl | exact fun h => nomatch h

/-- Some effect of the list may change the part. -/
def touchesAny (es : List Eff) (p : StatePart) : Bool := es.any fun e => touches e p

theorem agree_applyAll (es : List Eff) (s : State) : Agree (touchesAny es) s (applyAll es s) := by
  induction es generalizing s with
  | nil => exact .refl _ s
  | cons e t ih =>
    have hsplit (p : StatePart) (h : touchesAny (e :: t) p = false) : touches e p = false ∧ touchesAny t p = false := by
      simpa only [touchesAny, List.any_cons, Bool.or_eq_false_iff] using h
    exact ((agree_apply e s).mono fun p h => (hsplit p h).1).trans ((ih _).mono fun p h => (hsplit p h).2)

/-- The part is listed. -/
def among (l : List StatePart) (p : StatePart) : Bool := l.contains p

theorem sameStores_refl (s : State) : sameStores s s := ⟨rfl, rfl, rfl, rfl, rfl, rfl⟩

theorem sameStores_trans {s t u : State} (hst : sameStores s t) (htu : sameStores t u) : sameStores s u := by
  obtain ⟨hdev, hhost, hpage, hcst, hotp, hpins⟩ := hst
  obtain ⟨hdev', hhost', hpage', hcst', hotp', hpins'⟩ := htu
  exact ⟨hdev'.trans hdev, hhost'.trans hhost, hpage'.trans hpage, hcst'.trans hcst, hotp'.trans hotp, hpins'.trans hpins⟩

/-- No effect of the list reaches the memories, the clip store, the fuses or the pins. -/
def sparesStores (es : List Eff) : Bool :=
  [StatePart.devMem, .hostMem, .pageMem, .cst, .otp, .pins].all fun p => !touchesAny es p

theorem applyAll_sameStores {es : List Eff} (h : sparesStores es = true) (s : State) : sameStores s (applyAll es s) := by
  simp only [sparesStores, List.all_cons, List.all_nil, Bool.and_true, Bool.and_eq_true, Bool.not_eq_true'] at h
  obtain ⟨hdev, hhost, hpage, hcst, hotp, hpins⟩ := h
  exact (agree_applyAll es s).sameStores hdev hhost hpage hcst hotp hpins

/-! ### Readers of the register file, by an effect that loads no register -/

theorem regs_apply {e : Eff} (h : touches e .regs = false) (s : State) : (e.apply s).regs = s.regs := (agree_apply e s).regs h

theorem prms_apply {e : Eff} (h : touches e .prms = false) (s : State) : (e.apply s).prms = s.prms := (agree_apply e s).prms h

theorem rd_apply {e : Eff} (h : touches e .regs = false) (s : State) (a : Nat) : (e.apply s).rd a = s.rd a :=
  rd_congr (regs_apply h s) a

theorem fld_apply {e : Eff} (h : touches e .regs = false) (s : State) (a : Nat) (f : Fld) : (e.apply s).fld a f = s.fld a f :=
  fld_congr (regs_apply h s) a f

theorem flag_apply {e : Eff} (h : touches e .regs = false) (s : State) (a : Nat) (f : Fld) : (e.apply s).flag a f = s.flag a f := by
  rw [State.flag, fld_apply h, State.flag]

theorem evt_apply {e : Eff} (h : touches e .regs = false) (s : State) (n : Nat) : (e.apply s).evt n = s.evt n := by
  rw [State.evt, rd_apply h, State.evt]

theorem pn_apply {e : Eff} (h : touches e .regs = false) (h' : touches e .prms = false) (s : State) (id : Nat) :
    (e.apply s).pn id = s.pn id := by
  simp only [State.pn, State.prm, prms_apply h', fld_apply h]

/-! ### Readers of the register file, by an effect on a field -/

theorem flag_fld_same {off : Nat} {f : Fld} (h : covers (regMask off) f = true) (hw : f.hi = f.lo) (v : Nat) (s : State) :
    ((Eff.fld off f v).apply s).flag off f = (v % 2 == 1) := by
  rw [State.flag, fld_fld_same off f v s h, hw, Nat.add_sub_cancel_left, Nat.pow_one]

theorem flag_fld_other {off : Nat} {f g : Fld} (hf : f.lo ≤ f.hi + 1) (hg : covers (regMask off) g = true)
    (h : f.hi < g.lo ∨ g.hi < f.lo) (v : Nat) (s : State) : ((Eff.fld off f v).apply s).flag off g = s.flag off g := by
  rw [State.flag, fld_fld_other off f g v s hf hg h, State.flag]

theorem flag_fld_ne {a off : Nat} (h : a ≠ off) (f g : Fld) (v : Nat) (s : State) : ((Eff.fld off f v).apply s).flag a g = s.flag a g := by
  rw [State.flag, fld_fld_ne h, State.flag]

theorem flag_reg_ne {a off : Nat} (h : a ≠ off) (g : Fld) (v : Word) (s : State) : ((Eff.reg off v).apply s).flag a g = s.flag a g := by
  rw [State.flag, fld_reg_ne h, State.flag]

theorem fld_inc_ne {a off : Nat} (h : a ≠ off) (f g : Fld) (n : Nat) (s : State) : ((Eff.inc off f n).apply s).fld a g = s.fld a g :=
  fld_fld_ne h f g _ s

theorem flag_inc_ne {a off : Nat} (h : a ≠ off) (f g : Fld) (n : Nat) (s : State) : ((Eff.inc off f n).apply s).flag a g = s.flag a g :=
  flag_fld_ne h f g _ s

/-- The value of a field is less than its width allows. -/
theorem fld_lt (s : State) (off : Nat) (f : Fld) : s.fld off f < 2 ^ (f.hi + 1 - f.lo) := Nat.mod_lt _ (Nat.two_pow_pos _)

theorem fld_inc_same {off : Nat} {f : Fld} (h : covers (regMask off) f = true) (n : Nat) (s : State) :
    ((Eff.inc off f n).apply s).fld off f = satAdd (2 ^ (f.hi + 1 - f.lo) - 1) (s.fld off f) n := by
  have hlt := fld_lt s off f
  have hle : satAdd (2 ^ (f.hi + 1 - f.lo) - 1) (s.fld off f) n ≤ 2 ^ (f.hi + 1 - f.lo) - 1 := satAdd_le ..
  have hset := fld_fld_same off f (satAdd (2 ^ (f.hi + 1 - f.lo) - 1) (s.fld off f) n) s h
  rw [Nat.mod_eq_of_lt (by omega)] at hset
  exact hset

/-- A field that was loaded with a whole register. -/
theorem fld_reg_same {off : Nat} {f : Fld} (h : covers (regMask off) f = true) (v : Word) (s : State) :
    ((Eff.reg off v).apply s).fld off f = getFld v f := by
  have hc : f.lo ≤ f.hi + 1 ∧ f.hi < 32 := by
    simp only [covers, Bool.and_eq_true, decide_eq_true_eq] at h
    exact h.1
  rw [State.fld, rd_reg_same, getFld]
  apply Nat.eq_of_testBit_eq
  intro i
  rw [testBit_bitsOf, testBit_bitsOf, BitVec.toNat_and, Nat.testBit_and]
  by_cases hi : i < f.hi + 1 - f.lo
  · have hm : (regMask off).toNat.testBit (f.lo + i) = true := covers_bit h (by omega) (by omega)
    rw [hm, Bool.and_true]
  · simp [hi]

/-! ### Event sources -/

/-- The status words of the event matrix and its two count words. -/
def eventWord (a : Nat) : Bool := decide (0x10000 ≤ a ∧ a < 0x10020) || decide (a = 0x10060 ∨ a = 0x10064)

theorem eventWord_of_lt {a : Nat} (h : a < 0x10000) : eventWord a = false := by
  simp only [eventWord, Bool.or_eq_false_iff, decide_eq_false_iff_not]
  omega

theorem eventWord_of_gt {a : Nat} (h : 0x10064 < a) : eventWord a = false := by
  simp only [eventWord, Bool.or_eq_false_iff, decide_eq_false_iff_not]
  omega

theorem regs_raise {e : Nat} (h : evtReserved e = false) (s : State) : ((Eff.raise e).apply s).regs = evtRegs s.regs e := by
  show (raiseEvt e s).regs = _
  rw [raiseEvt, if_neg (by simp [h])]

theorem raise_of_reserved {e : Nat} (h : evtReserved e = true) (s : State) : (Eff.raise e).apply s = s := if_pos h

theorem lt_of_not_reserved {e : Nat} (h : evtReserved e = false) : e < 256 := by
  simp only [evtReserved, Bool.or_eq_false_iff, decide_eq_false_iff_not] at h
  omega

/-- A raised event loads its status word and the two count words, and no other register. -/
theorem rd_raise_ne {e a : Nat} (hst : a ≠ Reg.EVT_STATUS (e / 32)) (hlo : a ≠ Reg.EVT_LOG_COUNT_LO) (hhi : a ≠ Reg.EVT_LOG_COUNT_HI)
    (s : State) : ((Eff.raise e).apply s).rd a = s.rd a := by
  cases h : evtReserved e with
  | true => rw [raise_of_reserved h]
  | false =>
    rw [State.rd, regs_raise h, evtRegs, regPut_ne _ hhi, regPut_ne _ hlo, regPut_ne _ hst, State.rd]

theorem rd_raise {a : Nat} (h : eventWord a = false) (e : Nat) (s : State) : ((Eff.raise e).apply s).rd a = s.rd a := by
  simp only [eventWord, Bool.or_eq_false_iff, decide_eq_false_iff_not] at h
  cases hr : evtReserved e with
  | true => rw [raise_of_reserved hr]
  | false =>
    have := lt_of_not_reserved hr
    exact rd_raise_ne (by unfold Reg.EVT_STATUS; omega) (by unfold Reg.EVT_LOG_COUNT_LO; omega) (by unfold Reg.EVT_LOG_COUNT_HI; omega) s

theorem fld_raise {a : Nat} (h : eventWord a = false) (e : Nat) (f : Fld) (s : State) : ((Eff.raise e).apply s).fld a f = s.fld a f := by
  rw [State.fld, rd_raise h, State.fld]

theorem flag_raise {a : Nat} (h : eventWord a = false) (e : Nat) (f : Fld) (s : State) : ((Eff.raise e).apply s).flag a f = s.flag a f := by
  rw [State.flag, fld_raise h, State.flag]

/-- The status word after an event was raised: the bit of the source is set, and its reserved bits are cleared. -/
theorem rd_raise_status {e : Nat} (h : evtReserved e = false) (s : State) :
    ((Eff.raise e).apply s).rd (Reg.EVT_STATUS (e / 32)) =
      (s.rd (Reg.EVT_STATUS (e / 32)) ||| BitVec.twoPow 32 (e % 32)) &&& regMask (Reg.EVT_STATUS (e / 32)) := by
  have := lt_of_not_reserved h
  rw [State.rd, regs_raise h, evtRegs, regPut_ne _ (by unfold Reg.EVT_STATUS Reg.EVT_LOG_COUNT_HI; omega), regPut_ne _ (by unfold Reg.EVT_STATUS Reg.EVT_LOG_COUNT_LO; omega),
    regPut_same, State.rd]

/-- Every source that is not reserved has its bit in the mask of its status word. -/
theorem regMask_status_bit : ∀ e, e < 256 → evtReserved e = false → (regMask (Reg.EVT_STATUS (e / 32))).getLsbD (e % 32) = true := by
  decide +kernel

theorem evt_raise_same {e : Nat} (h : evtReserved e = false) (s : State) : ((Eff.raise e).apply s).evt e = true := by
  rw [State.evt, rd_raise_status h, BitVec.getLsbD_and, BitVec.getLsbD_or, regMask_status_bit e (lt_of_not_reserved h) h]
  simp [Nat.mod_lt]

/-- An event that is set and not reserved stays set when another is raised. -/
theorem evt_raise_of_evt {n : Nat} (hn : evtReserved n = false) (e : Nat) {s : State} (hs : s.evt n = true) :
    ((Eff.raise e).apply s).evt n = true := by
  cases he : evtReserved e with
  | true => rw [raise_of_reserved he, hs]
  | false =>
    have hlt := lt_of_not_reserved hn
    rw [State.evt] at hs ⊢
    by_cases hw : n / 32 = e / 32
    · rw [hw] at hs ⊢
      rw [rd_raise_status he, BitVec.getLsbD_and, BitVec.getLsbD_or, hs, ← hw, regMask_status_bit n hlt hn]
      rfl
    · rw [rd_raise_ne _ _ _, hs]
      · unfold Reg.EVT_STATUS; omega
      · unfold Reg.EVT_STATUS Reg.EVT_LOG_COUNT_LO; omega
      · unfold Reg.EVT_STATUS Reg.EVT_LOG_COUNT_HI; omega

/-- A register of another part of the map leaves the events. -/
theorem evt_of_rd {s t : State} (h : ∀ a, eventWord a = true → t.rd a = s.rd a) {n : Nat} (hn : n < 256) : t.evt n = s.evt n := by
  rw [State.evt, h, State.evt]
  refine (Bool.or_eq_true _ _).mpr (.inl (decide_eq_true ?_))
  unfold Reg.EVT_STATUS
  omega

theorem ne_of_eventWord {a off : Nat} (ha : eventWord a = true) (hoff : eventWord off = false) : a ≠ off := by
  rintro rfl
  exact absurd ha (by simp [hoff])

theorem evt_fld {off : Nat} (h : eventWord off = false) {n : Nat} (hn : n < 256) (f : Fld) (v : Nat) (s : State) :
    ((Eff.fld off f v).apply s).evt n = s.evt n :=
  evt_of_rd (fun _ ha => rd_fld_ne (ne_of_eventWord ha h) ..) hn

theorem evt_reg {off : Nat} (h : eventWord off = false) {n : Nat} (hn : n < 256) (v : Word) (s : State) :
    ((Eff.reg off v).apply s).evt n = s.evt n :=
  evt_of_rd (fun _ ha => rd_reg_ne (ne_of_eventWord ha h) ..) hn

theorem evt_inc {off : Nat} (h : eventWord off = false) {n : Nat} (hn : n < 256) (f : Fld) (k : Nat) (s : State) :
    ((Eff.inc off f k).apply s).evt n = s.evt n :=
  evt_fld h hn f _ s

end Sys2Proof.Reads
end

section
/-! The access types of register fields (R132), and the plain effects: a raised event clears what a state outside the invariant may hold
in the reserved bits of its status word. -/
open Sys2Proof Sys2Proof.Machine Sys2Proof.Reads

namespace Sys2Proof.AccessTypes

theorem ldiff_add_and (m n : Nat) : Nat.ldiff m n + (m &&& n) = m := by
  induction m using Nat.binaryRec' generalizing n with
  | zero => simp [Nat.ldiff]
  | bit b m _ ih =>
    rw [← Nat.bit_testBit_zero_shiftRight_one n, Nat.ldiff_bit, Nat.land_bit]
    have := ih (n >>> 1)
    cases b <;> cases n.testBit 0 <;> simp only [Nat.bit_val, Bool.and_true, Bool.and_false, Bool.not_true, Bool.not_false,
      Bool.toNat_true, Bool.toNat_false] <;> omega

/-- The bits that a write of 1 clears. -/
theorem testBit_sub_and (m n i : Nat) : (m - (m &&& n)).testBit i = (m.testBit i && !n.testBit i) := by
  have hdiff : m - (m &&& n) = Nat.ldiff m n := by
    have := ldiff_add_and m n
    omega
  rw [hdiff, Nat.testBit_ldiff]

/-- What a host write of n leaves in a field that held o. -/
def accessField (locked : Bool) (a : Access) (n o : Nat) : Nat :=
  match a with
  | .rw => n
  | .rwl => if locked then o else n
  | .w1c => o - (o &&& n)
  | .w1s => o ||| n
  | _ => o

theorem accessWord_cons (locked : Bool) (r : FieldRow) (t : List FieldRow) (v old : Nat) :
    accessWord locked (r :: t) v old =
      putBits (accessWord locked t v old) r.hi r.lo (accessField locked r.acc (bitsOf v r.hi r.lo) (bitsOf old r.hi r.lo)) := by
  obtain ⟨hi, lo, acc⟩ := r
  cases acc <;> rfl

/-- A field's own bits are those its access type leaves, whatever the fields after it leave. -/
theorem testBit_accessWord_head (locked : Bool) (r : FieldRow) (t : List FieldRow) (v old : Nat) {i : Nat} (hlo : r.lo ≤ i) (hhi : i ≤ r.hi) :
    (accessWord locked (r :: t) v old).testBit i =
      (accessField locked r.acc (bitsOf v r.hi r.lo) (bitsOf old r.hi r.lo)).testBit (i - r.lo) := by
  rw [accessWord_cons, testBit_putBits _ _ _ _ _ (by omega), if_neg (by omega), if_pos hhi]

/-- The bits of a field apart from the first are left by the fields after it. -/
theorem testBit_accessWord_tail (locked : Bool) {r : FieldRow} (t : List FieldRow) (v old : Nat) {i : Nat} (hr : r.lo ≤ r.hi + 1)
    (h : i < r.lo ∨ r.hi < i) : (accessWord locked (r :: t) v old).testBit i = (accessWord locked t v old).testBit i := by
  rw [accessWord_cons, testBit_putBits _ _ _ _ _ hr]
  split
  · rfl
  · rw [if_neg (by omega)]

/-- Settles O8: the bits of a field are those of its own row, as no other row reaches them. -/
theorem accessTypes : Obligations.AccessTypes := by
  intro locked rows v old i r hdis hbounds hr hlo hhi
  induction rows with
  | nil => cases hr
  | cons q t ih =>
    obtain ⟨hq, ht⟩ := List.pairwise_cons.mp hdis
    obtain ⟨hqb, htb⟩ := List.forall_mem_cons.mp hbounds
    obtain rfl | hrt := List.mem_cons.mp hr
    · have hpos : r.lo + (i - r.lo) = i := by omega
      have hin : i - r.lo < r.hi + 1 - r.lo := by omega
      rw [testBit_accessWord_head locked r t v old hlo hhi]
      cases r.acc with
      | rwl => cases locked <;> simp [accessField, testBit_bitsOf, hpos, hin]
      | w1c => simp [accessField, testBit_sub_and, testBit_bitsOf, hpos, hin]
      | w1s => simp [accessField, Nat.testBit_or, testBit_bitsOf, hpos, hin]
      | rw | ro | wo | sc => simp [accessField, testBit_bitsOf, hpos, hin]
    · have := hq r hrt
      rw [testBit_accessWord_tail locked t v old (by omega) (by omega)]
      exact ih ht htb hrt

end Sys2Proof.AccessTypes
end

section
/-! What each of the plain effects leaves and keeps. -/
open Sys2Proof Sys2Proof.Machine Sys2Proof.Reads

namespace Sys2Proof.EffectReads

theorem covers_of_bits {m : Word} {f : Fld} (h : ∀ i, f.lo ≤ i → i ≤ f.hi → m.getLsbD i = true) (hf : f.lo ≤ f.hi) :
    covers m f = true := by
  have hhi : f.hi < 32 := by
    by_contra hge
    have := h f.hi hf (Nat.le_refl _)
    rw [BitVec.getLsbD_of_ge _ _ (by omega)] at this
    cases this
  simp only [covers, Bool.and_eq_true, decide_eq_true_eq, List.all_eq_true, Bool.or_eq_true, Bool.not_eq_true', decide_eq_false_iff_not]
  refine ⟨⟨by omega, hhi⟩, fun i _ => ?_⟩
  by_cases hi : f.lo ≤ i ∧ i ≤ f.hi
  · exact .inr (h i hi.1 hi.2)
  · exact .inl hi

theorem obj_obj_same (k j : Nat) (d : Option Bytes) (s : State) : ((Eff.obj k j d).apply s).obj k j = d := by
  cases d with
  | none => exact FMap.find_del_same ..
  | some b => exact FMap.find_put_same ..

theorem obj_obj_ne {k j a b : Nat} (h : objKey a b ≠ objKey k j) (d : Option Bytes) (s : State) :
    ((Eff.obj k j d).apply s).obj a b = s.obj a b := by
  cases d with
  | none => exact FMap.find_del_ne _ h
  | some b => exact FMap.find_put_ne _ h _

theorem memReadBytes_writeBytes_of_disjoint (m : Mem) (a b n : Nat) (bs : Bytes) (h : b + n ≤ a ∨ a + bs.length ≤ b) :
    memReadBytes (memWriteBytes m a bs) b n = memReadBytes m b n := by
  induction n generalizing b with
  | zero => rfl
  | succ n ih =>
    rw [memReadBytes, memReadBytes, memRead_writeBytes_out _ _ _ _ (by omega), ih _ (by omega)]

theorem memReadBytes_writeBytes_same (m : Mem) (a : Nat) (bs : Bytes) : memReadBytes (memWriteBytes m a bs) a bs.length = bs := by
  induction bs generalizing m a with
  | nil => rfl
  | cons b t ih =>
    rw [List.length_cons, memReadBytes, memWriteBytes, ih, memRead_writeBytes_out _ _ _ _ (by omega), memRead_write_same]

/-- The status words have no reserved bits: a reserved source is one that nothing sets (R156). -/
theorem regMask_status {k : Nat} (h : k < 8) : regMask (Reg.EVT_STATUS k) = 0xFFFFFFFF#32 :=
  regMask_word (b := 0x10000) (st := 4) (c := 8) (by decide +kernel) h

theorem getLsbD_twoPow_of_ne {i j : Nat} (h : i ≠ j) (w : Nat) : (BitVec.twoPow w i).getLsbD j = false := by
  simp [BitVec.getLsbD_twoPow, h]

/-- Another source keeps its status bit. -/
theorem evt_raise_ne {d e : Nat} (hne : d ≠ e) (hd : d < 256) (s : State) : ((Eff.raise e).apply s).evt d = s.evt d := by
  cases he : evtReserved e with
  | true => rw [raise_of_reserved he]
  | false =>
    rw [State.evt, State.evt]
    by_cases hw : d / 32 = e / 32
    · have hbit : e % 32 ≠ d % 32 := by omega
      rw [hw, rd_raise_status he, regMask_status (by omega), BitVec.getLsbD_and, BitVec.getLsbD_or, getLsbD_twoPow_of_ne hbit]
      have hones : (0xFFFFFFFF#32).getLsbD (d % 32) = true := by
        rw [show 0xFFFFFFFF#32 = BitVec.allOnes 32 from rfl, BitVec.getLsbD_allOnes]
        exact decide_eq_true (by omega)
      rw [hones, Bool.or_false, Bool.and_true]
    · rw [rd_raise_ne]
      · unfold Reg.EVT_STATUS; omega
      · unfold Reg.EVT_STATUS Reg.EVT_LOG_COUNT_LO; omega
      · unfold Reg.EVT_STATUS Reg.EVT_LOG_COUNT_HI; omega

theorem rd_raise_of_beyond {a : Nat} (h : a < Reg.EVT_STATUS 0 ∨ Reg.EVT_STATUS 7 < a) (hlo : a ≠ Reg.EVT_LOG_COUNT_LO)
    (hhi : a ≠ Reg.EVT_LOG_COUNT_HI) (e : Nat) (s : State) : ((Eff.raise e).apply s).rd a = s.rd a := by
  cases he : evtReserved e with
  | true => rw [raise_of_reserved he]
  | false =>
    have := lt_of_not_reserved he
    refine rd_raise_ne ?_ hlo hhi s
    unfold Reg.EVT_STATUS at h ⊢
    omega

theorem raise_eq {e : Nat} (h : evtReserved e = false) (s : State) :
    (Eff.raise e).apply s = { s with regs := ((Eff.raise e).apply s).regs, out := ((Eff.raise e).apply s).out } := by
  show raiseEvt e s = { s with regs := (raiseEvt e s).regs, out := (raiseEvt e s).out }
  rw [raiseEvt, if_neg (by simp [h])]

theorem emit_of_leaves {o : Out} {s : State} (h : tripped s = false ∨ o.onLane = false) :
    (Eff.emit o).apply s = { s with out := s.out ++ [o] } := by
  show (if o.onLane && tripped s then s else { s with out := s.out ++ [o] }) = _
  exact if_neg (by obtain h | h := h <;> simp [h])

theorem emit_of_tripped {o : Out} {s : State} (h : tripped s = true) (ho : o.onLane = true) : (Eff.emit o).apply s = s := by
  show (if o.onLane && tripped s then s else { s with out := s.out ++ [o] }) = _
  exact if_pos (by simp [h, ho])

theorem out_raise_of_tripped {s : State} (h : tripped s = true) (e : Nat) : ((Eff.raise e).apply s).out = s.out := by
  show (raiseEvt e s).out = s.out
  simp only [raiseEvt, h, if_true]
  split <;> rfl

/-- Settles O51: each effect by its own lemmas. -/
theorem effectReads : Obligations.EffectReads :=
  ⟨fun a v s => ⟨rd_reg_same a v s, fun _ hb => rd_reg_ne hb v s, rfl⟩,
    fun a f v s => ⟨rd_fld_same a f v s, fun _ hb => rd_fld_ne hb f v s, rfl⟩,
    fun _ _ n s hbits hf => fld_inc_same (covers_of_bits hbits hf) n s,
    fun id v s => ⟨prm_prm_same id v s, fun _ hb => prm_prm_ne hb v s, rfl⟩,
    fun _ n s hc => pn_count_same hc n s,
    fun k j d s => ⟨obj_obj_same k j d s, fun _ _ h => obj_obj_ne h d s, rfl⟩,
    fun a bs s => ⟨memReadBytes_writeBytes_same s.devMem a bs, memRead_writeBytes_out bs s.devMem a, rfl⟩,
    fun e s he => ⟨evt_raise_same he s, fun _ hne hd => evt_raise_ne hne hd s, fun _ ha hlo hhi => rd_raise_of_beyond ha hlo hhi e s,
      raise_eq he s⟩,
    fun _ s he => raise_of_reserved he s,
    fun _ _ h => emit_of_leaves h,
    fun _ _ h ho => emit_of_tripped h ho,
    fun e _ h => out_raise_of_tripped h e,
    fun es fs s => applyAll_append es fs s⟩

end Sys2Proof.EffectReads
end

section
/-! Tickets (R101 to R103): what the ticket counts of MBX_STATE follow, and what the completion of a ticket's work leaves. -/
open Sys2Proof Sys2Proof.Machine Sys2Proof.BusyDoorbell Sys2Proof.Reads

namespace Sys2Proof.Tickets

/-! ### The mailbox state word -/

theorem eventWord_mbxState (f : Nat) : eventWord (Reg.MBX_STATE f) = false :=
  eventWord_of_gt (by unfold Reg.MBX_STATE; omega)

theorem covers_ticketsDone {f : Nat} (hf : f < 64) : covers (regMask (Reg.MBX_STATE f)) Fld.MBX_STATE.TICKETS_DONE = true :=
  covers_word (b := 0x21FF4) (st := 0x2000) (c := 64) (by decide +kernel) hf

/-! ### The ticket counts -/

theorem syncTickets_eq {f : Nat} (hf : f < 64) (s : State) : syncTickets f s =
    [.fld (Reg.MBX_STATE f) Fld.MBX_STATE.TICKETS_OPEN (s.mbx f).tickets.length,
     .fld (Reg.MBX_STATE f) Fld.MBX_STATE.TICKETS_DONE ((s.mbx f).tickets.filter (·.done)).length] :=
  if_neg (by omega)

theorem arm_run_syncTickets (f : Nat) (s : State) : ((syncTickets f).run s).arm = s.arm := by
  refine (agree_applyAll _ s).arm ?_
  unfold syncTickets
  split <;> rfl

theorem sameStores_run_syncTickets (f : Nat) (s : State) : sameStores s ((syncTickets f).run s) := by
  refine applyAll_sameStores ?_ s
  unfold syncTickets
  split <;> rfl

theorem evt_run_syncTickets (f : Nat) {n : Nat} (hn : n < 256) (s : State) : ((syncTickets f).run s).evt n = s.evt n := by
  simp only [Act.run_eq, syncTickets]
  split
  · rfl
  · simp only [applyAll_cons, applyAll_nil, evt_fld (eventWord_mbxState f) hn]

theorem ticketsDone_run_syncTickets {f : Nat} (hf : f < 64) (s : State) (h : (s.mbx f).tickets.length < 32) :
    ((syncTickets f).run s).fld (Reg.MBX_STATE f) Fld.MBX_STATE.TICKETS_DONE = ((s.mbx f).tickets.filter (·.done)).length := by
  have hle := List.length_filter_le (·.done) (s.mbx f).tickets
  rw [Act.run_eq, syncTickets_eq hf, applyAll_cons, applyAll_cons, applyAll_nil, fld_fld_same _ _ _ _ (covers_ticketsDone hf)]
  exact Nat.mod_eq_of_lt (show _ < 32 by omega)

/-! ### A ticket's work completes (R103) -/

/-- A ticket after the work of ticket id completed as the n-th. -/
def completed (id status : Nat) (result : Bytes) (n : Nat) (t : Ticket) : Ticket :=
  if t.id = id then { t with done := true, status := status, result := result, order := n } else t

@[simp] theorem completed_id (id status : Nat) (result : Bytes) (n : Nat) (t : Ticket) : (completed id status result n t).id = t.id := by
  unfold completed
  split <;> rfl

theorem completed_of_ne {id : Nat} {t : Ticket} (h : t.id ≠ id) (status : Nat) (result : Bytes) (n : Nat) :
    completed id status result n t = t :=
  if_neg h

/-- The state after the work of an open ticket is stored in it, before the counts follow. -/
def stored (f id status : Nat) (result : Bytes) (poll : Bool) (s : State) : State :=
  applyAll ([effMbx f fun b => { b with tickets := b.tickets.map (completed id status result s.arm.clock) },
    .arm fun a => { a with clock := a.clock + 1 }] ++ if poll ∨ 64 ≤ f then [] else [.raise f]) s

theorem run_completeTicket_of_open {f id : Nat} {k : Ticket} {s : State} (h : s.ticket f id = some k) (hk : k.done = false) (status : Nat)
    (result : Bytes) : (completeTicket f id status result).run s = (syncTickets f).run (stored f id status result k.poll s) := by
  simp only [completeTicket, Act.run_eq, applyAll_acts_cons, acts_nil, applyAll_nil, h, hk, Bool.false_eq_true, if_false]
  rfl

theorem run_completeTicket_of_none {f id : Nat} {s : State} (h : s.ticket f id = none) (status : Nat) (result : Bytes) :
    (completeTicket f id status result).run s = (syncTickets f).run s := by
  simp only [completeTicket, Act.run_eq, applyAll_acts_cons, acts_nil, applyAll_nil, h]

theorem run_completeTicket_of_done {f id : Nat} {k : Ticket} {s : State} (h : s.ticket f id = some k) (hk : k.done = true) (status : Nat)
    (result : Bytes) : (completeTicket f id status result).run s = (syncTickets f).run s := by
  simp only [completeTicket, Act.run_eq, applyAll_acts_cons, acts_nil, applyAll_nil, h, hk, if_true]

theorem mbx_stored (f id status : Nat) (result : Bytes) (poll : Bool) (s : State) :
    ((stored f id status result poll s).mbx f).tickets = (s.mbx f).tickets.map (completed id status result s.arm.clock) := by
  unfold stored
  split <;> simp [State.mbx, effMbx]

theorem sameStores_stored (f id status : Nat) (result : Bytes) (poll : Bool) (s : State) :
    sameStores s (stored f id status result poll s) := by
  refine applyAll_sameStores ?_ s
  split <;> rfl

theorem evt_stored {f : Nat} (hf : f < 64) (id status : Nat) (result : Bytes) (s : State) :
    (stored f id status result false s).evt f = true := by
  have hres : evtReserved f = false := by
    simp only [evtReserved, Bool.or_eq_false_iff, Bool.and_eq_false_iff, decide_eq_false_iff_not]
    omega
  simp only [stored, Bool.false_eq_true, false_or, if_neg (show ¬ 64 ≤ f by omega), applyAll_append, applyAll_cons, applyAll_nil]
  exact evt_raise_same hres _

theorem sameStores_run_completeTicket (f id status : Nat) (result : Bytes) (s : State) :
    sameStores s ((completeTicket f id status result).run s) := by
  cases h : s.ticket f id with
  | none => rw [run_completeTicket_of_none h]; exact sameStores_run_syncTickets f s
  | some k =>
    cases hk : k.done with
    | true => rw [run_completeTicket_of_done h hk]; exact sameStores_run_syncTickets f s
    | false =>
      rw [run_completeTicket_of_open h hk]
      exact sameStores_trans (sameStores_stored f id status result k.poll s) (sameStores_run_syncTickets f _)

theorem evt_run_completeTicket {f id : Nat} (hf : f < 64) {k : Ticket} {s : State} (h : s.ticket f id = some k) (hk : k.done = false)
    (hpoll : k.poll = false) (status : Nat) (result : Bytes) : ((completeTicket f id status result).run s).evt f = true := by
  rw [run_completeTicket_of_open h hk, evt_run_syncTickets f (by omega), hpoll, evt_stored hf]

theorem tickets_run_completeTicket {f id : Nat} {k : Ticket} {s : State} (h : s.ticket f id = some k) (hk : k.done = false) (status : Nat)
    (result : Bytes) : (((completeTicket f id status result).run s).mbx f).tickets =
      (s.mbx f).tickets.map (completed id status result s.arm.clock) := by
  rw [run_completeTicket_of_open h hk, State.mbx, arm_run_syncTickets]
  exact mbx_stored f id status result k.poll s

/-- The ticket whose work completed, and every other, as they stand afterwards. -/
theorem ticket_run_completeTicket {f id : Nat} {k : Ticket} {s : State} (h : s.ticket f id = some k) (hk : k.done = false) (status : Nat)
    (result : Bytes) (other : Nat) : ((completeTicket f id status result).run s).ticket f other =
      (s.ticket f other).map (completed id status result s.arm.clock) := by
  rw [State.ticket, tickets_run_completeTicket h hk, List.find?_map]
  simp only [Function.comp_def, completed_id]
  rfl

theorem id_eq_of_ticket {f id : Nat} {k : Ticket} {s : State} (h : s.ticket f id = some k) : k.id = id :=
  beq_iff_eq.mp (List.find?_some (p := fun t : Ticket => t.id == id) h)

theorem ticket_run_completeTicket_same {f id : Nat} {k : Ticket} {s : State} (h : s.ticket f id = some k) (hk : k.done = false) (status : Nat)
    (result : Bytes) : ((completeTicket f id status result).run s).ticket f id =
      some { k with done := true, status := status, result := result, order := s.arm.clock } := by
  rw [ticket_run_completeTicket h hk, h, Option.map_some, completed, if_pos (id_eq_of_ticket h)]

theorem ticket_run_completeTicket_ne {f id other : Nat} {k : Ticket} {s : State} (h : s.ticket f id = some k) (hk : k.done = false)
    (hne : other ≠ id) (status : Nat) (result : Bytes) :
    ((completeTicket f id status result).run s).ticket f other = s.ticket f other := by
  rw [ticket_run_completeTicket h hk]
  cases ho : s.ticket f other with
  | none => rfl
  | some t =>
    have hid : t.id ≠ id := by rw [id_eq_of_ticket ho]; exact hne
    rw [Option.map_some, completed_of_ne hid]

/-- Where no two tickets share a number, one more is done than before. -/
theorem length_filter_done_completed {l : List Ticket} {id : Nat} {k : Ticket} (hnodup : (l.map (·.id)).Nodup) (hmem : k ∈ l)
    (hid : k.id = id) (hk : k.done = false) (status : Nat) (result : Bytes) (n : Nat) :
    ((l.map (completed id status result n)).filter (·.done)).length = (l.filter (·.done)).length + 1 := by
  induction l with
  | nil => cases hmem
  | cons t l ih =>
    obtain ⟨hnot, hnodup⟩ := List.nodup_cons.mp hnodup
    obtain rfl | hmem := List.mem_cons.mp hmem
    · have hrest : l.map (completed id status result n) = l := by
        refine (List.map_congr_left fun t ht => completed_of_ne (fun heq => hnot ?_) status result n).trans l.map_id
        exact List.mem_map.mpr ⟨t, ht, heq.trans hid.symm⟩
      have hdone : (completed id status result n k).done = true := by rw [completed, if_pos hid]
      rw [List.map_cons, hrest, List.filter_cons_of_pos (by simpa using hdone), List.filter_cons_of_neg (by simp [hk])]
      rfl
    · have hne : t.id ≠ id := fun heq => hnot (List.mem_map.mpr ⟨k, hmem, hid.trans heq.symm⟩)
      rw [List.map_cons, completed_of_ne hne, List.filter_cons, List.filter_cons]
      split
      · rw [List.length_cons, List.length_cons, ih hnodup hmem]
      · exact ih hnodup hmem

/-- Settles O55: the ticket found is the one the completion changes, and the counts are loaded from the tickets after it. -/
theorem ticketCompletes : Obligations.TicketCompletes := by
  intro f id status result k s hfind hk hnodup hlen hdone t
  have hmem : k ∈ (s.mbx f).tickets := List.mem_of_find?_eq_some hfind
  refine ⟨⟨_, ticket_run_completeTicket_same hfind hk status result, rfl, rfl, rfl⟩,
    fun hpoll => evt_run_completeTicket f.isLt hfind hk hpoll status result,
    fun other hne => ticket_run_completeTicket_ne hfind hk hne status result, ?_, sameStores_run_completeTicket f id status result s⟩
  have hstored := mbx_stored f id status result k.poll s
  show ((completeTicket f id status result).run s).fld _ _ = _
  rw [run_completeTicket_of_open hfind hk, ticketsDone_run_syncTickets f.isLt _ (by rw [hstored, List.length_map]; omega), hstored,
    length_filter_done_completed hnodup hmem (id_eq_of_ticket hfind) hk, hdone]

end Sys2Proof.Tickets
end

section
/-! A turn that answers ST_PENDING (R99, R101): the state it leaves, and what of it the answer and the ticket do not touch. -/
open Sys2Proof Sys2Proof.Machine Sys2Proof.Reads Sys2Proof.ServiceTurn Sys2Proof.Tickets

namespace Sys2Proof.Turns

theorem outcome_turn_of_pending {op : Nat} {h : Svc → State → Reply} {k : Svc} {s : State} {a : Act} (hs : Served s op k)
    (hr : h k s = .pending a) (ht : TicketFree s k) : (turn op h).outcome s = .next (pended k a s) := by
  obtain ⟨hin, hop, hclean, -, -⟩ := hs
  have hfree : ¬ 16 ≤ (s.mbx k.f).tickets.length := Nat.not_le.mpr ht
  simp only [turn, hin, hop, ne_eq, not_true_eq_false, if_false, hr, guardHeader_of_clean hclean, Reply.pending, if_true, hfree,
    Act.outcome_eq, applyAll_acts_cons, acts_nil, applyAll_nil, pended, Act.run_eq]

/-- What the effects of an answer keep is after a pending answer what the command's act left on the state with its ticket open. -/
theorem pended_keeps {α : Type} (p : State → α) (h : ∀ e, AnswerEff e → ∀ s, p (e.apply s) = p s) (k : Svc) (a : Act) (s : State) :
    p (pended k a s) = p (a.run ((openTicket k).run s)) := by
  have hsync (t : State) : p ((syncTickets k.f).run t) = p t := by
    refine applyAll_keeps_of_mem p (fun e he => h e ?_) t
    unfold syncTickets at he
    split at he
    · cases he
    · obtain rfl | rfl : e = _ ∨ e = _ := by simpa using he
      · exact .fld _ _ _
      · exact .fld _ _ _
  exact (applyAll_keeps_of_mem p (fun e he => h e (answerEff_of_mem_respond he)) _).trans (hsync _)

@[simp] theorem eff_nil : eff [] = fun _ => [] := rfl

/-- A command whose requester is F0. -/
theorem notF0_fst {k : Svc} (h : k.f = 0) : k.notF0.1 = false := by
  simp [Svc.notF0, Svc.isF0, h]

theorem notF0_fst_of_ne {k : Svc} (h : k.f ≠ 0) : k.notF0.1 = true := by
  simp [Svc.notF0, Svc.isF0, h]

@[simp] theorem notF0_snd (k : Svc) : k.notF0.2 = ST_NOT_OWNER := rfl

@[simp] theorem badLen_snd (k : Svc) (n : Nat) : (k.badLen n).2 = ST_BAD_LENGTH := rfl

@[simp] theorem rsv_snd (k : Svc) (o n : Nat) : (k.rsv o n).2 = ST_BAD_PARAM := rfl

@[simp] theorem lacks_fst (k : Svc) (s : State) (r : Nat) : (k.lacks s r).1 = !k.holds s r := rfl

@[simp] theorem lacks_snd (k : Svc) (s : State) (r : Nat) : (k.lacks s r).2 = ST_DENIED := rfl

theorem checks_append_of_pass {cs ds : List (Bool × Nat)} (h : firstBad cs = none) (r : Reply) : checks (cs ++ ds) r = checks ds r := by
  induction cs with
  | nil => rfl
  | cons c t ih =>
    obtain ⟨_ | _, st⟩ := c
    · exact ih h
    · simp [firstBad] at h

theorem checks_of_pass {cs : List (Bool × Nat)} (h : firstBad cs = none) (r : Reply) : checks cs r = r := by
  simp [checks, h]

end Sys2Proof.Turns
end

section
/-! The commands of the clip store and its namespaces (R568 to R572). -/
open Sys2Proof Sys2Proof.Machine Sys2Proof.ServiceTurn Sys2Proof.NamedPlayback Sys2Proof.Turns

namespace Sys2Proof.Namespaces

/-- R571: what a function other than F0 reaches is its own. -/
theorem reachable_of_foreign {f n : Nat} {s : State} (hf : f ≠ 0) (h : ∀ x, s.space n = some x → x.owner ≠ f) : reachable s f n = none := by
  unfold reachable
  split
  · rfl
  · cases hx : s.space n with
    | none => rfl
    | some x => simp [h x hx, hf]

theorem taskChecks_of_unreachable {f : Fn} {v : Word} {s : State} (hready : storeReady s = true) (hop : getFld v Fld.CST_TASK_CMD.OP = OP_FLUSH)
    (hrsv : v &&& ~~~(regMask (Reg.CST_TASK_CMD f)) = 0) (hblocks : s.fld (Reg.CST_TASK_BLOCKS f) Fld.CST_TASK_BLOCKS.BLOCKS = 0)
    (hright : s.holds f R_STORE = true) (hns : reachable s f (getFld v Fld.CST_TASK_CMD.NS) = none) :
    taskChecks s f v = some ST_NO_CONTEXT := by
  simp [taskChecks, firstBad, noStore, hready, hop, hrsv, hblocks, hright, hns, OP_READ, OP_WRITE, OP_FLUSH]

/-- Settles O60: reachability names the owner, and each check before ST_NO_CONTEXT passes. -/
theorem namespacesAreOwned : Obligations.NamespacesAreOwned := by
  refine ⟨fun f n s => reachable_of_foreign, fun k s hs hlen hright hrsv hready hns => ?_,
    fun k s hs hlen hright hrsv hready hns => ?_, fun f v s => taskChecks_of_unreachable⟩
  · refine outcome_turn_of_refuse (h := hCstNsInfo) hs ?_ (by decide)
    simp [hCstNsInfo, hns, hlen, hright, hrsv, noStore_fst_of_ready hready]
  · refine outcome_turn_of_refuse (h := hCstNsDelete) hs ?_ (by decide)
    simp [hCstNsDelete, hns, hlen, hright, hrsv, noStore_fst_of_ready hready]

/-- Settles O39: each handler passes its checks on the operands named, or fails the first that the clause names. -/
theorem storeCommands : Obligations.StoreCommands := by
  refine ⟨fun k s hs hlen hright => ?_, fun k s hs hf hlen hkey huse hdrv ht => ?_,
    fun k s hs hlen hright hgib hrsv hready hcreate ht => ?_, fun k x s hs hlen hright hrsv hready hns hheld ht => ?_,
    fun k x s hs hlen hright hrsv hready hns => ?_, fun k s hs hf hlen hlo hhi hmax hrsv hready => ?_, fun k s hs hf hlen => ?_⟩
  · refine outcome_turn_of_ok (h := hCstStoreInfo) hs ?_
    simp [hCstStoreInfo, hlen, hright]
  · refine outcome_turn_of_pending (h := hCstStoreFormat) hs ?_ ht
    simp [hCstStoreFormat, hlen, notF0_fst hf, hkey, huse, hdrv]
  · refine outcome_turn_of_pending (h := hCstNsCreate) hs ?_ ht
    simp [hCstNsCreate, hlen, hright, hgib, hrsv, noStore_fst_of_ready hready, checks_of_pass hcreate]
  · refine outcome_turn_of_pending (h := hCstNsDelete) hs ?_ ht
    simp [hCstNsDelete, hlen, hright, hrsv, noStore_fst_of_ready hready, hns, hheld]
  · refine outcome_turn_of_ok (h := hCstNsInfo) hs ?_
    simp [hCstNsInfo, hlen, hright, hrsv, noStore_fst_of_ready hready, hns]
  · refine outcome_turn_of_ok (h := hCstNsQuota) hs ?_
    have hne : k.n 0 1 ≠ 0 := by omega
    simp [hCstNsQuota, hlen, notF0_fst hf, hne, hhi, hmax, hrsv, noStore_fst_of_ready hready]
  · refine outcome_turn_of_refuse (h := hCstNsQuota) hs ?_ (by decide)
    simp [hCstNsQuota, hlen, notF0_fst_of_ne hf]

end Sys2Proof.Namespaces
end

section
/-! The commands of opcode group 0x01 (R108 to R110) and the commit (R112, R113, R116). -/
open Sys2Proof Sys2Proof.Machine Sys2Proof.ServiceTurn Sys2Proof.PendingCommit Sys2Proof.Turns

namespace Sys2Proof.Basics

theorem leNat_of_all_zero {bs : Bytes} (h : bs.all (· == 0) = true) : leNat bs = 0 := by
  induction bs with
  | nil => rfl
  | cons b t ih =>
    obtain ⟨hb, ht⟩ : (b == 0) = true ∧ t.all (· == 0) = true := by simpa using h
    simp [leNat, ih ht, eq_of_beq hb]

theorem n_of_zeroAt {k : Svc} {o n : Nat} (h : zeroAt k.cmd.payload o n = true) : k.n o n = 0 := leNat_of_all_zero h

/-- R110: the turn of TKT_GET answers as its handler does, ST_PENDING included. -/
theorem outcome_actTktGet {k : Svc} {s : State} (hs : Served s 0x120 k) :
    actTktGet.outcome s = .next (answered k (hTktGet k s).status (hTktGet k s).payload (hTktGet k s).act s) := by
  obtain ⟨hin, hop, hclean, -, -⟩ := hs
  simp only [actTktGet, hin, hop, ne_eq, not_true_eq_false, if_false, guardHeader_of_clean hclean, Act.outcome_eq, applyAll_acts_cons,
    acts_nil, applyAll_nil, answered, Act.run_eq]

theorem hTktGet_of_done {k : Svc} {t : Ticket} {s : State} (hlen : k.cmd.len = 4) (hid : k.n 0 4 ≠ 0xFFFFFFFF)
    (ht : s.ticket k.f (k.n 0 4) = some t) (hdone : t.done = true) : hTktGet k s = collect k t := by
  simp [hTktGet, hlen, hid, ht, hdone]

/-- R109, R146: a PRM_SET of one entry that its own check admits, marked neither Next boot nor saved. -/
theorem actPrmSet_of_one {k : Svc} {s : State} (hs : Served s 0x102 k) (hreply : s.nvs.reply = none) (hn : k.n 0 2 = 1) (hlen : k.cmd.len = 12)
    (hrsv : zeroAt k.cmd.payload 2 2 = true) (hst : setStatus k s 1 0 = ST_OK) (hboot : bootMarked (setId k 0) = false)
    (hsave : savedPrm (setId k 0) = false) :
    actPrmSet s = acts [setEntries k 1, acts [eff [], respond k ST_OK (setAnswer k 1 fun _ => ST_OK) 0]] s := by
  obtain ⟨hin, hop, hclean, -, -⟩ := hs
  have hdenied : ¬ (ST_DENIED = ST_OK) := by decide
  have hbad : ¬ (ST_BAD_PARAM = ST_OK) := by decide
  simp [actPrmSet, hin, hop, hreply, hn, hlen, hclean, n_of_zeroAt hrsv, hst, hboot, hsave, hdenied, hbad, setAnswer]

theorem checks_badLen_of_len {k : Svc} {n : Nat} (hlen : k.cmd.len = n) (r : Reply) : checks [k.badLen n] r = r := by
  simp only [checks_cons, checks_nil, badLen_fst, hlen, bne_self_eq_false, Bool.false_eq_true, if_false]

/-- The answer of CFG_DISCARD, by whether the items it drops hold a switch of banks (R108). -/
def discardReply (k : Svc) (switch : Bool) : Reply :=
  checks [k.badLen 0] (.ok [] (eff ([.arm fun a => { a with staged := a.staged.del k.f }] ++
    (if switch then [.pat fun p => { p with writer := 3 }] else []))))

theorem discardReply_of_plain {k : Svc} (hlen : k.cmd.len = 0) :
    discardReply k false = .ok [] (eff [.arm fun a => { a with staged := a.staged.del k.f }]) := by
  rw [discardReply, checks_badLen_of_len hlen]
  rfl

/-- Settles O12: each handler passes its checks on the operands named. -/
theorem mailboxBasics : Obligations.MailboxBasics := by
  refine ⟨fun k s hs hlen => ?_, fun k s hs hn hlen hrsv hread => ?_, fun k s hs hreply hn hlen hrsv hst hboot hsave => ?_,
    fun k s hs hlen hswitch => ?_, fun k s hs hlen => ?_, fun k t s hs hlen hid ht hdone hst => ?_, fun k p s hs hlen hp => ?_⟩
  · exact outcome_turn_of_ok (h := hSysInfo) hs (checks_badLen_of_len hlen _)
  · refine outcome_turn_of_ok (h := hPrmGet) hs ?_
    simp [hPrmGet, hlen, hn, hrsv, hread]
  · show actPrmSet.outcome s = _
    simp only [Act.outcome_eq, actPrmSet_of_one hs hreply hn hlen hrsv hst hboot hsave, applyAll_acts_cons, acts_nil, applyAll_nil, answered,
      Act.run_eq, eff_nil]
  · exact outcome_turn_of_ok (h := hCfgDiscard) hs ((congrArg (discardReply k) hswitch).trans (discardReply_of_plain hlen))
  · exact outcome_turn_of_ok (h := hCfgStatus) hs (checks_badLen_of_len hlen _)
  · have h := outcome_actTktGet hs
    rw [hTktGet_of_done hlen hid ht hdone, hst] at h
    exact h
  · refine outcome_turn_of_ok (h := hPipeDescribe) hs ?_
    have hlt : k.n 0 4 < (pipes s).length := List.getElem?_eq_some_iff.mp hp |>.1
    simp [hPipeDescribe, hlen, hp, Nat.not_le.mpr hlt]

/-! ### Commits -/

theorem pended_staged (k : Svc) (a : Act) (s : State) : (pended k a s).arm.staged = (a.run ((openTicket k).run s)).arm.staged :=
  pended_keeps (·.arm.staged) (fun _ he _ => by cases he <;> simp [*]) ..

/-- R116, R117: a commit that validation admits, without layers and with no standby to tell, is put in the order of validation and armed. -/
theorem actCommitValidated_of_admitted {p : Fin 96} {peer : Option (Nat × Nat)} {c : Commit} {s : State}
    (hc : s.arm.commits.find p = some c) (hhalt : s.arm.halted = false) (horder : c.order = 0) (hv : (verdict p c.items peer s).1 = none)
    (hlayer : stagesKind c.items K_LAYER = false) (hmirror : mirrors s = false) :
    actCommitValidated p peer s = acts [eff [.arm fun a => { a with
      clock := a.clock + 1, commits := a.commits.put p { c with order := a.clock + 1 } }], armCommit p] s := by
  simp only [actCommitValidated, hc, hhalt, horder, ne_eq, not_true_eq_false, Bool.false_eq_true, or_self, if_false, hv, hlayer, hmirror,
    Bool.false_and, raiseIf, List.nil_append]

/-- Settles O13: the commit passes its checks; a validation ends the commit or arms it. -/
theorem commitTakesStagedSet : Obligations.CommitTakesStagedSet := by
  refine ⟨fun k s hs hlen hg hnext hrsv hzero hstandby hfree ht => ⟨_, ?_, rfl, ?_⟩, fun p peer c st s hc hhalt horder hv hswitch => ?_,
    fun p peer c s hc hhalt horder hv hlayer hmirror => ?_⟩
  · rw [exec_cfgCommit]
    refine outcome_turn_of_pending hs ?_ ht
    simp [hCfgCommit, hlen, hg, hnext, hrsv, hzero, hstandby, hfree]
  · exact stagedOf_eq_nil (s := (openTicket k).run s) (pended_staged ..)
  · show (actCommitValidated p peer).outcome s = _
    simp only [Act.outcome_eq, actCommitValidated, hc, hhalt, horder, ne_eq, not_true_eq_false, Bool.false_eq_true, or_self, if_false, hv,
      hswitch, applyAll_acts_cons, acts_nil, applyAll_nil, eff_nil, Act.run_eq]
  · show (actCommitValidated p peer).outcome s = _
    rw [Act.outcome_eq, actCommitValidated_of_admitted hc hhalt horder hv hlayer hmirror]
    simp only [applyAll_acts_cons, acts_nil, applyAll_nil]
    rfl

end Sys2Proof.Basics
end

section
/-! Which parts of the state an act reaches, and what an answer leaves of the command's own act. -/
open Sys2Proof Sys2Proof.Machine Sys2Proof.Reads Sys2Proof.ServiceTurn

namespace Sys2Proof.Spans

/-- The parts an effect may change: touches as a list. -/
def partsOf : Eff → List StatePart
  | .reg .. | .fld .. | .inc .. => [.regs]
  | .raise _ => [.regs, .out]
  | .emit _ => [.out]
  | .prm .. | .count .. | .count64 .. => [.prms]
  | .obj .. => [.objs]
  | .dev .. => [.devMem]
  | .host .. => [.hostMem]
  | .page .. => [.pageMem]
  | .devClear .. => [.devMem, .poison]
  | .poison .. => [.poison]
  | .latch .. => [.pairLatch]
  | .held .. => [.pairHeld]
  | .draw => [.freeCtr]
  | .tick => [.uptime]
  | .arm _ => [.arm]
  | .thm _ => [.thm]
  | .flt _ => [.flt]
  | .lan _ => [.lan]
  | .nvs _ => [.nvs]
  | .otp _ => [.otp]
  | .pins _ => [.pins]
  | .boot _ => [.boot]
  | .cam _ => [.cam]
  | .cast _ => [.cast]
  | .str _ => [.str]
  | .wall _ => [.wall]
  | .pat _ => [.pat]
  | .lib _ => [.lib]
  | .tlk _ => [.tlk]
  | .tim _ => [.tim]
  | .aud _ => [.aud]
  | .cst _ => [.cst]
  | .mem _ => [.mem]
  | .dma _ => [.dma]
  | .sec _ => [.sec]
  | .powerOn | .packageReset .. => [.regs, .prms, .objs, .devMem, .hostMem, .pageMem, .poison, .pairLatch, .pairHeld, .freeCtr, .uptime,
      .out, .arm, .thm, .flt, .lan, .nvs, .otp, .pins, .boot, .cam, .cast, .str, .wall, .pat, .lib, .tlk, .tim, .aud, .cst, .mem, .dma, .sec]

theorem mem_partsOf {e : Eff} {p : StatePart} (h : touches e p = true) : p ∈ partsOf e := by
  cases e
  case powerOn => cases p <;> decide
  case packageReset => cases p <;> decide
  all_goals simpa [touches, partsOf] using h

/-! ### Acts run one after another -/

theorem run_acts_nil (s : State) : (acts []).run s = s := by rw [Act.run_eq, acts_nil, applyAll_nil]

theorem run_acts_cons (a : Act) (l : List Act) (s : State) : (acts (a :: l)).run s = (acts l).run (a.run s) := by
  rw [Act.run_eq, applyAll_acts_cons, Act.run_eq, Act.run_eq]

theorem run_eff (es : List Eff) (s : State) : (eff es).run s = applyAll es s := by rw [Act.run_eq, eff_apply]

/-- An act is run as the act that it is at the state. -/
theorem run_congr {a b : Act} {s : State} (h : a s = b s) : a.run s = b.run s := by rw [Act.run_eq, h, Act.run_eq]

/-! ### Acts whose every effect passes a test -/

/-- Every effect of the act passes the test, from whatever state. -/
def Every (p : Eff → Bool) (a : Act) : Prop := ∀ s, (a s).all p = true

theorem Every.eff {p : Eff → Bool} {es : List Eff} (h : es.all p = true) : Every p (eff es) := fun _ => h

theorem Every.nil (p : Eff → Bool) : Every p (acts []) := fun _ => rfl

theorem Every.cons {p : Eff → Bool} {a : Act} {t : List Act} (ha : Every p a) (ht : Every p (acts t)) : Every p (acts (a :: t)) := fun s => by
  show (a s ++ acts t (applyAll (a s) s)).all p = true
  rw [List.all_append, ha s, ht (applyAll (a s) s), Bool.and_self]

theorem Every.acts {p : Eff → Bool} {as : List Act} (h : ∀ a ∈ as, Every p a) : Every p (acts as) := by
  induction as with
  | nil => exact .nil p
  | cons a t ih =>
    obtain ⟨ha, ht⟩ := List.forall_mem_cons.mp h
    exact ha.cons (ih ht)

theorem Every.actsFor {α : Type} {p : Eff → Bool} {xs : List α} {g : α → Act} (h : ∀ x ∈ xs, Every p (g x)) : Every p (actsFor xs g) :=
  Every.acts fun a ha => by
    obtain ⟨x, hx, rfl⟩ := List.mem_map.mp ha
    exact h x hx

theorem Every.ite {p : Eff → Bool} {c : Prop} [Decidable c] {a b : Act} (ha : Every p a) (hb : Every p b) :
    Every p (if c then a else b) := by
  split
  · exact ha
  · exact hb

theorem all_map_of_forall {α : Type} {p : Eff → Bool} {xs : List α} {g : α → Eff} (h : ∀ x ∈ xs, p (g x) = true) :
    (xs.map g).all p = true := by
  simpa using h

theorem all_flatMap_of_forall {α : Type} {p : Eff → Bool} {xs : List α} {g : α → List Eff} (h : ∀ x ∈ xs, (g x).all p = true) :
    (xs.flatMap g).all p = true := by
  rw [List.all_flatMap]
  exact List.all_eq_true.mpr h

theorem all_raiseIf {p : Eff → Bool} {e : Nat} (h : p (.raise e) = true) (c : Bool) : (raiseIf c e).all p = true := by
  cases c
  · rfl
  · simp [raiseIf, h]

/-! ### Parts -/

/-- The effect reaches only parts listed. -/
def reaches (l : List StatePart) (e : Eff) : Bool := (partsOf e).all l.contains

/-- What a list of effects within some parts leaves of the others. -/
theorem agree_of_reaches {l : List StatePart} {es : List Eff} (h : es.all (reaches l) = true) (s : State) :
    Agree (among l) s (applyAll es s) := by
  refine (agree_applyAll es s).mono fun p hp => ?_
  rw [touchesAny, List.any_eq_false]
  intro e he ht
  have hmem := List.all_eq_true.mp (List.all_eq_true.mp h e he) p (mem_partsOf ht)
  simp_all [among]

theorem Every.agree {l : List StatePart} {a : Act} (h : Every (reaches l) a) (s : State) : Agree (among l) s (a.run s) :=
  agree_of_reaches (h s) s

/-! ### Single registers, parameters and events -/

/-- The effect leaves the register at an offset. -/
def sparesReg (a : Nat) : Eff → Bool
  | .reg off _ | .fld off _ _ | .inc off _ _ => off != a
  | .raise _ => !eventWord a
  | .powerOn | .packageReset .. => false
  | _ => true

theorem rd_apply_of_spares {a : Nat} {e : Eff} (h : sparesReg a e = true) (s : State) : (e.apply s).rd a = s.rd a := by
  cases e
  case reg => exact rd_reg_ne (bne_iff_ne.mp h).symm _ _
  case fld => exact rd_fld_ne (bne_iff_ne.mp h).symm _ _ _
  case inc => exact rd_inc_ne (bne_iff_ne.mp h).symm _ _ _
  case raise => exact rd_raise (by simpa [sparesReg] using h) _ _
  case powerOn => cases h
  case packageReset => cases h
  all_goals exact rd_apply rfl _ _

theorem rd_applyAll_of_spares {a : Nat} {es : List Eff} (h : es.all (sparesReg a) = true) (s : State) : (applyAll es s).rd a = s.rd a :=
  applyAll_keeps_of_mem (·.rd a) (fun e he => rd_apply_of_spares (List.all_eq_true.mp h e he)) s

theorem fld_of_rd {s t : State} {a : Nat} (h : t.rd a = s.rd a) (f : Fld) : t.fld a f = s.fld a f := by
  rw [State.fld, h, State.fld]

theorem flag_of_rd {s t : State} {a : Nat} (h : t.rd a = s.rd a) (f : Fld) : t.flag a f = s.flag a f := by
  rw [State.flag, fld_of_rd h, State.flag]

theorem Every.rd {a : Nat} {act : Act} (h : Every (sparesReg a) act) (s : State) : (act.run s).rd a = s.rd a := rd_applyAll_of_spares (h s) s

/-- The effect leaves a parameter. -/
def sparesPrm (id : Nat) : Eff → Bool
  | .prm i _ | .count i _ => i != id
  | .count64 lo _ => lo != id && lo + 1 != id
  | .powerOn | .packageReset .. => false
  | _ => true

theorem prmsGet_apply_of_spares {id : Nat} {e : Eff} (h : sparesPrm id e = true) (d : Word) (s : State) :
    (e.apply s).prms.getD id d = s.prms.getD id d := by
  cases e
  case prm => exact prmPut_ne _ (bne_iff_ne.mp h).symm _ _
  case count => exact prmPut_ne _ (bne_iff_ne.mp h).symm _ _
  case count64 lo n =>
    have hne : lo ≠ id ∧ lo + 1 ≠ id := by simpa [sparesPrm] using h
    obtain ⟨hlo, hhi⟩ := hne
    exact (prmPut_ne _ hhi.symm _ _).trans (prmPut_ne _ hlo.symm _ _)
  case powerOn => cases h
  case packageReset => cases h
  all_goals rw [prms_apply rfl]

theorem pn_applyAll_of_spares {id : Nat} (hc : copyFind id prmCopies = none) {es : List Eff} (h : es.all (sparesPrm id) = true) (s : State) :
    (applyAll es s).pn id = s.pn id := by
  have hget := applyAll_keeps_of_mem (fun t => t.prms.getD id (prmDefault id))
    (fun e he u => prmsGet_apply_of_spares (List.all_eq_true.mp h e he) (prmDefault id) u) s
  simp only [State.pn, State.prm, hc]
  exact congrArg BitVec.toNat hget

theorem Every.pn {id : Nat} (hc : copyFind id prmCopies = none) {act : Act} (h : Every (sparesPrm id) act) (s : State) :
    (act.run s).pn id = s.pn id :=
  pn_applyAll_of_spares hc (h s) s

/-- The effect clears no event. -/
def keepsEvt : Eff → Bool
  | .reg off _ | .fld off _ _ | .inc off _ _ => !eventWord off
  | .powerOn | .packageReset .. => false
  | _ => true

theorem evt_apply_of_keeps {n : Nat} (hn : evtReserved n = false) {e : Eff} (h : keepsEvt e = true) {s : State} (hs : s.evt n = true) :
    (e.apply s).evt n = true := by
  have hlt := lt_of_not_reserved hn
  cases e
  case reg => exact (evt_reg (by simpa [keepsEvt] using h) hlt _ _).trans hs
  case fld => exact (evt_fld (by simpa [keepsEvt] using h) hlt _ _ _).trans hs
  case inc => exact (evt_inc (by simpa [keepsEvt] using h) hlt _ _ _).trans hs
  case raise => exact evt_raise_of_evt hn _ hs
  case powerOn => cases h
  case packageReset => cases h
  all_goals exact (evt_apply rfl _ _).trans hs

theorem evt_applyAll_of_keeps {n : Nat} (hn : evtReserved n = false) {es : List Eff} (h : es.all keepsEvt = true) {s : State}
    (hs : s.evt n = true) : (applyAll es s).evt n = true := by
  induction es generalizing s with
  | nil => exact hs
  | cons e t ih =>
    obtain ⟨he, ht⟩ : keepsEvt e = true ∧ t.all keepsEvt = true := by simpa using h
    exact ih ht (evt_apply_of_keeps hn he hs)

/-- An event that one effect of a list raises is set after the list, where no effect clears events. -/
theorem evt_applyAll_of_raise {n : Nat} (hn : evtReserved n = false) {es : List Eff} (h : es.all keepsEvt = true) (hmem : Eff.raise n ∈ es)
    (s : State) : (applyAll es s).evt n = true := by
  obtain ⟨a, b, rfl⟩ := List.append_of_mem hmem
  rw [applyAll_append, applyAll_cons]
  have hb : b.all keepsEvt = true := by
    simp only [List.all_append, List.all_cons, Bool.and_eq_true] at h
    exact h.2.2
  exact evt_applyAll_of_keeps hn hb (evt_raise_same hn _)

theorem Every.evt {n : Nat} (hn : evtReserved n = false) {act : Act} (h : Every keepsEvt act) {s : State} (hs : s.evt n = true) :
    (act.run s).evt n = true :=
  evt_applyAll_of_keeps hn (h s) hs

/-! ### Answers -/

/-- The parts that an answer reaches. -/
def answerParts : List StatePart := [.freeCtr, .arm, .pageMem, .regs, .out]

theorem reaches_respond (k : Svc) (st : Nat) (bs : Bytes) (t : Nat) : Every (reaches answerParts) (respond k st bs t) := by
  intro s
  refine List.all_eq_true.mpr fun e he => ?_
  cases answerEff_of_mem_respond he <;> rfl

theorem agree_answered (k : Svc) (st : Nat) (bs : Bytes) (a : Act) (s : State) : Agree (among answerParts) (a.run s) (answered k st bs a s) :=
  (reaches_respond k st bs 0).agree _

theorem inService_run_respond (k : Svc) (st : Nat) (bs : Bytes) (t : Nat) (s : State) : ((respond k st bs t).run s).arm.inService = none := by
  unfold respond
  split <;> simp only [Act.run_eq, applyAll_append, applyAll_cons, applyAll_nil] <;> rfl

theorem answered_inService (k : Svc) (st : Nat) (bs : Bytes) (a : Act) (s : State) : (answered k st bs a s).arm.inService = none :=
  inService_run_respond ..

theorem answered_pn {id : Nat} (hc : copyFind id prmCopies = none) (k : Svc) (st : Nat) (bs : Bytes) (a : Act) (s : State) :
    (answered k st bs a s).pn id = (a.run s).pn id :=
  pn_congr hc (answered_prms k st bs a s)

/-! ### Bytes of a payload -/

@[simp] theorem leBytes_length (k n : Nat) : (leBytes k n).length = k := by
  induction k generalizing n with
  | zero => rfl
  | succ k ih => simp [leBytes, ih]

@[simp] theorem field_length (bs : Bytes) (o n : Nat) : (field bs o n).length = n := by
  simp [field]
  omega

/-- Bytes of a payload that lie in its second part. -/
theorem field_append_of_le {a : Bytes} {o : Nat} (h : a.length ≤ o) (b : Bytes) (n : Nat) :
    field (a ++ b) o n = field b (o - a.length) n := by
  have hdrop : (a ++ b).drop o = b.drop (o - a.length) := by rw [List.drop_append, List.drop_of_length_le h, List.nil_append]
  have hpad : o + n - (a ++ b).length = o - a.length + n - b.length := by rw [List.length_append]; omega
  rw [field, hdrop, hpad, field]

/-- A whole part at the front of a payload. -/
theorem field_append_front {a : Bytes} {n : Nat} (h : a.length = n) (b : Bytes) : field (a ++ b) 0 n = a := by
  simp [field, ← h]

end Sys2Proof.Spans
end

section
/-! The mailbox commands of the sensors, the front end and the outputs, and the end of records and frames (chapters 05 to 07). -/
open Sys2Proof Sys2Proof.Machine Sys2Proof.Reads Sys2Proof.ServiceTurn Sys2Proof.Turns Sys2Proof.Spans

namespace Sys2Proof.Camera

/-! ### The handlers -/

theorem bcReply_of_pass {k : Svc} {s : State} {kind unit : Nat} (hf : k.f = 0) (hsn : k.n 0 1 < 8) (hbound : snsBound s (k.n 0 1) = true)
    (hrsv : zeroAt k.cmd.payload 1 1 = true) (hlo : 1 ≤ k.n 2 2) (hhi : k.n 2 2 ≤ 64) (hlen : k.cmd.len = 4 + unit * k.n 2 2)
    (hready : salReady s (snsPort s (k.n 0 1)) = true) (hbc : (s.sal (snsPort s (k.n 0 1))).bc = none) :
    bcReply k s kind unit = .pending (acts [eff [effSal (snsPort s (k.n 0 1)) fun p => { p with tag := (p.tag + 1) % 65536 }],
      salSend (snsPort s (k.n 0 1)) ⟨(s.sal (snsPort s (k.n 0 1))).tag, k.f, ticketId k.f (s.mbx k.f).nextTicket, kind, k.n 0 1, k.n 2 2,
        leBytes 2 (s.sal (snsPort s (k.n 0 1))).tag ++ leBytes 2 (k.n 2 2) ++ k.cmd.payload.drop 4, 0⟩]) := by
  have hfour : ¬ 4 + unit * k.n 2 2 < 4 := by omega
  have hsn' : ¬ 7 < k.n 0 1 := by omega
  have hne : k.n 2 2 ≠ 0 := by omega
  have hmax : ¬ 64 < k.n 2 2 := by omega
  simp [bcReply, notF0_fst hf, hsn', hbound, hrsv, hne, hmax, hlen, hready, hbc]

theorem rfeTurn_load_of_pass {k : Svc} {s : State} (hf : k.f = 0) (hlen : k.cmd.len = 24) (hsn : k.n 0 1 < 8) (hkind : k.n 1 1 < 6)
    (hstandby : isStandby s = false) : rfeTurn k s 24 true = .pending fun _ => [] := by
  have hsn' : ¬ 7 < k.n 0 1 := by omega
  have hkind' : ¬ 5 < k.n 1 1 := by omega
  simp [rfeTurn, hlen, notF0_fst hf, hsn', hkind', hstandby]

theorem rfeTurn_read_of_pass {k : Svc} {s : State} (hf : k.f = 0) (hlen : k.cmd.len = 16) (hsn : k.n 0 1 < 8) (hkind : k.n 1 1 < 6)
    (hrsv : zeroAt k.cmd.payload 2 2 = true) : rfeTurn k s 16 false = .pending fun _ => [] := by
  have hsn' : ¬ 7 < k.n 0 1 := by omega
  have hkind' : ¬ 5 < k.n 1 1 := by omega
  simp [rfeTurn, hlen, notF0_fst hf, hsn', hkind', hrsv]

theorem isF0_of_f {k : Svc} (hf : k.f = 0) : k.isF0 = true := by simp [Svc.isF0, hf]

theorem ccTurn_load_of_pass {k : Svc} {s : State} (hf : k.f = 0) (hlen : k.cmd.len = 24) (hkind : k.n 1 1 = 0) (hidx : k.n 0 1 < 8)
    (htri : ccTriad 0 (k.n 0 1) = none) (hstandby : isStandby s = false) : ccTurn k s 24 true = .pending fun _ => [] := by
  have hidx' : ¬ 7 < k.n 0 1 := by omega
  have hmax : ¬ 17 < k.n 0 1 := by omega
  simp [ccTurn, hlen, isF0_of_f hf, hkind, hidx', hmax, htri, hstandby]

theorem ccTurn_read_of_pass {k : Svc} {s : State} (hf : k.f = 0) (hlen : k.cmd.len = 16) (hkind : k.n 1 1 = 0) (hidx : k.n 0 1 < 8)
    (htri : ccTriad 0 (k.n 0 1) = none) (hrsv : zeroAt k.cmd.payload 2 2 = true) : ccTurn k s 16 false = .pending fun _ => [] := by
  have hidx' : ¬ 7 < k.n 0 1 := by omega
  have hmax : ¬ 17 < k.n 0 1 := by omega
  simp [ccTurn, hlen, isF0_of_f hf, hkind, hidx', hmax, htri, hrsv]

/-- R284: an enabled output's own ring is described whole, its base first. -/
theorem hOutInfo_of_output {k : Svc} {s : State} (hf : k.f = 0) (hlen : k.cmd.len = 4) (hr : k.n 0 1 < 16)
    (hrsv : zeroAt k.cmd.payload 1 3 = true) (hen : srcEn (s.pn (Prm.OUT_SRC (k.n 0 1))) = true) :
    ∃ payload, hOutInfo k s = .ok payload (fun _ => []) ∧ payload.length = 48 ∧
      field payload 0 8 = leBytes 8 (ringOf s s.pn (k.n 0 1)).base := by
  have hmax : ¬ 21 < k.n 0 1 := by omega
  have hlo : ¬ 16 ≤ k.n 0 1 := by omega
  simp only [hOutInfo, checks_cons, checks_nil, badLen_fst, rsv_fst, hlen, isF0_of_f hf, hr, hrsv, hen, hmax, hlo, bne_self_eq_false, Bool.not_true,
    Bool.and_false, Bool.false_and, decide_false, if_false, Bool.false_eq_true, if_true, Reply.ok, Reply.mk.injEq, true_and, and_true,
    exists_eq_left', List.append_assoc]
  exact ⟨by simp, field_append_front (leBytes_length ..) _⟩

/-- Settles O21: each handler passes its checks on the operands named. -/
theorem cameraCommands : Obligations.CameraCommands := by
  refine ⟨fun k s hs hf hsn hbound hrsv hlo hhi hlen hready hbc ht => ?_, fun k s hs hf hsn hbound hrsv hlo hhi hlen hready hbc ht => ?_,
    fun k i s hs hf hlen hsn hbound hrsv hall hi => ?_, fun k s hs hf hlen hsn hkind hstandby ht => ?_,
    fun k s hs hf hlen hsn hkind hrsv ht => ?_, fun k s hs hf hlen hsn hrsv => ?_,
    fun k s hs hf hlen hkind hidx htri hstandby ht => ?_, fun k s hs hf hlen hkind hidx htri hrsv ht => ?_,
    fun k s hs hf hlen hr hrsv hen => ?_, fun k f s hs hf hlen hlt hrsv hown => ?_⟩
  · exact outcome_turn_of_pending (h := hSalBcWrite) hs (bcReply_of_pass hf hsn hbound hrsv hlo hhi hlen hready hbc) ht
  · exact outcome_turn_of_pending (h := hSalBcRead) hs (bcReply_of_pass hf hsn hbound hrsv hlo hhi hlen hready hbc) ht
  · refine outcome_turn_of_ok (h := hSalFrameInfo) hs ?_
    have hsn' : ¬ 7 < k.n 0 1 := by omega
    simp [hSalFrameInfo, hlen, notF0_fst hf, hsn', hbound, hrsv, hall, hi]
  · exact outcome_turn_of_pending (h := fun c s => rfeTurn c s 24 true) hs (rfeTurn_load_of_pass hf hlen hsn hkind hstandby) ht
  · exact outcome_turn_of_pending (h := fun c s => rfeTurn c s 16 false) hs (rfeTurn_read_of_pass hf hlen hsn hkind hrsv) ht
  · refine outcome_turn_of_ok (h := hRfeStatInfo) hs ?_
    have hsn' : ¬ 7 < k.n 0 1 := by omega
    simp [hRfeStatInfo, hlen, notF0_fst hf, hsn', hrsv]
  · exact outcome_turn_of_pending (h := fun c s => ccTurn c s 24 true) hs (ccTurn_load_of_pass hf hlen hkind hidx htri hstandby) ht
  · exact outcome_turn_of_pending (h := fun c s => ccTurn c s 16 false) hs (ccTurn_read_of_pass hf hlen hkind hidx htri hrsv) ht
  · obtain ⟨payload, hok, hlength, hbase⟩ := hOutInfo_of_output hf hlen hr hrsv hen
    exact ⟨payload, outcome_turn_of_ok (h := hOutInfo) hs hok, hlength, hbase⟩
  · have hok : hTriadRelease k s = .ok [] (releaseTriad (k.n 0 1)) := by
      have hlt' : ¬ 1 < k.n 0 1 := by omega
      simp [hTriadRelease, hlen, notF0_fst hf, hlt', hrsv, hown]
    have hrel : releaseTriad (k.n 0 1) s = [.prm (Prm.TRI_OWNER (k.n 0 1)) 0,
        .prm (Prm.TRI_SRC (k.n 0 1)) (w32 (s.pn (Prm.TRI_SRC (k.n 0 1)) % 2 ^ 31)),
        .arm fun a => { a with staged := a.staged.alter f fun l => l.filter fun x => !isTriadItem (k.n 0 1) x }] := by
      simp only [releaseTriad, hown]
    have hc : copyFind (Prm.TRI_OWNER (k.n 0 1)) prmCopies = none := plain_prm (b := 0x44D) (st := 16) (c := 2) (by decide +kernel) hlt
    refine ⟨_, outcome_turn_of_ok (h := hTriadRelease) hs hok, ?_, answered_inService .., ?_⟩
    · rw [answered_pn hc, Act.run_eq, hrel, applyAll_cons, pn_applyAll_of_spares hc, pn_prm_same hc]
      · rfl
      · simp [sparesPrm, Prm.TRI_SRC, Prm.TRI_OWNER]
    · rw [(agree_answered ..).devMem rfl, Act.run_eq, hrel]
      exact (agree_applyAll _ s).devMem rfl

/-! ### The end of a record and of a frame -/

theorem sns_effSns_same (sn : Nat) (g : Sns → Sns) (s : State) : ((effSns sn g).apply s).sns sn = g (s.sns sn) :=
  FMap.getD_upd_same ..

theorem cout_effOut_same (o : Nat) (g : CamOut → CamOut) (s : State) : ((effOut o g).apply s).cout o = g (s.cout o) :=
  FMap.getD_upd_same ..

theorem cout_of_cam {s t : State} (h : t.cam = s.cam) (o : Nat) : t.cout o = s.cout o := by rw [State.cout, h, State.cout]

theorem sns_of_cam {s t : State} (h : t.cam = s.cam) (sn : Nat) : t.sns sn = s.sns sn := by rw [State.sns, h, State.sns]

/-- A 32-bit count that has wrapped is what a word of it holds. -/
theorem toNat_w32_mod (n : Nat) : (w32 (n % 2 ^ 32)).toNat = n % 2 ^ 32 := by
  rw [w32, BitVec.toNat_ofNat, Nat.mod_mod]

/-- The effects that end a record in device memory: the record, the three reports, the sensor's state and the event. -/
theorem actStatRecordDone_of_due {sn : Fin 8} {frame ts : Nat} {incomplete : Bool} {rest : List (Nat × Bool × Nat)} {s : State}
    (hdue : (s.sns sn).due = (frame, incomplete, ts) :: rest) (hhost : hostStat s sn = 0) :
    ∃ base b dyn unc, actStatRecordDone sn s = putRecord .dev base (((s.sns sn).records + 1) % 2 ^ 32) b ++
      [.prm (Prm.RFE_STAT_LAST sn) (w32 (((s.sns sn).records + 1) % 2 ^ 32)), .prm (Prm.RFE_DYN_LAST sn) dyn, .prm (Prm.RFE_UNCORR_LAST sn) unc,
       effSns sn fun x => { x with due := rest, records := ((s.sns sn).records + 1) % 2 ^ 32, lastStat := frame, stats := x.stats.del frame },
       .raise (128 + sn)] := by
  simp only [actStatRecordDone, hdue, hhost, if_true, List.append_nil]
  exact ⟨_, _, _, _, rfl⟩

/-- What is written of an output's frame: its slot in every ring. -/
def slotWrites (s : State) (o f : Nat) : List Eff :=
  (ringsOf s o).flatMap fun r =>
    [ringWrite (slotAddr (ring s r) (((s.cout o).seq + 1) % 2 ^ 32)) (leBytes 4 (((s.cout o).seq + 1) % 2 ^ 32)),
     ringWrite (slotAddr (ring s r) (((s.cout o).seq + 1) % 2 ^ 32) + 4) (slotHeader s o r (ring s r) (geo s o) (s.cout o) f),
     ringWrite (slotAddr (ring s r) (((s.cout o).seq + 1) % 2 ^ 32) + 252) (leBytes 4 (((s.cout o).seq + 1) % 2 ^ 32))]

theorem actOutputFrameDone_of_cur {o : Fin 18} {f : Nat} {s : State} (h : (s.cout o).cur = some f) : actOutputFrameDone o s =
    slotWrites s o f ++ [effOut o fun x => { x with cur := none, seq := ((s.cout o).seq + 1) % 2 ^ 32, done := x.done + 1 }] ++
    if o.val < 16 then [.raise 140]
    else [.prm (Prm.TRI_LAST_SEQ (o.val - 16)) (w32 (((s.cout o).seq + 1) % 2 ^ 32)), .raise (138 + (o.val - 16))] := by
  simp only [actOutputFrameDone, h, slotWrites]

theorem reaches_ringWrite (a : Nat) (bs : Bytes) : reaches [.devMem, .hostMem] (ringWrite a bs) = true := by
  unfold ringWrite
  split <;> rfl

theorem reaches_slotWrites (s : State) (o f : Nat) : (slotWrites s o f).all (reaches [.devMem, .hostMem]) = true :=
  all_flatMap_of_forall fun r _ => by simp [reaches_ringWrite]

theorem outputFrame_reserved : ∀ j < 2, evtReserved (138 + j) = false := by decide

/-- Settles O22: each reading is of the last effect that sets it. -/
theorem recordsAndFrames : Obligations.RecordsAndFrames := by
  refine ⟨fun sn frame incomplete ts rest s hdue hhost => ?_, fun o f s hcur ho hrings => ?_, fun o f s hcur ho => ?_,
    fun o f s hcur ho => ?_⟩
  · obtain ⟨base, b, dyn, unc, hact⟩ := actStatRecordDone_of_due hdue hhost
    have hc : copyFind (Prm.RFE_STAT_LAST sn) prmCopies = none := plain_prm (b := 0x31C) (st := 32) (c := 8) (by decide +kernel) sn.isLt
    have hres : evtReserved (128 + sn) = false := (by decide : ∀ i : Fin 8, evtReserved (128 + i) = false) sn
    have hsns (u : State) : ((Eff.raise (128 + sn)).apply u).sns sn = u.sns sn := sns_of_cam ((agree_apply _ u).cam rfl) sn
    refine ⟨(actStatRecordDone sn).run s, rfl, ?_, ?_, ?_, ?_, ?_, ?_⟩ <;> rw [Act.run_eq, hact]
    · simp only [applyAll_append, applyAll_cons, applyAll_nil, hsns, sns_effSns_same]
    · simp only [applyAll_append, applyAll_cons, applyAll_nil, hsns, sns_effSns_same]
    · rw [applyAll_append, applyAll_cons, pn_applyAll_of_spares hc, pn_prm_same hc, toNat_w32_mod]
      simp [sparesPrm, effSns, Prm.RFE_STAT_LAST, Prm.RFE_DYN_LAST, Prm.RFE_UNCORR_LAST]
    · exact evt_applyAll_of_raise hres rfl (by simp) s
    · exact (agree_applyAll _ s).hostMem rfl
    · exact (agree_applyAll _ s).pageMem rfl
  · have hact : actOutputFrameDone o s = [effOut o fun x => { x with cur := none, seq := ((s.cout o).seq + 1) % 2 ^ 32, done := x.done + 1 },
        .raise 140] := by
      rw [actOutputFrameDone_of_cur hcur, if_pos ho, slotWrites, hrings]
      rfl
    have hcout (u : State) : ((Eff.raise 140).apply u).cout o = u.cout o := cout_of_cam ((agree_apply _ u).cam rfl) o
    refine ⟨(actOutputFrameDone o).run s, rfl, ?_, ?_, ?_, ?_⟩ <;> rw [Act.run_eq, hact]
    · simp only [applyAll_cons, applyAll_nil, hcout, cout_effOut_same]
    · simp only [applyAll_cons, applyAll_nil, hcout, cout_effOut_same]
    · exact evt_applyAll_of_raise (by decide) rfl (by simp) s
    · exact applyAll_sameStores rfl s
  · show (actOutputFrameDone o).outcome s = _
    rw [Act.outcome_eq, actOutputFrameDone_of_cur hcur, if_pos ho, List.append_assoc]
    rfl
  · have hlt : o.val - 16 < 2 := by omega
    have hc : copyFind (Prm.TRI_LAST_SEQ (o.val - 16)) prmCopies = none := plain_prm (b := 0x44F) (st := 16) (c := 2) (by decide +kernel) hlt
    have hact := actOutputFrameDone_of_cur hcur
    rw [if_neg (Nat.not_lt.mpr ho), List.append_assoc] at hact
    have hcout (u : State) : (applyAll [.prm (Prm.TRI_LAST_SEQ (o.val - 16)) (w32 (((s.cout o).seq + 1) % 2 ^ 32)), .raise (138 + (o.val - 16))] u).cout o =
        u.cout o := cout_of_cam ((agree_applyAll _ u).cam rfl) o
    have hspan := agree_of_reaches (reaches_slotWrites s o f) s
    refine ⟨(actOutputFrameDone o).run s, rfl, ?_, ?_, ?_, ?_, ?_, ?_⟩ <;> rw [Act.run_eq, hact, applyAll_append]
    · rw [applyAll_append, hcout, applyAll_cons, applyAll_nil, cout_effOut_same]
    · rw [applyAll_append, applyAll_cons, pn_applyAll_of_spares hc rfl, pn_prm_same hc, toNat_w32_mod]
    · exact evt_applyAll_of_raise (outputFrame_reserved _ hlt) rfl (by simp) _
    · exact ((agree_applyAll _ _).pageMem rfl).trans (hspan.pageMem rfl)
    · exact ((agree_applyAll _ _).otp rfl).trans (hspan.otp rfl)
    · exact ((agree_applyAll _ _).pins rfl).trans (hspan.pins rfl)

end Sys2Proof.Camera
end

section
/-! The mailbox commands of contexts, rules and principals, and the traffic of the Ethernet ports (chapter 09). -/
open Sys2Proof Sys2Proof.Machine Sys2Proof.Reads Sys2Proof.ServiceTurn Sys2Proof.Turns Sys2Proof.Basics Sys2Proof.Spans Sys2Proof.Camera

namespace Sys2Proof.Streams

/-! ### What the commands of F0 pass -/

theorem all_zero_of_leNat {bs : Bytes} (h : leNat bs = 0) : bs.all (· == 0) = true := by
  induction bs with
  | nil => rfl
  | cons b t ih =>
    obtain ⟨hb, ht⟩ : b.toNat = 0 ∧ leNat t = 0 := by
      simp only [leNat] at h
      omega
    have hz : b = 0 := BitVec.eq_of_toNat_eq hb
    simpa [hz] using ih ht

theorem zeroAt_of_n {k : Svc} {o n : Nat} (h : k.n o n = 0) : zeroAt k.cmd.payload o n = true := all_zero_of_leNat h

/-- F0 has every right (R328). -/
theorem holds_of_F0 {k : Svc} (hr : k.remote = none) (hf : k.f = 0) (s : State) (r : Nat) : k.holds s r = true := by
  simp [Svc.holds, hr, State.holds, hf]

theorem namedCtx_of_F0 {k : Svc} {x : StrCtx} {s : State} {i : Nat} (hf : k.f = 0) (h : s.ctx i = some x) : namedCtx k s i = some x := by
  simp [namedCtx, h, isF0_of_f hf]

/-! ### The contexts of the state -/

theorem ctx_of_str {s t : State} (h : t.str = s.str) (i : Nat) : t.ctx i = s.ctx i := by rw [State.ctx, h, State.ctx]

theorem ctx_effCtx_same {i : Nat} {x : StrCtx} {s : State} (h : s.ctx i = some x) (g : StrCtx → StrCtx) :
    ((effCtx i g).apply s).ctx i = some (g x) := by
  have hf : s.str.ctxs.find i = some x := h
  simp [effCtx, State.ctx, FMap.alter, hf]

theorem answered_ctx (k : Svc) (st : Nat) (bs : Bytes) (a : Act) (s : State) (i : Nat) : (answered k st bs a s).ctx i = (a.run s).ctx i :=
  ctx_of_str ((agree_answered k st bs a s).str rfl) i

/-! ### The handlers -/

theorem hStrCtxCreate_of_pass {k : Svc} {i : Nat} {s : State} (hr : k.remote = none) (hf : k.f = 0) (hlen : k.cmd.len = 96)
    (hdesc : descOk k.cmd.payload = true) (hseal : dSealed k.cmd.payload = false) (hess : dEss k.cmd.payload ≠ 3)
    (hring : ctxRingBytes k.cmd.payload = 0) (hfree : freeCtx s = some i) :
    hStrCtxCreate k s = .ok (leBytes 2 i ++ leBytes 1 (i % 64) ++ [0]) (eff [
      effStr fun t => { t with ctxs := t.ctxs.put i (newCtx s k.f k.cmd.payload) }, .prm Prm.STR_CTX_USED (w32 (s.str.ctxs.size + 1))]) := by
  simp [hStrCtxCreate, hlen, isF0_of_f hf, holds_of_F0 hr hf, hdesc, hseal, hess, hring, hfree]

theorem ctlTurn_of_op {k : Svc} {s : State} {op : Nat} (hs : Served s 0x602 k) (hop : k.n 2 1 = op) :
    ctlTurn op s = turn 0x602 (fun c s => ctlCtx c s op) s := by
  simp only [ctlTurn, hs.1, hop, if_true]

/-- What one operation of STR_CTX_CTRL does to a context of F0. -/
def ctlAct (i op : Nat) : Act :=
  match op with
  | 1 => eff [effCtx i fun x => { x with enabled := true, barred := false }]
  | 2 => eff [effCtx i fun x => { x with enabled := false, tx := none }]
  | 4 => acts [cacheLoad i, eff [effCtx i fun x => { x with pinned := true }], syncPinned]
  | _ => acts [eff [effCtx i fun x => { x with pinned := false }], syncPinned]

theorem ctlCtx_of_pass {k : Svc} {x : StrCtx} {s : State} {op : Nat} (hf : k.f = 0) (hlen : k.cmd.len = 4) (hrsv : k.n 3 1 = 0)
    (hidx : k.n 0 2 < 4096) (hx : s.ctx (k.n 0 2) = some x) (howner : x.owner = 0)
    (hroom : op = 4 → (pinnedCtxs s).length < 64 ∧ (setOf (pinnedCtxs s) (k.n 0 2)).length < 4) :
    ctlCtx k s op = .ok [] (ctlAct (k.n 0 2) op) := by
  have hidx' : ¬ 4095 < k.n 0 2 := by omega
  have hholds : s.holds 0 R_STREAM = true := rfl
  have hfull : (op == 4 && !x.pinned && (decide (64 ≤ (pinnedCtxs s).length) || decide (4 ≤ (setOf (pinnedCtxs s) (k.n 0 2)).length))) = false := by
    by_cases h : op = 4
    · obtain ⟨hall, hset⟩ := hroom h
      simp [Nat.not_le.mpr hall, Nat.not_le.mpr hset]
    · simp [h]
  simp only [ctlCtx, checks_cons, checks_nil, badLen_fst, rsv_fst, hlen, hidx', zeroAt_of_n hrsv, namedCtx_of_F0 hf hx, howner, hholds, hfull,
    bne_self_eq_false, Bool.not_true, Bool.and_false, Bool.false_eq_true, if_false, decide_false, Option.isNone_some, ctlAct] <;> rfl

/-- The state after an operation of STR_CTX_CTRL on a context of F0. -/
theorem exec_ctl {k : Svc} {x : StrCtx} {s : State} {op : Nat} (hs : Served s 0x602 k) (hf : k.f = 0) (hlen : k.cmd.len = 4)
    (hop : k.n 2 1 = op) (hrsv : k.n 3 1 = 0) (hidx : k.n 0 2 < 4096) (hx : s.ctx (k.n 0 2) = some x) (howner : x.owner = 0)
    (hroom : op = 4 → (pinnedCtxs s).length < 64 ∧ (setOf (pinnedCtxs s) (k.n 0 2)).length < 4) :
    (ctlTurn op).outcome s = .next (answered k ST_OK [] (ctlAct (k.n 0 2) op) s) := by
  have hturn : (ctlTurn op).outcome s = (turn 0x602 fun c s => ctlCtx c s op).outcome s := by
    rw [Act.outcome_eq, Act.outcome_eq, ctlTurn_of_op hs hop]
  rw [hturn]
  exact outcome_turn_of_ok hs (ctlCtx_of_pass hf hlen hrsv hidx hx howner hroom)

/-- R363: the answer to STR_CTX_INFO: a word of state, then the counters. -/
theorem hStrCtxInfo_of_named {k : Svc} {x : StrCtx} {s : State} (hlen : k.cmd.len = 4) (hidx : k.n 0 2 < 4096)
    (hrsv : zeroAt k.cmd.payload 2 2 = true) (hx : namedCtx k s (k.n 0 2) = some x) :
    ∃ payload, hStrCtxInfo k s = .ok payload (fun _ => []) ∧ payload.length = 72 ∧
      field payload 4 8 = leBytes 8 x.cnt.packets ∧ field payload 12 8 = leBytes 8 x.cnt.bytes ∧ field payload 20 4 = leBytes 4 x.cnt.frames := by
  have hidx' : ¬ 4095 < k.n 0 2 := by omega
  simp only [hStrCtxInfo, checks_cons, checks_nil, badLen_fst, rsv_fst, hlen, hidx', hrsv, hx, bne_self_eq_false, Bool.not_true,
    decide_false, if_false, Bool.false_eq_true, Reply.ok, Reply.mk.injEq, true_and, and_true, exists_eq_left', List.append_assoc]
  refine ⟨by simp [timeBytes], ?_, ?_, ?_⟩
  · rw [field_append_of_le (by simp)]
    exact field_append_front (by simp) _
  · rw [field_append_of_le (by simp), field_append_of_le (by simp)]
    exact field_append_front (by simp) _
  · rw [field_append_of_le (by simp), field_append_of_le (by simp), field_append_of_le (by simp), List.flatMap_cons, List.append_assoc]
    exact field_append_front (by simp) _

theorem hStrRuleWrite_of_pass {k : Svc} {x : StrCtx} {s : State} (hr : k.remote = none) (hf : k.f = 0) (hlen : k.cmd.len = 68)
    (hidx : k.n 0 2 < 8192) (hrule : ruleOk (field k.cmd.payload 4 64) = true) (hrsv : zeroAt k.cmd.payload 2 2 = true)
    (hx : s.ctx (fieldN (field k.cmd.payload 4 64) 0 2) = some x) (howner : x.owner = 0) (hdir : dDir x.desc = 0)
    (hothers : (ruleOwners s (k.n 0 2)).any (· != 0) = false) :
    hStrRuleWrite k s = .ok [] (eff [stage 0 (.obj K_RULE (k.n 0 2) (some (leBytes 1 0 ++ field k.cmd.payload 4 64)))]) := by
  have hidx' : ¬ 8191 < k.n 0 2 := by omega
  simp only [hStrRuleWrite, checks_cons, checks_nil, badLen_fst, rsv_fst, lacks_fst, hlen, hidx', hrule, hrsv, hx, howner, hdir, hf, hothers,
    isF0_of_f hf, holds_of_F0 hr hf, bne_self_eq_false, beq_self_eq_true, Bool.not_true, Bool.and_self, Bool.false_and, Bool.or_self,
    decide_false, if_false, Bool.false_eq_true]

theorem hPrnScopeSet_of_pass {k : Svc} {s : State} (hf : k.f = 0) (hlen : k.cmd.len = 8) (hlo : 1 ≤ k.n 0 1) (hhi : k.n 0 1 < 64)
    (hcount : k.n 1 1 = 0) (hrsv : zeroAt k.cmd.payload 6 2 = true) (hrules : liveObjs s K_RULE = [])
    (hctxs : (ctxsOf s (k.n 0 1)).length ≤ k.n 2 2) (hheld : (ruleHeld s (k.n 0 1)).length ≤ k.n 4 2) :
    hPrnScopeSet k s = .ok [] (saveObj K_SCOPE (k.n 0 1) (leBytes 1 0 ++ field k.cmd.payload 2 4 ++ field (k.cmd.payload.drop 8) 0 64)) := by
  have hne : k.n 0 1 ≠ 0 := by omega
  have hmax : ¬ 63 < k.n 0 1 := by omega
  simp [hPrnScopeSet, hlen, notF0_fst hf, hne, hmax, hcount, hrsv, hrules, Nat.not_lt.mpr hctxs, Nat.not_lt.mpr hheld]

/-- What a deletion does: the packets that wait for the context pass, and its index is free. -/
def deleteAct (i : Nat) : Act := acts [releaseWaiting i,
  eff [effStr fun t => { t with ctxs := t.ctxs.del i, cache := t.cache.filter (· != i) }], syncPinned,
  fun s => [.prm Prm.STR_CTX_USED (w32 s.str.ctxs.size)]]

theorem hStrCtxDelete_of_pass {k : Svc} {x : StrCtx} {s : State} (hlen : k.cmd.len = 4) (hidx : k.n 0 2 < 4096)
    (hrsv : zeroAt k.cmd.payload 2 2 = true) (hx : namedCtx k s (k.n 0 2) = some x) (hrule : ruleNames s (k.n 0 2) = false)
    (hlayer : layerNames s 1 (k.n 0 2) = false) (hout : outputNames s 2 (k.n 0 2) = false) :
    hStrCtxDelete k s = .ok [] (deleteAct (k.n 0 2)) := by
  have hidx' : ¬ 4095 < k.n 0 2 := by omega
  simp [hStrCtxDelete, deleteAct, hlen, hidx', hrsv, hx, hrule, hlayer, hout]

/-- R338: the context is gone after its deletion, and no memory has changed. -/
theorem run_deleteAct {i : Nat} {s : State} (h : ∀ w ∈ s.str.waiting, w.ctx ≠ i) :
    ((deleteAct i).run s).ctx i = none ∧ ((deleteAct i).run s).devMem = s.devMem ∧ ((deleteAct i).run s).hostMem = s.hostMem := by
  have hnone : (s.str.waiting.filter fun w => w.ctx == i) = [] := List.filter_eq_nil_iff.mpr fun w hw => by simpa using h w hw
  have hrel : releaseWaiting i s = [effStr fun t => { t with waiting := t.waiting.filter fun w => w.ctx != i }] := by
    simp only [releaseWaiting, hnone]
    rfl
  simp only [deleteAct, Act.run_eq, applyAll_acts_cons, hrel, acts_nil, applyAll_nil, eff_apply, syncPinned, applyAll_cons, State.ctx, effStr,
    Eff.str_str, Eff.prm_str, Eff.prm_devMem, Eff.str_devMem, Eff.prm_hostMem, Eff.str_hostMem, FMap.find_del_same, and_self]

/-- Settles O24: each handler passes its checks on the operands named; what it leaves of a context is read through the answer. -/
theorem streamCommands : Obligations.StreamCommands := by
  refine ⟨fun k i s hs hf hlen hdesc hseal hess hring hfree => ?_, fun k x s hs hlen hidx hrsv hx hrule hlayer hout hwait => ?_,
    fun k x s hs hlen hop hrsv hidx hf hx hdir howner => ?_, fun k x s hs hlen hop hrsv hidx hf hx hdir howner => ?_,
    fun k x s hs hlen hop hrsv hidx hf hx hdir howner hcache hall hset => ?_, fun k x s hs hlen hop hrsv hidx hf hx hdir howner => ?_,
    fun k x s hs hlen hidx hrsv hx => ?_, fun k x s hs hf hlen hidx hrule hrsv hx howner hdir hothers => ?_,
    fun k s hs hf hlen hidx hrsv => ?_, fun k b s hs hf hlen hidx hrsv hb => ?_,
    fun k s hs hf hlen hlo hhi hcount hrsv hrules hctxs hheld => ?_, fun k s hs hf hlen hidx hrsv => ?_⟩
  · have hok := hStrCtxCreate_of_pass hs.2.2.2.1 hf hlen hdesc hseal hess hring hfree
    rw [hf] at hok
    exact outcome_turn_of_ok hs hok
  · obtain ⟨hgone, hdev, hhost⟩ := run_deleteAct hwait
    refine ⟨_, outcome_turn_of_ok hs (hStrCtxDelete_of_pass hlen hidx hrsv hx hrule hlayer hout), (answered_ctx ..).trans hgone,
      answered_inService .., ?_, ?_⟩
    · rw [(agree_answered ..).devMem rfl, hdev]
    · rw [(agree_answered ..).hostMem rfl, hhost]
  · exact ⟨_, _, exec_ctl hs hf hlen hop hrsv hidx hx howner fun h => absurd h (by decide), (answered_ctx ..).trans (ctx_effCtx_same hx _), rfl,
      answered_inService ..⟩
  · exact ⟨_, _, exec_ctl hs hf hlen hop hrsv hidx hx howner fun h => absurd h (by decide), (answered_ctx ..).trans (ctx_effCtx_same hx _), rfl,
      answered_inService ..⟩
  · have hload : ((cacheLoad (k.n 0 2)).run s).ctx (k.n 0 2) = some x := by
      rw [Act.run_eq, cacheLoad, if_pos hcache]
      exact hx
    have hpin : ((ctlAct (k.n 0 2) 4).run s).ctx (k.n 0 2) = some { x with pinned := true } := by
      simp only [ctlAct, Act.run_eq, applyAll_acts_cons, eff_apply, applyAll_cons, acts_nil, applyAll_nil, syncPinned]
      exact ctx_effCtx_same hload fun x => { x with pinned := true }
    exact ⟨_, _, exec_ctl hs hf hlen hop hrsv hidx hx howner fun _ => ⟨hall, hset⟩, (answered_ctx ..).trans hpin, rfl, answered_inService ..⟩
  · exact ⟨_, _, exec_ctl hs hf hlen hop hrsv hidx hx howner fun h => absurd h (by decide), (answered_ctx ..).trans (ctx_effCtx_same hx _), rfl,
      answered_inService ..⟩
  · obtain ⟨payload, hok, hrest⟩ := hStrCtxInfo_of_named hlen hidx hrsv hx
    exact ⟨payload, outcome_turn_of_ok hs hok, hrest⟩
  · exact outcome_turn_of_ok hs (hStrRuleWrite_of_pass hs.2.2.2.1 hf hlen hidx hrule hrsv hx howner hdir hothers)
  · refine outcome_turn_of_ok (h := hStrRuleClear) hs ?_
    have hidx' : ¬ 8191 < k.n 0 2 := by omega
    simp [hStrRuleClear, hlen, hidx', hrsv, isF0_of_f hf, hf]
  · refine outcome_turn_of_ok (h := hStrRuleRead) hs ?_
    have hidx' : ¬ 8191 < k.n 0 2 := by omega
    simp [hStrRuleRead, hlen, hidx', hrsv, isF0_of_f hf, hb]
  · exact outcome_turn_of_ok hs (hPrnScopeSet_of_pass hf hlen hlo hhi hcount hrsv hrules hctxs hheld)
  · refine outcome_turn_of_ok (h := hPrnInfo) hs ?_
    have hmax : ¬ 63 < k.n 0 1 := by omega
    simp [hPrnInfo, hlen, hmax, hidx, hrsv, isF0_of_f hf]

/-! ### Traffic (R326 to R361) -/

/-- A frame with a bad FCS is counted (R326). -/
theorem actEthFrameRx_of_fcs {p : Fin 4} {room : Bool} {frame : Bytes} {s : State} (hen : bitOf (s.pn (Prm.ETH_PORT_CFG p)) 31 = true) :
    actEthFrameRx p false room frame s =
      [.count64 (Prm.ETH_RX_FRAMES_LO p) 1, .count64 (Prm.ETH_RX_BYTES_LO p) frame.length] ++ [.count (Prm.ETH_FCS_ERRS p) 1] := by
  simp [actEthFrameRx, hen]

theorem actEthFrameRx_of_classified {p : Fin 4} {frame : Bytes} {i : Nat} {q : Pkt} {s : State}
    (hen : bitOf (s.pn (Prm.ETH_PORT_CFG p)) 31 = true) (hlo : 64 ≤ frame.length) (hhi : frame.length ≤ s.pn (Prm.ETH_MTU p) + 22)
    (htype : beNat (field frame (tagOf frame).2 2) ≠ 0x8808) (hanswer : answerFrame s p frame = none) (hudp : parseUdp p s.vis frame = some q)
    (h319 : q.dport ≠ 319) (h320 : q.dport ≠ 320) (hrtcp : isRtcp q.body = false) (hclass : classify s q = some i) :
    actEthFrameRx p true true frame s =
      [.count64 (Prm.ETH_RX_FRAMES_LO p) 1, .count64 (Prm.ETH_RX_BYTES_LO p) frame.length] ++ meetCache i q frame s := by
  simp [actEthFrameRx, hen, Nat.not_lt.mpr hlo, Nat.not_lt.mpr hhi, htype, hanswer, hudp, h319, h320, hrtcp, hclass]

theorem pathOf_setPath (b : Bool) (g : StrPath → StrPath) (x : StrCtx) : pathOf (setPath b g x) b = g (pathOf x b) := by
  cases b <;> rfl

theorem actPathLoss_of_up {n : Fin 4096} {pathB : Bool} {x : StrCtx} {s : State} (hx : s.ctx n = some x) (hdual : dDual x.desc = true)
    (hup : (pathOf x pathB).up = true) : actPathLoss n pathB s = [effCtx n (setPath pathB fun p => { p with up := false }),
      .raise (84 + (if pathB then dPortB x.desc else dPortA x.desc))] := by
  simp [actPathLoss, hx, hdual, hup]

theorem actEgressPacket_of_video {n : Fin 4096} {len : Nat} {x : StrCtx} {tx : StrTx} {s : State} (hx : s.ctx n = some x)
    (hdir : dDir x.desc = 1) (hen : x.enabled = true) (hess : dEss x.desc = 0) (htx : x.tx = some tx) :
    actEgressPacket n len true s = egressVideo n x tx s := by
  simp [actEgressPacket, hx, hdir, hen, hess, htx]

theorem actEgressPacket_of_missing {n : Fin 4096} {len : Nat} {x : StrCtx} {s : State} (hx : s.ctx n = some x)
    (hdir : dDir x.desc = 1) (hen : x.enabled = true) (hess : dEss x.desc = 1) : actEgressPacket n len false s = egressUnderflow n := by
  simp [actEgressPacket, hx, hdir, hen, hess]

theorem event80_reserved : ∀ n < 8, evtReserved (80 + n) = false := by decide

theorem ethState_lt (up fec aligned : Bool) :
    (if up then 1 else 0) + 2 * (if fec then 1 else 0) + 4 * (if aligned then 1 else 0) < 2 ^ 32 := by
  cases up <;> cases fec <;> cases aligned <;> decide

theorem mbx_effMbx_same (f : Nat) (g : Mbx → Mbx) (s : State) : ((effMbx f g).apply s).mbx f = g (s.mbx f) := FMap.getD_upd_same ..

/-- What a frame with a bad FCS leaves. -/
theorem run_ethFrameRx_of_fcs {p : Fin 4} {room : Bool} {frame : Bytes} {s : State} (hen : bitOf (s.pn (Prm.ETH_PORT_CFG p)) 31 = true) :
    let t := (actEthFrameRx p false room frame).run s
    t.pn (Prm.ETH_FCS_ERRS p) = satAdd 0xFFFFFFFF (s.pn (Prm.ETH_FCS_ERRS p)) 1 ∧ t.str = s.str ∧ t.regs = s.regs ∧ sameStores s t := by
  have hc : copyFind (Prm.ETH_FCS_ERRS p) prmCopies = none := plain_prm (b := 0x616) (st := 32) (c := 4) (by decide +kernel) p.isLt
  have hpre : [Eff.count64 (Prm.ETH_RX_FRAMES_LO p) 1, .count64 (Prm.ETH_RX_BYTES_LO p) frame.length].all (sparesPrm (Prm.ETH_FCS_ERRS p)) = true := by
    simp [sparesPrm, Prm.ETH_RX_FRAMES_LO, Prm.ETH_RX_BYTES_LO, Prm.ETH_FCS_ERRS]
    omega
  rw [Act.run_eq, actEthFrameRx_of_fcs hen]
  refine ⟨?_, ?_, ?_, ?_⟩
  · rw [applyAll_append, applyAll_cons, applyAll_nil, pn_count_same hc, pn_applyAll_of_spares hc hpre]
  · exact (agree_applyAll _ s).str rfl
  · exact (agree_applyAll _ s).regs rfl
  · exact applyAll_sameStores rfl s

theorem run_missStormWindow_of_storm {s : State} (h : s.pn Prm.STR_MISS_STORM_T < s.str.missWin) :
    let t := actMissStormWindow.run s
    t.evt 88 = true ∧ t.str.missWin = 0 ∧ t.pn Prm.STR_STORMS = satAdd 0xFFFFFFFF (s.pn Prm.STR_STORMS) 1 ∧ sameStores s t := by
  have hact : actMissStormWindow s = [.raise 88, .count Prm.STR_STORMS 1, effStr fun t => { t with missWin := 0 }] := by
    simp [actMissStormWindow, raiseIf, h]
  have hc : copyFind Prm.STR_STORMS prmCopies = none := by decide +kernel
  rw [Act.run_eq, hact]
  refine ⟨?_, rfl, ?_, ?_⟩
  · exact evt_applyAll_of_raise (by decide) rfl (by simp) s
  · rw [applyAll_cons, applyAll_cons, pn_applyAll_of_spares hc rfl, pn_count_same hc, pn_congr hc (prms_apply rfl s)]
  · exact applyAll_sameStores rfl s

theorem run_missStormWindow_of_calm {s : State} (h : s.str.missWin ≤ s.pn Prm.STR_MISS_STORM_T) :
    let t := actMissStormWindow.run s
    t.str.missWin = 0 ∧ t.regs = s.regs ∧ t.prms = s.prms ∧ t.out = s.out ∧ sameStores s t := by
  have hact : actMissStormWindow s = [effStr fun t => { t with missWin := 0 }] := by
    simp [actMissStormWindow, raiseIf, Nat.not_lt.mpr h]
  rw [Act.run_eq, hact]
  exact ⟨rfl, rfl, rfl, rfl, applyAll_sameStores rfl s⟩

theorem run_pathLoss_of_up {n : Fin 4096} {pathB : Bool} {x : StrCtx} {s : State} (hx : s.ctx n = some x) (hdual : dDual x.desc = true)
    (hup : (pathOf x pathB).up = true) (hA : dPortA x.desc < 4) (hB : dPortB x.desc < 4) :
    let t := (actPathLoss n pathB).run s
    t.ctx n = some (setPath pathB (fun p => { p with up := false }) x) ∧
      t.evt (84 + (if pathB then dPortB x.desc else dPortA x.desc)) = true ∧ sameStores s t := by
  have hport : (if pathB then dPortB x.desc else dPortA x.desc) < 4 := by
    split
    · exact hB
    · exact hA
  have hres : evtReserved (84 + (if pathB then dPortB x.desc else dPortA x.desc)) = false := by
    simpa only [← Nat.add_assoc] using event80_reserved (4 + _) (Nat.add_lt_add_left hport 4)
  rw [Act.run_eq, actPathLoss_of_up hx hdual hup]
  refine ⟨?_, ?_, ?_⟩
  · rw [applyAll_cons, applyAll_cons, applyAll_nil, ctx_of_str ((agree_apply _ _).str rfl), ctx_effCtx_same hx]
  · exact evt_applyAll_of_raise hres rfl (by simp) s
  · exact applyAll_sameStores rfl s

theorem run_egressPacket_of_missing {n : Fin 4096} {len : Nat} {x : StrCtx} {s : State} (hx : s.ctx n = some x)
    (hdir : dDir x.desc = 1) (hen : x.enabled = true) (hess : dEss x.desc = 1) :
    let t := (actEgressPacket n len false).run s
    t.evt 93 = true ∧ t.pn Prm.STR_EGRESS_UNDERFLOWS = satAdd 0xFFFFFFFF (s.pn Prm.STR_EGRESS_UNDERFLOWS) 1 ∧ sameStores s t := by
  have hc : copyFind Prm.STR_EGRESS_UNDERFLOWS prmCopies = none := by decide +kernel
  rw [Act.run_eq, actEgressPacket_of_missing hx hdir hen hess, egressUnderflow]
  refine ⟨?_, ?_, ?_⟩
  · exact evt_applyAll_of_raise (by decide) rfl (by simp) s
  · rw [applyAll_cons, applyAll_cons, pn_applyAll_of_spares hc rfl, pn_count_same hc, pn_congr hc (prms_apply rfl s)]
  · exact applyAll_sameStores rfl s

theorem run_ethLinkChange (p : Fin 4) (up fec aligned : Bool) (s : State) :
    let t := (actEthLinkChange p up fec aligned).run s
    t.pn (Prm.ETH_STATE p) = (if up then 1 else 0) + 2 * (if fec then 1 else 0) + 4 * (if aligned then 1 else 0) ∧
      t.pn (Prm.ETH_LINK_CHANGES p) = satAdd 0xFFFFFFFF (s.pn (Prm.ETH_LINK_CHANGES p)) 1 ∧ t.evt (80 + p) = true ∧ sameStores s t := by
  have hstate : copyFind (Prm.ETH_STATE p) prmCopies = none := plain_prm (b := 0x60C) (st := 32) (c := 4) (by decide +kernel) p.isLt
  have hchanges : copyFind (Prm.ETH_LINK_CHANGES p) prmCopies = none := plain_prm (b := 0x60D) (st := 32) (c := 4) (by decide +kernel) p.isLt
  have hne : Prm.ETH_LINK_CHANGES p ≠ Prm.ETH_STATE p := by
    simp [Prm.ETH_STATE, Prm.ETH_LINK_CHANGES]
  rw [Act.run_eq, actEthLinkChange]
  refine ⟨?_, ?_, ?_, ?_⟩
  · rw [applyAll_cons, pn_applyAll_of_spares hstate, pn_prm_same hstate, w32, BitVec.toNat_ofNat, Nat.mod_eq_of_lt (ethState_lt up fec aligned)]
    simpa [sparesPrm] using hne
  · rw [applyAll_cons, applyAll_cons, pn_applyAll_of_spares hchanges rfl, pn_count_same hchanges, pn_prm_ne hne]
  · exact evt_applyAll_of_raise (event80_reserved p (by omega)) rfl (by simp) s
  · exact applyAll_sameStores rfl s

theorem run_xplMbxForward_of_refused {pkg : Fin 16} {f : Fn} {header payload : Bytes} {s : State} (hg : grantOf s pkg f = none) :
    let t := (actXplMbxForward pkg f header payload).run s
    t.evt 95 = true ∧ t.arm = s.arm ∧ t.prms = s.prms ∧ sameStores s t := by
  simp only [Act.run_eq, actXplMbxForward, hg]
  refine ⟨?_, ?_, ?_, ?_⟩
  · exact evt_applyAll_of_raise (by decide) rfl (by simp) s
  · exact (agree_applyAll _ s).arm rfl
  · exact (agree_applyAll _ s).prms rfl
  · exact applyAll_sameStores rfl s

theorem run_xplMbxForward_of_granted {pkg : Fin 16} {f : Fn} {header payload : Bytes} {g : Nat × Nat} {s : State}
    (hg : grantOf s pkg f = some g) (hrung : (s.mbx (remoteKey pkg f)).rung = none) :
    let t := (actXplMbxForward pkg f header payload).run s
    ((t.mbx (remoteKey pkg f)).rung.map (·.opcode)) = some (fieldN header 0 2) ∧ t.regs = s.regs ∧ t.prms = s.prms ∧ sameStores s t := by
  simp only [Act.run_eq, actXplMbxForward, hg, hrung, Option.isSome_none, Bool.false_eq_true, if_false]
  refine ⟨?_, ?_, ?_, ?_⟩
  · rw [applyAll_cons, applyAll_nil, mbx_effMbx_same]
    rfl
  · exact (agree_applyAll _ s).regs rfl
  · exact (agree_applyAll _ s).prms rfl
  · exact applyAll_sameStores rfl s

/-- Settles O25: each row's effects are listed from its branch, and each reading is of the last effect that sets it. -/
theorem streamTraffic : Obligations.StreamTraffic := by
  refine ⟨fun p room frame s hen => ⟨_, rfl, run_ethFrameRx_of_fcs hen⟩,
    fun p frame i q s hen hlo hhi htype hanswer hudp h319 h320 hrtcp hclass => ?_, fun w rest s hw => ?_,
    fun s hstorm => ⟨_, rfl, run_missStormWindow_of_storm hstorm⟩, fun s hcalm => ⟨_, rfl, run_missStormWindow_of_calm hcalm⟩,
    fun n pathB x s hx hdual hup hA hB => ?_, fun n x bound s hx hhigh => ?_,
    fun n len x s hx hdir hen hess => ⟨_, rfl, run_egressPacket_of_missing hx hdir hen hess⟩, fun n len x tx s hx hdir hen hess htx => ?_,
    fun p up fec aligned s => ⟨_, rfl, run_ethLinkChange p up fec aligned s⟩,
    fun pkg f header payload s hg => ⟨_, rfl, run_xplMbxForward_of_refused hg⟩,
    fun pkg f header payload g s hg hrung => ⟨_, rfl, run_xplMbxForward_of_granted hg hrung⟩⟩
  · show (actEthFrameRx p true true frame).outcome s = _
    rw [Act.outcome_eq, actEthFrameRx_of_classified hen hlo hhi htype hanswer hudp h319 h320 hrtcp hclass]
  · show actCtxMissFill.outcome s = _
    simp only [Act.outcome_eq, actCtxMissFill, hw, applyAll_acts_cons, acts_nil, applyAll_nil, Act.run_eq]
  · obtain ⟨hctx, hrest⟩ := run_pathLoss_of_up hx hdual hup hA hB
    exact ⟨_, _, rfl, hctx, congrArg StrPath.up (pathOf_setPath ..), hrest⟩
  · show (actStreamFrameTimeout n).outcome s = _
    simp only [Act.outcome_eq, actStreamFrameTimeout, hx, hhigh, Act.run_eq]
  · show (actEgressPacket n len true).outcome s = _
    rw [Act.outcome_eq, actEgressPacket_of_video hx hdir hen hess htx, Act.run_eq]

end Sys2Proof.Streams
end

section
/-! The mailbox commands of the wall, its boundaries, tokens and latches (chapters 10 and 13). -/
open Sys2Proof Sys2Proof.Machine Sys2Proof.Reads Sys2Proof.ServiceTurn Sys2Proof.Tickets Sys2Proof.Turns Sys2Proof.Basics Sys2Proof.Spans
open Sys2Proof.Camera Sys2Proof.Streams

namespace Sys2Proof.Wall

/-! ### Numbers in payloads -/

theorem leNat_leBytes (k n : Nat) : leNat (leBytes k n) = n % 256 ^ k := by
  induction k generalizing n with
  | zero => simp [leBytes, leNat, Nat.mod_one]
  | succ k ih =>
    rw [leBytes, leNat, ih, Nat.pow_succ', Nat.mod_mul, BitVec.toNat_ofNat]

theorem fieldN_front (k n : Nat) (b : Bytes) : fieldN (leBytes k n ++ b) 0 k = n % 256 ^ k := by
  rw [fieldN, field_append_front (leBytes_length k n), leNat_leBytes]

/-! ### Which effects a ticket's completion has -/

/-- The parts that the completion of a ticket reaches. -/
def ticketParts : List StatePart := [.arm, .regs, .out]

theorem reaches_syncTickets (f : Nat) : Every (reaches ticketParts) (syncTickets f) := by
  intro s
  unfold syncTickets
  split <;> rfl

theorem reaches_completeTicket (f id status : Nat) (result : Bytes) : Every (reaches ticketParts) (completeTicket f id status result) := by
  refine Every.cons (fun s => ?_) (Every.cons (reaches_syncTickets f) (Every.nil _))
  dsimp only
  split
  · rfl
  · split
    · rfl
    · rw [List.all_append, Bool.and_eq_true]
      exact ⟨rfl, by split <;> rfl⟩

/-! ### The handlers -/

theorem hLyrSet_of_pass {k : Svc} {s : State} (hlen : k.cmd.len = 68) (hright : k.holds s R_WINDOW = true) (hl : k.n 0 1 < 64)
    (hfields : layerFieldsOk (leBytes 1 k.f ++ field k.cmd.payload 4 64) = true) (hrsv : zeroAt k.cmd.payload 1 3 = true)
    (hwin : (if lyWin (leBytes 1 k.f ++ field k.cmd.payload 4 64) = 255 then !k.isF0
      else (winObj s k.f (lyWin (leBytes 1 k.f ++ field k.cmd.payload 4 64))).isNone) = false)
    (htaken : layerTaken s k.f (k.n 0 1) = false) :
    hLyrSet k s = .ok (leBytes 1 (k.n 0 1) ++ [0, 0, 0])
      (eff [stage k.f (.obj K_LAYER (k.n 0 1) (some (leBytes 1 k.f ++ field k.cmd.payload 4 64)))]) := by
  have hne : k.n 0 1 ≠ 255 := by omega
  have hmax : ¬ 63 < k.n 0 1 := by omega
  simp only [hLyrSet, checks_cons, checks_nil, badLen_fst, rsv_fst, lacks_fst, hlen, hright, hfields, hrsv, hwin, htaken, hne, hmax,
    bne_self_eq_false, Bool.not_true, Bool.or_self, Bool.and_false, Bool.false_and, Bool.false_eq_true, if_false, decide_false, beq_iff_eq,
    Bool.and_eq_true, false_and]

/-- Bit 0 of a layer's state word says that the layer is used. -/
theorem layerState_odd_iff_used : ∀ (used off lost fallback aliased : Bool) (filter : Fin 8),
    ((if used then 1 else 0) + (if off then 2 else 0) + (if lost then 4 else 0) + (if fallback then 8 else 0) + (if aliased then 16 else 0) +
      32 * filter.val) % 256 ^ 4 % 2 = if used then 1 else 0 := by
  decide +kernel

/-- R379: the answer to LYR_INFO: a word of state whose bit 0 says that the layer is used, then its counts. -/
theorem hLyrInfo_of_pass {k : Svc} {s : State} (hf : k.f = 0) (hlen : k.cmd.len = 4) (hl : k.n 0 1 < 64) (hrsv : zeroAt k.cmd.payload 1 3 = true) :
    ∃ payload, hLyrInfo k s = .ok payload (fun _ => []) ∧ payload.length = 20 ∧
      field payload 4 4 = leBytes 4 (s.pn (Prm.LYR_UNDERRUNS (k.n 0 1))) ∧
      (fieldN payload 0 4) % 2 = if (s.obj K_LAYER (k.n 0 1)).isSome then 1 else 0 := by
  have hmax : ¬ 63 < k.n 0 1 := by omega
  simp only [hLyrInfo, checks_cons, checks_nil, badLen_fst, rsv_fst, hlen, hmax, hrsv, isF0_of_f hf, bne_self_eq_false, Bool.not_true,
    Bool.false_and, decide_false, if_false, Bool.false_eq_true, Reply.ok, Reply.mk.injEq, true_and, and_true, exists_eq_left', List.append_assoc]
  refine ⟨by simp, ?_, ?_⟩
  · rw [field_append_of_le (by simp)]
    exact field_append_front (by simp) _
  · rw [fieldN_front]
    exact layerState_odd_iff_used _ _ _ _ _ ⟨_, Nat.mod_lt _ (by decide)⟩

theorem hCmdPush_of_solid {k : Svc} {s : State} (hf : k.f = 0) (hlen : k.cmd.len = 32) (hop : k.n 2 1 = 2) (hfmt : k.n 3 1 = 0)
    (htile : k.n 0 2 < mqTiles s.mqt) (hw : 1 ≤ k.n 8 2) (hh : 1 ≤ k.n 10 2) (hcols : k.n 4 2 + k.n 8 2 ≤ tlCols (mqTile s.mqt (k.n 0 2)))
    (hrows : k.n 6 2 + k.n 10 2 ≤ tlRows (mqTile s.mqt (k.n 0 2))) (hrsv : zeroAt k.cmd.payload 24 8 = true)
    (hr : halfFinite (k.n 16 2) = true) (hg : halfFinite (k.n 18 2) = true) (hb : halfFinite (k.n 20 2) = true)
    (hrest : zeroAt k.cmd.payload 22 2 = true) (hmode : grpMode s (tlGroup (mqTile s.mqt (k.n 0 2))) = 0) :
    hCmdPush k s = .pending (acts [pushRows k.cmd.payload, fun s => [.wall fun x => { x with pushes := x.pushes ++
      [⟨k.f, (((s.mbx k.f).tickets.getLast?).map (·.id)).getD 0, k.cmd.payload⟩] }]]) := by
  have hraw : bitOf 2 0 = false := by decide
  have hsolid : bitOf 2 1 = true := by decide
  have hw' : k.n 8 2 ≠ 0 := by omega
  have hh' : k.n 10 2 ≠ 0 := by omega
  simp [hCmdPush, hlen, notF0_fst hf, hop, hfmt, hraw, hsolid, Nat.not_le.mpr htile, hw', hh', Nat.not_lt.mpr hcols, Nat.not_lt.mpr hrows, hrsv, hr, hg,
    hb, hrest, hmode]

theorem hCmdLatch_of_pass {k : Svc} {s : State} (hf : k.f = 0) (hlen : k.cmd.len = 16) (hg : k.n 0 1 < 4) (hat : k.n 1 1 = 0)
    (hrsv : zeroAt k.cmd.payload 2 2 = true) (hmode : grpMode s (k.n 0 1) = 0) :
    hCmdLatch k s = .ok (timeBytes (s.vis + s.pn (Prm.GRP_LATCH_MARGIN_NS (k.n 0 1)) * NS + s.free.toNat) ++ leBytes 4 0)
      (eff [.draw, addLatch (k.n 0 1) ⟨0, none, s.vis + s.pn (Prm.GRP_LATCH_MARGIN_NS (k.n 0 1)) * NS + s.free.toNat, false, true,
        groupTiles s (k.n 0 1)⟩]) := by
  have hmax : ¬ 3 < k.n 0 1 := by omega
  simp [hCmdLatch, hlen, notF0_fst hf, hmax, hat, hrsv, hmode]

/-- The end of the oldest push: it leaves the queue and is counted, its ticket completes, and the event is raised. -/
theorem run_cmdPushDone_eq {p : Push} {rest : List Push} {s : State} (h : s.wall.pushes = p :: rest) : ∃ result,
    actCmdPushDone.run s = applyAll [.raise 165] ((completeTicket p.f p.ticket ST_OK result).run
      (applyAll [.wall fun x => { x with pushes := rest }, .count Prm.CMD_PUSHES 1] s)) := by
  obtain ⟨result, hact⟩ : ∃ result, actCmdPushDone s = acts [eff [.wall fun x => { x with pushes := rest }, .count Prm.CMD_PUSHES 1],
      completeTicket p.f p.ticket ST_OK result, eff [.raise 165]] s := by
    simp only [actCmdPushDone, h]
    exact ⟨_, rfl⟩
  exact ⟨result, by rw [run_congr hact, run_acts_cons, run_acts_cons, run_acts_cons, run_acts_nil, run_eff, run_eff]⟩

/-- What the end of the oldest push leaves (R402). -/
theorem run_cmdPushDone {p : Push} {rest : List Push} {s : State} (h : s.wall.pushes = p :: rest) :
    let t := actCmdPushDone.run s
    t.wall.pushes = rest ∧ t.evt 165 = true ∧ t.pn Prm.CMD_PUSHES = satAdd 0xFFFFFFFF (s.pn Prm.CMD_PUSHES) 1 ∧ sameStores s t := by
  have hc : copyFind Prm.CMD_PUSHES prmCopies = none := by decide +kernel
  obtain ⟨result, hrun⟩ := run_cmdPushDone_eq h
  rw [hrun]
  have hticket := (reaches_completeTicket p.f p.ticket ST_OK result).agree
    (applyAll [.wall fun x => { x with pushes := rest }, .count Prm.CMD_PUSHES 1] s)
  refine ⟨?_, evt_applyAll_of_raise (by decide) rfl (by simp) _, ?_, ?_⟩
  · rw [(agree_applyAll _ _).wall rfl, hticket.wall rfl]
    rfl
  · rw [pn_congr hc ((agree_applyAll _ _).prms rfl), pn_congr hc (hticket.prms rfl), applyAll_cons, applyAll_cons, applyAll_nil,
      pn_count_same hc, pn_congr hc (prms_apply rfl s)]
  · exact sameStores_trans (applyAll_sameStores rfl s) (sameStores_trans (hticket.sameStores rfl rfl rfl rfl rfl rfl) (applyAll_sameStores rfl _))

/-- Settles O26: each handler passes its checks on the operands named. -/
theorem wallCommands : Obligations.WallCommands := by
  refine ⟨fun k s hs hf hlen hstandby ht => ?_, fun k s hs hf hlen hrsv ht => ?_, fun k s hs hf hlen hfn hw hop hrsv hrest hfin => ?_,
    fun k s hs hlen hright hl hfields hrsv hwin htaken => ?_, fun k s hs hlen hright => ?_, fun k s hs hlen hright hl hrsv htaken => ?_,
    fun k s hs hf hlen hl hrsv => ?_, fun k s hs hf hlen hop hfmt htile hw hh hcols hrows hrsv hr hg hb hrest hmode ht => ?_,
    fun p rest s h => ⟨_, rfl, run_cmdPushDone h⟩, fun k s hs hf hlen hg hat hrsv hmode => ?_⟩
  · refine outcome_turn_of_pending (h := hMqtLoad) hs ?_ ht
    simp [hMqtLoad, hlen, notF0_fst hf, hstandby]
  · refine outcome_turn_of_pending (h := hMqtRead) hs ?_ ht
    simp [hMqtRead, hlen, notF0_fst hf, hrsv]
  · refine outcome_turn_of_ok (h := hWinSet) hs ?_
    have hfn' : ¬ 63 < k.n 0 1 := by omega
    have hw' : ¬ 15 < k.n 1 1 := by omega
    simp [hWinSet, hlen, notF0_fst hf, hfn', hw', hop, hrsv, hrest, hfin, hf]
  · exact outcome_turn_of_ok hs (hLyrSet_of_pass hlen hright hl hfields hrsv hwin htaken)
  · refine outcome_turn_of_refuse (h := hLyrSet) hs ?_ (by decide)
    simp [hLyrSet, hlen, hright]
  · refine outcome_turn_of_ok (h := hLyrClear) hs ?_
    have hl' : ¬ 63 < k.n 0 1 := by omega
    simp [hLyrClear, hlen, hright, hl', hrsv, htaken]
  · obtain ⟨payload, hok, hrest⟩ := hLyrInfo_of_pass hf hlen hl hrsv
    exact ⟨payload, outcome_turn_of_ok hs hok, hrest⟩
  · exact outcome_turn_of_pending hs (hCmdPush_of_solid hf hlen hop hfmt htile hw hh hcols hrows hrsv hr hg hb hrest hmode) ht
  · exact outcome_turn_of_ok hs (hCmdLatch_of_pass hf hlen hg hat hrsv hmode)

/-! ### Boundaries, windows, tokens and latches -/

theorem actFrameBoundary_of_ready {g : Fin 4} {s : State} (halign : grpAlign s g = false) (hmode : grpMode s g = 1) (hready : gatesReady s g = true)
    (hperiod : periodPassed s g (grpMin s g) = true) : actFrameBoundary g s = groupBoundary g (s.vis, 1) none (nextFrame s g) false s := by
  simp [actFrameBoundary, halign, hmode, hready, hperiod]

theorem actAlignedBoundary_of_index {g : Fin 4} {n : Nat} {s : State} (halign : grpAlign s g = true) (hindex : alignedIndex s g = some n)
    (hlast : (s.group g).last = none) : actAlignedBoundary g s =
      groupBoundary g (alignedAt s g n) (some (alignedAt s g (n + 1))) (n % 2 ^ 48) false s := by
  simp [actAlignedBoundary, halign, hindex, hlast]

theorem actGrpPeriodMaxExpiry_of_passed {g : Fin 4} {s : State} (halign : grpAlign s g = false) (hwaits : (s.group g).waits = false)
    (hperiod : periodPassed s g (grpMax s g) = true) : actGrpPeriodMaxExpiry g s = groupBoundary g (s.vis, 1) none (nextFrame s g) true s := by
  simp [actGrpPeriodMaxExpiry, halign, hwaits, hperiod]

theorem run_tileMissStormWindow_of_storm {s : State} (h : s.pn Prm.TILE_MISS_STORM_T < s.wall.missWin) :
    let t := actTileMissStormWindow.run s
    t.evt 163 = true ∧ t.wall.missWin = 0 ∧ t.pn Prm.TILE_STORMS = satAdd 0xFFFFFFFF (s.pn Prm.TILE_STORMS) 1 ∧ sameStores s t := by
  have hact : actTileMissStormWindow s = [.count Prm.TILE_STORMS 1, .raise 163, .wall fun w => { w with missWin := 0 }] := by
    simp [actTileMissStormWindow, h]
  have hc : copyFind Prm.TILE_STORMS prmCopies = none := by decide +kernel
  rw [Act.run_eq, hact]
  refine ⟨evt_applyAll_of_raise (by decide) rfl (by simp) s, rfl, ?_, applyAll_sameStores rfl s⟩
  rw [applyAll_cons, pn_applyAll_of_spares hc rfl, pn_count_same hc]

theorem run_tileMissStormWindow_of_calm {s : State} (h : s.wall.missWin ≤ s.pn Prm.TILE_MISS_STORM_T) :
    let t := actTileMissStormWindow.run s
    t.wall.missWin = 0 ∧ t.regs = s.regs ∧ t.prms = s.prms ∧ sameStores s t := by
  have hact : actTileMissStormWindow s = [.wall fun w => { w with missWin := 0 }] := by
    simp [actTileMissStormWindow, Nat.not_lt.mpr h]
  rw [Act.run_eq, hact]
  exact ⟨rfl, rfl, rfl, applyAll_sameStores rfl s⟩

theorem actUnitToken_of_good {p q : Fin 2176} {b c : Binding} {data : BitVec 256} {crc : BitVec 16} {frame y x : Nat} {late : Bool} {s : State}
    (hp : worksFor s p = some b) (hq : worksFor s q = some c) (hroute : routeOk s (some c) b = true) (hcrc : tokenCrc data = crc.toNat) :
    actUnitToken p (some q) data crc frame y x late false s = acts [ackSender q, runToken p data frame y x late] s := by
  simp [actUnitToken, hp, hq, hroute, hcrc]

theorem actUnitToken_of_corrupt {p q : Fin 2176} {b c : Binding} {data : BitVec 256} {crc : BitVec 16} {frame y x : Nat} {late : Bool} {s : State}
    (hp : worksFor s p = some b) (hq : worksFor s q = some c) (hroute : routeOk s (some c) b = true) (hcrc : tokenCrc data ≠ crc.toNat)
    (hfirst : (s.unitF q).refused = 0) :
    actUnitToken p (some q) data crc frame y x late false s = [effUnit q fun x => { x with refused := 1 }] := by
  simp [actUnitToken, hp, hq, hroute, hcrc, refuseToken, hfirst]

theorem actUnitToken_of_denied {p q : Fin 2176} {b c : Binding} {data : BitVec 256} {crc : BitVec 16} {frame y x : Nat} {late : Bool} {s : State}
    (hp : worksFor s p = some b) (hq : worksFor s q = some c) (hroute : routeOk s (some c) b = true) :
    actUnitToken p (some q) data crc frame y x late true s =
      [.inc (Reg.FLT_GATE_DENY (p / 136)) Fld.FLT_GATE_DENY.COUNT 1, .raise 248] := by
  simp [actUnitToken, hp, hq, hroute]

theorem unitF_effUnit_same (q : Nat) (g : UnitF → UnitF) (s : State) : ((effUnit q g).apply s).unitF q = g (s.unitF q) :=
  FMap.getD_upd_same ..

theorem actLatchDeadline_of_late {tile : Fin 1024} {l : Latch} {s : State} (hl : tileLatch s tile = some l)
    (hddp : tlDdp (mqTile s.mqt tile) = false) (hhold : l.hold = false) (hcmd : l.cmd = false) (hrows : rowsSent s (mqTile s.mqt tile) = false)
    (hsilent : pairSilent s = false) (hends : (linkEnds s (tlLink (mqTile s.mqt tile))).isEmpty = false)
    (hpresent : (s.tlkTile (tlLink (mqTile s.mqt tile)) (tlHop (mqTile s.mqt tile))).present = true)
    (hdelays : rxDelays s (tlGroup (mqTile s.mqt tile)) = false) :
    actLatchDeadline tile s = sendConjunction tile l true s ++ [.count64 Prm.TLK_HOLDS_LO 1] := by
  simp [actLatchDeadline, hl, hddp, hhold, hcmd, hrows, hsilent, hends, hpresent, hdelays]

theorem actConjunctionSend_of_sent {tile : Fin 1024} {l : Latch} {s : State} (hl : tileLatch s tile = some l)
    (hddp : tlDdp (mqTile s.mqt tile) = false) (hhold : l.hold = false) (hrows : rowsSent s (mqTile s.mqt tile) = true)
    (hsilent : pairSilent s = false) (hends : (linkEnds s (tlLink (mqTile s.mqt tile))).isEmpty = false)
    (hpresent : (s.tlkTile (tlLink (mqTile s.mqt tile)) (tlHop (mqTile s.mqt tile))).present = true)
    (hmatch : (s.tlkTile (tlLink (mqTile s.mqt tile)) (tlHop (mqTile s.mqt tile))).mismatch = false) (htime : l.time ≤ s.vis + SEC)
    (hdrive : driveHeld s tile = false) : actConjunctionSend tile s = sendConjunction tile l false s := by
  simp [actConjunctionSend, hl, hddp, hhold, hrows, hsilent, hends, hpresent, hmatch, Nat.not_lt.mpr htime, hdrive]

/-- Settles O27: each row takes the branch that the conditions name. -/
theorem wallRows : Obligations.WallRows := by
  refine ⟨fun g s halign hmode hready hperiod => ?_, fun g s hready => ?_, fun g n s halign hindex hlast => ?_,
    fun g s halign hwaits hperiod => ?_, fun s h => ⟨_, rfl, run_tileMissStormWindow_of_storm h⟩,
    fun s h => ⟨_, rfl, run_tileMissStormWindow_of_calm h⟩, fun p q b c data crc frame y x late s hp hq hroute hcrc => ?_,
    fun p q b c data crc frame y x late s hp hq hroute hcrc hfirst => ⟨(actUnitToken p (some q) data crc frame y x late false).run s, rfl, ?_⟩,
    fun p q b c data crc frame y x late s hp hq hroute => ⟨(actUnitToken p (some q) data crc frame y x late true).run s, rfl, ?_⟩,
    fun tile l s hl hddp hhold hcmd hrows hsilent hends hpresent hdelays => ?_,
    fun tile l s hl hddp hhold hrows hsilent hends hpresent hmatch htime hdrive => ?_⟩
  · show (actFrameBoundary g).outcome s = _
    rw [Act.outcome_eq, actFrameBoundary_of_ready halign hmode hready hperiod, Act.run_eq]
  · show (actFrameBoundary g).outcome s = _
    rw [Act.outcome_eq, actFrameBoundary, if_pos (by simp [hready]), applyAll_nil]
  · show (actAlignedBoundary g).outcome s = _
    rw [Act.outcome_eq, actAlignedBoundary_of_index halign hindex hlast, Act.run_eq]
  · show (actGrpPeriodMaxExpiry g).outcome s = _
    rw [Act.outcome_eq, actGrpPeriodMaxExpiry_of_passed halign hwaits hperiod, Act.run_eq]
  · show (actUnitToken p (some q) data crc frame y x late false).outcome s = _
    rw [Act.outcome_eq, actUnitToken_of_good hp hq hroute hcrc]
    simp only [applyAll_acts_cons, acts_nil, applyAll_nil, Act.run_eq]
  · rw [Act.run_eq, actUnitToken_of_corrupt hp hq hroute hcrc hfirst]
    exact ⟨congrArg UnitF.refused (unitF_effUnit_same ..), (agree_applyAll _ s).regs rfl, (agree_applyAll _ s).out rfl, applyAll_sameStores rfl s⟩
  · rw [Act.run_eq, actUnitToken_of_denied hp hq hroute]
    have hword : eventWord (Reg.FLT_GATE_DENY (p / 136)) = false := eventWord_of_gt (by unfold Reg.FLT_GATE_DENY; omega)
    refine ⟨evt_applyAll_of_raise (by decide) ?_ (by simp) s, (agree_applyAll _ s).flt rfl, applyAll_sameStores rfl s⟩
    simp [keepsEvt, hword]
  · show (actLatchDeadline tile).outcome s = _
    rw [Act.outcome_eq, actLatchDeadline_of_late hl hddp hhold hcmd hrows hsilent hends hpresent hdelays]
  · show (acts [actConjunctionSend tile, syncDrive]).outcome s = _
    rw [Act.outcome_eq, applyAll_acts_cons, actConjunctionSend_of_sent hl hddp hhold hrows hsilent hends hpresent hmatch htime hdrive]
    simp only [applyAll_acts_cons, acts_nil, applyAll_nil, Act.run_eq]

end Sys2Proof.Wall
end

section
/-! The mailbox commands of the patina store, of libration, of tile links and of direct drive ports (chapters 11 to 13). -/
open Sys2Proof Sys2Proof.Machine Sys2Proof.Reads Sys2Proof.ServiceTurn Sys2Proof.Tickets Sys2Proof.Turns Sys2Proof.Basics Sys2Proof.Spans
open Sys2Proof.Camera Sys2Proof.Streams Sys2Proof.Wall

namespace Sys2Proof.Tiles

/-! ### The patina store -/

theorem needCal_fst {k : Svc} (hf : k.f = 0) (s : State) : (needCal k s).1 = false := by
  simp [needCal, isF0_of_f hf]

theorem pended_pat (k : Svc) (a : Act) (s : State) : (pended k a s).pat = (a.run ((openTicket k).run s)).pat :=
  pended_keeps (·.pat) (fun e he s => (agree_apply e s).pat (by cases he <;> rfl)) ..

theorem hPatInfo_of_idle {k : Svc} {s : State} (hf : k.f = 0) (hlen : k.cmd.len = 0) (hw : s.pat.writer = 0) :
    ∃ payload, hPatInfo k s = .ok payload (eff []) ∧ payload.length = 20 ∧ field payload 0 2 = [if s.pat.activeB then 1 else 0, 0] ∧
      field payload 4 8 = leBytes 8 s.pat.gen ∧ field payload 16 4 = leBytes 4 1000 := by
  have hbank : leBytes 1 (if s.pat.activeB then 1 else 0) = [if s.pat.activeB then 1 else 0] := by split <;> rfl
  have hwriter : leBytes 1 0 = [0] := rfl
  simp only [hPatInfo, checks_cons, checks_nil, badLen_fst, needCal_fst hf, hlen, hw, hbank, hwriter, bne_self_eq_false, Bool.false_eq_true,
    if_false, OfNat.zero_ne_ofNat, Reply.ok, Reply.mk.injEq, true_and, eff_nil, and_true, exists_eq_left', List.append_assoc, List.cons_append,
    List.nil_append]
  refine ⟨by simp, rfl, ?_, ?_⟩
  · exact field_append_front (a := leBytes 8 s.pat.gen) (by simp) _
  · rfl

theorem hPatLampRead_of_pass {k : Svc} {s : State} (hf : k.f = 0) (hlen : k.cmd.len = 4) (hi : k.n 0 4 ≤ 33554431) :
    ∃ rest, hPatLampRead k s = .ok (s.activeBank.record (k.n 0 4) ++ field (s.activeBank.drive.getD (k.n 0 4) []) 0 8 ++ rest) (eff []) := by
  simp only [hPatLampRead, checks_cons, checks_nil, badLen_fst, needCal_fst hf, hlen, Nat.not_lt.mpr hi, bne_self_eq_false, Bool.false_eq_true,
    if_false, decide_false, List.append_assoc, List.append_cancel_left_eq, Reply.ok, Reply.mk.injEq, true_and, eff_nil, and_true, exists_eq']

theorem run_beginRollback_of_none {s : State} (h : s.lib.wait = none) : beginRollback.run s = s := by
  simp [Act.run_eq, beginRollback, h]

/-- The end of the background copy frees the inactive bank (R418). -/
theorem run_patSyncDone_of_copy {s : State} (hw : s.pat.writer = 3) (hwait : s.lib.wait = none) :
    let t := (acts [actPatSyncDone, beginRollback]).run s
    t.pat.writer = 0 ∧ t.regs = s.regs ∧ t.prms = s.prms ∧ sameStores s t := by
  obtain ⟨copy, hact⟩ : ∃ copy, actPatSyncDone s = [effBank (!s.pat.activeB) copy, .pat fun p => { p with writer := 0 }] := by
    simp [actPatSyncDone, hw]
  have hlib : (actPatSyncDone.run s).lib = s.lib := by rw [Act.run_eq, hact, (agree_applyAll _ s).lib rfl]
  dsimp only
  rw [run_acts_cons, run_acts_cons, run_acts_nil, run_beginRollback_of_none (by rw [hlib, hwait]), Act.run_eq, hact]
  exact ⟨rfl, rfl, rfl, applyAll_sameStores rfl s⟩

/-- Settles O28: each handler passes its checks on the operands named; the copy's end finds no rollback waiting. -/
theorem patinaRows : Obligations.PatinaRows := by
  refine ⟨fun k s hs hf hlen hstandby hheld ht => ⟨_, outcome_turn_of_pending (h := hPatLoad) hs ?_ ht, rfl, ?_⟩,
    fun k s hs hf hlen hstandby hheld => ?_, fun k s hs hf hlen hbank hwhat hrsv hrange ht => ?_, fun k s hs hf hlen hbad hstandby ht => ?_,
    fun k s hs hf hlen hbad hrsv ht => ?_, fun k s hs hf hlen hw => ?_, fun k s hs hf hlen hi => ?_,
    fun s hw hwait => ⟨_, rfl, run_patSyncDone_of_copy hw hwait⟩, fun s hw hwait => ?_⟩
  · simp [hPatLoad, hlen, notF0_fst hf, hstandby, hheld]
  · rw [pended_pat]
    rfl
  · refine outcome_turn_of_refuse (h := hPatLoad) hs ?_ (by decide)
    simp [hPatLoad, hlen, notF0_fst hf, hstandby, hheld]
  · refine outcome_turn_of_pending (h := hPatRead) hs ?_ ht
    have hwhat' : ¬ 2 < k.n 1 1 ∧ k.n 1 1 ≠ 2 := by omega
    simp [hPatRead, hlen, notF0_fst hf, Nat.not_lt.mpr hbank, hwhat', hrsv, Nat.not_lt.mpr hrange]
  · refine outcome_turn_of_pending (h := fun c s => patTurn c s 24 true) hs ?_ ht
    simp [patTurn, hlen, notF0_fst hf, hbad, hstandby]
  · refine outcome_turn_of_pending (h := fun c s => patTurn c s 16 false) hs ?_ ht
    simp [patTurn, hlen, notF0_fst hf, hbad, hrsv]
  · obtain ⟨payload, hok, hrest⟩ := hPatInfo_of_idle hf hlen hw
    exact ⟨payload, outcome_turn_of_ok hs hok, hrest⟩
  · obtain ⟨rest, hok⟩ := hPatLampRead_of_pass hf hlen hi
    exact ⟨rest, outcome_turn_of_ok hs hok⟩
  · show Host.Outcome.next ((acts [actPatSyncDone, beginRollback]).run s) = _
    have hcopy : actPatSyncDone.run s = s := by simp [Act.run_eq, actPatSyncDone, hw]
    rw [run_acts_cons, run_acts_cons, run_acts_nil, hcopy, run_beginRollback_of_none hwait]

/-! ### Libration -/

theorem hLibRollback_of_pass {k : Svc} {s : State} (hf : k.f = 0) (hlen : k.cmd.len = 12) (hstop : k.n 8 1 = 0) (hgen : k.n 0 8 = 0)
    (hrsv : zeroAt k.cmd.payload 9 3 = true) (hw : s.pat.writer = 0) (hstaged : switchStaged s = false) (hsw : s.pat.switching = false)
    (hbuild : s.lib.build = none) (hupdate : s.lib.update = none) (hwait : s.lib.wait = none) :
    hLibRollback k s = .pending (acts [fun s => [.lib fun l => { l with wait := some (k.f, newTicket k s, 0, false) }], eff [], beginRollback,
      syncLib]) := by
  simp [hLibRollback, hlen, needCal_fst hf, hstop, hgen, hrsv, hw, hstaged, hsw, hbuild, hupdate, hwait]

theorem hLibLampInfo_of_pass {k : Svc} {s : State} (hf : k.f = 0) (hlen : k.cmd.len = 4) (hi : k.n 0 4 ≤ 33554431) :
    ∃ rest, hLibLampInfo k s = .ok (libEntry s (k.n 0 4) ++ rest) (eff []) := by
  simp only [hLibLampInfo, checks_cons, checks_nil, badLen_fst, needCal_fst hf, hlen, Nat.not_lt.mpr hi, bne_self_eq_false, Bool.false_eq_true,
    if_false, decide_false, List.append_assoc]
  exact ⟨_, rfl⟩

/-- R459: a build from a witness sensor begins with the sets of its first phase. -/
theorem hLibMapBuild_of_witness {k : Svc} {s : State} (hf : k.f = 0) (hlen : k.cmd.len = 8) (hsrc : k.n 0 1 = 0) (hcount : 1 ≤ k.n 4 2)
    (hrange : k.n 2 2 + k.n 4 2 ≤ mqTiles s.mqt) (hr1 : zeroAt k.cmd.payload 1 1 = true) (hr6 : zeroAt k.cmd.payload 6 2 = true)
    (hinj : canInject s = true) (hbuild : s.lib.build = none) :
    hLibMapBuild k s = .pending (acts [fun s' => [.lib fun l => { l with
      build := some ⟨k.f, newTicket k s', 0, k.n 2 2, k.n 4 2, 1, (k.n 4 2 + libN s - 2) / (libN s - 1)⟩ }], syncLib]) := by
  have hcount' : (k.n 4 2 == 0) = false := beq_eq_false_iff_ne.mpr (by omega)
  simp only [hLibMapBuild, checks_cons, checks_nil, badLen_fst, rsv_fst, needCal_fst hf, hlen, hsrc, hcount', Nat.not_lt.mpr hrange, hr1, hr6, hinj,
    hbuild, bne_self_eq_false, Bool.not_true, Nat.not_lt_zero, decide_false, Bool.or_self, Option.isSome_none, Bool.false_eq_true, if_false,
    OfNat.zero_ne_ofNat]

/-- R472: LIB_COMMIT arms an update that is written for the frame computed now. -/
theorem hLibCommit_of_written {k : Svc} {u : LibUpdate} {s : State} (hf : k.f = 0) (hlen : k.cmd.len = 0) (hu : s.lib.update = some u)
    (hwritten : u.written = true) (harmed : u.armed = none) :
    hLibCommit k s = .ok (leBytes 8 (armFrame s)) (acts [
      eff [.lib fun l => { l with update := l.update.map fun u => { u with armed := some (armFrame s) } }], syncLib]) := by
  have hframe : (s.lib.update.bind (·.armed)).getD (armFrame s) = armFrame s := by rw [hu, Option.bind_some, harmed, Option.getD_none]
  have hany : (s.lib.update.any fun u => u.written) = true := by rw [hu, Option.any_some, hwritten]
  simp only [hLibCommit, hframe, checks_cons, checks_nil, badLen_fst, needCal_fst hf, hlen, hany, bne_self_eq_false, Bool.not_true,
    Bool.false_eq_true, if_false]

/-- Settles O29: each handler passes its checks on the operands named. -/
theorem librationCommands : Obligations.LibrationCommands := by
  refine ⟨fun k s hs hf hlen hsrc hcount hrange hr1 hr6 hinj hbuild ht => ?_, fun k s hs hf hlen hmem hstandby ht => ?_,
    fun k s hs hf hlen hrange hrsv hmem ht => ?_, fun k s hs hf hlen hstop hgen hrsv hw hstaged hsw hbuild hupdate hwait ht => ?_,
    fun k s hs hf hlen => ?_, fun k s hs hf hlen hi => ?_, fun k s hs hf hlen => ?_, fun k u s hs hf hlen hu hwritten harmed => ?_⟩
  · exact outcome_turn_of_pending hs (hLibMapBuild_of_witness hf hlen hsrc hcount hrange hr1 hr6 hinj hbuild) ht
  · refine outcome_turn_of_pending (h := hLibMapLoad) hs ?_ ht
    simp [hLibMapLoad, hlen, needCal_fst hf, hf, hmem, hstandby]
  · refine outcome_turn_of_pending (h := hLibMapRead) hs ?_ ht
    simp [hLibMapRead, hlen, needCal_fst hf, hf, Nat.not_lt.mpr hrange, hrsv, hmem]
  · exact outcome_turn_of_pending hs (hLibRollback_of_pass hf hlen hstop hgen hrsv hw hstaged hsw hbuild hupdate hwait) ht
  · refine outcome_turn_of_ok (h := hLibInfo) hs ?_
    simp only [hLibInfo, checks_cons, checks_nil, badLen_fst, needCal_fst hf, hlen, bne_self_eq_false, Bool.false_eq_true, if_false, eff_nil]
  · obtain ⟨rest, hok⟩ := hLibLampInfo_of_pass hf hlen hi
    exact ⟨rest, outcome_turn_of_ok hs hok⟩
  · refine outcome_turn_of_ok (h := hLibReset) hs ?_
    simp [hLibReset, hlen, needCal_fst hf]
  · exact outcome_turn_of_ok hs (hLibCommit_of_written hf hlen hu hwritten harmed)

/-! ### Tile links and direct drive ports -/

theorem noLink_fst (s : State) (l : Nat) : (noLink s l).1 = !linkReady s l := rfl

theorem noTile_fst (s : State) (l hop : Nat) : (noTile s l hop).1 = (!linkReady s l || !(s.tlkTile (aLink s l) hop).present) := rfl

theorem linkBusy_fst (s : State) (l : Nat) : (linkBusy s l).1 = (s.tlkLink l).op.isSome := rfl

theorem hTlkTileInfo_of_present {k : Svc} {s : State} (hf : k.f = 0) (hlen : k.cmd.len = 4) (hl : k.n 0 1 < 64) (hh : k.n 1 1 < 32)
    (hrsv : zeroAt k.cmd.payload 2 2 = true) (hready : linkReady s (k.n 0 1) = true)
    (hpresent : (s.tlkTile (aLink s (k.n 0 1)) (k.n 1 1)).present = true) :
    ∃ state, hTlkTileInfo k s = .ok ((s.tlkTile (aLink s (k.n 0 1)) (k.n 1 1)).reply ++ leBytes 4 state ++
      field ((s.tlkTile (aLink s (k.n 0 1)) (k.n 1 1)).telem.getD []) 0 56 ++
      leBytes 4 (unsgn 32 (rnd 15 (s.tlkTile (aLink s (k.n 0 1)) (k.n 1 1)).theta))) (eff []) := by
  have hl' : ¬ 63 < k.n 0 1 := by omega
  have hh' : ¬ 31 < k.n 1 1 := by omega
  simp only [hTlkTileInfo, checks_cons, checks_nil, badLen_fst, rsv_fst, noTile_fst, notF0_fst hf, hlen, hl', hh', hrsv, hready, hpresent,
    bne_self_eq_false, Bool.not_true, Bool.or_self, decide_false, Bool.false_eq_true, if_false]
  exact ⟨_, rfl⟩

theorem ctrlChecks_pass {k : Svc} {s : State} {len : Nat} {write : Bool} (hf : k.f = 0) (hlen : k.cmd.len = len) (hn : 1 ≤ k.n 2 2)
    (hn' : k.n 2 2 ≤ 256) (hl : k.n 0 1 < 64) (hh : k.n 1 1 < 32) (hreg : write = true → 0x80000000 ≤ k.n 4 4)
    (hready : linkReady s (k.n 0 1) = true) (hpresent : (s.tlkTile (aLink s (k.n 0 1)) (k.n 1 1)).present = true)
    (hop : (s.tlkLink (k.n 0 1)).op = none) (r : Reply) : checks (ctrlChecks k s len write) r = r := by
  have hl' : ¬ 63 < k.n 0 1 := by omega
  have hh' : ¬ 31 < k.n 1 1 := by omega
  have hn0 : k.n 2 2 ≠ 0 := by omega
  have hwrite : (write && decide (k.n 4 4 < 0x80000000)) = false := by
    cases write
    · rfl
    · simpa using hreg rfl
  simp [ctrlChecks, notF0_fst hf, hlen, hl', hh', hn0, Nat.not_lt.mpr hn', hwrite, noTile_fst, linkBusy_fst, hready, hpresent, hop]

theorem hDdpInfo_of_pass {k : Svc} {s : State} (hf : k.f = 0) (hlen : k.cmd.len = 4) (hp : k.n 0 1 < 16) (hrsv : zeroAt k.cmd.payload 1 3 = true) :
    ∃ rest, hDdpInfo k s = .ok (leBytes 4 (s.rd (Reg.DDP_PORT_STAT (k.n 0 1))).toNat ++ rest) (eff []) ∧ rest.length = 8 := by
  have hp' : ¬ 15 < k.n 0 1 := by omega
  simp only [hDdpInfo, checks_cons, checks_nil, badLen_fst, rsv_fst, notF0_fst hf, hlen, hp', hrsv, bne_self_eq_false, Bool.not_true,
    decide_false, Bool.false_eq_true, if_false, List.append_assoc]
  exact ⟨_, rfl, by simp⟩

/-- A raised event sends at most messages to hosts. -/
theorem mem_out_of_mem_raise {o : Out} {e : Nat} {s : State} (h : o ∈ ((Eff.raise e).apply s).out) (ho : ∀ f v, o ≠ .msix f v) : o ∈ s.out := by
  change o ∈ (raiseEvt e s).out at h
  unfold raiseEvt at h
  split at h
  · exact h
  · dsimp only at h
    split at h
    · exact h
    · obtain h | h := List.mem_append.mp h
      · exact h
      · obtain ⟨v, -, rfl⟩ := List.mem_map.mp h
        exact absurd rfl (ho _ _)

/-- A latch that a tile is done with reaches the groups, the proofs of play and the latches of the host. -/
theorem reaches_popLatch (g slot : Nat) (hold : Bool) : Every (reaches [.sec]) (popLatch g slot hold) := by
  intro s
  refine all_flatMap_of_forall fun x _ => ?_
  dsimp only
  split <;> rfl

theorem reaches_of_subset {l m : List StatePart} (h : ∀ p ∈ l, p ∈ m) {es : List Eff} (hes : es.all (reaches l) = true) :
    es.all (reaches m) = true := by
  refine List.all_eq_true.mpr fun e he => List.all_eq_true.mpr fun p hp => ?_
  have := List.all_eq_true.mp (List.all_eq_true.mp hes e he) p hp
  simpa using h p (by simpa using this)

theorem reaches_latchDone (s : State) (g t : Nat) (l : Latch) : (latchDone s g t l).all (reaches [.sec, .wall, .tim]) = true := by
  simp only [latchDone, List.all_append, Bool.and_eq_true]
  refine ⟨⟨?_, rfl⟩, ?_⟩
  · split
    · exact reaches_of_subset (by decide) (reaches_popLatch _ _ _ s)
    · rfl
  · split <;> rfl

theorem ddpPort_effDdp_same (p : Nat) (g : DdpPort → DdpPort) (s : State) : ((effDdp p g).apply s).ddpPort p = g (s.ddpPort p) :=
  FMap.getD_upd_same ..

/-- The effects of a latch time at which the port shows its last frame again. -/
theorem actDdpLatch_of_hold {p : Fin 16} {mismatch : Bool} {tile : Nat} {l : Latch} {s : State} (htile : tileAt s p 0 true = some tile)
    (hlatch : tileLatch s tile = some l) (hhold : l.hold = true) : ∃ room, actDdpLatch p mismatch s =
      latchDone s (tlGroup (mqTile s.mqt tile)) tile l ++ [effDdp p (fun x => { x with next := .empty, whole := false, cfgHeld := room }),
        .inc (Reg.DDP_PORT_STAT p) Fld.DDP_PORT_STAT.HOLDS 1, .raise 198] := by
  simp only [actDdpLatch, htile, hlatch, hhold, Bool.not_true, Bool.and_false, Bool.false_and, Bool.false_eq_true, if_false]
  exact ⟨_, rfl⟩

theorem run_ddpLatch_of_hold {p : Fin 16} {mismatch : Bool} {tile : Nat} {l : Latch} {s : State} (htile : tileAt s p 0 true = some tile)
    (hlatch : tileLatch s tile = some l) (hhold : l.hold = true) :
    let t := (actDdpLatch p mismatch).run s
    t.evt 198 = true ∧ (t.ddpPort p).next = .empty ∧ (t.ddpPort p).whole = false ∧ sameStores s t ∧
      (∀ q time cfg, .ddpLatch q time cfg ∈ t.out → .ddpLatch q time cfg ∈ s.out) := by
  obtain ⟨room, hact⟩ := actDdpLatch_of_hold (mismatch := mismatch) htile hlatch hhold
  dsimp only
  rw [Act.run_eq, hact, applyAll_append]
  have hdone := agree_of_reaches (reaches_latchDone s (tlGroup (mqTile s.mqt tile)) tile l) s
  generalize applyAll (latchDone s (tlGroup (mqTile s.mqt tile)) tile l) s = u at hdone
  have hword : eventWord (Reg.DDP_PORT_STAT p) = false := eventWord_of_gt (by unfold Reg.DDP_PORT_STAT; omega)
  have hport : (applyAll [effDdp p (fun x => { x with next := .empty, whole := false, cfgHeld := room }),
      .inc (Reg.DDP_PORT_STAT p) Fld.DDP_PORT_STAT.HOLDS 1, .raise 198] u).ddpPort p =
      { u.ddpPort p with next := .empty, whole := false, cfgHeld := room } := by
    rw [applyAll_cons, State.ddpPort, (agree_applyAll _ _).tlk rfl]
    exact ddpPort_effDdp_same ..
  refine ⟨evt_applyAll_of_raise (by decide) ?_ (by simp) u, by rw [hport], by rw [hport],
    sameStores_trans (hdone.sameStores rfl rfl rfl rfl rfl rfl) (applyAll_sameStores rfl u), fun q time cfg h => ?_⟩
  · simp [keepsEvt, hword, effDdp]
  · rw [← hdone.out rfl]
    exact mem_out_of_mem_raise (e := 198) (s := applyAll [effDdp p (fun x => { x with next := .empty, whole := false, cfgHeld := room }),
      .inc (Reg.DDP_PORT_STAT p) Fld.DDP_PORT_STAT.HOLDS 1] u) h (by simp)

/-- Settles O33: each handler passes its checks on the operands named; a latch that holds sends nothing by the port. -/
theorem tileLinkCommands : Obligations.TileLinkCommands := by
  refine ⟨fun k s hs hf hlen hl hrsv hready hop ht => ?_, fun k s hs hf hlen hl hh hrsv hready hpresent => ?_,
    fun k s hs hf hn hn' hlen hl hh hreg hready hpresent hop ht => ?_, fun k s hs hf hn hn' hlen hl hh hready hpresent hop ht => ?_,
    fun k s hs hf hlen hl hw hw' hrsv hready hop ht => ?_, fun k s hs hf hlen hp hrsv => ?_,
    fun p mismatch tile l s htile hlatch hhold => ⟨_, rfl, run_ddpLatch_of_hold htile hlatch hhold⟩, fun p mismatch s htile => ?_⟩
  · refine outcome_turn_of_pending (h := hTlkDiscover) hs ?_ ht
    have hl' : ¬ 63 < k.n 0 1 := by omega
    simp [hTlkDiscover, hlen, notF0_fst hf, hl', hrsv, noLink_fst, linkBusy_fst, hready, hop]
  · obtain ⟨state, hok⟩ := hTlkTileInfo_of_present hf hlen hl hh hrsv hready hpresent
    exact ⟨state, outcome_turn_of_ok hs hok⟩
  · exact outcome_turn_of_pending (h := hTlkCtrlWrite) hs (ctrlChecks_pass hf hlen hn hn' hl hh (fun _ => hreg) hready hpresent hop _) ht
  · exact outcome_turn_of_pending (h := hTlkCtrlRead) hs (ctrlChecks_pass hf hlen hn hn' hl hh (by simp) hready hpresent hop _) ht
  · refine outcome_turn_of_pending (h := hTlkRetrain) hs ?_ ht
    have hl' : ¬ 63 < k.n 0 1 := by omega
    have hw0 : k.n 1 1 ≠ 0 := by omega
    simp [hTlkRetrain, hlen, notF0_fst hf, hl', hw0, Nat.not_lt.mpr hw', hrsv, noLink_fst, linkBusy_fst, hready, hop]
  · obtain ⟨rest, hok, hrest⟩ := hDdpInfo_of_pass hf hlen hp hrsv
    exact ⟨rest, outcome_turn_of_ok hs hok, hrest⟩
  · show (actDdpLatch p mismatch).outcome s = _
    rw [Act.outcome_eq, actDdpLatch]
    simp only [htile]
    rfl

end Sys2Proof.Tiles
end

section
/-! The Cast commands, and the start and end of runs and jobs (chapter 08). -/
open Sys2Proof Sys2Proof.Machine Sys2Proof.Reads Sys2Proof.ServiceTurn Sys2Proof.Tickets Sys2Proof.Turns Sys2Proof.Basics Sys2Proof.Spans
open Sys2Proof.Camera Sys2Proof.Streams Sys2Proof.Wall

namespace Sys2Proof.CastRows

theorem job_of_cast {s t : State} (h : t.cast = s.cast) (n : Nat) : t.job n = s.job n := by rw [State.job, h, State.job]

theorem job_effJob_same {h : Nat} {j : CastJob} {s : State} (hj : s.job h = some j) (g : CastJob → CastJob) :
    ((effJob h g).apply s).job h = some (g j) := by
  show (s.cast.jobs.alter h g).find h = _
  rw [FMap.alter, show s.cast.jobs.find h = some j from hj]
  exact FMap.find_put_same ..

theorem heldJob {k : Svc} {j : CastJob} {h : Nat} {s : State} (hheld : jobHeld s k.f h = true) (hj : s.job h = some j) :
    (if jobHeld s k.f h then s.job h else none) = some j := by
  rw [if_pos hheld, hj]

/-! ### The commands -/

/-- R307: a run job is opened at the lowest free handle, without engines of its own. -/
theorem hCastOpen_of_run {k : Svc} {h : Nat} {s : State} (hlen : k.cmd.len = 32) (hkind : (openJob k s).kind < 2)
    (hfields : openFields k (openJob k s) = true) (hfree : freeHandle s = some h) (hshared : (sharedEngines s).isEmpty = false) :
    ∃ bs j, hCastOpen k s = .ok bs (eff [.cast fun x => { x with jobs := x.jobs.put h j }]) := by
  have hkind' : ¬ 2 ≤ (openJob k s).kind := by omega
  simp only [hCastOpen, checks_cons, checks_nil, badLen_fst, hlen, hkind', hfields, hfree, hshared, bne_self_eq_false, decide_false,
    Bool.false_and, Bool.not_true, Option.isNone_some, Bool.false_eq_true, if_false, Option.getD_some, showJob, List.map_nil]
  exact ⟨_, _, rfl⟩

theorem exec_castOpen_of_run {k : Svc} {h : Nat} {s : State} (hs : Served s 0x500 k) (hlen : k.cmd.len = 32) (hkind : (openJob k s).kind < 2)
    (hfields : openFields k (openJob k s) = true) (hfree : freeHandle s = some h) (hshared : (sharedEngines s).isEmpty = false) :
    ∃ t, exec .castOpen s = .next t ∧ (t.job h).isSome ∧ t.arm.inService = none ∧ t.devMem = s.devMem ∧ t.hostMem = s.hostMem := by
  obtain ⟨bs, j, hok⟩ := hCastOpen_of_run hlen hkind hfields hfree hshared
  have hagree := agree_answered k ST_OK bs (eff [.cast fun x => { x with jobs := x.jobs.put h j }]) s
  refine ⟨_, outcome_turn_of_ok hs hok, ?_, answered_inService .., hagree.devMem rfl, hagree.hostMem rfl⟩
  have hjob : ((eff [.cast fun x => { x with jobs := x.jobs.put h j }]).run s).job h = some j := FMap.find_put_same ..
  rw [job_of_cast (hagree.cast rfl), hjob, Option.isSome_some]

/-- R317: a decoding run waits with the order of its doorbell. -/
theorem hCastRun_of_decode {k : Svc} {j : CastJob} {s : State} (hlen : k.cmd.len = 40) (hheld : jobHeld s k.f (k.n 0 2) = true)
    (hj : s.job (k.n 0 2) = some j) (hrsv : zeroAt k.cmd.payload 2 2 = true) (hkind : j.kind = 1) (hpitch : k.n 4 4 = 0) (hclosing : j.closing = none)
    (hrun : j.run = none) (hin : rangeOk s k.f (k.n 8 8) (runInput j 0 (k.n 16 8)) = true) (hout : rangeOk s k.f (k.n 24 8) (k.n 32 8) = true) :
    hCastRun k s = .pending (eff [.cast fun x => { x with
      jobs := x.jobs.put (k.n 0 2) { j with run := some ⟨ticketId k.f (s.mbx k.f).nextTicket, k.n 8 8, k.n 16 8, k.n 24 8, k.n 32 8, 0,
        x.doorbells, false⟩ }, doorbells := x.doorbells + 1 }]) := by
  simp [hCastRun, heldJob hheld hj, hlen, hrsv, hkind, hpitch, hclosing, hrun, hin, hout]

theorem hCastClose_of_open {k : Svc} {j : CastJob} {s : State} (hlen : k.cmd.len = 4) (hheld : jobHeld s k.f (k.n 0 2) = true)
    (hj : s.job (k.n 0 2) = some j) (hrsv : zeroAt k.cmd.payload 2 2 = true) (houts : outputNames s 3 (k.n 0 2) = false)
    (hctxs : ctxNamesJob s (k.n 0 2) = false) (hclosing : j.closing = none) :
    hCastClose k s = .pending (eff [effJob (k.n 0 2) fun j => { j with closing := some (ticketId k.f (s.mbx k.f).nextTicket) }]) := by
  simp [hCastClose, heldJob hheld hj, hlen, hrsv, houts, hctxs, hclosing]

theorem hCastInfo_of_held {k : Svc} {j : CastJob} {s : State} (hlen : k.cmd.len = 4) (hheld : jobHeld s k.f (k.n 0 2) = true)
    (hj : s.job (k.n 0 2) = some j) (hrsv : zeroAt k.cmd.payload 2 2 = true) :
    hCastInfo k s = .ok (leBytes 1 j.kind ++ leBytes 1 (maskOf j.engines) ++
      leBytes 1 (if j.closing.isSome then 2 else if j.run.isSome ∨ j.frames ≠ [] ∨ j.rx.isSome then 1 else 0) ++ [0] ++ leBytes 4 j.done ++
      leBytes 4 j.failed ++ leBytes 4 j.dropped ++ leBytes 4 j.writeSeq ++ leBytes 8 j.ring ++ leBytes 4 j.slotSize ++ leBytes 4 j.slots)
      (eff []) := by
  simp [hCastInfo, heldJob hheld hj, hlen, hrsv]

/-! ### Runs, slots and packets -/

theorem actCastRunStart_of_free {h : Nat} {j : CastJob} {s : State} (hfirst : firstRun s = some h) (hj : s.job h = some j)
    (hfree : (((sharedEngines s).filter fun e => !(runEngines s).contains e).take j.want).isEmpty = false) :
    actCastRunStart s = effJob h (fun j' => { j' with
        engines := ((sharedEngines s).filter fun e => !(runEngines s).contains e).take j.want,
        run := j'.run.map fun r => { r with started := true } }) ::
      showJob (((sharedEngines s).filter fun e => !(runEngines s).contains e).take j.want) h := by
  simp only [actCastRunStart, hfirst, hj, hfree, Bool.false_eq_true, if_false]

theorem actCastRunDone_of_poisoned {h : Fin 4096} {j : CastJob} {r : CastRun} {s : State} (hj : s.job h = some j) (hrun : j.run = some r)
    (hstarted : r.started = true) (hpoison : runPoisoned s j r = true) : actCastRunDone h s = endRun h j r ST_INPUT_CORRUPT 0 0 s := by
  simp only [actCastRunDone, hj, hrun, hstarted, hpoison, Bool.not_true, Bool.false_eq_true, if_false, if_true]

theorem actCastRunDone_of_decode {h : Fin 4096} {j : CastJob} {r : CastRun} {s : State} (hj : s.job h = some j) (hrun : j.run = some r)
    (hstarted : r.started = true) (hpoison : runPoisoned s j r = false) (hkind : j.kind = 1) :
    let d := decodeRun r.outAddr (min r.limit (4096 * r.inLen)) (r.inLen / 64 + 1) (s.ringRead r.inAddr r.inLen) 0
    actCastRunDone h s = acts [eff d.writes, countSlices j.engines false d.logs,
      endRun h j r d.status (if d.status = ST_OK then d.valid else 0) (if d.status = ST_OK then d.frames else 0)] s := by
  simp only [actCastRunDone, hj, hrun, hstarted, hpoison, hkind, Bool.not_true, Bool.false_eq_true, if_false, one_ne_zero]

theorem actCastSlotDone_of_coded {h : Fin 4096} {j : CastJob} {f : CastFrame} {rest : List CastFrame} {bs : Bytes} {logs : List SliceLog}
    {s : State} (hj : s.job h = some j) (hkind : j.kind = 2) (hframes : j.frames = f :: rest)
    (henc : encFrame (jobHeader j f.frame f.ts) (j.slotSize - 64) (fun p y x =>
      if (jobHeader j f.frame f.ts).half then halfCode (f.samples.getD (sampleKey p y x) 0) else f.samples.getD (sampleKey p y x) 0) =
        some (bs, logs)) :
    actCastSlotDone h s = acts [
      eff (putSlot h j ST_OK bs.length j.frameSeq (fun a => [ringWrite (a + 64) bs]) ++
        [effJob h fun j => { j with frames := j.frames.tail, frameSeq := (j.frameSeq + 1) % 2 ^ 32 }]),
      countSlices j.engines true logs, castEgress h f.frame f.ts bs] s := by
  simp only [actCastSlotDone, hj, hkind, hframes, if_true, henc]

/-- A job that is closing, with no run and no frame in progress, is freed; its ticket is answered. -/
theorem actCastCloseDone_of_idle {h : Fin 4096} {j : CastJob} {ticket : Nat} {s : State} (hj : s.job h = some j) (hclosing : j.closing = some ticket)
    (hrun : j.run = none) (hframes : j.frames = []) :
    actCastCloseDone h s = acts [eff (hideJob j.engines ++ [.cast fun x => { x with jobs := x.jobs.del h }]),
      completeTicket j.owner ticket ST_OK []] s := by
  simp only [actCastCloseDone, hj, hclosing, hrun, hframes, Option.isSome_none, Bool.false_eq_true, ne_eq, not_true_eq_false, or_self, if_false]

theorem reaches_hideJob (l : List Nat) : (hideJob l).all (reaches [.prms]) = true := all_map_of_forall fun _ _ => rfl

theorem run_castCloseDone_of_idle {h : Fin 4096} {j : CastJob} {ticket : Nat} {s : State} (hj : s.job h = some j)
    (hclosing : j.closing = some ticket) (hrun : j.run = none) (hframes : j.frames = []) :
    let t := (actCastCloseDone h).run s
    t.job h = none ∧ sameStores s t := by
  dsimp only
  rw [run_congr (actCastCloseDone_of_idle hj hclosing hrun hframes), run_acts_cons, run_acts_cons, run_acts_nil, run_eff, applyAll_append]
  have hhide := agree_of_reaches (reaches_hideJob j.engines) s
  have hticket := reaches_completeTicket j.owner ticket ST_OK []
  refine ⟨?_, sameStores_trans (hhide.sameStores rfl rfl rfl rfl rfl rfl)
    (sameStores_trans (applyAll_sameStores rfl _) ((hticket.agree _).sameStores rfl rfl rfl rfl rfl rfl))⟩
  rw [job_of_cast ((hticket.agree _).cast rfl)]
  exact FMap.find_del_same ..

theorem castRtp_of_short {h ts : Nat} {payload : Bytes} {j : CastJob} {s : State} (hj : s.job h = some j) (hkind : j.kind = 3)
    (hlen : payload.length < 8) : castRtp h ts payload s = [.count (Prm.CAST_RTP_BAD (j.engines.headD 0)) 1] := by
  simp only [castRtp, hj, hkind, ne_eq, not_true_eq_false, if_false, hlen, true_or, if_true]

theorem castRtp_of_first {h ts : Nat} {payload : Bytes} {j : CastJob} {s : State} (hj : s.job h = some j) (hkind : j.kind = 3)
    (hlen : 8 ≤ payload.length) (hver : fieldN payload 2 1 < 4) (hrsv : fieldN payload 3 1 = 0) (hrx : j.rx = none) :
    ∃ bytes, castRtp h ts payload s =
      [.count (Prm.CAST_RTP_RX (j.engines.headD 0)) 1, effJob h fun j => { j with rx := some ⟨ts, bytes⟩ }] := by
  simp only [castRtp, hj, hkind, ne_eq, not_true_eq_false, if_false, Nat.not_lt.mpr hlen, Nat.not_le.mpr hver, hrsv, or_self, hrx]
  exact ⟨_, rfl⟩

theorem run_castRtp_of_first {h ts : Nat} {payload : Bytes} {j : CastJob} {s : State} (hj : s.job h = some j) (hkind : j.kind = 3)
    (hlen : 8 ≤ payload.length) (hver : fieldN payload 2 1 < 4) (hrsv : fieldN payload 3 1 = 0) (hrx : j.rx = none) :
    let t := (castRtp h ts payload).run s
    ∃ j', t.job h = some j' ∧ j'.rx.map (·.ts) = some ts ∧ t.regs = s.regs ∧ sameStores s t := by
  obtain ⟨bytes, hact⟩ := castRtp_of_first (ts := ts) hj hkind hlen hver hrsv hrx
  dsimp only
  rw [Act.run_eq, hact]
  exact ⟨_, job_effJob_same hj _, rfl, rfl, applyAll_sameStores rfl s⟩

/-- Settles O23: each handler passes its checks on the operands named, and each row takes the branch that the conditions name. -/
theorem castJobs : Obligations.CastJobs := by
  refine ⟨fun k h s hs hlen hkind hfields hfree hshared => exec_castOpen_of_run hs hlen hkind hfields hfree hshared,
    fun k j s hs hlen hheld hj hrsv hkind hpitch hclosing hrun hin hout ht =>
      outcome_turn_of_pending hs (hCastRun_of_decode hlen hheld hj hrsv hkind hpitch hclosing hrun hin hout) ht,
    fun k j s hs hlen hheld hj hrsv houts hctxs hclosing ht =>
      outcome_turn_of_pending hs (hCastClose_of_open hlen hheld hj hrsv houts hctxs hclosing) ht,
    fun k j s hs hlen hheld hj hrsv => outcome_turn_of_ok hs (hCastInfo_of_held hlen hheld hj hrsv), fun h j s hfirst hj hfree => ?_,
    fun h j r s hj hrun hstarted hpoison => ?_, fun h j r s hj hrun hstarted hpoison hkind => ?_,
    fun h j f rest bs logs s hj hkind hframes henc => ?_,
    fun h j ticket s hj hclosing hrun hframes => ⟨_, rfl, run_castCloseDone_of_idle hj hclosing hrun hframes⟩,
    fun h ts payload j s hj hkind hlen => ⟨(castRtp h ts payload).run s, rfl, ?_⟩,
    fun h ts payload j s hj hkind hlen hver hrsv hrx => ⟨(castRtp h ts payload).run s, ?_⟩⟩
  · show actCastRunStart.outcome s = _
    rw [Act.outcome_eq, actCastRunStart_of_free hfirst hj hfree]
  · show (actCastRunDone h).outcome s = _
    rw [Act.outcome_eq, actCastRunDone_of_poisoned hj hrun hstarted hpoison, Act.run_eq]
  · show (actCastRunDone h).outcome s = _
    rw [Act.outcome_eq, actCastRunDone_of_decode hj hrun hstarted hpoison hkind, Act.run_eq]
  · show (actCastSlotDone h).outcome s = _
    rw [Act.outcome_eq, actCastSlotDone_of_coded hj hkind hframes henc, Act.run_eq]
  · rw [Act.run_eq, castRtp_of_short hj hkind hlen]
    exact ⟨(agree_applyAll _ s).cast rfl, (agree_applyAll _ s).regs rfl, applyAll_sameStores rfl s⟩
  · obtain ⟨j', hrest⟩ := run_castRtp_of_first (ts := ts) hj hkind hlen hver hrsv hrx
    exact ⟨j', rfl, hrest⟩

end Sys2Proof.CastRows
end

section
/-! The security commands (chapter 19). Each handler's lemma is about the state in which it runs; a security command runs where its
function's session was last used now. -/
open Sys2Proof Sys2Proof.Machine Sys2Proof.Reads Sys2Proof.ServiceTurn Sys2Proof.Tickets Sys2Proof.Turns Sys2Proof.Basics Sys2Proof.Spans
open Sys2Proof.Camera Sys2Proof.Streams Sys2Proof.Wall

namespace Sys2Proof.SecurityRows

/-! ### The turn -/

/-- R645: the turn keeps the session alive and then takes the command. -/
theorem outcome_secTurn {op : Nat} {h : Svc → State → Reply} {k : Svc} {s : State} (hs : Served s op k) :
    (secTurn op h).outcome s = (turn op h).outcome (sessionKept k s) := by
  obtain ⟨hsvc, hop, -⟩ := hs
  rw [secTurn, Act.outcome_eq, applyAll_acts_cons, hsvc]
  dsimp only
  rw [if_pos hop, applyAll_acts_cons, acts_nil, applyAll_nil, Act.outcome_eq, sessionKept]

theorem served_sessionKept {op : Nat} {k : Svc} {s : State} (hs : Served s op k) : Served (sessionKept k s) op k := hs

theorem outcome_secTurn_of_ok {op : Nat} {h : Svc → State → Reply} {k : Svc} {bs : Bytes} {a : Act} {s : State} (hs : Served s op k)
    (hok : h k (sessionKept k s) = .ok bs a) : (secTurn op h).outcome s = .next (answered k ST_OK bs a (sessionKept k s)) :=
  (outcome_secTurn hs).trans (outcome_turn_of_ok (served_sessionKept hs) hok)

theorem outcome_secTurn_of_refuse {op st : Nat} {h : Svc → State → Reply} {k : Svc} {s : State} (hs : Served s op k)
    (href : h k (sessionKept k s) = .refuse st) (hst : st ≠ ST_PENDING) :
    (secTurn op h).outcome s = .next (answered k st [] (eff []) (sessionKept k s)) :=
  (outcome_secTurn hs).trans (outcome_turn_of_refuse (served_sessionKept hs) href hst)

theorem outcome_secTurn_of_pending {op : Nat} {h : Svc → State → Reply} {k : Svc} {a : Act} {s : State} (hs : Served s op k)
    (hpend : h k (sessionKept k s) = .pending a) (ht : TicketFree s k) :
    (secTurn op h).outcome s = .next (pended k a (sessionKept k s)) :=
  (outcome_secTurn hs).trans (outcome_turn_of_pending (served_sessionKept hs) hpend ht)

/-! ### Checks -/

section
variable {k : Svc} {s : State} {n : Nat}

theorem checks_gates (hlen : k.cmd.len = n) (hg : firstBad (gates k s) = none) (rest : List (Bool × Nat)) (r : Reply) :
    checks (k.badLen n :: gates k s ++ rest) r = checks rest r := by
  rw [List.cons_append, checks_cons, badLen_fst, hlen, bne_self_eq_false, if_neg Bool.false_ne_true, checks_append_of_pass hg]

theorem checks_gates_only (hlen : k.cmd.len = n) (hg : firstBad (gates k s) = none) (r : Reply) : checks (k.badLen n :: gates k s) r = r := by
  rw [← List.append_nil (k.badLen n :: gates k s), checks_gates hlen hg, checks_nil]

theorem needCo_fst (hf : k.f = 0) (hrole : roleOf s 0 = 1) : (needCo k s).1 = false := by
  simp [needCo, isF0_of_f hf, hf, hrole]

theorem needSession_fst (hrole : roleOf s k.f ≠ 0) : (needSession k s).1 = false := beq_eq_false_iff_ne.mpr hrole

/-! ### Information, sessions and tests -/

theorem hSecInfo_of_pass (hlen : k.cmd.len = 0) (hg : firstBad (gates k s) = none) :
    ∃ version, hSecInfo k s = .ok (leBytes 4 (s.rd Reg.SEC_STATE).toNat ++ leBytes 2 s.sec.testResult ++ version ++
      leBytes 4 (running s).release) (eff []) ∧ version.length = 2 :=
  ⟨_, checks_gates_only hlen hg _, leBytes_length ..⟩

theorem hSecLogin_eq (hlen : k.cmd.len = 100) (hg : firstBad (gates k s) = none) (hlocked : lockedOut s k.f = false)
    (hrole : k.n 0 1 = 1 ∨ k.n 0 1 = 2) (hrsv : zeroAt k.cmd.payload 1 3 = true) :
    hSecLogin k s = if loginOk k s then .ok [] (eff [endSession k.f, .sec fun x => { x with
      sessions := x.sessions.put k.f ⟨k.n 0 1, s.uptime⟩, nonces := x.nonces.del k.f, fails := x.fails.del k.f }])
      else ⟨ST_DENIED, [], loginFailed k.f⟩ := by
  have hrole' : k.n 0 1 ≠ 0 ∧ ¬ 2 < k.n 0 1 := by omega
  obtain ⟨hne, hmax⟩ := hrole'
  rw [hSecLogin, checks_gates hlen hg]
  simp [hlocked, hne, hmax, hrsv]

theorem hSecLogin_of_locked (hlen : k.cmd.len = 100) (hg : firstBad (gates k s) = none) (hlocked : lockedOut s k.f = true) :
    hSecLogin k s = .refuse ST_DENIED := by
  rw [hSecLogin, checks_gates hlen hg, checks_cons, hlocked, if_pos rfl]

/-! ### Provisioning and keys -/

theorem hSecZeroise_of_key (hf : k.f = 0) (hlen : k.cmd.len = 4) (hg : firstBad (gates k s) = none) (hkey : k.n 0 4 = 0x5A45524F) :
    hSecZeroise k s = .ok [] zeroise := by
  rw [hSecZeroise, checks_gates hlen hg, checks_cons, notF0_fst hf, if_neg Bool.false_ne_true, checks_cons, hkey, bne_self_eq_false,
    if_neg Bool.false_ne_true, checks_nil]

theorem hSecCoProvision_of_blank (hf : k.f = 0) (hlen : k.cmd.len = 96) (hg : firstBad (gates k s) = none) (hco : s.otp.coKey = none) :
    hSecCoProvision k s = .ok [] (eff ([.otp fun o => { o with coKey := some (field k.cmd.payload 0 96) },
      .fld Reg.SEC_STATE Fld.SEC_STATE.CO_PROVISIONED 1] ++ hashPrms (Prm.SEC_CO_KEY_HASH 0) (Config.sha384 (field k.cmd.payload 0 96)))) := by
  rw [hSecCoProvision, checks_gates hlen hg, checks_cons, notF0_fst hf, if_neg Bool.false_ne_true, checks_cons, hco, Option.isSome_none,
    if_neg Bool.false_ne_true, checks_nil]

theorem hSecUserEnrol_of_new (hf : k.f = 0) (hlen : k.cmd.len = 100) (hg : firstBad (gates k s) = none) (hrole : roleOf s 0 = 1)
    (hfn : k.n 0 1 < 64) (hop : k.n 1 1 = 1) (hrsv : zeroAt k.cmd.payload 2 2 = true) :
    hSecUserEnrol k s = .ok [] (eff [.nvs fun n => { n with users := n.users.put (k.n 0 1) (field k.cmd.payload 4 96) }]) := by
  have hfn' : ¬ 63 < k.n 0 1 := by omega
  rw [hSecUserEnrol, checks_gates hlen hg]
  simp [needCo_fst hf hrole, hfn', hop, hrsv]

theorem hSecKexBegin_of_identity {key : Nat} (hlen : k.cmd.len = 0) (hg : firstBad (gates k s) = none) (hrole : roleOf s k.f ≠ 0)
    (hkey : s.nvs.idKey = some key) :
    let msg := leBytes 4 s.free.toNat ++ field (Config.publicKey (kexKeyNo s.sec.nextKex)) 0 96
    hSecKexBegin k s = .ok (msg ++ field (Config.ecdsaSign (idKeyNo key) msg s.freeCtr) 0 96)
      (eff (signed ++ [.sec fun x => { x with kex := x.kex.put k.f ⟨s.free.toNat, x.nextKex⟩, nextKex := x.nextKex + 1 }])) := by
  dsimp only
  rw [hSecKexBegin, hkey]
  dsimp only
  rw [checks_gates hlen hg, checks_cons, needSession_fst hrole, if_neg Bool.false_ne_true, checks_nil]

/-- R653: the exchange is named and a slot is free, so that the import stands or falls with the wrapping. -/
theorem hSecKeyImport_eq {x : Kex} {slot : Nat} (hf : k.f = 0) (hlen : k.cmd.len = 72) (hg : firstBad (gates k s) = none)
    (hright : k.holds s R_STREAM = true) (hrole : roleOf s 0 ≠ 0) (hdebug : s.boot.debug = false) (halg : k.n 4 1 = 1)
    (hrsv : zeroAt k.cmd.payload 5 3 = true) (hx : s.sec.kex.find 0 = some x) (hid : x.id = k.n 0 4) (hslot : freeSlot s = some slot) :
    hSecKeyImport k s = match unwrapped k s x with
      | some p => .ok (leBytes 4 (keyHandle s 0 slot)) (acts [
          eff [.sec fun y => { y with keys := y.keys.put slot ⟨0, field p 0 32, field p 32 4⟩ }, .count Prm.SEC_KEY_IMPORTS 1], syncKeys 0])
      | none => .refuse ST_INPUT_CORRUPT := by
  have hkex : (s.sec.kex.find k.f).filter (fun x => x.id == k.n 0 4) = some x := by simp [hf, hx, hid]
  have hsession : (needSession k s).1 = false := needSession_fst (by rwa [hf])
  rw [hSecKeyImport, checks_gates hlen hg, hkex]
  simp only [checks_cons, checks_nil, lacks_fst, hright, hsession, hdebug, halg, rsv_fst, hrsv, hslot, isF0_of_f hf,
    Option.bind_some, Option.isNone_some, bne_self_eq_false, Bool.not_true, Bool.false_and, Bool.or_self, Bool.false_eq_true, if_false, hf]
  cases unwrapped k s x <;> rfl

theorem hSecKeyDestroy_of_held (hlen : k.cmd.len = 4) (hg : firstBad (gates k s) = none) (hrole : roleOf s k.f ≠ 0)
    (hheld : keyHeld s k.f (k.n 0 4) = true)
    (hused : (s.str.ctxs.entries.any fun e => e.2.key == k.n 0 4 || e.2.nextKey == k.n 0 4) = false) :
    hSecKeyDestroy k s = .ok [] (freeKey (k.n 0 4)) := by
  rw [hSecKeyDestroy, checks_gates hlen hg]
  simp only [checks_cons, checks_nil, needSession_fst hrole, hheld, hused, Bool.not_true, Bool.false_eq_true, if_false]

theorem hSecCtxKey_of_sealed {c : StrCtx} (hlen : k.cmd.len = 8) (hg : firstBad (gates k s) = none) (hrole : roleOf s k.f ≠ 0)
    (hi : k.n 0 2 < 4096) (hrsv : zeroAt k.cmd.payload 2 2 = true) (hc : s.ctx (k.n 0 2) = some c) (howner : c.owner = k.f)
    (hheld : keyHeld s k.f (k.n 4 4) = true) (hsealed : dSealed c.desc = true) :
    hSecCtxKey k s = .ok [] (eff [effCtx (k.n 0 2) fun y => { y with nextKey := k.n 4 4 }]) := by
  have hi' : ¬ 4095 < k.n 0 2 := by omega
  have hctx : (s.ctx (k.n 0 2)).filter (fun x => x.owner == k.f) = some c := by simp [hc, howner]
  rw [hSecCtxKey, checks_gates hlen hg, hctx]
  simp only [checks_cons, checks_nil, needSession_fst hrole, hi', rsv_fst, hrsv, hheld, hsealed, Option.isNone_some, Option.any_some,
    decide_false, Bool.not_true, Bool.false_eq_true, if_false]

/-! ### Attestation, identity and firmware -/

theorem hSecAttest_of_pass (hlen : k.cmd.len = 48) (hg : firstBad (gates k s) = none) :
    ∃ sig act, hSecAttest k s = .ok (reportBody s (field k.cmd.payload 0 48) ++ sig) act ∧
      (∀ key, s.nvs.certOk = true → s.nvs.idKey = some key →
        sig = field (Config.ecdsaSign (idKeyNo key) (reportBody s (field k.cmd.payload 0 48)) s.freeCtr) 0 96) := by
  refine ⟨_, _, checks_gates_only hlen hg _, fun key hcert hkey => ?_⟩
  rw [if_pos hcert, hkey]

theorem hSecIdCert_of_read (hlen : k.cmd.len = 4) (hg : firstBad (gates k s) = none) (hoff : k.n 0 4 ≠ 0xFFFFFFFF) :
    let part := ((certChain s).drop (k.n 0 4)).take 4000
    hSecIdCert k s = .ok (leBytes 4 (certChain s).length ++ leBytes 4 part.length ++ part) (eff []) := by
  have hload : (k.n 0 4 == 0xFFFFFFFF) = false := beq_eq_false_iff_ne.mpr hoff
  simp only [hSecIdCert, hload, Bool.false_eq_true, if_false, checks_cons, hlen, bne_self_eq_false, checks_of_pass hg, eff_nil]

theorem hSecIdCert_of_load (hlen : 4 < k.cmd.len) (hg : firstBad (gates k s) = none) (hoff : k.n 0 4 = 0xFFFFFFFF) :
    hSecIdCert k s = .ok (leBytes 4 (k.cmd.payload.drop 4).length ++ leBytes 4 0)
      (eff [.nvs fun n => { n with cert := k.cmd.payload.drop 4, certOk := n.idKey.isSome }]) := by
  simp only [hSecIdCert, hoff, beq_self_eq_true, if_true, checks_cons, Nat.not_le.mpr hlen, decide_false, Bool.false_eq_true, if_false,
    checks_of_pass hg]

/-- The effects of a request for an identity key: new keys under the epoch, not yet certified (R658). -/
def csrEffects (key : Nat) : List Eff :=
  signed ++ [.nvs fun n => { n with idKey := some key, certOk := false, cert := [] }, .fld Reg.SEC_STATE Fld.SEC_STATE.ZEROISED 0] ++
    hashPrms (Prm.SEC_ID_KEY_HASH 0) (Config.sha384 (Config.publicKey (idKeyNo key)))

theorem reaches_hashPrms (base : Nat) (h : Bytes) : (hashPrms base h).all (reaches [.prms]) = true := all_map_of_forall fun _ _ => rfl

theorem nvs_applyAll_csrEffects (key : Nat) (s : State) :
    (applyAll (csrEffects key) s).nvs = { s.nvs with idKey := some key, certOk := false, cert := [] } := by
  rw [csrEffects, applyAll_append, (agree_of_reaches (reaches_hashPrms _ _) _).nvs rfl]
  rfl

theorem hSecIdCsr_of_epoch (hf : k.f = 0) (hlen : k.cmd.len = 32) (hg : firstBad (gates k s) = none) (hrole : roleOf s 0 = 1)
    (hepoch : s.otp.epoch < 16) :
    let req := (Config.pkcs10 (idKeyNo (s.freeCtr + 1)) (field k.cmd.payload 0 32)).take 1024
    hSecIdCsr k s = .ok (leBytes 4 req.length ++ req) (eff (csrEffects (s.freeCtr + 1))) := by
  dsimp only
  rw [hSecIdCsr, checks_gates hlen hg, checks_cons, needCo_fst hf hrole, if_neg Bool.false_ne_true, checks_cons,
    decide_eq_false (Nat.not_le.mpr hepoch), if_neg Bool.false_ne_true, checks_nil, csrEffects]

theorem hSecFwWrite_of_pass (hf : k.f = 0) (hlen : k.cmd.len = 16) (hg : firstBad (gates k s) = none) (hrole : roleOf s 0 = 1)
    (hrsv : zeroAt k.cmd.payload 0 4 = true) (hrange : rangeOk s 0 (k.n 8 8) (k.n 4 4) = true) : hSecFwWrite k s = .pending (eff []) := by
  rw [hSecFwWrite, checks_gates hlen hg]
  simp [needCo_fst hf hrole, hrsv, hf, hrange]

theorem hSecFwConfirm_of_reached (hf : k.f = 0) (hlen : k.cmd.len = 0) (hg : firstBad (gates k s) = none) (hrole : roleOf s 0 = 1)
    (harb : (running s).arb ≤ s.otp.arb) :
    hSecFwConfirm k s = .ok (leBytes 4 (max (running s).arb s.otp.arb)) (acts [
      eff [.prm Prm.SEC_FW_PREFER (if runningB s then 1 else 0),
        .nvs fun n => { n with owed := n.owed.put Prm.SEC_FW_PREFER (if runningB s then 1 else 0) }], requestSave]) := by
  have hup : decide (s.otp.arb < (running s).arb) = false := decide_eq_false (Nat.not_lt.mpr harb)
  rw [hSecFwConfirm, checks_gates hlen hg]
  simp only [hup, checks_cons, checks_nil, needCo_fst hf hrole, Bool.false_and, Bool.false_eq_true, if_false, List.append_nil]

theorem hPopRead_of_empty (hf : k.f = 0) (hlen : k.cmd.len = 4) (hg : firstBad (gates k s) = none) (hl : k.n 0 1 < 64) (hn : 1 ≤ k.n 1 1)
    (hn' : k.n 1 1 ≤ 15) (hrsv : zeroAt k.cmd.payload 2 2 = true) (hempty : popUnread s (k.n 0 1) = []) :
    ∃ act, hPopRead k s = .ok [0, 0, 0, 0] act := by
  have hgate : firstBad (k.badLen 4 :: gates k s) = none := by simp [firstBad, Svc.badLen, hlen, hg]
  have hl' : ¬ 63 < k.n 0 1 := by omega
  have hn0 : k.n 1 1 ≠ 0 := by omega
  obtain ⟨m, hm⟩ : ∃ m, k.n 1 1 = m + 1 := ⟨k.n 1 1 - 1, by omega⟩
  have hnone (p : Nat → Bool) : (takeRecs p (k.n 1 1) []).1 = [] := by rw [hm]; rfl
  simp only [hPopRead, hgate, popReadReply, hempty, hnone, checks_cons, checks_nil, badLen_fst, rsv_fst, hlen, isF0_of_f hf, hl', hn0,
    Nat.not_lt.mpr hn', hrsv, bne_self_eq_false, Bool.not_true, Bool.false_and, decide_false, beq_iff_eq, Bool.or_eq_true, or_self,
    Bool.false_eq_true, if_false]
  exact ⟨_, rfl⟩

theorem hSecMode_of_debug (hf : k.f = 0) (hlen : k.cmd.len = 4) (hg : firstBad (gates k s) = none) (hrole : roleOf s 0 = 1) (hmode : k.n 0 1 = 1)
    (hrsv : zeroAt k.cmd.payload 1 3 = true) :
    hSecMode k s = .ok [] (acts [zeroise, eff [.boot fun b => { b with debug := true }, .raise 252], syncApproved]) := by
  rw [hSecMode, checks_gates hlen hg]
  simp only [checks_cons, checks_nil, needCo_fst hf hrole, hmode, rsv_fst, hrsv, lt_self_iff_false, decide_false, Bool.not_true,
    Bool.false_eq_true, if_false, if_true]

end

/-! ### The commands -/

theorem exec_secLogin {k : Svc} {s : State} (hs : Served s 0x1102 k) (hlen : k.cmd.len = 100) (hg : firstBad (gates k s) = none)
    (hlocked : lockedOut s k.f = false) (hrole : k.n 0 1 = 1 ∨ k.n 0 1 = 2) (hrsv : zeroAt k.cmd.payload 1 3 = true) :
    exec .secLogin s = .next (if loginOk k (sessionKept k s) then answered k ST_OK [] (eff [endSession k.f, .sec fun x => { x with
        sessions := x.sessions.put k.f ⟨k.n 0 1, s.uptime⟩, nonces := x.nonces.del k.f, fails := x.fails.del k.f }]) (sessionKept k s)
      else answered k ST_DENIED [] (loginFailed k.f) (sessionKept k s)) := by
  have heq := hSecLogin_eq (s := sessionKept k s) hlen hg hlocked hrole hrsv
  rw [show (sessionKept k s).uptime = s.uptime from rfl] at heq
  by_cases h : loginOk k (sessionKept k s) = true
  · rw [if_pos h] at heq ⊢
    exact outcome_secTurn_of_ok hs heq
  · rw [if_neg h] at heq ⊢
    have hdenied := outcome_turn_of_ne_pending (served_sessionKept hs) heq (show ST_DENIED ≠ ST_PENDING by decide)
    exact (outcome_secTurn hs).trans hdenied

theorem exec_secKeyImport {k : Svc} {x : Kex} {slot : Nat} {s : State} (hs : Served s 0x1109 k) (hf : k.f = 0) (hlen : k.cmd.len = 72)
    (hg : firstBad (gates k s) = none) (hright : k.holds s R_STREAM = true) (hrole : roleOf (sessionKept k s) 0 ≠ 0)
    (hdebug : s.boot.debug = false) (halg : k.n 4 1 = 1) (hrsv : zeroAt k.cmd.payload 5 3 = true) (hx : s.sec.kex.find 0 = some x)
    (hid : x.id = k.n 0 4) (hslot : freeSlot (sessionKept k s) = some slot) :
    exec .secKeyImport s = .next (match unwrapped k (sessionKept k s) x with
      | some p => answered k ST_OK (leBytes 4 (keyHandle (sessionKept k s) 0 slot)) (acts [
          eff [.sec fun y => { y with keys := y.keys.put slot ⟨0, field p 0 32, field p 32 4⟩ }, .count Prm.SEC_KEY_IMPORTS 1], syncKeys 0])
          (sessionKept k s)
      | none => answered k ST_INPUT_CORRUPT [] (eff []) (sessionKept k s)) := by
  have heq := hSecKeyImport_eq (s := sessionKept k s) hf hlen hg hright hrole hdebug halg hrsv hx hid hslot
  cases hp : unwrapped k (sessionKept k s) x with
  | none =>
    rw [hp] at heq
    exact outcome_secTurn_of_refuse hs heq (by decide)
  | some p =>
    rw [hp] at heq
    exact outcome_secTurn_of_ok hs heq

/-- Settles O43: each handler passes the gates and its checks in the state whose session is kept. -/
theorem securityCommands : Obligations.SecurityCommands := by
  refine ⟨fun k s hs hlen hg => ?_, fun k s hs hlen hg => outcome_secTurn_of_ok hs (checks_gates_only hlen hg _),
    fun k s hs hlen hg hlocked hrole hrsv => exec_secLogin hs hlen hg hlocked hrole hrsv,
    fun k s hs hlen hg hlocked => outcome_secTurn_of_refuse hs (hSecLogin_of_locked hlen hg hlocked) (by decide),
    fun k s hs hlen hg => outcome_secTurn_of_ok hs (checks_gates_only hlen hg _),
    fun k s hs hlen hg ht => outcome_secTurn_of_pending hs (checks_gates_only hlen hg _) ht,
    fun k s hs hf hlen hg hkey => outcome_secTurn_of_ok hs (hSecZeroise_of_key hf hlen hg hkey),
    fun k s hs hf hlen hg hco => outcome_secTurn_of_ok hs (hSecCoProvision_of_blank hf hlen hg hco),
    fun k s hs hf hlen hg hrole hfn hop hrsv => outcome_secTurn_of_ok hs (hSecUserEnrol_of_new hf hlen hg hrole hfn hop hrsv),
    fun k key s hs hlen hg hrole hkey => outcome_secTurn_of_ok hs (hSecKexBegin_of_identity (s := sessionKept k s) hlen hg hrole hkey),
    fun k x slot s hs hf hlen hg hright hrole hdebug halg hrsv hx hid hslot =>
      exec_secKeyImport hs hf hlen hg hright hrole hdebug halg hrsv hx hid hslot,
    fun k s hs hlen hg hrole hheld hused => outcome_secTurn_of_ok hs (hSecKeyDestroy_of_held hlen hg hrole hheld hused),
    fun k c s hs hlen hg hrole hi hrsv hc howner hheld hsealed =>
      outcome_secTurn_of_ok hs (hSecCtxKey_of_sealed hlen hg hrole hi hrsv hc howner hheld hsealed),
    fun k s hs hlen hg => ?_, fun k s hs hlen hg hoff => outcome_secTurn_of_ok hs (hSecIdCert_of_read (s := sessionKept k s) hlen hg hoff),
    fun k s hs hlen hg hoff => outcome_secTurn_of_ok hs (hSecIdCert_of_load hlen hg hoff),
    fun k s hs hf hlen hg hrole hepoch => ⟨eff (csrEffects (s.freeCtr + 1)), ?_, ?_, ?_⟩,
    fun k s hs hf hlen hg hrole hrsv hrange ht => outcome_secTurn_of_pending hs (hSecFwWrite_of_pass hf hlen hg hrole hrsv hrange) ht,
    fun k s hs hf hlen hg hrole harb => outcome_secTurn_of_ok hs (hSecFwConfirm_of_reached (s := sessionKept k s) hf hlen hg hrole harb),
    fun k s hs hf hlen hg hl hn hn' hrsv hempty => ?_,
    fun k s hs hf hlen hg hrole hmode hrsv => outcome_secTurn_of_ok hs (hSecMode_of_debug hf hlen hg hrole hmode hrsv)⟩
  · obtain ⟨version, hok, hversion⟩ := hSecInfo_of_pass (s := sessionKept k s) hlen hg
    exact ⟨version, outcome_secTurn_of_ok hs hok, hversion⟩
  · obtain ⟨sig, act, hok, hsig⟩ := hSecAttest_of_pass (s := sessionKept k s) hlen hg
    exact ⟨sig, act, outcome_secTurn_of_ok hs hok, hsig⟩
  · exact outcome_secTurn_of_ok hs (hSecIdCsr_of_epoch (s := sessionKept k s) hf hlen hg hrole hepoch)
  · rw [run_eff, nvs_applyAll_csrEffects]
  · rw [run_eff, nvs_applyAll_csrEffects]
  · obtain ⟨act, hok⟩ := hPopRead_of_empty (s := sessionKept k s) hf hlen hg hl hn hn' hrsv hempty
    exact ⟨act, outcome_secTurn_of_ok hs hok⟩

end Sys2Proof.SecurityRows
end

section
/-! Host writes of the event matrix, doorbells and the service turn (chapters 03 and 04). -/
open Sys2Proof Sys2Proof.Machine Sys2Proof.Reads Sys2Proof.ServiceTurn Sys2Proof.Tickets Sys2Proof.Turns Sys2Proof.Basics Sys2Proof.Spans
open Sys2Proof.Camera Sys2Proof.Streams Sys2Proof.Wall

-- Proofs that wait side by side for the kernel would not fit into the memory of one compile.
set_option Elab.async false

namespace Sys2Proof.HostRows

/-! ### Fields of words -/

/-- A field of a word lies in its 32 bits. -/
def inWord (f : Fld) : Bool := decide (f.lo ≤ f.hi + 1 ∧ f.hi < 32)

theorem covers_allOnes {f : Fld} (h : inWord f = true) : covers (BitVec.allOnes 32) f = true := by
  rw [covers, Bool.and_eq_true]
  refine ⟨h, List.all_eq_true.mpr fun i hi => ?_⟩
  rw [BitVec.getLsbD_allOnes, decide_eq_true (List.mem_range.mp hi), Bool.or_true]

theorem getFld_setFld_same {f : Fld} (h : inWord f = true) (w : Word) (v : Nat) : getFld (setFld w f v) f = v % 2 ^ (f.hi + 1 - f.lo) := by
  have := getFld_set_mask w (BitVec.allOnes 32) f v (covers_allOnes h)
  rwa [BitVec.and_allOnes] at this

theorem getFld_setFld_ne {f g : Fld} (hf : inWord f = true) (hg : inWord g = true) (h : f.hi < g.lo ∨ g.hi < f.lo) (w : Word) (v : Nat) :
    getFld (setFld w f v) g = getFld w g := by
  have := getFld_set_mask_ne w (BitVec.allOnes 32) f g v (of_decide_eq_true hf).1 (covers_allOnes hg) h
  rwa [BitVec.and_allOnes] at this

theorem fld_eq_getFld (s : State) (a : Nat) (f : Fld) : s.fld a f = getFld (s.rd a) f := rfl

/-! ### Messages after a write -/

theorem reaches_emits (l : List Out) : (l.map Eff.emit).all (reaches [.out]) = true := all_map_of_forall fun _ _ => rfl

/-- What a host write of event registers leaves besides the words: messages only. -/
theorem agree_evtWrite (ws : List (Nat × Word)) (before : List (Nat × Nat)) (after : State → List (Nat × Nat)) (s : State) :
    Agree (among [.out]) (applyAll (ws.map fun w => .reg w.1 w.2) s) ((evtWrite ws before after).run s) := by
  rw [evtWrite, run_acts_cons, run_acts_cons, run_acts_nil, run_eff, Act.run_eq]
  exact agree_of_reaches (reaches_emits _) _

theorem sameStores_evtWrite (ws : List (Nat × Word)) (before : List (Nat × Nat)) (after : State → List (Nat × Nat)) (s : State) :
    sameStores s ((evtWrite ws before after).run s) := by
  have hws : (ws.map fun w => Eff.reg w.1 w.2).all (reaches [.regs]) = true := all_map_of_forall fun _ _ => rfl
  exact sameStores_trans ((agree_of_reaches hws s).sameStores rfl rfl rfl rfl rfl rfl)
    ((agree_evtWrite ws before after s).sameStores rfl rfl rfl rfl rfl rfl)

theorem rd_evtWrite (ws : List (Nat × Word)) (before : List (Nat × Nat)) (after : State → List (Nat × Nat)) (s : State) (a : Nat) :
    ((evtWrite ws before after).run s).rd a = (applyAll (ws.map fun w => .reg w.1 w.2) s).rd a :=
  rd_congr ((agree_evtWrite ws before after s).regs rfl) a

/-- A write of one word of the event registers. -/
theorem evtWrite_one (o : Nat) (w : Word) (before : List (Nat × Nat)) (after : State → List (Nat × Nat)) (s : State) :
    let t := (evtWrite [(o, w)] before after).run s
    t.rd o = w &&& regMask o ∧ (∀ a, a ≠ o → t.rd a = s.rd a) ∧ sameStores s t :=
  ⟨(rd_evtWrite ..).trans (rd_reg_same ..), fun _ ha => (rd_evtWrite ..).trans (rd_reg_ne ha ..), sameStores_evtWrite ..⟩

theorem fld_evtWrite_one {o : Nat} {f : Fld} (h : covers (regMask o) f = true) (w : Word) (before : List (Nat × Nat))
    (after : State → List (Nat × Nat)) (s : State) : ((evtWrite [(o, w)] before after).run s).fld o f = getFld w f := by
  rw [State.fld, rd_evtWrite]
  exact fld_reg_same h w s

/-! ### Forced sources -/

/-- The sources of a status word that a write forces. -/
def forced (k : Nat) (v : Word) : List Nat := ((List.range 32).filter fun j => (v &&& evtDefined k).getLsbD j).map (32 * k + ·)

/-- The bits of a status word that stand for sources are those that are not reserved. -/
theorem evtDefined_bit : ∀ k < 8, ∀ j < 32, (evtDefined k).getLsbD j = !evtReserved (32 * k + j) := by decide +kernel

theorem mem_forced {k j : Nat} {v : Word} (hk : k < 8) (hj : j < 32) (hv : v.getLsbD j = true) (he : evtReserved (32 * k + j) = false) :
    32 * k + j ∈ forced k v := by
  refine List.mem_map.mpr ⟨j, List.mem_filter.mpr ⟨List.mem_range.mpr hj, ?_⟩, rfl⟩
  rw [BitVec.getLsbD_and, hv, evtDefined_bit k hk j hj, he]
  rfl

/-- R155: a forced source is counted as a hardware set. -/
theorem forceRegs_eq {k : Nat} (hk : k < 8) (v : Word) (s : State) :
    forceRegs s.regs k v = (applyAll ((forced k v).map Eff.raise) s).regs := by
  have hfold (l : List Nat) (hl : ∀ j ∈ l, j < 32) (u : State) :
      l.foldl (fun r j => if (v &&& evtDefined k).getLsbD j then evtRegs r (32 * k + j) else r) u.regs =
      (applyAll (((l.filter fun j => (v &&& evtDefined k).getLsbD j).map (32 * k + ·)).map Eff.raise) u).regs := by
    induction l generalizing u with
    | nil => rfl
    | cons j l ih =>
      obtain ⟨hj, hl'⟩ := List.forall_mem_cons.mp hl
      by_cases hb : (v &&& evtDefined k).getLsbD j = true
      · have hres : evtReserved (32 * k + j) = false := by
          rw [BitVec.getLsbD_and, Bool.and_eq_true, evtDefined_bit k hk j hj, Bool.not_eq_true'] at hb
          exact hb.2
        rw [List.foldl_cons, if_pos hb, ← regs_raise hres, ih hl', List.filter_cons_of_pos hb]
        rfl
      · rw [List.foldl_cons, if_neg hb, ih hl', List.filter_cons_of_neg hb]
  exact hfold _ (fun j hj => List.mem_range.mp hj) s

theorem regReset_status : ∀ k < 8, regReset (Reg.EVT_STATUS k) = 0 := by decide +kernel

theorem evt_forced {k i : Nat} (hk : k < 8) (hi : i < 32) {v : Word} (hv : v.getLsbD i = true) (he : evtReserved (32 * k + i) = false) (s : State) :
    ((forceRegs s.regs k v).getD (Reg.EVT_STATUS k) 0).getLsbD i = true := by
  have hset := evt_applyAll_of_raise (es := (forced k v).map Eff.raise) he (all_map_of_forall fun _ _ => rfl)
    (List.mem_map_of_mem (mem_forced hk hi hv he)) s
  rw [State.evt, State.rd, show (32 * k + i) / 32 = k by omega, show (32 * k + i) % 32 = i by omega, regReset_status k hk] at hset
  rw [forceRegs_eq hk]
  exact hset

/-- The words that a forced source writes: its status word and the count. -/
def forceWords (k : Nat) (v : Word) (s : State) : List (Nat × Word) :=
  let r := forceRegs s.regs k v
  [(Reg.EVT_STATUS k, r.getD (Reg.EVT_STATUS k) 0), (Reg.EVT_LOG_COUNT_LO, r.getD Reg.EVT_LOG_COUNT_LO 0),
    (Reg.EVT_LOG_COUNT_HI, r.getD Reg.EVT_LOG_COUNT_HI 0)]

theorem actEvtForceWrite_eq (k : Fin 8) (v : Word) (s : State) :
    actEvtForceWrite k v s = evtWrite (forceWords k v s) (wordVectors s 0 k) (fun _ => []) s := rfl

theorem rd_forceWords {k : Nat} (hk : k < 8) (v : Word) (s : State) :
    (applyAll ((forceWords k v s).map fun w => .reg w.1 w.2) s).rd (Reg.EVT_STATUS k) =
      (forceRegs s.regs k v).getD (Reg.EVT_STATUS k) 0 &&& regMask (Reg.EVT_STATUS k) := by
  rw [forceWords, List.map_cons, List.map_cons, List.map_cons, List.map_nil, applyAll_cons, applyAll_cons, applyAll_cons, applyAll_nil,
    rd_reg_ne (by unfold Reg.EVT_STATUS Reg.EVT_LOG_COUNT_HI; omega), rd_reg_ne (by unfold Reg.EVT_STATUS Reg.EVT_LOG_COUNT_LO; omega),
    rd_reg_same]

theorem run_evtForceWrite {k : Fin 8} {v : Word} {i : Fin 32} {s : State} (hv : v.getLsbD i = true) (he : evtReserved (32 * k + i) = false) :
    let t := (actEvtForceWrite k v).run s
    t.evt (32 * k + i) = true ∧ sameStores s t := by
  dsimp only
  rw [run_congr (actEvtForceWrite_eq k v s)]
  refine ⟨?_, sameStores_evtWrite ..⟩
  have hword : (32 * k.val + i.val) / 32 = k := by omega
  have hbit : (32 * k.val + i.val) % 32 = i := by omega
  have hmask := regMask_status_bit (32 * k + i) (lt_of_not_reserved he) he
  rw [hword, hbit] at hmask
  rw [State.evt, hword, hbit, rd_evtWrite, rd_forceWords k.isLt, BitVec.getLsbD_and, evt_forced k.isLt i.isLt hv he, hmask, Bool.and_self]

/-! ### Routes -/

theorem covers_route_en (e : Fin 256) : covers (regMask (Reg.EVT_ROUTE e)) Fld.EVT_ROUTE.EN = true :=
  covers_word (b := 0x10400) (st := 4) (c := 256) (by decide +kernel) e.isLt

theorem covers_route_err (e : Fin 256) : covers (regMask (Reg.EVT_ROUTE e)) Fld.EVT_ROUTE.ROUTE_ERR = true :=
  covers_word (b := 0x10400) (st := 4) (c := 256) (by decide +kernel) e.isLt

theorem covers_route_func (e : Fin 256) : covers (regMask (Reg.EVT_ROUTE e)) Fld.EVT_ROUTE.FUNC = true :=
  covers_word (b := 0x10400) (st := 4) (c := 256) (by decide +kernel) e.isLt

theorem covers_route_vector (e : Fin 256) : covers (regMask (Reg.EVT_ROUTE e)) Fld.EVT_ROUTE.VECTOR = true :=
  covers_word (b := 0x10400) (st := 4) (c := 256) (by decide +kernel) e.isLt

/-- The function that a route of a source names in a written word: its own, for a completion source. -/
def routeFunc (e : Nat) (v : Word) : Nat := if e < 64 then e else getFld v Fld.EVT_ROUTE.FUNC

theorem routeFunc_eq (e : Nat) (v : Word) : (if e < 64 then e else getFld v Fld.EVT_ROUTE.FUNC) = routeFunc e v := rfl

theorem routeFunc_lt (e : Nat) (v : Word) : routeFunc e v < 64 := by
  unfold routeFunc
  split
  · assumption
  · exact Nat.mod_lt _ (by decide)

/-- The word of an enabled route. -/
def routeWord (vec f err : Nat) : Word :=
  setFld (setFld (setFld (setFld 0 Fld.EVT_ROUTE.VECTOR vec) Fld.EVT_ROUTE.FUNC f) Fld.EVT_ROUTE.ROUTE_ERR err) Fld.EVT_ROUTE.EN 1

theorem getFld_routeWord_en (vec f err : Nat) : getFld (routeWord vec f err) Fld.EVT_ROUTE.EN = 1 := getFld_setFld_same (by decide) _ _

theorem getFld_routeWord_func {f : Nat} (h : f < 64) (vec err : Nat) : getFld (routeWord vec f err) Fld.EVT_ROUTE.FUNC = f := by
  rw [routeWord, getFld_setFld_ne (by decide) (by decide) (by decide), getFld_setFld_ne (by decide) (by decide) (by decide),
    getFld_setFld_same (by decide)]
  exact Nat.mod_eq_of_lt h

theorem getFld_routeWord_vector {vec : Nat} (h : vec < 64) (f err : Nat) : getFld (routeWord vec f err) Fld.EVT_ROUTE.VECTOR = vec := by
  rw [routeWord, getFld_setFld_ne (by decide) (by decide) (by decide), getFld_setFld_ne (by decide) (by decide) (by decide),
    getFld_setFld_ne (by decide) (by decide) (by decide), getFld_setFld_same (by decide)]
  exact Nat.mod_eq_of_lt h

theorem actEvtRouteWrite_of_allowed {e : Fin 256} {v : Word} {s : State} (he : evtReserved e = false) (hen : v.getLsbD 31 = true)
    (hmay : mayRoute s e (routeFunc e v) = true) (hvec : getFld v Fld.EVT_ROUTE.VECTOR < vecRange (routeFunc e v)) :
    ∃ err, actEvtRouteWrite e v s = evtWrite [(Reg.EVT_ROUTE e, routeWord (getFld v Fld.EVT_ROUTE.VECTOR) (routeFunc e v) err)] (vectorOf s.regs e)
      (fun s' => vectorOf s'.regs e) s := by
  refine ⟨if (getFld (s.rd (Reg.EVT_ROUTE e)) Fld.EVT_ROUTE.ROUTE_ERR == 1 && !v.getLsbD 30) = true then 1 else 0, ?_⟩
  simp only [actEvtRouteWrite, he, hen, routeFunc_eq, hmay, Nat.not_le.mpr hvec, Bool.not_true, decide_false, Bool.or_self, Bool.and_false,
    Bool.false_eq_true, if_false, if_true]
  rfl

/-- What an allowed route leaves (R150). -/
theorem run_evtRouteWrite_of_allowed {e : Fin 256} {v : Word} {s : State} (he : evtReserved e = false) (hen : v.getLsbD 31 = true)
    (hmay : mayRoute s e (routeFunc e v) = true) (hvec : getFld v Fld.EVT_ROUTE.VECTOR < vecRange (routeFunc e v)) :
    let t := (actEvtRouteWrite e v).run s
    t.flag (Reg.EVT_ROUTE e) Fld.EVT_ROUTE.EN = true ∧ t.fld (Reg.EVT_ROUTE e) Fld.EVT_ROUTE.VECTOR = getFld v Fld.EVT_ROUTE.VECTOR ∧
      t.fld (Reg.EVT_ROUTE e) Fld.EVT_ROUTE.FUNC = routeFunc e v ∧ (∀ a, a ≠ Reg.EVT_ROUTE e → t.rd a = s.rd a) ∧ sameStores s t := by
  obtain ⟨err, hact⟩ := actEvtRouteWrite_of_allowed he hen hmay hvec
  dsimp only
  rw [run_congr hact]
  obtain ⟨-, hother, hstores⟩ := evtWrite_one (Reg.EVT_ROUTE e) (routeWord (getFld v Fld.EVT_ROUTE.VECTOR) (routeFunc e v) err) (vectorOf s.regs e)
    (fun s' => vectorOf s'.regs e) s
  have hwidth : getFld v Fld.EVT_ROUTE.VECTOR < 64 := Nat.mod_lt _ (by decide)
  refine ⟨?_, ?_, ?_, hother, hstores⟩
  · rw [State.flag, fld_evtWrite_one (covers_route_en e), getFld_routeWord_en]
    rfl
  · rw [fld_evtWrite_one (covers_route_vector e), getFld_routeWord_vector hwidth]
  · rw [fld_evtWrite_one (covers_route_func e), getFld_routeWord_func (routeFunc_lt e v)]

theorem actEvtRouteWrite_of_bad_vector {e : Fin 256} {v : Word} {s : State} (he : evtReserved e = false) (hen : v.getLsbD 31 = true)
    (hvec : vecRange (routeFunc e v) ≤ getFld v Fld.EVT_ROUTE.VECTOR) :
    actEvtRouteWrite e v s = evtWrite [(Reg.EVT_ROUTE e, setFld (s.rd (Reg.EVT_ROUTE e)) Fld.EVT_ROUTE.ROUTE_ERR 1)] (vectorOf s.regs e)
      (fun s' => vectorOf s'.regs e) s := by
  simp only [actEvtRouteWrite, he, hen, routeFunc_eq, hvec, decide_true, Bool.or_true, Bool.true_and, Bool.false_eq_true, if_false, if_true]

/-- R150: a route with a vector out of range sets ROUTE_ERR and keeps the route. -/
theorem run_evtRouteWrite_of_bad_vector {e : Fin 256} {v : Word} {s : State} (he : evtReserved e = false) (hen : v.getLsbD 31 = true)
    (hvec : vecRange (routeFunc e v) ≤ getFld v Fld.EVT_ROUTE.VECTOR) :
    let t := (actEvtRouteWrite e v).run s
    t.flag (Reg.EVT_ROUTE e) Fld.EVT_ROUTE.ROUTE_ERR = true ∧
      t.fld (Reg.EVT_ROUTE e) Fld.EVT_ROUTE.VECTOR = s.fld (Reg.EVT_ROUTE e) Fld.EVT_ROUTE.VECTOR ∧
      t.fld (Reg.EVT_ROUTE e) Fld.EVT_ROUTE.EN = s.fld (Reg.EVT_ROUTE e) Fld.EVT_ROUTE.EN := by
  dsimp only
  rw [run_congr (actEvtRouteWrite_of_bad_vector he hen hvec)]
  refine ⟨?_, ?_, ?_⟩
  · rw [State.flag, fld_evtWrite_one (covers_route_err e), getFld_setFld_same (by decide)]
    rfl
  · rw [fld_evtWrite_one (covers_route_vector e), getFld_setFld_ne (by decide) (by decide) (by decide), fld_eq_getFld]
  · rw [fld_evtWrite_one (covers_route_en e), getFld_setFld_ne (by decide) (by decide) (by decide), fld_eq_getFld]

theorem actEvtLocalWrite_of_range {f : Fn} {v : Word} {s : State} (hcst : getFld v Fld.EVT_LOCAL.CST_VEC < vecRange f)
    (hdma : getFld v Fld.EVT_LOCAL.DMA_VEC < vecRange f) :
    actEvtLocalWrite f v s = evtWrite [(Reg.EVT_LOCAL f, v)] (localVectors s f) (fun s' => localVectors s' f) s := by
  simp only [actEvtLocalWrite, hcst, hdma, if_true]

/-- R157: what a VF's write of its own route leaves. -/
theorem run_evtVfRouteSelf {f : Fn} {v : Word} {s : State} (hf : f.val ≠ 0) :
    let t := (actEvtVfRouteSelf f v).run s
    t.fld (Reg.EVT_ROUTE f) Fld.EVT_ROUTE.VECTOR = bitsOf v.toNat 2 0 ∧ t.fld (Reg.EVT_ROUTE f) Fld.EVT_ROUTE.EN = bitsOf v.toNat 31 31 ∧
      t.fld (Reg.EVT_ROUTE f) Fld.EVT_ROUTE.FUNC = s.fld (Reg.EVT_ROUTE f) Fld.EVT_ROUTE.FUNC ∧
      (∀ a, a ≠ Reg.EVT_ROUTE f → t.rd a = s.rd a) := by
  have hact : actEvtVfRouteSelf f v s = evtWrite [(Reg.EVT_ROUTE f, setFld (setFld (s.rd (Reg.EVT_ROUTE f)) Fld.EVT_ROUTE.VECTOR
      (bitsOf v.toNat 2 0)) Fld.EVT_ROUTE.EN (bitsOf v.toNat 31 31))] (vectorOf s.regs f) (fun s' => vectorOf s'.regs f) s := if_neg hf
  have hlt : f.val < 256 := by omega
  have hvec : bitsOf v.toNat 2 0 < 8 := Nat.mod_lt _ (by decide)
  have hen : bitsOf v.toNat 31 31 < 2 := Nat.mod_lt _ (by decide)
  dsimp only
  rw [run_congr hact]
  refine ⟨?_, ?_, ?_, (evtWrite_one ..).2.1⟩
  · rw [fld_evtWrite_one (covers_route_vector ⟨f, hlt⟩), getFld_setFld_ne (by decide) (by decide) (by decide), getFld_setFld_same (by decide)]
    exact Nat.mod_eq_of_lt (by simp only [Fld.EVT_ROUTE.VECTOR]; omega)
  · rw [fld_evtWrite_one (covers_route_en ⟨f, hlt⟩), getFld_setFld_same (by decide)]
    exact Nat.mod_eq_of_lt (by simp only [Fld.EVT_ROUTE.EN]; omega)
  · rw [fld_evtWrite_one (covers_route_func ⟨f, hlt⟩), getFld_setFld_ne (by decide) (by decide) (by decide),
      getFld_setFld_ne (by decide) (by decide) (by decide), fld_eq_getFld]

theorem actEvtStatusWrite_eq (f : Fn) (k : Fin 8) (v : Word) (s : State) : actEvtStatusWrite f k v s =
    evtWrite [(Reg.EVT_STATUS k, s.rd (Reg.EVT_STATUS k) &&& ~~~(v &&& evtView s f k))] (wordVectors s f k) (fun _ => []) s := rfl

theorem actEvtMaskWrite_eq (f : Fn) (k : Fin 8) (v : Word) (s : State) : actEvtMaskWrite f k v s =
    evtWrite [(Reg.EVT_MASK k, (s.rd (Reg.EVT_MASK k) &&& ~~~(evtView s f k)) ||| (v &&& evtView s f k))] (wordVectors s f k) (fun _ => []) s :=
  rfl

/-- Settles O9: each write loads its words, and the messages that follow load none. -/
theorem eventMatrixWrites : Obligations.EventMatrixWrites := by
  refine ⟨fun f k v s => ⟨(actEvtStatusWrite f k v).run s, rfl, ?_⟩, fun f k v s => ⟨(actEvtMaskWrite f k v).run s, rfl, ?_⟩,
    fun k v s i hv he => ⟨_, rfl, run_evtForceWrite hv he⟩,
    fun e v s he hen hmay hvec => ⟨_, rfl, run_evtRouteWrite_of_allowed he hen hmay hvec⟩,
    fun e v s he hen hvec => ⟨_, rfl, run_evtRouteWrite_of_bad_vector he hen hvec⟩,
    fun f v s hcst hdma => ⟨(actEvtLocalWrite f v).run s, rfl, ?_⟩, fun f v s hf => ⟨_, rfl, run_evtVfRouteSelf hf⟩⟩
  · rw [run_congr (actEvtStatusWrite_eq f k v s)]
    exact evtWrite_one ..
  · rw [run_congr (actEvtMaskWrite_eq f k v s)]
    exact evtWrite_one ..
  · rw [run_congr (actEvtLocalWrite_of_range hcst hdma)]
    exact evtWrite_one ..

end Sys2Proof.HostRows
end

section
/-! Doorbells and the service turn (R93, R96, R97, R99). -/
open Sys2Proof Sys2Proof.Machine Sys2Proof.Reads Sys2Proof.ServiceTurn Sys2Proof.Tickets Sys2Proof.Turns Sys2Proof.Basics Sys2Proof.Spans
open Sys2Proof.Camera Sys2Proof.Streams Sys2Proof.Wall Sys2Proof.BusyDoorbell Sys2Proof.EffectReads

-- Proofs that wait side by side for the kernel would not fit into the memory of one compile.
set_option Elab.async false

namespace Sys2Proof.Doorbells

theorem mbx_of_arm {s t : State} (h : t.arm = s.arm) (f : Nat) : t.mbx f = s.mbx f := by rw [State.mbx, h, State.mbx]

theorem actMbxDoorbell_of_free {f : Fn} {v : Word} {s : State} (hv : getFld v Fld.MBX_DOORBELL.RING = 1)
    (hbusy : s.fld (Reg.MBX_STATE f) Fld.MBX_STATE.STATE ≠ 1) (hrec : s.fld (Reg.MBX_STATE f) Fld.MBX_STATE.STATE ≠ 3) :
    actMbxDoorbell f v s = [effMbx f fun b => { b with rung := some (copyCommand s f (getFld v Fld.MBX_DOORBELL.SEQ)) },
      .fld (Reg.MBX_STATE f) Fld.MBX_STATE.STATE 1] := by
  rw [actMbxDoorbell, if_neg (by omega), if_neg (by simp [hbusy, hrec])]

/-- What a doorbell of a mailbox that is neither busy nor recovering leaves (R96). -/
theorem run_mbxDoorbell_of_free {f : Fn} {v : Word} {s : State} (hv : getFld v Fld.MBX_DOORBELL.RING = 1)
    (hbusy : s.fld (Reg.MBX_STATE f) Fld.MBX_STATE.STATE ≠ 1) (hrec : s.fld (Reg.MBX_STATE f) Fld.MBX_STATE.STATE ≠ 3) :
    let t := (actMbxDoorbell f v).run s
    (t.mbx f).rung = some (copyCommand s f (getFld v Fld.MBX_DOORBELL.SEQ)) ∧ t.fld (Reg.MBX_STATE f) Fld.MBX_STATE.STATE = 1 ∧
      (∀ a, a ≠ Reg.MBX_STATE f → t.rd a = s.rd a) ∧ sameStores s t := by
  dsimp only
  rw [Act.run_eq, actMbxDoorbell_of_free hv hbusy hrec]
  refine ⟨?_, ?_, fun a ha => ?_, applyAll_sameStores rfl s⟩
  · rw [applyAll_cons, mbx_of_arm ((agree_applyAll _ _).arm rfl), mbx_effMbx_same]
  · rw [applyAll_cons, applyAll_cons, applyAll_nil, fld_fld_same _ _ _ _ (covers_state f)]
    rfl
  · rw [applyAll_cons, applyAll_cons, applyAll_nil, rd_fld_ne ha, rd_apply rfl]

/-! ### The service turn -/

theorem covers_lastSeq (f : Fn) : covers (regMask (Reg.MBX_STATE f)) Fld.MBX_STATE.LAST_SEQ = true := by
  rw [regMask_mbxState]
  decide

/-- R99: a turn begins with the mailbox that is next. -/
theorem actMbxServiceStart_of_next {f : Nat} {c : Cmd} {s : State} (hdead : s.arm.dead = false) (hserving : s.arm.serving = true)
    (hhalted : s.arm.halted = false) (hnone : s.arm.inService = none) (hnext : nextRung s = some f) (hf : f < 64) (hc : (s.mbx f).rung = some c) :
    actMbxServiceStart s = serve f c s := by
  simp [actMbxServiceStart, hdead, hserving, hhalted, hnone, hnext, hc, hf]

/-- A first command after a reset whose number is any is taken into service. -/
theorem serve_of_any {f : Nat} {c : Cmd} {s : State} (hdead : s.arm.dead = false) (hseq : c.dbSeq = c.seq) (hany : (s.mbx f).anySeq = true)
    (hop : opcodeDefined c.opcode = true) (hlen : c.len ≤ 4064) :
    serve f c s = [.fld (Reg.MBX_STATE f) Fld.MBX_STATE.LAST_SEQ c.seq, effMbx f fun b => { b with anySeq := false },
      .arm fun a => { a with inService := some ⟨f, c, none⟩ }] := by
  simp [serve, hdead, hseq, hany, hop, Nat.not_lt.mpr hlen, acts, Act.seq, eff]

/-- R93: a number answered already is answered again with the stored response. -/
theorem serve_of_repeat {f : Nat} {c : Cmd} {s : State} (hdead : s.arm.dead = false) (hdb : c.dbSeq = c.seq) (hany : (s.mbx f).anySeq = false)
    (hlt : c.seq < 65536) (hlast : s.fld (Reg.MBX_STATE f) Fld.MBX_STATE.LAST_SEQ = c.seq) :
    serve f c s = present f (s.mbx f).stored c.poll s ++ [endTurn f] := by
  have hd : (c.seq + 65536 - s.fld (Reg.MBX_STATE f) Fld.MBX_STATE.LAST_SEQ) % 65536 = 0 := by omega
  simp [serve, hdead, hdb, hany, hd]

theorem run_serve_of_any {f : Nat} {c : Cmd} {s : State} (hf : f < 64) (hdead : s.arm.dead = false) (hseq : c.dbSeq = c.seq)
    (hany : (s.mbx f).anySeq = true) (hop : opcodeDefined c.opcode = true) (hlen : c.len ≤ 4064) :
    let t := applyAll (serve f c s) s
    t.arm.inService = some ⟨f, c, none⟩ ∧ t.fld (Reg.MBX_STATE f) Fld.MBX_STATE.LAST_SEQ = c.seq % 65536 ∧
      (∀ a, a ≠ Reg.MBX_STATE f → t.rd a = s.rd a) ∧ sameStores s t := by
  dsimp only
  rw [serve_of_any hdead hseq hany hop hlen]
  refine ⟨rfl, ?_, fun a ha => ?_, applyAll_sameStores rfl s⟩
  · rw [applyAll_cons, applyAll_cons, applyAll_cons, applyAll_nil, fld_apply rfl, fld_apply rfl,
      fld_fld_same _ _ _ _ (covers_lastSeq ⟨f, hf⟩)]
    rfl
  · rw [applyAll_cons, applyAll_cons, applyAll_cons, applyAll_nil, rd_apply rfl, rd_apply rfl, rd_fld_ne ha]

/-- A response made valid: its header is in the page, and the mailbox reads DONE (R92). -/
theorem run_present {f : Nat} {rsp : Bytes} {poll : Bool} {s : State} (hf : f < 64) (hlen : 32 ≤ rsp.length) :
    let t := applyAll (present f rsp poll s ++ [endTurn f]) s
    memReadBytes t.pageMem (pageBase f + 0x1000) 32 = rsp.take 32 ∧ t.arm.inService = none ∧
      t.fld (Reg.MBX_STATE f) Fld.MBX_STATE.STATE = 2 ∧ t.prms = s.prms ∧ t.arm.commits = s.arm.commits := by
  have htail : ∃ es, present f rsp poll s = [.page (pageBase f + 0x1020) (rsp.drop 32), .page (pageBase f + 0x1000) (rsp.take 32),
      .fld (Reg.MBX_STATE f) Fld.MBX_STATE.STATE 2] ++ es ∧ (es = [] ∨ es = [.raise f]) :=
    ⟨if poll then [] else [.raise f], rfl, by cases poll <;> simp⟩
  obtain ⟨es, hpresent, hes⟩ := htail
  have hreach : es.all (reaches [.regs, .out]) = true := by obtain rfl | rfl := hes <;> rfl
  have hfld (u : State) : (applyAll es u).fld (Reg.MBX_STATE f) Fld.MBX_STATE.STATE = u.fld (Reg.MBX_STATE f) Fld.MBX_STATE.STATE := by
    obtain rfl | rfl := hes
    · rfl
    · exact fld_raise (eventWord_mbxState f) ..
  dsimp only
  rw [hpresent, applyAll_append, applyAll_append, applyAll_cons, applyAll_nil]
  have htake : (rsp.take 32).length = 32 := by simp [hlen]
  refine ⟨?_, rfl, ?_, ?_, ?_⟩
  · have hread := memReadBytes_writeBytes_same (memWriteBytes s.pageMem (pageBase f + 0x1020) (rsp.drop 32)) (pageBase f + 0x1000) (rsp.take 32)
    rw [htake] at hread
    rw [(agree_apply _ _).pageMem rfl, (agree_of_reaches hreach _).pageMem rfl]
    exact hread
  · rw [fld_apply rfl, hfld, applyAll_cons, applyAll_cons, applyAll_cons, applyAll_nil, fld_fld_same _ _ _ _ (covers_state ⟨f, hf⟩)]
    rfl
  · rw [(agree_apply _ _).prms rfl, (agree_of_reaches hreach _).prms rfl, (agree_applyAll _ _).prms rfl]
  · show (applyAll es _).arm.commits = _
    rw [(agree_of_reaches hreach _).arm rfl, (agree_applyAll _ _).arm rfl]

/-- Settles O11: the doorbell by the state of its mailbox, the turn by the number of the command. -/
theorem mailboxTurn : Obligations.MailboxTurn := by
  refine ⟨fun f v s hv hbusy hrec => ⟨_, rfl, run_mbxDoorbell_of_free hv hbusy hrec⟩,
    fun f v s hv hbusy => ⟨_, exec_mbxDoorbell_of_busy hv (.inl hbusy), flag_ringLost_of_set f s, Eff.fld_arm ..⟩,
    fun f c s hdead hserving hhalted hnone hnext hf hc hseq hany hop hlen => ⟨actMbxServiceStart.run s, rfl, ?_⟩,
    fun f c s hdead hserving hhalted hnone hnext hf hc hdb hany hlt hlast hmax hmin => ⟨actMbxServiceStart.run s, rfl, ?_⟩⟩
  · rw [Act.run_eq, actMbxServiceStart_of_next hdead hserving hhalted hnone hnext hf hc]
    exact run_serve_of_any hf hdead hseq hany hop hlen
  · rw [Act.run_eq, actMbxServiceStart_of_next hdead hserving hhalted hnone hnext hf hc, serve_of_repeat hdead hdb hany hlt hlast]
    exact run_present hf hmin

end Sys2Proof.Doorbells
end

section
/-! The halt and the recovery of the Armature, and the abort sequencer (chapters 03 and 21). -/
open Sys2Proof Sys2Proof.Machine Sys2Proof.Reads Sys2Proof.ServiceTurn Sys2Proof.Tickets Sys2Proof.Turns Sys2Proof.Basics Sys2Proof.Spans
open Sys2Proof.Camera Sys2Proof.Streams Sys2Proof.Wall Sys2Proof.HostRows Sys2Proof.Doorbells Sys2Proof.Tiles

-- Proofs that wait side by side for the kernel would not fit into the memory of one compile.
set_option Elab.async false

namespace Sys2Proof.RecoveryRows

/-! ### Acts whose every effect has a property -/

/-- Every effect of the act has the property, from whatever state. -/
def Only (P : Eff → Prop) (a : Act) : Prop := ∀ s, ∀ e ∈ a s, P e

section
variable {P : Eff → Prop}

theorem Only.nil : Only P (acts []) := fun _ _ h => nomatch h

theorem Only.cons {a : Act} {t : List Act} (ha : Only P a) (ht : Only P (acts t)) : Only P (acts (a :: t)) := fun s e he => by
  obtain h | h : e ∈ a s ∨ e ∈ acts t (applyAll (a s) s) := List.mem_append.mp he
  · exact ha s e h
  · exact ht _ e h

theorem Only.actsFor {α : Type} {xs : List α} {g : α → Act} (h : ∀ x, Only P (g x)) : Only P (actsFor xs g) := by
  induction xs with
  | nil => exact .nil
  | cons x xs ih => exact (h x).cons ih

theorem Only.ite {c : Prop} [Decidable c] {a b : Act} (ha : Only P a) (hb : Only P b) : Only P (if c then a else b) := by
  split
  · exact ha
  · exact hb

end

/-! ### The halt is kept -/

/-- The effect leaves whether the Armature is halted, and the slot of its image. -/
def haltKept (e : Eff) : Prop := ∀ s : State, (e.apply s).arm.halted = s.arm.halted ∧ (e.apply s).arm.slotB = s.arm.slotB

/-- The effect leaves the Armature's part of the state. -/
def sparesArm (e : Eff) : Bool := !touches e .arm

theorem haltKept_of_sparesArm {e : Eff} (h : sparesArm e = true) : haltKept e := fun s => by
  rw [(agree_apply e s).arm (by simpa [sparesArm] using h)]
  exact ⟨rfl, rfl⟩

theorem kept_of_sparesArm {es : List Eff} (h : es.all sparesArm = true) : ∀ e ∈ es, haltKept e := fun e he =>
  haltKept_of_sparesArm (List.all_eq_true.mp h e he)

theorem spares_ite {c : Prop} [Decidable c] {es : List Eff} (h : es.all sparesArm = true) : (if c then es else []).all sparesArm = true := by
  split
  · exact h
  · rfl

theorem only_of_sparesArm {a : Act} (h : Every sparesArm a) : Only haltKept a := fun s => kept_of_sparesArm (h s)

theorem run_of_only {a : Act} (h : Only haltKept a) (s : State) :
    (a.run s).arm.halted = s.arm.halted ∧ (a.run s).arm.slotB = s.arm.slotB :=
  ⟨applyAll_keeps_of_mem (·.arm.halted) (fun e he u => (h s e he u).1) s, applyAll_keeps_of_mem (·.arm.slotB) (fun e he u => (h s e he u).2) s⟩

theorem haltKept_arm {g : Arm → Arm} (hh : ∀ a, (g a).halted = a.halted) (hs : ∀ a, (g a).slotB = a.slotB) : haltKept (.arm g) :=
  fun _ => ⟨hh _, hs _⟩

theorem haltKept_effMbx (f : Nat) (g : Mbx → Mbx) : haltKept (effMbx f g) := haltKept_arm (fun _ => rfl) fun _ => rfl

theorem only_syncTickets (f : Nat) : Only haltKept (syncTickets f) := fun s => by
  unfold syncTickets
  split
  · exact kept_of_sparesArm rfl
  · exact kept_of_sparesArm rfl

theorem only_completeTicket (f id st : Nat) (bs : Bytes) : Only haltKept (completeTicket f id st bs) := by
  refine .cons (fun s => ?_) ((only_syncTickets f).cons .nil)
  split
  · exact kept_of_sparesArm rfl
  · split
    · exact kept_of_sparesArm rfl
    · intro e he
      simp only [List.mem_append, List.mem_cons, List.not_mem_nil, or_false] at he
      obtain (rfl | rfl) | he := he
      · exact haltKept_effMbx _ _
      · exact haltKept_arm (fun _ => rfl) fun _ => rfl
      · exact kept_of_sparesArm (by split <;> rfl) e he

theorem only_present (f : Nat) (bs : Bytes) (poll : Bool) : Only haltKept (present f bs poll) := fun s =>
  kept_of_sparesArm (by cases poll <;> rfl)

theorem haltKept_endTurn (f : Nat) : haltKept (endTurn f) := haltKept_arm (fun _ => rfl) fun _ => rfl

theorem only_respond (k : Svc) (st : Nat) (bs : Bytes) (t : Nat) : Only haltKept (respond k st bs t) := fun s e he => by
  unfold respond at he
  split at he
  · simp only [List.mem_append, List.mem_cons, List.not_mem_nil, or_false] at he
    obtain ((rfl | rfl) | he) | rfl := he
    · exact haltKept_of_sparesArm rfl
    · exact haltKept_effMbx _ _
    · exact only_present _ _ _ s e he
    · exact haltKept_endTurn _
  · simp only [List.mem_cons, List.not_mem_nil, or_false] at he
    obtain rfl | rfl | rfl := he
    · exact haltKept_of_sparesArm rfl
    · exact haltKept_of_sparesArm rfl
    · exact haltKept_endTurn _

/-! ### Work that is dropped -/

theorem spares_endList (h : Nat) (engines : List Nat) (st bytes : Nat) : (countEnd h engines st bytes ++ failEvents st ++
    ((engines.head?.map fun e => Eff.raise (144 + e)).toList)).all sparesArm = true := by
  simp only [List.all_append, Bool.and_eq_true]
  refine ⟨⟨?_, ?_⟩, ?_⟩
  · unfold countEnd
    split <;> rfl
  · unfold failEvents
    split
    · rfl
    · split
      · rfl
      · split <;> rfl
  · cases engines.head? <;> rfl

theorem sparesArm_ringWrite (a : Nat) (bs : Bytes) : sparesArm (ringWrite a bs) = true := by
  unfold ringWrite
  split <;> rfl

theorem spares_putSlot (h : Nat) (j : CastJob) (st valid frameSeq : Nat) : (putSlot h j st valid frameSeq fun _ => []).all sparesArm = true := by
  have hend := spares_endList h j.engines st valid
  simp only [List.all_append, Bool.and_eq_true] at hend
  obtain ⟨⟨hcount, hfail⟩, hraise⟩ := hend
  simp only [putSlot, List.all_append, List.all_cons, List.all_nil, sparesArm_ringWrite, hcount, hfail, hraise, Bool.and_true, Bool.and_self]
  rfl

theorem only_endRun (h : Nat) (j : CastJob) (r : CastRun) (st valid frames : Nat) : Only haltKept (endRun h j r st valid frames) := by
  refine .cons (fun _ => kept_of_sparesArm ?_) ((only_completeTicket _ _ _ _).cons .nil)
  rw [eff, List.all_append, List.all_append, spares_endList, Bool.true_and, Bool.and_eq_true]
  exact ⟨all_map_of_forall fun _ _ => rfl, rfl⟩

theorem only_abortJob (h : Nat) : Only haltKept (abortJob h) := fun s => by
  unfold abortJob
  split
  · exact kept_of_sparesArm rfl
  · split
    · split
      · exact kept_of_sparesArm rfl
      · exact only_endRun _ _ _ _ _ _ s
    · split
      · split
        · exact kept_of_sparesArm rfl
        · exact kept_of_sparesArm (by rw [List.all_append, spares_putSlot]; rfl)
      · split
        · exact kept_of_sparesArm rfl
        · exact kept_of_sparesArm (by rw [List.all_append, spares_putSlot]; rfl)

theorem only_endOpening (h : Nat) (p : Playback) (st : Nat) : Only haltKept (endOpening h p st) := by
  unfold endOpening
  split
  · exact only_of_sparesArm fun _ => rfl
  · exact (only_completeTicket _ _ _ _).cons (.cons (.ite (only_of_sparesArm fun _ => rfl) (only_of_sparesArm fun _ => rfl))
      (.cons (only_of_sparesArm fun _ => rfl) .nil))

theorem only_dropReservation (f ticket : Nat) : Only haltKept (dropReservation f ticket) := fun s => by
  unfold dropReservation
  split
  · exact kept_of_sparesArm rfl
  · exact (Only.cons (only_of_sparesArm fun _ => rfl) (.cons (only_of_sparesArm fun _ => rfl) .nil)) s

theorem only_rebind (cold : Bool) : Only haltKept (rebind cold) := fun s => by
  unfold rebind
  split
  · exact kept_of_sparesArm rfl
  · exact kept_of_sparesArm rfl

theorem only_swapTicketDone (st : Nat) (bs : Bytes) : Only haltKept (swapTicketDone st bs) := fun s => by
  unfold swapTicketDone
  split
  · exact (Only.cons (only_of_sparesArm fun _ => rfl) ((only_completeTicket _ _ _ _).cons .nil)) s
  · exact kept_of_sparesArm rfl

theorem only_swapAbort : Only haltKept swapAbort := fun s => by
  unfold swapAbort
  split
  · exact kept_of_sparesArm rfl
  · exact (Only.cons (only_of_sparesArm fun _ => rfl) (.cons (.ite (only_of_sparesArm fun _ => rfl) (only_rebind true))
      ((only_swapTicketDone _ _).cons .nil))) s

theorem kept_dropCommit (f : Nat) (s : State) : ∀ e ∈ (match s.arm.commits.find f with
    | some c => Eff.arm (fun a => { a with commits := a.commits.del f }) :: (if stagesKind c.items K_SWITCH then [startSync] else [])
    | none => []), haltKept e := by
  split
  · refine List.forall_mem_cons.mpr ⟨haltKept_arm (fun _ => rfl) fun _ => rfl, kept_of_sparesArm ?_⟩
    split <;> rfl
  · exact kept_of_sparesArm rfl

/-- The work of each opcode that an abort or a recovery drops leaves the halt. -/
theorem only_dropWork (f : Nat) (t : Ticket) : Only haltKept (dropWork f t) := fun s => by
  unfold dropWork
  split
  · exact kept_dropCommit f s
  · exact kept_of_sparesArm (all_map_of_forall fun _ _ => rfl)
  · exact kept_of_sparesArm (all_map_of_forall fun _ _ => rfl)
  · exact Only.actsFor (fun e : Nat × CastJob => only_abortJob e.1) s
  · exact kept_of_sparesArm (all_flatMap_of_forall fun _ _ => by split <;> rfl)
  · exact kept_of_sparesArm rfl
  · exact kept_of_sparesArm (by split <;> rfl)
  · exact kept_of_sparesArm rfl
  · refine kept_of_sparesArm ?_
    dsimp only
    rw [List.all_append, Bool.and_eq_true]
    exact ⟨spares_ite rfl, spares_ite rfl⟩
  · exact kept_of_sparesArm (all_map_of_forall fun _ _ => rfl)
  · exact kept_of_sparesArm (all_map_of_forall fun _ _ => rfl)
  · exact kept_of_sparesArm (all_map_of_forall fun _ _ => rfl)
  · exact kept_of_sparesArm (all_map_of_forall fun _ _ => rfl)
  · exact kept_of_sparesArm rfl
  · exact kept_of_sparesArm rfl
  · exact kept_of_sparesArm rfl
  · exact Only.actsFor (fun e : Nat × Playback => only_endOpening e.1 e.2 ST_ABORTED) s
  · exact only_dropReservation _ _ s
  · exact kept_of_sparesArm rfl
  · exact kept_of_sparesArm rfl
  · exact kept_of_sparesArm rfl
  · split
    · exact only_swapAbort s
    · exact kept_of_sparesArm rfl
  · exact kept_of_sparesArm rfl

theorem only_cancelTicket (f st : Nat) (t : Ticket) : Only haltKept (cancelTicket f st t) := fun s =>
  ((only_dropWork f t).cons ((only_completeTicket f t.id st (unmadeResult s f t)).cons .nil)) s

theorem only_answerLost (f : Nat) (c : Cmd) : Only haltKept (answerLost f c) :=
  .cons (fun _ => List.forall_mem_cons.mpr ⟨haltKept_of_sparesArm rfl, List.forall_mem_cons.mpr ⟨haltKept_effMbx _ _, fun _ h => nomatch h⟩⟩)
    ((only_respond _ _ _ _).cons .nil)

/-- R798: settling what a halt cut off ends no halt and chooses no image. -/
theorem only_settleLost : Only haltKept settleLost := by
  refine .cons (fun s => ?_) (.cons (fun s => Only.actsFor (fun e : Nat × Cmd => only_answerLost e.1 e.2) s)
    (.cons (fun s => Only.actsFor (fun e : Nat × Ticket => only_cancelTicket e.1 ST_BUSY_RECOVERING e.2) s) .nil))
  split
  · exact kept_of_sparesArm rfl
  · exact (Only.cons (only_of_sparesArm fun _ => rfl) (.cons (.ite (only_answerLost _ _) (only_respond _ _ _ _)) .nil)) s

theorem spares_mailboxesResume : Every sparesArm mailboxesResume := fun _ => all_map_of_forall fun _ _ => rfl

/-! ### The halt -/

/-- The first effects of a resumption: the halt ends with a slot. -/
def resumeEffects (slotB : Bool) (ms : Nat) (s : State) : List Eff :=
  [.arm (fun a => { a with halted := false, slotB := slotB }), plinthFld Fld.FLT_PLINTH.RECOVERING 0,
    .fld Reg.HUB_BOOT Fld.HUB_BOOT.IMG_SLOT (if slotB then 1 else 0)] ++
  (if s.arm.cause != 4 then [.prm Prm.PLN_LAST_MS (w32 ms)] else [])

/-- What follows them. -/
def resumeRest (s : State) : Act :=
  acts [restoreBootPrms, if s.arm.serving then acts [settleLost, mailboxesResume, eff [.raise 68]] else eff []]

theorem resumeService_eq (slotB : Bool) (ms : Nat) (s : State) :
    resumeService slotB ms s = acts [eff (resumeEffects slotB ms s), resumeRest s] s := by
  simp only [resumeService, resumeRest, resumeEffects, acts, Act.seq, List.append_nil]

theorem only_resumeRest (s : State) : Only haltKept (resumeRest s) :=
  .cons (only_of_sparesArm fun _ => all_map_of_forall fun _ _ => rfl)
    (.cons (.ite (only_settleLost.cons (.cons (only_of_sparesArm spares_mailboxesResume) (.cons (only_of_sparesArm fun _ => rfl) .nil)))
      (only_of_sparesArm fun _ => rfl)) .nil)

theorem arm_resumeEffects (slotB : Bool) (ms : Nat) (s : State) :
    (applyAll (resumeEffects slotB ms s) s).arm = { s.arm with halted := false, slotB := slotB } := by
  rw [resumeEffects, applyAll_append, (agree_applyAll _ _).arm (by split <;> rfl)]
  rfl

theorem run_resumeService (slotB : Bool) (ms : Nat) (s : State) :
    ((resumeService slotB ms).run s).arm.halted = false ∧ ((resumeService slotB ms).run s).arm.slotB = slotB := by
  obtain ⟨hhalt, hslot⟩ := run_of_only (only_resumeRest s) (applyAll (resumeEffects slotB ms s) s)
  rw [run_congr (resumeService_eq slotB ms s), run_acts_cons, run_acts_cons, run_acts_nil, run_eff, hhalt, hslot, arm_resumeEffects]
  exact ⟨rfl, rfl⟩

/-- The effects with which a halt takes hold, and those with which a recovery begins. -/
def haltEffects (cause ev : Nat) : List Eff := .raise ev :: mailboxesWait ++ [.arm fun a => { a with halted := true, cause := cause }]

def recoveryEffects (n now : Nat) (recent : List Nat) : List Eff :=
  [.flt (fun x => { x with recoveries := recent ++ [now] }), plinthFld Fld.FLT_PLINTH.RECOVERING 1,
    plinthFld Fld.FLT_PLINTH.RECENT (min 15 (n + 1)), .inc Reg.FLT_PLINTH Fld.FLT_PLINTH.RECOVERIES 1, .count Prm.PLN_RECOVERIES 1]

theorem haltArmature_of_first {cause ev : Nat} {s : State} (hw : watched s = true) (hrecent : recentRecoveries s = [])
    (hmax : 0 < s.pn Prm.PLN_RECOVERY_MAX) : haltArmature cause ev s = acts [eff (haltEffects cause ev),
      acts [eff (recoveryEffects 0 s.uptime []), pushHist cause, nvsRecord 5 (leBytes 1 cause)]] s := by
  have hgive : ¬ s.pn Prm.PLN_RECOVERY_MAX ≤ 0 := Nat.not_le.mpr hmax
  simp only [haltArmature, hw, hrecent, List.length_nil, hgive, Bool.not_true, Bool.false_eq_true, if_false, haltEffects, recoveryEffects]

theorem reaches_pushHist (cause : Nat) : Every (reaches [.prms]) (pushHist cause) := fun _ =>
  (Bool.and_eq_true _ _).mpr ⟨rfl, all_map_of_forall fun _ _ => rfl⟩

theorem reaches_nvsRecord (kind : Nat) (data : Bytes) : Every (reaches [.nvs, .regs]) (nvsRecord kind data) := fun _ => rfl

theorem keepsEvt_mailboxesWait : mailboxesWait.all keepsEvt = true :=
  all_map_of_forall fun f _ => by simp [keepsEvt, eventWord_mbxState]

theorem reaches_mailboxesWait : mailboxesWait.all (reaches [.regs]) = true := all_map_of_forall fun _ _ => rfl

/-- What the first halt within the window leaves (R85, R86). -/
theorem run_haltArmature_of_first {cause ev : Nat} {s : State} (hev : evtReserved ev = false) (hw : watched s = true)
    (hrecent : recentRecoveries s = []) (hmax : 0 < s.pn Prm.PLN_RECOVERY_MAX) :
    let t := (haltArmature cause ev).run s
    t.arm.halted = true ∧ t.arm.cause = cause ∧ t.evt ev = true ∧ t.flt.recoveries = [s.uptime] ∧ t.devMem = s.devMem ∧
      t.pageMem = s.pageMem := by
  have hhist := reaches_pushHist cause
  have hrec := reaches_nvsRecord 5 (leBytes 1 cause)
  have hhistEvt : Every keepsEvt (pushHist cause) := fun _ => (Bool.and_eq_true _ _).mpr ⟨rfl, all_map_of_forall fun _ _ => rfl⟩
  have hrecEvt : Every keepsEvt (nvsRecord 5 (leBytes 1 cause)) := fun _ => rfl
  have hhalt : Agree (among [.regs, .out, .arm]) s (applyAll (haltEffects cause ev) s) := agree_of_reaches (by
    rw [haltEffects, List.all_append, List.all_cons, Bool.and_eq_true, Bool.and_eq_true]
    exact ⟨⟨rfl, reaches_of_subset (by decide) reaches_mailboxesWait⟩, rfl⟩) s
  have harm : (applyAll (haltEffects cause ev) s).arm = { s.arm with halted := true, cause := cause } := by
    rw [haltEffects, applyAll_append]
    show { (applyAll _ s).arm with halted := true, cause := cause } = _
    rw [applyAll_cons, (agree_of_reaches reaches_mailboxesWait _).arm rfl, (agree_apply _ _).arm rfl]
  dsimp only
  rw [run_congr (haltArmature_of_first hw hrecent hmax)]
  simp only [run_acts_cons, run_acts_nil, run_eff]
  refine ⟨?_, ?_, ?_, ?_, ?_, ?_⟩
  · rw [(hrec.agree _).arm rfl, (hhist.agree _).arm rfl, (agree_applyAll _ _).arm rfl, harm]
  · rw [(hrec.agree _).arm rfl, (hhist.agree _).arm rfl, (agree_applyAll _ _).arm rfl, harm]
  · refine hrecEvt.evt hev (hhistEvt.evt hev (evt_applyAll_of_keeps hev rfl (evt_applyAll_of_raise hev ?_ (by simp [haltEffects]) s)))
    simp [haltEffects, keepsEvt_mailboxesWait, keepsEvt]
  · rw [(hrec.agree _).flt rfl, (hhist.agree _).flt rfl]
    rfl
  · rw [(hrec.agree _).devMem rfl, (hhist.agree _).devMem rfl, (agree_applyAll _ _).devMem rfl, hhalt.devMem rfl]
  · rw [(hrec.agree _).pageMem rfl, (hhist.agree _).pageMem rfl, (agree_applyAll _ _).pageMem rfl, hhalt.pageMem rfl]

theorem haltArmature_of_unwatched {s : State} (h : watched s = false) (cause ev : Nat) : haltArmature cause ev s = [] := by
  simp [haltArmature, h]

/-! ### The end of a recovery -/

theorem actArmatureRecovered_of_ok {firstOk : Bool} {ms : Nat} {s : State} (hdead : s.arm.dead = false) (hhalt : s.arm.halted = true) :
    actArmatureRecovered true firstOk ms s = resumeService (bootOrder s).1 ms s := by
  simp [actArmatureRecovered, hdead, hhalt]

theorem actArmatureRecovered_of_failed {ms : Nat} {s : State} (hdead : s.arm.dead = false) (hhalt : s.arm.halted = true) :
    actArmatureRecovered false false ms s = acts [pushHist 3, eff [plinthFld Fld.FLT_PLINTH.RECOVERING 0], armatureDead] s := by
  simp [actArmatureRecovered, hdead, hhalt]

/-- R88, R712: the Armature is given up. -/
theorem run_armatureDead (s : State) : (armatureDead.run s).arm.dead = true ∧ (armatureDead.run s).arm.halted = true := by
  have hresume : Every (reaches [.regs]) mailboxesResume := fun _ => all_map_of_forall fun _ _ => rfl
  rw [armatureDead, run_acts_cons, run_acts_cons, run_acts_nil, (hresume.agree _).arm rfl]
  exact ⟨rfl, rfl⟩

/-- Settles O14: the halt by its effects; the resumption settles what was lost, and that leaves the halt. -/
theorem armatureFails : Obligations.ArmatureFails := by
  refine ⟨fun s hw _ hrecent hmax => ⟨_, rfl, run_haltArmature_of_first (by decide) hw hrecent hmax⟩,
    fun s hw _ hrecent hmax => ⟨_, rfl, run_haltArmature_of_first (by decide) hw hrecent hmax⟩, fun s hw => ⟨?_, ?_⟩,
    fun firstOk ms s hdead hhalt => ⟨(actArmatureRecovered true firstOk ms).run s, rfl, ?_⟩,
    fun ms s hdead hhalt => ⟨(actArmatureRecovered false false ms).run s, rfl, ?_⟩⟩
  · show (haltArmature 1 67).outcome s = _
    rw [Act.outcome_eq, haltArmature_of_unwatched hw, applyAll_nil]
  · show (haltArmature 2 66).outcome s = _
    rw [Act.outcome_eq, haltArmature_of_unwatched hw, applyAll_nil]
  · rw [run_congr (actArmatureRecovered_of_ok hdead hhalt)]
    exact run_resumeService ..
  · rw [run_congr (actArmatureRecovered_of_failed hdead hhalt), run_acts_cons, run_acts_cons, run_acts_cons, run_acts_nil]
    exact run_armatureDead _

/-! ### Aborts -/

section
variable {f : Fn}

theorem covers_abt_queued : covers (regMask (Reg.ABT_CTRL f)) Fld.ABT_CTRL.QUEUED = true :=
  covers_word (b := 0xA0000) (st := 4) (c := 64) (by decide +kernel) f.isLt

theorem covers_abt_done : covers (regMask (Reg.ABT_CTRL f)) Fld.ABT_CTRL.DONE = true :=
  covers_word (b := 0xA0000) (st := 4) (c := 64) (by decide +kernel) f.isLt

theorem covers_abt_busy : covers (regMask (Reg.ABT_CTRL f)) Fld.ABT_CTRL.BUSY = true :=
  covers_word (b := 0xA0000) (st := 4) (c := 64) (by decide +kernel) f.isLt

theorem covers_abt_result : covers (regMask (Reg.ABT_CTRL f)) Fld.ABT_CTRL.RESULT = true :=
  covers_word (b := 0xA0000) (st := 4) (c := 64) (by decide +kernel) f.isLt

theorem eventWord_abtCtrl (n : Nat) : eventWord (Reg.ABT_CTRL n) = false := eventWord_of_gt (by unfold Reg.ABT_CTRL; omega)

theorem actAbtGo_of_idle {writer : Fn} {v : Word} {s : State} (hw : writer.val = 0 ∨ writer = f) (hgo : getFld v Fld.ABT_CTRL.GO = 1)
    (hnone : s.arm.aborts.find f = none) : actAbtGo writer f v s = acts [eff [.reg (Reg.ABT_CTRL f) (hostWord s (Reg.ABT_CTRL f) v)],
      startAbort f (getFld v Fld.ABT_CTRL.TARGET) (getFld v Fld.ABT_CTRL.INDEX) false] s := by
  have hrefuse : ¬ ((writer.val ≠ 0 ∧ writer ≠ f) ∨ getFld v Fld.ABT_CTRL.GO = 0) := by
    rw [hgo]
    rintro (⟨hne, hne'⟩ | h)
    · exact hw.elim hne hne'
    · exact absurd h one_ne_zero
  simp only [actAbtGo, if_neg hrefuse, hnone]

/-- R126: a second abort waits. -/
theorem actAbtGo_of_running {writer : Fn} {v : Word} {a : Abort} {s : State} (hw : writer.val = 0 ∨ writer = f)
    (hgo : getFld v Fld.ABT_CTRL.GO = 1) (ha : s.arm.aborts.find f = some a) (hq : a.queued = none) :
    actAbtGo writer f v s = [.reg (Reg.ABT_CTRL f) (hostWord s (Reg.ABT_CTRL f) v), .fld (Reg.ABT_CTRL f) Fld.ABT_CTRL.QUEUED 1,
      .arm fun x => { x with aborts := x.aborts.put f { a with queued := some (getFld v Fld.ABT_CTRL.TARGET, getFld v Fld.ABT_CTRL.INDEX) } }] := by
  have hrefuse : ¬ ((writer.val ≠ 0 ∧ writer ≠ f) ∨ getFld v Fld.ABT_CTRL.GO = 0) := by
    rw [hgo]
    rintro (⟨hne, hne'⟩ | h)
    · exact hw.elim hne hne'
    · exact absurd h one_ne_zero
  simp only [actAbtGo, if_neg hrefuse, ha, hq, Option.isSome_none, Bool.false_eq_true, if_false]
  rfl

theorem run_abtGo_of_running {writer : Fn} {v : Word} {a : Abort} {s : State} (hw : writer.val = 0 ∨ writer = f)
    (hgo : getFld v Fld.ABT_CTRL.GO = 1) (ha : s.arm.aborts.find f = some a) (hq : a.queued = none) :
    let t := (actAbtGo writer f v).run s
    t.flag (Reg.ABT_CTRL f) Fld.ABT_CTRL.QUEUED = true ∧
      (t.arm.aborts.find f).bind (·.queued) = some (getFld v Fld.ABT_CTRL.TARGET, getFld v Fld.ABT_CTRL.INDEX) ∧ sameStores s t := by
  dsimp only
  rw [Act.run_eq, actAbtGo_of_running hw hgo ha hq]
  refine ⟨?_, ?_, applyAll_sameStores rfl s⟩
  · rw [applyAll_cons, applyAll_cons, applyAll_cons, applyAll_nil, flag_apply rfl, flag_fld_same covers_abt_queued rfl]
    rfl
  · have hfind : ∀ m : FMap Abort, ((m.put f { a with queued := some (getFld v Fld.ABT_CTRL.TARGET, getFld v Fld.ABT_CTRL.INDEX) }).find f).bind
        (·.queued) = some (getFld v Fld.ABT_CTRL.TARGET, getFld v Fld.ABT_CTRL.INDEX) := fun m => by rw [FMap.find_put_same]; rfl
    exact hfind _

/-- The effects of the end of an abort with none queued; late where the 2 ms ran out. -/
def finishEffects (f : Nat) (late : Bool) (result : Nat) : List Eff :=
  [.fld (Reg.ABT_CTRL f) Fld.ABT_CTRL.RESULT result, .fld (Reg.ABT_CTRL f) Fld.ABT_CTRL.DONE 1, .fld (Reg.ABT_CTRL f) Fld.ABT_CTRL.BUSY 0,
    .fld (Reg.ABT_CTRL f) Fld.ABT_CTRL.GO 0, .arm fun x => { x with aborts := x.aborts.del f }] ++ (raiseIf late 65 ++ [.raise f, .raise 64])

theorem finishAbort_of_last {late : Bool} {a : Abort} {s : State} (ha : s.arm.aborts.find f = some a) (hq : a.queued = none)
    (hr : a.reset = false) : finishAbort f late s = finishEffects f late a.result := by
  simp only [finishAbort, ha, hq, hr, Bool.false_eq_true, if_false, acts, Act.seq, eff, List.append_nil, finishEffects, List.append_assoc]

theorem keepsEvt_finishEffects (late : Bool) (result : Nat) : (finishEffects f late result).all keepsEvt = true := by
  cases late <;> simp [finishEffects, raiseIf, keepsEvt, eventWord_abtCtrl]

/-- The events with which an abort ends leave its register. -/
theorem rd_finishRaises (late : Bool) (s : State) :
    (applyAll (raiseIf late 65 ++ [.raise f, .raise 64]) s).rd (Reg.ABT_CTRL f) = s.rd (Reg.ABT_CTRL f) :=
  rd_applyAll_of_spares (by cases late <;> simp [raiseIf, sparesReg, eventWord_abtCtrl]) s

theorem evtReserved_fn (f : Fn) : evtReserved f = false := by
  obtain ⟨n, hn⟩ := f
  revert n
  decide +kernel

/-- What the end of an abort leaves (R122). -/
theorem run_finishAbort_of_last {late : Bool} {a : Abort} {s : State} (ha : s.arm.aborts.find f = some a) (hq : a.queued = none)
    (hr : a.reset = false) :
    let t := (finishAbort f late).run s
    t.arm.aborts.find f = none ∧ t.flag (Reg.ABT_CTRL f) Fld.ABT_CTRL.DONE = true ∧ t.flag (Reg.ABT_CTRL f) Fld.ABT_CTRL.BUSY = false ∧
      t.fld (Reg.ABT_CTRL f) Fld.ABT_CTRL.RESULT = a.result % 4 ∧ t.evt f = true ∧ (late = true → t.evt 65 = true) ∧ t.evt 64 = true ∧
      sameStores s t := by
  have hraises : (raiseIf late 65 ++ [Eff.raise f, .raise 64]).all (reaches [.regs, .out]) = true := by cases late <;> rfl
  have hkeeps := keepsEvt_finishEffects (f := f) late a.result
  dsimp only
  rw [Act.run_eq, finishAbort_of_last ha hq hr]
  have hword := rd_finishRaises (f := f) late (applyAll [.fld (Reg.ABT_CTRL f) Fld.ABT_CTRL.RESULT a.result,
    .fld (Reg.ABT_CTRL f) Fld.ABT_CTRL.DONE 1, .fld (Reg.ABT_CTRL f) Fld.ABT_CTRL.BUSY 0, .fld (Reg.ABT_CTRL f) Fld.ABT_CTRL.GO 0,
    .arm fun x => { x with aborts := x.aborts.del f }] s)
  rw [← applyAll_append, ← finishEffects] at hword
  refine ⟨?_, ?_, ?_, ?_, ?_, fun hlate => ?_, ?_, ?_⟩
  · have hdel : ∀ m : FMap Abort, (m.del f).find f = none := fun m => FMap.find_del_same ..
    rw [finishEffects, applyAll_append, (agree_of_reaches hraises _).arm rfl]
    exact hdel _
  · rw [flag_of_rd hword]
    simp only [applyAll_cons, applyAll_nil]
    rw [flag_apply rfl, flag_fld_other (by decide) covers_abt_done (by decide), flag_fld_other (by decide) covers_abt_done (by decide),
      flag_fld_same covers_abt_done rfl]
    rfl
  · rw [flag_of_rd hword]
    simp only [applyAll_cons, applyAll_nil]
    rw [flag_apply rfl, flag_fld_other (by decide) covers_abt_busy (by decide), flag_fld_same covers_abt_busy rfl]
    rfl
  · rw [fld_of_rd hword]
    simp only [applyAll_cons, applyAll_nil]
    rw [fld_apply rfl, fld_fld_other _ _ _ _ _ (by decide) covers_abt_result (by decide),
      fld_fld_other _ _ _ _ _ (by decide) covers_abt_result (by decide), fld_fld_other _ _ _ _ _ (by decide) covers_abt_result (by decide),
      fld_fld_same _ _ _ _ covers_abt_result]
    rfl
  · exact evt_applyAll_of_raise (evtReserved_fn f) hkeeps (by simp [finishEffects]) s
  · exact evt_applyAll_of_raise (by decide) hkeeps (by simp [finishEffects, raiseIf, hlate]) s
  · exact evt_applyAll_of_raise (by decide) hkeeps (by simp [finishEffects]) s
  · rw [finishEffects, applyAll_append]
    exact sameStores_trans (applyAll_sameStores rfl s) ((agree_of_reaches hraises _).sameStores rfl rfl rfl rfl rfl rfl)

end

/-- Settles O15: GO by what the sequencer holds, the end of an abort by its effects. -/
theorem aborts : Obligations.Aborts := by
  refine ⟨fun writer f v s hw hgo hnone => ⟨(actAbtGo writer f v).run s, rfl, ?_⟩,
    fun writer f v a s hw hgo ha hq => ⟨_, rfl, run_abtGo_of_running hw hgo ha hq⟩, fun writer f v s hne hne' => ?_,
    fun f a s ha hq hr => ?_, fun f a s ha hq hr => ?_⟩
  · rw [run_congr (actAbtGo_of_idle hw hgo hnone), run_acts_cons, run_acts_cons, run_acts_nil, run_eff]
  · show (actAbtGo writer f v).outcome s = _
    rw [Act.outcome_eq, actAbtGo, if_pos (.inl ⟨hne, hne'⟩), applyAll_nil]
  · obtain ⟨hfind, hdone, hbusy, hresult, hown, -, h64, hstores⟩ := run_finishAbort_of_last (late := false) ha hq hr
    exact ⟨_, rfl, hfind, hdone, hbusy, hresult, hown, h64, hstores⟩
  · obtain ⟨hfind, hdone, -, -, hown, h65, h64, hstores⟩ := run_finishAbort_of_last (late := true) ha hq hr
    exact ⟨_, rfl, hfind, hdone, hown, h65 rfl, h64, hstores⟩

end Sys2Proof.RecoveryRows
end

section
/-! Windows of the pace monitors, samples of the housekeeping orbit and conversions on demand (chapters 02 and 22). -/
open Sys2Proof Sys2Proof.Machine Sys2Proof.Reads Sys2Proof.ServiceTurn Sys2Proof.Tickets Sys2Proof.Turns Sys2Proof.Basics Sys2Proof.Spans
open Sys2Proof.Camera Sys2Proof.Streams Sys2Proof.Wall Sys2Proof.HostRows

-- Proofs that wait side by side for the kernel would not fit into the memory of one compile.
set_option Elab.async false

namespace Sys2Proof.Samples

/-! ### Fields of the registers -/

theorem covers_pace_valid (p : Fin 2176) : covers (regMask (Reg.THM_PACE_UNIT p)) Fld.THM_PACE_UNIT.VALID = true :=
  covers_word (b := 0xF2000) (st := 4) (c := 2176) (by decide +kernel) p.isLt

theorem covers_chan_value {ch : Nat} (h : ch < 216) : covers (regMask (Reg.THM_CHAN ch)) Fld.THM_CHAN.VALUE = true :=
  covers_word (b := 0xF0400) (st := 4) (c := 216) (by decide +kernel) h

theorem covers_chan_valid {ch : Nat} (h : ch < 216) : covers (regMask (Reg.THM_CHAN ch)) Fld.THM_CHAN.VALID = true :=
  covers_word (b := 0xF0400) (st := 4) (c := 216) (by decide +kernel) h

theorem covers_conv_go : covers (regMask Reg.THM_CONV) Fld.THM_CONV.GO = true := by decide +kernel
theorem covers_conv_pending : covers (regMask Reg.THM_CONV) Fld.THM_CONV.PENDING = true := by decide +kernel
theorem covers_conv_overrun : covers (regMask Reg.THM_CONV) Fld.THM_CONV.OVERRUN = true := by decide +kernel
theorem covers_conv_done : covers (regMask Reg.THM_CONV) Fld.THM_CONV.DONE = true := by decide +kernel
theorem covers_result_value : covers (regMask Reg.THM_CONV_RESULT) Fld.THM_CONV_RESULT.VALUE = true := by decide +kernel
theorem covers_result_channel : covers (regMask Reg.THM_CONV_RESULT) Fld.THM_CONV_RESULT.CHANNEL = true := by decide +kernel

/-- A field of a word built of numbers. -/
theorem getFld_w32 (n : Nat) (f : Fld) : getFld (w32 n) f = n % 2 ^ 32 / 2 ^ f.lo % 2 ^ (f.hi + 1 - f.lo) := by
  rw [getFld, w32, BitVec.toNat_ofNat]
  rfl

/-! ### Pace monitors -/

theorem actPaceWindowEnd_of_powered {p : Fin 2176} {rate : Nat} {s : State} (hin : s.boot.excluded.contains (p / 544) = false)
    (hpower : slotPowered s p = true) : actPaceWindowEnd p rate s = acts [
      eff [.reg (Reg.THM_PACE_UNIT p) (w32 (2 ^ 31 + rate % 65536)),
        .thm fun x => { x with unitTemp := x.unitTemp.put p.val (unitTempOf s p (rate % 65536) + 1024).toNat }],
      if degC 115 ≤ unitTempOf s p (rate % 65536) then acts [thermalShutdown p (unitTempOf s p (rate % 65536)), swapAbort] else eff [],
      hotChecks (256 + p) (unitTempOf s p (rate % 65536))] s := by
  simp only [actPaceWindowEnd, hin, hpower, Bool.not_true, Bool.false_eq_true, or_self, if_false]

theorem run_paceWindowEnd_of_down {p : Fin 2176} {rate : Nat} {s : State} (hpower : slotPowered s p = false) :
    let t := (actPaceWindowEnd p rate).run s
    t.flag (Reg.THM_PACE_UNIT p) Fld.THM_PACE_UNIT.VALID = false ∧ (∀ a, a ≠ Reg.THM_PACE_UNIT p → t.rd a = s.rd a) ∧ sameStores s t ∧
      t.out = s.out := by
  have hact : actPaceWindowEnd p rate s = [.fld (Reg.THM_PACE_UNIT p) Fld.THM_PACE_UNIT.VALID 0] := by
    simp only [actPaceWindowEnd, hpower, Bool.not_false, or_true, if_true]
  dsimp only
  rw [Act.run_eq, hact]
  refine ⟨?_, fun a ha => rd_fld_ne ha _ _ s, applyAll_sameStores rfl s, (agree_applyAll _ s).out rfl⟩
  rw [applyAll_cons, applyAll_nil, flag_fld_same (covers_pace_valid p) rfl]
  rfl

/-! ### Samples -/

/-- The rail currents are sampled as they read. -/
theorem sampleChan_of_current {ch : Nat} (hlo : 212 ≤ ch) (hhi : ch < 216) (value : Nat) : sampleChan ch value = eff [chanPut ch value false] := by
  rw [sampleChan, if_neg (by omega), if_neg (by omega), if_neg (by omega), if_neg (by omega), if_pos hhi]

theorem fld_chanPut_value {ch : Nat} (h : ch < 216) (value : Nat) (s : State) :
    ((chanPut ch value false).apply s).fld (Reg.THM_CHAN ch) Fld.THM_CHAN.VALUE = value % 65536 := by
  rw [chanPut, fld_reg_same (covers_chan_value h), getFld_w32]
  simp only [Fld.THM_CHAN.VALUE, Bool.false_eq_true, if_false]
  omega

theorem flag_chanPut_valid {ch : Nat} (h : ch < 216) (value : Nat) (s : State) :
    ((chanPut ch value false).apply s).flag (Reg.THM_CHAN ch) Fld.THM_CHAN.VALID = true := by
  rw [State.flag, chanPut, fld_reg_same (covers_chan_valid h), getFld_w32]
  simp only [Fld.THM_CHAN.VALID, Bool.false_eq_true, if_false, beq_iff_eq]
  omega

theorem actHkSample_of_current {value ch : Nat} {s : State} (hboot : 2 ≤ s.fld Reg.HUB_BOOT Fld.HUB_BOOT.STATE) (hnext : s.thm.nextChan = ch)
    (hlo : 212 ≤ ch) (hhi : ch < 216) : actHkSample value s = [chanPut ch value false, .thm fun t => { t with nextChan := ch + 1 }] := by
  have hch : ch % 256 = ch := Nat.mod_eq_of_lt (by omega)
  have hnext' : (ch + 1) % 256 = ch + 1 := Nat.mod_eq_of_lt (by omega)
  have hmean (u : State) : meanVcore ch u = [] := by rw [meanVcore, if_pos (by omega)]
  have hlast : ch ≠ 255 := by omega
  simp only [actHkSample, Nat.not_lt.mpr hboot, hnext, hch, hnext', sampleChan_of_current hlo hhi, hlast, if_false, acts, Act.seq, hmean, eff,
    List.append_nil, List.nil_append, List.cons_append]

/-- What a sample of a rail current leaves (R733). -/
theorem run_hkSample_of_current {value ch : Nat} {s : State} (hboot : 2 ≤ s.fld Reg.HUB_BOOT Fld.HUB_BOOT.STATE) (hnext : s.thm.nextChan = ch)
    (hlo : 212 ≤ ch) (hhi : ch < 216) :
    let t := (actHkSample value).run s
    t.fld (Reg.THM_CHAN ch) Fld.THM_CHAN.VALUE = value % 65536 ∧ t.flag (Reg.THM_CHAN ch) Fld.THM_CHAN.VALID = true ∧ t.thm.nextChan = ch + 1 ∧
      (∀ a, a ≠ Reg.THM_CHAN ch → t.rd a = s.rd a) ∧ sameStores s t ∧ t.prms = s.prms := by
  dsimp only
  rw [Act.run_eq, actHkSample_of_current hboot hnext hlo hhi]
  refine ⟨?_, ?_, rfl, fun a ha => ?_, applyAll_sameStores rfl s, (agree_applyAll _ s).prms rfl⟩
  · rw [applyAll_cons, applyAll_cons, applyAll_nil, fld_apply rfl, fld_chanPut_value hhi]
  · rw [applyAll_cons, applyAll_cons, applyAll_nil, flag_apply rfl, flag_chanPut_valid hhi]
  · rw [applyAll_cons, applyAll_cons, applyAll_nil, rd_apply rfl, chanPut, rd_reg_ne ha]

/-! ### Conversions -/

theorem actThmConv_of_free {v : Word} {s : State} (hgo : getFld v Fld.THM_CONV.GO = 1) (hnone : s.thm.conv = none) : ∃ w, actThmConv v s =
    [.reg Reg.THM_CONV (setFld (setFld w Fld.THM_CONV.GO 1) Fld.THM_CONV.PENDING 1),
      .thm fun t => { t with conv := some (getFld v Fld.THM_CONV.CHANNEL) }] := by
  simp only [actThmConv, hgo, hnone, one_ne_zero, Option.isSome_none, Bool.false_eq_true, if_false]
  exact ⟨_, rfl⟩

theorem actThmConv_of_running {v : Word} {ch : Nat} {s : State} (hgo : getFld v Fld.THM_CONV.GO = 1) (hch : s.thm.conv = some ch) : ∃ w,
    actThmConv v s = [.reg Reg.THM_CONV (setFld w Fld.THM_CONV.OVERRUN 1), .count Prm.THM_CONV_OVERRUNS 1, .raise 238] := by
  simp only [actThmConv, hgo, hch, one_ne_zero, Option.isSome_some, if_false, if_true]
  exact ⟨_, rfl⟩

theorem eventWord_thmConv : eventWord Reg.THM_CONV = false := eventWord_of_gt (by unfold Reg.THM_CONV; omega)

/-- What a conversion that starts leaves (R734). -/
theorem run_thmConv_of_free {v : Word} {s : State} (hgo : getFld v Fld.THM_CONV.GO = 1) (hnone : s.thm.conv = none) :
    let t := (actThmConv v).run s
    t.thm.conv = some (getFld v Fld.THM_CONV.CHANNEL) ∧ t.flag Reg.THM_CONV Fld.THM_CONV.GO = true ∧
      t.flag Reg.THM_CONV Fld.THM_CONV.PENDING = true ∧ (∀ a, a ≠ Reg.THM_CONV → t.rd a = s.rd a) ∧ sameStores s t := by
  obtain ⟨w, hact⟩ := actThmConv_of_free hgo hnone
  dsimp only
  rw [Act.run_eq, hact]
  refine ⟨rfl, ?_, ?_, fun a ha => ?_, applyAll_sameStores rfl s⟩
  · rw [applyAll_cons, applyAll_cons, applyAll_nil, flag_apply rfl, State.flag, fld_reg_same covers_conv_go,
      getFld_setFld_ne (by decide) (by decide) (by decide), getFld_setFld_same (by decide)]
    rfl
  · rw [applyAll_cons, applyAll_cons, applyAll_nil, flag_apply rfl, State.flag, fld_reg_same covers_conv_pending, getFld_setFld_same (by decide)]
    rfl
  · rw [applyAll_cons, applyAll_cons, applyAll_nil, rd_apply rfl, rd_reg_ne ha]

/-- A write of GO while a conversion runs is an overrun. -/
theorem run_thmConv_of_running {v : Word} {ch : Nat} {s : State} (hgo : getFld v Fld.THM_CONV.GO = 1) (hch : s.thm.conv = some ch) :
    let t := (actThmConv v).run s
    t.flag Reg.THM_CONV Fld.THM_CONV.OVERRUN = true ∧ t.evt 238 = true ∧ t.thm.conv = some ch := by
  obtain ⟨w, hact⟩ := actThmConv_of_running hgo hch
  dsimp only
  rw [Act.run_eq, hact]
  refine ⟨?_, evt_applyAll_of_raise (by decide) (by simp [keepsEvt, eventWord_thmConv]) (by simp) s, ?_⟩
  · rw [applyAll_cons, applyAll_cons, applyAll_cons, applyAll_nil, flag_raise eventWord_thmConv, flag_apply rfl, State.flag,
      fld_reg_same covers_conv_overrun, getFld_setFld_same (by decide)]
    rfl
  · rw [(agree_applyAll _ s).thm rfl, hch]

/-- The effects of the end of a conversion after its channel was sampled. -/
def convEffects (ch value : Nat) : List Eff := [
  .reg Reg.THM_CONV_RESULT (w32 (2 ^ 31 + ch % 256 * 2 ^ 16 + value)), .fld Reg.THM_CONV Fld.THM_CONV.GO 0, .fld Reg.THM_CONV Fld.THM_CONV.PENDING 0,
  .fld Reg.THM_CONV Fld.THM_CONV.DONE 1, .thm fun t => { t with conv := none }]

theorem actConvDone_of_current {value ch : Nat} {s : State} (hch : s.thm.conv = some ch) (hlo : 212 ≤ ch) (hhi : ch < 216) :
    actConvDone value s = chanPut ch value false :: convEffects ch (value % 65536) := by
  have hvalue : (applyAll [chanPut ch value false] s).fld (Reg.THM_CHAN ch) Fld.THM_CHAN.VALUE = value % 65536 := fld_chanPut_value hhi value s
  simp only [actConvDone, hch, sampleChan_of_current hlo hhi, acts, Act.seq, eff, hvalue, convEffects, List.append_nil, List.cons_append,
    List.nil_append]

/-- What the end of a conversion leaves (R734). -/
theorem run_convDone_of_current {value ch : Nat} {s : State} (hch : s.thm.conv = some ch) (hlo : 212 ≤ ch) (hhi : ch < 216) :
    let t := (actConvDone value).run s
    t.thm.conv = none ∧ t.flag Reg.THM_CONV Fld.THM_CONV.DONE = true ∧ t.flag Reg.THM_CONV Fld.THM_CONV.GO = false ∧
      t.flag Reg.THM_CONV Fld.THM_CONV.PENDING = false ∧ t.fld Reg.THM_CONV_RESULT Fld.THM_CONV_RESULT.VALUE = value % 65536 ∧
      t.fld Reg.THM_CONV_RESULT Fld.THM_CONV_RESULT.CHANNEL = ch ∧ sameStores s t := by
  have hne : Reg.THM_CONV_RESULT ≠ Reg.THM_CONV := by decide
  dsimp only
  rw [Act.run_eq, actConvDone_of_current hch hlo hhi, convEffects]
  refine ⟨rfl, ?_, ?_, ?_, ?_, ?_, applyAll_sameStores rfl s⟩ <;> simp only [applyAll_cons, applyAll_nil]
  · rw [flag_apply rfl, flag_fld_same covers_conv_done rfl]
    rfl
  · rw [flag_apply rfl, flag_fld_other (by decide) covers_conv_go (by decide), flag_fld_other (by decide) covers_conv_go (by decide),
      flag_fld_same covers_conv_go rfl]
    rfl
  · rw [flag_apply rfl, flag_fld_other (by decide) covers_conv_pending (by decide), flag_fld_same covers_conv_pending rfl]
    rfl
  · rw [fld_apply rfl, fld_fld_ne hne, fld_fld_ne hne, fld_fld_ne hne, fld_reg_same covers_result_value, getFld_w32]
    simp only [Fld.THM_CONV_RESULT.VALUE]
    omega
  · rw [fld_apply rfl, fld_fld_ne hne, fld_fld_ne hne, fld_fld_ne hne, fld_reg_same covers_result_channel, getFld_w32]
    simp only [Fld.THM_CONV_RESULT.CHANNEL]
    omega

/-- Settles O16: each row by the branch that the conditions name. -/
theorem samplesAndWindows : Obligations.SamplesAndWindows := by
  refine ⟨fun p rate s hin hpower => ?_, fun p rate s hpower => ⟨_, rfl, run_paceWindowEnd_of_down hpower⟩,
    fun value ch s hboot hnext hlo hhi => ⟨_, rfl, run_hkSample_of_current hboot hnext hlo hhi⟩,
    fun v s hgo hnone => ⟨_, rfl, run_thmConv_of_free hgo hnone⟩, fun v ch s hgo hch => ⟨_, rfl, run_thmConv_of_running hgo hch⟩,
    fun value ch s hch hlo hhi => ⟨_, rfl, run_convDone_of_current hch hlo hhi⟩⟩
  show (actPaceWindowEnd p rate).outcome s = _
  rw [Act.outcome_eq, actPaceWindowEnd_of_powered hin hpower, Act.run_eq]

end Sys2Proof.Samples
end

section
/-! The ports of the sensors, and what arrives and leaves on them (chapter 05). -/
open Sys2Proof Sys2Proof.Machine Sys2Proof.Reads Sys2Proof.ServiceTurn Sys2Proof.Tickets Sys2Proof.Turns Sys2Proof.Basics Sys2Proof.Spans
open Sys2Proof.Camera Sys2Proof.Streams Sys2Proof.Wall Sys2Proof.HostRows Sys2Proof.EffectReads

-- Proofs that wait side by side for the kernel would not fit into the memory of one compile.
set_option Elab.async false

namespace Sys2Proof.SensorRows

/-! ### Fields of the registers -/

theorem covers_sal_mode (n : Fin 4) : covers (regMask (Reg.SAL_PORT_CTRL n)) Fld.SAL_PORT_CTRL.MODE = true :=
  covers_word (b := 0x160000) (st := 0x40) (c := 4) (by decide +kernel) n.isLt

theorem covers_sal_ready (n : Fin 4) : covers (regMask (Reg.SAL_PORT_STAT n)) Fld.SAL_PORT_STAT.READY = true :=
  covers_word (b := 0x160004) (st := 0x40) (c := 4) (by decide +kernel) n.isLt

theorem covers_sal_deskew (n : Fin 4) : covers (regMask (Reg.SAL_PORT_STAT n)) Fld.SAL_PORT_STAT.DESKEW_ERR = true :=
  covers_word (b := 0x160004) (st := 0x40) (c := 4) (by decide +kernel) n.isLt

theorem covers_crcErrs (n : Fin 4) : covers (regMask (Reg.SAL_PORT_ERRS n)) Fld.SAL_PORT_ERRS.CRC_ERRS = true :=
  covers_word (b := 0x160008) (st := 0x40) (c := 4) (by decide +kernel) n.isLt

theorem covers_blockLock {n : Nat} (h : n < 32) : covers (regMask (Reg.SAL_LANE_ALIGN n)) Fld.SAL_LANE_ALIGN.BLOCK_LOCK = true :=
  covers_word (b := 0x160100) (st := 4) (c := 32) (by decide +kernel) h

theorem covers_align_slips (tlk : Bool) (i : Fin 128) : covers (regMask (alignReg tlk i)) Fld.SAL_LANE_ALIGN.SLIPS = true := by
  cases tlk
  · exact covers_word (b := 0x160100) (st := 4) (c := 32) (by decide +kernel) (Nat.mod_lt _ (by decide))
  · exact covers_word (b := 0x151000) (st := 4) (c := 128) (by decide +kernel) i.isLt

theorem covers_align_trainLock (tlk : Bool) (i : Fin 128) : covers (regMask (alignReg tlk i)) Fld.SAL_LANE_ALIGN.TRAIN_LOCK = true := by
  cases tlk
  · exact covers_word (b := 0x160100) (st := 4) (c := 32) (by decide +kernel) (Nat.mod_lt _ (by decide))
  · exact covers_word (b := 0x151000) (st := 4) (c := 128) (by decide +kernel) i.isLt

theorem covers_cap_valid (n : Fin 8) : covers (regMask (Reg.TIM_CAP_STAT n)) Fld.TIM_CAP_STAT.VALID = true :=
  covers_word (b := 0xD200C) (st := 0x10) (c := 8) (by decide +kernel) n.isLt

theorem covers_cap_depth (n : Fin 8) : covers (regMask (Reg.TIM_CAP_STAT n)) Fld.TIM_CAP_STAT.DEPTH = true :=
  covers_word (b := 0xD200C) (st := 0x10) (c := 8) (by decide +kernel) n.isLt

theorem salMode_fld_same (n : Fin 4) (v : Nat) (s : State) :
    salMode ((Eff.fld (Reg.SAL_PORT_CTRL n) Fld.SAL_PORT_CTRL.MODE v).apply s) n = v % 4 := fld_fld_same _ _ _ _ (covers_sal_mode n)

theorem sal_effSal_same (n : Nat) (g : SalPort → SalPort) (s : State) : ((effSal n g).apply s).sal n = g (s.sal n) := FMap.getD_upd_same ..

theorem sal_of_cam {s t : State} (h : t.cam = s.cam) (n : Nat) : t.sal n = s.sal n := by rw [State.sal, h, State.sal]


theorem salReady_salDown (n : Fin 4) (s : State) : salReady (applyAll (salDown n) s) n = false := by
  rw [salDown, applyAll_cons, applyAll_cons, applyAll_nil, salReady, flag_apply rfl, flag_fld_same (covers_sal_ready n) rfl]
  rfl

/-! ### Modes -/

theorem actSalPortMode_of_run {n : Fin 4} {v : Word} {s : State} (hen : salEn s n = true) (hm : getFld v Fld.SAL_PORT_CTRL.MODE = 2) :
    actSalPortMode n v s = [.fld (Reg.SAL_PORT_CTRL n) Fld.SAL_PORT_CTRL.MODE 2] := by
  simp [actSalPortMode, hen, hm]

theorem actSalPortMode_of_off {n : Fin 4} {v : Word} {s : State} (hen : salEn s n = true) (hm : getFld v Fld.SAL_PORT_CTRL.MODE = 0) :
    actSalPortMode n v s = .fld (Reg.SAL_PORT_CTRL n) Fld.SAL_PORT_CTRL.MODE 0 :: salDown n := by
  simp [actSalPortMode, hen, hm]

theorem run_salPortMode_of_run {n : Fin 4} {v : Word} {s : State} (hen : salEn s n = true) (hm : getFld v Fld.SAL_PORT_CTRL.MODE = 2) :
    let t := (actSalPortMode n v).run s
    salMode t n = 2 ∧ (∀ a, a ≠ Reg.SAL_PORT_CTRL n → t.rd a = s.rd a) ∧ sameStores s t ∧ t.out = s.out := by
  dsimp only
  rw [Act.run_eq, actSalPortMode_of_run hen hm]
  exact ⟨salMode_fld_same n 2 s, fun a ha => rd_fld_ne ha _ _ s, applyAll_sameStores rfl s, (agree_applyAll _ s).out rfl⟩

theorem portCtrl_ne_portStat (n m : Nat) : Reg.SAL_PORT_CTRL n ≠ Reg.SAL_PORT_STAT m := by unfold Reg.SAL_PORT_CTRL Reg.SAL_PORT_STAT; omega

theorem run_salPortMode_of_off {n : Fin 4} {v : Word} {s : State} (hen : salEn s n = true) (hm : getFld v Fld.SAL_PORT_CTRL.MODE = 0) :
    let t := (actSalPortMode n v).run s
    salMode t n = 0 ∧ salReady t n = false ∧ sameStores s t := by
  dsimp only
  rw [Act.run_eq, actSalPortMode_of_off hen hm, applyAll_cons]
  refine ⟨?_, salReady_salDown n _, sameStores_trans (applyAll_sameStores (es := [.fld _ _ _]) rfl s) (applyAll_sameStores rfl _)⟩
  rw [salDown, applyAll_cons, applyAll_cons, applyAll_nil, salMode, fld_apply rfl, fld_fld_ne (portCtrl_ne_portStat _ _)]
  exact salMode_fld_same n 0 s

/-! ### Lanes -/

theorem alignReg_ne_portStat (tlk : Bool) (i : Fin 128) {m : Nat} (hm : m < 4) : alignReg tlk i ≠ Reg.SAL_PORT_STAT m := by
  cases tlk <;> simp only [alignReg, if_true, Bool.false_eq_true, if_false, Reg.TLK_LANE_ALIGN, Reg.SAL_LANE_ALIGN, Reg.SAL_PORT_STAT] <;> omega

theorem lane_lt_of_viewHolds {i : Fin 128} {s : State} (h : viewHolds s false i = true) : i.val / 8 < 4 := by
  simp only [viewHolds, Bool.false_eq_true, if_false, Bool.and_eq_true, decide_eq_true_eq] at h
  omega

/-- TRAIN_LOCK of a lane that its view holds. -/
theorem applyAll_setTrainLock {tlk : Bool} {i : Fin 128} {u s : State} (h : viewHolds u tlk i = true) (v : Nat) :
    let t := applyAll (setTrainLock tlk i v) s
    t.flag (alignReg tlk i) Fld.SAL_LANE_ALIGN.TRAIN_LOCK = (v % 2 == 1) ∧
      t.fld (alignReg tlk i) Fld.SAL_LANE_ALIGN.SLIPS = s.fld (alignReg tlk i) Fld.SAL_LANE_ALIGN.SLIPS ∧ sameStores s t := by
  cases tlk
  · have hne := alignReg_ne_portStat false i (lane_lt_of_viewHolds h)
    dsimp only
    rw [setTrainLock, if_neg Bool.false_ne_true]
    refine ⟨?_, ?_, applyAll_sameStores rfl s⟩ <;> rw [applyAll_cons, applyAll_cons, applyAll_nil]
    · rw [flag_fld_ne hne, flag_fld_same (covers_align_trainLock false i) rfl]
    · rw [fld_fld_ne hne, fld_fld_other _ _ _ _ _ (by decide) (covers_align_slips false i) (by decide)]
  · dsimp only
    rw [setTrainLock, if_pos rfl]
    refine ⟨?_, ?_, applyAll_sameStores rfl s⟩ <;> rw [applyAll_cons, applyAll_nil]
    · rw [flag_fld_same (covers_align_trainLock true i) rfl]
    · rw [fld_fld_other _ _ _ _ _ (by decide) (covers_align_slips true i) (by decide)]

theorem actLaneSlip_of_held {tlk : Bool} {i : Fin 128} {v : Word} {s : State} (hslip : getFld v Fld.SAL_LANE_ALIGN.SLIP = 1)
    (hview : viewHolds s tlk i = true) : actLaneSlip tlk i v s =
      .fld (alignReg tlk i) Fld.SAL_LANE_ALIGN.SLIPS ((s.fld (alignReg tlk i) Fld.SAL_LANE_ALIGN.SLIPS + 1) % 66) :: setTrainLock tlk i 0 := by
  simp [actLaneSlip, hslip, hview]

theorem run_laneSlip_of_held {tlk : Bool} {i : Fin 128} {v : Word} {s : State} (hslip : getFld v Fld.SAL_LANE_ALIGN.SLIP = 1)
    (hview : viewHolds s tlk i = true) :
    let t := (actLaneSlip tlk i v).run s
    t.fld (alignReg tlk i) Fld.SAL_LANE_ALIGN.SLIPS = (s.fld (alignReg tlk i) Fld.SAL_LANE_ALIGN.SLIPS + 1) % 66 ∧
      t.flag (alignReg tlk i) Fld.SAL_LANE_ALIGN.TRAIN_LOCK = false ∧ sameStores s t := by
  dsimp only
  rw [Act.run_eq, actLaneSlip_of_held hslip hview, applyAll_cons]
  obtain ⟨htrain, hslips, hstores⟩ := applyAll_setTrainLock (s := (Eff.fld (alignReg tlk i) Fld.SAL_LANE_ALIGN.SLIPS
    ((s.fld (alignReg tlk i) Fld.SAL_LANE_ALIGN.SLIPS + 1) % 66)).apply s) hview 0
  refine ⟨?_, htrain, sameStores_trans (applyAll_sameStores (es := [.fld _ _ _]) rfl s) hstores⟩
  rw [hslips, fld_fld_same _ _ _ _ (covers_align_slips tlk i)]
  simp only [Fld.SAL_LANE_ALIGN.SLIPS]
  omega

/-- What a column shows of a lane is register fields only. -/
theorem reaches_columnLanes (s : State) (n : Nat) (lanes : List (Nat × Bool)) :
    (lanes.zipIdx.flatMap fun e => columnLane s n e.2 e.1).all (reaches [.regs]) = true := all_flatMap_of_forall fun _ _ => rfl

theorem actSalAlignColumn_of_aligned {n : Fin 4} {skew : Nat} {lanes : List (Nat × Bool)} {s : State} (hmode : salMode s n = 2)
    (hen : salEn s n = true) (hcol : columnOk (salLanes s n) lanes = true) (hskew : skew ≤ 48) (hold : 1 ≤ (s.sal n).columns) :
    actSalAlignColumn n skew lanes s = (lanes.zipIdx.flatMap fun e => columnLane s n e.2 e.1) ++
      [effSal n (fun p => { p with columns := p.columns + 1 }), .fld (Reg.SAL_PORT_STAT n) Fld.SAL_PORT_STAT.READY 1] := by
  simp [actSalAlignColumn, hmode, hen, hcol, Nat.not_lt.mpr hskew, hold]

/-- R166: the second consistent column makes the port ready. -/
theorem run_salAlignColumn_of_aligned {n : Fin 4} {skew : Nat} {lanes : List (Nat × Bool)} {s : State} (hmode : salMode s n = 2)
    (hen : salEn s n = true) (hcol : columnOk (salLanes s n) lanes = true) (hskew : skew ≤ 48) (hold : 1 ≤ (s.sal n).columns) :
    let t := (actSalAlignColumn n skew lanes).run s
    salReady t n = true ∧ (t.sal n).columns = (s.sal n).columns + 1 ∧ sameStores s t := by
  have hlanes := agree_of_reaches (reaches_columnLanes s n lanes) s
  dsimp only
  rw [Act.run_eq, actSalAlignColumn_of_aligned hmode hen hcol hskew hold, applyAll_append]
  refine ⟨?_, ?_, sameStores_trans (hlanes.sameStores rfl rfl rfl rfl rfl rfl) (applyAll_sameStores rfl _)⟩
  · rw [applyAll_cons, applyAll_cons, applyAll_nil, salReady, flag_fld_same (covers_sal_ready n) rfl]
    rfl
  · rw [applyAll_cons, sal_of_cam ((agree_applyAll _ _).cam rfl), sal_effSal_same, sal_of_cam (hlanes.cam rfl)]

theorem actSalAlignColumn_of_skewed {n : Fin 4} {skew : Nat} {lanes : List (Nat × Bool)} {s : State} (hmode : salMode s n = 2)
    (hen : salEn s n = true) (hcol : columnOk (salLanes s n) lanes = true) (hskew : 48 < skew) :
    actSalAlignColumn n skew lanes s = (lanes.zipIdx.flatMap fun e => columnLane s n e.2 e.1) ++
      .fld (Reg.SAL_PORT_STAT n) Fld.SAL_PORT_STAT.DESKEW_ERR 1 :: salDown n := by
  simp [actSalAlignColumn, hmode, hen, hcol, hskew]

/-- R166: a skew over 48 blocks is an error, and the port is not ready. -/
theorem run_salAlignColumn_of_skewed {n : Fin 4} {skew : Nat} {lanes : List (Nat × Bool)} {s : State} (hmode : salMode s n = 2)
    (hen : salEn s n = true) (hcol : columnOk (salLanes s n) lanes = true) (hskew : 48 < skew) :
    let t := (actSalAlignColumn n skew lanes).run s
    salReady t n = false ∧ t.flag (Reg.SAL_PORT_STAT n) Fld.SAL_PORT_STAT.DESKEW_ERR = true ∧ (t.sal n).columns = 0 ∧ sameStores s t := by
  have hlanes := agree_of_reaches (reaches_columnLanes s n lanes) s
  dsimp only
  rw [Act.run_eq, actSalAlignColumn_of_skewed hmode hen hcol hskew, applyAll_append]
  refine ⟨?_, ?_, ?_, sameStores_trans (hlanes.sameStores rfl rfl rfl rfl rfl rfl) (applyAll_sameStores rfl _)⟩
  · rw [applyAll_cons, salReady_salDown]
  · rw [applyAll_cons, salDown, applyAll_cons, applyAll_cons, applyAll_nil, flag_apply rfl,
      flag_fld_other (by decide) (covers_sal_deskew n) (by decide), flag_fld_same (covers_sal_deskew n) rfl]
    rfl
  · rw [applyAll_cons, salDown, applyAll_cons, applyAll_cons, applyAll_nil, sal_effSal_same]

/-! ### A lost block lock -/

/-- The effects of a lost block lock on a port that carries no sensor. -/
def lostEffects (n k : Nat) : List Eff :=
  [.fld (Reg.SAL_LANE_ALIGN (8 * n + k)) Fld.SAL_LANE_ALIGN.BLOCK_LOCK 0, .fld (Reg.SAL_PORT_STAT n) ⟨k, k⟩ 0] ++ salDown n ++
    [.raise (120 + n), .fld (Reg.SAL_PORT_CTRL n) Fld.SAL_PORT_CTRL.MODE 1, .emit (.packet 0 n trainBlock)]

theorem actSalBlockLockLost_of_bare {n : Fin 4} {k : Fin 8} {s : State} (hen : salEn s n = true) (hmode : salMode s n = 2)
    (hbare : ((List.range 8).filter fun sn => snsOn s sn n) = []) : actSalBlockLockLost n k s = lostEffects n k := by
  simp only [actSalBlockLockLost, hen, hmode, hbare, Bool.not_true, Bool.false_eq_true, ne_eq, not_true_eq_false, or_self, if_false, actsFor,
    List.map_nil, acts, Act.seq, eff, List.append_nil, lostEffects]

theorem laneAlign_ne_portStat {n : Nat} (h : n < 4) (m : Nat) : Reg.SAL_LANE_ALIGN m ≠ Reg.SAL_PORT_STAT n := by
  unfold Reg.SAL_LANE_ALIGN Reg.SAL_PORT_STAT; omega

theorem laneAlign_ne_portCtrl {n : Nat} (h : n < 4) (m : Nat) : Reg.SAL_LANE_ALIGN m ≠ Reg.SAL_PORT_CTRL n := by
  unfold Reg.SAL_LANE_ALIGN Reg.SAL_PORT_CTRL; omega

theorem eventWord_portStat (n : Nat) : eventWord (Reg.SAL_PORT_STAT n) = false := eventWord_of_gt (by unfold Reg.SAL_PORT_STAT; omega)
theorem eventWord_portCtrl (n : Nat) : eventWord (Reg.SAL_PORT_CTRL n) = false := eventWord_of_gt (by unfold Reg.SAL_PORT_CTRL; omega)
theorem eventWord_laneAlign (n : Nat) : eventWord (Reg.SAL_LANE_ALIGN n) = false := eventWord_of_gt (by unfold Reg.SAL_LANE_ALIGN; omega)

theorem evtReserved_port (n : Fin 4) : evtReserved (120 + n) = false := by revert n; decide

/-- R190: what a lost block lock leaves. -/
theorem run_salBlockLockLost_of_bare {n : Fin 4} {k : Fin 8} {s : State} (hen : salEn s n = true) (hmode : salMode s n = 2)
    (hbare : ((List.range 8).filter fun sn => snsOn s sn n) = []) :
    let t := (actSalBlockLockLost n k).run s
    salReady t n = false ∧ salMode t n = 1 ∧ t.evt (120 + n) = true ∧
      t.flag (Reg.SAL_LANE_ALIGN (8 * n + k)) Fld.SAL_LANE_ALIGN.BLOCK_LOCK = false ∧ sameStores s t := by
  dsimp only
  rw [Act.run_eq, actSalBlockLockLost_of_bare hen hmode hbare]
  refine ⟨?_, ?_, evt_applyAll_of_raise (evtReserved_port n) ?_ (by simp [lostEffects]) s, ?_, applyAll_sameStores rfl s⟩
  · rw [lostEffects, applyAll_append, applyAll_append, applyAll_cons, applyAll_cons, applyAll_cons, applyAll_nil, salReady, flag_apply rfl,
      flag_fld_ne (portCtrl_ne_portStat _ _).symm, flag_raise (eventWord_portStat n)]
    exact salReady_salDown n _
  · rw [lostEffects, applyAll_append, applyAll_cons, applyAll_cons, applyAll_cons, applyAll_nil, salMode, fld_apply rfl]
    exact salMode_fld_same n 1 _
  · simp [lostEffects, salDown, keepsEvt, eventWord_laneAlign, eventWord_portStat, eventWord_portCtrl, effSal]
  · have hlane : 8 * n.val + k.val < 32 := by omega
    have hstat := laneAlign_ne_portStat n.isLt (8 * n + k)
    rw [lostEffects, salDown]
    simp only [applyAll_append, applyAll_cons, applyAll_nil]
    rw [flag_apply rfl, flag_fld_ne (laneAlign_ne_portCtrl n.isLt _), flag_raise (eventWord_laneAlign _), flag_apply rfl, flag_fld_ne hstat,
      flag_fld_ne hstat, flag_fld_same (covers_blockLock hlane) rfl]
    rfl

/-- Settles O19: each row by the branch that the conditions name. -/
theorem salPorts : Obligations.SalPorts := by
  refine ⟨fun n v s hen hm => ⟨_, rfl, run_salPortMode_of_run hen hm⟩, fun n v s hen hm => ⟨_, rfl, run_salPortMode_of_off hen hm⟩,
    fun n v s hen => ?_, fun tlk i v s hslip hview => ⟨_, rfl, run_laneSlip_of_held hslip hview⟩,
    fun n skew lanes s hmode hen hcol hskew hold => ⟨_, rfl, run_salAlignColumn_of_aligned hmode hen hcol hskew hold⟩,
    fun n skew lanes s hmode hen hcol hskew => ⟨_, rfl, run_salAlignColumn_of_skewed hmode hen hcol hskew⟩,
    fun n k s hen hmode hbare => ⟨_, rfl, run_salBlockLockLost_of_bare hen hmode hbare⟩,
    fun tlk i s hview => ⟨(actTrainLock tlk i).run s, rfl, ?_⟩⟩
  · show (actSalPortMode n v).outcome s = _
    rw [Act.outcome_eq, actSalPortMode, if_pos (.inl (by simp [hen])), applyAll_nil]
  · obtain ⟨htrain, -, hstores⟩ := applyAll_setTrainLock (s := s) hview 1
    rw [Act.run_eq, actTrainLock, if_pos hview]
    exact ⟨htrain, hstores⟩

end Sys2Proof.SensorRows
end

section
/-! Packets, replies, time-outs and triggers of the sensors (chapter 05). -/
open Sys2Proof Sys2Proof.Machine Sys2Proof.Reads Sys2Proof.ServiceTurn Sys2Proof.Tickets Sys2Proof.Turns Sys2Proof.Basics Sys2Proof.Spans
open Sys2Proof.Camera Sys2Proof.Streams Sys2Proof.Wall Sys2Proof.HostRows Sys2Proof.EffectReads Sys2Proof.SensorRows

-- Proofs that wait side by side for the kernel would not fit into the memory of one compile.
set_option Elab.async false

namespace Sys2Proof.SensorTraffic

/-! ### Packets -/

theorem salReceive_of_damaged {n : Nat} {bytes : Bytes} {work : SalPkt → Act} {s : State} (hready : salReady s n = true)
    (hbad : parsePkt bytes = none) :
    salReceive n false none bytes work s = [.inc (Reg.SAL_PORT_ERRS n) Fld.SAL_PORT_ERRS.CRC_ERRS 1, .raise 124] := by
  simp [salReceive, hready, hbad]

/-- The packets that the numbers of two packets show as lost (R184). -/
def seqGap (last : Option Nat) (seq : Nat) : Nat :=
  match last with
  | some q => (seq + 65536 - (q + 1) % 65536) % 65536
  | none => 0

theorem seqGap_of_next {q seq : Nat} (h : seq = (q + 1) % 65536) : seqGap (some q) seq = 0 := by
  simp only [seqGap]
  omega

theorem salReceive_of_good {n : Nat} {bytes : Bytes} {p : SalPkt} {work : SalPkt → Act} {s : State} (hready : salReady s n = true)
    (hgood : parsePkt bytes = some p) :
    salReceive n false none bytes work s = acts [eff [.inc (Reg.SAL_PORT_ERRS n) Fld.SAL_PORT_ERRS.LOST_PKTS (seqGap (s.sal n).rxSeq p.seq),
      effSal n fun x => { x with rxSeq := some p.seq }], work p] s := by
  simp only [salReceive, hready, hgood, Bool.not_true, Bool.false_eq_true, Option.isSome_none, or_self, if_false, seqGap] <;> rfl

theorem outcome_salReceive_of_good {n : Nat} {bytes : Bytes} {p : SalPkt} {work : SalPkt → Act} {s : State} (hready : salReady s n = true)
    (hgood : parsePkt bytes = some p) :
    (salReceive n false none bytes work).outcome s = .next ((work p).run (applyAll [
      .inc (Reg.SAL_PORT_ERRS n) Fld.SAL_PORT_ERRS.LOST_PKTS (seqGap (s.sal n).rxSeq p.seq), effSal n fun x => { x with rxSeq := some p.seq }] s)) := by
  show Host.Outcome.next ((salReceive n false none bytes work).run s) = _
  rw [run_congr (salReceive_of_good hready hgood), run_acts_cons, run_acts_cons, run_acts_nil, run_eff]

theorem run_salPacket_of_damaged {n : Fin 4} {at4 : Nat} {bytes : Bytes} {s : State} (hready : salReady s n = true)
    (hbad : parsePkt bytes = none) :
    let t := (actSalPacket n false none at4 bytes).run s
    t.evt 124 = true ∧ t.cam = s.cam ∧ sameStores s t ∧ t.fld (Reg.SAL_PORT_ERRS n) Fld.SAL_PORT_ERRS.CRC_ERRS =
      satAdd (2 ^ (Fld.SAL_PORT_ERRS.CRC_ERRS.hi + 1 - Fld.SAL_PORT_ERRS.CRC_ERRS.lo) - 1)
        (s.fld (Reg.SAL_PORT_ERRS n) Fld.SAL_PORT_ERRS.CRC_ERRS) 1 := by
  have hword : eventWord (Reg.SAL_PORT_ERRS n) = false := eventWord_of_gt (by unfold Reg.SAL_PORT_ERRS; omega)
  dsimp only
  rw [Act.run_eq, actSalPacket, salReceive_of_damaged hready hbad]
  refine ⟨evt_applyAll_of_raise (by decide) (by simp [keepsEvt, hword]) (by simp) s, (agree_applyAll _ s).cam rfl, applyAll_sameStores rfl s, ?_⟩
  rw [applyAll_cons, applyAll_cons, applyAll_nil, fld_raise hword, fld_inc_same (covers_crcErrs n)]

/-! ### Time-outs -/

theorem actSalPairWaitTimeout_of_frame {sn : Fin 8} {f : Nat} {s : State} (hf : (s.sns sn).frame = some f) (hearly : (s.sns sn).early = false)
    (hpair : snsPair s sn = true) : actSalPairWaitTimeout sn s = acts [eff [effSns sn fun x => { x with
      lo := if x.lo.line < max (s.sns sn).lo.line (s.sns sn).hi.line then { x.lo with line := max (s.sns sn).lo.line (s.sns sn).hi.line, col := 0 } else x.lo,
      hi := if x.hi.line < max (s.sns sn).lo.line (s.sns sn).hi.line then
        { x.hi with line := max (s.sns sn).lo.line (s.sns sn).hi.line, col := snsWidth s sn / 2 } else x.hi }], deliverReady sn] s := by
  simp only [actSalPairWaitTimeout, hf, hearly, hpair, Option.isNone_some, Bool.not_true, Bool.false_eq_true, or_self, if_false]

theorem endFrame_of_early {sn f : Nat} {s : State} (hf : (s.sns sn).frame = some f) (hearly : (s.sns sn).early = true) :
    endFrame sn s = acts [eff [], pushInfo sn,
      (fun s => [.fld (Reg.SAL_SNS_STAT sn) Fld.SAL_SNS_STAT.IN_FRAME 0,
        .fld (Reg.SAL_SNS_STAT sn) Fld.SAL_SNS_STAT.LAST_INCOMPLETE (if (s.sns sn).incomplete then 1 else 0),
        .fld (Reg.SAL_SNS_STAT sn) Fld.SAL_SNS_STAT.LAST_SIZE_ERR (if (s.sns sn).sizeErr then 1 else 0),
        .fld (Reg.SAL_SNS_STAT sn) Fld.SAL_SNS_STAT.LAST_EARLY (if (s.sns sn).early then 1 else 0),
        effSns sn fun x => { x with frame := none, prev := some f, got := .empty, recent := .empty }]),
      endSequence sn] s := by
  simp only [endFrame, hf, hearly, if_true, eff_nil]

theorem salBc_eq_of_sent {n : Fin 4} {c : BcCmd} {s : State} (hbc : (s.sal n).bc = some c) (hsent : c.sent < 3) :
    actSalBcTimeout n s = [.emit (.packet 0 n (buildPkt (24 + c.sensor) c.kind (s.sal n).txSeq c.packet)),
      effSal n fun p => { p with txSeq := (p.txSeq + 1) % 65536, bc := some { c with sent := c.sent + 1 } }] := by
  simp only [actSalBcTimeout, hbc, hsent, if_true, salSend]

/-- R185: the message is sent again. -/
theorem run_salBcTimeout_of_sent {n : Fin 4} {c : BcCmd} {s : State} (hbc : (s.sal n).bc = some c) (hsent : c.sent < 3) (htrip : tripped s = false) :
    let t := (actSalBcTimeout n).run s
    (t.sal n).bc = some { c with sent := c.sent + 1 } ∧
      t.out = s.out ++ [.packet 0 n (buildPkt (24 + c.sensor) c.kind (s.sal n).txSeq c.packet)] ∧ t.regs = s.regs ∧ sameStores s t := by
  dsimp only
  rw [Act.run_eq, salBc_eq_of_sent hbc hsent]
  refine ⟨?_, ?_, (agree_applyAll _ s).regs rfl, applyAll_sameStores rfl s⟩
  · rw [applyAll_cons, applyAll_cons, applyAll_nil, sal_effSal_same]
  · rw [applyAll_cons, (agree_applyAll _ _).out rfl, emit_of_leaves (.inl htrip)]

/-- R185: after the third the command fails. -/
theorem run_salBcTimeout_of_last {n : Fin 4} {c : BcCmd} {s : State} (hbc : (s.sal n).bc = some c) (hsent : 3 ≤ c.sent) :
    let t := (actSalBcTimeout n).run s
    (t.sal n).bc = none ∧ t.evt 126 = true ∧ sameStores s t := by
  have hact : actSalBcTimeout n s = acts [bcDone n c ST_TIMEOUT [], eff [.raise 126]] s := by
    simp only [actSalBcTimeout, hbc, Nat.not_lt.mpr hsent, if_false]
  have hticket := (reaches_completeTicket c.owner c.ticket ST_TIMEOUT []).agree (applyAll [effSal n fun p => { p with bc := none }] s)
  dsimp only
  rw [run_congr hact, run_acts_cons, run_acts_cons, run_acts_nil, run_eff, bcDone, run_acts_cons, run_acts_cons, run_acts_nil, run_eff]
  refine ⟨?_, evt_applyAll_of_raise (by decide) rfl (by simp) _,
    sameStores_trans (applyAll_sameStores rfl s) (sameStores_trans (hticket.sameStores rfl rfl rfl rfl rfl rfl) (applyAll_sameStores rfl _))⟩
  rw [sal_of_cam ((agree_applyAll _ _).cam rfl), sal_of_cam (hticket.cam rfl), applyAll_cons, applyAll_nil, sal_effSal_same]

/-! ### Triggers -/

/-- The effects of a capture of TRIG_IN[n] at a device time, while the FIFO is not full. -/
def captureEffects (n now : Nat) (q : List Nat) (event : Bool) : List Eff :=
  [.tim fun t => { t with caps := t.caps.put n (q ++ [now]) }, .fld (Reg.TIM_CAP_STAT n) Fld.TIM_CAP_STAT.VALID 1,
    .fld (Reg.TIM_CAP_STAT n) Fld.TIM_CAP_STAT.DEPTH (q.length + 1), .count (Prm.TRIG_CAPTURES n) 1] ++ raiseIf event 213

theorem actTrigInEdge_of_capture {n : Fin 8} {falling : Bool} {widthNs : Nat} {s : State} (hwidth : 10 ≤ widthNs)
    (hnone : trigTargets s (0x10 + n) = []) (hen : bitOf (s.pn (Prm.TRIG_CFG n)) 1 = true) (hedge : bitOf (s.pn (Prm.TRIG_CFG n)) 0 = falling)
    (hroom : (s.tim.caps.getD n []).length < 4) :
    actTrigInEdge n falling widthNs s = captureEffects n s.stamp (s.tim.caps.getD n []) (bitOf (s.pn (Prm.TRIG_CFG n)) 2) := by
  simp only [actTrigInEdge, Nat.not_lt.mpr hwidth, if_false, hen, hedge, beq_self_eq_true, Bool.and_self, if_true, hnone, List.filter_nil, actsFor,
    List.map_nil, acts, Act.seq, captureEdge, Nat.not_le.mpr hroom, List.append_nil, captureEffects]

theorem eventWord_capStat (n : Nat) : eventWord (Reg.TIM_CAP_STAT n) = false := eventWord_of_gt (by unfold Reg.TIM_CAP_STAT; omega)

/-- R542: a captured edge joins the FIFO. -/
theorem applyAll_captureEffects {n : Fin 8} {now : Nat} {q : List Nat} (hroom : q.length < 4) (event : Bool) (s : State) :
    let t := applyAll (captureEffects n now q event) s
    t.tim.caps.getD n [] = q ++ [now] ∧ t.fld (Reg.TIM_CAP_STAT n) Fld.TIM_CAP_STAT.DEPTH = q.length + 1 ∧
      t.flag (Reg.TIM_CAP_STAT n) Fld.TIM_CAP_STAT.VALID = true ∧ sameStores s t := by
  have hevents : (raiseIf event 213).all (reaches [.regs, .out]) = true := all_raiseIf rfl event
  have hspares : (raiseIf event 213).all (sparesReg (Reg.TIM_CAP_STAT n)) = true := all_raiseIf (by simp [sparesReg, eventWord_capStat]) event
  dsimp only
  rw [captureEffects, applyAll_append]
  refine ⟨?_, ?_, ?_, sameStores_trans (applyAll_sameStores rfl s) ((agree_of_reaches hevents _).sameStores rfl rfl rfl rfl rfl rfl)⟩
  · rw [(agree_of_reaches hevents _).tim rfl, applyAll_cons, (agree_applyAll _ _).tim rfl]
    exact FMap.getD_put_same ..
  · rw [fld_of_rd (rd_applyAll_of_spares hspares _)]
    simp only [applyAll_cons, applyAll_nil]
    rw [fld_apply rfl, fld_fld_same _ _ _ _ (covers_cap_depth n)]
    simp only [Fld.TIM_CAP_STAT.DEPTH]
    omega
  · rw [flag_of_rd (rd_applyAll_of_spares hspares _)]
    simp only [applyAll_cons, applyAll_nil]
    rw [flag_apply rfl, flag_fld_other (by decide) (covers_cap_valid n) (by decide), flag_fld_same (covers_cap_valid n) rfl]
    rfl

theorem actSalTriggerSend_of_due {sn : Fin 8} {at16 : Nat} {late : Bool} {rest : List (Nat × Bool)} {s : State}
    (h : (s.sns sn).sends = (at16, late) :: rest) : actSalTriggerSend sn s =
      [effSns sn fun x => { x with sends := rest, count := ((s.sns sn).count + 1) % 65536 },
        .emit (.packet 0 (snsPort s sn) (triggerBlock sn (((s.sns sn).count + 1) % 65536) at16 late))] ++
      (if late then [.inc (Reg.SAL_TRIG_STAT sn) Fld.SAL_TRIG_STAT.LATE 1] else []) := by
  simp only [actSalTriggerSend, h]

/-- R191: the TRIGGER block that is due leaves. -/
theorem run_salTriggerSend_of_due {sn : Fin 8} {at16 : Nat} {late : Bool} {rest : List (Nat × Bool)} {s : State}
    (h : (s.sns sn).sends = (at16, late) :: rest) (htrip : tripped s = false) :
    let t := (actSalTriggerSend sn).run s
    (t.sns sn).sends = rest ∧ (t.sns sn).count = ((s.sns sn).count + 1) % 65536 ∧
      t.out = s.out ++ [.packet 0 (snsPort s sn) (triggerBlock sn (((s.sns sn).count + 1) % 65536) at16 late)] ∧ sameStores s t := by
  have hlate : (if late then [Eff.inc (Reg.SAL_TRIG_STAT sn) Fld.SAL_TRIG_STAT.LATE 1] else []).all (reaches [.regs]) = true := by
    cases late <;> rfl
  dsimp only
  rw [Act.run_eq, actSalTriggerSend_of_due h, applyAll_append]
  have hsns : (applyAll [effSns sn fun x => { x with sends := rest, count := ((s.sns sn).count + 1) % 65536 },
      .emit (.packet 0 (snsPort s sn) (triggerBlock sn (((s.sns sn).count + 1) % 65536) at16 late))] s).sns sn =
      { s.sns sn with sends := rest, count := ((s.sns sn).count + 1) % 65536 } := by
    rw [applyAll_cons, sns_of_cam ((agree_applyAll _ _).cam rfl), sns_effSns_same]
  refine ⟨?_, ?_, ?_, sameStores_trans (applyAll_sameStores rfl s) ((agree_of_reaches hlate _).sameStores rfl rfl rfl rfl rfl rfl)⟩
  · rw [sns_of_cam ((agree_of_reaches hlate _).cam rfl), hsns]
  · rw [sns_of_cam ((agree_of_reaches hlate _).cam rfl), hsns]
  · have htrip' : tripped ((effSns sn fun x => { x with sends := rest, count := ((s.sns sn).count + 1) % 65536 }).apply s) = false := htrip
    rw [(agree_of_reaches hlate _).out rfl, applyAll_cons, applyAll_cons, applyAll_nil, emit_of_leaves (.inl htrip')]
    rfl

/-- Settles O20: each row by the branch that the conditions name. -/
theorem salTraffic : Obligations.SalTraffic := by
  refine ⟨fun n at4 bytes s hready hbad => ⟨_, rfl, run_salPacket_of_damaged hready hbad⟩,
    fun n at4 bytes p s hready hgood => ⟨seqGap (s.sal n).rxSeq p.seq, outcome_salReceive_of_good hready hgood, fun h => ?_, fun q h hq => ?_⟩,
    fun n bytes p s hready hgood hfirst => ?_, fun sn f s hf hearly hpair => ?_, fun sn f s hf hearly => ?_, fun sn s hnone => ?_,
    fun n c s hbc hsent htrip => ⟨_, rfl, run_salBcTimeout_of_sent hbc hsent htrip⟩,
    fun n c s hbc hsent => ⟨_, rfl, run_salBcTimeout_of_last hbc hsent⟩, fun sn s htarget => ?_,
    fun n falling widthNs s hwidth hnone hen hedge hroom => ⟨(actTrigInEdge n falling widthNs).run s, rfl, ?_⟩,
    fun n falling widthNs s hwidth => ⟨(actTrigInEdge n falling widthNs).run s, rfl, ?_⟩,
    fun sn at16 late rest s h htrip => ⟨_, rfl, run_salTriggerSend_of_due h htrip⟩⟩
  · rw [h, seqGap]
  · rw [h, seqGap_of_next hq]
  · have hreply := outcome_salReceive_of_good (n := n) (work := takeReply n) hready hgood
    rw [hfirst, seqGap] at hreply
    exact hreply
  · show Host.Outcome.next ((actSalPairWaitTimeout sn).run s) = _
    rw [run_congr (actSalPairWaitTimeout_of_frame hf hearly hpair), run_acts_cons, run_acts_cons, run_acts_nil, run_eff]
  · show Host.Outcome.next ((endFrame sn).run s) = _
    rw [run_congr (endFrame_of_early hf hearly)]
  · show (endFrame sn).outcome s = _
    rw [Act.outcome_eq, endFrame, hnone, applyAll_nil]
  · show (actSalUpstreamTrigger sn).outcome s = _
    rw [Act.outcome_eq, actSalUpstreamTrigger, htarget, actsFor, List.map_cons, List.map_nil, ← Act.run_eq, run_acts_cons, run_acts_nil]
  · rw [Act.run_eq, actTrigInEdge_of_capture hwidth hnone hen hedge hroom]
    exact applyAll_captureEffects hroom _ s
  · rw [Act.run_eq, actTrigInEdge, if_pos hwidth]
    exact ⟨(agree_applyAll _ s).regs rfl, (agree_applyAll _ s).tim rfl, applyAll_sameStores rfl s⟩

end Sys2Proof.SensorTraffic
end

section
/-! The tasks of the clip store: how they start, and what issuing their pieces leaves (R574 to R576). -/
open Sys2Proof Sys2Proof.Machine Sys2Proof.Reads Sys2Proof.Spans Sys2Proof.RecoveryRows

-- Proofs that wait side by side for the kernel would not fit into the memory of one compile.
set_option Elab.async false

namespace Sys2Proof.TaskRows

/-! ### Registers of a task -/

theorem covers_task_done (f : Fn) : covers (regMask (Reg.CST_TASK_STATUS f)) Fld.CST_TASK_STATUS.DONE = true :=
  covers_word (b := 0xC0018) (st := 0x40) (c := 64) (by decide +kernel) f.isLt

theorem covers_task_busy (f : Fn) : covers (regMask (Reg.CST_TASK_STATUS f)) Fld.CST_TASK_STATUS.BUSY = true :=
  covers_word (b := 0xC0018) (st := 0x40) (c := 64) (by decide +kernel) f.isLt

theorem covers_task_goLost (f : Fn) : covers (regMask (Reg.CST_TASK_STATUS f)) Fld.CST_TASK_STATUS.GO_LOST = true :=
  covers_word (b := 0xC0018) (st := 0x40) (c := 64) (by decide +kernel) f.isLt

theorem covers_task_status (f : Fn) : covers (regMask (Reg.CST_TASK_STATUS f)) Fld.CST_TASK_STATUS.STATUS = true :=
  covers_word (b := 0xC0018) (st := 0x40) (c := 64) (by decide +kernel) f.isLt

theorem covers_task_go (f : Fn) : covers (regMask (Reg.CST_TASK_CMD f)) Fld.CST_TASK_CMD.GO = true :=
  covers_word (b := 0xC0000) (st := 0x40) (c := 64) (by decide +kernel) f.isLt

theorem regMask_taskResult (f : Fn) : regMask (Reg.CST_TASK_RESULT f) = 0xFFFFFFFF :=
  regMask_word (b := 0xC001C) (st := 0x40) (c := 64) (by decide +kernel) f.isLt

/-- What is found after a change of one entry, at that entry. -/
theorem find_alter_same {α : Type} (m : FMap α) (k : Nat) (g : α → α) : (m.alter k g).find k = (m.find k).map g := by
  unfold FMap.alter
  split
  · next v h => rw [FMap.find_put_same, h, Option.map_some]
  · next h => rw [h, Option.map_none]

/-- What is found after a change of one entry, at another. -/
theorem find_alter_ne {α : Type} (m : FMap α) {j k : Nat} (h : j ≠ k) (g : α → α) : (m.alter k g).find j = m.find j := by
  unfold FMap.alter
  split
  · exact FMap.find_put_ne m h _
  · rfl

theorem task_of_cst {s t : State} (h : t.cst = s.cst) (f : Nat) : t.task f = s.task f := by rw [State.task, h, State.task]

theorem task_effTask_same (f : Nat) (g : Task → Task) (s : State) : ((effTask f g).apply s).task f = (s.task f).map g := find_alter_same ..

/-! ### Issuing pieces -/

/-- The effects that issuing pieces is made of (R576, R579). -/
inductive IssueEff : Eff → Prop
  | power (v : Nat) : IssueEff (.fld Reg.CST_STORE_STAT Fld.CST_STORE_STAT.PSTATE v)
  | exits : IssueEff (.count Prm.CST_PS_EXITS 1)
  | delayed : IssueEff (.count Prm.CST_DELAYED_REPLIES 1)
  | drive (d : Nat) (v : Word) : IssueEff (.prm (Prm.DRV_STATE d) v)
  | issued (f lba : Nat) : IssueEff (effTask f fun t =>
      { t with pieces := t.pieces.map fun q => if q.lba = lba then { q with issued := true } else q })
  | served (f : Nat) : IssueEff (effCst fun c => { c with lastServed := f })
  | emit (o : Out) : IssueEff (.emit o)

theorem only_drvPower (st : Nat) : Only IssueEff (drvPower st) := fun s e he => by
  obtain ⟨d, -, rfl⟩ := List.mem_map.mp he
  exact .drive _ _

theorem only_wakeStore : Only IssueEff wakeStore := fun s e he => by
  unfold wakeStore at he
  split at he
  · cases he
  · obtain he | he := List.mem_append.mp he
    · simp only [List.mem_cons, List.not_mem_nil, or_false] at he
      obtain rfl | rfl | rfl := he
      · exact .power _
      · exact .exits
      · exact .delayed
    · exact only_drvPower 0 s e he

theorem issueEff_of_mem_pieceCommand {s : State} {t : Task} {p : Piece} {e : Eff} (he : e ∈ pieceCommand s t p) : IssueEff e := by
  unfold pieceCommand at he
  split at he
  · obtain ⟨d, -, rfl⟩ := List.mem_map.mp he
    exact .emit _
  · obtain rfl := List.mem_singleton.mp he
    exact .emit _

theorem only_issueOne (f : Nat) : Only IssueEff (issueOne f) := fun s e he => by
  unfold issueOne at he
  split at he
  · cases he
  · split at he
    · obtain rfl | he := List.mem_cons.mp he
      · exact .issued _ _
      · exact issueEff_of_mem_pieceCommand he
    · cases he

theorem only_issueRound : Only IssueEff issueRound := fun s e he => by
  unfold issueRound at he
  dsimp only at he
  split at he
  · cases he
  · split at he
    · cases he
    · refine Only.cons only_wakeStore (.cons (.actsFor only_issueOne) (.cons (fun _ e he => ?_) .nil)) s e he
      obtain rfl := List.mem_singleton.mp he
      exact .served _

theorem only_replicate {P : Eff → Prop} {a : Act} (h : Only P a) (n : Nat) : Only P (acts (List.replicate n a)) := by
  induction n with
  | zero => exact .nil
  | succ n ih => exact .cons h ih

theorem only_issuePieces : Only IssueEff issuePieces := only_replicate only_issueRound 64

theorem every_issuePieces {p : Eff → Bool} (h : ∀ e, IssueEff e → p e = true) : Every p issuePieces := fun s =>
  List.all_eq_true.mpr fun e he => h e (only_issuePieces s e he)

theorem reaches_issuePieces : Every (reaches [.regs, .prms, .cst, .out]) issuePieces := every_issuePieces fun e he => by cases he <;> rfl

theorem rd_issuePieces {a : Nat} (ha : Reg.CST_STORE_STAT ≠ a) (s : State) : (issuePieces.run s).rd a = s.rd a :=
  (every_issuePieces (p := sparesReg a) fun e he => by
    cases he with
    | power v => exact bne_iff_ne.mpr ha
    | _ => rfl).rd s

theorem pn_issuePieces {id : Nat} (hc : copyFind id prmCopies = none) (hid : id < Prm.CST_PS_EXITS) (s : State) :
    (issuePieces.run s).pn id = s.pn id :=
  (every_issuePieces (p := sparesPrm id) fun e he => by
    unfold Prm.CST_PS_EXITS at hid
    cases he with
    | exits => simp only [sparesPrm, Prm.CST_PS_EXITS, bne_iff_ne]; omega
    | delayed => simp only [sparesPrm, Prm.CST_DELAYED_REPLIES, bne_iff_ne]; omega
    | drive d v => simp only [sparesPrm, Prm.DRV_STATE, bne_iff_ne]; omega
    | _ => rfl).pn hc s

/-- What issuing pieces leaves of the clip store: the drives and their aborts, and of every task all but which pieces are issued. -/
def Issues (s t : State) : Prop :=
  t.cst.disk = s.cst.disk ∧ t.cst.aborting = s.cst.aborting ∧
    ∀ f x, s.task f = some x → ∃ y, t.task f = some y ∧ y = { x with pieces := y.pieces } ∧ (x.pieces = [] → y.pieces = [])

theorem Issues.refl (s : State) : Issues s s := ⟨rfl, rfl, fun _ x h => ⟨x, h, rfl, id⟩⟩

theorem Issues.trans {s t u : State} (h : Issues s t) (h' : Issues t u) : Issues s u := by
  obtain ⟨hdisk, habort, htask⟩ := h
  obtain ⟨hdisk', habort', htask'⟩ := h'
  refine ⟨hdisk'.trans hdisk, habort'.trans habort, fun f x hx => ?_⟩
  obtain ⟨y, hy, hxy, hnil⟩ := htask f x hx
  obtain ⟨z, hz, hyz, hnil'⟩ := htask' f y hy
  exact ⟨z, hz, by rw [hyz, hxy], fun h => hnil' (hnil h)⟩

theorem issues_of_cst {s t : State} (h : t.cst = s.cst) : Issues s t :=
  ⟨by rw [h], by rw [h], fun f x hx => ⟨x, (task_of_cst h f).trans hx, rfl, id⟩⟩

theorem issues_apply {e : Eff} (he : IssueEff e) (s : State) : Issues s (e.apply s) := by
  cases he with
  | issued f lba =>
    refine ⟨rfl, rfl, fun g x hx => ?_⟩
    by_cases h : g = f
    · subst h
      exact ⟨_, by rw [task_effTask_same, hx]; rfl, rfl, fun hnil => by simp [hnil]⟩
    · exact ⟨x, (find_alter_ne _ h _).trans hx, rfl, id⟩
  | served f => exact ⟨rfl, rfl, fun g x hx => ⟨x, hx, rfl, id⟩⟩
  | _ => exact issues_of_cst ((agree_apply _ s).cst rfl)

theorem issues_applyAll {es : List Eff} (h : ∀ e ∈ es, IssueEff e) (s : State) : Issues s (applyAll es s) := by
  induction es generalizing s with
  | nil => exact .refl s
  | cons e t ih =>
    obtain ⟨he, ht⟩ := List.forall_mem_cons.mp h
    exact (issues_apply he s).trans (ih ht _)

theorem issues_issuePieces (s : State) : Issues s (issuePieces.run s) := issues_applyAll (only_issuePieces s) s

/-! ### Starts -/

/-- The task that a GO describes. -/
def taskOf (s : State) (f : Fn) (v : Word) : Task :=
  ⟨getFld v Fld.CST_TASK_CMD.OP, getFld v Fld.CST_TASK_CMD.FUA == 1, getFld v Fld.CST_TASK_CMD.NS, s.rd64 (Reg.CST_TASK_LBA_LO f),
    s.fld (Reg.CST_TASK_BLOCKS f) Fld.CST_TASK_BLOCKS.BLOCKS, s.rd64 (Reg.CST_TASK_ADDR_LO f),
    if getFld v Fld.CST_TASK_CMD.OP = OP_FLUSH then [⟨0, 0, false⟩]
    else cutPieces (s.fld (Reg.CST_TASK_BLOCKS f) Fld.CST_TASK_BLOCKS.BLOCKS) (s.rd64 (Reg.CST_TASK_LBA_LO f))
      (s.fld (Reg.CST_TASK_BLOCKS f) Fld.CST_TASK_BLOCKS.BLOCKS), 0, none, s.cst.order⟩

/-- The registers and the task of a GO that passed the checks. -/
def startEffects (f : Fn) (v : Word) (x : Task) : List Eff :=
  [.reg (Reg.CST_TASK_CMD f) v, .fld (Reg.CST_TASK_STATUS f) Fld.CST_TASK_STATUS.BUSY 1,
    effCst fun c => { c with tasks := c.tasks.put f x, order := c.order + 1 }]

theorem cst_startEffects (f : Fn) (v : Word) (x : Task) (s : State) :
    (applyAll (startEffects f v x) s).cst = { s.cst with tasks := s.cst.tasks.put f x, order := s.cst.order + 1 } := by
  have h : (applyAll [.reg (Reg.CST_TASK_CMD f) v, .fld (Reg.CST_TASK_STATUS f) Fld.CST_TASK_STATUS.BUSY 1] s).cst = s.cst :=
    (agree_applyAll _ s).cst rfl
  rw [← h]
  rfl

/-- The counts that follow a task's start. -/
def showInflight : Act := fun s => [.fld Reg.CST_STORE_STAT Fld.CST_STORE_STAT.INFLIGHT s.cst.tasks.size,
  .prm Prm.CST_INFLIGHT_MAX (w32 (max (s.pn Prm.CST_INFLIGHT_MAX) s.cst.tasks.size))]

/-- An opcode that names a kind of task. -/
theorem row_of_op {op : Nat} (h : op ∈ [OP_READ, OP_WRITE, OP_FLUSH, OP_DEALLOCATE]) : (if op = 0 ∨ 4 < op then OP_READ else op) = op := by
  revert op
  decide

theorem taskGo_of_pass {f : Fn} {v : Word} {s : State} (hop : getFld v Fld.CST_TASK_CMD.OP ∈ [OP_READ, OP_WRITE, OP_FLUSH, OP_DEALLOCATE])
    (hgo : getFld v Fld.CST_TASK_CMD.GO = 1) (hbusy : s.flag (Reg.CST_TASK_STATUS f) Fld.CST_TASK_STATUS.BUSY = false)
    (hpass : taskChecks s f v = none) :
    taskGo f v (getFld v Fld.CST_TASK_CMD.OP) s = acts [eff (startEffects f v (taskOf s f v)), showInflight, issuePieces] s := by
  simp only [taskGo, row_of_op hop, hgo, hbusy, hpass, Nat.one_ne_zero, ne_eq, not_true_eq_false, or_self, if_false, Bool.false_eq_true,
    startEffects, taskOf] <;> rfl

/-- R574 to R576: the task stands, and only its pieces are on their way. -/
theorem run_taskGo_of_pass {f : Fn} {v : Word} {s : State} (hop : getFld v Fld.CST_TASK_CMD.OP ∈ [OP_READ, OP_WRITE, OP_FLUSH, OP_DEALLOCATE])
    (hgo : getFld v Fld.CST_TASK_CMD.GO = 1) (hbusy : s.flag (Reg.CST_TASK_STATUS f) Fld.CST_TASK_STATUS.BUSY = false)
    (hpass : taskChecks s f v = none) :
    let t := (taskGo f v (getFld v Fld.CST_TASK_CMD.OP)).run s
    t.flag (Reg.CST_TASK_STATUS f) Fld.CST_TASK_STATUS.BUSY = true ∧
      (∃ y, t.task f = some y ∧ y = { taskOf s f v with pieces := y.pieces }) ∧
      t.devMem = s.devMem ∧ t.hostMem = s.hostMem ∧ t.pageMem = s.pageMem ∧ t.cst.disk = s.cst.disk := by
  have hne : Reg.CST_STORE_STAT ≠ Reg.CST_TASK_STATUS f := by unfold Reg.CST_STORE_STAT Reg.CST_TASK_STATUS; omega
  have hstart := agree_applyAll (startEffects f v (taskOf s f v)) s
  have hshow : Every (reaches [.regs, .prms]) showInflight := fun _ => rfl
  have hshowReg : Every (sparesReg (Reg.CST_TASK_STATUS f)) showInflight := fun _ => by simp [showInflight, sparesReg, hne]
  generalize hu : applyAll (startEffects f v (taskOf s f v)) s = u at hstart
  obtain ⟨hdisk, -, htask⟩ := issues_issuePieces (showInflight.run u)
  have hmid := (reaches_issuePieces.agree (showInflight.run u))
  have hcst : (showInflight.run u).cst = u.cst := (hshow.agree u).cst rfl
  have hutask : u.task f = some (taskOf s f v) := by
    rw [← hu, State.task, cst_startEffects, FMap.find_put_same]
  dsimp only
  rw [run_congr (taskGo_of_pass hop hgo hbusy hpass), run_acts_cons, run_acts_cons, run_acts_cons, run_acts_nil, run_eff, hu]
  refine ⟨?_, ?_, ?_, ?_, ?_, ?_⟩
  · rw [flag_of_rd (rd_issuePieces hne _), flag_of_rd (hshowReg.rd u), ← hu, startEffects, applyAll_cons, applyAll_cons, applyAll_cons,
      applyAll_nil, flag_apply rfl, flag_fld_same (covers_task_busy f) rfl]
    rfl
  · obtain ⟨y, hy, hxy, -⟩ := htask f (taskOf s f v) ((task_of_cst hcst f).trans hutask)
    exact ⟨y, hy, hxy⟩
  · rw [hmid.devMem rfl, (hshow.agree u).devMem rfl, hstart.devMem rfl]
  · rw [hmid.hostMem rfl, (hshow.agree u).hostMem rfl, hstart.hostMem rfl]
  · rw [hmid.pageMem rfl, (hshow.agree u).pageMem rfl, hstart.pageMem rfl]
  · rw [hdisk, hcst, ← hu, cst_startEffects]

/-- Settles O37: the four rows are one act, and issuing pieces leaves the task's values. -/
theorem taskStarts : Obligations.TaskStarts := by
  refine ⟨fun f v s ⟨hgo, hop, hbusy, hpass⟩ => ?_, fun f v s ⟨hgo, hop, hbusy, hpass⟩ => ?_, fun f v s ⟨hgo, hop, hbusy, hpass⟩ => ?_,
    fun f v s ⟨hgo, hop, hbusy, hpass⟩ => ?_⟩
  all_goals
    obtain ⟨hflag, ⟨y, hy, hxy⟩, hrest⟩ := run_taskGo_of_pass (by rw [hop]; decide) hgo hbusy hpass
    rw [hop] at hflag hy hrest
    rw [hxy] at hy
    exact ⟨_, rfl, hflag, ⟨_, hy, hop, rfl, rfl, rfl, rfl, rfl, rfl, rfl, rfl⟩, hrest⟩

end Sys2Proof.TaskRows
end

section
/-! Fields and registers that a list of effects loads, or leaves. -/
open Sys2Proof Sys2Proof.Machine Sys2Proof.Reads Sys2Proof.Spans Sys2Proof.ServiceTurn

-- Proofs that wait side by side for the kernel would not fit into the memory of one compile.
set_option Elab.async false

namespace Sys2Proof.FieldReads

/-- The effect leaves a field of the register at an offset. -/
def sparesFld (a : Nat) (g : Fld) : Eff → Bool
  | .reg off _ => off != a
  | .fld off f _ | .inc off f _ => off != a || (decide (f.lo ≤ f.hi + 1) && (decide (f.hi < g.lo) || decide (g.hi < f.lo)))
  | .raise _ => !eventWord a
  | .powerOn | .packageReset .. => false
  | _ => true

theorem fld_apply_of_spares {a : Nat} {g : Fld} (hcov : covers (regMask a) g = true) {e : Eff} (h : sparesFld a g e = true) (s : State) :
    (e.apply s).fld a g = s.fld a g := by
  have hfld (off : Nat) (f : Fld) (v : Nat) (h : sparesFld a g (.fld off f v) = true) : ((Eff.fld off f v).apply s).fld a g = s.fld a g := by
    by_cases hoff : off = a
    · subst hoff
      obtain ⟨hf, hdis⟩ : f.lo ≤ f.hi + 1 ∧ (f.hi < g.lo ∨ g.hi < f.lo) := by simpa [sparesFld] using h
      exact fld_fld_other _ _ _ _ _ hf hcov hdis
    · exact fld_fld_ne (Ne.symm hoff) ..
  cases e
  case reg => exact fld_reg_ne (bne_iff_ne.mp h).symm ..
  case fld => exact hfld _ _ _ h
  case inc => exact hfld _ _ _ h
  case raise => exact fld_raise (by simpa [sparesFld] using h) ..
  case powerOn => cases h
  case packageReset => cases h
  all_goals exact fld_apply rfl ..

theorem fld_applyAll_of_spares {a : Nat} {g : Fld} (hcov : covers (regMask a) g = true) {es : List Eff} (h : es.all (sparesFld a g) = true)
    (s : State) : (applyAll es s).fld a g = s.fld a g :=
  applyAll_keeps_of_mem (·.fld a g) (fun e he => fld_apply_of_spares hcov (List.all_eq_true.mp h e he)) s

/-- A field that one effect loads and those after it leave. -/
theorem fld_applyAll_of_fld {a : Nat} {g : Fld} (hcov : covers (regMask a) g = true) (pre : List Eff) (v : Nat) {post : List Eff}
    (h : post.all (sparesFld a g) = true) (s : State) : (applyAll (pre ++ .fld a g v :: post) s).fld a g = v % 2 ^ (g.hi + 1 - g.lo) := by
  rw [applyAll_append, applyAll_cons, fld_applyAll_of_spares hcov h, fld_fld_same _ _ _ _ hcov]

theorem flag_applyAll_of_fld {a : Nat} {g : Fld} (hcov : covers (regMask a) g = true) (hw : g.hi = g.lo) (pre : List Eff) (v : Nat)
    {post : List Eff} (h : post.all (sparesFld a g) = true) (s : State) :
    (applyAll (pre ++ .fld a g v :: post) s).flag a g = (v % 2 == 1) := by
  rw [State.flag, fld_applyAll_of_fld hcov pre v h, hw, Nat.add_sub_cancel_left, Nat.pow_one]

/-- A register that one effect loads and those after it leave. -/
theorem rd_applyAll_of_reg {a : Nat} (pre : List Eff) (v : Word) {post : List Eff} (h : post.all (sparesReg a) = true) (s : State) :
    (applyAll (pre ++ .reg a v :: post) s).rd a = v &&& regMask a := by
  rw [applyAll_append, applyAll_cons, rd_applyAll_of_spares h, rd_reg_same]

end Sys2Proof.FieldReads
end

section
/-! The pieces of a clip-store task and its end (R574 to R580). -/
open Sys2Proof Sys2Proof.Machine Sys2Proof.Reads Sys2Proof.Spans Sys2Proof.RecoveryRows Sys2Proof.Camera Sys2Proof.TaskRows Sys2Proof.FieldReads

-- Proofs that wait side by side for the kernel would not fit into the memory of one compile.
set_option Elab.async false

namespace Sys2Proof.TaskFinish

/-! ### The end of a task -/

/-- What the end of a task shows, beside its messages (R577). -/
def endEffects (f st done err left : Nat) : List Eff :=
  [.fld (Reg.CST_TASK_STATUS f) Fld.CST_TASK_STATUS.STATUS st, .reg (Reg.CST_TASK_RESULT f) (w32 done),
   .reg (Reg.CST_TASK_ERR_LBA_LO f) (w32 err), .reg (Reg.CST_TASK_ERR_LBA_LO f + 4) (w32 (err / 2 ^ 32)),
   .fld (Reg.CST_TASK_STATUS f) Fld.CST_TASK_STATUS.BUSY 0, .fld (Reg.CST_TASK_CMD f) Fld.CST_TASK_CMD.GO 0,
   .fld (Reg.CST_TASK_STATUS f) Fld.CST_TASK_STATUS.DONE 1,
   effCst (fun c => { c with tasks := c.tasks.del f }),
   .fld Reg.CST_STORE_STAT Fld.CST_STORE_STAT.INFLIGHT left,
   .count (if st = ST_OK then Prm.CST_TASKS_OK else Prm.CST_TASKS_FAILED) 1]

theorem endTask_eq (f st done err : Nat) (s : State) : ∃ l : List Out,
    endTask f st done err s = endEffects f st done err (s.cst.tasks.del f).size ++ l.map .emit := ⟨_, rfl⟩

theorem reaches_emits (l : List Out) : (l.map Eff.emit).all (reaches [.out]) = true := all_map_of_forall fun _ _ => rfl

/-- The registers of function f show a task that has ended (R577). -/
def Ended (f : Fn) (st done : Nat) (t : State) : Prop :=
  t.fld (Reg.CST_TASK_STATUS f) Fld.CST_TASK_STATUS.STATUS = st % 65536 ∧ t.flag (Reg.CST_TASK_STATUS f) Fld.CST_TASK_STATUS.DONE = true ∧
    t.flag (Reg.CST_TASK_STATUS f) Fld.CST_TASK_STATUS.BUSY = false ∧ t.flag (Reg.CST_TASK_CMD f) Fld.CST_TASK_CMD.GO = false ∧
    t.rd (Reg.CST_TASK_RESULT f) = w32 done ∧ t.rd64 (Reg.CST_TASK_ERR_LBA_LO f) = 0

theorem ended_endEffects (f : Fn) (st done left : Nat) (s : State) : Ended f st done (applyAll (endEffects f st done 0 left) s) := by
  have hlt := f.isLt
  have hzero (m : Word) : (w32 0 &&& m).toNat = 0 := by simp [w32]
  refine ⟨?_, ?_, ?_, ?_, ?_, ?_⟩
  · refine fld_applyAll_of_fld (covers_task_status f) [] st ?_ s
    simp [sparesFld, effCst, Reg.CST_TASK_STATUS, Reg.CST_TASK_CMD, Reg.CST_TASK_RESULT, Reg.CST_TASK_ERR_LBA_LO, Reg.CST_STORE_STAT,
      Fld.CST_TASK_STATUS.STATUS, Fld.CST_TASK_STATUS.BUSY, Fld.CST_TASK_STATUS.DONE]
    omega
  · refine flag_applyAll_of_fld (covers_task_done f) rfl ((endEffects f st done 0 left).take 6) 1 ?_ s
    simp [sparesFld, effCst, Reg.CST_TASK_STATUS, Reg.CST_STORE_STAT]
    omega
  · refine flag_applyAll_of_fld (covers_task_busy f) rfl ((endEffects f st done 0 left).take 4) 0 ?_ s
    simp [sparesFld, effCst, Reg.CST_TASK_STATUS, Reg.CST_TASK_CMD, Reg.CST_STORE_STAT, Fld.CST_TASK_STATUS.BUSY, Fld.CST_TASK_STATUS.DONE]
    omega
  · refine flag_applyAll_of_fld (covers_task_go f) rfl ((endEffects f st done 0 left).take 5) 0 ?_ s
    simp [sparesFld, effCst, Reg.CST_TASK_STATUS, Reg.CST_TASK_CMD, Reg.CST_STORE_STAT]
    omega
  · refine (rd_applyAll_of_reg ((endEffects f st done 0 left).take 1) (w32 done) ?_ s).trans ?_
    · simp [sparesReg, effCst, Reg.CST_TASK_STATUS, Reg.CST_TASK_CMD, Reg.CST_TASK_RESULT, Reg.CST_TASK_ERR_LBA_LO, Reg.CST_STORE_STAT]
      omega
    · rw [regMask_taskResult]
      exact BitVec.and_allOnes
  · rw [State.rd64]
    have hlo := rd_applyAll_of_reg (a := Reg.CST_TASK_ERR_LBA_LO f) ((endEffects f st done 0 left).take 2) (w32 0)
      (post := (endEffects f st done 0 left).drop 3) (by
        simp [endEffects, sparesReg, effCst, Reg.CST_TASK_STATUS, Reg.CST_TASK_CMD, Reg.CST_TASK_ERR_LBA_LO, Reg.CST_STORE_STAT]
        omega) s
    have hhi := rd_applyAll_of_reg (a := Reg.CST_TASK_ERR_LBA_LO f + 4) ((endEffects f st done 0 left).take 3) (w32 0)
      (post := (endEffects f st done 0 left).drop 4) (by
        simp [endEffects, sparesReg, effCst, Reg.CST_TASK_STATUS, Reg.CST_TASK_CMD, Reg.CST_TASK_ERR_LBA_LO, Reg.CST_STORE_STAT]
        omega) s
    have hlo' : (applyAll (endEffects f st done 0 left) s).rd (Reg.CST_TASK_ERR_LBA_LO f) = _ := hlo
    have hhi' : (applyAll (endEffects f st done 0 left) s).rd (Reg.CST_TASK_ERR_LBA_LO f + 4) = _ := hhi
    simp only [hlo', hhi', hzero, Nat.mul_zero, Nat.add_zero]

theorem cst_endEffects (f st done err left : Nat) (s : State) :
    (applyAll (endEffects f st done err left) s).cst = { s.cst with tasks := s.cst.tasks.del f } := by
  have hpost : [Eff.fld Reg.CST_STORE_STAT Fld.CST_STORE_STAT.INFLIGHT left,
      .count (if st = ST_OK then Prm.CST_TASKS_OK else Prm.CST_TASKS_FAILED) 1].all (reaches [.regs, .prms]) = true := rfl
  have hpre : ((endEffects f st done err left).take 7).all (reaches [.regs]) = true := rfl
  show (applyAll ((endEffects f st done err left).take 7 ++ effCst (fun c => { c with tasks := c.tasks.del f }) :: _) s).cst = _
  rw [applyAll_append, applyAll_cons, (agree_of_reaches hpost _).cst rfl, ← (agree_of_reaches hpre s).cst rfl]
  rfl

theorem reaches_endEffects (f st done err left : Nat) : (endEffects f st done err left).all (reaches [.regs, .cst, .prms]) = true := rfl

theorem ended_of_regs {f : Fn} {st done : Nat} {s t : State} (h : t.regs = s.regs) (hs : Ended f st done s) : Ended f st done t := by
  simpa only [Ended, State.rd64, State.flag, State.fld, State.rd, h] using hs

/-- R577: the task ends: its registers show the result, and the task is gone. -/
theorem applyAll_end (f : Fn) (st done left : Nat) (l : List Out) (s : State) :
    let t := applyAll (endEffects f st done 0 left ++ l.map .emit) s
    Ended f st done t ∧ t.cst = { s.cst with tasks := s.cst.tasks.del f } ∧ t.devMem = s.devMem ∧ t.hostMem = s.hostMem ∧
      t.pageMem = s.pageMem := by
  have hbody := agree_of_reaches (reaches_endEffects f st done 0 left) s
  have hemit := agree_of_reaches (reaches_emits l) (applyAll (endEffects f st done 0 left) s)
  dsimp only
  rw [applyAll_append]
  exact ⟨ended_of_regs (hemit.regs rfl) (ended_endEffects f st done left s), (hemit.cst rfl).trans (cst_endEffects ..),
    (hemit.devMem rfl).trans (hbody.devMem rfl), (hemit.hostMem rfl).trans (hbody.hostMem rfl),
    (hemit.pageMem rfl).trans (hbody.pageMem rfl)⟩

/-! ### Tasks that do not start -/

/-- R574: a GO while a task runs is lost. -/
theorem taskGo_of_busy {f : Fn} {v : Word} {s : State} (hgo : getFld v Fld.CST_TASK_CMD.GO = 1) (hop : getFld v Fld.CST_TASK_CMD.OP = OP_READ)
    (hbusy : s.flag (Reg.CST_TASK_STATUS f) Fld.CST_TASK_STATUS.BUSY = true) : taskGo f v OP_READ s =
      [.reg (Reg.CST_TASK_CMD f) v, .fld (Reg.CST_TASK_STATUS f) Fld.CST_TASK_STATUS.GO_LOST 1, .count Prm.CST_GO_LOST 1] := by
  simp only [taskGo, hgo, hop, hbusy, row_of_op (op := OP_READ) (by decide), Nat.one_ne_zero, ne_eq, not_true_eq_false, or_self, if_false,
    if_true]

theorem run_taskGo_of_busy {f : Fn} {v : Word} {s : State} (hgo : getFld v Fld.CST_TASK_CMD.GO = 1)
    (hop : getFld v Fld.CST_TASK_CMD.OP = OP_READ) (hbusy : s.flag (Reg.CST_TASK_STATUS f) Fld.CST_TASK_STATUS.BUSY = true) :
    let t := (taskGo f v OP_READ).run s
    t.flag (Reg.CST_TASK_STATUS f) Fld.CST_TASK_STATUS.GO_LOST = true ∧ t.pn Prm.CST_GO_LOST = satAdd 0xFFFFFFFF (s.pn Prm.CST_GO_LOST) 1 ∧
      sameStores s t := by
  dsimp only
  rw [Act.run_eq, taskGo_of_busy hgo hop hbusy]
  refine ⟨flag_applyAll_of_fld (covers_task_goLost f) rfl [_] 1 rfl s, ?_, applyAll_sameStores rfl s⟩
  have hprms := (agree_applyAll [.reg (Reg.CST_TASK_CMD f) v, .fld (Reg.CST_TASK_STATUS f) Fld.CST_TASK_STATUS.GO_LOST 1] s).prms rfl
  rw [applyAll_cons, applyAll_cons, applyAll_cons, applyAll_nil, pn_count_same (by decide +kernel)]
  exact congrArg (satAdd 0xFFFFFFFF · 1) (pn_congr (by decide +kernel) hprms)

theorem taskGo_of_fault {f : Fn} {v : Word} {st : Nat} {s : State} (hgo : getFld v Fld.CST_TASK_CMD.GO = 1)
    (hop : getFld v Fld.CST_TASK_CMD.OP = OP_WRITE) (hbusy : s.flag (Reg.CST_TASK_STATUS f) Fld.CST_TASK_STATUS.BUSY = false)
    (hfault : taskChecks s f v = some st) : taskGo f v OP_WRITE s = .reg (Reg.CST_TASK_CMD f) v :: endTask f st 0 0 s := by
  simp only [taskGo, hgo, hop, hbusy, hfault, row_of_op (op := OP_WRITE) (by decide), Nat.one_ne_zero, ne_eq, not_true_eq_false, or_self,
    if_false, Bool.false_eq_true]

/-- R575: a task that a check refuses ends at once. -/
theorem run_taskGo_of_fault {f : Fn} {v : Word} {st : Nat} {s : State} (hgo : getFld v Fld.CST_TASK_CMD.GO = 1)
    (hop : getFld v Fld.CST_TASK_CMD.OP = OP_WRITE) (hbusy : s.flag (Reg.CST_TASK_STATUS f) Fld.CST_TASK_STATUS.BUSY = false)
    (hfault : taskChecks s f v = some st) :
    let t := (taskGo f v OP_WRITE).run s
    Ended f st 0 t ∧ t.devMem = s.devMem ∧ t.hostMem = s.hostMem ∧ t.pageMem = s.pageMem ∧ t.cst.disk = s.cst.disk := by
  obtain ⟨l, hl⟩ := endTask_eq f st 0 0 s
  have hstore := agree_apply (.reg (Reg.CST_TASK_CMD f) v) s
  obtain ⟨hend, hcst, hdev, hhost, hpage⟩ := applyAll_end f st 0 (s.cst.tasks.del f).size l ((Eff.reg (Reg.CST_TASK_CMD f) v).apply s)
  dsimp only
  rw [Act.run_eq, taskGo_of_fault hgo hop hbusy hfault, applyAll_cons, hl]
  refine ⟨hend, hdev.trans (hstore.devMem rfl), hhost.trans (hstore.hostMem rfl), hpage.trans (hstore.pageMem rfl), ?_⟩
  rw [hcst, hstore.cst rfl]

/-! ### Pieces -/

/-- A task after one of its pieces has ended with a status. -/
def pieceEnd (p : Piece) (st : Nat) (t : Task) : Task :=
  { t with pieces := t.pieces.filter fun q => q.lba != p.lba, done := if st = ST_OK then t.done + p.blocks else t.done,
           fail := if st = ST_OK then t.fail else noteFail t.fail p.lba st }

theorem pieces_pieceEnd {x : Task} {p : Piece} (h : x.pieces = [p]) (st : Nat) : (pieceEnd p st x).pieces = [] := by
  simp [pieceEnd, h]

/-- A task whose last piece is at the drives. -/
theorem endPiece_of_last {f : Fn} {p : Piece} {x : Task} {s : State} (hx : s.task f = some x) (hp : x.pieces = [p]) (hi : p.issued = true)
    {st : Nat} (hst : ¬(st = ST_OK ∧ x.op = OP_WRITE ∧ (firstPoison s (x.addr + (p.lba - x.lba) * BLK) (p.blocks * BLK)).isSome)) :
    endPiece f p.lba st s = (if st = ST_OK then pieceEffect f x p s else []) ++ [effTask f (pieceEnd p st)] := by
  simp only [endPiece, hx, hp, List.find?_cons, hi, beq_self_eq_true, Bool.and_self, hst, if_false] <;> rfl

theorem any_of_last {p : Piece} {x : Task} (hp : x.pieces = [p]) (hi : p.issued = true) :
    (x.pieces.any fun q => q.issued && q.lba == p.lba) = true := by
  simp [hp, hi]

theorem actCstPieceDone_of_last {f : Fn} {p : Piece} {x : Task} {s : State} (hx : s.task f = some x) (hp : x.pieces = [p])
    (hi : p.issued = true) (ok : Bool) : actCstPieceDone f p.lba ok s = acts [endPiece f p.lba (if ok then ST_OK else ST_MEDIA_ERROR),
      eff (if ok then [] else [.count Prm.CST_MEDIA_ERRS 1, .count (Prm.DRV_MEDIA_ERRS (s.driveOf p.lba)) 1]), issuePieces] s := by
  simp only [actCstPieceDone, hx, any_of_last hp hi, Bool.not_true, Bool.false_eq_true, if_false]

/-- A task with no piece is not changed by what is issued. -/
theorem task_issuePieces {f : Nat} {x : Task} {s : State} (hx : s.task f = some x) (hnil : x.pieces = []) :
    (issuePieces.run s).task f = some x := by
  obtain ⟨-, -, htask⟩ := issues_issuePieces s
  obtain ⟨y, hy, hxy, hy0⟩ := htask f x hx
  rw [hy, hxy, hy0 hnil, ← hnil]

/-- The last piece of a task ends, and the others' pieces are issued. -/
theorem run_lastPiece {f : Fn} {x : Task} {p : Piece} {st : Nat} {es mid : List Eff} {s : State} (hx : (applyAll es s).task f = some x)
    (hp : x.pieces = [p]) (hreach : mid.all (reaches [.prms, .cst, .out]) = true)
    (hmid : ∀ u, (applyAll mid u).task f = u.task f ∧ (applyAll mid u).cst.disk = u.cst.disk) :
    let t := issuePieces.run (applyAll mid (applyAll (es ++ [effTask f (pieceEnd p st)]) s))
    t.task f = some (pieceEnd p st x) ∧ t.cst.disk = (applyAll es s).cst.disk ∧ t.devMem = (applyAll es s).devMem ∧
      t.hostMem = (applyAll es s).hostMem ∧ t.pageMem = (applyAll es s).pageMem := by
  dsimp only
  rw [applyAll_append, applyAll_cons, applyAll_nil]
  generalize applyAll es s = u at hx
  have hend := agree_apply (effTask f (pieceEnd p st)) u
  have hmids := agree_of_reaches hreach ((effTask f (pieceEnd p st)).apply u)
  have hissue := reaches_issuePieces.agree (applyAll mid ((effTask f (pieceEnd p st)).apply u))
  obtain ⟨htask, hdisk⟩ := hmid ((effTask f (pieceEnd p st)).apply u)
  obtain ⟨hdisk', -, -⟩ := issues_issuePieces (applyAll mid ((effTask f (pieceEnd p st)).apply u))
  refine ⟨task_issuePieces ?_ (pieces_pieceEnd hp st), hdisk'.trans hdisk, ?_, ?_, ?_⟩
  · rw [htask, task_effTask_same, hx, Option.map_some]
  · rw [hissue.devMem rfl, hmids.devMem rfl, hend.devMem rfl]
  · rw [hissue.hostMem rfl, hmids.hostMem rfl, hend.hostMem rfl]
  · rw [hissue.pageMem rfl, hmids.pageMem rfl, hend.pageMem rfl]

theorem run_actCstPieceDone_of_last {f : Fn} {p : Piece} {x : Task} {s : State} (hx : s.task f = some x) (hp : x.pieces = [p])
    (hi : p.issued = true) (ok : Bool) : (actCstPieceDone f p.lba ok).run s = issuePieces.run (applyAll
      (if ok then [] else [.count Prm.CST_MEDIA_ERRS 1, .count (Prm.DRV_MEDIA_ERRS (s.driveOf p.lba)) 1])
      (applyAll (endPiece f p.lba (if ok then ST_OK else ST_MEDIA_ERROR) s) s)) := by
  rw [run_congr (actCstPieceDone_of_last hx hp hi ok), run_acts_cons, run_acts_cons, run_acts_cons, run_acts_nil, run_eff,
    Act.run_eq (endPiece f p.lba _)]

/-- R578: a piece of a read ends: its data lie in the stacks. -/
theorem run_pieceDone_of_read {f : Fn} {p : Piece} {x : Task} {s : State} (hx : s.task f = some x) (hp : x.pieces = [p])
    (hi : p.issued = true) (hop : x.op = OP_READ) (hdev : x.addr + (p.lba - x.lba) * BLK < 2 ^ 63) :
    let t := (actCstPieceDone f p.lba true).run s
    t.task f = some (pieceEnd p ST_OK x) ∧
      t.devMem = memWriteBytes s.devMem (x.addr + (p.lba - x.lba) * BLK) (s.cst.disk.readRun x.space p.lba p.blocks) ∧
      t.hostMem = s.hostMem ∧ t.pageMem = s.pageMem ∧ t.cst.disk = s.cst.disk := by
  have hend : endPiece f p.lba ST_OK s = [.dev (x.addr + (p.lba - x.lba) * BLK) (s.cst.disk.readRun x.space p.lba p.blocks),
      .count64 Prm.CST_READ_BLOCKS_LO p.blocks] ++ [effTask f (pieceEnd p ST_OK)] := by
    rw [endPiece_of_last hx hp hi (by simp [hop, OP_READ, OP_WRITE])]
    simp only [if_true, pieceEffect, hop, ringWrite, Nat.not_le.mpr hdev, if_false]
  have hagree := agree_applyAll [.dev (x.addr + (p.lba - x.lba) * BLK) (s.cst.disk.readRun x.space p.lba p.blocks),
      .count64 Prm.CST_READ_BLOCKS_LO p.blocks] s
  obtain ⟨htask, hdisk, hdevMem, hhost, hpage⟩ := run_lastPiece (st := ST_OK) (mid := [])
    ((task_of_cst (hagree.cst rfl) f).trans hx) hp rfl fun _ => ⟨rfl, rfl⟩
  dsimp only
  rw [run_actCstPieceDone_of_last hx hp hi true, if_pos rfl, if_pos rfl, hend]
  exact ⟨htask, hdevMem.trans rfl, hhost.trans (hagree.hostMem rfl), hpage.trans (hagree.pageMem rfl),
    hdisk.trans (by rw [hagree.cst rfl])⟩

/-- R578: a piece of a write ends: its blocks lie on the drives. -/
theorem run_pieceDone_of_write {f : Fn} {p : Piece} {x : Task} {s : State} (hx : s.task f = some x) (hp : x.pieces = [p])
    (hi : p.issued = true) (hop : x.op = OP_WRITE) (hclean : firstPoison s (x.addr + (p.lba - x.lba) * BLK) (p.blocks * BLK) = none) :
    let t := (actCstPieceDone f p.lba true).run s
    t.task f = some (pieceEnd p ST_OK x) ∧
      t.cst.disk = Disk.writeRun (f + 128 * (x.order * 2 ^ 40 + p.lba)) x.fua x.space p.blocks p.lba
        (s.ringRead (x.addr + (p.lba - x.lba) * BLK) (p.blocks * BLK)) s.cst.disk ∧
      t.devMem = s.devMem ∧ t.hostMem = s.hostMem ∧ t.pageMem = s.pageMem := by
  have hend : endPiece f p.lba ST_OK s = [effDisk (Disk.writeRun (f + 128 * (x.order * 2 ^ 40 + p.lba)) x.fua x.space p.blocks p.lba
      (s.ringRead (x.addr + (p.lba - x.lba) * BLK) (p.blocks * BLK))), .count64 Prm.CST_WRITE_BLOCKS_LO p.blocks] ++
      [effTask f (pieceEnd p ST_OK)] := by
    rw [endPiece_of_last hx hp hi (by simp [hclean])]
    simp only [if_true, pieceEffect, hop, OP_READ, OP_WRITE, Nat.reduceEqDiff, if_false]
  have hagree := agree_applyAll [effDisk (Disk.writeRun (f + 128 * (x.order * 2 ^ 40 + p.lba)) x.fua x.space p.blocks p.lba
      (s.ringRead (x.addr + (p.lba - x.lba) * BLK) (p.blocks * BLK))), .count64 Prm.CST_WRITE_BLOCKS_LO p.blocks] s
  obtain ⟨htask, hdisk, hdevMem, hhost, hpage⟩ := run_lastPiece (st := ST_OK) (mid := []) (f := f) (x := x) (p := p)
    (es := [effDisk (Disk.writeRun (f + 128 * (x.order * 2 ^ 40 + p.lba)) x.fua x.space p.blocks p.lba
      (s.ringRead (x.addr + (p.lba - x.lba) * BLK) (p.blocks * BLK))), .count64 Prm.CST_WRITE_BLOCKS_LO p.blocks]) (s := s)
    hx hp rfl fun _ => ⟨rfl, rfl⟩
  dsimp only
  rw [run_actCstPieceDone_of_last hx hp hi true, if_pos rfl, if_pos rfl, hend]
  exact ⟨htask, hdisk.trans rfl, hdevMem.trans (hagree.devMem rfl), hhost.trans (hagree.hostMem rfl), hpage.trans (hagree.pageMem rfl)⟩

/-- A piece that ends with an error leaves only the task. -/
theorem endPiece_of_error {f : Fn} {p : Piece} {x : Task} {s : State} (hx : s.task f = some x) (hp : x.pieces = [p]) (hi : p.issued = true)
    {st : Nat} (hst : st ≠ ST_OK) : endPiece f p.lba st s = [effTask f (pieceEnd p st)] := by
  rw [endPiece_of_last hx hp hi (fun h => hst h.1), if_neg hst, List.nil_append]

theorem fail_pieceEnd {p : Piece} {x : Task} {st : Nat} (hst : st ≠ ST_OK) (hfail : x.fail = none) :
    (pieceEnd p st x).fail = some (p.lba, st) := by
  simp only [pieceEnd, if_neg hst, hfail, noteFail]

/-- R577: a drive error fails the piece, and is counted. -/
theorem run_pieceDone_of_error {f : Fn} {p : Piece} {x : Task} {s : State} (hx : s.task f = some x) (hp : x.pieces = [p])
    (hi : p.issued = true) :
    let t := (actCstPieceDone f p.lba false).run s
    t.task f = some (pieceEnd p ST_MEDIA_ERROR x) ∧ t.pn Prm.CST_MEDIA_ERRS = satAdd 0xFFFFFFFF (s.pn Prm.CST_MEDIA_ERRS) 1 ∧
      t.devMem = s.devMem ∧ t.hostMem = s.hostMem ∧ t.cst.disk = s.cst.disk := by
  have hplain : copyFind Prm.CST_MEDIA_ERRS prmCopies = none := by decide +kernel
  have hne : Prm.CST_MEDIA_ERRS ≠ Prm.DRV_MEDIA_ERRS (s.driveOf p.lba) := by unfold Prm.CST_MEDIA_ERRS Prm.DRV_MEDIA_ERRS; omega
  obtain ⟨htask, hdisk, hdevMem, hhost, -⟩ := run_lastPiece (st := ST_MEDIA_ERROR) (es := []) (s := s)
    (mid := [.count Prm.CST_MEDIA_ERRS 1, .count (Prm.DRV_MEDIA_ERRS (s.driveOf p.lba)) 1]) hx hp rfl fun u => by
      have h := (agree_applyAll [.count Prm.CST_MEDIA_ERRS 1, .count (Prm.DRV_MEDIA_ERRS (s.driveOf p.lba)) 1] u).cst rfl
      exact ⟨task_of_cst h f, by rw [h]⟩
  dsimp only
  rw [run_actCstPieceDone_of_last hx hp hi false, if_neg Bool.false_ne_true, if_neg Bool.false_ne_true, endPiece_of_error hx hp hi (by decide)]
  refine ⟨htask, ?_, hdevMem, hhost, hdisk⟩
  rw [pn_issuePieces hplain (by decide), applyAll_cons, applyAll_cons, applyAll_nil, pn_count_ne hne, pn_count_same hplain]
  exact congrArg (satAdd 0xFFFFFFFF · 1) (pn_congr hplain ((agree_applyAll _ s).prms rfl))

theorem actDrvCmdTimeout_of_last {f : Fn} {p : Piece} {x : Task} {s : State} (hx : s.task f = some x) (hp : x.pieces = [p])
    (hi : p.issued = true) : actDrvCmdTimeout f p.lba s = acts [endPiece f p.lba ST_TIMEOUT,
      eff [nvme (s.driveOf p.lba) 8 false 0 0, .count (Prm.DRV_TIMEOUTS (s.driveOf p.lba)) 1,
        effCst fun c => { c with aborting := c.aborting ++ [s.driveOf p.lba] }], issuePieces] s := by
  simp only [actDrvCmdTimeout, hx, any_of_last hp hi, Bool.not_true, Bool.false_eq_true, if_false]

/-- R580: a command that times out fails its piece, and is aborted at its drive. -/
theorem run_drvCmdTimeout {f : Fn} {p : Piece} {x : Task} {s : State} (hx : s.task f = some x) (hp : x.pieces = [p])
    (hi : p.issued = true) :
    let t := (actDrvCmdTimeout f p.lba).run s
    t.task f = some (pieceEnd p ST_TIMEOUT x) ∧ t.cst.aborting = s.cst.aborting ++ [s.driveOf p.lba] ∧ t.cst.disk = s.cst.disk := by
  have hcst (u : State) : (applyAll [nvme (s.driveOf p.lba) 8 false 0 0, .count (Prm.DRV_TIMEOUTS (s.driveOf p.lba)) 1,
      effCst fun c => { c with aborting := c.aborting ++ [s.driveOf p.lba] }] u).cst =
      { u.cst with aborting := u.cst.aborting ++ [s.driveOf p.lba] } := by
    rw [← (agree_applyAll [nvme (s.driveOf p.lba) 8 false 0 0, .count (Prm.DRV_TIMEOUTS (s.driveOf p.lba)) 1] u).cst rfl]
    rfl
  obtain ⟨htask, hdisk, -⟩ := run_lastPiece (st := ST_TIMEOUT) (es := []) (s := s) hx hp rfl fun u =>
    ⟨by rw [State.task, hcst u, State.task], by rw [hcst u]⟩
  dsimp only
  rw [run_congr (actDrvCmdTimeout_of_last hx hp hi), run_acts_cons, run_acts_cons, run_acts_cons, run_acts_nil, run_eff,
    Act.run_eq (endPiece f p.lba _), endPiece_of_error hx hp hi (by decide)]
  refine ⟨htask, ?_, hdisk⟩
  rw [(issues_issuePieces _).2.1, hcst]
  rfl

/-- R577: the last piece has ended. -/
theorem run_cstTaskDone {f : Fn} {x : Task} {s : State} (hx : s.task f = some x) (hp : x.pieces = []) (hfail : x.fail = none) :
    let t := (actCstTaskDone f).run s
    Ended f ST_OK x.done t ∧ t.cst = { s.cst with tasks := s.cst.tasks.del f } ∧ t.devMem = s.devMem ∧ t.hostMem = s.hostMem ∧
      t.pageMem = s.pageMem := by
  have hact : actCstTaskDone f s = endTask f ST_OK x.done 0 s := by
    simp only [actCstTaskDone, hx, hp, ne_eq, not_true_eq_false, if_false, hfail]
  obtain ⟨l, hl⟩ := endTask_eq f ST_OK x.done 0 s
  dsimp only
  rw [Act.run_eq, hact, hl]
  exact applyAll_end ..

/-! ### Power states of the drives -/

theorem covers_pstate : covers (regMask Reg.CST_STORE_STAT) Fld.CST_STORE_STAT.PSTATE = true := by decide +kernel

theorem reaches_drvPower (st : Nat) : Every (reaches [.prms]) (drvPower st) := fun _ => all_map_of_forall fun _ _ => rfl

/-- R581: the store's power state shown, and the drives brought to it. -/
theorem run_power {st : Nat} (hst : st < 4) (s : State) :
    let t := applyAll ([.fld Reg.CST_STORE_STAT Fld.CST_STORE_STAT.PSTATE st, .count Prm.CST_PS_ENTRIES 1] ++ drvPower st s) s
    pstate t = st ∧ sameStores s t := by
  dsimp only
  rw [applyAll_append]
  generalize hu : applyAll [.fld Reg.CST_STORE_STAT Fld.CST_STORE_STAT.PSTATE st, .count Prm.CST_PS_ENTRIES 1] s = u
  have hpower := agree_of_reaches (reaches_drvPower st s) u
  refine ⟨?_, sameStores_trans (t := u) (hu ▸ applyAll_sameStores rfl s) (hpower.sameStores rfl rfl rfl rfl rfl rfl)⟩
  have hrd : (applyAll (drvPower st s) u).rd Reg.CST_STORE_STAT = u.rd Reg.CST_STORE_STAT := by
    simp only [State.rd, hpower.regs rfl]
  rw [pstate, fld_of_rd hrd, ← hu, applyAll_cons, applyAll_cons, applyAll_nil, fld_apply rfl, fld_fld_same _ _ _ _ covers_pstate]
  exact Nat.mod_eq_of_lt hst

/-- Settles O38: each row by its branch; what issuing pieces does afterwards leaves the task that has no piece more. -/
theorem taskEnds : Obligations.TaskEnds := by
  refine ⟨fun f v s hgo hop hbusy => ⟨_, rfl, run_taskGo_of_busy hgo hop hbusy⟩, fun f v st s hgo hop hbusy hfault hst => ?_,
    fun f p x s hx hp hi hop hdev => ?_, fun f p x s hx hp hi hop hclean => ?_, fun f p x s hx hp hi hfail => ?_,
    fun f x s hx hp hfail hdone => ?_, fun f p x s hx hp hi hfail => ?_, fun s hready hp hout => ?_, fun s hp hms => ?_, fun s hms => ?_⟩
  · obtain ⟨⟨hstat, hdone, hbusy', hgo', hresult, -⟩, hmem⟩ := run_taskGo_of_fault hgo hop hbusy hfault
    exact ⟨_, rfl, hstat.trans (Nat.mod_eq_of_lt hst), hdone, hbusy', hgo', hresult, hmem⟩
  · obtain ⟨htask, hrest⟩ := run_pieceDone_of_read hx hp hi hop hdev
    exact ⟨_, _, rfl, htask, pieces_pieceEnd hp _, rfl, rfl, hrest⟩
  · obtain ⟨htask, hrest⟩ := run_pieceDone_of_write hx hp hi hop hclean
    exact ⟨_, _, rfl, htask, rfl, hrest⟩
  · obtain ⟨htask, hrest⟩ := run_pieceDone_of_error hx hp hi
    exact ⟨_, _, rfl, htask, pieces_pieceEnd hp _, fail_pieceEnd (by decide) hfail, hrest⟩
  · obtain ⟨⟨hstat, hdone', hbusy, -, hresult, herr⟩, hcst, hdev, hhost, -⟩ := run_cstTaskDone hx hp hfail
    refine ⟨_, rfl, ?_, hstat, ?_, herr, hdone', hbusy, hdev, hhost, by rw [hcst]⟩
    · rw [State.task, hcst, FMap.find_del_same]
    · rw [hresult, w32, BitVec.toNat_ofNat, Nat.mod_eq_of_lt hdone]
  · obtain ⟨htask, hrest⟩ := run_drvCmdTimeout hx hp hi
    exact ⟨_, _, rfl, htask, pieces_pieceEnd hp _, fail_pieceEnd (by decide) hfail, hrest⟩
  · refine ⟨actCstIdleEntry.run s, rfl, ?_⟩
    rw [Act.run_eq, actCstIdleEntry, if_neg (by simp [hready, hp, hout])]
    exact run_power (by decide) s
  · refine ⟨actCstSleepEntry.run s, rfl, ?_⟩
    rw [Act.run_eq, actCstSleepEntry, if_neg (by simp [hp, hms])]
    exact run_power (by decide) s
  · show actCstSleepEntry.outcome s = _
    rw [Act.outcome_eq, actCstSleepEntry, if_pos (.inr hms), applyAll_nil]

end Sys2Proof.TaskFinish
end

section
/-! Recorders and playbacks (R584 to R593). -/
open Sys2Proof Sys2Proof.Machine Sys2Proof.Reads Sys2Proof.ServiceTurn Sys2Proof.NamedPlayback Sys2Proof.Turns Sys2Proof.Spans
open Sys2Proof.Camera Sys2Proof.CastRows Sys2Proof.Tiles Sys2Proof.TaskRows

-- Proofs that wait side by side for the kernel would not fit into the memory of one compile.
set_option Elab.async false

namespace Sys2Proof.ClipRows

/-! ### Recorders -/

theorem rec_of_cst {s t : State} (h : t.cst = s.cst) (r : Nat) : t.rec_ r = s.rec_ r := by rw [State.rec_, h, State.rec_]

theorem rec_effRec_same (r : Nat) (g : Recorder → Recorder) (s : State) : ((effRec r g).apply s).rec_ r = (s.rec_ r).map g := find_alter_same ..

/-- A pending answer whose act does in the state with the ticket open what another act does. -/
theorem pended_congr {k : Svc} {a b : Act} {s : State} (h : a ((openTicket k).run s) = b ((openTicket k).run s)) : pended k a s = pended k b s := by
  rw [pended, run_congr h, pended]

/-- R588: the take stops after the last slot written. -/
theorem run_hTakeStop {k : Svc} {x : Recorder} {j : CastJob} {s : State} (hpass : firstBad (takeChecks k s false) = none)
    (hx : s.rec_ (k.n 0 1) = some x) (hj : s.job x.job = some j) : ∃ a, hTakeStop k s = .pending a ∧
    pended k a s = pended k (eff [effTake (k.n 0 1) fun t => { t with stop := some j.writeSeq }]) s := by
  refine ⟨_, by rw [hTakeStop, checks_of_pass hpass], pended_congr ?_⟩
  have hopen := agree_applyAll (openTicket k s) s
  rw [← Act.run_eq] at hopen
  rw [rec_of_cst (hopen.cst rfl), hx, Option.bind_some, job_of_cast (hopen.cast rfl), hj] <;> rfl

theorem takeTurn_start {k : Svc} {s : State} (hs : Served s 0xE11 k) (hstart : k.n 1 1 = 1) :
    (takeTurn true).outcome s = (turn 0xE11 hTakeStart).outcome s := by
  simp only [takeTurn, Act.outcome_eq, hs.1, hstart, if_true]

theorem takeTurn_stop {k : Svc} {s : State} (hs : Served s 0xE11 k) (hstop : k.n 1 1 = 2) :
    (takeTurn false).outcome s = (turn 0xE11 hTakeStop).outcome s := by
  simp only [takeTurn, Act.outcome_eq, hs.1, hstop, Nat.reduceEqDiff, Bool.false_eq_true, if_true, if_false]

theorem hRecClose_of_held {k : Svc} {x : Recorder} {s : State} (hf : k.f = 0) (hlen : k.cmd.len = 4) (hr : k.n 0 1 < 4)
    (hrsv : zeroAt k.cmd.payload 1 3 = true) (hready : storeReady s = true) (hx : s.rec_ (k.n 0 1) = some x) (htake : x.take = none) :
    hRecClose k s = .ok [] (acts [eff [effCst fun c => { c with recs := c.recs.del (k.n 0 1) }, .prm (Prm.REC_HELD_SLOTS (k.n 0 1)) 0],
      showRec (k.n 0 1)]) := by
  have hr3 : ¬ 3 < k.n 0 1 := by omega
  simp only [hRecClose, checks_cons, checks_nil, badLen_fst, rsv_fst, hlen, notF0_fst hf, hrsv, noStore_fst_of_ready hready, hx, htake, hr3,
    Option.isNone_some, Option.bind_some, Option.isSome_none, decide_false, bne_self_eq_false, Bool.not_true, Bool.false_eq_true, if_false]

/-- R585, R586: outside a take a completed slot is released. -/
theorem actRecSlot_of_idle {r : Fin 4} {ok : Bool} {x : Recorder} {j : CastJob} {s : State} (hx : s.rec_ r = some x) (hj : s.job x.job = some j)
    (htake : x.take = none) (hlast : x.last ≠ j.writeSeq) : actRecSlot r ok s =
      [effRec r (fun x' => { x' with last := (x.last + 1) % 2 ^ 32 }),
        .prm (Prm.REC_HELD_SLOTS r) (w32 ((j.writeSeq + 2 ^ 32 - (x.last + 1) % 2 ^ 32) % 2 ^ 32))] := by
  simp only [actRecSlot, hx, hj, hlast, if_false, htake, releaseSlot, List.append_nil]

theorem run_recSlot_of_idle {r : Fin 4} {ok : Bool} {x : Recorder} {j : CastJob} {s : State} (hx : s.rec_ r = some x) (hj : s.job x.job = some j)
    (htake : x.take = none) (hlast : x.last ≠ j.writeSeq) :
    let t := (actRecSlot r ok).run s
    ∃ y, t.rec_ r = some y ∧ y.last = (x.last + 1) % 2 ^ 32 ∧ y.take = none ∧ t.regs = s.regs ∧ t.devMem = s.devMem ∧
      t.hostMem = s.hostMem ∧ t.cst.disk = s.cst.disk := by
  dsimp only
  rw [Act.run_eq, actRecSlot_of_idle hx hj htake hlast]
  have hagree := agree_applyAll [effRec r (fun x' => { x' with last := (x.last + 1) % 2 ^ 32 }),
        .prm (Prm.REC_HELD_SLOTS r) (w32 ((j.writeSeq + 2 ^ 32 - (x.last + 1) % 2 ^ 32) % 2 ^ 32))] s
  refine ⟨{ x with last := (x.last + 1) % 2 ^ 32 }, ?_, rfl, htake, hagree.regs rfl, hagree.devMem rfl, hagree.hostMem rfl, ?_⟩
  case refine_2 =>
    rw [applyAll_cons, (agree_applyAll _ _).cst rfl]
    rfl
  rw [applyAll_cons, rec_of_cst ((agree_applyAll _ _).cst rfl), rec_effRec_same, hx, Option.map_some]

/-! ### Playbacks -/

theorem play_of_cst {s t : State} (h : t.cst = s.cst) (n : Nat) : t.play n = s.play n := by rw [State.play, h, State.play]

theorem play_effPlay_same (h : Nat) (g : Playback → Playback) (s : State) : ((effPlay h g).apply s).play h = (s.play h).map g :=
  find_alter_same ..

/-- The playback that PLAY_OPEN begins (R591). -/
def openedPlay (k : Svc) (s : State) : Playback :=
  ⟨k.f, k.n 0 1, dirEntry s.cst.disk (k.n 0 1) (k.n 4 2), k.n 8 8, k.n 1 1, k.n 2 1, k.n 3 1, 1, some 0, 0, false, false, 0, 0, k.n 1 1 - 1,
    some (k.f, ticketId k.f (s.mbx k.f).nextTicket)⟩

theorem hPlayOpen_of_clip {k : Svc} {x : Namespace} {h : Nat} {s : State} (hlen : k.cmd.len = 16) (hright : k.holds s R_STORE = true)
    (hlo : 3 ≤ k.n 1 1) (hhi : k.n 1 1 ≤ 8) (hgroup : k.n 2 1 < 4) (hdiv : k.n 3 1 ≠ 0) (hentry : k.n 4 2 < 4080)
    (hring : k.n 8 8 % 4096 = 0) (hrsv : zeroAt k.cmd.payload 6 2 = true) (hready : storeReady s = true)
    (hns : reachable s k.f (k.n 0 1) = some x) (hdir : dirValid (s.cst.disk.bytesAt (k.n 0 1) 0 64) = true)
    (hstate : fieldN (openedPlay k s).clip 4 1 = 2) (hframes : fieldN (openedPlay k s).clip 32 4 ≠ 0)
    (hfree : (List.range 16).find? (fun h => (s.play h).isNone) = some h)
    (hrange : rangeOk s k.f (k.n 8 8) (k.n 1 1 * (playRing (openedPlay k s)).size) = true) :
    hPlayOpen k s = .pending (acts [eff [effCst fun c => { c with plays := c.plays.put h (openedPlay k s) }], showPlay h]) := by
  have hslots : (decide (k.n 1 1 < 3) || decide (8 < k.n 1 1) || decide (3 < k.n 2 1) || k.n 3 1 == 0 || decide (4080 ≤ k.n 4 2) ||
      k.n 8 8 % 4096 != 0) = false := by simp; omega
  have hclip : (!dirValid (s.cst.disk.bytesAt (k.n 0 1) 0 64) || (fieldN (dirEntry s.cst.disk (k.n 0 1) (k.n 4 2)) 4 1 != 2 &&
      fieldN (dirEntry s.cst.disk (k.n 0 1) (k.n 4 2)) 4 1 != 3) || clipFrames (openedPlay k s) == 0) = false := by
    have hst : fieldN (dirEntry s.cst.disk (k.n 0 1) (k.n 4 2)) 4 1 = 2 := hstate
    simp [hdir, hst, clipFrames, hframes]
  simp only [openedPlay] at hclip hrange
  simp only [hPlayOpen, checks_cons, checks_nil, badLen_fst, rsv_fst, lacks_fst, hlen, hright, hslots, hrsv, noStore_fst_of_ready hready, hns,
    Option.isNone_some, hclip, hrange, hfree, bne_self_eq_false, Bool.not_true, Bool.false_eq_true, if_false, Option.getD_some, openedPlay]

/-- What PLAY_CTRL answers to one operation without a seek. -/
def ctrlAct (k : Svc) : Act := acts [eff [effPlay (k.n 0 1) fun p => { p with
  running := if k.n 1 1 = 1 then true else if k.n 1 1 = 2 then false else p.running,
  loop := if k.n 1 1 = 4 then true else if k.n 1 1 = 8 then false else p.loop }], showPlay (k.n 0 1)]

theorem hPlayCtrl_of_op {k : Svc} {p : Playback} {s : State} (hlen : k.cmd.len = 8) (hh : k.n 0 1 < 16)
    (hop : k.n 1 1 = 1 ∨ k.n 1 1 = 2 ∨ k.n 1 1 = 4 ∨ k.n 1 1 = 8) (hrsv : zeroAt k.cmd.payload 2 2 = true) (hready : storeReady s = true)
    (hp : heldPlay k s = some p) (hseek : k.n 4 4 = 0xFFFFFFFF) : hPlayCtrl k s = .ok [] (ctrlAct k) := by
  have hh15 : ¬ 15 < k.n 0 1 := by omega
  have hbad : (decide (15 < k.n 0 1) || decide (15 < k.n 1 1) || k.n 1 1 % 4 == 3 || k.n 1 1 / 4 == 3) = false := by
    obtain h | h | h | h := hop <;> simp [h, hh15]
  have hact : hPlayCtrl k s = .ok [] (acts [eff [effPlay (k.n 0 1) fun p =>
      { p with running := if bitOf (k.n 1 1) 0 then true else if bitOf (k.n 1 1) 1 then false else p.running,
               loop := if bitOf (k.n 1 1) 2 then true else if bitOf (k.n 1 1) 3 then false else p.loop }], showPlay (k.n 0 1)]) := by
    simp only [hPlayCtrl, checks_cons, checks_nil, badLen_fst, rsv_fst, hlen, hbad, hrsv, noStore_fst_of_ready hready, hp, hseek,
      Option.isNone_some, bne_self_eq_false, Bool.not_true, Bool.false_and, Bool.false_eq_true, if_false, if_true]
  rw [hact, ctrlAct]
  obtain h | h | h | h := hop
  all_goals rw [h]; rfl

theorem playRow_of_op {n row : Nat} (h : n = 1 ∧ row = 0 ∨ n = 2 ∧ row = 1 ∨ n = 4 ∧ row = 2 ∨ n = 8 ∧ row = 3) : playRow n = row := by
  obtain ⟨rfl, rfl⟩ | ⟨rfl, rfl⟩ | ⟨rfl, rfl⟩ | ⟨rfl, rfl⟩ := h
  all_goals rfl

theorem playTurn_of_row {k : Svc} {row : Nat} {s : State} (hs : Served s 0xE21 k) (hrow : playRow (k.n 1 1) = row) :
    (playTurn row).outcome s = (turn 0xE21 hPlayCtrl).outcome s := by
  simp only [playTurn, Act.outcome_eq, hs.1, hrow, if_true]

theorem hPlayClose_of_held {k : Svc} {p : Playback} {s : State} (hlen : k.cmd.len = 4) (hh : k.n 0 1 < 16)
    (hrsv : zeroAt k.cmd.payload 1 3 = true) (hready : storeReady s = true) (hp : heldPlay k s = some p)
    (hlayer : layerNames s 4 (k.n 0 1) = false) :
    hPlayClose k s = .ok [] (acts [eff [effCst fun c => { c with plays := c.plays.del (k.n 0 1) }], showPlay (k.n 0 1)]) := by
  have hh15 : ¬ 15 < k.n 0 1 := by omega
  simp only [hPlayClose, checks_cons, checks_nil, badLen_fst, rsv_fst, hlen, hh15, hrsv, noStore_fst_of_ready hready, hp, hlayer,
    Option.isNone_some, decide_false, bne_self_eq_false, Bool.not_true, Bool.false_eq_true, if_false]

/-- A playback that the caller holds stands. -/
theorem play_of_held {k : Svc} {p : Playback} {s : State} (h : heldPlay k s = some p) : s.play (k.n 0 1) = some p := by
  unfold heldPlay at h
  split at h
  · next q hq =>
    split at h
    · rw [hq, h]
    · cases h
  · cases h

theorem hPlayInfo_of_held {k : Svc} {p : Playback} {s : State} (hlen : k.cmd.len = 4) (hrsv : zeroAt k.cmd.payload 1 3 = true)
    (hready : storeReady s = true) (hp : heldPlay k s = some p) : hPlayInfo k s =
      .ok (leBytes 4 p.shown ++ leBytes 4 p.late ++ leBytes 4 p.skipped ++ leBytes 4 (playWord p)) (eff []) := by
  have hx : (if k.isF0 = true then s.play (k.n 0 1) else heldPlay k s) = some p := by rw [play_of_held hp, hp, ite_self]
  simp only [hPlayInfo, hx, checks_cons, checks_nil, badLen_fst, rsv_fst, hlen, hrsv, noStore_fst_of_ready hready, bne_self_eq_false,
    Bool.not_true, Bool.false_eq_true, if_false, eff_nil]

/-! ### Decoding -/

theorem reaches_castWrite (base : Nat) (h : CastHdr) (k : Ring) (m : FMap Nat) :
    (castWrite base h k m).all (reaches [.devMem, .hostMem]) = true := by
  rw [castWrite, List.all_append, Bool.and_eq_true]
  refine ⟨all_map_of_forall fun _ _ => reaches_ringWrite _ _, ?_⟩
  split
  · exact all_map_of_forall fun _ _ => reaches_ringWrite _ _
  · rfl

theorem decodeRun_zero (base limit : Nat) (bs : Bytes) (pos : Nat) : decodeRun base limit 0 bs pos = ⟨ST_OK, [], pos, 0, []⟩ := rfl

/-- The equation of one more frame, which Lean does not derive within its limits. -/
theorem decodeRun_succ (base limit n : Nat) (bs : Bytes) (pos : Nat) : decodeRun base limit (n + 1) bs pos =
    if bs.isEmpty then ⟨ST_OK, [], pos, 0, []⟩ else
    match readHeader bs with
    | none => ⟨ST_INPUT_CORRUPT, [], 0, 0, []⟩
    | some (h, size) =>
      let w := (h.sizes.getD 0 (0, 0)).1
      let ht := (h.sizes.getD 0 (0, 0)).2
      let k := castSurface h.fmt w ht 0
      let fin := pos + surfaceEnd h.fmt w ht k
      if limit < fin then ⟨ST_EXPANSION_LIMIT, [], 0, 0, []⟩ else
      match decSlices h (castSlices h) ((bs.take size).drop 64) .empty with
      | none => ⟨ST_INPUT_CORRUPT, [], 0, 0, []⟩
      | some (m, rest) =>
        if !rest.isEmpty ∨ bs.length < size then ⟨ST_INPUT_CORRUPT, [], 0, 0, []⟩ else
        let r := decodeRun base limit n (bs.drop size) (roundTo fin 4096)
        ⟨r.status, castWrite (base + pos) h k m ++ r.writes, if r.status ≠ ST_OK then 0 else if r.frames = 0 then fin else r.valid,
          r.frames + 1, decLogs h ((bs.take size).drop 64) (castSlices h) ++ r.logs⟩ := by
  rfl
/-- What a decoded stream writes lies in the two byte memories. -/
theorem reaches_decodeRun (base limit n : Nat) (bs : Bytes) (pos : Nat) :
    (decodeRun base limit n bs pos).writes.all (reaches [.devMem, .hostMem]) = true := by
  induction n generalizing bs pos with
  | zero =>
    rw [decodeRun_zero]
    rfl
  | succ n ih =>
    rw [decodeRun_succ]
    split
    · rfl
    · split
      · rfl
      · dsimp only
        split
        · rfl
        · split
          · rfl
          · split
            · rfl
            · rw [List.all_append, reaches_castWrite, ih, Bool.and_self]

/-- The frame decoded into the slot q of a playback's ring. -/
def decodedEffects (h : Nat) (p : Playback) (k q e : Nat) (hd : CastHdr) (writes : List Eff) : List Eff :=
  [ringWrite (slotAddr (playRing p) q) (leBytes 4 q)] ++ writes ++ [ringWrite (slotAddr (playRing p) q + 4) (playHeader (playRing p) hd),
    ringWrite (slotAddr (playRing p) q + 252) (leBytes 4 q), .count (endCounter e ST_OK) 1,
    effPlay h fun p => { p with decoding := none, shown := k, writeSeq := q }]

theorem endOpening_of_open {p : Playback} (h : Nat) (hopen : p.opening = none) (st : Nat) : endOpening h p st = acts [] := by
  rw [endOpening, hopen]
  rfl

theorem reaches_showPlay (h : Nat) : Every (reaches [.prms]) (showPlay h) := fun _ => rfl

theorem reaches_wakeStore : Every (reaches [.regs, .prms]) wakeStore := fun s => by
  unfold wakeStore
  split
  · rfl
  · rw [List.all_append, Bool.and_eq_true]
    exact ⟨rfl, all_map_of_forall fun _ _ => rfl⟩

/-- R592: the frame is decoded, and its playback shows it. -/
theorem run_decoded {h : Nat} {p : Playback} {k q e : Nat} {hd : CastHdr} {writes : List Eff} {s : State} (hp : s.play h = some p)
    (hopen : p.opening = none) (hwrites : writes.all (reaches [.devMem, .hostMem]) = true) :
    let t := (acts [eff (decodedEffects h p k q e hd writes), wakeStore, endOpening h p ST_OK, showPlay h]).run s
    t.play h = some { p with decoding := none, shown := k, writeSeq := q } ∧ t.cst.disk = s.cst.disk ∧ t.pageMem = s.pageMem := by
  have hring (a : Nat) (bs : Bytes) : reaches [.devMem, .hostMem, .prms] (ringWrite a bs) = true := by
    unfold ringWrite
    split <;> rfl
  have hpre : ([ringWrite (slotAddr (playRing p) q) (leBytes 4 q)] ++ writes ++ [ringWrite (slotAddr (playRing p) q + 4)
      (playHeader (playRing p) hd), ringWrite (slotAddr (playRing p) q + 252) (leBytes 4 q), .count (endCounter e ST_OK) 1]).all
      (reaches [.devMem, .hostMem, .prms]) = true := by
    simp only [List.all_append, List.all_cons, List.all_nil, hring, reaches_of_subset (m := [.devMem, .hostMem, .prms]) (by decide) hwrites,
      Bool.and_true, Bool.true_and]
    rfl
  have hsplit : decodedEffects h p k q e hd writes = ([ringWrite (slotAddr (playRing p) q) (leBytes 4 q)] ++ writes ++
      [ringWrite (slotAddr (playRing p) q + 4) (playHeader (playRing p) hd), ringWrite (slotAddr (playRing p) q + 252) (leBytes 4 q),
      .count (endCounter e ST_OK) 1]) ++ [effPlay h fun p => { p with decoding := none, shown := k, writeSeq := q }] := by
    simp only [decodedEffects, List.append_assoc, List.cons_append, List.nil_append]
  have hdec := agree_of_reaches hpre s
  dsimp only
  rw [run_acts_cons, run_acts_cons, run_acts_cons, run_acts_cons, run_acts_nil, run_eff, endOpening_of_open h hopen, run_acts_nil, hsplit,
    applyAll_append, applyAll_cons, applyAll_nil]
  generalize applyAll _ s = u at hdec
  have hplay := agree_apply (effPlay h fun p => { p with decoding := none, shown := k, writeSeq := q }) u
  have hcst : (((showPlay h).run (wakeStore.run ((effPlay h fun p => { p with decoding := none, shown := k, writeSeq := q }).apply u))).cst =
      ((effPlay h fun p => { p with decoding := none, shown := k, writeSeq := q }).apply u).cst) :=
    ((reaches_showPlay h).agree _).cst rfl |>.trans ((reaches_wakeStore.agree _).cst rfl)
  refine ⟨?_, ?_, ?_⟩
  · rw [play_of_cst hcst, play_effPlay_same, play_of_cst (hdec.cst rfl), hp, Option.map_some]
  · rw [hcst, ← hdec.cst rfl]
    rfl
  · rw [((reaches_showPlay h).agree _).pageMem rfl, (reaches_wakeStore.agree _).pageMem rfl, hplay.pageMem rfl, hdec.pageMem rfl]

theorem actPlayDecodeDone_of_good {h : Fin 16} {p : Playback} {k q size : Nat} {hd : CastHdr} {s : State} (hp : s.play h = some p)
    (hk : p.decoding = some k) (hengines : (sharedEngines s).isEmpty = false)
    (hst : fieldN (s.cst.disk.bytesAt p.space (fieldN p.clip 24 8 * BLK + 48 * k) 48) 20 2 = ST_OK) (hq : nextPlaySlot s h p = some q)
    (hhd : readHeader (s.cst.disk.bytesAt p.space ((fieldN p.clip 8 8 +
      fieldN (s.cst.disk.bytesAt p.space (fieldN p.clip 24 8 * BLK + 48 * k) 48) 0 8) * BLK)
      (fieldN (s.cst.disk.bytesAt p.space (fieldN p.clip 24 8 * BLK + 48 * k) 48) 8 4)) = some (hd, size))
    (hok : (decodeRun (slotAddr (playRing p) q + 256)
      (min ((playRing p).size - 256) (4096 * fieldN (s.cst.disk.bytesAt p.space (fieldN p.clip 24 8 * BLK + 48 * k) 48) 8 4)) 1
      (s.cst.disk.bytesAt p.space ((fieldN p.clip 8 8 +
        fieldN (s.cst.disk.bytesAt p.space (fieldN p.clip 24 8 * BLK + 48 * k) 48) 0 8) * BLK)
        (fieldN (s.cst.disk.bytesAt p.space (fieldN p.clip 24 8 * BLK + 48 * k) 48) 8 4)) 0).status = ST_OK) :
    ∃ e writes, writes.all (reaches [.devMem, .hostMem]) = true ∧ actPlayDecodeDone h s =
      acts [eff (decodedEffects h p k q e hd writes), wakeStore, endOpening h p ST_OK, showPlay h] s := by
  cases he : sharedEngines s with
  | nil => simp [he] at hengines
  | cons e es =>
    refine ⟨e, (decodeRun (slotAddr (playRing p) q + 256) (min ((playRing p).size - 256) (4096 *
      fieldN (s.cst.disk.bytesAt p.space (fieldN p.clip 24 8 * BLK + 48 * k) 48) 8 4)) 1 (s.cst.disk.bytesAt p.space ((fieldN p.clip 8 8 +
        fieldN (s.cst.disk.bytesAt p.space (fieldN p.clip 24 8 * BLK + 48 * k) 48) 0 8) * BLK)
        (fieldN (s.cst.disk.bytesAt p.space (fieldN p.clip 24 8 * BLK + 48 * k) 48) 8 4)) 0).writes, reaches_decodeRun _ _ _ _ _, ?_⟩
    simp only [actPlayDecodeDone, hp, hk, he, hst, hq, hhd, hok, ne_eq, not_true_eq_false, if_false, decodedEffects]

theorem actPlayDecodeDone_of_failed {h : Fin 16} {p : Playback} {k : Nat} {s : State} (hp : s.play h = some p) (hk : p.decoding = some k)
    (hengines : (sharedEngines s).isEmpty = false)
    (hst : fieldN (s.cst.disk.bytesAt p.space (fieldN p.clip 24 8 * BLK + 48 * k) 48) 20 2 ≠ ST_OK) :
    actPlayDecodeDone h s = skipFrame h p (fieldN (s.cst.disk.bytesAt p.space (fieldN p.clip 24 8 * BLK + 48 * k) 48) 20 2) s := by
  cases he : sharedEngines s with
  | nil => simp [he] at hengines
  | cons e es => simp only [actPlayDecodeDone, hp, hk, he, hst, ne_eq, not_false_eq_true, if_true]

/-- R592: a frame that failed at the recording is skipped. -/
theorem run_skipFrame {h : Nat} {p : Playback} {st : Nat} {s : State} (hp : s.play h = some p) (hopen : p.opening = none) :
    let t := (skipFrame h p st).run s
    t.play h = some { p with decoding := none, skipped := p.skipped + 1 } ∧ t.devMem = s.devMem ∧ t.hostMem = s.hostMem ∧ t.regs = s.regs := by
  have hskip := agree_applyAll [effPlay h fun p => { p with decoding := none, skipped := p.skipped + 1 }] s
  have hshow := (reaches_showPlay h).agree (applyAll [effPlay h fun p => { p with decoding := none, skipped := p.skipped + 1 }] s)
  dsimp only
  rw [skipFrame, run_acts_cons, run_acts_cons, run_acts_cons, run_acts_nil, run_eff, endOpening_of_open h hopen, run_acts_nil]
  refine ⟨?_, (hshow.devMem rfl).trans (hskip.devMem rfl), (hshow.hostMem rfl).trans (hskip.hostMem rfl),
    (hshow.regs rfl).trans (hskip.regs rfl)⟩
  rw [play_of_cst (hshow.cst rfl), applyAll_cons, applyAll_nil, play_effPlay_same, hp, Option.map_some]

/-- Settles O40: each turn by the checks it passes, and each row by its branch. -/
theorem recordAndPlay : Obligations.RecordAndPlay := by
  refine ⟨fun k s hs hf hlen hr hflags hh hrsv hpass ht => ?_, fun k s hs hstart hpass ht => ?_,
    fun k x j s hs hstop hpass hx hj ht => ?_, fun k x s hs hf hlen hr hrsv hready hx htake => ?_,
    fun r ok x j s hx hj htake hlast => ?_, fun r ok x j s hx hj hlast => ?_,
    fun k c x h s hs hlen hright hlo hhi hgroup hdiv hentry hring hrsv hready hns hc hdir hstate hframes hfree ht hrange => ?_,
    fun k p op s hs hlen hh hop hops hrsv hready hp hseek => ?_, fun k p s hs hlen hh hrsv hready hp hlayer => ?_,
    fun k p s hs hlen hh hrsv hready hp => ?_, fun h p k q hd size s hp hk hopen hengines hst hq hhd hok => ?_,
    fun h p k s hp hk hopen hengines hst => ?_⟩
  · refine outcome_turn_of_pending (h := hRecOpen) hs ?_ ht
    have hr3 : ¬ 3 < k.n 0 1 := by omega
    have hf1 : ¬ 1 < k.n 1 1 := by omega
    have hh4 : ¬ 4095 < k.n 2 2 := by omega
    simp [hRecOpen, hlen, notF0_fst hf, hr3, hf1, hh4, hrsv, checks_of_pass hpass]
  · show (takeTurn true).outcome s = _
    rw [takeTurn_start hs hstart]
    exact outcome_turn_of_pending (h := hTakeStart) hs (by rw [hTakeStart, checks_of_pass hpass, eff_nil]) ht
  · obtain ⟨a, ha, hpend⟩ := run_hTakeStop hpass hx hj
    show (takeTurn false).outcome s = _
    rw [takeTurn_stop hs hstop, outcome_turn_of_pending (h := hTakeStop) hs ha ht, hpend]
  · exact outcome_turn_of_ok (h := hRecClose) hs (hRecClose_of_held hf hlen hr hrsv hready hx htake)
  · obtain ⟨y, hy⟩ := run_recSlot_of_idle (ok := ok) hx hj htake hlast
    exact ⟨_, y, rfl, hy⟩
  · show (actRecSlot r ok).outcome s = _
    simp only [Act.outcome_eq, actRecSlot, hx, hj, hlast, if_true, applyAll_nil]
  · subst hc
    exact outcome_turn_of_pending (h := hPlayOpen) hs
      (hPlayOpen_of_clip hlen hright hlo hhi hgroup hdiv hentry hring hrsv hready hns hdir hstate hframes hfree hrange) ht
  · subst hop
    have hturn {row : Nat} (h : k.n 1 1 = 1 ∧ row = 0 ∨ k.n 1 1 = 2 ∧ row = 1 ∨ k.n 1 1 = 4 ∧ row = 2 ∨ k.n 1 1 = 8 ∧ row = 3) :
        (playTurn row).outcome s = .next (answered k ST_OK [] (ctrlAct k) s) := by
      rw [playTurn_of_row hs (playRow_of_op h)]
      exact outcome_turn_of_ok (h := hPlayCtrl) hs (hPlayCtrl_of_op hlen hh hops hrsv hready hp hseek)
    exact ⟨fun h => hturn (.inl ⟨h, rfl⟩), fun h => hturn (.inr (.inl ⟨h, rfl⟩)), fun h => hturn (.inr (.inr (.inl ⟨h, rfl⟩))),
      fun h => hturn (.inr (.inr (.inr ⟨h, rfl⟩)))⟩
  · exact outcome_turn_of_ok (h := hPlayClose) hs (hPlayClose_of_held hlen hh hrsv hready hp hlayer)
  · exact outcome_turn_of_ok (h := hPlayInfo) hs (hPlayInfo_of_held hlen hrsv hready hp)
  · obtain ⟨e, writes, hwrites, hact⟩ := actPlayDecodeDone_of_good hp hk hengines hst hq hhd hok
    obtain ⟨hplay, hdisk, hpage⟩ := run_decoded (e := e) (hd := hd) (k := k) (q := q) hp hopen hwrites
    refine ⟨(actPlayDecodeDone h).run s, { p with decoding := none, shown := k, writeSeq := q }, rfl, ?_⟩
    rw [run_congr hact]
    exact ⟨hplay, rfl, rfl, rfl, rfl, hdisk, hpage⟩
  · obtain ⟨hplay, hmem⟩ := run_skipFrame
      (st := fieldN (s.cst.disk.bytesAt p.space (fieldN p.clip 24 8 * BLK + 48 * k) 48) 20 2) hp hopen
    refine ⟨(actPlayDecodeDone h).run s, { p with decoding := none, skipped := p.skipped + 1 }, rfl, ?_⟩
    rw [run_congr (actPlayDecodeDone_of_failed hp hk hengines hst)]
    exact ⟨hplay, rfl, rfl, rfl, hmem⟩

end Sys2Proof.ClipRows
end

section
/-! Device memory: its allocations, an access to a line, and the work of the controllers (chapter 17). -/
open Sys2Proof Sys2Proof.Machine Sys2Proof.Reads Sys2Proof.ServiceTurn Sys2Proof.Turns Sys2Proof.Spans Sys2Proof.EffectReads
open Sys2Proof.Streams Sys2Proof.Wall Sys2Proof.TaskRows Sys2Proof.FieldReads

-- Proofs that wait side by side for the kernel would not fit into the memory of one compile.
set_option Elab.async false

namespace Sys2Proof.MemoryLines

/-! ### Maps of which a part is kept -/

theorem mapFind_filter {α : Type} (q : Nat → Bool) (k : Nat) (l : List (Nat × α)) :
    mapFind k (l.filter fun c => q c.1) = if q k then mapFind k l else none := by
  induction l with
  | nil => simp [mapFind]
  | cons c t ih =>
    obtain ⟨k', v⟩ := c
    by_cases hk : k = k'
    · subst hk
      cases hq : q k <;> simp [hq, mapFind, ih]
    · cases hq : q k' <;> simp [hq, mapFind, hk, ih]

theorem memRead_filter (q : Nat → Bool) (m : Mem) (a : Nat) :
    memRead (m.filter fun c => q c.1) a = if q a then memRead m a else 0 := by
  rw [memRead, mapFind_filter]
  split
  · rfl
  · rfl

theorem obj_obj_same (k i : Nat) (v : Option Bytes) (s : State) : ((Eff.obj k i v).apply s).obj k i = v := by
  rw [State.obj, Eff.obj_objs]
  cases v with
  | none => exact FMap.find_del_same ..
  | some b => exact FMap.find_put_same ..

theorem obj_obj_ne {k i k' i' : Nat} (h : objKey k' i' ≠ objKey k i) (v : Option Bytes) (s : State) :
    ((Eff.obj k i v).apply s).obj k' i' = s.obj k' i' := by
  rw [State.obj, Eff.obj_objs]
  cases v with
  | none => exact FMap.find_del_ne _ h
  | some b => exact FMap.find_put_ne _ h _

theorem obj_of_objs {s t : State} (h : t.objs = s.objs) (k i : Nat) : t.obj k i = s.obj k i := by rw [State.obj, h, State.obj]

/-! ### Allocations -/

theorem hMemAlloc_of_room {k : Svc} {b : Nat} {s : State} (hf : k.f = 0) (hlen : k.cmd.len = 8) (hne : k.n 0 4 ≠ 0) (heven : k.n 0 4 % 2 = 0)
    (hrsv : zeroAt k.cmd.payload 4 4 = true) (hrun : lowestRun s (k.n 0 4 * 2 ^ 20) = some b) (hroom : (allocs s).length < 1024) :
    hMemAlloc k s = .pending (acts [eff [.obj K_MEMP (b / GRAN) (some (leBytes 1 k.f ++ leBytes 8 b ++
      leBytes 8 (k.n 0 4 * 2 ^ 20) ++ leBytes 4 (ticketId k.f (s.mbx k.f).nextTicket)))], syncPool]) := by
  have hmib : (k.n 0 4 == 0 || k.n 0 4 % 2 == 1) = false := by simp [hne, heven]
  have hfull : ((none : Option Nat).isSome || (!k.isF0 && decide (memQuota s k.f < heldMib s k.f + k.n 0 4)) ||
      decide (1024 ≤ (allocs s).length)) = false := by simp [Svc.isF0, hf, hroom]
  simp only [Option.isSome_none] at hfull
  simp only [hMemAlloc, checks_cons, checks_nil, badLen_fst, rsv_fst, hlen, hmib, hrsv, hrun, Option.isNone_some, hfull, bne_self_eq_false,
    Bool.not_true, Bool.false_eq_true, if_false, Option.getD_some]

theorem hMemAlloc_of_odd {k : Svc} {s : State} (hlen : k.cmd.len = 8) (hodd : k.n 0 4 % 2 = 1) : hMemAlloc k s = .refuse ST_BAD_PARAM := by
  have hmib : (k.n 0 4 == 0 || k.n 0 4 % 2 == 1) = true := by simp [hodd]
  simp only [hMemAlloc, checks_cons, badLen_fst, hlen, hmib, bne_self_eq_false, Bool.false_eq_true, if_false, if_true]

/-- The effects of an allocation that completes (R616). -/
def allocEffects (n : Nat) (b : Bytes) : List Eff :=
  [.devClear (fieldN b 1 8) (fieldN b 9 8), .obj K_MEMP n none, .obj K_MEM n (some (b.take 17))]

theorem run_memAllocDone {f : Fn} {ticket n : Nat} {b : Bytes} {s : State} (h : reservation s f ticket = some (n, b)) :
    let t := (actMemAllocDone f ticket).run s
    t.obj K_MEMP n = none ∧ t.obj K_MEM n = some (b.take 17) ∧ t.hostMem = s.hostMem ∧ t.pageMem = s.pageMem ∧ t.cst = s.cst ∧
      (∀ a, fieldN b 1 8 ≤ a → a < fieldN b 1 8 + fieldN b 9 8 → memRead t.devMem a = 0) ∧
      (∀ a, a < fieldN b 1 8 ∨ fieldN b 1 8 + fieldN b 9 8 ≤ a → memRead t.devMem a = memRead s.devMem a) := by
  have hact : actMemAllocDone f ticket s = acts [eff (allocEffects n b), completeTicket f ticket ST_OK (leBytes 8 (fieldN b 1 8))] s := by
    simp only [actMemAllocDone, h, allocEffects]
  have hne : objKey K_MEMP n ≠ objKey K_MEM n := by unfold objKey K_MEMP K_MEM; omega
  have halloc := agree_applyAll (allocEffects n b) s
  have hticket := (reaches_completeTicket f ticket ST_OK (leBytes 8 (fieldN b 1 8))).agree (applyAll (allocEffects n b) s)
  have hdev (a : Nat) : memRead (applyAll (allocEffects n b) s).devMem a =
      if a < fieldN b 1 8 ∨ fieldN b 1 8 + fieldN b 9 8 ≤ a then memRead s.devMem a else 0 := by
    rw [allocEffects, applyAll_cons, (agree_applyAll _ _).devMem rfl]
    refine (memRead_filter (fun k => decide (k < fieldN b 1 8) || decide (fieldN b 1 8 + fieldN b 9 8 ≤ k)) s.devMem a).trans ?_
    simp only [Bool.or_eq_true, decide_eq_true_eq]
  dsimp only
  rw [run_congr hact, run_acts_cons, run_acts_cons, run_acts_nil, run_eff]
  refine ⟨?_, ?_, ?_, ?_, ?_, fun a hlo hhi => ?_, fun a hout => ?_⟩
  · rw [obj_of_objs (hticket.objs rfl), allocEffects, applyAll_cons, applyAll_cons, applyAll_cons, applyAll_nil, obj_obj_ne hne, obj_obj_same]
  · rw [obj_of_objs (hticket.objs rfl), allocEffects, applyAll_cons, applyAll_cons, applyAll_cons, applyAll_nil, obj_obj_same]
  · rw [hticket.hostMem rfl, halloc.hostMem rfl]
  · rw [hticket.pageMem rfl, halloc.pageMem rfl]
  · rw [hticket.cst rfl, halloc.cst rfl]
  · rw [hticket.devMem rfl, hdev, if_neg (by omega)]
  · rw [hticket.devMem rfl, hdev, if_pos hout]

theorem hMemFree_of_owned {k : Svc} {b : Bytes} {s : State} (hlen : k.cmd.len = 8) (hb : s.obj K_MEM (k.n 0 8 / GRAN) = some b)
    (hbase : fieldN b 1 8 = k.n 0 8) (howner : fieldN b 0 1 = k.f)
    (hfree : ((addrsInForce s ++ addrsStaged s).any fun x => decide (k.n 0 8 ≤ x) && decide (x < k.n 0 8 + fieldN b 9 8)) = false) :
    hMemFree k s = .ok [] (acts [eff [.obj K_MEM (k.n 0 8 / GRAN) none], syncPool]) := by
  simp only [hMemFree, checks_cons, checks_nil, badLen_fst, hlen, hb, hbase, howner, hfree, beq_self_eq_true, Bool.and_self, bne_self_eq_false,
    Bool.not_true, Bool.false_eq_true, if_false]

theorem hMemInfo_of_len {k : Svc} {s : State} (hlen : k.cmd.len = 0) : ∃ mine, hMemInfo k s = .ok (leBytes 4 mine ++ leBytes 4 (heldMib s k.f) ++
    leBytes 4 (if k.f = 0 then 0xFFFFFFFF else memQuota s k.f) ++ leBytes 4 (poolFree s)) (eff []) := by
  simp only [hMemInfo, checks_cons, checks_nil, badLen_fst, hlen, bne_self_eq_false, Bool.false_eq_true, if_false, Svc.isF0, beq_iff_eq]
  exact ⟨_, rfl⟩

/-! ### An access to a line -/

theorem reaches_pcWake (m pc : Nat) : Every (reaches [.regs, .prms]) (pcWake m pc) := fun s => by
  unfold pcWake
  split <;> rfl

theorem reaches_requestCounts (m i age : Nat) (waited : Bool) (depth : Nat) :
    Every (reaches [.regs, .prms]) (requestCounts m i age waited depth) := fun s => by
  unfold requestCounts
  dsimp only
  rw [List.all_append, List.all_append, Bool.and_eq_true, Bool.and_eq_true]
  refine ⟨⟨rfl, ?_⟩, ?_⟩
  · split <;> rfl
  · split <;> rfl

/-- The bytes that an access names lie in one line of the space. -/
def oneLine (s : State) (addr n : Nat) : Prop := 0 < n ∧ addr % 64 + n ≤ 64 ∧ addr < memSize s

/-- An access that the granule's tag admits: it wakes its pseudo-channel, is counted, and is served. -/
theorem run_memRequest_of_admitted {port : Fin 16} {tag : Option Fn} {addr len age : Nat} {write : Option Bytes} {waited : Bool}
    {depth : Fin 65} {ecc : Fin 3} {s : State} (htag : ∀ f, tag = some f → granuleOwner s addr = some f.val)
    (hline : oneLine s addr ((write.map (·.length)).getD len)) :
    ∃ u, Agree (among [.regs, .prms]) s u ∧ (actMemRequest port tag addr write len age waited depth ecc).run s =
      applyAll (serveLine (stackOf s addr) port addr write len ecc u) u := by
  obtain ⟨hpos, hfits, hsize⟩ := hline
  have hact : actMemRequest port tag addr write len age waited depth ecc s = acts [pcWake (stackOf s addr) (pcOf s addr),
      requestCounts (stackOf s addr) port age waited depth, serveLine (stackOf s addr) port addr write len ecc] s := by
    have hgate : ¬((write.map (·.length)).getD len = 0 ∨ 64 < addr % 64 + (write.map (·.length)).getD len ∨ memSize s ≤ addr) := by omega
    cases write with
    | none =>
      simp only [Option.map_none, Option.getD_none] at hgate
      cases tag with
      | none => simp only [actMemRequest, hgate, if_false]
      | some f => simp only [actMemRequest, hgate, if_false, htag f rfl, ne_eq, not_true_eq_false]
    | some bs =>
      simp only [Option.map_some, Option.getD_some] at hgate
      cases tag with
      | none => simp only [actMemRequest, hgate, if_false]
      | some f => simp only [actMemRequest, hgate, if_false, htag f rfl, ne_eq, not_true_eq_false]
  have hwake := (reaches_pcWake (stackOf s addr) (pcOf s addr)).agree s
  have hcounts := (reaches_requestCounts (stackOf s addr) port age waited depth).agree ((pcWake (stackOf s addr) (pcOf s addr)).run s)
  refine ⟨(requestCounts (stackOf s addr) port age waited depth).run ((pcWake (stackOf s addr) (pcOf s addr)).run s), hwake.trans hcounts, ?_⟩
  rw [run_congr hact, run_acts_cons, run_acts_cons, run_acts_cons, run_acts_nil, Act.run_eq (serveLine (stackOf s addr) port addr write len ecc)]

theorem has_del_same {α : Type} (m : FMap α) (k : Nat) : (m.del k).has k = false := by rw [FMap.has, FMap.find_del_same, Option.isSome_none]

theorem has_put_same {α : Type} (m : FMap α) (k : Nat) (v : α) : (m.put k v).has k = true := by
  rw [FMap.has, FMap.find_put_same, Option.isSome_some]

/-- R597, R602: a write without an error takes effect. -/
theorem applyAll_serveLine_of_write {m port addr len : Nat} {bs : Bytes} {s : State} (hclean : s.poison.has (addr / 64) = false) :
    let t := applyAll (serveLine m port addr (some bs) len 0 s) s
    t.devMem = memWriteBytes s.devMem addr bs ∧ t.poison.has (addr / 64) = false ∧ t.hostMem = s.hostMem ∧ t.pageMem = s.pageMem ∧
      t.cst = s.cst := by
  dsimp only
  by_cases hwhole : bs.length = 64 ∧ addr % 64 = 0
  · have hact : serveLine m port addr (some bs) len 0 s = [.dev addr bs, .poison (addr / 64) false] := by
      simp only [serveLine, hwhole, and_self, if_true]
    rw [hact]
    exact ⟨rfl, has_del_same _ _, rfl, rfl, rfl⟩
  · have hact : serveLine m port addr (some bs) len 0 s = [.dev addr bs] := by
      simp only [serveLine, hwhole, hclean, if_false, Bool.false_eq_true, Nat.zero_ne_one, OfNat.zero_ne_ofNat, List.nil_append]
    rw [hact]
    exact ⟨rfl, hclean, rfl, rfl, rfl⟩

theorem emit_lineData (port : Nat) (bad : Bool) (bs : Bytes) (s : State) :
    ((lineData port bad bs).apply s).out = s.out ++ [.packet 8 port (leBytes 1 (if bad then 1 else 0) ++ bs)] := rfl

/-- R597: a read without an error returns the bytes. -/
theorem serveLine_of_read {m port addr len : Nat} {s : State} (hclean : s.poison.has (addr / 64) = false) :
    serveLine m port addr none len 0 s = [lineData port false (memReadBytes s.devMem addr len)] := by
  simp only [serveLine, hclean, if_false, Bool.false_eq_true, Nat.zero_ne_one, OfNat.zero_ne_ofNat, List.nil_append]

/-- R606: an uncorrectable error of a read poisons the line. -/
theorem serveLine_of_uncorrectable {m port addr len : Nat} {s : State} (hclean : s.poison.has (addr / 64) = false) :
    serveLine m port addr none len 2 s = uncorrectable m (addr / 64) ++ [lineData port true (memReadBytes s.devMem addr len)] := by
  simp only [serveLine, hclean, if_false, if_true, Bool.false_eq_true]

theorem applyAll_uncorrectable {m line : Nat} (port : Nat) (bs : Bytes) (s : State) :
    let t := applyAll (uncorrectable m line ++ [lineData port true bs]) s
    t.poison.has line = true ∧ t.evt 225 = true ∧ sameStores s t := by
  have hecc : eventWord (Reg.MEM_ECC m) = false := eventWord_of_gt (by unfold Reg.MEM_ECC; omega)
  have hlo : eventWord (Reg.MEM_ERR_ADDR_LO m) = false := eventWord_of_gt (by unfold Reg.MEM_ERR_ADDR_LO; omega)
  have hhi : eventWord (Reg.MEM_ERR_ADDR_LO m + 4) = false := eventWord_of_gt (by unfold Reg.MEM_ERR_ADDR_LO; omega)
  refine ⟨?_, evt_applyAll_of_raise (by decide) (by simp [uncorrectable, errAddr, setReg64, lineData, keepsEvt, hecc, hlo, hhi])
    (by simp [uncorrectable]) s, applyAll_sameStores rfl s⟩
  have hpost : (errAddr m 1 line ++ [Eff.raise 225] ++ [lineData port true bs]).all (reaches [.regs, .out]) = true := rfl
  have hsplit : uncorrectable m line ++ [lineData port true bs] = [.inc (Reg.MEM_ECC m) Fld.MEM_ECC.UE 1, .count (Prm.MEM_UE m) 1,
      .count Prm.MEM_UE_TOTAL 1] ++ .poison line true :: (errAddr m 1 line ++ [Eff.raise 225] ++ [lineData port true bs]) := by
    simp only [uncorrectable, List.append_assoc, List.cons_append, List.nil_append]
  rw [hsplit, applyAll_append, applyAll_cons, (agree_of_reaches hpost _).poison rfl]
  exact has_put_same ..

/-- R615: an access to a granule of another principal is denied. -/
theorem run_memRequest_of_denied {port : Fin 16} {f : Fn} {addr age : Nat} {bs : Bytes} {waited : Bool} {depth : Fin 65} {ecc : Fin 3}
    {s : State} (hother : granuleOwner s addr ≠ some f.val) (hline : oneLine s addr bs.length) :
    let t := (actMemRequest port (some f) addr (some bs) 0 age waited depth ecc).run s
    t.evt 248 = true ∧ sameStores s t ∧ t.pn Prm.MEM_DENY_TOTAL = satAdd 0xFFFFFFFF (s.pn Prm.MEM_DENY_TOTAL) 1 := by
  obtain ⟨hpos, hfits, hsize⟩ := hline
  have hgate : ¬(bs.length = 0 ∨ 64 < addr % 64 + bs.length ∨ memSize s ≤ addr) := by omega
  have hact : actMemRequest port (some f) addr (some bs) 0 age waited depth ecc s =
      [.count Prm.MEM_DENY_TOTAL 1, .count (Prm.MEM_DENY (stackOf s addr)) 1, .raise 248] := by
    simp only [actMemRequest, hgate, if_false, hother, ne_eq, not_false_eq_true, if_true, Option.isNone_some, Bool.false_eq_true,
      List.append_nil]
  have hplain : copyFind Prm.MEM_DENY_TOTAL prmCopies = none := by decide +kernel
  have hne : Prm.MEM_DENY_TOTAL ≠ Prm.MEM_DENY (stackOf s addr) := by unfold Prm.MEM_DENY_TOTAL Prm.MEM_DENY; omega
  dsimp only
  rw [Act.run_eq, hact]
  refine ⟨evt_applyAll_of_raise (by decide) rfl (by simp) s, applyAll_sameStores rfl s, ?_⟩
  rw [applyAll_cons, applyAll_cons, applyAll_cons, applyAll_nil, pn_congr hplain ((agree_apply (Eff.raise 248) _).prms rfl), pn_count_ne hne,
    pn_count_same hplain]

/-! ### Scrubbing and the windows of errors -/

theorem covers_scrub_running (m : Fin 4) : covers (regMask (Reg.MEM_SCRUB m)) Fld.MEM_SCRUB.RUNNING = true :=
  covers_word (b := 0x180010) (st := 0x40) (c := 4) (by decide +kernel) m.isLt

/-- R608: the scrubber reads its next line. -/
theorem run_scrubLine_of_good {m : Fin 4} {line : Nat} {s : State} (hpos : s.mem.scrub.getD m 0 + 1 < stackLines) :
    let t := (actScrubLine m line 0).run s
    t.mem.scrub.getD m 0 = s.mem.scrub.getD m 0 + 1 ∧ t.flag (Reg.MEM_SCRUB m) Fld.MEM_SCRUB.RUNNING = true ∧ t.poison = s.poison ∧
      sameStores s t ∧ ∀ a, a ≠ Reg.MEM_SCRUB m → t.rd a = s.rd a := by
  have hact : actScrubLine m line 0 s = [effMem (fun x => { x with scrub := x.scrub.put m (s.mem.scrub.getD m 0 + 1) }),
      .fld (Reg.MEM_SCRUB m) Fld.MEM_SCRUB.RUNNING 1, .fld (Reg.MEM_SCRUB m) Fld.MEM_SCRUB.POS_MIB ((s.mem.scrub.getD m 0 + 1) / 16384),
      .prm (Prm.MEM_SCRUB_POS m) (w32 ((s.mem.scrub.getD m 0 + 1) / 16384))] := by
    have hecc : (((0 : Fin 3).val) = 2) = False := by decide
    simp only [actScrubLine, Nat.not_le.mpr hpos, hecc, false_and, if_false, List.append_nil]
  dsimp only
  rw [Act.run_eq, hact]
  refine ⟨?_, ?_, (agree_applyAll _ s).poison rfl, applyAll_sameStores rfl s, fun a ha => rd_applyAll_of_spares ?_ s⟩
  · rw [applyAll_cons, (agree_applyAll _ _).mem rfl]
    exact FMap.getD_put_same ..
  · exact flag_applyAll_of_fld (covers_scrub_running m) rfl [_] 1 (by simp [sparesFld, Fld.MEM_SCRUB.POS_MIB, Fld.MEM_SCRUB.RUNNING]) s
  · simp [sparesReg, effMem, ha.symm]

/-- The end of a pass of the scrubber. -/
def passEffects (past : Bool) : List Eff := if past then [.count Prm.MEM_SCRUB_PASSES 1, .raise 227] else []

/-- What the scrubber leaves after it has poisoned a line. -/
def scrubFault (m line : Nat) (past : Bool) : List Eff := errAddr m 2 line ++ [.raise 226, .flt fun x =>
  { x with queue := if x.queue.any (·.1 == line) then x.queue else x.queue ++ [(line, 0)] }] ++ passEffects past

theorem actScrubLine_of_bad {m : Fin 4} {line : Nat} {s : State} (hclean : s.poison.has line = false) : ∃ (pos v : Nat) (w : Word) (past : Bool),
    actScrubLine m line 2 s = [effMem (fun x => { x with scrub := x.scrub.put m pos }), .fld (Reg.MEM_SCRUB m) Fld.MEM_SCRUB.RUNNING 1,
      .fld (Reg.MEM_SCRUB m) Fld.MEM_SCRUB.POS_MIB v, .prm (Prm.MEM_SCRUB_POS m) w, .count (Prm.MEM_SCRUB_UE m) 1] ++
      .poison line true :: scrubFault m line past := by
  have hecc : (((2 : Fin 3).val) = 2) = True := by decide
  let pos := s.mem.scrub.getD m 0 + 1
  refine ⟨if stackLines ≤ pos then 0 else pos, if stackLines ≤ pos then 0 else pos / 16384, w32 (if stackLines ≤ pos then 0 else pos / 16384),
    decide (stackLines ≤ pos), ?_⟩
  simp only [pos, actScrubLine, hecc, hclean, true_and, if_true, Bool.not_false, scrubFault, passEffects, decide_eq_true_eq, List.append_assoc,
    List.cons_append, List.nil_append]

theorem run_scrubLine_of_bad {m : Fin 4} {line : Nat} {s : State} (hclean : s.poison.has line = false) :
    let t := (actScrubLine m line 2).run s
    t.poison.has line = true ∧ t.evt 226 = true ∧ sameStores s t := by
  obtain ⟨pos, v, w, past, hact⟩ := actScrubLine_of_bad (m := m) hclean
  have hscrub : eventWord (Reg.MEM_SCRUB m) = false := eventWord_of_gt (by unfold Reg.MEM_SCRUB; omega)
  have hlo : eventWord (Reg.MEM_ERR_ADDR_LO m) = false := eventWord_of_gt (by unfold Reg.MEM_ERR_ADDR_LO; omega)
  have hhi : eventWord (Reg.MEM_ERR_ADDR_LO m + 4) = false := eventWord_of_gt (by unfold Reg.MEM_ERR_ADDR_LO; omega)
  have hfault : (scrubFault m line past).all (reaches [.regs, .out, .flt, .prms]) = true := by cases past <;> rfl
  have hkeeps : (scrubFault m line past).all keepsEvt = true := by
    cases past <;> simp [scrubFault, passEffects, errAddr, setReg64, keepsEvt, hlo, hhi]
  dsimp only
  rw [Act.run_eq, hact]
  refine ⟨?_, evt_applyAll_of_raise (by decide) (by simp [keepsEvt, effMem, hscrub, hkeeps]) (by simp [scrubFault]) s, ?_⟩
  · rw [applyAll_append, applyAll_cons, (agree_of_reaches hfault _).poison rfl]
    exact has_put_same ..
  · refine (agree_of_reaches (l := [.mem, .regs, .prms, .poison, .out, .flt]) ?_ s).sameStores rfl rfl rfl rfl rfl rfl
    cases past <;> rfl

/-- R605: a second ends with more corrections than MEM_CE_THRESH. -/
theorem run_memCeWindow {m : Fin 4} {s : State} (h : s.pn Prm.MEM_CE_THRESH < s.mem.window.getD m 0) :
    let t := actMemCeWindow.run s
    t.evt 224 = true ∧ t.mem.window = .empty ∧ sameStores s t := by
  have hraises : ((List.range 4).flatMap fun m => raiseIf (decide (s.pn Prm.MEM_CE_THRESH < s.mem.window.getD m 0)) 224).all
      (fun e => keepsEvt e && reaches [.regs, .out, .prms, .mem] e) = true := all_flatMap_of_forall fun _ _ => all_raiseIf rfl _
  have hcounts : (((List.range 4).filter fun m => s.flag (Reg.MEM_STAT m) Fld.MEM_STAT.REFRESH_2X).map fun m =>
      Eff.count (Prm.MEM_REFRESH_2X_S m) 1).all (fun e => keepsEvt e && reaches [.regs, .out, .prms, .mem] e) = true :=
    all_map_of_forall fun _ _ => rfl
  have hboth : (actMemCeWindow s).all (fun e => keepsEvt e && reaches [.regs, .out, .prms, .mem] e) = true := by
    rw [actMemCeWindow, List.all_append, List.all_append, hraises, hcounts]
    rfl
  obtain ⟨hkeeps, hreach⟩ : (actMemCeWindow s).all keepsEvt = true ∧ (actMemCeWindow s).all (reaches [.regs, .out, .prms, .mem]) = true := by
    simpa only [List.all_eq_true, Bool.and_eq_true, forall_and] using hboth
  dsimp only
  rw [Act.run_eq]
  refine ⟨evt_applyAll_of_raise (by decide) hkeeps ?_ s, ?_, (agree_of_reaches hreach s).sameStores rfl rfl rfl rfl rfl rfl⟩
  · refine List.mem_append_left _ (List.mem_append_left _ (List.mem_flatMap.mpr ⟨m, List.mem_range.mpr m.isLt, ?_⟩))
    simp [raiseIf, h]
  · rw [actMemCeWindow, applyAll_append]
    rfl

/-! ### Power and retraining -/

theorem covers_pcsDown (m : Fin 4) : covers (regMask (Reg.MEM_STAT m)) Fld.MEM_STAT.PCS_DOWN = true :=
  covers_word (b := 0x180000) (st := 0x40) (c := 4) (by decide +kernel) m.isLt

theorem plain_pcDown (m : Fin 4) : copyFind (Prm.MEM_PC_DOWN m) prmCopies = none :=
  plain_prm (b := 0xF6E) (st := 48) (c := 4) (by decide +kernel) m.isLt

theorem bitOf_w32_putBits_same (n : Nat) {i : Nat} (hi : i < 32) : bitOf (w32 (putBits n i i 1)).toNat i = true := by
  have hbit : (putBits n i i 1 % 2 ^ 32).testBit i = true := by
    rw [Nat.testBit_mod_two_pow, testBit_putBits _ _ _ _ _ (Nat.le_succ i), if_neg (Nat.lt_irrefl i), if_pos (Nat.le_refl i)]
    simp [hi]
  rw [w32, BitVec.toNat_ofNat, bitOf]
  rw [Nat.testBit_eq_decide_div_mod_eq] at hbit
  simpa using hbit

/-- R609: an idle pseudo-channel enters power-down. -/
theorem run_memPdEntry {m : Fin 4} {pc : Fin 32} {s : State} (hup : bitOf (s.pn (Prm.MEM_PC_DOWN m)) pc = false)
    (hlt : s.fld (Reg.MEM_STAT m) Fld.MEM_STAT.PCS_DOWN < 63) :
    let t := (actMemPdEntry m pc false).run s
    bitOf (t.pn (Prm.MEM_PC_DOWN m)) pc = true ∧
      t.fld (Reg.MEM_STAT m) Fld.MEM_STAT.PCS_DOWN = s.fld (Reg.MEM_STAT m) Fld.MEM_STAT.PCS_DOWN + 1 ∧ sameStores s t := by
  have hact : actMemPdEntry m pc false s = [.prm (Prm.MEM_PC_DOWN m) (w32 (putBits (s.pn (Prm.MEM_PC_DOWN m)) pc pc 1)),
      .count (Prm.MEM_PD_ENTRIES m) 1, .fld (Reg.MEM_STAT m) Fld.MEM_STAT.PCS_DOWN (s.fld (Reg.MEM_STAT m) Fld.MEM_STAT.PCS_DOWN + 1)] := by
    simp only [actMemPdEntry, hup, Bool.false_eq_true, false_and, if_false, memStat, List.cons_append, List.nil_append]
  have hne : Prm.MEM_PC_DOWN m ≠ Prm.MEM_PD_ENTRIES m := by unfold Prm.MEM_PC_DOWN Prm.MEM_PD_ENTRIES; omega
  dsimp only
  rw [Act.run_eq, hact]
  refine ⟨?_, ?_, applyAll_sameStores rfl s⟩
  · rw [applyAll_cons, applyAll_cons, applyAll_cons, applyAll_nil, pn_congr (plain_pcDown m) ((agree_apply (Eff.fld _ _ _) _).prms rfl),
      pn_count_ne hne, pn_prm_same (plain_pcDown m)]
    exact bitOf_w32_putBits_same _ pc.isLt
  · refine (fld_applyAll_of_fld (covers_pcsDown m) [_, _] _ (post := []) rfl s).trans ?_
    exact Nat.mod_eq_of_lt (by simp only [Fld.MEM_STAT.PCS_DOWN] at hlt ⊢; omega)

/-- R613. -/
theorem run_memRetrain (m : Fin 4) (pc : Fin 32) (s : State) :
    let t := (actMemRetrain m pc).run s
    t.pn Prm.MEM_RETRAINS = satAdd 0xFFFFFFFF (s.pn Prm.MEM_RETRAINS) 1 ∧ t.regs = s.regs ∧ sameStores s t := by
  have hne : Prm.MEM_RETRAINS ≠ Prm.MEM_RETRAIN m := by unfold Prm.MEM_RETRAINS Prm.MEM_RETRAIN; omega
  dsimp only
  rw [actMemRetrain, run_eff]
  refine ⟨?_, (agree_applyAll _ s).regs rfl, applyAll_sameStores rfl s⟩
  rw [applyAll_cons, applyAll_cons, applyAll_nil, pn_count_same (by decide +kernel), pn_count_ne hne]

/-- Settles O41: each turn by the checks it passes, an access by the access to its line, the rest by their effects. -/
theorem memoryRows : Obligations.MemoryRows := by
  refine ⟨fun k b s hs hf hlen hne heven hrsv hrun hroom ht => ?_, fun k s hs hlen hodd => ?_,
    fun f ticket n b s h => ⟨_, rfl, run_memAllocDone h⟩, fun k b s hs hlen hb hbase howner hfree => ?_,
    fun k s hs hf hlen hlo hhi hrsv => ?_, fun k s hs hlen => ?_, fun port tag addr age bs waited depth s htag hpos hfits hsize hclean => ?_,
    fun port tag addr len age waited depth s htag hpos hfits hsize hclean => ?_,
    fun port f addr age bs waited depth ecc s hother hpos hfits hsize => ⟨_, rfl, run_memRequest_of_denied hother ⟨hpos, hfits, hsize⟩⟩,
    fun port addr len age waited depth s hpos hfits hsize hclean => ?_, fun m line s hpos => ⟨_, rfl, run_scrubLine_of_good hpos⟩,
    fun m line s hclean => ⟨_, rfl, run_scrubLine_of_bad hclean⟩, fun m s h => ⟨_, rfl, run_memCeWindow h⟩,
    fun m pc s hup hlt => ⟨_, rfl, run_memPdEntry hup hlt⟩, fun m pc s => ⟨_, rfl, run_memRetrain m pc s⟩⟩
  · exact outcome_turn_of_pending (h := hMemAlloc) hs (hMemAlloc_of_room hf hlen hne heven hrsv hrun hroom) ht
  · exact outcome_turn_of_refuse (h := hMemAlloc) hs (hMemAlloc_of_odd hlen hodd) (by decide)
  · exact outcome_turn_of_ok (h := hMemFree) hs (hMemFree_of_owned hlen hb hbase howner hfree)
  · refine outcome_turn_of_ok (h := hMemQuota) hs ?_
    have hne : k.n 0 1 ≠ 0 := by omega
    have hle : ¬ 63 < k.n 0 1 := by omega
    simp [hMemQuota, hlen, notF0_fst hf, hne, hle, hrsv]
  · obtain ⟨mine, hinfo⟩ := hMemInfo_of_len (s := s) hlen
    exact ⟨mine, outcome_turn_of_ok (h := hMemInfo) hs hinfo⟩
  · obtain ⟨u, hu, hrun⟩ := run_memRequest_of_admitted (write := some bs) (len := 0) (ecc := 0) (port := port) (age := age) (waited := waited)
      (depth := depth) htag ⟨hpos, hfits, hsize⟩
    obtain ⟨hdev, hpoison, hhost, hpage, hcst⟩ := applyAll_serveLine_of_write (m := stackOf s addr) (port := port) (len := 0) (bs := bs)
      (show u.poison.has (addr / 64) = false by rw [hu.poison rfl]; exact hclean)
    refine ⟨(actMemRequest port tag addr (some bs) 0 age waited depth 0).run s, rfl, ?_⟩
    rw [hrun]
    exact ⟨by rw [← hu.devMem rfl]; exact hdev, hpoison, hhost.trans (hu.hostMem rfl), hpage.trans (hu.pageMem rfl), hcst.trans (hu.cst rfl)⟩
  · obtain ⟨u, hu, hrun⟩ := run_memRequest_of_admitted (write := none) (len := len) (ecc := 0) (port := port) (age := age) (waited := waited)
      (depth := depth) htag ⟨hpos, hfits, hsize⟩
    have hserve := serveLine_of_read (m := stackOf s addr) (port := port) (len := len)
      (show u.poison.has (addr / 64) = false by rw [hu.poison rfl]; exact hclean)
    refine ⟨(actMemRequest port tag addr none len age waited depth 0).run s, rfl, ?_⟩
    rw [hrun, show serveLine (stackOf s addr) port addr none len (0 : Fin 3) u = _ from hserve]
    refine ⟨sameStores_trans (hu.sameStores rfl rfl rfl rfl rfl rfl) (applyAll_sameStores rfl u), ?_⟩
    rw [applyAll_cons, applyAll_nil, emit_lineData, hu.out rfl, hu.devMem rfl]
    rfl
  · obtain ⟨u, hu, hrun⟩ := run_memRequest_of_admitted (tag := none) (write := none) (len := len) (ecc := 2) (port := port) (age := age)
      (waited := waited) (depth := depth) (fun f hf => nomatch hf) ⟨hpos, hfits, hsize⟩
    have hserve := serveLine_of_uncorrectable (m := stackOf s addr) (port := port) (len := len)
      (show u.poison.has (addr / 64) = false by rw [hu.poison rfl]; exact hclean)
    obtain ⟨hpoison, hevt, hsame⟩ := applyAll_uncorrectable (m := stackOf s addr) (line := addr / 64) port (memReadBytes u.devMem addr len) u
    refine ⟨(actMemRequest port none addr none len age waited depth 2).run s, rfl, ?_⟩
    rw [hrun, show serveLine (stackOf s addr) port addr none len (2 : Fin 3) u = _ from hserve]
    exact ⟨hpoison, hevt, sameStores_trans (hu.sameStores rfl rfl rfl rfl rfl rfl) hsame⟩

end Sys2Proof.MemoryLines
end

section
/-! Audio ports: the commands of opcode group 0x0D, and what the clocks and the frames of a port do (chapter 15). -/
open Sys2Proof Sys2Proof.Machine Sys2Proof.Reads Sys2Proof.ServiceTurn Sys2Proof.Turns Sys2Proof.Spans Sys2Proof.FieldReads
open Sys2Proof.RecoveryRows

-- Proofs that wait side by side for the kernel would not fit into the memory of one compile.
set_option Elab.async false

namespace Sys2Proof.AudioRows

/-! ### Commands -/

theorem hAudCsRead_of_input {k : Svc} {s : State} (hf : k.f = 0) (hlen : k.cmd.len = 4) (hp : k.n 0 1 < 8) (hch : k.n 1 1 < 2)
    (hrsv : zeroAt k.cmd.payload 2 2 = true) (hin : audOut s (k.n 0 1) = false) :
    ∃ rest, hAudCsRead k s = .ok (((s.audPort (k.n 0 1)).cs (k.n 1 1)).status ++ ((s.audPort (k.n 0 1)).cs (k.n 1 1)).user ++
      leBytes 4 ((s.audPort (k.n 0 1)).cs (k.n 1 1)).blocks ++ rest) (eff []) := by
  have hp7 : ¬ 7 < k.n 0 1 := by omega
  have hch1 : ¬ 1 < k.n 1 1 := by omega
  simp only [hAudCsRead, checks_cons, checks_nil, badLen_fst, rsv_fst, hlen, notF0_fst hf, hp7, hch1, hrsv, hin, decide_false, Bool.or_self,
    bne_self_eq_false, Bool.not_true, Bool.false_eq_true, if_false]
  exact ⟨_, rfl⟩

theorem hAudCsWrite_of_output {k : Svc} {s : State} (hf : k.f = 0) (hlen : k.cmd.len = 28) (hp : k.n 0 1 < 8) (hch : k.n 1 1 < 2)
    (hrsv : zeroAt k.cmd.payload 2 2 = true) (hrsv' : zeroAt k.cmd.payload 27 1 = true) (hout : audOut s (k.n 0 1) = true) :
    hAudCsWrite k s = .ok [] (eff [effCs (k.n 0 1) (k.n 1 1) fun x => { x with next := some (field k.cmd.payload 4 23) }]) := by
  have hp7 : ¬ 7 < k.n 0 1 := by omega
  have hch1 : ¬ 1 < k.n 1 1 := by omega
  simp only [hAudCsWrite, checks_cons, checks_nil, badLen_fst, rsv_fst, hlen, notF0_fst hf, hp7, hch1, hrsv, hrsv', hout, decide_false,
    Bool.or_self, bne_self_eq_false, Bool.not_true, Bool.false_eq_true, if_false]

/-! ### What a port holds -/

theorem audPort_effAud_same (p : Nat) (g : AudPort → AudPort) (s : State) : ((effAud p g).apply s).audPort p = g (s.audPort p) :=
  FMap.getD_upd_same ..

theorem audPort_effAud_ne {p q : Nat} (h : p ≠ q) (g : AudPort → AudPort) (s : State) : ((effAud q g).apply s).audPort p = s.audPort p :=
  FMap.getD_upd_ne _ h ..

theorem audPort_of_aud {s t : State} (h : t.aud = s.aud) (p : Nat) : t.audPort p = s.audPort p := by rw [State.audPort, h, State.audPort]

theorem audPort_apply_of_spares {e : Eff} (h : touches e .aud = false) (s : State) (p : Nat) : (e.apply s).audPort p = s.audPort p :=
  audPort_of_aud ((agree_apply e s).aud h) p

theorem covers_aud_locked (p : Fin 8) : covers (regMask (Reg.AUD_PORT_STAT p)) Fld.AUD_PORT_STAT.LOCKED = true :=
  covers_word (b := 0xE0004) (st := 0x20) (c := 8) (by decide +kernel) p.isLt

theorem covers_aud_muted (p : Fin 8) : covers (regMask (Reg.AUD_PORT_STAT p)) Fld.AUD_PORT_STAT.MUTED = true :=
  covers_word (b := 0xE0004) (st := 0x20) (c := 8) (by decide +kernel) p.isLt

theorem covers_aud_ratioErr (p : Fin 8) : covers (regMask (Reg.AUD_PORT_STAT p)) Fld.AUD_PORT_STAT.RATIO_ERR = true :=
  covers_word (b := 0xE0004) (st := 0x20) (c := 8) (by decide +kernel) p.isLt

theorem covers_aud_clockLost (p : Fin 8) : covers (regMask (Reg.AUD_PORT_STAT p)) Fld.AUD_PORT_STAT.CLOCK_LOST = true :=
  covers_word (b := 0xE0004) (st := 0x20) (c := 8) (by decide +kernel) p.isLt

theorem eventWord_audStat (p : Nat) : eventWord (Reg.AUD_PORT_STAT p) = false := eventWord_of_gt (by unfold Reg.AUD_PORT_STAT; omega)

theorem flag_applyAll_of_spares {a : Nat} {g : Fld} (hcov : covers (regMask a) g = true) {es : List Eff} (h : es.all (sparesFld a g) = true)
    (s : State) : (applyAll es s).flag a g = s.flag a g := by rw [State.flag, fld_applyAll_of_spares hcov h, State.flag]

/-! ### The state of a port follows its channels -/

/-- A field of AUD_PORT_STAT that audSync leaves. -/
def apartFromSync (g : Fld) : Bool := sparesFld 0 g (.fld 0 Fld.AUD_PORT_STAT.WAITING_ZC 0) && sparesFld 0 g (.fld 0 Fld.AUD_PORT_STAT.MUTED 0)

theorem every_audSync {P : Eff → Bool} {p : Nat} (haud : ∀ g, P (.aud g) = true)
    (hwait : ∀ v, P (.fld (Reg.AUD_PORT_STAT p) Fld.AUD_PORT_STAT.WAITING_ZC v) = true)
    (hmuted : ∀ v, P (.fld (Reg.AUD_PORT_STAT p) Fld.AUD_PORT_STAT.MUTED v) = true) (hprm : ∀ v, P (.prm (Prm.AUD_DELAY_IN_FORCE p) v) = true) :
    Every P (audSync p) := fun s => by
  simp only [audSync, List.all_cons, List.all_nil, effAud, haud, hwait, hmuted, hprm, Bool.and_self]

/-- What audSync leaves, beside the fields it shows. -/
theorem reaches_audSync (p : Nat) : Every (reaches [.aud, .regs, .prms]) (audSync p) := fun _ => rfl

theorem keepsEvt_audSync (p : Nat) : Every keepsEvt (audSync p) :=
  every_audSync (fun _ => rfl) (fun _ => by simp [keepsEvt, eventWord_audStat]) (fun _ => by simp [keepsEvt, eventWord_audStat]) fun _ => rfl

theorem flag_audSync {p : Fin 8} {g : Fld} (hcov : covers (regMask (Reg.AUD_PORT_STAT p)) g = true) (h : apartFromSync g = true) (s : State) :
    ((audSync p).run s).flag (Reg.AUD_PORT_STAT p) g = s.flag (Reg.AUD_PORT_STAT p) g := by
  obtain ⟨hw, hm⟩ : sparesFld 0 g (.fld 0 Fld.AUD_PORT_STAT.WAITING_ZC 0) = true ∧ sparesFld 0 g (.fld 0 Fld.AUD_PORT_STAT.MUTED 0) = true := by
    simpa [apartFromSync] using h
  have hsame (f : Fld) (v : Nat) (hf : sparesFld 0 g (.fld 0 f 0) = true) :
      sparesFld (Reg.AUD_PORT_STAT p) g (.fld (Reg.AUD_PORT_STAT p) f v) = true := by simpa [sparesFld] using hf
  exact flag_applyAll_of_spares hcov (every_audSync (fun _ => rfl) (fun _ => hsame _ _ hw) (fun _ => hsame _ _ hm) (fun _ => rfl) s) s

theorem audPort_audSync (p : Nat) (s : State) : ∃ since, ((audSync p).run s).audPort p = { s.audPort p with since := since } := by
  refine ⟨if audWaits s p 0 || audWaits s p 1 then some ((s.audPort p).since.getD s.uptime) else none, ?_⟩
  rw [Act.run_eq, audSync, applyAll_cons, audPort_of_aud ((agree_applyAll _ _).aud rfl), audPort_effAud_same]

/-- MUTED shows that a channel does not run. -/
theorem muted_audSync {p : Fin 8} {s : State} (h : (s.audPort p).a.run = false) :
    ((audSync p).run s).flag (Reg.AUD_PORT_STAT p) Fld.AUD_PORT_STAT.MUTED = true := by
  have hact (u : State) : audSync p u = (audSync p u).take 2 ++ .fld (Reg.AUD_PORT_STAT p) Fld.AUD_PORT_STAT.MUTED
      (if (u.audPort p).a.run && (u.audPort p).b.run then 0 else 1) :: (audSync p u).drop 3 := rfl
  rw [Act.run_eq, hact s, flag_applyAll_of_fld (covers_aud_muted p) rfl _ _ rfl]
  simp [h]

/-! ### A port that mutes -/

theorem reaches_audMuteNow (p : Nat) : Every (reaches [.aud, .regs, .prms]) (audMuteNow p) :=
  .cons (fun _ => rfl) (.cons (reaches_audSync p) (.nil _))

theorem keepsEvt_audMuteNow (p : Nat) : Every keepsEvt (audMuteNow p) := .cons (fun _ => rfl) (.cons (keepsEvt_audSync p) (.nil _))

theorem run_audMuteNow (p : Nat) (s : State) : (audMuteNow p).run s = (audSync p).run ((effAud p fun x =>
    { x with stable := false, a := { x.a with run := false }, b := { x.b with run := false } }).apply s) := by
  rw [audMuteNow, run_acts_cons, run_acts_cons, run_acts_nil, run_eff, applyAll_cons, applyAll_nil]

theorem flag_audMuteNow {p : Fin 8} {g : Fld} (hcov : covers (regMask (Reg.AUD_PORT_STAT p)) g = true) (h : apartFromSync g = true) (s : State) :
    ((audMuteNow p).run s).flag (Reg.AUD_PORT_STAT p) g = s.flag (Reg.AUD_PORT_STAT p) g := by
  rw [run_audMuteNow, flag_audSync hcov h, flag_apply rfl]

/-- R555: both channels have stopped, and MUTED shows it. -/
theorem muted_audMuteNow (p : Fin 8) (s : State) :
    let t := (audMuteNow p).run s
    (t.audPort p).a.run = false ∧ (t.audPort p).b.run = false ∧ t.flag (Reg.AUD_PORT_STAT p) Fld.AUD_PORT_STAT.MUTED = true := by
  dsimp only
  rw [run_audMuteNow]
  obtain ⟨since, hport⟩ := audPort_audSync p ((effAud p fun x =>
    { x with stable := false, a := { x.a with run := false }, b := { x.b with run := false } }).apply s)
  rw [audPort_effAud_same] at hport
  exact ⟨by rw [hport], by rw [hport], muted_audSync (by rw [audPort_effAud_same])⟩

/-! ### A clock that is lost -/

/-- What shows a lost clock of a port at once (R555). -/
def loseEffects (p : Nat) : List Eff :=
  [.fld (Reg.AUD_PORT_STAT p) Fld.AUD_PORT_STAT.CLOCK_LOST 1, .fld (Reg.AUD_PORT_STAT p) Fld.AUD_PORT_STAT.RATE 15,
    .count (Prm.AUD_CLOCK_LOSSES p) 1, .count Prm.AUD_CLOCK_LOSSES_TOTAL 1, .raise 216]

theorem run_audLose (p : Nat) (s : State) : (audLose p).run s = (audMuteNow p).run ((audLocked p false).run (applyAll (loseEffects p) s)) := by
  rw [audLose, run_acts_cons, run_acts_cons, run_acts_cons, run_acts_nil, run_eff, loseEffects]

theorem reaches_audLose (p : Nat) : Every (reaches [.aud, .regs, .prms, .out]) (audLose p) :=
  .cons (fun _ => rfl) (.cons (fun _ => rfl) (.cons (fun s => Tiles.reaches_of_subset (by decide) (reaches_audMuteNow p s)) (.nil _)))

theorem keepsEvt_audLose (p : Nat) : Every keepsEvt (audLose p) :=
  .cons (fun _ => by simp [keepsEvt, eventWord_audStat]) (.cons (fun _ => by simp [audLocked, keepsEvt, eventWord_audStat])
    (.cons (keepsEvt_audMuteNow p) (.nil _)))

/-- The clock of port p as it shows: lost, not locked, muted, with E216. -/
def Lost (p : Fin 8) (t : State) : Prop :=
  t.flag (Reg.AUD_PORT_STAT p) Fld.AUD_PORT_STAT.CLOCK_LOST = true ∧ t.flag (Reg.AUD_PORT_STAT p) Fld.AUD_PORT_STAT.MUTED = true ∧
    t.flag (Reg.AUD_PORT_STAT p) Fld.AUD_PORT_STAT.LOCKED = false ∧ (t.audPort p).a.run = false ∧ (t.audPort p).b.run = false ∧ t.evt 216 = true

theorem lost_audLose (p : Fin 8) (s : State) : Lost p ((audLose p).run s) := by
  obtain ⟨ha, hb, hmuted⟩ := muted_audMuteNow p ((audLocked p false).run (applyAll (loseEffects p) s))
  rw [run_audLose]
  refine ⟨?_, hmuted, ?_, ha, hb, ?_⟩
  · rw [flag_audMuteNow (covers_aud_clockLost p) rfl, Act.run_eq, flag_applyAll_of_spares (covers_aud_clockLost p) (by
      simp [audLocked, sparesFld, Fld.AUD_PORT_STAT.LOCKED, Fld.AUD_PORT_STAT.CLOCK_LOST])]
    exact flag_applyAll_of_fld (covers_aud_clockLost p) rfl [] 1 (by
      simp [sparesFld, eventWord_audStat, Fld.AUD_PORT_STAT.RATE, Fld.AUD_PORT_STAT.CLOCK_LOST]) s
  · rw [flag_audMuteNow (covers_aud_locked p) rfl, Act.run_eq, audLocked]
    exact flag_applyAll_of_fld (covers_aud_locked p) rfl [] 0 rfl _
  · refine (keepsEvt_audMuteNow p).evt (by decide) ?_
    rw [Act.run_eq]
    refine evt_applyAll_of_keeps (by decide) (by simp [audLocked, keepsEvt, eventWord_audStat]) ?_
    exact evt_applyAll_of_raise (by decide) (by simp [loseEffects, keepsEvt, eventWord_audStat]) (by simp [loseEffects]) s

/-- The effect leaves what a port holds. -/
def sparesPort (p : Nat) (e : Eff) : Prop := ∀ s : State, (e.apply s).audPort p = s.audPort p

theorem only_sparesPort_audLose {p q : Nat} (h : p ≠ q) : Only (sparesPort p) (audLose q) := by
  have hout (e : Eff) (he : touches e .aud = false) : sparesPort p e := fun s => audPort_apply_of_spares he s p
  have hsync : Only (sparesPort p) (audSync q) := fun s e he => by
    simp only [audSync, List.mem_cons, List.not_mem_nil, or_false] at he
    obtain rfl | rfl | rfl | rfl := he
    · exact audPort_effAud_ne h _
    · exact hout _ rfl
    · exact hout _ rfl
    · exact hout _ rfl
  refine .cons (fun s e he => ?_) (.cons (fun s e he => ?_) (.cons (.cons (fun s e he => ?_) (hsync.cons .nil)) .nil))
  · simp only [eff, List.mem_cons, List.not_mem_nil, or_false] at he
    obtain rfl | rfl | rfl | rfl | rfl := he
    all_goals exact hout _ rfl
  · simp only [audLocked, List.mem_cons, List.not_mem_nil, or_false] at he
    obtain rfl | rfl := he
    all_goals exact hout _ rfl
  · obtain rfl := List.mem_singleton.mp he
    exact audPort_effAud_ne h _

theorem sparesReg_audLose {p q : Nat} (h : p ≠ q) : Every (sparesReg (Reg.AUD_PORT_STAT p)) (audLose q) := by
  have hne : Reg.AUD_PORT_STAT q ≠ Reg.AUD_PORT_STAT p := by unfold Reg.AUD_PORT_STAT; omega
  refine .cons (fun _ => by simp [sparesReg, hne, eventWord_audStat]) (.cons (fun _ => by simp [audLocked, sparesReg, hne])
    (.cons (.cons (fun _ => rfl) (.cons (fun _ => by simp [audSync, sparesReg, effAud, hne]) (.nil _))) (.nil _)))

theorem only_actsFor_of_mem {α : Type} {P : Eff → Prop} {xs : List α} {g : α → Act} (h : ∀ x ∈ xs, Only P (g x)) : Only P (actsFor xs g) := by
  induction xs with
  | nil => exact .nil
  | cons x xs ih =>
    obtain ⟨hx, hxs⟩ := List.forall_mem_cons.mp h
    exact hx.cons (ih hxs)

/-- The loss of other ports' clocks leaves that of p. -/
theorem lost_actsFor {p : Fin 8} {qs : List Nat} (h : ∀ q ∈ qs, (p : Nat) ≠ q) {s : State} (hs : Lost p s) :
    Lost p ((actsFor qs audLose).run s) := by
  obtain ⟨hlost, hmuted, hlocked, ha, hb, hevt⟩ := hs
  have hrd : ((actsFor qs audLose).run s).rd (Reg.AUD_PORT_STAT p) = s.rd (Reg.AUD_PORT_STAT p) :=
    (Every.actsFor fun q hq => sparesReg_audLose (h q hq)).rd s
  have hport : ((actsFor qs audLose).run s).audPort p = s.audPort p :=
    applyAll_keeps_of_mem (·.audPort p) (only_actsFor_of_mem (fun q hq => only_sparesPort_audLose (h q hq)) s) s
  exact ⟨(flag_of_rd hrd _).trans hlost, (flag_of_rd hrd _).trans hmuted, (flag_of_rd hrd _).trans hlocked, by rw [hport, ha], by rw [hport, hb],
    (Every.actsFor fun q _ => keepsEvt_audLose q).evt (by decide) hevt⟩

theorem run_audClockLoss {p : Fin 8} {s : State} (hen : audEn s p = true) (hin : audOut s p = false) :
    let t := (actAudClockLoss p).run s
    Lost p t ∧ sameStores s t := by
  have hact : actAudClockLoss p s = acts [audLose p, actsFor ((List.range 8).filter fun q => audEn s q && audOut s q && !audMaster s q &&
      audRef s q == p.val) audLose] s := by
    simp only [actAudClockLoss, hen, hin, Bool.not_true, Bool.false_eq_true, or_self, if_false]
  have hothers : ∀ q ∈ (List.range 8).filter fun q => audEn s q && audOut s q && !audMaster s q && audRef s q == p.val, (p : Nat) ≠ q := by
    rintro q hq rfl
    simp [hin] at hq
  have hreach (q : Nat) := reaches_audLose q
  dsimp only
  rw [run_congr hact, run_acts_cons, run_acts_cons, run_acts_nil]
  exact ⟨lost_actsFor hothers (lost_audLose p s), sameStores_trans ((hreach p |>.agree s).sameStores rfl rfl rfl rfl rfl rfl)
    (((Every.actsFor fun q _ => hreach q).agree _).sameStores rfl rfl rfl rfl rfl rfl)⟩

/-! ### Rates -/

theorem reaches_ratioReport (p hz : Nat) : Every (reaches [.regs, .prms]) (ratioReport p hz) := fun _ => rfl

theorem actAudRatioError_of_bad {p : Fin 8} {hz : Nat} {s : State} (hen : audEn s p = true) (hbad : ratioBad s p hz = true) :
    actAudRatioError p hz s = acts [ratioReport p hz, eff [.fld (Reg.AUD_PORT_STAT p) Fld.AUD_PORT_STAT.RATIO_ERR 1,
      .count (Prm.AUD_RATIO_ERRS p) 1, .raise 217], audMuteNow p] s := by
  simp only [actAudRatioError, hen, hbad, Bool.not_true, Bool.false_eq_true, if_false, if_true]
  simp only [acts, Act.seq, List.append_nil]

/-- R553: beyond the tolerance the port mutes. -/
theorem run_audRatioError_of_bad {p : Fin 8} {hz : Nat} {s : State} (hen : audEn s p = true) (hbad : ratioBad s p hz = true) :
    let t := (actAudRatioError p hz).run s
    t.flag (Reg.AUD_PORT_STAT p) Fld.AUD_PORT_STAT.RATIO_ERR = true ∧ t.flag (Reg.AUD_PORT_STAT p) Fld.AUD_PORT_STAT.MUTED = true ∧
      (t.audPort p).a.run = false ∧ t.evt 217 = true ∧ sameStores s t := by
  dsimp only
  rw [run_congr (actAudRatioError_of_bad hen hbad), run_acts_cons, run_acts_cons, run_acts_cons, run_acts_nil, run_eff]
  have hreport := (reaches_ratioReport p hz).agree s
  generalize (ratioReport p hz).run s = u at hreport
  have hmute := (reaches_audMuteNow p).agree (applyAll [.fld (Reg.AUD_PORT_STAT p) Fld.AUD_PORT_STAT.RATIO_ERR 1,
    .count (Prm.AUD_RATIO_ERRS p) 1, .raise 217] u)
  obtain ⟨ha, -, hmuted⟩ := muted_audMuteNow p (applyAll [.fld (Reg.AUD_PORT_STAT p) Fld.AUD_PORT_STAT.RATIO_ERR 1,
    .count (Prm.AUD_RATIO_ERRS p) 1, .raise 217] u)
  refine ⟨?_, hmuted, ha, ?_, sameStores_trans (hreport.sameStores rfl rfl rfl rfl rfl rfl)
    (sameStores_trans (applyAll_sameStores rfl u) (hmute.sameStores rfl rfl rfl rfl rfl rfl))⟩
  · rw [flag_audMuteNow (covers_aud_ratioErr p) rfl]
    exact flag_applyAll_of_fld (covers_aud_ratioErr p) rfl [] 1 (by simp [sparesFld, eventWord_audStat]) u
  · exact (keepsEvt_audMuteNow p).evt (by decide)
      (evt_applyAll_of_raise (by decide) (by simp [keepsEvt, eventWord_audStat]) (by simp) u)

theorem actAudRatioError_of_good {p : Fin 8} {hz : Nat} {s : State} (hen : audEn s p = true) (hgood : ratioBad s p hz = false) :
    actAudRatioError p hz s = acts [ratioReport p hz, eff [.fld (Reg.AUD_PORT_STAT p) Fld.AUD_PORT_STAT.RATIO_ERR 0]] s := by
  simp only [actAudRatioError, hen, hgood, Bool.not_true, Bool.false_eq_true, if_false]

theorem run_audRatioError_of_good {p : Fin 8} {hz : Nat} {s : State} (hen : audEn s p = true) (hgood : ratioBad s p hz = false) :
    let t := (actAudRatioError p hz).run s
    t.flag (Reg.AUD_PORT_STAT p) Fld.AUD_PORT_STAT.RATIO_ERR = false ∧ t.aud = s.aud ∧ sameStores s t := by
  have hreport := (reaches_ratioReport p hz).agree s
  have hend := agree_applyAll [.fld (Reg.AUD_PORT_STAT p) Fld.AUD_PORT_STAT.RATIO_ERR 0] ((ratioReport p hz).run s)
  dsimp only
  rw [run_congr (actAudRatioError_of_good hen hgood), run_acts_cons, run_acts_cons, run_acts_nil, run_eff]
  exact ⟨flag_applyAll_of_fld (covers_aud_ratioErr p) rfl [] 0 rfl _, (hend.aud rfl).trans (hreport.aud rfl),
    sameStores_trans (hreport.sameStores rfl rfl rfl rfl rfl rfl) (applyAll_sameStores rfl _)⟩

theorem actAudUnmute_of_present {p : Fin 8} {hz : Nat} {s : State} (hen : audEn s p = true) (hgood : ratioBad s p hz = false)
    (hclock : clockPresent s p = true) : actAudUnmute p hz s = acts [ratioReport p hz, audLocked p true,
      eff [.fld (Reg.AUD_PORT_STAT p) Fld.AUD_PORT_STAT.RATIO_ERR 0, effAud p fun x => { x with stable := true }], audSync p] s := by
  simp only [actAudUnmute, hen, hgood, hclock, Bool.not_true, Bool.false_eq_true, or_self, if_false]

/-- R553, R555: the clock is stable again. -/
theorem run_audUnmute {p : Fin 8} {hz : Nat} {s : State} (hen : audEn s p = true) (hgood : ratioBad s p hz = false)
    (hclock : clockPresent s p = true) :
    let t := (actAudUnmute p hz).run s
    (t.audPort p).stable = true ∧ t.flag (Reg.AUD_PORT_STAT p) Fld.AUD_PORT_STAT.LOCKED = true ∧
      t.flag (Reg.AUD_PORT_STAT p) Fld.AUD_PORT_STAT.RATIO_ERR = false ∧ sameStores s t := by
  have hlocked : Every (reaches [.regs, .prms]) (audLocked p true) := fun _ => rfl
  dsimp only
  rw [run_congr (actAudUnmute_of_present hen hgood hclock), run_acts_cons, run_acts_cons, run_acts_cons, run_acts_cons, run_acts_nil, run_eff]
  have hreport := (reaches_ratioReport p hz).agree s
  generalize (ratioReport p hz).run s = u at hreport
  have hlock := hlocked.agree u
  have hflag : ((audLocked p true).run u).flag (Reg.AUD_PORT_STAT p) Fld.AUD_PORT_STAT.LOCKED = true := by
    rw [Act.run_eq, audLocked]
    exact flag_applyAll_of_fld (covers_aud_locked p) rfl [] 1 rfl u
  generalize (audLocked p true).run u = w at hlock hflag
  have hsync := (reaches_audSync p).agree (applyAll [.fld (Reg.AUD_PORT_STAT p) Fld.AUD_PORT_STAT.RATIO_ERR 0,
    effAud p fun x => { x with stable := true }] w)
  obtain ⟨since, hport⟩ := audPort_audSync p (applyAll [.fld (Reg.AUD_PORT_STAT p) Fld.AUD_PORT_STAT.RATIO_ERR 0,
    effAud p fun x => { x with stable := true }] w)
  refine ⟨?_, ?_, ?_, sameStores_trans (hreport.sameStores rfl rfl rfl rfl rfl rfl) (sameStores_trans (hlock.sameStores rfl rfl rfl rfl rfl rfl)
    (sameStores_trans (applyAll_sameStores rfl w) (hsync.sameStores rfl rfl rfl rfl rfl rfl)))⟩
  · rw [hport, applyAll_cons, applyAll_cons, applyAll_nil, audPort_effAud_same]
  · rw [flag_audSync (covers_aud_locked p) rfl, flag_applyAll_of_spares (covers_aud_locked p) (by
      simp [sparesFld, effAud, Fld.AUD_PORT_STAT.RATIO_ERR, Fld.AUD_PORT_STAT.LOCKED]), hflag]
  · rw [flag_audSync (covers_aud_ratioErr p) rfl]
    exact flag_applyAll_of_fld (covers_aud_ratioErr p) rfl [] 0 rfl w

/-! ### Changes that waited too long -/

theorem plain_zcTimeouts (p : Fin 8) : copyFind (Prm.AUD_ZC_TIMEOUTS p) prmCopies = none :=
  plain_prm (b := 0xD17) (st := 32) (c := 8) (by decide +kernel) p.isLt

theorem plain_crccErrs (p : Fin 8) : copyFind (Prm.AUD_CRCC_ERRS p) prmCopies = none :=
  plain_prm (b := 0xD11) (st := 32) (c := 8) (by decide +kernel) p.isLt

theorem actAudZcTimeout_of_waiting {p : Fin 8} {since : Nat} {s : State} (h : (s.audPort p).since = some since) :
    actAudZcTimeout p s = acts [audTake p true true, audSync p,
      eff [.count (Prm.AUD_ZC_TIMEOUTS p) 1, .count Prm.AUD_ZC_TIMEOUTS_TOTAL 1, .raise 219]] s := by
  simp only [actAudZcTimeout, h, Option.isNone_some, Bool.false_eq_true, if_false]

/-- R558: the waiting changes take effect, and the wait is counted. -/
theorem run_audZcTimeout {p : Fin 8} {since : Nat} {s : State} (h : (s.audPort p).since = some since) :
    let t := (actAudZcTimeout p).run s
    (t.audPort p).a = audDue s p 0 ∧ (t.audPort p).b = audDue s p 1 ∧ t.evt 219 = true ∧
      t.pn (Prm.AUD_ZC_TIMEOUTS p) = satAdd 0xFFFFFFFF (s.pn (Prm.AUD_ZC_TIMEOUTS p)) 1 ∧ sameStores s t := by
  have htake : (audTake p true true).run s = (effAud p fun x => { x with a := audDue s p 0, b := audDue s p 1 }).apply s := by
    rw [Act.run_eq, audTake, applyAll_cons, applyAll_nil]
    simp only [if_true]
  have hne : Prm.AUD_ZC_TIMEOUTS p ≠ Prm.AUD_ZC_TIMEOUTS_TOTAL := by unfold Prm.AUD_ZC_TIMEOUTS Prm.AUD_ZC_TIMEOUTS_TOTAL; omega
  have hdelay : Prm.AUD_DELAY_IN_FORCE p ≠ Prm.AUD_ZC_TIMEOUTS p := by unfold Prm.AUD_ZC_TIMEOUTS Prm.AUD_DELAY_IN_FORCE; omega
  dsimp only
  rw [run_congr (actAudZcTimeout_of_waiting h), run_acts_cons, run_acts_cons, run_acts_cons, run_acts_nil, run_eff, htake]
  have heff := agree_apply (effAud p fun x => { x with a := audDue s p 0, b := audDue s p 1 }) s
  obtain ⟨since', hport⟩ := audPort_audSync p ((effAud p fun x => { x with a := audDue s p 0, b := audDue s p 1 }).apply s)
  rw [audPort_effAud_same] at hport
  have hpn : Every (sparesPrm (Prm.AUD_ZC_TIMEOUTS p)) (audSync p) :=
    every_audSync (fun _ => rfl) (fun _ => rfl) (fun _ => rfl) fun _ => bne_iff_ne.mpr hdelay
  have hsync := (reaches_audSync p).agree ((effAud p fun x => { x with a := audDue s p 0, b := audDue s p 1 }).apply s)
  refine ⟨?_, ?_, evt_applyAll_of_raise (by decide) rfl (by simp) _, ?_, sameStores_trans (heff.sameStores rfl rfl rfl rfl rfl rfl)
    (sameStores_trans (hsync.sameStores rfl rfl rfl rfl rfl rfl) (applyAll_sameStores rfl _))⟩
  · rw [audPort_of_aud ((agree_applyAll _ _).aud rfl), hport]
  · rw [audPort_of_aud ((agree_applyAll _ _).aud rfl), hport]
  · rw [applyAll_cons, applyAll_cons, applyAll_cons, applyAll_nil, pn_congr (plain_zcTimeouts p) ((agree_apply (Eff.raise 219) _).prms rfl),
      pn_count_ne hne, pn_count_same (plain_zcTimeouts p), hpn.pn (plain_zcTimeouts p), pn_congr (plain_zcTimeouts p) (heff.prms rfl)]

/-! ### Channel status -/

theorem cs_effCs_same (p : Nat) (c : Fin 2) (g : AudCs → AudCs) (s : State) :
    (((effCs p c g).apply s).audPort p).cs c = g ((s.audPort p).cs c) := by
  rw [effCs, audPort_effAud_same, AudPort.cs, AudPort.cs]
  split
  · rfl
  · rfl

theorem field_all {bs : Bytes} {n : Nat} (h : bs.length = n) : field bs 0 n = bs := by
  simp [field, ← h]

/-- The count of the blocks of a port, which channel A keeps. -/
def blockCount (p : Nat) (chan : Fin 2) : List Eff := if chan.val = 0 then [.count (Prm.AUD_BLOCKS p) 1] else []

theorem blockCount_cases (p : Nat) (chan : Fin 2) : blockCount p chan = [] ∨ blockCount p chan = [.count (Prm.AUD_BLOCKS p) 1] := by
  unfold blockCount
  split
  · exact .inr rfl
  · exact .inl rfl

theorem reaches_blockCount (p : Nat) (chan : Fin 2) : (blockCount p chan).all (reaches [.prms]) = true := by
  obtain h | h := blockCount_cases p chan <;> rw [h] <;> rfl

/-- The channel status after a block that is accepted, and after one that is discarded (R560). -/
def acceptBlock (status user : Bytes) (c : AudCs) : AudCs :=
  { c with status := status, user := user, blocks := (c.blocks + 1) % 2 ^ 32, accepted := true, crcOk := true }
def discardBlock (user : Bytes) (c : AudCs) : AudCs := { c with user := user, blocks := (c.blocks + 1) % 2 ^ 32, crcOk := false }

/-- A block that is accepted changes what the host reads. -/
def csChanged (s : State) (p chan : Nat) (status : Bytes) : Bool :=
  ((s.audPort p).cs chan).accepted && ((s.audPort p).cs chan).status.take 23 != status.take 23

/-- The report of a change. -/
def changeReport (p : Nat) (changed : Bool) : List Eff := (if changed then [.count (Prm.AUD_CS_CHANGES p) 1] else []) ++ raiseIf changed 218

theorem actAudCsBlock_of_good {p : Fin 8} {chan : Fin 2} {status user : Bytes} {s : State} (hen : audEn s p = true) (hin : audOut s p = false)
    (hst : status.length = 24) (hus : user.length = 24) (hpro : csPro status = true) (hcrc : fieldN status 23 1 = crcc status) :
    actAudCsBlock p chan status user s = blockCount p chan ++
      [effCs p chan (acceptBlock status user)] ++
      changeReport p (csChanged s p chan status) := by
  simp only [actAudCsBlock, hen, hin, field_all hst, field_all hus, hpro, hcrc, Bool.not_true, Bool.false_eq_true, or_self, if_false,
    Bool.false_or, beq_self_eq_true, if_true, Bool.true_and, blockCount, csChanged, changeReport, List.append_assoc]
  rfl

/-- R560: a block whose CRCC is right is accepted. -/
theorem run_audCsBlock_of_good {p : Fin 8} {chan : Fin 2} {status user : Bytes} {s : State} (hen : audEn s p = true) (hin : audOut s p = false)
    (hst : status.length = 24) (hus : user.length = 24) (hpro : csPro status = true) (hcrc : fieldN status 23 1 = crcc status) :
    let t := (actAudCsBlock p chan status user).run s
    ((t.audPort p).cs chan).status = status ∧ ((t.audPort p).cs chan).user = user ∧ ((t.audPort p).cs chan).accepted = true ∧
      ((t.audPort p).cs chan).crcOk = true ∧ sameStores s t ∧
      (((s.audPort p).cs chan).accepted = true → ((s.audPort p).cs chan).status.take 23 ≠ status.take 23 → t.evt 218 = true) := by
  have htail : (changeReport p (csChanged s p chan status)).all (reaches [.prms, .regs, .out]) = true := by
    cases csChanged s p chan status <;> rfl
  have hkeeps : (changeReport p (csChanged s p chan status)).all keepsEvt = true := by cases csChanged s p chan status <;> rfl
  have hcount := agree_of_reaches (reaches_blockCount p chan) s
  dsimp only
  rw [Act.run_eq, actAudCsBlock_of_good hen hin hst hus hpro hcrc, applyAll_append, applyAll_append, applyAll_cons, applyAll_nil]
  rw [audPort_of_aud ((agree_of_reaches htail _).aud rfl), cs_effCs_same]
  refine ⟨rfl, rfl, rfl, rfl, ?_, fun hacc hne => evt_applyAll_of_raise (by decide) hkeeps ?_ _⟩
  · exact sameStores_trans (hcount.sameStores rfl rfl rfl rfl rfl rfl) (sameStores_trans
      ((agree_apply (effCs p chan _) _).sameStores rfl rfl rfl rfl rfl rfl) ((agree_of_reaches htail _).sameStores rfl rfl rfl rfl rfl rfl))
  · have hchanged : csChanged s p chan status = true := by simp [csChanged, hacc, hne]
    simp [changeReport, hchanged, raiseIf]

theorem actAudCsBlock_of_bad {p : Fin 8} {chan : Fin 2} {status user : Bytes} {s : State} (hen : audEn s p = true) (hin : audOut s p = false)
    (hst : status.length = 24) (hus : user.length = 24) (hpro : csPro status = true) (hcrc : fieldN status 23 1 ≠ crcc status) :
    actAudCsBlock p chan status user s = blockCount p chan ++ [.count (Prm.AUD_CRCC_ERRS p) 1,
      effCs p chan (discardBlock user)] := by
  have hok : (fieldN status 23 1 == crcc status) = false := by simpa using hcrc
  simp only [actAudCsBlock, hen, hin, field_all hst, field_all hus, hpro, hok, Bool.not_true, Bool.false_eq_true, or_self, if_false,
    blockCount, raiseIf, List.append_assoc]
  rfl

/-- R560: a block whose CRCC is wrong is counted, and its status discarded. -/
theorem run_audCsBlock_of_bad {p : Fin 8} {chan : Fin 2} {status user : Bytes} {s : State} (hen : audEn s p = true) (hin : audOut s p = false)
    (hst : status.length = 24) (hus : user.length = 24) (hpro : csPro status = true) (hcrc : fieldN status 23 1 ≠ crcc status) :
    let t := (actAudCsBlock p chan status user).run s
    ((t.audPort p).cs chan).status = ((s.audPort p).cs chan).status ∧ ((t.audPort p).cs chan).crcOk = false ∧
      t.pn (Prm.AUD_CRCC_ERRS p) = satAdd 0xFFFFFFFF (s.pn (Prm.AUD_CRCC_ERRS p)) 1 ∧ t.regs = s.regs ∧ sameStores s t := by
  have hcount := agree_of_reaches (reaches_blockCount p chan) s
  have hne : Prm.AUD_BLOCKS p ≠ Prm.AUD_CRCC_ERRS p := by unfold Prm.AUD_BLOCKS Prm.AUD_CRCC_ERRS; omega
  have hpn : (applyAll (blockCount p chan) s).pn (Prm.AUD_CRCC_ERRS p) = s.pn (Prm.AUD_CRCC_ERRS p) :=
    pn_applyAll_of_spares (plain_crccErrs p) (by
      obtain h | h := blockCount_cases p chan
      · rw [h]; rfl
      · rw [h]; simp [sparesPrm, hne]) s
  dsimp only
  rw [Act.run_eq, actAudCsBlock_of_bad hen hin hst hus hpro hcrc, applyAll_append]
  generalize applyAll (blockCount p chan) s = u at hcount hpn
  have hrest := agree_applyAll [.count (Prm.AUD_CRCC_ERRS p) 1, effCs p chan (discardBlock user)] u
  have hcs : ((applyAll [.count (Prm.AUD_CRCC_ERRS p) 1, effCs p chan (discardBlock user)] u).audPort p).cs chan =
      discardBlock user ((s.audPort p).cs chan) := by
    rw [applyAll_cons, applyAll_cons, applyAll_nil, cs_effCs_same, audPort_apply_of_spares rfl, audPort_of_aud (hcount.aud rfl)]
  refine ⟨by rw [hcs, discardBlock], by rw [hcs, discardBlock], ?_, (hrest.regs rfl).trans (hcount.regs rfl),
    sameStores_trans (hcount.sameStores rfl rfl rfl rfl rfl rfl) (hrest.sameStores rfl rfl rfl rfl rfl rfl)⟩
  rw [applyAll_cons, applyAll_cons, applyAll_nil, pn_congr (plain_crccErrs p) ((agree_apply (effCs p chan _) _).prms rfl),
    pn_count_same (plain_crccErrs p), hpn]

/-! ### A frame of an output -/

/-- The effect leaves the frame count of a port. -/
def sparesFrame (p : Nat) (e : Eff) : Prop := ∀ s : State, ((e.apply s).audPort p).frame = (s.audPort p).frame

theorem sparesFrame_effAud {p : Nat} {g : AudPort → AudPort} (h : ∀ x, (g x).frame = x.frame) : sparesFrame p (effAud p g) := fun s => by
  rw [audPort_effAud_same, h]

theorem sparesFrame_of_spares {p : Nat} {e : Eff} (h : touches e .aud = false) : sparesFrame p e := fun s => by
  rw [audPort_apply_of_spares h]

theorem only_sparesFrame_audSync (p : Nat) : Only (sparesFrame p) (audSync p) := fun s e he => by
  simp only [audSync, List.mem_cons, List.not_mem_nil, or_false] at he
  obtain rfl | rfl | rfl | rfl := he
  · exact sparesFrame_effAud fun _ => rfl
  all_goals exact sparesFrame_of_spares rfl

theorem only_sparesFrame_audCross (p : Nat) (a b : Int) : Only (sparesFrame p) (audCross p a b) := fun s => by
  refine Only.cons (fun s e he => ?_) ((only_sparesFrame_audSync p).cons (.cons (fun s e he => ?_) .nil)) s
  · obtain rfl := List.mem_singleton.mp he
    exact sparesFrame_effAud fun _ => rfl
  · obtain rfl := List.mem_singleton.mp he
    exact sparesFrame_effAud fun _ => rfl

theorem reaches_audCross (p : Nat) (a b : Int) : Every (reaches [.aud, .regs, .prms]) (audCross p a b) := fun s =>
  Every.cons (fun _ => rfl) (.cons (reaches_audSync p) (.cons (fun _ => rfl) (.nil _))) s

/-- What precedes a frame without data: the underrun, and a new block of channel status. -/
def beforeFrame (p : Nat) (miss first block : Bool) : List Eff :=
  (if miss then [.count (Prm.AUD_UNDERRUNS p) 1, .count Prm.AUD_UNDERRUNS_TOTAL 1] else []) ++ raiseIf first 220 ++
  (if block then [.count (Prm.AUD_BLOCKS p) 1,
    effAud p fun y => { y with
      csA := { y.csA with status := (y.csA.next.getD y.csA.status), accepted := y.csA.accepted || y.csA.next.isSome, next := none,
                          blocks := (y.csA.blocks + 1) % 2 ^ 32 },
      csB := { y.csB with status := (y.csB.next.getD y.csB.status), accepted := y.csB.accepted || y.csB.next.isSome, next := none,
                          blocks := (y.csB.blocks + 1) % 2 ^ 32 } }] else [])

theorem sparesFrame_of_mem_beforeFrame {p : Nat} {miss first block : Bool} : ∀ e ∈ beforeFrame p miss first block, sparesFrame p e := by
  intro e he
  simp only [beforeFrame, raiseIf, List.mem_append] at he
  obtain (he | he) | he := he
  · split at he
    · simp only [List.mem_cons, List.not_mem_nil, or_false] at he
      obtain rfl | rfl := he
      all_goals exact sparesFrame_of_spares rfl
    · cases he
  · split at he
    · obtain rfl := List.mem_singleton.mp he
      exact sparesFrame_of_spares rfl
    · cases he
  · split at he
    · simp only [List.mem_cons, List.not_mem_nil, or_false] at he
      obtain rfl | rfl := he
      · exact sparesFrame_of_spares rfl
      · exact sparesFrame_effAud fun _ => rfl
    · cases he

theorem reaches_beforeFrame (p : Nat) (miss first block : Bool) : (beforeFrame p miss first block).all (reaches [.aud, .regs, .prms, .out]) = true := by
  cases miss <;> cases first <;> cases block <;> rfl

/-- The frame itself, without data. -/
def emptyFrame (p k : Nat) (miss live : Bool) : List Eff :=
  [effAud p fun y => { y with missing := miss, frame := (y.frame + 1) % 192 },
    .emit (.packet 5 p (leBytes 3 (0#24).toNat ++ leBytes 3 (0#24).toNat ++ [if live then 0 else 1])), .prm (Prm.AUD_LAST_K p) (w32 k)]

/-- R557: an output whose source supplies no frame. -/
theorem run_audSend_none (p k : Nat) (s : State) : ∃ miss first block live, (audSend p k none).run s =
    applyAll (beforeFrame p miss first block ++ emptyFrame p k miss live) ((audCross p 0 0).run s) := by
  let u := (audCross p 0 0).run s
  refine ⟨(u.audPort p).a.run || (u.audPort p).b.run, ((u.audPort p).a.run || (u.audPort p).b.run) && !(u.audPort p).missing,
    decide ((u.audPort p).frame = 0), (u.audPort p).a.run || (u.audPort p).b.run, ?_⟩
  rw [audSend, run_acts_cons, run_acts_cons, run_acts_nil, Act.run_eq]
  simp only [Option.isNone_none, Bool.true_and, beforeFrame, emptyFrame, decide_eq_true_eq, List.append_assoc]
  rfl

/-- Effects only add to the trace. -/
theorem length_out_applyAll (es : List Eff) (s : State) : s.out.length ≤ (applyAll es s).out.length := by
  induction es generalizing s with
  | nil => exact Nat.le_refl _
  | cons e es ih =>
    obtain ⟨⟨new, hnew⟩, -⟩ := Steps.extends_apply e s
    refine Nat.le_trans ?_ (ih (e.apply s))
    rw [hnew, List.length_append]
    exact Nat.le_add_right ..

theorem run_audFrameNeeded {p : Fin 8} {s : State} (hout : audOut s p = true) (hen : audEn s p = true) (hsrc : (s.audPort p).a.src % 4 = 3) :
    let t := (actAudFrameNeeded p).run s
    (t.audPort p).frame = ((s.audPort p).frame + 1) % 192 ∧ s.out.length < t.out.length ∧ sameStores s t := by
  have hnone : sourceFrame s p (neededSample s p) = none := by
    simp only [sourceFrame, hsrc]
  have hact : actAudFrameNeeded p s = acts [audSend p (neededSample s p) none, eff []] s := by
    simp only [actAudFrameNeeded, hout, hen, hnone, hsrc, Bool.not_true, Bool.false_eq_true, false_and, or_self, if_false, OfNat.ofNat_ne_zero]
  obtain ⟨miss, first, block, live, hsend⟩ := run_audSend_none p (neededSample s p) s
  have hcross := (reaches_audCross p 0 0).agree s
  have hframe : (((audCross p 0 0).run s).audPort p).frame = (s.audPort p).frame :=
    applyAll_keeps_of_mem (fun t => (t.audPort p).frame) (only_sparesFrame_audCross p 0 0 s) s
  dsimp only
  rw [run_congr hact, run_acts_cons, run_acts_cons, run_acts_nil, run_eff, applyAll_nil, hsend, applyAll_append]
  generalize (audCross p 0 0).run s = u at hcross hframe
  have hbefore := agree_of_reaches (reaches_beforeFrame p miss first block) u
  have hframe' : ((applyAll (beforeFrame p miss first block) u).audPort p).frame = (u.audPort p).frame :=
    applyAll_keeps_of_mem (fun t => (t.audPort p).frame) sparesFrame_of_mem_beforeFrame u
  have hgrow : u.out.length ≤ (applyAll (beforeFrame p miss first block) u).out.length := length_out_applyAll _ u
  generalize applyAll (beforeFrame p miss first block) u = w at hbefore hframe' hgrow
  refine ⟨?_, ?_, sameStores_trans (hcross.sameStores rfl rfl rfl rfl rfl rfl) (sameStores_trans (hbefore.sameStores rfl rfl rfl rfl rfl rfl)
    (applyAll_sameStores rfl w))⟩
  · rw [emptyFrame, applyAll_cons, audPort_of_aud ((agree_applyAll _ _).aud rfl), audPort_effAud_same, hframe', hframe]
  · have hsent : (applyAll (emptyFrame p (neededSample s p) miss live) w).out.length = w.out.length + 1 := by
      rw [emptyFrame, applyAll_cons, applyAll_cons, (agree_applyAll _ _).out rfl, EffectReads.emit_of_leaves (.inr rfl), List.length_append,
        (agree_apply (effAud _ _) w).out rfl]
      rfl
    rw [hsent]
    rw [hcross.out rfl] at hgrow
    omega

theorem hAudInfo_of_port {k : Svc} {s : State} (hf : k.f = 0) (hlen : k.cmd.len = 4) (hp : k.n 0 1 < 8)
    (hrsv : zeroAt k.cmd.payload 1 3 = true) : hAudInfo k s = .ok (leBytes 4 (s.rd (Reg.AUD_PORT_STAT (k.n 0 1))).toNat ++
      leBytes 4 (s.pn (Prm.AUD_RATIO (k.n 0 1))) ++ leBytes 4 (s.pn (Prm.AUD_DELAY_IN_FORCE (k.n 0 1))) ++
      leBytes 4 (s.rd (Reg.AUD_RING_PROD (k.n 0 1))).toNat ++ leBytes 4 (s.rd (Reg.AUD_RING_CONS (k.n 0 1))).toNat ++
      leBytes 4 (s.pn (Prm.AUD_UNDERRUNS (k.n 0 1))) ++ leBytes 4 (s.pn (Prm.AUD_OVERRUNS (k.n 0 1)))) (eff []) := by
  have hp7 : ¬ 7 < k.n 0 1 := by omega
  simp only [hAudInfo, checks_cons, checks_nil, badLen_fst, rsv_fst, hlen, notF0_fst hf, hp7, hrsv, decide_false, bne_self_eq_false,
    Bool.not_true, Bool.false_eq_true, if_false, eff_nil]

/-- Settles O36: each command by the checks it passes, each row by its branch. -/
theorem audioPorts : Obligations.AudioPorts := by
  refine ⟨fun k s hs hf hlen hp hch hrsv hin => ?_, fun k s hs hf hlen => ?_, fun k s hs hf hlen hp hch hrsv hrsv' hout => ?_,
    fun k s hs hf hlen hin => ?_, fun k s hs hf hlen hp hrsv => ?_, fun p s hen hin => ?_,
    fun p hz s hen hbad => ⟨_, rfl, run_audRatioError_of_bad hen hbad⟩, fun p hz s hen hgood => ⟨_, rfl, run_audRatioError_of_good hen hgood⟩,
    fun p hz s hen hgood hclock => ⟨_, rfl, run_audUnmute hen hgood hclock⟩, fun p since s h => ⟨_, rfl, run_audZcTimeout h⟩,
    fun p chan status user s hen hin hst hus hpro hcrc => ⟨_, rfl, run_audCsBlock_of_good hen hin hst hus hpro hcrc⟩,
    fun p chan status user s hen hin hst hus hpro hcrc => ⟨_, rfl, run_audCsBlock_of_bad hen hin hst hus hpro hcrc⟩,
    fun p s hout hen hsrc => ⟨_, rfl, run_audFrameNeeded hout hen hsrc⟩⟩
  · obtain ⟨rest, hread⟩ := hAudCsRead_of_input hf hlen hp hch hrsv hin
    exact ⟨rest, outcome_turn_of_ok (h := hAudCsRead) hs hread⟩
  · refine outcome_turn_of_refuse (h := hAudCsRead) hs ?_ (by decide)
    simp [hAudCsRead, hlen, notF0_fst_of_ne hf]
  · exact outcome_turn_of_ok (h := hAudCsWrite) hs (hAudCsWrite_of_output hf hlen hp hch hrsv hrsv' hout)
  · refine outcome_turn_of_refuse (h := hAudCsWrite) hs ?_ (by decide)
    simp [hAudCsWrite, hlen, notF0_fst hf, hin]
  · exact outcome_turn_of_ok (h := hAudInfo) hs (hAudInfo_of_port hf hlen hp hrsv)
  · obtain ⟨⟨hlost, hmuted, hlocked, ha, hb, hevt⟩, hsame⟩ := run_audClockLoss hen hin
    exact ⟨_, rfl, hlost, hmuted, hlocked, ha, hb, hevt, hsame⟩

end Sys2Proof.AudioRows
end

section
/-! PTP messages, time-outs, exchanges between packages and pulse edges (chapter 14). -/
open Sys2Proof Sys2Proof.Machine Sys2Proof.Reads Sys2Proof.ServiceTurn Sys2Proof.Turns Sys2Proof.Spans Sys2Proof.FieldReads
open Sys2Proof.RecoveryRows Sys2Proof.EffectReads Sys2Proof.Wall Sys2Proof.Tiles Sys2Proof.AudioRows

-- Proofs that wait side by side for the kernel would not fit into the memory of one compile.
set_option Elab.async false

namespace Sys2Proof.TimeKeeping

/-! ### What a port holds -/

theorem ptp_effPtp_same (p : Nat) (g : PtpPort → PtpPort) (s : State) : ((effPtp p g).apply s).ptp p = g (s.ptp p) := FMap.getD_upd_same ..

theorem ptp_effPtp_ne {p q : Nat} (h : p ≠ q) (g : PtpPort → PtpPort) (s : State) : ((effPtp q g).apply s).ptp p = s.ptp p :=
  FMap.getD_upd_ne _ h ..

theorem ptp_of_tim {s t : State} (h : t.tim = s.tim) (p : Nat) : t.ptp p = s.ptp p := by rw [State.ptp, h, State.ptp]

theorem plain_badRx (p : Fin 4) : copyFind (Prm.PTP_BAD_RX p) prmCopies = none :=
  plain_prm (b := 0xC2D) (st := 16) (c := 4) (by decide +kernel) p.isLt

theorem plain_syncRx (p : Fin 4) : copyFind (Prm.PTP_SYNC_RX p) prmCopies = none :=
  plain_prm (b := 0xC24) (st := 16) (c := 4) (by decide +kernel) p.isLt

/-- A message that leaves after effects on neither the registers nor the trace. -/
theorem out_emit_after {es : List Eff} (hregs : touchesAny es .regs = false) (hout : touchesAny es .out = false) {s : State}
    (htrip : tripped s = false) (o : Out) : (applyAll (es ++ [.emit o]) s).out = s.out ++ [o] := by
  have hes := agree_applyAll es s
  have htrip' : tripped (applyAll es s) = false := by rw [tripped, flag_of_rd (s := s) (by simp only [State.rd, hes.regs hregs])]; exact htrip
  rw [applyAll_append, applyAll_cons, applyAll_nil, emit_of_leaves (.inl htrip'), hes.out hout]

/-! ### Messages -/

theorem actPtpMessage_of_short {p : Fin 4} {m : Bytes} {s : State} (hon : ptpOn s p = true) (hlen : m.length < 34) :
    actPtpMessage p m s = [.count (Prm.PTP_BAD_RX p) 1] := by
  simp only [actPtpMessage, hon, hlen, Bool.not_true, Bool.false_eq_true, if_false, true_or, if_true]

/-- R528: a message of a type that the device uses, in its domain. -/
theorem actPtpMessage_of_used {p : Fin 4} {m : Bytes} {typ : Nat} {s : State} (hon : ptpOn s p = true) (hlen : 44 ≤ m.length)
    (hver : netN m 1 1 % 16 = 2) (htyp : netN m 0 1 % 16 = typ) (hused : typ = 0 ∨ typ = 1) (hdomain : netN m 4 1 = s.pn Prm.TIM_PTP_DOMAIN) :
    actPtpMessage p m s = ptpUse p m s := by
  have h34 : ¬ m.length < 34 := by omega
  have h44 : ¬ m.length < 44 := by omega
  obtain rfl | rfl := hused
  all_goals simp [actPtpMessage, hon, h34, hver, htyp, ptpMin, h44, hdomain]

theorem ptpUse_of_sync {p : Fin 4} {m : Bytes} {s : State} (htyp : netN m 0 1 % 16 = 0) (hslave : (s.ptp p).state = 9)
    (hparent : netN m 20 10 = (s.ptp p).parent) (htwo : bitOf (netN m 6 1) 1 = true) : ptpUse p m s =
      [.count (Prm.PTP_SYNC_RX p) 1, effPtp p fun y => { y with
        waiting := some (netN m 30 2, (s.stamp : Int) - sgn 64 (netN m 8 8) - asym s p) }] := by
  simp only [ptpUse, htyp, hslave, hparent, htwo, beq_self_eq_true, Bool.and_self, Bool.not_true, Bool.false_eq_true, if_false, if_true,
    Nat.reduceEqDiff, OfNat.zero_ne_ofNat]

/-- R530: a two-step Sync on a slave port waits for its Follow_Up. -/
theorem run_ptpMessage_of_sync {p : Fin 4} {m : Bytes} {s : State} (hact : actPtpMessage p m s = ptpUse p m s)
    (htyp : netN m 0 1 % 16 = 0) (hslave : (s.ptp p).state = 9) (hparent : netN m 20 10 = (s.ptp p).parent)
    (htwo : bitOf (netN m 6 1) 1 = true) :
    let t := (actPtpMessage p m).run s
    (t.ptp p).waiting = some (netN m 30 2, (s.stamp : Int) - sgn 64 (netN m 8 8) - asym s p) ∧
      t.pn (Prm.PTP_SYNC_RX p) = satAdd 0xFFFFFFFF (s.pn (Prm.PTP_SYNC_RX p)) 1 ∧ t.regs = s.regs ∧ sameStores s t := by
  dsimp only
  rw [Act.run_eq, hact, ptpUse_of_sync htyp hslave hparent htwo]
  refine ⟨?_, ?_, (agree_applyAll _ s).regs rfl, applyAll_sameStores rfl s⟩
  · rw [applyAll_cons, applyAll_cons, applyAll_nil, ptp_effPtp_same]
  · rw [applyAll_cons, applyAll_cons, applyAll_nil, pn_congr (plain_syncRx p) ((agree_apply (effPtp p _) _).prms rfl),
      pn_count_same (plain_syncRx p)]

theorem ptpUse_of_delayReq {p : Fin 4} {m : Bytes} {s : State} (htyp : netN m 0 1 % 16 = 1) (hmaster : (s.ptp p).state = 6) : ptpUse p m s =
      [.count (Prm.PTP_DREQ_RX p) 1, .count (Prm.PTP_DRESP_TX p) 1, .emit (.packet 6 p (ptpHeader s p 9 54 0 (netN m 30 2) (sgn 64 (netN m 8 8)) 3
        (bitsOf (s.pn Prm.TIM_PTP_INTERVALS) 7 0) ++ ptpStamp s.stamp ++ beBytes 10 (netN m 20 10)))] := by
  simp only [ptpUse, htyp, hmaster, ne_eq, not_true_eq_false, if_false, if_true, OfNat.one_ne_ofNat, Nat.one_ne_zero]

/-- R529: a master answers a Delay_Req. -/
theorem run_ptpMessage_of_delayReq {p : Fin 4} {m : Bytes} {s : State} (hact : actPtpMessage p m s = ptpUse p m s)
    (htyp : netN m 0 1 % 16 = 1) (hmaster : (s.ptp p).state = 6) (htrip : tripped s = false) :
    let t := (actPtpMessage p m).run s
    t.tim = s.tim ∧ t.regs = s.regs ∧ sameStores s t ∧
      t.out = s.out ++ [.packet 6 p (ptpHeader s p 9 54 0 (netN m 30 2) (sgn 64 (netN m 8 8)) 3
        (bitsOf (s.pn Prm.TIM_PTP_INTERVALS) 7 0) ++ ptpStamp s.stamp ++ beBytes 10 (netN m 20 10))] := by
  dsimp only
  rw [Act.run_eq, hact, ptpUse_of_delayReq htyp hmaster]
  refine ⟨(agree_applyAll _ s).tim rfl, (agree_applyAll _ s).regs rfl, applyAll_sameStores rfl s, ?_⟩
  exact out_emit_after (es := [.count (Prm.PTP_DREQ_RX p) 1, .count (Prm.PTP_DRESP_TX p) 1]) rfl rfl htrip _

/-! ### Messages of the device -/

theorem actPtpSend_of_slave {p : Fin 4} {s : State} (hon : ptpOn s p = true) (hslave : (s.ptp p).state = 9) : actPtpSend p 2 s =
      [effPtp p fun y => { y with seqOut := (y.seqOut + 1) % 65536 },
        effPtp p fun y => { y with req := some ((s.ptp p).seqOut, (s.stamp : Int)) }, .count (Prm.PTP_DREQ_TX p) 1,
        .emit (.packet 6 p (ptpHeader s p 1 44 0 (s.ptp p).seqOut (-asym s p) 1 0x7F ++ List.replicate 10 0))] := by
  have hkind : (((2 : Fin 3).val) = 2) = True := by decide
  simp only [actPtpSend, hon, hkind, hslave, Bool.not_true, Bool.false_eq_true, if_false, if_true, ne_eq, not_true_eq_false]

/-- R529: a slave sends a Delay_Req. -/
theorem run_ptpSend_of_slave {p : Fin 4} {s : State} (hon : ptpOn s p = true) (hslave : (s.ptp p).state = 9) :
    let t := (actPtpSend p 2).run s
    (t.ptp p).req = some ((s.ptp p).seqOut, (s.stamp : Int)) ∧ (t.ptp p).seqOut = ((s.ptp p).seqOut + 1) % 65536 ∧ t.regs = s.regs ∧
      sameStores s t := by
  dsimp only
  rw [Act.run_eq, actPtpSend_of_slave hon hslave]
  have hport : ((applyAll [effPtp p fun y => { y with seqOut := (y.seqOut + 1) % 65536 },
        effPtp p fun y => { y with req := some ((s.ptp p).seqOut, (s.stamp : Int)) }, .count (Prm.PTP_DREQ_TX p) 1,
        .emit (.packet 6 p (ptpHeader s p 1 44 0 (s.ptp p).seqOut (-asym s p) 1 0x7F ++ List.replicate 10 0))] s).ptp p) =
      { s.ptp p with seqOut := ((s.ptp p).seqOut + 1) % 65536, req := some ((s.ptp p).seqOut, (s.stamp : Int)) } := by
    rw [applyAll_cons, applyAll_cons, ptp_of_tim ((agree_applyAll _ _).tim rfl), ptp_effPtp_same, ptp_effPtp_same]
  exact ⟨by rw [hport], by rw [hport], (agree_applyAll _ s).regs rfl, applyAll_sameStores rfl s⟩

/-- What a master sends of its own accord: the number of its messages rises, a message is counted, and one or two leave. -/
theorem actPtpSend_of_master {p : Fin 4} {kind : Fin 3} {s : State} (hon : ptpOn s p = true) (hmaster : (s.ptp p).state = 6)
    (hcfg : bitOf (s.pn (Prm.PTP_PORT_CFG p)) 2 = false) (hkind : kind.val < 2) : ∃ (id : Nat) (o : Out) (os : List Out),
    actPtpSend p kind s = [effPtp p fun y => { y with seqOut := (y.seqOut + 1) % 65536 }, .count id 1, .emit o] ++ os.map .emit := by
  have hk2 : ¬ kind.val = 2 := by omega
  by_cases hk0 : kind.val = 0
  · refine ⟨Prm.PTP_ANN_TX p, ?_, [], ?_⟩
    rotate_left
    · simp only [actPtpSend, hon, hk0, hmaster, hcfg, Bool.not_true, Bool.false_eq_true, if_false, if_true, ne_eq, not_true_eq_false,
        or_self, List.map_nil, List.append_nil, OfNat.zero_ne_ofNat]
      rfl
  · refine ⟨Prm.PTP_SYNC_TX p, .packet 6 p (ptpHeader s p 0 44 0x0200 (s.ptp p).seqOut 0 0 (bitsOf (s.pn Prm.TIM_PTP_INTERVALS) 15 8) ++ List.replicate 10 0),
      [.packet 6 p (ptpHeader s p 8 44 0 (s.ptp p).seqOut ((s.stamp % NS : Nat) : Int) 2 (bitsOf (s.pn Prm.TIM_PTP_INTERVALS) 15 8) ++ ptpStamp s.stamp)], ?_⟩
    simp only [actPtpSend, hon, hk2, hk0, hmaster, hcfg, Bool.not_true, Bool.false_eq_true, if_false, ne_eq, not_true_eq_false,
      or_self, List.map_cons, List.map_nil, List.cons_append, List.nil_append]

theorem reaches_emits (l : List Out) : (l.map Eff.emit).all (reaches [.out]) = true := all_map_of_forall fun _ _ => rfl

theorem run_ptpSend_of_master {p : Fin 4} {kind : Fin 3} {s : State} (hon : ptpOn s p = true) (hmaster : (s.ptp p).state = 6)
    (hcfg : bitOf (s.pn (Prm.PTP_PORT_CFG p)) 2 = false) (hkind : kind.val < 2) (htrip : tripped s = false) :
    let t := (actPtpSend p kind).run s
    (t.ptp p).seqOut = ((s.ptp p).seqOut + 1) % 65536 ∧ s.out.length < t.out.length ∧ t.regs = s.regs ∧ sameStores s t := by
  obtain ⟨id, o, os, hact⟩ := actPtpSend_of_master hon hmaster hcfg hkind
  dsimp only
  rw [Act.run_eq, hact, applyAll_append]
  have hfirst := agree_applyAll [effPtp p fun y => { y with seqOut := (y.seqOut + 1) % 65536 }, .count id 1, .emit o] s
  have hport : ((applyAll [effPtp p fun y => { y with seqOut := (y.seqOut + 1) % 65536 }, .count id 1, .emit o] s).ptp p).seqOut =
      ((s.ptp p).seqOut + 1) % 65536 := by
    rw [applyAll_cons, ptp_of_tim ((agree_applyAll _ _).tim rfl), ptp_effPtp_same]
  have hout : (applyAll [effPtp p fun y => { y with seqOut := (y.seqOut + 1) % 65536 }, .count id 1, .emit o] s).out.length =
      s.out.length + 1 := by
    have hsent := out_emit_after (es := [effPtp p fun y => { y with seqOut := (y.seqOut + 1) % 65536 }, .count id 1]) rfl rfl htrip o
    exact (congrArg List.length hsent).trans List.length_append
  generalize applyAll [effPtp p fun y => { y with seqOut := (y.seqOut + 1) % 65536 }, .count id 1, .emit o] s = u at hfirst hport hout
  have hrest := agree_of_reaches (reaches_emits os) u
  refine ⟨by rw [ptp_of_tim (hrest.tim rfl), hport], ?_, (hrest.regs rfl).trans (hfirst.regs rfl),
    sameStores_trans (hfirst.sameStores rfl rfl rfl rfl rfl rfl) (hrest.sameStores rfl rfl rfl rfl rfl rfl)⟩
  exact Nat.lt_of_lt_of_le (by omega) (length_out_applyAll _ u)

/-! ### Acts of time -/

/-- The parts that the acts of time reach beside device time. -/
def timeParts : List StatePart := [.regs, .prms, .out, .aud, .arm, .freeCtr]

/-- The effect reaches only device time and what follows it, and leaves the peers. -/
def TimeEff (e : Eff) : Prop := reaches (.tim :: timeParts) e = true ∧ ∀ s : State, (e.apply s).tim.peers = s.tim.peers

theorem timeEff_tim {g : Tim → Tim} (h : ∀ t, (g t).peers = t.peers) : TimeEff (.tim g) := ⟨rfl, fun _ => h _⟩

/-- Effects that leave device time. -/
theorem timeEffs_of_reaches {es : List Eff} (h : es.all (reaches timeParts) = true) : ∀ e ∈ es, TimeEff e := fun e he => by
  have hone : [e].all (reaches timeParts) = true := by simpa using List.all_eq_true.mp h e he
  refine ⟨by simpa using reaches_of_subset (m := .tim :: timeParts) (by decide) hone, fun s => ?_⟩
  have := (agree_of_reaches hone s).tim rfl
  rw [applyAll_cons, applyAll_nil] at this
  rw [this]

theorem only_of_reaches {a : Act} (h : Every (reaches timeParts) a) : Only TimeEff a := fun s => timeEffs_of_reaches (h s)

theorem mem_append_of {P : Eff → Prop} {a b : List Eff} (ha : ∀ e ∈ a, P e) (hb : ∀ e ∈ b, P e) : ∀ e ∈ a ++ b, P e := fun e he =>
  (List.mem_append.mp he).elim (ha e) (hb e)

theorem timeEffs_setRho (r : Int) : ∀ e ∈ setRho r, TimeEff e :=
  List.forall_mem_cons.mpr ⟨timeEff_tim fun _ => rfl, timeEffs_of_reaches rfl⟩

theorem only_steer : Only TimeEff steer := fun _ =>
  mem_append_of (a := [.draw, .draw]) (timeEffs_of_reaches rfl) (timeEffs_setRho _)

theorem only_loseLock : Only TimeEff loseLock := fun s => by
  unfold loseLock
  split
  · exact fun _ h => nomatch h
  · refine mem_append_of (mem_append_of (a := [_, _]) (timeEffs_of_reaches rfl) (b := [_, _, _])
      (List.forall_mem_cons.mpr ⟨timeEff_tim fun _ => rfl, timeEffs_of_reaches rfl⟩)) (timeEffs_setRho _)

theorem only_lockCheck (off : Int) : Only TimeEff (lockCheck off) := fun s => by
  unfold lockCheck
  split
  · refine List.forall_mem_cons.mpr ⟨timeEff_tim fun _ => rfl, ?_⟩
    split
    · exact timeEffs_of_reaches rfl
    · exact fun _ h => nomatch h
  · refine List.forall_mem_cons.mpr ⟨timeEff_tim fun _ => rfl, ?_⟩
    split
    · exact only_loseLock s
    · exact fun _ h => nomatch h

theorem reaches_tpoSkips (old new : Nat) : Every (reaches timeParts) (tpoSkips old new) := fun _ => all_flatMap_of_forall fun _ _ => by
  split <;> rfl

theorem reaches_audStepMute : Every (reaches timeParts) audStepMute := Every.actsFor fun p _ s => by
  unfold Act.when
  split
  · exact reaches_of_subset (by decide) (reaches_audMuteNow p s)
  · rfl

theorem timeEffs_nil : ∀ e ∈ ([] : List Eff), TimeEff e := fun _ h => nomatch h

theorem only_stepTime (new : Nat) : Only TimeEff (stepTime new) := fun s => by
  unfold stepTime
  refine Only.cons (only_of_reaches (reaches_tpoSkips _ _)) (.cons (fun _ => ?_) (.cons (only_of_reaches reaches_audStepMute) .nil)) s
  exact List.forall_mem_cons.mpr ⟨timeEff_tim fun _ => rfl, timeEffs_of_reaches rfl⟩

theorem only_acquireDone (status : Nat) : Only TimeEff (acquireDone status) := fun s => by
  unfold acquireDone
  refine Only.cons (only_of_reaches (Every.actsFor fun e _ t => ?_)) (.cons (fun _ => ?_) .nil) s
  · exact reaches_of_subset (by decide) (reaches_completeTicket e.1 e.2 status [] t)
  · exact List.forall_mem_cons.mpr ⟨timeEff_tim fun _ => rfl, timeEffs_nil⟩

theorem only_measure (off : Int) : Only TimeEff (measure off) := fun s => by
  refine Only.cons (only_of_reaches fun _ => rfl) (.cons (.ite (.ite (.cons (only_stepTime _) (.cons (only_acquireDone _) .nil))
    (.cons (only_of_reaches fun _ => rfl) (.cons only_steer .nil))) only_steer) (.cons (only_of_reaches fun _ => rfl)
    (.cons (only_lockCheck _) .nil))) s

theorem timeEffs_flatMap {α : Type} {xs : List α} {g : α → List Eff} (h : ∀ x, ∀ e ∈ g x, TimeEff e) : ∀ e ∈ xs.flatMap g, TimeEff e := fun e he => by
  obtain ⟨x, -, hx⟩ := List.mem_flatMap.mp he
  exact h x e hx

theorem only_bmca : Only TimeEff bmca := fun s => by
  refine mem_append_of (timeEffs_flatMap fun p => List.forall_mem_cons.mpr ⟨timeEff_tim fun _ => rfl, timeEffs_of_reaches ?_⟩)
    (timeEffs_of_reaches rfl)
  split <;> rfl

theorem only_electMaster : Only TimeEff electMaster := fun s => by
  unfold electMaster
  split
  · exact fun _ h => nomatch h
  · dsimp only
    split
    · exact fun _ h => nomatch h
    · refine Only.cons (fun _ => ?_) (.cons (only_of_reaches fun _ => rfl) (.cons only_bmca .nil)) s
      refine List.forall_mem_cons.mpr ⟨timeEff_tim fun _ => rfl, timeEffs_of_reaches ?_⟩
      split <;> rfl

/-- What acts of time leave. -/
theorem sameStores_of_only {a : Act} (h : Only TimeEff a) (s : State) : sameStores s (a.run s) ∧ (a.run s).tim.peers = s.tim.peers :=
  ⟨(agree_of_reaches (l := .tim :: timeParts) (List.all_eq_true.mpr fun e he => (h s e he).1) s).sameStores rfl rfl rfl rfl rfl rfl,
    applyAll_keeps_of_mem (·.tim.peers) (fun e he => (h s e he).2) s⟩

/-! ### Time over XPL -/

/-- R533: an exchange with a peer keeps what it measured. -/
theorem run_xplTimeExchange {peer : Fin 16} {candidate locked holdover : Bool} {t1 t2 t3 t4 cd cu : Nat} {s : State}
    (hpeer : peer.val ≠ s.fld Reg.HUB_TOPOLOGY Fld.HUB_TOPOLOGY.PKG_ID) :
    let t := (actXplTimeExchange peer candidate locked holdover t1 t2 t3 t4 cd cu).run s
    sameStores s t ∧ t.tim.peers.find peer = some ⟨s.fld (Reg.XPL_ROUTE peer) Fld.XPL_ROUTE.HOPS,
      (((t2 : Int) - t1 - cd) - ((t4 : Int) - cu - t3)) / 2, candidate, locked, holdover, true⟩ := by
  have hact : ∃ (x : Peer) (theta : Int), x = ⟨s.fld (Reg.XPL_ROUTE peer) Fld.XPL_ROUTE.HOPS,
      (((t2 : Int) - t1 - cd) - ((t4 : Int) - cu - t3)) / 2, candidate, locked, holdover, true⟩ ∧
      actXplTimeExchange peer candidate locked holdover t1 t2 t3 t4 cd cu s = acts [eff [.tim fun t => { t with peers := t.peers.put peer x }],
        acts [electMaster, fun s' => if s'.tim.master = some peer.val ∧ servoMode s' = 3 then measure (-theta) s' else []]] s := by
    refine ⟨_, (((t2 : Int) - t1 - cd) - ((t4 : Int) - cu - t3)) / 2, rfl, ?_⟩
    rw [actXplTimeExchange, if_neg hpeer]
    simp only [acts, Act.seq, List.append_nil]
  obtain ⟨x, theta, hx, hact⟩ := hact
  have hlate : Only TimeEff (acts [electMaster, fun s' => if s'.tim.master = some peer.val ∧ servoMode s' = 3 then measure (-theta) s' else []]) := by
    refine .cons only_electMaster (.cons (fun s' => ?_) .nil)
    split
    · exact only_measure _ s'
    · exact timeEffs_nil
  obtain ⟨hsame, hpeers⟩ := sameStores_of_only hlate (applyAll [.tim fun t => { t with peers := t.peers.put peer x }] s)
  dsimp only
  rw [run_congr hact, run_acts_cons, run_acts_cons, run_acts_nil, run_eff, ← hx]
  refine ⟨sameStores_trans (applyAll_sameStores rfl s) hsame, ?_⟩
  rw [hpeers]
  exact FMap.find_put_same ..

/-! ### Time-outs -/

/-- The effect leaves whether a port has heard a master, and its path delay. -/
def KeepsHeard (p : Nat) (e : Eff) : Prop := ∀ s : State, ((e.apply s).ptp p).heard = (s.ptp p).heard ∧ ((e.apply s).ptp p).delay = (s.ptp p).delay

theorem keepsHeard_of_spares {p : Nat} {e : Eff} (h : touches e .tim = false) : KeepsHeard p e := fun s => by
  rw [ptp_of_tim ((agree_apply e s).tim h)]
  exact ⟨rfl, rfl⟩

theorem keepsHeard_tim {p : Nat} {g : Tim → Tim} (h : ∀ t, (g t).ports = t.ports) : KeepsHeard p (.tim g) := fun s => by
  have hport : ((Eff.tim g).apply s).ptp p = s.ptp p := by rw [State.ptp, State.ptp]; exact congrArg (·.getD p PtpPort.init) (h s.tim)
  rw [hport]
  exact ⟨rfl, rfl⟩

theorem keepsHeard_of_all {p : Nat} {es : List Eff} (h : (es.all fun e => !touches e .tim) = true) : ∀ e ∈ es, KeepsHeard p e := fun e he =>
  keepsHeard_of_spares (by simpa using List.all_eq_true.mp h e he)

theorem keepsHeard_loseLock (p : Nat) : Only (KeepsHeard p) loseLock := fun s => by
  unfold loseLock
  split
  · exact fun _ h => nomatch h
  · exact mem_append_of (mem_append_of (a := [_, _]) (keepsHeard_of_all rfl) (b := [_, _, _])
      (List.forall_mem_cons.mpr ⟨keepsHeard_tim fun _ => rfl, keepsHeard_of_all rfl⟩))
      (List.forall_mem_cons.mpr ⟨keepsHeard_tim fun _ => rfl, keepsHeard_of_all rfl⟩)

theorem keepsHeard_state (p q st : Nat) : KeepsHeard p (effPtp q fun x => { x with state := st }) := fun s => by
  by_cases h : p = q
  · subst h
    rw [ptp_effPtp_same]
    exact ⟨rfl, rfl⟩
  · rw [ptp_effPtp_ne h]
    exact ⟨rfl, rfl⟩

theorem keepsHeard_bmca (p : Nat) : Only (KeepsHeard p) bmca := fun s => by
  refine mem_append_of (fun e he => ?_) (keepsHeard_of_all rfl)
  obtain ⟨q, -, hq⟩ := List.mem_flatMap.mp he
  refine List.forall_mem_cons.mpr ⟨keepsHeard_state p q _, keepsHeard_of_all ?_⟩ e hq
  split <;> rfl

/-- R526: a port has heard no master for long. -/
theorem run_ptpAnnounceTimeout (p : Fin 4) (s : State) :
    let t := (actPtpAnnounceTimeout (some p)).run s
    (t.ptp p).heard = false ∧ (t.ptp p).delay = none ∧ sameStores s t := by
  have hact : ∃ was : Bool, actPtpAnnounceTimeout (some p) s = acts [eff [.count (Prm.PTP_ANN_TIMEOUTS p) 1,
      effPtp p fun x => { x with heard := false, delay := none, ms := none, waiting := none, req := none }],
      acts [if was then loseLock else eff [], bmca]] s := by
    refine ⟨(s.ptp p).state == 9 && servoMode s == 1, ?_⟩
    rw [actPtpAnnounceTimeout]
    simp only [acts, Act.seq, List.append_nil]
  obtain ⟨was, hact⟩ := hact
  have htime : Only TimeEff (acts [if was then loseLock else eff [], bmca]) := .cons (.ite only_loseLock fun _ => timeEffs_nil) (.cons only_bmca .nil)
  have hheard : Only (KeepsHeard p) (acts [if was then loseLock else eff [], bmca]) :=
    .cons (.ite (keepsHeard_loseLock p) fun _ _ h => nomatch h) (.cons (keepsHeard_bmca p) .nil)
  dsimp only
  rw [run_congr hact, run_acts_cons, run_acts_cons, run_acts_nil, run_eff]
  have hport : (applyAll [.count (Prm.PTP_ANN_TIMEOUTS p) 1,
      effPtp p fun x => { x with heard := false, delay := none, ms := none, waiting := none, req := none }] s).ptp p =
      { s.ptp p with heard := false, delay := none, ms := none, waiting := none, req := none } := by
    rw [applyAll_cons, applyAll_cons, applyAll_nil, ptp_effPtp_same, ptp_of_tim ((agree_apply _ s).tim rfl)]
  have hfirst : sameStores s (applyAll [.count (Prm.PTP_ANN_TIMEOUTS p) 1,
      effPtp p fun x => { x with heard := false, delay := none, ms := none, waiting := none, req := none }] s) := applyAll_sameStores rfl s
  generalize applyAll [.count (Prm.PTP_ANN_TIMEOUTS p) 1,
      effPtp p fun x => { x with heard := false, delay := none, ms := none, waiting := none, req := none }] s = u at hport hfirst
  have hkept : (((acts [if was then loseLock else eff [], bmca]).run u).ptp p).heard = (u.ptp p).heard ∧
      (((acts [if was then loseLock else eff [], bmca]).run u).ptp p).delay = (u.ptp p).delay :=
    ⟨applyAll_keeps_of_mem (fun t => (t.ptp p).heard) (fun e he v => (hheard u e he v).1) u,
      applyAll_keeps_of_mem (fun t => (t.ptp p).delay) (fun e he v => (hheard u e he v).2) u⟩
  rw [hport] at hkept
  exact ⟨hkept.1, hkept.2, sameStores_trans hfirst (sameStores_of_only htime u).1⟩

theorem covers_tim_locked : covers (regMask Reg.TIM_STATE) Fld.TIM_STATE.LOCKED = true := by decide +kernel
theorem covers_tim_holdover : covers (regMask Reg.TIM_STATE) Fld.TIM_STATE.HOLDOVER = true := by decide +kernel

/-- R526: a follower that hears its master no more enters holdover. -/
theorem run_ptpAnnounceTimeout_none {s : State} (hmode : servoMode s = 3) (hlocked : s.flag Reg.TIM_STATE Fld.TIM_STATE.LOCKED = true) :
    let t := (actPtpAnnounceTimeout none).run s
    t.flag Reg.TIM_STATE Fld.TIM_STATE.LOCKED = false ∧ t.flag Reg.TIM_STATE Fld.TIM_STATE.HOLDOVER = true ∧ t.evt 209 = true ∧
      sameStores s t := by
  have hfld : ¬ timFld s Fld.TIM_STATE.LOCKED = 0 := by
    intro h
    rw [State.flag, show s.fld Reg.TIM_STATE Fld.TIM_STATE.LOCKED = 0 from h] at hlocked
    cases hlocked
  have hact : actPtpAnnounceTimeout none s = loseLock s := by
    simp only [actPtpAnnounceTimeout, Act.when, hmode, beq_self_eq_true, if_true]
  have hsame := (sameStores_of_only only_loseLock s).1
  have hlose : loseLock s = [.fld Reg.TIM_STATE Fld.TIM_STATE.LOCKED 0, .fld Reg.TIM_STATE Fld.TIM_STATE.HOLDOVER 1,
      .tim fun t => { t with lockSince := none, rhoHist := [] }, .count Prm.TIM_LOCK_LOSSES 1, .raise 209] ++ setRho (rhoMean s) := by
    rw [loseLock, if_neg hfld]
  rw [Act.run_eq, hlose] at hsame
  dsimp only
  rw [Act.run_eq, hact, hlose]
  refine ⟨?_, ?_, evt_applyAll_of_raise (by decide) rfl (by simp) s, hsame⟩
  · exact flag_applyAll_of_fld covers_tim_locked rfl [] 0 rfl s
  · exact flag_applyAll_of_fld covers_tim_holdover rfl [_] 1 rfl s

/-! ### Pulses -/

theorem tpo_effTpo_same (n : Nat) (g : Tpo → Tpo) (s : State) : ((effTpo n g).apply s).tpo n = g (s.tpo n) := FMap.getD_upd_same ..

theorem tpo_of_tim {s t : State} (h : t.tim = s.tim) (n : Nat) : t.tpo n = s.tpo n := by rw [State.tpo, h, State.tpo]

theorem reaches_captureTrigger (sn t16 : Nat) : Every (reaches [.cam, .regs, .out]) (captureTrigger sn t16) := fun s => by
  have hsync : Every (reaches [.cam, .regs, .out]) (trigSync sn) := fun _ => rfl
  have hsns (g : Sns → Sns) : Every (reaches [.cam, .regs, .out]) (acts [eff [effSns sn g], trigSync sn]) := .cons (fun _ => rfl) (.cons hsync (.nil _))
  unfold captureTrigger
  dsimp only
  split
  · split
    · rfl
    · exact hsns _ s
  · exact hsns _ s

/-- The effects of a leading edge, before the sensors that it triggers (R541). -/
def fireEffects (n t16 : Nat) (pol report : Bool) : List Eff :=
  [effTpo n fun x => { x with pulse := some (t16 + x.width * NS) }] ++ tpoLevel n pol true ++
    [.inc (Reg.TPO_STAT n) Fld.TPO_STAT.FIRED 1, .count (Prm.TPO_FIRED n) 1] ++ raiseIf report 212

/-- The edges of a schedule after its leading edge, and the schedule after the end of a pulse (R538). -/
def nextEdges (e : Nat) (x : Tpo) : Tpo := { x with edges := if x.mode = 2 then [e + x.period] else x.edges.tail }
def endPulse (x : Tpo) : Tpo :=
  { x with pulse := none, stopping := false, active := x.active && !x.stopping && !(x.mode == 1 && x.edges.isEmpty) }

theorem nextEdges_of_once {e : Nat} {x : Tpo} (hmode : x.mode = 1) (hedges : x.edges = [e]) : nextEdges e x = { x with edges := [] } := by
  simp only [nextEdges, hmode, hedges, OfNat.one_ne_ofNat, if_false, List.tail_cons]

theorem endPulse_of_once {x : Tpo} (hmode : x.mode = 1) (hedges : x.edges = []) :
    endPulse x = { x with pulse := none, stopping := false, active := false } := by
  simp [endPulse, hmode, hedges]

/-- R538, R541: the pulse of a once schedule begins. -/
theorem run_tpoEdge_of_lead {n : Fin 16} {e : Nat} {s : State} (hpulse : (s.tpo n).pulse = none) (hedges : (s.tpo n).edges = [e])
    (hactive : (s.tpo n).active = true) (hmode : (s.tpo n).mode = 1) :
    let t := (actTpoEdge n).run s
    (t.tpo n).pulse = some (e + (s.tpo n).width * NS) ∧ (t.tpo n).edges = [] ∧ t.devMem = s.devMem ∧ t.hostMem = s.hostMem := by
  have hact : actTpoEdge n s = tpoLead n e s := by simp only [actTpoEdge, hpulse, hedges, hactive, if_true]
  dsimp only
  have hlead : tpoLead n e = acts [eff [effTpo n (nextEdges e)], tpoFire n e] := rfl
  rw [run_congr hact, hlead, run_acts_cons, run_acts_cons, run_acts_nil, run_eff]
  have htpo : (applyAll [effTpo n (nextEdges e)] s).tpo n =
      { s.tpo n with edges := [] } := by
    rw [applyAll_cons, applyAll_nil, tpo_effTpo_same, nextEdges_of_once hmode hedges]
  have hnext := agree_applyAll [effTpo n (nextEdges e)] s
  generalize applyAll [effTpo n (nextEdges e)] s = u at htpo hnext
  obtain ⟨report, htargets⟩ : ∃ report, tpoFire n e u = acts [eff (fireEffects n e (u.tpo n).pol report),
      actsFor (trigTargets u (0x20 + n)) (fun sn => captureTrigger sn e)] u :=
    ⟨u.flag (Reg.TPO_CTRL n) Fld.TPO_CTRL.REPORT, by simp only [tpoFire, fireEffects]⟩
  rw [run_congr htargets, run_acts_cons, run_acts_cons, run_acts_nil, run_eff]
  have hfire : (fireEffects n e (u.tpo n).pol report).all (reaches [.tim, .regs, .out, .prms]) = true := by cases report <;> rfl
  have hfired : ((applyAll (fireEffects n e (u.tpo n).pol report) u).tpo n) =
      { u.tpo n with pulse := some (e + (u.tpo n).width * NS) } := by
    have hrest : (tpoLevel n (u.tpo n).pol true ++ [Eff.inc (Reg.TPO_STAT n) Fld.TPO_STAT.FIRED 1, .count (Prm.TPO_FIRED n) 1] ++
        raiseIf report 212).all (reaches [.regs, .out, .prms]) = true := by cases report <;> rfl
    rw [fireEffects, List.append_assoc, List.append_assoc, ← List.append_assoc (tpoLevel n (u.tpo n).pol true), List.cons_append, List.nil_append,
      applyAll_cons, tpo_of_tim ((agree_of_reaches hrest _).tim rfl), tpo_effTpo_same]
  have hfireAgree := agree_of_reaches hfire u
  have hcapture := (Every.actsFor fun sn (_ : sn ∈ trigTargets u (0x20 + n)) => reaches_captureTrigger sn e).agree
    (applyAll (fireEffects n e (u.tpo n).pol report) u)
  refine ⟨?_, ?_, ?_, ?_⟩
  · rw [tpo_of_tim (hcapture.tim rfl), hfired, htpo]
  · rw [tpo_of_tim (hcapture.tim rfl), hfired, htpo]
  · rw [hcapture.devMem rfl, hfireAgree.devMem rfl, hnext.devMem rfl]
  · rw [hcapture.hostMem rfl, hfireAgree.hostMem rfl, hnext.hostMem rfl]

theorem covers_tpo_active (n : Fin 16) : covers (regMask (Reg.TPO_STAT n)) Fld.TPO_STAT.ACTIVE = true :=
  covers_word (b := 0xD101C) (st := 0x20) (c := 16) (by decide +kernel) n.isLt

/-- R538: the pulse of a once schedule ends, and the schedule with it. -/
theorem run_tpoEdge_of_close {n : Fin 16} {c : Nat} {s : State} (hpulse : (s.tpo n).pulse = some c) (hedges : (s.tpo n).edges = [])
    (hmode : (s.tpo n).mode = 1) :
    let t := (actTpoEdge n).run s
    (t.tpo n).pulse = none ∧ (t.tpo n).active = false ∧ t.flag (Reg.TPO_STAT n) Fld.TPO_STAT.ACTIVE = false ∧ t.prms = s.prms := by
  have hact : actTpoEdge n s = tpoClose n s := by simp only [actTpoEdge, hpulse, hedges]
  have hclose : tpoClose n s = acts [eff (effTpo n endPulse :: tpoLevel n (s.tpo n).pol false), tpoSync n] s := rfl
  dsimp only
  rw [run_congr hact, run_congr hclose, run_acts_cons, run_acts_cons, run_acts_nil, run_eff]
  have hagree := agree_applyAll (effTpo n endPulse :: tpoLevel n (s.tpo n).pol false) s
  have htpo : (applyAll (effTpo n endPulse :: tpoLevel n (s.tpo n).pol false) s).tpo n =
      { s.tpo n with pulse := none, stopping := false, active := false } := by
    rw [applyAll_cons, tpo_of_tim ((agree_applyAll _ _).tim rfl), tpo_effTpo_same, endPulse_of_once hmode hedges]
  generalize applyAll (effTpo n endPulse :: tpoLevel n (s.tpo n).pol false) s = u at hagree htpo
  have hsync := agree_applyAll (tpoSync n u) u
  rw [Act.run_eq]
  refine ⟨?_, ?_, ?_, (hsync.prms rfl).trans (hagree.prms rfl)⟩
  · rw [tpo_of_tim (hsync.tim rfl), htpo]
  · rw [tpo_of_tim (hsync.tim rfl), htpo]
  · rw [tpoSync, htpo]
    exact flag_applyAll_of_fld (covers_tpo_active n) rfl [] 0 rfl u

/-- Settles O35: each row by its branch; what follows a measurement leaves the peers, and what follows a time-out the port's masters. -/
theorem timeRows : Obligations.TimeRows := by
  refine ⟨fun p m s hon hlen => ⟨(actPtpMessage p m).run s, rfl, ?_⟩,
    fun p m s hon hlen hver htyp hdomain hslave hparent htwo => ⟨_, rfl,
      run_ptpMessage_of_sync (actPtpMessage_of_used hon hlen hver htyp (.inl rfl) hdomain) htyp hslave hparent htwo⟩,
    fun p m s hon hlen hver htyp hdomain hmaster htrip => ⟨_, rfl,
      run_ptpMessage_of_delayReq (actPtpMessage_of_used hon hlen hver htyp (.inr rfl) hdomain) htyp hmaster htrip⟩,
    fun p s hon hslave => ⟨_, rfl, run_ptpSend_of_slave hon hslave⟩,
    fun p kind s hon hmaster hcfg hkind htrip => ⟨_, rfl, run_ptpSend_of_master hon hmaster hcfg hkind htrip⟩,
    fun p s => ⟨_, rfl, run_ptpAnnounceTimeout p s⟩, fun s hmode hlocked => ⟨_, rfl, run_ptpAnnounceTimeout_none hmode hlocked⟩,
    fun peer candidate locked holdover t1 t2 t3 t4 cd cu s hpeer => ⟨_, rfl, run_xplTimeExchange hpeer⟩,
    fun n e s hpulse hedges hactive hmode => ⟨_, rfl, run_tpoEdge_of_lead hpulse hedges hactive hmode⟩,
    fun n c s hpulse hedges hmode => ⟨_, rfl, run_tpoEdge_of_close hpulse hedges hmode⟩⟩
  rw [Act.run_eq, actPtpMessage_of_short hon hlen]
  refine ⟨?_, (agree_applyAll _ s).tim rfl, (agree_applyAll _ s).regs rfl, applyAll_sameStores rfl s⟩
  rw [applyAll_cons, applyAll_nil, pn_count_same (plain_badRx p)]

end Sys2Proof.TimeKeeping
end

section
/-! The links between packages (R682 to R690): flits, width negotiation, retraining and routes. -/
open Sys2Proof Sys2Proof.Machine Sys2Proof.Reads Sys2Proof.Spans Sys2Proof.FieldReads Sys2Proof.RecoveryRows Sys2Proof.EffectReads
open Sys2Proof.AudioRows Sys2Proof.MemoryLines Sys2Proof.TimeKeeping

-- Proofs that wait side by side for the kernel would not fit into the memory of one compile.
set_option Elab.async false

namespace Sys2Proof.PackageRows

/-! ### What a link holds -/

theorem xpl_effXpl_same (x : Nat) (g : XplLink → XplLink) (s : State) : ((effXpl x g).apply s).xpl x = g (s.xpl x) := FMap.getD_upd_same ..

theorem xpl_of_lan {s t : State} (h : t.lan = s.lan) (x : Nat) : t.xpl x = s.xpl x := by rw [State.xpl, h, State.xpl]

/-- A link after effects of which one is its own. -/
theorem xpl_applyAll {pre post : List Eff} (hpre : touchesAny pre .lan = false) (hpost : touchesAny post .lan = false) (x : Nat)
    (g : XplLink → XplLink) (s : State) : (applyAll (pre ++ effXpl x g :: post) s).xpl x = g (s.xpl x) := by
  rw [applyAll_append, applyAll_cons, xpl_of_lan ((agree_applyAll post _).lan hpost), xpl_effXpl_same,
    xpl_of_lan ((agree_applyAll pre s).lan hpre)]

/-- A field of the status word of a link. -/
def linkField (f : Fld) : Bool := famCovers 0x140004 0x40 4 f

theorem covers_link {f : Fld} (h : linkField f = true) (x : Fin 4) : covers (regMask (Reg.XPL_LINK_STAT x)) f = true := covers_word h x.isLt

theorem linkField_up : linkField Fld.XPL_LINK_STAT.UP = true := by decide +kernel
theorem linkField_retraining : linkField Fld.XPL_LINK_STAT.RETRAINING = true := by decide +kernel
theorem linkField_dupId : linkField Fld.XPL_LINK_STAT.DUP_ID = true := by decide +kernel
theorem linkField_collision : linkField Fld.XPL_LINK_STAT.COLLISION = true := by decide +kernel
theorem linkField_peerPkg : linkField Fld.XPL_LINK_STAT.PEER_PKG = true := by decide +kernel
theorem linkField_peerLink : linkField Fld.XPL_LINK_STAT.PEER_LINK = true := by decide +kernel
theorem linkField_good : linkField Fld.XPL_LINK_STAT.GOOD_LANES = true := by decide +kernel
theorem linkField_width : linkField Fld.XPL_LINK_STAT.WIDTH = true := by decide +kernel

theorem covers_link_retrain (x : Fin 4) : covers (regMask (Reg.XPL_LINK_CTRL x)) Fld.XPL_LINK_CTRL.RETRAIN = true :=
  covers_word (b := 0x140000) (st := 0x40) (c := 4) (by decide +kernel) x.isLt

theorem plain_xplCfg (x : Fin 4) : copyFind (Prm.XPL_CFG x) prmCopies = none :=
  plain_prm (b := 0x12A0) (st := 16) (c := 4) (by decide +kernel) x.isLt

/-- The width that a link proposes rests on its registers and parameters. -/
theorem proposal_congr {s t : State} (hregs : t.regs = s.regs) (hprms : t.prms = s.prms) (x : Fin 4) :
    proposal t x (xplGood t x) = proposal s x (xplGood s x) := by
  simp only [proposal, xplGood, pn_congr (plain_xplCfg x) hprms, State.fld, State.rd, hregs]

/-! ### What a link sends -/

theorem reaches_xplSend (x cls : Nat) (bs : Bytes) : Every (reaches [.out, .prms, .lan]) (xplSend x cls bs) := fun _ => rfl

theorem xpl_xplSend (x cls : Nat) (bs : Bytes) (s : State) : ∃ seq replay,
    ((xplSend x cls bs).run s).xpl x = { s.xpl x with txSeq := seq, replay := replay } := by
  refine ⟨((s.xpl x).txSeq + 1) % 65536, ((s.xpl x).replay ++ [((s.xpl x).txSeq, leBytes 1 cls ++ bs)]).drop ((s.xpl x).replay.length + 1 - 1024), ?_⟩
  exact xpl_applyAll (pre := [_, _]) (post := []) rfl rfl x _ s

/-! ### Requests (R688, R689) -/

/-- What the request of a width asks of the link before it sends it. -/
def requestEffects (x w : Nat) (full : Bool) : List Eff :=
  [effXpl x (fun l => { l with request := some w, full := full, agreed := w }), .fld (Reg.XPL_LINK_STAT x) Fld.XPL_LINK_STAT.RETRAINING 1,
    .fld (Reg.XPL_LINK_CTRL x) Fld.XPL_LINK_CTRL.RETRAIN (if full then 1 else 0)]

theorem xplRequest_of_free {x : Fin 4} {full : Bool} {s : State} (hen : xplEn s x = true) (hreq : (s.xpl x).request = none)
    (hdup : s.flag (Reg.XPL_LINK_STAT x) Fld.XPL_LINK_STAT.DUP_ID = false) : xplRequest x full s =
      acts [eff (requestEffects x (proposal s x (xplGood s x)) full),
        xplSend x 4 (leBytes 1 1 ++ leBytes 1 (proposal s x (xplGood s x)) ++ leBytes 1 (if full then 1 else 0))] s := by
  simp only [xplRequest, hen, hreq, hdup, Option.isSome_none, Bool.not_true, Bool.or_self, Bool.false_eq_true, if_false]
  rfl

theorem run_xplRequest {x : Fin 4} {full : Bool} {s : State} (hen : xplEn s x = true) (hreq : (s.xpl x).request = none)
    (hdup : s.flag (Reg.XPL_LINK_STAT x) Fld.XPL_LINK_STAT.DUP_ID = false) :
    let t := (xplRequest x full).run s
    (t.xpl x).request = some (proposal s x (xplGood s x)) ∧ (t.xpl x).full = full ∧ (t.xpl x).retry = (s.xpl x).retry ∧
      retraining t x = true ∧ t.flag (Reg.XPL_LINK_CTRL x) Fld.XPL_LINK_CTRL.RETRAIN = full ∧ sameStores s t := by
  have hlt := x.isLt
  dsimp only
  rw [run_congr (xplRequest_of_free hen hreq hdup), run_acts_cons, run_acts_cons, run_acts_nil, run_eff]
  have hlink : (applyAll (requestEffects x (proposal s x (xplGood s x)) full) s).xpl x =
      { s.xpl x with request := some (proposal s x (xplGood s x)), full := full, agreed := proposal s x (xplGood s x) } :=
    xpl_applyAll (pre := []) (post := [_, _]) rfl rfl x _ s
  have htrain : retraining (applyAll (requestEffects x (proposal s x (xplGood s x)) full) s) x = true :=
    flag_applyAll_of_fld (covers_link linkField_retraining x) rfl [effXpl x _] 1
      (by simp [sparesFld, Reg.XPL_LINK_STAT, Reg.XPL_LINK_CTRL]) s
  have hctrl : (applyAll (requestEffects x (proposal s x (xplGood s x)) full) s).flag (Reg.XPL_LINK_CTRL x) Fld.XPL_LINK_CTRL.RETRAIN = full := by
    refine (flag_applyAll_of_fld (covers_link_retrain x) rfl [effXpl x _, .fld _ _ 1] _ rfl s).trans ?_
    cases full <;> rfl
  have hstores : sameStores s (applyAll (requestEffects x (proposal s x (xplGood s x)) full) s) := applyAll_sameStores rfl s
  generalize applyAll (requestEffects x (proposal s x (xplGood s x)) full) s = u at hlink htrain hctrl hstores ⊢
  have hsend := (reaches_xplSend x 4 (leBytes 1 1 ++ leBytes 1 (proposal s x (xplGood s x)) ++ leBytes 1 (if full then 1 else 0))).agree u
  obtain ⟨seq, replay, hsent⟩ := xpl_xplSend x 4 (leBytes 1 1 ++ leBytes 1 (proposal s x (xplGood s x)) ++ leBytes 1 (if full then 1 else 0)) u
  have hrd (a : Nat) : ((xplSend x 4 (leBytes 1 1 ++ leBytes 1 (proposal s x (xplGood s x)) ++ leBytes 1 (if full then 1 else 0))).run u).rd a =
      u.rd a := by rw [State.rd, hsend.regs rfl, State.rd]
  refine ⟨by rw [hsent, hlink], by rw [hsent, hlink], by rw [hsent, hlink], ?_, ?_,
    sameStores_trans hstores (hsend.sameStores rfl rfl rfl rfl rfl rfl)⟩
  · rw [retraining, flag_of_rd (hrd _)]
    exact htrain
  · rw [flag_of_rd (hrd _), hctrl]

theorem every_xplRequest {P : Eff → Bool} {x : Nat} {full : Bool} (hlan : ∀ g, P (.lan g) = true) (hemit : ∀ o, P (.emit o) = true)
    (hcount : ∀ id n, P (.count64 id n) = true) (htrain : P (.fld (Reg.XPL_LINK_STAT x) Fld.XPL_LINK_STAT.RETRAINING 1) = true)
    (hctrl : ∀ v, P (.fld (Reg.XPL_LINK_CTRL x) Fld.XPL_LINK_CTRL.RETRAIN v) = true) : Every P (xplRequest x full) := fun s => by
  unfold xplRequest
  split
  · rfl
  · refine Every.cons (.eff ?_) (.cons (fun _ => ?_) (.nil _)) s
    · simp only [List.all_cons, List.all_nil, Bool.and_true, effXpl, hlan, htrain, hctrl]
    · simp only [xplSend, List.all_cons, List.all_nil, Bool.and_true, effXpl, hlan, hemit, hcount]

theorem reaches_xplRequest (x : Nat) (full : Bool) : Every (reaches [.lan, .out, .prms, .regs]) (xplRequest x full) :=
  every_xplRequest (fun _ => rfl) (fun _ => rfl) (fun _ _ => rfl) rfl fun _ => rfl

theorem sparesGood_xplRequest (x : Nat) (full : Bool) :
    Every (sparesFld (Reg.XPL_LINK_STAT x) Fld.XPL_LINK_STAT.GOOD_LANES) (xplRequest x full) :=
  every_xplRequest (fun _ => rfl) (fun _ => rfl) (fun _ _ => rfl)
    (by simp [sparesFld, Fld.XPL_LINK_STAT.RETRAINING, Fld.XPL_LINK_STAT.GOOD_LANES])
    fun _ => by simp [sparesFld, Reg.XPL_LINK_STAT, Reg.XPL_LINK_CTRL]

theorem good_xplRequest (x : Fin 4) (full : Bool) (s : State) : xplGood ((xplRequest x full).run s) x = xplGood s x :=
  fld_applyAll_of_spares (covers_link linkField_good x) (sparesGood_xplRequest x full s) s

theorem actXplCollisionRetry_of_due {x : Fin 4} {s : State} (h : (s.xpl x).retry = true) : actXplCollisionRetry x s =
    acts [eff [effXpl x fun l => { l with retry := false }], xplRequest x (s.xpl x).full] s := by
  simp only [actXplCollisionRetry, h, Bool.not_true, Bool.false_eq_true, if_false]

/-- R689: after a collision the end with the lower PKG_ID asks again. -/
theorem run_xplCollisionRetry {x : Fin 4} {s : State} (hretry : (s.xpl x).retry = true) (hen : xplEn s x = true)
    (hreq : (s.xpl x).request = none) (hdup : s.flag (Reg.XPL_LINK_STAT x) Fld.XPL_LINK_STAT.DUP_ID = false) :
    let t := (actXplCollisionRetry x).run s
    (t.xpl x).retry = false ∧ (t.xpl x).request = some (proposal s x (xplGood s x)) ∧ sameStores s t := by
  dsimp only
  rw [run_congr (actXplCollisionRetry_of_due hretry), run_acts_cons, run_acts_cons, run_acts_nil, run_eff, applyAll_cons, applyAll_nil]
  have hu := agree_apply (effXpl x fun l => { l with retry := false }) s
  have hlink := xpl_effXpl_same x (fun l => { l with retry := false }) s
  generalize (effXpl x fun l => { l with retry := false }).apply s = u at hu hlink
  obtain ⟨hasked, -, hkept, -, -, hstores⟩ := run_xplRequest (x := x) (full := (s.xpl x).full) (s := u)
    (by rw [xplEn, pn_congr (plain_xplCfg x) (hu.prms rfl)]; exact hen) (by rw [hlink]; exact hreq)
    (by rw [flag_of_rd (s := s) (by rw [State.rd, hu.regs rfl, State.rd])]; exact hdup)
  exact ⟨by rw [hkept, hlink], by rw [hasked, proposal_congr (hu.regs rfl) (hu.prms rfl)],
    sameStores_trans (hu.sameStores rfl rfl rfl rfl rfl rfl) hstores⟩

theorem actXplWidthRequest_of_free {x : Fin 4} {width : Nat} {full : Bool} {s : State} (hen : xplEn s x = true)
    (hreq : (s.xpl x).request = none) : actXplWidthRequest x width full s =
      acts [eff [effXpl x (fun l => { l with full := full, agreed := min width (proposal s x (xplGood s x)), retry := false }),
          .fld (Reg.XPL_LINK_STAT x) Fld.XPL_LINK_STAT.RETRAINING 1],
        xplSend x 4 (leBytes 1 2 ++ leBytes 1 (proposal s x (xplGood s x)) ++ leBytes 1 (min width (proposal s x (xplGood s x))))] s := by
  simp only [actXplWidthRequest, hen, hreq, Option.isSome_none, Bool.not_true, Bool.false_eq_true, if_false]

/-- R688: the other end's request is answered. -/
theorem run_xplWidthRequest_of_free {x : Fin 4} {width : Nat} {full : Bool} {s : State} (hen : xplEn s x = true)
    (hreq : (s.xpl x).request = none) :
    let t := (actXplWidthRequest x width full).run s
    (t.xpl x).agreed = min width (proposal s x (xplGood s x)) ∧ (t.xpl x).full = full ∧ retraining t x = true ∧ sameStores s t := by
  dsimp only
  rw [run_congr (actXplWidthRequest_of_free hen hreq), run_acts_cons, run_acts_cons, run_acts_nil, run_eff]
  generalize hw : min width (proposal s x (xplGood s x)) = w
  have hlink := xpl_applyAll (pre := []) (post := [.fld (Reg.XPL_LINK_STAT x) Fld.XPL_LINK_STAT.RETRAINING 1]) rfl rfl x
    (fun l => { l with full := full, agreed := w, retry := false }) s
  have htrain := flag_applyAll_of_fld (covers_link linkField_retraining x) rfl
    [effXpl x fun l => { l with full := full, agreed := w, retry := false }] 1 (post := []) rfl s
  have hstores := applyAll_sameStores (es := [effXpl x fun l => { l with full := full, agreed := w, retry := false },
    .fld (Reg.XPL_LINK_STAT x) Fld.XPL_LINK_STAT.RETRAINING 1]) rfl s
  rw [List.nil_append] at hlink
  rw [List.singleton_append] at htrain
  generalize applyAll [effXpl x fun l => { l with full := full, agreed := w, retry := false },
    .fld (Reg.XPL_LINK_STAT x) Fld.XPL_LINK_STAT.RETRAINING 1] s = u at hlink htrain hstores ⊢
  have hsend := (reaches_xplSend x 4 (leBytes 1 2 ++ leBytes 1 (proposal s x (xplGood s x)) ++ leBytes 1 w)).agree u
  obtain ⟨seq, replay, hsent⟩ := xpl_xplSend x 4 (leBytes 1 2 ++ leBytes 1 (proposal s x (xplGood s x)) ++ leBytes 1 w) u
  refine ⟨by rw [hsent, hlink], by rw [hsent, hlink], ?_, sameStores_trans hstores (hsend.sameStores rfl rfl rfl rfl rfl rfl)⟩
  rw [retraining, flag_of_rd (s := u) (by rw [State.rd, hsend.regs rfl, State.rd]), htrain]
  rfl

theorem actXplWidthRequest_of_asked {x : Fin 4} {width w : Nat} {full : Bool} {s : State} (hen : xplEn s x = true)
    (hreq : (s.xpl x).request = some w) : actXplWidthRequest x width full s =
      [effXpl x (fun l => { l with request := none, retry := decide (ownPkg s < s.fld (Reg.XPL_LINK_STAT x) Fld.XPL_LINK_STAT.PEER_PKG) }),
        .fld (Reg.XPL_LINK_STAT x) Fld.XPL_LINK_STAT.COLLISION 1, .fld (Reg.XPL_LINK_CTRL x) Fld.XPL_LINK_CTRL.RETRAIN 0,
        .count (Prm.XPL_COLLISIONS x) 1] := by
  simp only [actXplWidthRequest, hen, hreq, Option.isSome_some, Bool.not_true, Bool.false_eq_true, if_false, if_true]

/-- R689: two requests meet. -/
theorem run_xplWidthRequest_of_asked {x : Fin 4} {width w : Nat} {full : Bool} {s : State} (hen : xplEn s x = true)
    (hreq : (s.xpl x).request = some w) :
    let t := (actXplWidthRequest x width full).run s
    (t.xpl x).request = none ∧
      (t.xpl x).retry = decide (ownPkg s < s.fld (Reg.XPL_LINK_STAT x) Fld.XPL_LINK_STAT.PEER_PKG) ∧
      t.flag (Reg.XPL_LINK_STAT x) Fld.XPL_LINK_STAT.COLLISION = true ∧ sameStores s t := by
  have hlt := x.isLt
  dsimp only
  rw [Act.run_eq, actXplWidthRequest_of_asked hen hreq]
  have hlink := xpl_applyAll (pre := []) (post := [.fld (Reg.XPL_LINK_STAT x) Fld.XPL_LINK_STAT.COLLISION 1,
      .fld (Reg.XPL_LINK_CTRL x) Fld.XPL_LINK_CTRL.RETRAIN 0, .count (Prm.XPL_COLLISIONS x) 1]) rfl rfl x
    (fun l => { l with request := none, retry := decide (ownPkg s < s.fld (Reg.XPL_LINK_STAT x) Fld.XPL_LINK_STAT.PEER_PKG) }) s
  refine ⟨congrArg XplLink.request hlink, congrArg XplLink.retry hlink, ?_, applyAll_sameStores rfl s⟩
  exact flag_applyAll_of_fld (covers_link linkField_collision x) rfl [effXpl x _] 1
    (by simp [sparesFld, Reg.XPL_LINK_STAT, Reg.XPL_LINK_CTRL]) s

/-! ### Retraining (R683, R690) -/

/-- The lanes that training marks good have a signal. -/
def trainedLanes (x g : Nat) : List Eff := (List.range 8).flatMap fun i =>
  if bitOf g i then [.fld (Reg.LAN_STAT (32 + 8 * x + i)) Fld.LAN_STAT.SIGNAL 1, .fld (Reg.LAN_STAT (32 + 8 * x + i)) Fld.LAN_STAT.CDR_LOCK 1]
  else []

/-- What a full retrain that ends shows: the good lanes g and the width w. -/
def trainedEffects (x g w : Nat) : List Eff :=
  [.fld (Reg.XPL_LINK_STAT x) Fld.XPL_LINK_STAT.GOOD_LANES g, effXpl x (fun l => { l with request := none, fails := 0 }),
    .count (Prm.XPL_RETRAINS x) 1, .fld (Reg.XPL_LINK_STAT x) Fld.XPL_LINK_STAT.WIDTH w, .fld (Reg.XPL_LINK_STAT x) Fld.XPL_LINK_STAT.UP 1,
    .fld (Reg.XPL_LINK_STAT x) Fld.XPL_LINK_STAT.RETRAINING 0, .fld (Reg.XPL_LINK_CTRL x) Fld.XPL_LINK_CTRL.RETRAIN 0]

theorem reaches_trainedLanes (x g : Nat) : (trainedLanes x g).all (reaches [.regs]) = true :=
  all_flatMap_of_forall fun i _ => by split <;> rfl

theorem sparesLink_trainedLanes (x : Fin 4) (g : Nat) (f : Fld) : (trainedLanes x g).all (sparesFld (Reg.XPL_LINK_STAT x) f) = true :=
  all_flatMap_of_forall fun i hi => by
    have hne : Reg.LAN_STAT (32 + 8 * x + i) ≠ Reg.XPL_LINK_STAT x := by
      have := List.mem_range.mp hi
      unfold Reg.LAN_STAT Reg.XPL_LINK_STAT
      omega
    split
    · simp [sparesFld, hne]
    · rfl

theorem reaches_replayAll (x : Nat) : Every (reaches [.out, .regs, .prms]) (replayAll x) := fun _ => by
  simp only [replayAll, List.all_append, Bool.and_eq_true]
  exact ⟨all_map_of_forall fun _ _ => rfl, rfl⟩

theorem sparesLink_replayAll (x : Nat) : Every (sparesReg (Reg.XPL_LINK_STAT x)) (replayAll x) := fun _ => by
  simp only [replayAll, List.all_append, Bool.and_eq_true]
  exact ⟨all_map_of_forall fun _ _ => rfl, by simp [sparesReg, Reg.XPL_LINK_ERRS, Reg.XPL_LINK_STAT]⟩

theorem widthUpTo_le (n : Nat) : widthUpTo n ≤ 8 := by
  unfold widthUpTo
  split
  · omega
  · split
    · omega
    · split <;> omega

theorem actXplRetrainDone_of_full {x : Fin 4} {peer : Nat} {good : BitVec 8} {s : State} (htrain : retraining s x = true)
    (hreq : (s.xpl x).request = none) (hfull : (s.xpl x).full = true)
    (hw : widthUpTo (min (proposal s x good.toNat) (s.xpl x).agreed) ≠ 0) : actXplRetrainDone x true peer good s =
      acts [eff (trainedEffects x good.toNat (widthUpTo (min (proposal s x good.toNat) (s.xpl x).agreed)) ++ trainedLanes x good.toNat),
        replayAll x] s := by
  simp only [actXplRetrainDone, htrain, hreq, hfull, Option.isSome_none, Bool.not_true, Bool.false_eq_true, if_false, if_true, hw]
  rfl

/-- R690: a full retrain ends. -/
theorem run_xplRetrainDone_of_full {x : Fin 4} {peer : Nat} {good : BitVec 8} {s : State} (htrain : retraining s x = true)
    (hreq : (s.xpl x).request = none) (hfull : (s.xpl x).full = true)
    (hw : widthUpTo (min (proposal s x good.toNat) (s.xpl x).agreed) ≠ 0) :
    let t := (actXplRetrainDone x true peer good).run s
    xplUp t x = true ∧ retraining t x = false ∧ xplWidth t x = widthUpTo (min (proposal s x good.toNat) (s.xpl x).agreed) ∧
      xplGood t x = good.toNat ∧ (t.xpl x).fails = 0 ∧ sameStores s t := by
  have hlt := x.isLt
  dsimp only
  rw [run_congr (actXplRetrainDone_of_full htrain hreq hfull hw), run_acts_cons, run_acts_cons, run_acts_nil, run_eff, applyAll_append]
  have hle := widthUpTo_le (min (proposal s x good.toNat) (s.xpl x).agreed)
  generalize widthUpTo (min (proposal s x good.toNat) (s.xpl x).agreed) = w at hle ⊢
  have hgood : xplGood (applyAll (trainedEffects x good.toNat w) s) x = good.toNat % 2 ^ 8 :=
    fld_applyAll_of_fld (covers_link linkField_good x) [] _ (by
      simp [sparesFld, effXpl, Reg.XPL_LINK_STAT, Reg.XPL_LINK_CTRL, Fld.XPL_LINK_STAT.GOOD_LANES, Fld.XPL_LINK_STAT.WIDTH,
        Fld.XPL_LINK_STAT.UP, Fld.XPL_LINK_STAT.RETRAINING]) s
  have hwidth : xplWidth (applyAll (trainedEffects x good.toNat w) s) x = w % 2 ^ 4 :=
    fld_applyAll_of_fld (covers_link linkField_width x) ((trainedEffects x good.toNat w).take 3) _ (by
      simp [sparesFld, Reg.XPL_LINK_STAT, Reg.XPL_LINK_CTRL, Fld.XPL_LINK_STAT.WIDTH, Fld.XPL_LINK_STAT.UP,
        Fld.XPL_LINK_STAT.RETRAINING]) s
  have hup : xplUp (applyAll (trainedEffects x good.toNat w) s) x = true :=
    flag_applyAll_of_fld (covers_link linkField_up x) rfl ((trainedEffects x good.toNat w).take 4) 1 (by
      simp [sparesFld, Reg.XPL_LINK_STAT, Reg.XPL_LINK_CTRL, Fld.XPL_LINK_STAT.UP, Fld.XPL_LINK_STAT.RETRAINING]) s
  have hidle : retraining (applyAll (trainedEffects x good.toNat w) s) x = false :=
    flag_applyAll_of_fld (covers_link linkField_retraining x) rfl ((trainedEffects x good.toNat w).take 5) 0 (by
      simp [sparesFld, Reg.XPL_LINK_STAT, Reg.XPL_LINK_CTRL]) s
  have hlink : (applyAll (trainedEffects x good.toNat w) s).xpl x = { s.xpl x with request := none, fails := 0 } :=
    xpl_applyAll (pre := [_]) (post := [_, _, _, _, _]) rfl rfl x _ s
  have hstores : sameStores s (applyAll (trainedEffects x good.toNat w) s) := applyAll_sameStores rfl s
  generalize applyAll (trainedEffects x good.toNat w) s = u at hgood hwidth hup hidle hlink hstores ⊢
  have hfield (f : Fld) (hf : linkField f = true) :
      ((replayAll x).run (applyAll (trainedLanes x good.toNat) u)).fld (Reg.XPL_LINK_STAT x) f = u.fld (Reg.XPL_LINK_STAT x) f := by
    rw [fld_of_rd ((sparesLink_replayAll x).rd _), fld_applyAll_of_spares (covers_link hf x) (sparesLink_trainedLanes x good.toNat f)]
  have hlanes := agree_of_reaches (reaches_trainedLanes x good.toNat) u
  generalize applyAll (trainedLanes x good.toNat) u = v at hfield hlanes ⊢
  have hreplay := (reaches_replayAll x).agree v
  refine ⟨?_, ?_, ?_, ?_, ?_, sameStores_trans hstores (sameStores_trans (hlanes.sameStores rfl rfl rfl rfl rfl rfl)
    (hreplay.sameStores rfl rfl rfl rfl rfl rfl))⟩
  · rw [xplUp, State.flag, hfield _ linkField_up]
    exact hup
  · rw [retraining, State.flag, hfield _ linkField_retraining]
    exact hidle
  · rw [xplWidth, hfield _ linkField_width]
    exact hwidth.trans (Nat.mod_eq_of_lt (by omega))
  · rw [xplGood, hfield _ linkField_good]
    exact hgood.trans (Nat.mod_eq_of_lt good.isLt)
  · rw [xpl_of_lan (hreplay.lan rfl), xpl_of_lan (hlanes.lan rfl), hlink]

/-- What a link that goes down shows. -/
def downEffects (x : Nat) : List Eff :=
  [.fld (Reg.XPL_LINK_STAT x) Fld.XPL_LINK_STAT.UP 0, .fld (Reg.XPL_LINK_STAT x) Fld.XPL_LINK_STAT.WIDTH 0,
    .fld (Reg.XPL_LINK_STAT x) Fld.XPL_LINK_STAT.RETRAINING 0, .fld (Reg.XPL_LINK_CTRL x) Fld.XPL_LINK_CTRL.RETRAIN 0,
    .count (Prm.XPL_DOWN_EVENTS x) 1, effXpl x fun l => { l with request := none, retry := false, fails := 0, replay := [] }]

theorem xplDown_eq (x : Nat) : xplDown x = acts [eff (downEffects x), nvsRecord 6 (leBytes 1 x)] := rfl

theorem sparesLink_nvsRecord (x : Fin 4) (kind : Nat) (data : Bytes) :
    Every (sparesReg (Reg.XPL_LINK_STAT x)) (nvsRecord kind data) := fun _ => by
  simp [nvsRecord, sparesReg, Reg.NVS_RING_HEAD, Reg.XPL_LINK_STAT]
  omega

theorem nextRec_nvsRecord (kind : Nat) (data : Bytes) (s : State) :
    ((nvsRecord kind data).run s).nvs.nextRec = (s.nvs.nextRec + 1) % 2 ^ 64 := rfl

/-- R690: a link goes down. -/
theorem run_xplDown (x : Fin 4) (s : State) :
    let t := (xplDown x).run s
    xplUp t x = false ∧ xplWidth t x = 0 ∧ (t.xpl x).replay = [] ∧ t.nvs.nextRec = (s.nvs.nextRec + 1) % 2 ^ 64 ∧ sameStores s t := by
  have hlt := x.isLt
  dsimp only
  rw [xplDown_eq, run_acts_cons, run_acts_cons, run_acts_nil, run_eff]
  have hup : xplUp (applyAll (downEffects x) s) x = false :=
    flag_applyAll_of_fld (covers_link linkField_up x) rfl [] 0 (by
      simp [sparesFld, effXpl, Reg.XPL_LINK_STAT, Reg.XPL_LINK_CTRL, Fld.XPL_LINK_STAT.UP, Fld.XPL_LINK_STAT.WIDTH,
        Fld.XPL_LINK_STAT.RETRAINING]) s
  have hwidth : xplWidth (applyAll (downEffects x) s) x = 0 :=
    fld_applyAll_of_fld (covers_link linkField_width x) [_] 0 (by
      simp [sparesFld, effXpl, Reg.XPL_LINK_STAT, Reg.XPL_LINK_CTRL, Fld.XPL_LINK_STAT.WIDTH, Fld.XPL_LINK_STAT.RETRAINING]) s
  have hlink : ((applyAll (downEffects x) s).xpl x).replay = [] :=
    congrArg XplLink.replay (xpl_applyAll (pre := (downEffects x).take 5) (post := []) rfl rfl x _ s)
  have hu := agree_applyAll (downEffects x) s
  generalize applyAll (downEffects x) s = u at hup hwidth hlink hu ⊢
  have hrec := (reaches_nvsRecord 6 (leBytes 1 x)).agree u
  have hrd := (sparesLink_nvsRecord x 6 (leBytes 1 x)).rd u
  refine ⟨?_, ?_, ?_, ?_, ?_⟩
  · rw [xplUp, flag_of_rd hrd]
    exact hup
  · rw [xplWidth, fld_of_rd hrd]
    exact hwidth
  · rw [xpl_of_lan (hrec.lan rfl), hlink]
  · rw [nextRec_nvsRecord, hu.nvs rfl]
  · exact sameStores_trans (hu.sameStores rfl rfl rfl rfl rfl rfl) (hrec.sameStores rfl rfl rfl rfl rfl rfl)

theorem actXplRetrainDone_of_failed {x : Fin 4} {peer : Nat} {good : BitVec 8} {s : State} (htrain : retraining s x = true)
    (hfails : (s.xpl x).fails < 2) : actXplRetrainDone x false peer good s = [effXpl x fun l => { l with fails := l.fails + 1 }] := by
  simp only [actXplRetrainDone, htrain, Nat.not_le.mpr hfails, Bool.not_true, Bool.false_eq_true, if_false]

theorem actXplRetrainDone_of_last {x : Fin 4} {peer : Nat} {good : BitVec 8} {s : State} (htrain : retraining s x = true)
    (hfails : 2 ≤ (s.xpl x).fails) : actXplRetrainDone x false peer good s = xplDown x s := by
  simp only [actXplRetrainDone, htrain, hfails, Bool.not_true, Bool.false_eq_true, if_false, if_true]

/-! ### Lanes of a link (R688) -/

/-- What the end of a second shows of a link, and of the pair. -/
def secondEffects (x : Fin 4) (s : State) : List Eff :=
  [.prm (Prm.XPL_UTIL x) (w32 (xplUtil s x)), .fld (Reg.XPL_LINK_STAT x) Fld.XPL_LINK_STAT.GOOD_LANES (xplGood s x),
    effXpl x fun l => { l with uncorr := .empty, mark := s.pn64 (Prm.XPL_FLITS_TX_LO x) }]

def pairSecond (x : Fin 4) (s : State) : List Eff :=
  if x.val = 0 then [.prm Prm.FLT_PAIR_FWD_MBS (w32 (s.flt.forwarded * 8 / 1000000)), .flt fun f => { f with forwarded := 0 }] else []

theorem actXplBerWindow_of_clean {x : Fin 4} {s : State} (h : (s.xpl x).uncorr = .empty) :
    actXplBerWindow x s = secondEffects x s ++ pairSecond x s := by
  have hbad : ((List.range 8).filter fun i => decide (s.pn Prm.XPL_BER_MAX < (s.xpl x).uncorr.getD i 0) && bitOf (xplGood s x) i) = [] := by
    refine List.filter_eq_nil_iff.mpr fun i _ => ?_
    have hzero : (FMap.empty : FMap Nat).getD i 0 = 0 := rfl
    simp [h, hzero]
  simp only [actXplBerWindow, hbad, List.foldl_nil, List.isEmpty_nil, if_true]
  exact List.append_nil _

theorem run_xplBerWindow_of_clean {x : Fin 4} {s : State} (h : (s.xpl x).uncorr = .empty) :
    let t := (actXplBerWindow x).run s
    xplGood t x = xplGood s x ∧ (t.xpl x).request = (s.xpl x).request ∧ (t.xpl x).mark = s.pn64 (Prm.XPL_FLITS_TX_LO x) ∧ sameStores s t := by
  dsimp only
  rw [Act.run_eq, actXplBerWindow_of_clean h, applyAll_append]
  have hpair : (pairSecond x s).all (reaches [.prms, .flt]) = true := by
    unfold pairSecond
    split <;> rfl
  have hrest := agree_of_reaches hpair (applyAll (secondEffects x s) s)
  have hgood : xplGood (applyAll (secondEffects x s) s) x = xplGood s x :=
    (fld_applyAll_of_fld (covers_link linkField_good x) [_] _ (post := [_]) rfl s).trans (Nat.mod_eq_of_lt (fld_lt s _ _))
  have hlink : (applyAll (secondEffects x s) s).xpl x = { s.xpl x with uncorr := .empty, mark := s.pn64 (Prm.XPL_FLITS_TX_LO x) } :=
    xpl_applyAll (pre := [_, _]) (post := []) rfl rfl x _ s
  refine ⟨?_, ?_, ?_, sameStores_trans (applyAll_sameStores rfl s) (hrest.sameStores rfl rfl rfl rfl rfl rfl)⟩
  · rw [xplGood, fld_of_rd (s := applyAll (secondEffects x s) s) (by rw [State.rd, hrest.regs rfl, State.rd])]
    exact hgood
  · rw [xpl_of_lan (hrest.lan rfl), hlink]
  · rw [xpl_of_lan (hrest.lan rfl), hlink]

theorem bitOf_putBits_mod (n : Nat) {i k : Nat} (hi : i < k) : bitOf (putBits n i i 1 % 2 ^ k) i = true := by
  have hbit : (putBits n i i 1 % 2 ^ k).testBit i = true := by
    rw [Nat.testBit_mod_two_pow, testBit_putBits _ _ _ _ _ (Nat.le_succ i), if_neg (Nat.lt_irrefl i), if_pos (Nat.le_refl i)]
    simp [hi]
  rw [Nat.testBit_eq_decide_div_mod_eq] at hbit
  rw [bitOf]
  simpa using hbit

theorem actXplRegrow_of_bad {x : Fin 4} {lane : Fin 8} {s : State} (h : bitOf (xplGood s x) lane = false) : actXplRegrow x lane true s =
    acts [eff [.fld (Reg.XPL_LINK_STAT x) Fld.XPL_LINK_STAT.GOOD_LANES (putBits (xplGood s x) lane lane 1)], xplRequest x false] s := by
  simp only [actXplRegrow, h, Bool.not_true, Bool.false_eq_true, or_self, if_false]

theorem run_xplRegrow_of_bad {x : Fin 4} {lane : Fin 8} {s : State} (h : bitOf (xplGood s x) lane = false) :
    let t := (actXplRegrow x lane true).run s
    bitOf (xplGood t x) lane = true ∧ sameStores s t := by
  dsimp only
  rw [run_congr (actXplRegrow_of_bad h), run_acts_cons, run_acts_cons, run_acts_nil, run_eff]
  refine ⟨?_, sameStores_trans (applyAll_sameStores rfl s) (((reaches_xplRequest x false).agree _).sameStores rfl rfl rfl rfl rfl rfl)⟩
  have hgood : xplGood (applyAll [.fld (Reg.XPL_LINK_STAT x) Fld.XPL_LINK_STAT.GOOD_LANES (putBits (xplGood s x) lane lane 1)] s) x =
      putBits (xplGood s x) lane lane 1 % 2 ^ 8 := fld_applyAll_of_fld (covers_link linkField_good x) [] _ (post := []) rfl s
  rw [good_xplRequest, hgood]
  exact bitOf_putBits_mod _ lane.isLt

/-! ### Flits (R682, R684) -/

theorem actXplFlit_of_bad {x : Fin 4} {seq ack cls dst src : Nat} {payload : Bytes} {s : State} (hup : xplUp s x = true) :
    actXplFlit x seq ack false none cls dst src payload s =
      [.emit (.packet 3 x (leBytes 1 4 ++ leBytes 1 3 ++ leBytes 2 (s.xpl x).rxSeq))] := by
  simp only [actXplFlit, hup, Bool.not_false, Bool.not_true, Bool.false_eq_true, if_false, if_true, List.nil_append]

/-- The flits that an acknowledgement leaves in the replay buffer. -/
def unacked (ack : Nat) (replay : List (Nat × Bytes)) : List (Nat × Bytes) :=
  replay.filter fun f => decide (32768 ≤ (ack + 65536 - f.1) % 65536)

/-- What a flit in order leaves of its link. -/
def flitEffects (x ack : Nat) : List Eff :=
  [effXpl x (fun l => { l with replay := unacked ack l.replay }), effXpl x (fun l => { l with rxSeq := (l.rxSeq + 1) % 65536 }),
    .count64 (Prm.XPL_FLITS_RX_LO x) 1]

theorem actXplFlit_of_next {x : Fin 4} {seq ack cls dst src : Nat} {payload : Bytes} {s : State} (hup : xplUp s x = true)
    (hseq : seq = (s.xpl x).rxSeq) (hlt : seq < 65536) : actXplFlit x seq ack true none cls dst src payload s =
      acts [eff (flitEffects x ack), if dst = ownPkg s then xplDeliver cls payload else xplForward cls src dst payload] s := by
  have hnext : ¬ seq % 65536 ≠ (s.xpl x).rxSeq := by rw [Nat.mod_eq_of_lt hlt]; exact fun h => h hseq
  simp only [actXplFlit, hup, hnext, Bool.not_true, Bool.false_eq_true, if_false, List.nil_append]
  rfl

theorem xplDeliver_of_class {cls : Nat} (h : cls ≠ 2) (payload : Bytes) (s : State) : xplDeliver cls payload s = [] := by
  simp only [xplDeliver, h, false_and, if_false]

theorem xpl_flitEffects (x ack : Nat) (s : State) : (applyAll (flitEffects x ack) s).xpl x =
    { s.xpl x with replay := unacked ack (s.xpl x).replay, rxSeq := ((s.xpl x).rxSeq + 1) % 65536 } := by
  rw [flitEffects, applyAll_cons, applyAll_cons, xpl_of_lan ((agree_applyAll [_] _).lan rfl), xpl_effXpl_same, xpl_effXpl_same]

/-- R682: a flit for this package arrives in order. -/
theorem run_xplFlit_of_own {x : Fin 4} {seq ack dst src : Nat} {payload : Bytes} {s : State} (hup : xplUp s x = true)
    (hseq : seq = (s.xpl x).rxSeq) (hlt : seq < 65536) (hdst : dst = ownPkg s) :
    let t := (actXplFlit x seq ack true none 0 dst src payload).run s
    (t.xpl x).rxSeq = (seq + 1) % 65536 ∧ (t.xpl x).replay = unacked ack (s.xpl x).replay ∧ t.regs = s.regs ∧ t.out = s.out ∧
      sameStores s t := by
  dsimp only
  rw [run_congr (actXplFlit_of_next hup hseq hlt), if_pos hdst, run_acts_cons, run_acts_cons, run_acts_nil, run_eff,
    Act.run_eq, xplDeliver_of_class (by decide), applyAll_nil]
  have hes := agree_applyAll (flitEffects x ack) s
  exact ⟨by rw [xpl_flitEffects, hseq], by rw [xpl_flitEffects], hes.regs rfl, hes.out rfl, hes.sameStores rfl rfl rfl rfl rfl rfl⟩

theorem covers_route_valid (d : Nat) (h : d < 16) : covers (regMask (Reg.XPL_ROUTE d)) Fld.XPL_ROUTE.VALID = true :=
  covers_word (b := 0x141000) (st := 4) (c := 16) (by decide +kernel) h

theorem plain_unroutable : copyFind Prm.XPL_UNROUTABLE prmCopies = none := by decide +kernel

theorem xplForward_of_unrouted {cls src dst : Nat} {payload : Bytes} {s : State} (hcls : cls ≠ 1)
    (hroute : s.flag (Reg.XPL_ROUTE dst) Fld.XPL_ROUTE.VALID = false) : xplForward cls src dst payload s = [.count Prm.XPL_UNROUTABLE 1] := by
  simp only [xplForward, hcls, hroute, Bool.false_eq_true, if_false]

/-- R687: a flit for a package without a route. -/
theorem run_xplFlit_of_unrouted {x : Fin 4} {seq ack cls dst src : Nat} {payload : Bytes} {s : State} (hup : xplUp s x = true)
    (hseq : seq = (s.xpl x).rxSeq) (hlt : seq < 65536) (hdst : dst ≠ ownPkg s) (hcls : cls ≠ 1)
    (hroute : s.flag (Reg.XPL_ROUTE dst) Fld.XPL_ROUTE.VALID = false) :
    let t := (actXplFlit x seq ack true none cls dst src payload).run s
    t.pn Prm.XPL_UNROUTABLE = satAdd 0xFFFFFFFF (s.pn Prm.XPL_UNROUTABLE) 1 ∧ t.out = s.out ∧ sameStores s t := by
  have hx := x.isLt
  dsimp only
  rw [run_congr (actXplFlit_of_next hup hseq hlt), if_neg hdst, run_acts_cons, run_acts_cons, run_acts_nil, run_eff]
  have hes := agree_applyAll (flitEffects x ack) s
  have hpn : (applyAll (flitEffects x ack) s).pn Prm.XPL_UNROUTABLE = s.pn Prm.XPL_UNROUTABLE :=
    pn_applyAll_of_spares plain_unroutable (by
      simp [flitEffects, sparesPrm, effXpl, Prm.XPL_UNROUTABLE, Prm.XPL_FLITS_RX_LO]
      omega) s
  generalize applyAll (flitEffects x ack) s = u at hes hpn ⊢
  rw [Act.run_eq, xplForward_of_unrouted hcls ((flag_of_rd (s := s) (by rw [State.rd, hes.regs rfl, State.rd]) _).trans hroute),
    applyAll_cons, applyAll_nil, pn_count_same plain_unroutable, hpn]
  have hcount := agree_apply (.count Prm.XPL_UNROUTABLE 1) u
  exact ⟨rfl, (hcount.out rfl).trans (hes.out rfl),
    sameStores_trans (hes.sameStores rfl rfl rfl rfl rfl rfl) (hcount.sameStores rfl rfl rfl rfl rfl rfl)⟩

/-! ### Discovery (R686) -/

/-- What an identity of another package leaves of the link, beside its state. -/
def discoverEffects (x : Fin 4) (peer : Fin 16) (link : Fin 4) (graph : List (Nat × Nat × Nat × Nat)) (s : State) : List Eff :=
  [xplIdentity s x, .fld (Reg.XPL_LINK_STAT x) Fld.XPL_LINK_STAT.PEER_PKG peer, .fld (Reg.XPL_LINK_STAT x) Fld.XPL_LINK_STAT.PEER_LINK link,
    .fld (Reg.XPL_LINK_STAT x) Fld.XPL_LINK_STAT.DUP_ID 0, .lan fun l => { l with graph := graph },
    .fld (Reg.XPL_LINK_STAT x) Fld.XPL_LINK_STAT.UP 1]

theorem actXplDiscover_of_other {x : Fin 4} {peer : Fin 16} {link : Fin 4} {edges : List (Nat × Nat × Nat × Nat)} {s : State}
    (hen : xplEn s x = true) (hpeer : peer.val ≠ ownPkg s) (hw : xplWidth s x ≠ 0) : actXplDiscover x peer link edges s =
      discoverEffects x peer link ((s.lan.graph.filter fun e => !edges.any fun n => n.1 == e.1) ++
        edges.filter fun e => decide (e.1 < 16 ∧ e.2.2.1 < 16)) s := by
  simp only [actXplDiscover, hen, hpeer, hw, Bool.not_true, Bool.false_eq_true, if_false, List.cons_append, List.nil_append]
  rfl

theorem run_xplDiscover_of_other {x : Fin 4} {peer : Fin 16} {link : Fin 4} {edges : List (Nat × Nat × Nat × Nat)} {s : State}
    (hen : xplEn s x = true) (hpeer : peer.val ≠ ownPkg s) (hw : xplWidth s x ≠ 0) :
    let t := (actXplDiscover x peer link edges).run s
    xplUp t x = true ∧ t.fld (Reg.XPL_LINK_STAT x) Fld.XPL_LINK_STAT.PEER_PKG = peer.val ∧
      t.fld (Reg.XPL_LINK_STAT x) Fld.XPL_LINK_STAT.PEER_LINK = link.val ∧ (∀ e ∈ edges, e.1 < 16 → e.2.2.1 < 16 → e ∈ t.lan.graph) ∧
      sameStores s t := by
  dsimp only
  rw [Act.run_eq, actXplDiscover_of_other hen hpeer hw]
  have hedges : ∀ e ∈ edges, e.1 < 16 → e.2.2.1 < 16 → e ∈ (s.lan.graph.filter fun e => !edges.any fun n => n.1 == e.1) ++
      edges.filter fun e => decide (e.1 < 16 ∧ e.2.2.1 < 16) := fun e he hsrc hdst =>
    List.mem_append_right _ (List.mem_filter.mpr ⟨he, by simp [hsrc, hdst]⟩)
  generalize (s.lan.graph.filter fun e => !edges.any fun n => n.1 == e.1) ++ edges.filter (fun e => decide (e.1 < 16 ∧ e.2.2.1 < 16)) =
    graph at hedges ⊢
  have hgraph : (applyAll (discoverEffects x peer link graph s) s).lan.graph = graph := by
    show (applyAll ((discoverEffects x peer link graph s).take 4 ++ [.lan _, .fld _ _ 1]) s).lan.graph = graph
    rw [applyAll_append, applyAll_cons, (agree_applyAll [_] _).lan rfl]
    rfl
  refine ⟨?_, ?_, ?_, hgraph.symm ▸ hedges, applyAll_sameStores rfl s⟩
  · exact flag_applyAll_of_fld (covers_link linkField_up x) rfl ((discoverEffects x peer link graph s).take 5) 1 (post := []) rfl s
  · refine (fld_applyAll_of_fld (covers_link linkField_peerPkg x) [_] _ ?_ s).trans (Nat.mod_eq_of_lt peer.isLt)
    simp [sparesFld, Fld.XPL_LINK_STAT.PEER_PKG, Fld.XPL_LINK_STAT.PEER_LINK, Fld.XPL_LINK_STAT.DUP_ID, Fld.XPL_LINK_STAT.UP]
  · refine (fld_applyAll_of_fld (covers_link linkField_peerLink x) [_, _] _ ?_ s).trans (Nat.mod_eq_of_lt link.isLt)
    simp [sparesFld, Fld.XPL_LINK_STAT.PEER_LINK, Fld.XPL_LINK_STAT.DUP_ID, Fld.XPL_LINK_STAT.UP]

theorem actXplDiscover_of_same {x : Fin 4} {peer : Fin 16} {link : Fin 4} {edges : List (Nat × Nat × Nat × Nat)} {s : State}
    (hen : xplEn s x = true) (hpeer : peer.val = ownPkg s) : actXplDiscover x peer link edges s =
      [xplIdentity s x, .fld (Reg.XPL_LINK_STAT x) Fld.XPL_LINK_STAT.DUP_ID 1, .fld (Reg.XPL_LINK_STAT x) Fld.XPL_LINK_STAT.UP 0,
        .fld (Reg.XPL_LINK_STAT x) Fld.XPL_LINK_STAT.WIDTH 0, .count Prm.XPL_DUP_IDS 1] := by
  simp only [actXplDiscover, hen, hpeer, Bool.not_true, Bool.false_eq_true, if_false, if_true]

theorem run_xplDiscover_of_same {x : Fin 4} {peer : Fin 16} {link : Fin 4} {edges : List (Nat × Nat × Nat × Nat)} {s : State}
    (hen : xplEn s x = true) (hpeer : peer.val = ownPkg s) :
    let t := (actXplDiscover x peer link edges).run s
    xplUp t x = false ∧ t.flag (Reg.XPL_LINK_STAT x) Fld.XPL_LINK_STAT.DUP_ID = true ∧ t.lan = s.lan ∧ sameStores s t := by
  dsimp only
  rw [Act.run_eq, actXplDiscover_of_same hen hpeer]
  refine ⟨?_, ?_, (agree_applyAll _ s).lan rfl, applyAll_sameStores rfl s⟩
  · refine flag_applyAll_of_fld (covers_link linkField_up x) rfl [_, _] 0 ?_ s
    simp [sparesFld, Fld.XPL_LINK_STAT.UP, Fld.XPL_LINK_STAT.WIDTH]
  · refine flag_applyAll_of_fld (covers_link linkField_dupId x) rfl [_] 1 ?_ s
    simp [sparesFld, Fld.XPL_LINK_STAT.DUP_ID, Fld.XPL_LINK_STAT.UP, Fld.XPL_LINK_STAT.WIDTH]

/-! ### Routes (R687) -/

/-- Effects on device time, on registers apart from the routes and on parameters below the count of rebuilt tables. -/
def apartFromRoutes : Eff → Bool
  | .tim _ | .raise _ => true
  | .fld off _ _ | .reg off _ => decide (off < 0x141000) || decide (0x141040 ≤ off)
  | .prm id _ | .count id _ => decide (id < 0x12E6)
  | _ => false

theorem reaches_of_apartFromRoutes {e : Eff} (h : apartFromRoutes e = true) : reaches (.tim :: timeParts) e = true := by
  cases e
  case tim | raise | fld | reg | prm | count => rfl
  all_goals cases h

theorem sparesReg_of_apartFromRoutes {e : Eff} (h : apartFromRoutes e = true) {d : Nat} (hd : d < 16) :
    sparesReg (Reg.XPL_ROUTE d) e = true := by
  cases e
  case tim | prm | count => rfl
  case raise => simp [sparesReg, eventWord_of_gt (a := Reg.XPL_ROUTE d) (by unfold Reg.XPL_ROUTE; omega)]
  case fld off _ _ | reg off _ =>
    have happart : off < 0x141000 ∨ 0x141040 ≤ off := by simpa [apartFromRoutes] using h
    simp only [sparesReg, Reg.XPL_ROUTE, bne_iff_ne]
    omega
  all_goals cases h

theorem sparesReroutes_of_apartFromRoutes {e : Eff} (h : apartFromRoutes e = true) : sparesPrm Prm.XPL_REROUTES e = true := by
  cases e
  case tim | raise | fld | reg => rfl
  case prm id _ | count id _ =>
    have hlt : id < 0x12E6 := of_decide_eq_true h
    simp only [sparesPrm, Prm.XPL_REROUTES, bne_iff_ne]
    omega
  all_goals cases h

theorem apartFromRoutes_loseLock : Every apartFromRoutes loseLock := fun s => by
  unfold loseLock
  split
  · rfl
  · rfl

theorem apartFromRoutes_bmca : Every apartFromRoutes bmca := fun s => by
  simp only [bmca, List.all_append, Bool.and_eq_true]
  refine ⟨all_flatMap_of_forall fun p hp => ?_, rfl⟩
  have hlt := List.mem_range.mp hp
  have hstate : Prm.PTP_PORT_STATE p < 0x12E6 := by unfold Prm.PTP_PORT_STATE; omega
  have hchanges : Prm.PTP_BMCA_CHANGES p < 0x12E6 := by unfold Prm.PTP_BMCA_CHANGES; omega
  split <;> simp [apartFromRoutes, effPtp, hstate, hchanges]

theorem apartFromRoutes_electMaster : Every apartFromRoutes electMaster := fun s => by
  unfold electMaster
  split
  · rfl
  · dsimp only
    split
    · rfl
    · refine Every.cons (.eff ?_) (.cons (fun _ => rfl) (.cons apartFromRoutes_bmca (.nil _))) s
      split <;> rfl

theorem apartFromRoutes_peerLost (pkg : Nat) : Every apartFromRoutes (peerLost pkg) := by
  unfold peerLost
  refine .cons (fun _ => rfl) (.cons (fun s => ?_) (.nil _))
  split
  · exact Every.cons apartFromRoutes_loseLock (.cons apartFromRoutes_electMaster (.nil _)) s
  · rfl

/-- The words of the route to a package. -/
def routeWords (s : State) (d : Nat) : List Eff :=
  match routeTo s d with
  | some (h, l) => [.fld (Reg.XPL_ROUTE d) Fld.XPL_ROUTE.VALID 1, .fld (Reg.XPL_ROUTE d) Fld.XPL_ROUTE.LOCAL (if d = ownPkg s then 1 else 0),
      .fld (Reg.XPL_ROUTE d) Fld.XPL_ROUTE.LINK l, .fld (Reg.XPL_ROUTE d) Fld.XPL_ROUTE.HOPS h]
  | none => [.reg (Reg.XPL_ROUTE d) 0]

/-- The packages that the table reaches. -/
def reached (s : State) : List Nat := (((List.range 16).map fun d => (d, routeTo s d)).filter fun x => x.2.isSome).map (·.1)

/-- What the table says of the system. -/
def systemWords (s : State) : List Eff :=
  [.fld Reg.HUB_TOPOLOGY Fld.HUB_TOPOLOGY.PKG_COUNT (reached s).length, .prm Prm.XPL_PKGS (w32 (((reached s).map (2 ^ ·)).foldl (· + ·) 0)),
    .prm Prm.XPL_TOPOLOGY (w32 (topologyCode s (reached s))), .count Prm.XPL_REROUTES 1]

/-- The peers that the time exchange loses. -/
def lostPeers (s : State) : List Nat :=
  (s.tim.peers.entries.filter fun e => e.2.reachable && !(reached s).contains e.1).map (·.1)

/-- The pair is not protected while its partner is out of reach. -/
def unprotect : Act := fun s => if s.flag Reg.FLT_PAIR_STAT Fld.FLT_PAIR_STAT.EN ∧ !partnerReached s then [.fld Reg.FLT_PAIR_STAT Fld.FLT_PAIR_STAT.PROTECTED 0] else []

theorem actXplRouteRebuild_eq (s : State) : actXplRouteRebuild s =
    acts [eff ((List.range 16).flatMap (routeWords s) ++ systemWords s), actsFor (lostPeers s) peerLost, unprotect] s := by
  rw [show (List.range 16).flatMap (routeWords s) = ((List.range 16).map fun d => (d, routeTo s d)).flatMap fun x => match x.2 with
      | some (h, l) => [Eff.fld (Reg.XPL_ROUTE x.1) Fld.XPL_ROUTE.VALID 1,
          .fld (Reg.XPL_ROUTE x.1) Fld.XPL_ROUTE.LOCAL (if x.1 = ownPkg s then 1 else 0),
          .fld (Reg.XPL_ROUTE x.1) Fld.XPL_ROUTE.LINK l, .fld (Reg.XPL_ROUTE x.1) Fld.XPL_ROUTE.HOPS h]
      | none => [.reg (Reg.XPL_ROUTE x.1) 0] from (List.flatMap_map ..).symm]
  rfl

theorem apartFromRoutes_unprotect : Every apartFromRoutes unprotect := fun s => by
  unfold unprotect
  split <;> rfl

theorem reaches_routeWords (s : State) (d : Nat) : (routeWords s d).all (reaches [.regs]) = true := by
  unfold routeWords
  split <;> rfl

theorem sparesRoute_routeWords (s : State) {d e : Nat} (h : e ≠ d) : (routeWords s e).all (sparesReg (Reg.XPL_ROUTE d)) = true := by
  have hne : Reg.XPL_ROUTE e ≠ Reg.XPL_ROUTE d := by unfold Reg.XPL_ROUTE; omega
  unfold routeWords
  split <;> simp [sparesReg, hne]

theorem sparesRoute_systemWords (s : State) (d : Nat) : (systemWords s).all (sparesReg (Reg.XPL_ROUTE d)) = true := by
  simp [systemWords, sparesReg, Reg.HUB_TOPOLOGY, Reg.XPL_ROUTE]
  omega

/-- The word of one route is that which its own effects leave. -/
theorem rd_routes {d : Nat} (h : d < 16) (s : State) : ∃ u : State,
    (applyAll ((List.range 16).flatMap (routeWords s) ++ systemWords s) s).rd (Reg.XPL_ROUTE d) =
      (applyAll (routeWords s d) u).rd (Reg.XPL_ROUTE d) := by
  obtain ⟨pre, post, hsplit⟩ := List.append_of_mem (List.mem_range.mpr h)
  have hnodup : (pre ++ d :: post).Nodup := hsplit ▸ List.nodup_range
  have hpost : ∀ e ∈ post, e ≠ d := fun e he heq =>
    (List.nodup_cons.mp (List.nodup_append.mp hnodup).2.1).1 (heq ▸ he)
  refine ⟨applyAll (pre.flatMap (routeWords s)) s, ?_⟩
  rw [hsplit, List.flatMap_append, List.flatMap_cons, List.append_assoc, List.append_assoc, applyAll_append, applyAll_append, applyAll_append,
    rd_applyAll_of_spares (sparesRoute_systemWords s d),
    rd_applyAll_of_spares (all_flatMap_of_forall fun e he => sparesRoute_routeWords s (hpost e he))]

/-- What follows the table leaves it. -/
theorem every_afterRoutes (s : State) : Every apartFromRoutes (acts [actsFor (lostPeers s) peerLost, unprotect]) :=
  .cons (.actsFor fun p _ => apartFromRoutes_peerLost p) (.cons apartFromRoutes_unprotect (.nil _))

theorem run_xplRouteRebuild_eq (s : State) : actXplRouteRebuild.run s =
    (acts [actsFor (lostPeers s) peerLost, unprotect]).run (applyAll ((List.range 16).flatMap (routeWords s) ++ systemWords s) s) := by
  rw [run_congr (actXplRouteRebuild_eq s), run_acts_cons, run_eff]

theorem rd_xplRouteRebuild {d : Nat} (h : d < 16) (s : State) : ∃ u : State,
    (actXplRouteRebuild.run s).rd (Reg.XPL_ROUTE d) = (applyAll (routeWords s d) u).rd (Reg.XPL_ROUTE d) := by
  obtain ⟨u, hu⟩ := rd_routes h s
  refine ⟨u, ?_⟩
  rw [run_xplRouteRebuild_eq, Every.rd (fun t => List.all_eq_true.mpr fun e he =>
    sparesReg_of_apartFromRoutes (List.all_eq_true.mp (every_afterRoutes s t) e he) h), hu]

theorem plain_reroutes : copyFind Prm.XPL_REROUTES prmCopies = none := by decide +kernel

theorem ownPkg_lt (s : State) : ownPkg s < 16 := fld_lt s _ _

theorem routeTo_own (s : State) : routeTo s (ownPkg s) = some (0, 0) := by simp only [routeTo, if_true]

theorem covers_route_local (d : Nat) (h : d < 16) : covers (regMask (Reg.XPL_ROUTE d)) Fld.XPL_ROUTE.LOCAL = true :=
  covers_word (b := 0x141000) (st := 4) (c := 16) (by decide +kernel) h

theorem covers_route_hops (d : Nat) (h : d < 16) : covers (regMask (Reg.XPL_ROUTE d)) Fld.XPL_ROUTE.HOPS = true :=
  covers_word (b := 0x141000) (st := 4) (c := 16) (by decide +kernel) h

theorem routeWords_own (s : State) : routeWords s (ownPkg s) =
    [.fld (Reg.XPL_ROUTE (ownPkg s)) Fld.XPL_ROUTE.VALID 1, .fld (Reg.XPL_ROUTE (ownPkg s)) Fld.XPL_ROUTE.LOCAL 1,
      .fld (Reg.XPL_ROUTE (ownPkg s)) Fld.XPL_ROUTE.LINK 0, .fld (Reg.XPL_ROUTE (ownPkg s)) Fld.XPL_ROUTE.HOPS 0] := by
  simp only [routeWords, routeTo_own, if_true]

/-- R687: the route to this package. -/
theorem ownRoute_xplRouteRebuild (s : State) :
    let t := actXplRouteRebuild.run s
    t.flag (Reg.XPL_ROUTE (ownPkg s)) Fld.XPL_ROUTE.VALID = true ∧ t.flag (Reg.XPL_ROUTE (ownPkg s)) Fld.XPL_ROUTE.LOCAL = true ∧
      t.fld (Reg.XPL_ROUTE (ownPkg s)) Fld.XPL_ROUTE.HOPS = 0 := by
  have hlt := ownPkg_lt s
  obtain ⟨u, hu⟩ := rd_xplRouteRebuild hlt s
  dsimp only
  rw [flag_of_rd hu, flag_of_rd hu, fld_of_rd hu, routeWords_own]
  generalize ownPkg s = d at hlt ⊢
  refine ⟨?_, ?_, ?_⟩
  · refine flag_applyAll_of_fld (covers_route_valid d hlt) rfl [] 1 ?_ u
    simp [sparesFld, Fld.XPL_ROUTE.VALID, Fld.XPL_ROUTE.LOCAL, Fld.XPL_ROUTE.LINK, Fld.XPL_ROUTE.HOPS]
  · refine flag_applyAll_of_fld (covers_route_local d hlt) rfl [_] 1 ?_ u
    simp [sparesFld, Fld.XPL_ROUTE.LOCAL, Fld.XPL_ROUTE.LINK, Fld.XPL_ROUTE.HOPS]
  · exact fld_applyAll_of_fld (covers_route_hops d hlt) [_, _, _] 0 (post := []) rfl u

theorem reaches_systemWords (s : State) : (systemWords s).all (reaches [.regs, .prms]) = true := by
  unfold systemWords
  simp only [List.all_cons, List.all_nil, reaches, partsOf, List.contains_cons, List.contains_nil, Bool.and_true]
  rfl

theorem pn_systemWords (s u : State) :
    (applyAll (systemWords s) u).pn Prm.XPL_REROUTES = satAdd 0xFFFFFFFF (u.pn Prm.XPL_REROUTES) 1 := by
  rw [systemWords, applyAll_cons, applyAll_cons, applyAll_cons, applyAll_cons, applyAll_nil, pn_count_same plain_reroutes,
    pn_prm_ne (by decide), pn_prm_ne (by decide), pn_congr plain_reroutes (prms_apply rfl _)]

theorem rest_xplRouteRebuild (s : State) :
    let t := actXplRouteRebuild.run s
    t.pn Prm.XPL_REROUTES = satAdd 0xFFFFFFFF (s.pn Prm.XPL_REROUTES) 1 ∧ t.lan = s.lan ∧ sameStores s t := by
  dsimp only
  rw [run_xplRouteRebuild_eq]
  have hwords : ((List.range 16).flatMap (routeWords s)).all (reaches [.regs]) = true := all_flatMap_of_forall fun d _ => reaches_routeWords s d
  have hroutes := agree_of_reaches hwords s
  have hsystem := agree_of_reaches (reaches_systemWords s) (applyAll ((List.range 16).flatMap (routeWords s)) s)
  have hcount := pn_systemWords s (applyAll ((List.range 16).flatMap (routeWords s)) s)
  rw [pn_congr plain_reroutes (hroutes.prms rfl)] at hcount
  rw [applyAll_append]
  generalize applyAll (systemWords s) (applyAll ((List.range 16).flatMap (routeWords s)) s) = u at hsystem hcount ⊢
  have hafter : Every (reaches (.tim :: timeParts)) (acts [actsFor (lostPeers s) peerLost, unprotect]) := fun t =>
    List.all_eq_true.mpr fun e he => reaches_of_apartFromRoutes (List.all_eq_true.mp (every_afterRoutes s t) e he)
  have hrest := hafter.agree u
  refine ⟨?_, (hrest.lan rfl).trans ((hsystem.lan rfl).trans (hroutes.lan rfl)), sameStores_trans (hroutes.sameStores rfl rfl rfl rfl rfl rfl)
    (sameStores_trans (hsystem.sameStores rfl rfl rfl rfl rfl rfl) (hrest.sameStores rfl rfl rfl rfl rfl rfl))⟩
  rw [Every.pn plain_reroutes (fun t => List.all_eq_true.mpr fun e he =>
    sparesReroutes_of_apartFromRoutes (List.all_eq_true.mp (every_afterRoutes s t) e he)), hcount]

/-- R687: a package that is out of reach has no route. -/
theorem rd_xplRouteRebuild_of_none {d : Fin 16} {s : State} (h : routeTo s d = none) : (actXplRouteRebuild.run s).rd (Reg.XPL_ROUTE d) = 0 := by
  obtain ⟨u, hu⟩ := rd_xplRouteRebuild d.isLt s
  have hwords : routeWords s d = [.reg (Reg.XPL_ROUTE d) 0] := by simp only [routeWords, h]
  rw [hu, hwords, applyAll_cons, applyAll_nil, rd_reg_same]
  exact BitVec.zero_and

/-- Settles O46. -/
theorem packageLinks : Obligations.PackageLinks := by
  refine ⟨fun x seq ack lane cls dst src payload s hup htrip hlane => ?_, fun x seq ack dst src payload s hup hseq hlt hdst => ?_,
    fun x seq ack cls dst src payload s hup hseq hlt hdst _ hcls hroute => ?_, fun x v s hv hen hreq hdup => ?_,
    fun x s hen hreq hdup => ?_, fun x width full s hen hreq => ?_, fun x width w full s hen hreq => ?_,
    fun x s hretry hen hreq hdup => ?_, fun x peer good s htrain hreq hfull hw => ?_, fun x peer good s htrain hfails => ?_,
    fun x peer good s htrain hfails => ?_, fun x s h => ?_, fun x lane s h => ?_, fun x lane s => ?_,
    fun x peer link edges s hen hpeer hw => ?_, fun x peer link edges s hen hpeer => ?_, fun s => ?_, fun d s h => ?_⟩
  · subst hlane
    refine ⟨(actXplFlit x seq ack false none cls dst src payload).run s, rfl, ?_⟩
    rw [Act.run_eq, actXplFlit_of_bad hup, applyAll_cons, applyAll_nil, emit_of_leaves (.inl htrip)]
    exact ⟨rfl, rfl, rfl, sameStores_refl _⟩
  · exact ⟨_, rfl, run_xplFlit_of_own hup hseq hlt hdst⟩
  · exact ⟨_, rfl, run_xplFlit_of_unrouted hup hseq hlt hdst hcls hroute⟩
  · refine ⟨(xplRequest x true).run s, congrArg Host.Outcome.next (run_congr (a := actXplRetrain x v) (if_pos hv)), ?_⟩
    · obtain ⟨hasked, hfull, -, htrain, hctrl, hstores⟩ := run_xplRequest (full := true) hen hreq hdup
      exact ⟨hasked, hfull, htrain, hctrl, hstores⟩
  · obtain ⟨-, hfull, -, htrain, -, hstores⟩ := run_xplRequest (full := true) hen hreq hdup
    exact ⟨_, rfl, hfull, htrain, hstores⟩
  · exact ⟨_, rfl, run_xplWidthRequest_of_free hen hreq⟩
  · exact ⟨_, rfl, run_xplWidthRequest_of_asked hen hreq⟩
  · exact ⟨_, rfl, run_xplCollisionRetry hretry hen hreq hdup⟩
  · exact ⟨_, rfl, run_xplRetrainDone_of_full htrain hreq hfull hw⟩
  · refine ⟨(actXplRetrainDone x false peer good).run s, rfl, ?_⟩
    rw [Act.run_eq, actXplRetrainDone_of_failed htrain hfails, applyAll_cons, applyAll_nil, xpl_effXpl_same]
    exact ⟨rfl, (agree_apply (effXpl x _) s).regs rfl, (agree_apply (effXpl x _) s).sameStores rfl rfl rfl rfl rfl rfl⟩
  · exact ⟨(xplDown x).run s, congrArg Host.Outcome.next (run_congr (actXplRetrainDone_of_last htrain hfails)), run_xplDown x s⟩
  · exact ⟨_, rfl, run_xplBerWindow_of_clean h⟩
  · exact ⟨_, rfl, run_xplRegrow_of_bad h⟩
  · refine congrArg Host.Outcome.next ((run_congr (a := actXplRegrow x lane false) (b := acts []) ?_).trans (run_acts_nil s))
    simp only [actXplRegrow, Bool.not_false, true_or, if_true, acts_nil]
  · exact ⟨_, rfl, run_xplDiscover_of_other hen hpeer hw⟩
  · exact ⟨_, rfl, run_xplDiscover_of_same hen hpeer⟩
  · obtain ⟨hvalid, hlocal, hhops⟩ := ownRoute_xplRouteRebuild s
    exact ⟨_, rfl, hvalid, hlocal, hhops, rest_xplRouteRebuild s⟩
  · exact ⟨_, rfl, rd_xplRouteRebuild_of_none h⟩

end Sys2Proof.PackageRows
end

section
/-! Units, spares, retests, rotations and sentinels (R696 to R711). -/
open Sys2Proof Sys2Proof.Machine Sys2Proof.Reads Sys2Proof.Spans Sys2Proof.FieldReads Sys2Proof.RecoveryRows Sys2Proof.EffectReads
open Sys2Proof.ServiceTurn Sys2Proof.AudioRows Sys2Proof.Wall Sys2Proof.Tiles Sys2Proof.TaskRows Sys2Proof.TimeKeeping

-- Proofs that wait side by side for the kernel would not fit into the memory of one compile.
set_option Elab.async false

namespace Sys2Proof.UnitRows

/-! ### What a slot and a cluster hold -/

theorem unitF_of_flt {s t : State} (h : t.flt = s.flt) (p : Nat) : t.unitF p = s.unitF p := by rw [State.unitF, h, State.unitF]

theorem clusterF_of_flt {s t : State} (h : t.flt = s.flt) (c : Nat) : t.clusterF c = s.clusterF c := by rw [State.clusterF, h, State.clusterF]

theorem clusterF_effCluster_same (c : Nat) (g : ClusterF → ClusterF) (s : State) : ((effCluster c g).apply s).clusterF c = g (s.clusterF c) :=
  FMap.getD_upd_same ..

theorem clusterF_effUnit (p c : Nat) (g : UnitF → UnitF) (s : State) : ((effUnit p g).apply s).clusterF c = s.clusterF c := rfl

/-- A field of the word of a slot, and of the word of a cluster. -/
def unitField (f : Fld) : Bool := famCovers 0x1A1000 4 2176 f
def clusterField (f : Fld) : Bool := famCovers 0x1A0000 4 128 f

theorem covers_unit {f : Fld} (h : unitField f = true) {p : Nat} (hp : p < 2176) : covers (regMask (Reg.FLT_UNIT p)) f = true := covers_word h hp

theorem covers_cluster {f : Fld} (h : clusterField f = true) (c : Fin 128) : covers (regMask (Reg.FLT_CLUSTER c)) f = true :=
  covers_word h c.isLt

theorem unitField_fenced : unitField Fld.FLT_UNIT.FENCED = true := by decide +kernel
theorem unitField_powered : unitField Fld.FLT_UNIT.POWERED = true := by decide +kernel
theorem unitField_isSpare : unitField Fld.FLT_UNIT.IS_SPARE = true := by decide +kernel
theorem unitField_role : unitField Fld.FLT_UNIT.ROLE = true := by decide +kernel
theorem clusterField_spareBusy : clusterField Fld.FLT_CLUSTER.SPARE_BUSY = true := by decide +kernel
theorem clusterField_noSpare : clusterField Fld.FLT_CLUSTER.NO_SPARE = true := by decide +kernel
theorem clusterField_spareSlot : clusterField Fld.FLT_CLUSTER.SPARE_SLOT = true := by decide +kernel

theorem unit_ne {p q : Nat} (h : p ≠ q) : Reg.FLT_UNIT p ≠ Reg.FLT_UNIT q := by unfold Reg.FLT_UNIT; omega

theorem pace_ne_unit {p q : Nat} (hp : p < 2176) : Reg.THM_PACE_UNIT p ≠ Reg.FLT_UNIT q := by unfold Reg.THM_PACE_UNIT Reg.FLT_UNIT; omega

/-! ### Effects apart from the slots -/

/-- The parts that the handling of a fault reaches. -/
def faultParts : List StatePart := [.arm, .regs, .out, .prms, .flt, .tim, .wall, .sec, .tlk, .pat, .lib]

/-- The effect clears no event, writes no word of a slot or a cluster, and reaches no memory. -/
def apartFromSlots (e : Eff) : Bool :=
  keepsEvt e && reaches faultParts e && match e with
    | .reg off _ | .fld off _ _ | .inc off _ _ => decide (off < 0x1A0000) || decide (0x1A3200 ≤ off)
    | _ => true

theorem keepsEvt_of_apart {es : List Eff} (h : es.all apartFromSlots = true) : es.all keepsEvt = true :=
  List.all_eq_true.mpr fun e he => (Bool.and_eq_true_iff.mp (Bool.and_eq_true_iff.mp (List.all_eq_true.mp h e he)).1).1

theorem reaches_of_apart {es : List Eff} (h : es.all apartFromSlots = true) : es.all (reaches faultParts) = true :=
  List.all_eq_true.mpr fun e he => (Bool.and_eq_true_iff.mp (Bool.and_eq_true_iff.mp (List.all_eq_true.mp h e he)).1).2

theorem sparesUnit_of_apart {es : List Eff} (h : es.all apartFromSlots = true) {p : Nat} (hp : p < 2176) :
    es.all (sparesReg (Reg.FLT_UNIT p)) = true := by
  refine List.all_eq_true.mpr fun e he => ?_
  have hoff := (Bool.and_eq_true_iff.mp (List.all_eq_true.mp h e he)).2
  have hkeep := List.all_eq_true.mp (keepsEvt_of_apart h) e he
  cases e
  case reg off _ | fld off _ _ | inc off _ _ =>
    have happart : off < 0x1A0000 ∨ 0x1A3200 ≤ off := by simpa using hoff
    simp only [sparesReg, Reg.FLT_UNIT, bne_iff_ne]
    omega
  case raise => simp [sparesReg, eventWord_of_gt (a := Reg.FLT_UNIT p) (by unfold Reg.FLT_UNIT; omega)]
  case powerOn | packageReset => cases hkeep
  all_goals rfl

theorem apart_completeTicket (f id st : Nat) (bs : Bytes) : Every apartFromSlots (completeTicket f id st bs) := by
  refine .cons (fun s => ?_) (.cons (fun s => ?_) (.nil _))
  · split
    · rfl
    · split
      · rfl
      · rw [List.all_append, Bool.and_eq_true]
        exact ⟨rfl, by split <;> rfl⟩
  · unfold syncTickets
    split
    · rfl
    · next h =>
      have hevent : eventWord (Reg.MBX_STATE f) = false := eventWord_of_gt (by unfold Reg.MBX_STATE; omega)
      have hlow : Reg.MBX_STATE f < 0x1A0000 := by unfold Reg.MBX_STATE; omega
      simp [apartFromSlots, keepsEvt, reaches, partsOf, faultParts, hevent, hlow]

theorem apart_rebind (cold : Bool) : Every apartFromSlots (rebind cold) := fun s => by
  unfold rebind
  split <;> rfl

theorem apart_swapAbort : Every apartFromSlots swapAbort := fun s => by
  unfold swapAbort
  split
  · rfl
  · refine Every.cons (fun _ => rfl) (.cons (.ite (fun _ => rfl) (apart_rebind true)) (.cons (fun u => ?_) (.nil _))) s
    unfold swapTicketDone
    split
    · exact Every.cons (fun _ => rfl) (.cons (apart_completeTicket _ _ _ _) (.nil _)) u
    · rfl

theorem apart_popLatch (g slot : Nat) (hold : Bool) : Every apartFromSlots (popLatch g slot hold) := fun s => all_flatMap_of_forall fun x _ => by
  dsimp only
  split <;> rfl

theorem apart_latchDone (s : State) (g t : Nat) (l : Latch) : (latchDone s g t l).all apartFromSlots = true := by
  simp only [latchDone, List.all_append, Bool.and_eq_true]
  refine ⟨⟨?_, rfl⟩, ?_⟩
  · split
    · exact apart_popLatch _ _ _ s
    · rfl
  · split <;> rfl

theorem apart_sendConjunction (t : Nat) (l : Latch) (hold : Bool) : Every apartFromSlots (sendConjunction t l hold) := fun s => by
  simp only [sendConjunction, List.all_append, Bool.and_eq_true]
  refine ⟨⟨⟨⟨⟨all_map_of_forall fun _ _ => rfl, ?_⟩, rfl⟩, apart_latchDone _ _ _ _⟩, ?_⟩, ?_⟩
  · split <;> rfl
  · split <;> rfl
  · split
    · rw [List.all_append, Bool.and_eq_true]
      exact ⟨rfl, by split <;> rfl⟩
    · rfl

theorem apart_holdTile (t : Nat) : Every apartFromSlots (holdTile t) := fun s => by
  unfold holdTile
  dsimp only
  split
  · rfl
  · split
    · rfl
    · rw [List.all_append, Bool.and_eq_true]
      exact ⟨apart_sendConjunction _ _ _ s, rfl⟩

theorem apart_retryToken (c : Nat) (wall : Bool) (tiles : List Nat) : Every apartFromSlots (retryToken c wall tiles) :=
  .cons (fun _ => rfl) (.cons (.ite (.actsFor fun t _ => apart_holdTile t) fun _ => rfl) (.nil _))

/-! ### What an aborted swap leaves of slots and clusters -/

/-- The effect leaves the state of the clusters and when slots last failed. -/
def KeepsSlots (e : Eff) : Prop := ∀ (s : State) (p c : Nat),
  (e.apply s).clusterF c = s.clusterF c ∧ ((e.apply s).unitF p).lastFault = (s.unitF p).lastFault

theorem keepsSlots_of_spares {e : Eff} (h : touches e .flt = false) : KeepsSlots e := fun s p c =>
  ⟨clusterF_of_flt ((agree_apply e s).flt h) c, congrArg UnitF.lastFault (unitF_of_flt ((agree_apply e s).flt h) p)⟩

theorem keepsSlots_of_all {es : List Eff} (h : (es.all fun e => !touches e .flt) = true) : ∀ e ∈ es, KeepsSlots e := fun e he =>
  keepsSlots_of_spares (by simpa using List.all_eq_true.mp h e he)

theorem keepsSlots_flt {g : Flt → Flt} (hc : ∀ f, (g f).clusters = f.clusters)
    (hu : ∀ (f : Flt) (p : Nat), ((g f).units.getD p UnitF.init).lastFault = (f.units.getD p UnitF.init).lastFault) : KeepsSlots (.flt g) :=
  fun s p c => ⟨congrArg (fun m : FMap ClusterF => m.getD c ClusterF.init) (hc s.flt), hu s.flt p⟩

/-- A unit that passes to another owner keeps nothing in its token buffer (R25). -/
def clearToken (u : UnitF) : UnitF := { u with token := none, refused := 0 }

theorem lastFault_clearToken (m : FMap UnitF) (p q : Nat) :
    ((m.alter p clearToken).getD q UnitF.init).lastFault = (m.getD q UnitF.init).lastFault := by
  unfold FMap.getD
  by_cases h : q = p
  · subst h
    rw [find_alter_same]
    cases m.find q <;> rfl
  · rw [find_alter_ne m h]

theorem lastFault_foldl_clearToken (slots : List Nat) (m : FMap UnitF) (q : Nat) :
    ((slots.foldl (fun x p => x.alter p clearToken) m).getD q UnitF.init).lastFault = (m.getD q UnitF.init).lastFault := by
  induction slots generalizing m with
  | nil => rfl
  | cons p slots ih => rw [List.foldl_cons, ih, lastFault_clearToken]

theorem keepsSlots_rebind (cold : Bool) : Only KeepsSlots (rebind cold) := fun s => by
  unfold rebind
  split
  · refine List.forall_mem_cons.mpr ⟨keepsSlots_flt (fun _ => rfl) fun f p => lastFault_foldl_clearToken _ f.units p, fun _ h => nomatch h⟩
  · exact fun _ h => nomatch h

theorem keepsSlots_completeTicket (f id st : Nat) (bs : Bytes) : Only KeepsSlots (completeTicket f id st bs) := fun s e he =>
  keepsSlots_of_spares (by
    have hparts := List.all_eq_true.mp (reaches_completeTicket f id st bs s) e he
    cases htouch : touches e .flt with
    | false => rfl
    | true => exact absurd (List.all_eq_true.mp hparts _ (mem_partsOf htouch)) (by decide))

theorem keepsSlots_swapAbort : Only KeepsSlots swapAbort := fun s => by
  unfold swapAbort
  split
  · exact fun _ h => nomatch h
  · refine Only.cons (fun u => ?_) (.cons (.ite (fun _ _ h => nomatch h) (keepsSlots_rebind true)) (.cons (fun u => ?_) .nil)) s
    · refine mem_append_of (a := [_, _, _, _]) (keepsSlots_of_all rfl) (b := [_, _, _]) ?_
      exact List.forall_mem_cons.mpr ⟨keepsSlots_flt (fun _ => rfl) fun _ _ => rfl, keepsSlots_of_all rfl⟩
    · unfold swapTicketDone
      split
      · refine Only.cons (fun _ => ?_) (.cons (keepsSlots_completeTicket _ _ _ _) .nil) u
        exact List.forall_mem_cons.mpr ⟨keepsSlots_flt (fun _ => rfl) fun _ _ => rfl, fun _ h => nomatch h⟩
      · exact fun _ h => nomatch h

theorem slots_swapAbort (s : State) (p c : Nat) : (swapAbort.run s).clusterF c = s.clusterF c ∧
    ((swapAbort.run s).unitF p).lastFault = (s.unitF p).lastFault :=
  ⟨applyAll_keeps_of_mem (·.clusterF c) (fun e he u => (keepsSlots_swapAbort s e he u p c).1) s,
    applyAll_keeps_of_mem (fun t => (t.unitF p).lastFault) (fun e he u => (keepsSlots_swapAbort s e he u p c).2) s⟩

/-! ### Faults of a unit (R696, R702) -/

theorem sparesErr_of_fenced (a kind n : Nat) : sparesFld a Fld.FLT_UNIT.FENCED (.inc a (errField kind) n) = true := by
  unfold errField
  split
  · simp [sparesFld, Fld.FLT_UNIT.RESIDUE_ERRS, Fld.FLT_UNIT.FENCED]
  · split
    · simp [sparesFld, Fld.FLT_UNIT.PARITY_ERRS, Fld.FLT_UNIT.FENCED]
    · simp [sparesFld, Fld.FLT_UNIT.CRC_ERRS, Fld.FLT_UNIT.FENCED]

/-- The fault is counted, and its time kept. -/
def faultEffects (p kind now : Nat) : List Eff :=
  [.inc (Reg.FLT_UNIT p) (errField kind) 1, effUnit p fun u => { u with lastFault := some now }]

theorem sparesFault_of_fenced (p kind now : Nat) :
    (faultEffects p kind now).all (sparesFld (Reg.FLT_UNIT p) Fld.FLT_UNIT.FENCED) = true := by
  rw [faultEffects, List.all_cons, sparesErr_of_fenced]
  rfl

theorem unitFault_of_up {p kind : Nat} {tiles : List Nat} {s : State} (hup : slotDown s p = false) : unitFault p kind tiles s =
    acts [answerFault p tiles, eff (faultEffects p kind s.uptime), if faultAgain s p then fence p else eff [], swapAbort] s := by
  simp only [unitFault, hup, Bool.false_eq_true, if_false]
  rfl

theorem unitFault_of_down {p kind : Nat} {tiles : List Nat} {s : State} (hdown : slotDown s p = true) : unitFault p kind tiles s = [] := by
  simp only [unitFault, hdown, if_true]

/-- The spare takes the role of a slot that failed. -/
def takeRole (r : Reexec) (y : ClusterF) : ClusterF := { y with reexec := some r, rotation := none }

theorem answerFault_of_spare {p k : Nat} {tiles : List Nat} {s : State} (hspare : spareSlot s (p / 17) = some k) (hk : k ≠ p % 17)
    (hfree : (s.clusterF (p / 17)).reexec = none) : ∃ tail, answerFault p tiles s =
      effCluster (p / 17) (takeRole ⟨slotRole s p, p % 17, false⟩) :: unitFld (17 * (p / 17) + k) Fld.FLT_UNIT.POWERED 1 :: tail ∧
        tail.all (reaches [.prms, .regs, .out]) = true ∧ ∀ q, q < 2176 → tail.all (sparesReg (Reg.FLT_UNIT q)) = true := by
  refine ⟨countRx (p / 17) ++ (if (s.clusterF (p / 17)).rotation.isSome then [.count Prm.FLT_ECLIPSE_DEFERRED 1] else []), ?_, ?_, fun q hq => ?_⟩
  · simp only [answerFault, hspare, hk, hfree, if_false]
    rfl
  · rw [List.all_append, Bool.and_eq_true]
    exact ⟨rfl, by split <;> rfl⟩
  · have hevent : eventWord (Reg.FLT_UNIT q) = false := eventWord_of_gt (by unfold Reg.FLT_UNIT; omega)
    rw [List.all_append, Bool.and_eq_true]
    exact ⟨by simp [countRx, sparesReg, hevent], by split <;> rfl⟩

/-- R696: a first fault of a slot whose cluster has a spare: the spare re-executes its role. -/
theorem run_unitFault_of_spare {p kind k : Nat} {tiles : List Nat} {s : State} (hp : p < 2176) (hup : slotDown s p = false)
    (hspare : spareSlot s (p / 17) = some k) (hk : k < 17) (hne : k ≠ p % 17) (hfree : (s.clusterF (p / 17)).reexec = none)
    (hfirst : faultAgain s p = false) :
    let t := (unitFault p kind tiles).run s
    (t.clusterF (p / 17)).reexec = some ⟨slotRole s p, p % 17, false⟩ ∧ slotPowered t (17 * (p / 17) + k) = true ∧
      (t.unitF p).lastFault = some s.uptime ∧ slotFenced t p = slotFenced s p ∧ t.devMem = s.devMem ∧ t.hostMem = s.hostMem := by
  obtain ⟨tail, hanswer, htail, hspares⟩ := answerFault_of_spare (tiles := tiles) hspare hne hfree
  have hother : 17 * (p / 17) + k ≠ p := by omega
  have hsp : 17 * (p / 17) + k < 2176 := by omega
  dsimp only
  rw [run_congr (unitFault_of_up hup), hfirst, if_neg Bool.false_ne_true, run_acts_cons, run_acts_cons, run_acts_cons, run_acts_cons, run_acts_nil,
    run_eff, run_eff, applyAll_nil, Act.run_eq (answerFault p tiles), hanswer, applyAll_cons, applyAll_cons]
  have hcluster := clusterF_effCluster_same (p / 17) (takeRole ⟨slotRole s p, p % 17, false⟩) s
  have hu := agree_apply (effCluster (p / 17) (takeRole ⟨slotRole s p, p % 17, false⟩)) s
  generalize (effCluster (p / 17) (takeRole ⟨slotRole s p, p % 17, false⟩)).apply s = u at hcluster hu ⊢
  have hpower : slotPowered ((unitFld (17 * (p / 17) + k) Fld.FLT_UNIT.POWERED 1).apply u) (17 * (p / 17) + k) = true :=
    flag_fld_same (covers_unit unitField_powered hsp) rfl 1 u
  have hfence : slotFenced ((unitFld (17 * (p / 17) + k) Fld.FLT_UNIT.POWERED 1).apply u) p = slotFenced s p :=
    (flag_fld_ne (unit_ne hother.symm) _ _ _ _).trans (flag_of_rd (by rw [State.rd, hu.regs rfl, State.rd]) _)
  have hmem : ((unitFld (17 * (p / 17) + k) Fld.FLT_UNIT.POWERED 1).apply u).devMem = s.devMem ∧
      ((unitFld (17 * (p / 17) + k) Fld.FLT_UNIT.POWERED 1).apply u).hostMem = s.hostMem := ⟨hu.devMem rfl, hu.hostMem rfl⟩
  have hkeep := clusterF_of_flt ((agree_apply (unitFld (17 * (p / 17) + k) Fld.FLT_UNIT.POWERED 1) u).flt rfl) (p / 17)
  generalize (unitFld (17 * (p / 17) + k) Fld.FLT_UNIT.POWERED 1).apply u = v at hpower hfence hmem hkeep ⊢
  have hw := agree_of_reaches htail v
  have hrd (q : Nat) (hq : q < 2176) : (applyAll tail v).rd (Reg.FLT_UNIT q) = v.rd (Reg.FLT_UNIT q) := rd_applyAll_of_spares (hspares q hq) v
  generalize applyAll tail v = w at hw hrd ⊢
  have hcount := agree_applyAll (faultEffects p kind s.uptime) w
  have hcounted : (applyAll (faultEffects p kind s.uptime) w).rd (Reg.FLT_UNIT (17 * (p / 17) + k)) = w.rd (Reg.FLT_UNIT (17 * (p / 17) + k)) :=
    rd_applyAll_of_spares (by simp [faultEffects, sparesReg, effUnit, unit_ne hother.symm]) w
  have hunfenced : (applyAll (faultEffects p kind s.uptime) w).fld (Reg.FLT_UNIT p) Fld.FLT_UNIT.FENCED =
      w.fld (Reg.FLT_UNIT p) Fld.FLT_UNIT.FENCED :=
    fld_applyAll_of_spares (covers_unit unitField_fenced hp) (sparesFault_of_fenced p kind s.uptime) w
  have hlast : (applyAll (faultEffects p kind s.uptime) w).unitF p = { w.unitF p with lastFault := some s.uptime } := by
    rw [faultEffects, applyAll_cons, applyAll_cons, applyAll_nil, unitF_effUnit_same, unitF_of_flt ((agree_apply (Eff.inc _ _ _) w).flt rfl)]
  have hclusters : (applyAll (faultEffects p kind s.uptime) w).clusterF (p / 17) = w.clusterF (p / 17) := by
    rw [faultEffects, applyAll_cons, applyAll_cons, applyAll_nil, clusterF_effUnit, clusterF_of_flt ((agree_apply (Eff.inc _ _ _) w).flt rfl)]
  generalize applyAll (faultEffects p kind s.uptime) w = x at hcount hcounted hunfenced hlast hclusters ⊢
  have habort := agree_of_reaches (reaches_of_apart (apart_swapAbort x)) x
  have hrest (q : Nat) (hq : q < 2176) : (swapAbort.run x).rd (Reg.FLT_UNIT q) = x.rd (Reg.FLT_UNIT q) :=
    rd_applyAll_of_spares (sparesUnit_of_apart (apart_swapAbort x) hq) x
  obtain ⟨hc, hl⟩ := slots_swapAbort x p (p / 17)
  refine ⟨?_, ?_, ?_, ?_, ?_, ?_⟩
  · rw [hc, hclusters, clusterF_of_flt (hw.flt rfl), hkeep, hcluster]
    rfl
  · rw [slotPowered, flag_of_rd (hrest _ hsp), flag_of_rd hcounted, flag_of_rd (hrd _ hsp)]
    exact hpower
  · rw [hl, hlast]
  · rw [slotFenced, flag_of_rd (hrest _ hp), State.flag, hunfenced, fld_of_rd (hrd _ hp)]
    exact hfence
  · exact (habort.devMem rfl).trans ((hcount.devMem rfl).trans ((hw.devMem rfl).trans hmem.1))
  · exact (habort.hostMem rfl).trans ((hcount.hostMem rfl).trans ((hw.hostMem rfl).trans hmem.2))

/-- What the cluster does about a fault leaves the word of the slot. -/
theorem spares_answerFault {p : Nat} (hp : p < 2176) (tiles : List Nat) : Every (sparesReg (Reg.FLT_UNIT p)) (answerFault p tiles) := fun s => by
  have hretry := sparesUnit_of_apart (apart_retryToken (p / 17) (wallRole s p) tiles s) hp
  unfold answerFault
  dsimp only
  split
  · exact hretry
  · next k _ =>
    split
    · exact hretry
    · next hk =>
      have hne : Reg.FLT_UNIT (17 * (p / 17) + k) ≠ Reg.FLT_UNIT p := unit_ne (by omega)
      have hevent : eventWord (Reg.FLT_UNIT p) = false := eventWord_of_gt (by unfold Reg.FLT_UNIT; omega)
      split
      · split
        · rfl
        · exact hretry
      · simp only [effCluster, unitFld, countRx, List.cons_append, List.nil_append, List.all_cons, sparesReg, hevent, Bool.not_false,
          Bool.true_and, Bool.and_eq_true, bne_iff_ne]
        exact ⟨hne, by split <;> rfl⟩

theorem reaches_answerFault (p : Nat) (tiles : List Nat) : Every (reaches faultParts) (answerFault p tiles) := fun s => by
  have hretry := reaches_of_apart (apart_retryToken (p / 17) (wallRole s p) tiles s)
  unfold answerFault
  dsimp only
  split
  · exact hretry
  · split
    · exact hretry
    · split
      · split
        · rfl
        · exact hretry
      · split <;> rfl

/-- The effects of a fencing on the slot, before those on its cluster. -/
def fenceSlot (p : Nat) : List Eff := powerDown p ++ [unitFld p Fld.FLT_UNIT.FENCED 1, unitFld p Fld.FLT_UNIT.IS_SPARE 0]

theorem fence_of_free {p : Nat} {s : State} (hp : p < 2176) (h : slotFenced s p = false) : ∃ rest, fence p s = fenceSlot p ++ rest ∧
    rest.all (sparesReg (Reg.FLT_UNIT p)) = true ∧ rest.all keepsEvt = true ∧ rest.all (reaches [.flt, .regs, .prms, .out]) = true ∧
    .raise 244 ∈ rest := by
  have hcluster : (Reg.FLT_CLUSTER (p / 17) != Reg.FLT_UNIT p) = true := by
    rw [bne_iff_ne]
    unfold Reg.FLT_CLUSTER Reg.FLT_UNIT
    omega
  have hunit (k : Nat) (hk : k ≠ p % 17) : (Reg.FLT_UNIT (17 * (p / 17) + k) != Reg.FLT_UNIT p) = true := bne_iff_ne.mpr (unit_ne (by omega))
  have hcevent : eventWord (Reg.FLT_CLUSTER (p / 17)) = false := eventWord_of_gt (by unfold Reg.FLT_CLUSTER; omega)
  have huevent (q : Nat) : eventWord (Reg.FLT_UNIT q) = false := eventWord_of_gt (by unfold Reg.FLT_UNIT; omega)
  have hfld (off n : Nat) (f : Fld) : reaches [.flt, .regs, .prms, .out] (.fld off f n) = true := rfl
  have hflt (g : Flt → Flt) : reaches [.flt, .regs, .prms, .out] (.flt g) = true := rfl
  have hcount (id n : Nat) : reaches [.flt, .regs, .prms, .out] (.count id n) = true := rfl
  have hraise (n : Nat) : reaches [.flt, .regs, .prms, .out] (.raise n) = true := rfl
  refine ⟨(fence p s).drop 4, ?_, ?_, ?_, ?_, ?_⟩
  all_goals simp only [fence, h, Bool.false_eq_true, if_false, powerDown, List.cons_append, List.nil_append, List.drop_succ_cons, List.drop_zero]
  · rfl
  · simp only [List.all_cons, clusterFld, unitFld, effUnit, effCluster, sparesReg, hcluster, huevent, Bool.not_false, Bool.true_and]
    split
    · split
      · rfl
      · next hk => simp only [List.all_cons, List.all_nil, sparesReg, hunit _ hk, Bool.and_self]
    · rfl
  · simp only [List.all_cons, clusterFld, unitFld, effUnit, effCluster, keepsEvt, hcevent, Bool.not_false, Bool.true_and]
    split
    · split
      · rfl
      · simp only [List.all_cons, List.all_nil, keepsEvt, huevent, Bool.not_false, Bool.and_self]
    · rfl
  · simp only [List.all_cons, clusterFld, unitFld, effUnit, effCluster, hfld, hflt, hcount, hraise, Bool.true_and]
    split
    · split <;> rfl
    · rfl
  · simp

theorem keepsEvt_fenceSlot (p : Nat) : (fenceSlot p).all keepsEvt = true := by
  have hunit : eventWord (Reg.FLT_UNIT p) = false := eventWord_of_gt (by unfold Reg.FLT_UNIT; omega)
  have hpace : eventWord (Reg.THM_PACE_UNIT p) = false := eventWord_of_gt (by unfold Reg.THM_PACE_UNIT; omega)
  simp [fenceSlot, powerDown, unitFld, keepsEvt, hunit, hpace]

theorem run_fence_of_free {p : Nat} {s : State} (hp : p < 2176) (h : slotFenced s p = false) :
    let t := (fence p).run s
    slotFenced t p = true ∧ slotPowered t p = false ∧ t.evt 244 = true ∧ sameStores s t := by
  obtain ⟨rest, hfence, hspares, hkeep, hreach, hmem⟩ := fence_of_free hp h
  have hfenced : slotFenced (applyAll (fenceSlot p) s) p = true :=
    flag_applyAll_of_fld (covers_unit unitField_fenced hp) rfl (powerDown p) 1 (by
      simp [sparesFld, unitFld, Fld.FLT_UNIT.FENCED, Fld.FLT_UNIT.IS_SPARE]) s
  have hpowered : slotPowered (applyAll (fenceSlot p) s) p = false :=
    flag_applyAll_of_fld (covers_unit unitField_powered hp) rfl [] 0 (by
      simp [sparesFld, unitFld, pace_ne_unit hp, Fld.FLT_UNIT.POWERED, Fld.FLT_UNIT.FENCED, Fld.FLT_UNIT.IS_SPARE]) s
  dsimp only
  refine ⟨?_, ?_, ?_, ?_⟩
  · rw [Act.run_eq, hfence, applyAll_append, slotFenced, flag_of_rd (rd_applyAll_of_spares hspares _)]
    exact hfenced
  · rw [Act.run_eq, hfence, applyAll_append, slotPowered, flag_of_rd (rd_applyAll_of_spares hspares _)]
    exact hpowered
  · rw [Act.run_eq, hfence]
    exact evt_applyAll_of_raise (by decide) (by rw [List.all_append, keepsEvt_fenceSlot, hkeep, Bool.and_self])
      (List.mem_append_right _ hmem) s
  · rw [Act.run_eq, hfence, applyAll_append]
    exact sameStores_trans (applyAll_sameStores rfl s) ((agree_of_reaches hreach _).sameStores rfl rfl rfl rfl rfl rfl)

/-- R702: a second fault within the window fences the slot. -/
theorem run_unitFault_of_again {p kind : Nat} {tiles : List Nat} {s : State} (hp : p < 2176) (hup : slotDown s p = false)
    (hagain : faultAgain s p = true) (hfree : slotFenced s p = false) :
    let t := (unitFault p kind tiles).run s
    slotFenced t p = true ∧ slotPowered t p = false ∧ t.evt 244 = true ∧ t.devMem = s.devMem ∧ t.hostMem = s.hostMem := by
  dsimp only
  rw [run_congr (unitFault_of_up hup), if_pos hagain, run_acts_cons, run_acts_cons, run_acts_cons, run_acts_cons, run_acts_nil, run_eff]
  have hanswer := (reaches_answerFault p tiles).agree s
  have hword := (spares_answerFault hp tiles).rd s
  generalize (answerFault p tiles).run s = u at hanswer hword ⊢
  have hcount := agree_applyAll (faultEffects p kind s.uptime) u
  have hunfenced : slotFenced (applyAll (faultEffects p kind s.uptime) u) p = false := by
    rw [slotFenced, flag_applyAll_of_spares (covers_unit unitField_fenced hp) (sparesFault_of_fenced p kind s.uptime),
      flag_of_rd hword]
    exact hfree
  generalize applyAll (faultEffects p kind s.uptime) u = v at hcount hunfenced ⊢
  obtain ⟨hfenced, hpowered, hevt, hstores⟩ := run_fence_of_free hp hunfenced
  generalize (fence p).run v = w at hfenced hpowered hevt hstores ⊢
  have habort := agree_of_reaches (reaches_of_apart (apart_swapAbort w)) w
  have hrd : (swapAbort.run w).rd (Reg.FLT_UNIT p) = w.rd (Reg.FLT_UNIT p) :=
    rd_applyAll_of_spares (sparesUnit_of_apart (apart_swapAbort w) hp) w
  obtain ⟨hdev, hhost, -⟩ := hstores
  refine ⟨?_, ?_, Every.evt (by decide) (fun x => keepsEvt_of_apart (apart_swapAbort x)) hevt, ?_, ?_⟩
  · rw [slotFenced, flag_of_rd hrd]
    exact hfenced
  · rw [slotPowered, flag_of_rd hrd]
    exact hpowered
  · exact (habort.devMem rfl).trans (hdev.trans ((hcount.devMem rfl).trans (hanswer.devMem rfl)))
  · exact (habort.hostMem rfl).trans (hhost.trans ((hcount.hostMem rfl).trans (hanswer.hostMem rfl)))

/-! ### The spare, retests and rotations (R698, R703, R706 to R708) -/

theorem cluster_ne_unit (c : Fin 128) (q : Nat) : Reg.FLT_CLUSTER c ≠ Reg.FLT_UNIT q := by unfold Reg.FLT_CLUSTER Reg.FLT_UNIT; omega

theorem actSpareLoaded_of_waiting {c : Fin 128} {r : Reexec} {k : Nat} {s : State} (hr : (s.clusterF c).reexec = some r)
    (hspare : spareSlot s c = some k) (hload : r.loaded = false) : actSpareLoaded c s =
      [effCluster c (fun x => { x with reexec := some { r with loaded := true } }), clusterFld c Fld.FLT_CLUSTER.SPARE_BUSY 1,
        unitFld (17 * c.val + k) Fld.FLT_UNIT.ROLE r.role] := by
  simp only [actSpareLoaded, hr, hspare, hload, Bool.false_eq_true, if_false]

theorem run_spareLoaded {c : Fin 128} {r : Reexec} {k : Nat} {s : State} (hr : (s.clusterF c).reexec = some r)
    (hspare : spareSlot s c = some k) (hk : k < 17) (hload : r.loaded = false) :
    let t := (actSpareLoaded c).run s
    (t.clusterF c).reexec = some { r with loaded := true } ∧ t.flag (Reg.FLT_CLUSTER c) Fld.FLT_CLUSTER.SPARE_BUSY = true ∧
      t.fld (Reg.FLT_UNIT (17 * c + k)) Fld.FLT_UNIT.ROLE = r.role % 16 ∧ sameStores s t := by
  have hp : 17 * c.val + k < 2176 := by omega
  dsimp only
  rw [Act.run_eq, actSpareLoaded_of_waiting hr hspare hload]
  refine ⟨?_, ?_, ?_, applyAll_sameStores rfl s⟩
  · rw [applyAll_cons, clusterF_of_flt ((agree_applyAll [_, _] _).flt rfl), clusterF_effCluster_same]
  · exact flag_applyAll_of_fld (covers_cluster clusterField_spareBusy c) rfl [_] 1 (by
      simp [sparesFld, unitFld, (cluster_ne_unit c _).symm]) s
  · exact fld_applyAll_of_fld (covers_unit unitField_role hp) [_, _] _ (post := []) rfl s

theorem actFenceRetest_of_fenced {p : Fin 2176} {s : State} (hf : slotFenced s p = true) (hu : s.unitF p = UnitF.init) :
    actFenceRetest p s = [effUnit p fun u => { u with testing := true }] := by
  simp [actFenceRetest, hf, hu, UnitF.init]

theorem actRetestDone_of_testing {p : Fin 2176} {passed : Bool} {s : State} (hf : slotFenced s p = true) (htest : (s.unitF p).testing = true)
    (hreturn : (s.unitF p).wantReturn = false) : actRetestDone p passed s = if !passed then retestFailed p s
      else [effUnit p fun u => { u with testing := false, wantReturn := bitOf (s.pn Prm.FLT_CTRL) 1 }] := by
  simp only [actRetestDone, hf, htest, hreturn, Bool.not_true, Bool.false_eq_true, or_self, if_false]

theorem run_retestDone_of_failed {p : Fin 2176} {s : State} (hf : slotFenced s p = true) (htest : (s.unitF p).testing = true)
    (hreturn : (s.unitF p).wantReturn = false) :
    let t := (actRetestDone p false).run s
    (t.unitF p).testing = false ∧ (t.unitF p).retestFails = (s.unitF p).retestFails + 1 ∧ slotFenced t p = true ∧ sameStores s t := by
  have hact : actRetestDone p false s = retestFailed p s := by rw [actRetestDone_of_testing hf htest hreturn]; rfl
  have hunit : (applyAll (retestFailed p s) s).unitF p = { s.unitF p with
      testing := false, retestFails := (s.unitF p).retestFails + 1,
      noRetest := (s.unitF p).noRetest || decide (s.pn Prm.FLT_RETEST_MAX ≤ (s.unitF p).retestFails + 1) } := by
    rw [retestFailed, applyAll_cons, applyAll_cons, applyAll_nil, unitF_effUnit_same, unitF_of_flt ((agree_apply (.count _ _) s).flt rfl)]
  have hes := agree_applyAll (retestFailed p s) s
  dsimp only
  rw [Act.run_eq, hact]
  refine ⟨by rw [hunit], by rw [hunit], ?_, hes.sameStores rfl rfl rfl rfl rfl rfl⟩
  rw [slotFenced, flag_of_rd (s := s) (by rw [State.rd, hes.regs rfl, State.rd])]
  exact hf

theorem actEclipseRotation_of_free {c : Fin 128} {k r : Nat} {s : State} (hspare : spareSlot s c = some k) (hrole : nextRole s c = some r)
    (hon : bitOf (s.pn Prm.FLT_CTRL) 0 = true) (hre : (s.clusterF c).reexec = none) (hrot : (s.clusterF c).rotation = none)
    (hin : s.boot.excluded.contains (c / 32) = false) : actEclipseRotation c s =
      [effCluster c (fun x => { x with rotation := some r }), unitFld (17 * c.val + k) Fld.FLT_UNIT.POWERED 1,
        clusterFld c Fld.FLT_CLUSTER.SPARE_BUSY 1] := by
  simp only [actEclipseRotation, hspare, hrole, hon, hre, hrot, hin, Option.isSome_none, Bool.not_true, Bool.false_eq_true, or_self, if_false]

theorem run_eclipseRotation {c : Fin 128} {k r : Nat} {s : State} (hspare : spareSlot s c = some k) (hk : k < 17) (hrole : nextRole s c = some r)
    (hon : bitOf (s.pn Prm.FLT_CTRL) 0 = true) (hre : (s.clusterF c).reexec = none) (hrot : (s.clusterF c).rotation = none)
    (hin : s.boot.excluded.contains (c / 32) = false) :
    let t := (actEclipseRotation c).run s
    (t.clusterF c).rotation = some r ∧ slotPowered t (17 * c + k) = true ∧ t.flag (Reg.FLT_CLUSTER c) Fld.FLT_CLUSTER.SPARE_BUSY = true ∧
      sameStores s t := by
  have hp : 17 * c.val + k < 2176 := by omega
  dsimp only
  rw [Act.run_eq, actEclipseRotation_of_free hspare hrole hon hre hrot hin]
  refine ⟨?_, ?_, ?_, applyAll_sameStores rfl s⟩
  · rw [applyAll_cons, clusterF_of_flt ((agree_applyAll [_, _] _).flt rfl), clusterF_effCluster_same]
  · exact flag_applyAll_of_fld (covers_unit unitField_powered hp) rfl [_] 1 (by simp [sparesFld, clusterFld, cluster_ne_unit c]) s
  · exact flag_applyAll_of_fld (covers_cluster clusterField_spareBusy c) rfl [_, _] 1 (post := []) rfl s

/-- What a rotation that passes its self-test shows: the spare takes the role, and the old unit becomes the spare. -/
def rotated (c k r old : Nat) : List Eff :=
  [unitFld (17 * c + k) Fld.FLT_UNIT.IS_SPARE 0, unitFld (17 * c + k) Fld.FLT_UNIT.ROLE r, unitFld (17 * c + old) Fld.FLT_UNIT.POWERED 0,
    .fld (Reg.THM_PACE_UNIT (17 * c + old)) Fld.THM_PACE_UNIT.VALID 0, unitFld (17 * c + old) Fld.FLT_UNIT.IS_SPARE 1,
    unitFld (17 * c + old) Fld.FLT_UNIT.ROLE 0, clusterFld c Fld.FLT_CLUSTER.SPARE_SLOT old, clusterFld c Fld.FLT_CLUSTER.NO_SPARE 0,
    clusterFld c Fld.FLT_CLUSTER.SPARE_BUSY 0, effCluster c (fun x => { x with rotation := none, lastRole := some r }), .count Prm.FLT_ECLIPSES 1]

theorem actRotationSelftestDone_of_passed {c : Fin 128} {k r old : Nat} {s : State} (hspare : spareSlot s c = some k)
    (hrot : (s.clusterF c).rotation = some r) (hold : holder s c r = some old) : actRotationSelftestDone c true s = rotated c k r old := by
  simp only [actRotationSelftestDone, hrot, hspare, hold, if_true]
  rfl

theorem plain_eclipses : copyFind Prm.FLT_ECLIPSES prmCopies = none := by decide +kernel

/-- R707: the spare takes the role, and the old unit becomes the spare. -/
theorem run_rotationSelftestDone_of_passed {c : Fin 128} {k r old : Nat} {s : State} (hspare : spareSlot s c = some k) (hk : k < 17)
    (hrot : (s.clusterF c).rotation = some r) (hr : r < 16) (hold : holder s c r = some old) (hne : old ≠ k) (hlt : old < 17) :
    let t := (actRotationSelftestDone c true).run s
    slotSpare t (17 * c + k) = false ∧ slotRole t (17 * c + k) = r ∧ slotSpare t (17 * c + old) = true ∧ slotPowered t (17 * c + old) = false ∧
      spareSlot t c = some old ∧ (t.clusterF c).rotation = none ∧ t.pn Prm.FLT_ECLIPSES = satAdd 0xFFFFFFFF (s.pn Prm.FLT_ECLIPSES) 1 ∧
      sameStores s t := by
  have hp : 17 * c.val + k < 2176 := by omega
  have hq : 17 * c.val + old < 2176 := by omega
  have hpq : Reg.FLT_UNIT (17 * c.val + old) ≠ Reg.FLT_UNIT (17 * c.val + k) := unit_ne (by omega)
  dsimp only
  rw [Act.run_eq, actRotationSelftestDone_of_passed hspare hrot hold]
  refine ⟨?_, ?_, ?_, ?_, ?_, ?_, ?_, applyAll_sameStores rfl s⟩
  · refine flag_applyAll_of_fld (covers_unit unitField_isSpare hp) rfl [] 0 ?_ s
    simp [sparesFld, unitFld, clusterFld, effCluster, hpq, pace_ne_unit hq, cluster_ne_unit c, Fld.FLT_UNIT.IS_SPARE, Fld.FLT_UNIT.ROLE]
  · refine (fld_applyAll_of_fld (covers_unit unitField_role hp) [_] r ?_ s).trans (Nat.mod_eq_of_lt hr)
    simp [sparesFld, unitFld, clusterFld, effCluster, hpq, pace_ne_unit hq, cluster_ne_unit c]
  · refine flag_applyAll_of_fld (covers_unit unitField_isSpare hq) rfl ((rotated c k r old).take 4) 1 ?_ s
    simp [sparesFld, unitFld, clusterFld, effCluster, cluster_ne_unit c, Fld.FLT_UNIT.IS_SPARE, Fld.FLT_UNIT.ROLE]
  · refine flag_applyAll_of_fld (covers_unit unitField_powered hq) rfl [_, _] 0 ?_ s
    simp [sparesFld, unitFld, clusterFld, effCluster, pace_ne_unit hq, cluster_ne_unit c, Fld.FLT_UNIT.IS_SPARE, Fld.FLT_UNIT.ROLE,
      Fld.FLT_UNIT.POWERED]
  · have hno : (applyAll (rotated c k r old) s).flag (Reg.FLT_CLUSTER c) Fld.FLT_CLUSTER.NO_SPARE = false :=
      flag_applyAll_of_fld (covers_cluster clusterField_noSpare c) rfl ((rotated c k r old).take 7) 0 (by
        simp [sparesFld, clusterFld, effCluster, Fld.FLT_CLUSTER.NO_SPARE, Fld.FLT_CLUSTER.SPARE_BUSY]) s
    have hslot : (applyAll (rotated c k r old) s).fld (Reg.FLT_CLUSTER c) Fld.FLT_CLUSTER.SPARE_SLOT = old % 2 ^ 5 :=
      fld_applyAll_of_fld (covers_cluster clusterField_spareSlot c) ((rotated c k r old).take 6) old (by
        simp [sparesFld, clusterFld, effCluster, Fld.FLT_CLUSTER.NO_SPARE, Fld.FLT_CLUSTER.SPARE_BUSY, Fld.FLT_CLUSTER.SPARE_SLOT]) s
    rw [spareSlot, hno, if_neg Bool.false_ne_true, hslot, Nat.mod_eq_of_lt (by omega)]
  · show ((applyAll ((rotated c k r old).take 9 ++ [effCluster c _, .count Prm.FLT_ECLIPSES 1]) s).clusterF c).rotation = none
    rw [applyAll_append, applyAll_cons, clusterF_of_flt ((agree_applyAll [_] _).flt rfl), clusterF_effCluster_same]
  · have hprms : (applyAll ((rotated c k r old).take 10) s).prms = s.prms := (agree_applyAll ((rotated c k r old).take 10) s).prms rfl
    have hsplit : rotated c k r old = (rotated c k r old).take 10 ++ [.count Prm.FLT_ECLIPSES 1] := rfl
    rw [hsplit, applyAll_append, applyAll_cons, applyAll_nil, pn_count_same plain_eclipses, pn_congr plain_eclipses hprms]

/-- What a rotation that is abandoned shows. -/
def abandoned (c sp now : Nat) : List Eff :=
  [effCluster c (fun x => { x with rotation := none }), clusterFld c Fld.FLT_CLUSTER.SPARE_BUSY 0, .count Prm.FLT_ECLIPSE_FAILS 1, .raise 246,
    effUnit sp fun u => { u with lastFault := some now }]

theorem actRotationSelftestDone_of_failed {c : Fin 128} {k r : Nat} {s : State} (hspare : spareSlot s c = some k)
    (hrot : (s.clusterF c).rotation = some r) (hfirst : faultAgain s (17 * c + k) = false) : actRotationSelftestDone c false s =
      acts [eff (abandoned c (17 * c.val + k) s.uptime), eff (powerDown (17 * c.val + k)), eff []] s := by
  simp only [actRotationSelftestDone, hrot, hspare, hfirst, Bool.false_eq_true, if_false]
  rfl

/-- R708: the rotation is abandoned. -/
theorem run_rotationSelftestDone_of_failed {c : Fin 128} {k r : Nat} {s : State} (hspare : spareSlot s c = some k) (hk : k < 17)
    (hrot : (s.clusterF c).rotation = some r) (hfirst : faultAgain s (17 * c + k) = false) :
    let t := (actRotationSelftestDone c false).run s
    (t.clusterF c).rotation = none ∧ slotPowered t (17 * c + k) = false ∧ t.evt 246 = true ∧ sameStores s t := by
  have hp : 17 * c.val + k < 2176 := by omega
  have hunit : eventWord (Reg.FLT_UNIT (17 * c.val + k)) = false := eventWord_of_gt (by unfold Reg.FLT_UNIT; omega)
  have hpace : eventWord (Reg.THM_PACE_UNIT (17 * c.val + k)) = false := eventWord_of_gt (by unfold Reg.THM_PACE_UNIT; omega)
  have hcluster : eventWord (Reg.FLT_CLUSTER c) = false := eventWord_of_gt (by unfold Reg.FLT_CLUSTER; omega)
  dsimp only
  rw [run_congr (actRotationSelftestDone_of_failed hspare hrot hfirst), run_acts_cons, run_acts_cons, run_acts_cons, run_acts_nil, run_eff, run_eff,
    run_eff, applyAll_nil]
  have hrotation : ((applyAll (abandoned c (17 * c.val + k) s.uptime) s).clusterF c).rotation = none := by
    show ((applyAll (effCluster c (fun x => { x with rotation := none }) :: [_, _, _] ++ [effUnit (17 * c.val + k) _]) s).clusterF c).rotation = none
    rw [applyAll_append, applyAll_cons, applyAll_nil, clusterF_effUnit, applyAll_cons, clusterF_of_flt ((agree_applyAll [_, _, _] _).flt rfl),
      clusterF_effCluster_same]
  have hevt : (applyAll (abandoned c (17 * c.val + k) s.uptime) s).evt 246 = true :=
    evt_applyAll_of_raise (by decide) (by simp [abandoned, keepsEvt, clusterFld, effCluster, effUnit, hcluster]) (by simp [abandoned]) s
  have hstores : sameStores s (applyAll (abandoned c (17 * c.val + k) s.uptime) s) := applyAll_sameStores rfl s
  generalize applyAll (abandoned c (17 * c.val + k) s.uptime) s = u at hrotation hevt hstores ⊢
  have hdown := agree_applyAll (powerDown (17 * c.val + k)) u
  refine ⟨?_, ?_, ?_, sameStores_trans hstores (hdown.sameStores rfl rfl rfl rfl rfl rfl)⟩
  · rw [clusterF_of_flt (hdown.flt rfl), hrotation]
  · exact flag_applyAll_of_fld (covers_unit unitField_powered hp) rfl [] 0 (by simp [sparesFld, pace_ne_unit hp]) u
  · exact evt_applyAll_of_keeps (by decide) (by simp [powerDown, unitFld, keepsEvt, hunit, hpace]) hevt

/-! ### Sentinels (R711) -/

theorem covers_plinth_primary : covers (regMask Reg.FLT_PLINTH) Fld.FLT_PLINTH.PRIMARY = true := by decide +kernel
theorem covers_plinth_alive : covers (regMask Reg.FLT_PLINTH) Fld.FLT_PLINTH.P0_ALIVE = true := by decide +kernel

theorem actSentinelCheck_of_missed {s : State} (hprimary : s.flag Reg.FLT_PLINTH Fld.FLT_PLINTH.PRIMARY = false)
    (hp2 : s.flag Reg.FLT_PLINTH Fld.FLT_PLINTH.P2_ALIVE = true) (hp0 : s.flag Reg.FLT_PLINTH Fld.FLT_PLINTH.P0_ALIVE = true)
    (hmissed : 2 ≤ s.flt.missed) : actSentinelCheck false s =
      [plinthFld Fld.FLT_PLINTH.RECENT (min 15 (recentRecoveries s).length), .flt (fun x => { x with missed := 0 }),
        plinthFld Fld.FLT_PLINTH.PRIMARY 1, plinthFld Fld.FLT_PLINTH.P0_ALIVE 0, .count Prm.PLN_HANDOVERS 1] := by
  have hthird : ¬ s.flt.missed < 2 := Nat.not_lt.mpr hmissed
  simp only [actSentinelCheck, hprimary, hp2, hp0, hthird, Bool.not_true, Bool.false_eq_true, or_self, if_false]

/-- R711: the third check missed in a row makes P2 primary. -/
theorem run_sentinelCheck_of_missed {s : State} (hprimary : s.flag Reg.FLT_PLINTH Fld.FLT_PLINTH.PRIMARY = false)
    (hp2 : s.flag Reg.FLT_PLINTH Fld.FLT_PLINTH.P2_ALIVE = true) (hp0 : s.flag Reg.FLT_PLINTH Fld.FLT_PLINTH.P0_ALIVE = true)
    (hmissed : 2 ≤ s.flt.missed) :
    let t := (actSentinelCheck false).run s
    t.flag Reg.FLT_PLINTH Fld.FLT_PLINTH.PRIMARY = true ∧ t.flag Reg.FLT_PLINTH Fld.FLT_PLINTH.P0_ALIVE = false ∧ t.flt.missed = 0 ∧
      sameStores s t := by
  dsimp only
  rw [Act.run_eq, actSentinelCheck_of_missed hprimary hp2 hp0 hmissed]
  refine ⟨?_, ?_, ?_, applyAll_sameStores rfl s⟩
  · refine flag_applyAll_of_fld covers_plinth_primary rfl [_, _] 1 ?_ s
    simp [sparesFld, plinthFld, Fld.FLT_PLINTH.PRIMARY, Fld.FLT_PLINTH.P0_ALIVE]
  · exact flag_applyAll_of_fld covers_plinth_alive rfl [_, _, _] 0 (post := [_]) rfl s
  · rw [applyAll_cons, applyAll_cons, (agree_applyAll [_, _, _] _).flt rfl]
    rfl

theorem actSentinelCheck_of_answered {s : State} (hprimary : s.flag Reg.FLT_PLINTH Fld.FLT_PLINTH.PRIMARY = false)
    (hp2 : s.flag Reg.FLT_PLINTH Fld.FLT_PLINTH.P2_ALIVE = true) (hp0 : s.flag Reg.FLT_PLINTH Fld.FLT_PLINTH.P0_ALIVE = true) :
    actSentinelCheck true s =
      [plinthFld Fld.FLT_PLINTH.RECENT (min 15 (recentRecoveries s).length), .flt fun x => { x with missed := 0 }] := by
  simp only [actSentinelCheck, hprimary, hp2, hp0, Bool.not_true, Bool.false_eq_true, or_self, if_false, if_true]

theorem run_sentinelCheck_of_answered {s : State} (hprimary : s.flag Reg.FLT_PLINTH Fld.FLT_PLINTH.PRIMARY = false)
    (hp2 : s.flag Reg.FLT_PLINTH Fld.FLT_PLINTH.P2_ALIVE = true) (hp0 : s.flag Reg.FLT_PLINTH Fld.FLT_PLINTH.P0_ALIVE = true) :
    let t := (actSentinelCheck true).run s
    t.flt.missed = 0 ∧ t.flag Reg.FLT_PLINTH Fld.FLT_PLINTH.PRIMARY = false ∧ sameStores s t := by
  dsimp only
  rw [Act.run_eq, actSentinelCheck_of_answered hprimary hp2 hp0]
  refine ⟨rfl, ?_, applyAll_sameStores rfl s⟩
  rw [flag_applyAll_of_spares covers_plinth_primary (by simp [sparesFld, plinthFld, Fld.FLT_PLINTH.RECENT, Fld.FLT_PLINTH.PRIMARY]), hprimary]

end Sys2Proof.UnitRows
end

section
/-! Poisoned lines, quarantined contexts and injected faults (R713 to R716, R730). -/
open Sys2Proof Sys2Proof.Machine Sys2Proof.Reads Sys2Proof.ServiceTurn Sys2Proof.Turns Sys2Proof.Spans Sys2Proof.FieldReads
open Sys2Proof.RecoveryRows Sys2Proof.EffectReads Sys2Proof.Wall Sys2Proof.TaskRows Sys2Proof.MemoryLines Sys2Proof.UnitRows

-- Proofs that wait side by side for the kernel would not fit into the memory of one compile.
set_option Elab.async false

namespace Sys2Proof.PoisonedLines

/-! ### The repair of a line -/

theorem reaches_lineRepaired (line : Nat) : Every (reaches [.poison, .prms]) (lineRepaired line) := fun s => by
  simp only [lineRepaired, List.all_append, Bool.and_eq_true]
  refine ⟨rfl, List.all_eq_true.mpr fun e he => ?_⟩
  obtain ⟨n, -, hn⟩ := List.mem_filterMap.mp he
  split at hn
  · rw [← Option.some.inj hn]
    rfl
  · cases hn

theorem sparesLow_lineRepaired (line : Nat) : Every (sparesPrm (Prm.FLT_POISON_LO 0)) (lineRepaired line) := fun s => by
  simp only [lineRepaired, List.all_append, Bool.and_eq_true]
  refine ⟨rfl, List.all_eq_true.mpr fun e he => ?_⟩
  obtain ⟨n, -, hn⟩ := List.mem_filterMap.mp he
  split at hn
  · rw [← Option.some.inj hn]
    simp only [sparesPrm, Prm.FLT_POISON_HI, Prm.FLT_POISON_LO, bne_iff_ne]
    omega
  · cases hn

theorem poison_lineRepaired (line : Nat) (s : State) : ((lineRepaired line).run s).poison.has line = false := by
  have htail : ((lineRepaired line s).drop 1).all (reaches [.prms]) = true := by
    simp only [lineRepaired, List.cons_append, List.nil_append, List.drop_succ_cons, List.drop_zero, List.all_cons, Bool.and_eq_true]
    refine ⟨rfl, List.all_eq_true.mpr fun e he => ?_⟩
    obtain ⟨n, -, hn⟩ := List.mem_filterMap.mp he
    split at hn
    · rw [← Option.some.inj hn]
      rfl
    · cases hn
  have hsplit : lineRepaired line s = .poison line false :: (lineRepaired line s).drop 1 := rfl
  rw [Act.run_eq, hsplit, applyAll_cons, (agree_of_reaches htail _).poison rfl]
  exact has_del_same s.poison line

/-! ### The owner of a line (R713) -/

theorem actPoisonOwnerLookup_of_new {line : Nat} {s : State} (h : s.flt.queue.contains (line, 0) = false) : actPoisonOwnerLookup line s = [] := by
  simp only [actPoisonOwnerLookup, h, Bool.not_false, if_true]

theorem actPoisonOwnerLookup_of_unowned {line : Nat} {s : State} (hqueue : s.flt.queue = [(line, 0)]) (hpoison : s.poison.has line = true)
    (hrow : ownerRow s line = 11) : actPoisonOwnerLookup line s =
      acts [eff [.flt fun x => { x with queue := x.queue.erase (line, 0) }], acts [showPoison line 11, acts [eff [.devClear (lineAddr line) 64],
        lineRepaired line]], syncRepairs] s := by
  have hin : s.flt.queue.contains (line, 0) = true := by simp [hqueue]
  have hfirst : (s.poison.has line && !s.flt.queue.any (fun e => e.1 == line && e.2 != 0)) = true := by simp [hqueue, hpoison]
  simp only [actPoisonOwnerLookup, hin, hfirst, hrow, Bool.not_true, Bool.false_eq_true, if_false, if_true]
  rfl

theorem plain_poisonLow : copyFind (Prm.FLT_POISON_LO 0) prmCopies = none := by decide +kernel

theorem reaches_showPoison (line row : Nat) : Every (reaches [.prms]) (showPoison line row) := fun s => by
  simp only [showPoison, List.all_append, Bool.and_eq_true]
  exact ⟨rfl, all_flatMap_of_forall fun n _ => rfl⟩

theorem low_showPoison (line row : Nat) (s : State) : ((showPoison line row).run s).pn (Prm.FLT_POISON_LO 0) = line % 2 ^ 32 := by
  have htail : ((showPoison line row s).drop 1).all (sparesPrm (Prm.FLT_POISON_LO 0)) = true := by
    simp only [showPoison, List.cons_append, List.nil_append, List.drop_succ_cons, List.drop_zero, List.all_cons, Bool.and_eq_true]
    refine ⟨rfl, all_flatMap_of_forall fun n _ => ?_⟩
    simp [sparesPrm, Prm.FLT_POISON_LO, Prm.FLT_POISON_HI]
    omega
  have hsplit : showPoison line row s = .prm (Prm.FLT_POISON_LO 0) (w32 line) :: (showPoison line row s).drop 1 := rfl
  rw [Act.run_eq, hsplit, applyAll_cons, pn_applyAll_of_spares plain_poisonLow htail, pn_prm_same plain_poisonLow, w32, BitVec.toNat_ofNat]

theorem reaches_syncRepairs : Every (reaches [.prms]) syncRepairs := fun _ => rfl

theorem memRead_devClear (addr n a : Nat) (s : State) : memRead ((Eff.devClear addr n).apply s).devMem a =
    if a < addr ∨ addr + n ≤ a then memRead s.devMem a else 0 := by
  refine (memRead_filter (fun k => decide (k < addr) || decide (addr + n ≤ k)) s.devMem a).trans ?_
  simp only [Bool.or_eq_true, decide_eq_true_eq]

/-- R713: a line that no function owns is cleared. -/
theorem run_poisonOwnerLookup_of_unowned {line : Nat} {s : State} (hqueue : s.flt.queue = [(line, 0)]) (hpoison : s.poison.has line = true)
    (hrow : ownerRow s line = 11) :
    let t := (actPoisonOwnerLookup line).run s
    t.flt.queue = [] ∧ t.poison.has line = false ∧ t.pn (Prm.FLT_POISON_LO 0) = line % 2 ^ 32 ∧
      (∀ a, 64 * line ≤ a → a < 64 * line + 64 → memRead t.devMem a = 0) ∧
      (∀ a, a < 64 * line ∨ 64 * line + 64 ≤ a → memRead t.devMem a = memRead s.devMem a) ∧ t.hostMem = s.hostMem := by
  dsimp only
  rw [run_congr (actPoisonOwnerLookup_of_unowned hqueue hpoison hrow), run_acts_cons, run_acts_cons, run_acts_cons, run_acts_nil, run_acts_cons,
    run_acts_cons, run_acts_nil, run_acts_cons, run_acts_cons, run_acts_nil, run_eff, run_eff, applyAll_cons, applyAll_nil, applyAll_cons, applyAll_nil]
  have hfirst := agree_apply (.flt fun x => { x with queue := x.queue.erase (line, 0) }) s
  have hempty : ((Eff.flt fun x => { x with queue := x.queue.erase (line, 0) }).apply s).flt.queue = [] := by
    show s.flt.queue.erase (line, 0) = []
    simp [hqueue]
  generalize (Eff.flt fun x => { x with queue := x.queue.erase (line, 0) }).apply s = u at hfirst hempty ⊢
  have hshow := (reaches_showPoison line 11).agree u
  have hlow := low_showPoison line 11 u
  generalize (showPoison line 11).run u = v at hshow hlow ⊢
  have hclear := agree_apply (.devClear (lineAddr line) 64) v
  have hread := fun a => memRead_devClear (lineAddr line) 64 a v
  generalize (Eff.devClear (lineAddr line) 64).apply v = w at hclear hread ⊢
  have hrepair := (reaches_lineRepaired line).agree w
  have hkept := (sparesLow_lineRepaired line).pn plain_poisonLow w
  have hwhole := poison_lineRepaired line w
  generalize (lineRepaired line).run w = x at hrepair hkept hwhole ⊢
  have hsync := reaches_syncRepairs.agree x
  have hlast : (syncRepairs.run x).pn (Prm.FLT_POISON_LO 0) = x.pn (Prm.FLT_POISON_LO 0) :=
    Every.pn plain_poisonLow (fun _ => rfl) x
  have hdev (a : Nat) : memRead (syncRepairs.run x).devMem a = if a < 64 * line ∨ 64 * line + 64 ≤ a then memRead s.devMem a else 0 := by
    rw [hsync.devMem rfl, hrepair.devMem rfl, hread, hshow.devMem rfl, hfirst.devMem rfl]
    rfl
  refine ⟨?_, ?_, ?_, fun a hlo hhi => ?_, fun a hout => ?_, ?_⟩
  · rw [hsync.flt rfl, hrepair.flt rfl, hclear.flt rfl, hshow.flt rfl, hempty]
  · rw [hsync.poison rfl, hwhole]
  · rw [hlast, hkept, pn_congr plain_poisonLow (hclear.prms rfl), hlow]
  · rw [hdev, if_neg (by omega)]
  · rw [hdev, if_pos hout]
  · rw [hsync.hostMem rfl, hrepair.hostMem rfl, hclear.hostMem rfl, hshow.hostMem rfl, hfirst.hostMem rfl]

/-! ### A queued line (R715) -/

theorem actPatinaLineRestore_of_switch {line row : Nat} {s : State} (hqueue : s.flt.queue = [(line, row)]) (hrow : row = 5)
    (hready : repairsWait s = false) : actPatinaLineRestore line s =
      acts [eff [.flt fun x => { x with queue := x.queue.filter fun e => e.1 != line }], lineRepaired line, syncRepairs] s := by
  subst hrow
  have hfind : (s.flt.queue.find? fun e => e.1 == line && e.2 != 0) = some (line, 5) := by simp [hqueue]
  simp only [actPatinaLineRestore, hfind, hready, Bool.false_eq_true, if_false]
  rfl

theorem run_patinaLineRestore_of_switch {line row : Nat} {s : State} (hqueue : s.flt.queue = [(line, row)]) (hrow : row = 5)
    (hready : repairsWait s = false) :
    let t := (actPatinaLineRestore line).run s
    t.flt.queue = [] ∧ t.poison.has line = false ∧ sameStores s t := by
  dsimp only
  rw [run_congr (actPatinaLineRestore_of_switch hqueue hrow hready), run_acts_cons, run_acts_cons, run_acts_cons, run_acts_nil, run_eff,
    applyAll_cons, applyAll_nil]
  have hfirst := agree_apply (.flt fun x => { x with queue := x.queue.filter fun e => e.1 != line }) s
  have hempty : ((Eff.flt fun x => { x with queue := x.queue.filter fun e => e.1 != line }).apply s).flt.queue = [] := by
    show (s.flt.queue.filter fun e => e.1 != line) = []
    simp [hqueue]
  generalize (Eff.flt fun x => { x with queue := x.queue.filter fun e => e.1 != line }).apply s = u at hfirst hempty ⊢
  have hrepair := (reaches_lineRepaired line).agree u
  have hwhole := poison_lineRepaired line u
  generalize (lineRepaired line).run u = v at hrepair hwhole ⊢
  have hsync := reaches_syncRepairs.agree v
  exact ⟨by rw [hsync.flt rfl, hrepair.flt rfl, hempty], by rw [hsync.poison rfl, hwhole],
    sameStores_trans (hfirst.sameStores rfl rfl rfl rfl rfl rfl) (sameStores_trans (hrepair.sameStores rfl rfl rfl rfl rfl rfl)
      (hsync.sameStores rfl rfl rfl rfl rfl rfl))⟩

/-! ### A quarantined context (R716) -/

/-- A context that firmware has rebuilt from its descriptor. -/
def rebuilt (on : Bool) (n c : StrCtx) : StrCtx :=
  { c with enabled := on && !c.barred, a := n.a, b := n.b, cnt := .init, high := none, seen := [] }

theorem actCtxQuarantineRebuild_of_ready {idx : Fin 4096} {on : Bool} {c : StrCtx} {s : State} (hon : s.flt.quarantine.find idx = some on)
    (hctx : s.ctx idx = some c) (hready : repairsWait s = false) : ∃ lines : List Nat, actCtxQuarantineRebuild idx s =
      acts (eff [.flt (fun x => { x with quarantine := x.quarantine.del idx }), effCtx idx (rebuilt on (newCtx s c.owner c.desc))] ::
        lines.map lineRepaired) s := by
  refine ⟨((List.range 4).map fun k => (devBase s + 512 * MIB + 256 * idx.val) / 64 + k).filter s.poison.has, ?_⟩
  simp only [actCtxQuarantineRebuild, hon, hctx, hready, Bool.false_eq_true, if_false]
  rfl

theorem run_ctxQuarantineRebuild {idx : Fin 4096} {on : Bool} {c : StrCtx} {s : State} (hon : s.flt.quarantine.find idx = some on)
    (hctx : s.ctx idx = some c) (hready : repairsWait s = false) : ∃ y,
    let t := (actCtxQuarantineRebuild idx).run s
    t.flt.quarantine.find idx = none ∧ t.ctx idx = some y ∧ y.enabled = (on && !c.barred) ∧ y.key = c.key ∧ y.desc = c.desc ∧
      sameStores s t := by
  obtain ⟨lines, hact⟩ := actCtxQuarantineRebuild_of_ready hon hctx hready
  refine ⟨rebuilt on (newCtx s c.owner c.desc) c, ?_⟩
  dsimp only
  rw [run_congr hact, run_acts_cons, run_eff]
  have hlines : Every (reaches [.poison, .prms]) (acts (lines.map lineRepaired)) := .acts fun a ha => by
    obtain ⟨line, -, rfl⟩ := List.mem_map.mp ha
    exact reaches_lineRepaired line
  have hfirst : sameStores s (applyAll [.flt (fun x => { x with quarantine := x.quarantine.del idx }),
      effCtx idx (rebuilt on (newCtx s c.owner c.desc))] s) := applyAll_sameStores rfl s
  have hrest := hlines.agree (applyAll [.flt (fun x => { x with quarantine := x.quarantine.del idx }),
      effCtx idx (rebuilt on (newCtx s c.owner c.desc))] s)
  refine ⟨?_, ?_, rfl, rfl, rfl, sameStores_trans hfirst (hrest.sameStores rfl rfl rfl rfl rfl rfl)⟩
  · rw [hrest.flt rfl]
    exact FMap.find_del_same s.flt.quarantine idx
  · rw [State.ctx, hrest.str rfl]
    refine (find_alter_same s.str.ctxs idx (rebuilt on (newCtx s c.owner c.desc))).trans ?_
    rw [show s.str.ctxs.find idx = some c from hctx]
    rfl

/-! ### Injection and commands (R730) -/

theorem actFltInject_of_locked {v : Word} {tiles : List Nat} {s : State} (h : s.flag Reg.HUB_LOCK Fld.HUB_LOCK.LOCK = true) :
    actFltInject v tiles s = [] := by
  simp only [actFltInject, h, if_true]

theorem actFltInject_of_beat {v : Word} {tiles : List Nat} {s : State} (hlock : s.flag Reg.HUB_LOCK Fld.HUB_LOCK.LOCK = false)
    (hgo : getFld v Fld.FLT_INJECT.GO = 1) (hkind : getFld v Fld.FLT_INJECT.KIND = 4) (hpair : pairEn s = true) : actFltInject v tiles s =
      acts [eff [.reg Reg.FLT_INJECT (setFld v Fld.FLT_INJECT.GO 0)], eff [.flt fun x => { x with beatHold := 20 }]] s := by
  have hunit : ¬(1 ≤ 4 ∧ 4 ≤ 3 ∧ getFld v Fld.FLT_INJECT.UNIT < 2176) := by omega
  simp only [actFltInject, hlock, hgo, hkind, hpair, hunit, Bool.false_eq_true, Nat.one_ne_zero, and_self, if_false, if_true]

theorem hFltInfo_of_cluster {k : Svc} {s : State} (hf : k.f = 0) (hlen : k.cmd.len = 4) (hc : k.n 0 1 < 128)
    (hrsv : zeroAt k.cmd.payload 1 3 = true) : hFltInfo k s = .ok (leBytes 4 (s.rd (Reg.FLT_CLUSTER (k.n 0 1))).toNat ++
      ((List.range 17).flatMap fun j => leBytes 4 (s.rd (Reg.FLT_UNIT (17 * k.n 0 1 + j))).toNat) ++ leBytes 4 (s.pn (Prm.FLT_RX (k.n 0 1))) ++
      leBytes 4 (toRotation s (k.n 0 1))) (eff []) := by
  have hle : ¬ 127 < k.n 0 1 := by omega
  simp only [hFltInfo, checks_cons, checks_nil, badLen_fst, rsv_fst, hlen, notF0_fst hf, hle, hrsv, decide_false, bne_self_eq_false,
    Bool.not_true, Bool.false_eq_true, if_false, eff_nil]

theorem hFltUnfence_of_fenced {k : Svc} {s : State} (hf : k.f = 0) (hlen : k.cmd.len = 4) (hp : k.n 0 2 < 2176)
    (hrsv : zeroAt k.cmd.payload 2 2 = true) (hfenced : slotFenced s (k.n 0 2) = true) : hFltUnfence k s =
      .pending (eff [effUnit (k.n 0 2) fun u => { u with testing := true, wantReturn := false }]) := by
  have hle : ¬ 2175 < k.n 0 2 := by omega
  simp only [hFltUnfence, checks_cons, checks_nil, badLen_fst, rsv_fst, hlen, notF0_fst hf, hle, hrsv, hfenced, decide_false, bne_self_eq_false,
    Bool.not_true, Bool.false_eq_true, if_false]

theorem hFltFence_eq {k : Svc} {s : State} (hf : k.f = 0) (hlen : k.cmd.len = 4) (hp : k.n 0 2 < 2176)
    (hrsv : zeroAt k.cmd.payload 2 2 = true) : hFltFence k s =
      if s.flag (Reg.FLT_CLUSTER (k.n 0 2 / 17)) Fld.FLT_CLUSTER.NO_SPARE = true then .refuse ST_CONFLICT
      else .ok [] (eff [effUnit (k.n 0 2) fun u => { u with wantFence := true }]) := by
  have hle : ¬ 2175 < k.n 0 2 := by omega
  simp only [hFltFence, checks_cons, checks_nil, badLen_fst, rsv_fst, hlen, notF0_fst hf, hle, hrsv, decide_false, bne_self_eq_false,
    Bool.not_true, Bool.false_eq_true, if_false]

/-- Settles O47. -/
theorem unitFaults : Obligations.UnitFaults := by
  refine ⟨fun p kind tiles k s hup hspare hk hne hfree hfirst => ⟨_, rfl, run_unitFault_of_spare p.isLt hup hspare hk hne hfree hfirst⟩,
    fun p kind tiles s hup hagain hfree => ⟨_, rfl, run_unitFault_of_again p.isLt hup hagain hfree⟩,
    fun p kind tiles s hdown => ?_, fun c r k s hr hspare hk hload => ⟨_, rfl, run_spareLoaded hr hspare hk hload⟩,
    fun p s hf hu => ?_, fun p s hf htest hreturn => ?_, fun p s hf htest hreturn => ⟨_, rfl, run_retestDone_of_failed hf htest hreturn⟩,
    fun c k r s hspare hk hrole hon hre hrot hin => ⟨_, rfl, run_eclipseRotation hspare hk hrole hon hre hrot hin⟩,
    fun c k r old s hspare hk hrot hr hold hne hlt => ⟨_, rfl, run_rotationSelftestDone_of_passed hspare hk hrot hr hold hne hlt⟩,
    fun c k r s hspare hk hrot hfirst => ⟨_, rfl, run_rotationSelftestDone_of_failed hspare hk hrot hfirst⟩,
    fun s hprimary hp2 hp0 hmissed => ⟨_, rfl, run_sentinelCheck_of_missed hprimary hp2 hp0 hmissed⟩,
    fun s hprimary hp2 hp0 => ⟨_, rfl, run_sentinelCheck_of_answered hprimary hp2 hp0⟩, fun line s h => ?_,
    fun line s hqueue hpoison hrow _ => ⟨_, rfl, run_poisonOwnerLookup_of_unowned hqueue hpoison hrow⟩,
    fun line row s hqueue hrow hready => ⟨_, rfl, run_patinaLineRestore_of_switch hqueue hrow hready⟩,
    fun idx on c s hon hctx hready => ?_, fun v tiles s h => ?_, fun v tiles s hlock hgo hkind hpair => ?_,
    fun k s hs hf hlen hc hrsv => outcome_turn_of_ok (h := hFltInfo) hs (hFltInfo_of_cluster hf hlen hc hrsv),
    fun k s hs hf hlen hp hrsv hfenced ht => outcome_turn_of_pending (h := hFltUnfence) hs (hFltUnfence_of_fenced hf hlen hp hrsv hfenced) ht,
    fun k s hs hf hlen hp hrsv hspare => ?_, fun k s hs hf hlen hp hrsv hspare => ?_⟩
  · refine congrArg Host.Outcome.next ((run_congr (a := unitFault p kind tiles) (b := acts []) ?_).trans (run_acts_nil s))
    exact (unitFault_of_down hdown).trans (acts_nil _).symm
  · refine ⟨(actFenceRetest p).run s, rfl, ?_⟩
    rw [Act.run_eq, actFenceRetest_of_fenced hf hu, applyAll_cons, applyAll_nil, unitF_effUnit_same]
    exact ⟨rfl, rfl, (agree_apply (effUnit p _) s).sameStores rfl rfl rfl rfl rfl rfl⟩
  · refine ⟨(actRetestDone p true).run s, rfl, ?_⟩
    rw [Act.run_eq, actRetestDone_of_testing hf htest hreturn, Bool.not_true, if_neg Bool.false_ne_true, applyAll_cons, applyAll_nil,
      unitF_effUnit_same]
    exact ⟨rfl, rfl, rfl, (agree_apply (effUnit p _) s).sameStores rfl rfl rfl rfl rfl rfl⟩
  · refine congrArg Host.Outcome.next ((run_congr (a := actPoisonOwnerLookup line) (b := acts []) ?_).trans (run_acts_nil s))
    exact (actPoisonOwnerLookup_of_new h).trans (acts_nil _).symm
  · obtain ⟨y, hy⟩ := run_ctxQuarantineRebuild hon hctx hready
    exact ⟨(actCtxQuarantineRebuild idx).run s, y, rfl, hy⟩
  · refine congrArg Host.Outcome.next ((run_congr (a := actFltInject v tiles) (b := acts []) ?_).trans (run_acts_nil s))
    exact (actFltInject_of_locked h).trans (acts_nil _).symm
  · refine ⟨(actFltInject v tiles).run s, rfl, ?_⟩
    rw [run_congr (actFltInject_of_beat hlock hgo hkind hpair), run_acts_cons, run_acts_cons, run_acts_nil, run_eff, run_eff]
    exact ⟨rfl, sameStores_trans (applyAll_sameStores rfl s) (applyAll_sameStores rfl _)⟩
  · exact outcome_turn_of_ok (h := hFltFence) hs ((hFltFence_eq hf hlen hp hrsv).trans (if_neg (by rw [hspare]; exact Bool.false_ne_true)))
  · exact outcome_turn_of_refuse (h := hFltFence) hs ((hFltFence_eq hf hlen hp hrsv).trans (if_pos hspare)) (by decide)

end Sys2Proof.PoisonedLines
end

section
/-! The two packages of a pair: mirror items, checkpoints, heartbeats, yields, takeovers and planned swaps (R717 to R728). -/
open Sys2Proof Sys2Proof.Machine Sys2Proof.Reads Sys2Proof.ServiceTurn Sys2Proof.Turns Sys2Proof.Spans Sys2Proof.FieldReads
open Sys2Proof.RecoveryRows Sys2Proof.EffectReads Sys2Proof.AudioRows Sys2Proof.Wall Sys2Proof.Tiles Sys2Proof.TaskRows
open Sys2Proof.MemoryLines Sys2Proof.TimeKeeping Sys2Proof.UnitRows

-- Proofs that wait side by side for the kernel would not fit into the memory of one compile.
set_option Elab.async false

namespace Sys2Proof.PairedPackages

/-! ### What the pair shows -/

/-- A field of FLT_PAIR_STAT. -/
def pairField (f : Fld) : Bool := covers (regMask Reg.FLT_PAIR_STAT) f

theorem pairField_active : pairField Fld.FLT_PAIR_STAT.ACTIVE = true := by decide +kernel
theorem pairField_en : pairField Fld.FLT_PAIR_STAT.EN = true := by decide +kernel
theorem pairField_protected : pairField Fld.FLT_PAIR_STAT.PROTECTED = true := by decide +kernel
theorem pairField_warm : pairField Fld.FLT_PAIR_STAT.WARM = true := by decide +kernel
theorem pairField_yielded : pairField Fld.FLT_PAIR_STAT.YIELDED = true := by decide +kernel
theorem pairField_takeover : pairField Fld.FLT_PAIR_STAT.TAKEOVER_US = true := by decide +kernel

theorem plain_hbLost : copyFind Prm.FLT_PAIR_HB_LOST prmCopies = none := by decide +kernel
theorem plain_yields : copyFind Prm.FLT_YIELDS prmCopies = none := by decide +kernel
theorem plain_takeovers : copyFind Prm.FLT_TAKEOVERS prmCopies = none := by decide +kernel
theorem plain_ckptLow : copyFind Prm.FLT_CKPT_SEQ_LO prmCopies = none := by decide +kernel
theorem plain_ckptHigh : copyFind (Prm.FLT_CKPT_SEQ_LO + 1) prmCopies = none := by decide +kernel
theorem plain_mirrorPending : copyFind Prm.FLT_PAIR_MIRROR_PENDING prmCopies = none := by decide +kernel

theorem pairFlag_of_regs {s t : State} (h : t.regs = s.regs) (f : Fld) : pairFlag t f = pairFlag s f := by
  rw [pairFlag, flag_of_rd (s := s) (by rw [State.rd, h, State.rd]), pairFlag]

theorem pairActive_of_regs {s t : State} (h : t.regs = s.regs) : pairActive t = pairActive s := by
  rw [pairActive, pairEn, pairFlag_of_regs h, pairFlag_of_regs h, pairActive, pairEn]

/-- What the fault state holds after effects of which one is on it. -/
theorem flt_applyAll {pre post : List Eff} (hpre : touchesAny pre .flt = false) (hpost : touchesAny post .flt = false) (g : Flt → Flt)
    (s : State) : (applyAll (pre ++ .flt g :: post) s).flt = g s.flt := by
  rw [applyAll_append, applyAll_cons, (agree_applyAll post _).flt hpost, Eff.flt_flt, (agree_applyAll pre s).flt hpre]

theorem pairEn_of_standby {s : State} (h : isStandby s = true) : pairEn s = true := (Bool.and_eq_true_iff.mp h).1

theorem pairActive_of_standby {s : State} (h : isStandby s = true) : pairActive s = false := by
  have hinactive : s.flag Reg.FLT_PAIR_STAT Fld.FLT_PAIR_STAT.ACTIVE = false := by
    simpa using (Bool.and_eq_true_iff.mp h).2
  rw [pairActive, pairFlag, hinactive, Bool.and_false]

theorem pairEn_of_active {s : State} (h : pairActive s = true) : pairEn s = true := (Bool.and_eq_true_iff.mp h).1

/-! ### Heartbeats and their loss (R721) -/

theorem out_emits {s : State} (htrip : tripped s = false) (l : List Out) : (applyAll (l.map Eff.emit) s).out = s.out ++ l := by
  induction l generalizing s with
  | nil => rw [List.map_nil, applyAll_nil, List.append_nil]
  | cons o l ih =>
    rw [List.map_cons, applyAll_cons, emit_of_leaves (.inl htrip)]
    refine (ih (s := { s with out := s.out ++ [o] }) htrip).trans ?_
    rw [List.append_assoc, List.singleton_append]

/-- The heartbeats of the links that are up. -/
def beats (s : State) : List Out := ((List.range 4).filter (xplUp s)).map fun x => .packet 3 (partnerPkg s) ([0, 10] ++ leBytes 1 x)

theorem actPairHeartbeat_of_free {s : State} (hen : pairEn s = true) (hfree : s.flt.beatHold = 0) : ∃ w, actPairHeartbeat s =
    (beats s).map .emit ++ [.prm Prm.FLT_PAIR_HEALTHY_S w] := by
  simp only [actPairHeartbeat, hen, hfree, Bool.not_true, Bool.false_eq_true, if_false, ne_eq, not_true_eq_false, beats, List.map_map]
  exact ⟨_, rfl⟩

theorem run_pairHeartbeat_of_free {s : State} (hen : pairEn s = true) (hfree : s.flt.beatHold = 0) (htrip : tripped s = false) :
    let t := actPairHeartbeat.run s
    (∀ x, x < 4 → xplUp s x = true → .packet 3 (partnerPkg s) ([0, 10] ++ leBytes 1 x) ∈ t.out) ∧ t.flt = s.flt ∧ t.regs = s.regs ∧
      sameStores s t := by
  obtain ⟨w, hact⟩ := actPairHeartbeat_of_free hen hfree
  have hbeats := agree_of_reaches (reaches_emits (beats s)) s
  have hout := out_emits htrip (beats s)
  dsimp only
  rw [Act.run_eq, hact, applyAll_append]
  have hlast := agree_applyAll [.prm Prm.FLT_PAIR_HEALTHY_S w] (applyAll ((beats s).map .emit) s)
  refine ⟨fun x hx hup => ?_, (hlast.flt rfl).trans (hbeats.flt rfl), (hlast.regs rfl).trans (hbeats.regs rfl),
    sameStores_trans (hbeats.sameStores rfl rfl rfl rfl rfl rfl) (hlast.sameStores rfl rfl rfl rfl rfl rfl)⟩
  rw [hlast.out rfl, hout]
  exact List.mem_append_right _ (List.mem_map.mpr ⟨x, List.mem_filter.mpr ⟨List.mem_range.mpr hx, hup⟩, rfl⟩)

theorem actPairHeartbeat_of_held {n : Nat} {s : State} (hen : pairEn s = true) (hheld : s.flt.beatHold = n + 1) :
    actPairHeartbeat s = [.flt fun x => { x with beatHold := x.beatHold - 1 }] := by
  simp only [actPairHeartbeat, hen, hheld, Bool.not_true, Bool.false_eq_true, if_false, ne_eq, Nat.add_one_ne_zero, not_false_eq_true, if_true]

theorem actPairDetectTimeout_of_ring {s : State} (h : isStandby s = true) : actPairDetectTimeout true s =
    [.count Prm.FLT_PAIR_HB_LOST 1, .flt fun x => { x with declared := true }] := by
  simp only [actPairDetectTimeout, pairEn_of_standby h, pairActive_of_standby h, Bool.not_true, Bool.false_eq_true, if_false, if_true]

theorem actPairDetectTimeout_of_standby {s : State} (h : isStandby s = true) : actPairDetectTimeout false s =
    [.count Prm.FLT_PAIR_HB_LOST 1, .count Prm.FLT_PAIR_DECLINED 1, pairFld Fld.FLT_PAIR_STAT.PROTECTED 0,
      .flt fun x => { x with healthy := none }] := by
  simp only [actPairDetectTimeout, pairEn_of_standby h, pairActive_of_standby h, Bool.not_true, Bool.false_eq_true, if_false]

theorem run_pairDetectTimeout_of_standby {s : State} (h : isStandby s = true) :
    let t := (actPairDetectTimeout false).run s
    t.flt.declared = s.flt.declared ∧ pairProtected t = false ∧ t.flt.healthy = none ∧ sameStores s t := by
  dsimp only
  rw [Act.run_eq, actPairDetectTimeout_of_standby h]
  have hflt := flt_applyAll (pre := [.count Prm.FLT_PAIR_HB_LOST 1, .count Prm.FLT_PAIR_DECLINED 1, pairFld Fld.FLT_PAIR_STAT.PROTECTED 0])
    (post := []) rfl rfl (fun x => { x with healthy := none }) s
  exact ⟨(congrArg Flt.declared hflt :), flag_applyAll_of_fld pairField_protected rfl [_, _] 0 (post := [_]) rfl s, (congrArg Flt.healthy hflt :),
    applyAll_sameStores rfl s⟩

/-- Items that wait for no acknowledgement. -/
def noneWait : List Eff := [.flt (fun x => { x with mirror := [] }), .prm Prm.FLT_PAIR_MIRROR_PENDING 0]

theorem flushMirror_of_empty {s : State} (h : s.flt.mirror = []) : flushMirror s = noneWait := by
  simp only [flushMirror, h]
  rfl

theorem swapAbort_of_idle {s : State} (hwarm : s.flt.warm = none) (hswap : s.flt.swap = none) : swapAbort s = [] := by
  simp only [swapAbort, hwarm, hswap, Option.isNone_none, and_self, if_true]

/-- Where nothing waits for the standby and no swap is under way, what ends the pair's protection does no more than its own effects. -/
theorem run_flush_abort {es : List Eff} (hes : touchesAny es .flt = false) {s : State} (hmirror : s.flt.mirror = [])
    (hwarm : s.flt.warm = none) (hswap : s.flt.swap = none) :
    (acts [eff es, flushMirror, swapAbort]).run s = applyAll noneWait (applyAll es s) := by
  have hflt := (agree_applyAll es s).flt hes
  rw [run_acts_cons, run_acts_cons, run_acts_cons, run_acts_nil, run_eff]
  generalize applyAll es s = u at hflt ⊢
  have hwarm' : u.flt.warm = none := hflt ▸ hwarm
  have hswap' : u.flt.swap = none := hflt ▸ hswap
  have hidle : swapAbort (applyAll noneWait u) = [] := swapAbort_of_idle hwarm' hswap'
  rw [Act.run_eq flushMirror, flushMirror_of_empty (hflt ▸ hmirror), Act.run_eq swapAbort, hidle, applyAll_nil]

theorem actPairDetectTimeout_of_active {ring : Bool} {s : State} (h : pairActive s = true) : actPairDetectTimeout ring s =
    acts [eff [.count Prm.FLT_PAIR_HB_LOST 1, pairFld Fld.FLT_PAIR_STAT.PROTECTED 0], flushMirror, swapAbort] s := by
  simp only [actPairDetectTimeout, pairEn_of_active h, h, Bool.not_true, Bool.false_eq_true, if_false, if_true]

theorem run_pairDetectTimeout_of_active {ring : Bool} {s : State} (h : pairActive s = true) (hmirror : s.flt.mirror = [])
    (hwarm : s.flt.warm = none) (hswap : s.flt.swap = none) :
    let t := (actPairDetectTimeout ring).run s
    pairProtected t = false ∧ pairActive t = true ∧ sameStores s t := by
  dsimp only
  rw [run_congr (actPairDetectTimeout_of_active h), run_flush_abort rfl hmirror hwarm hswap]
  have hrest := agree_applyAll noneWait (applyAll [.count Prm.FLT_PAIR_HB_LOST 1, pairFld Fld.FLT_PAIR_STAT.PROTECTED 0] s)
  have hkept (f : Fld) (hf : pairField f = true) (happart : sparesFld Reg.FLT_PAIR_STAT f (pairFld Fld.FLT_PAIR_STAT.PROTECTED 0) = true) :
      pairFlag (applyAll [.count Prm.FLT_PAIR_HB_LOST 1, pairFld Fld.FLT_PAIR_STAT.PROTECTED 0] s) f = pairFlag s f :=
    flag_applyAll_of_spares hf (by rw [List.all_cons, List.all_cons, happart]; rfl) s
  refine ⟨?_, ?_, sameStores_trans (applyAll_sameStores rfl s) (hrest.sameStores rfl rfl rfl rfl rfl rfl)⟩
  · rw [pairProtected, pairFlag_of_regs (hrest.regs rfl)]
    exact flag_applyAll_of_fld pairField_protected rfl [_] 0 (post := []) rfl s
  · rw [pairActive_of_regs (hrest.regs rfl), pairActive, pairEn, hkept _ pairField_en rfl, hkept _ pairField_active rfl]
    exact h

/-! ### A yield (R722) -/

/-- What the active shows as it yields. -/
def yieldEffects (cause : Nat) (s : State) : List Eff :=
  [pairFld Fld.FLT_PAIR_STAT.YIELDED 1, pairFld Fld.FLT_PAIR_STAT.ACTIVE 0, pairFld Fld.FLT_PAIR_STAT.PROTECTED 0, .count Prm.FLT_YIELDS 1,
    .prm Prm.FLT_PAIR_LAST_CAUSE (w32 (Config.freeAt 79 [cause])), pairSend 2 [] s]

theorem pairYield_of_active {cause : Nat} {s : State} (h : pairActive s = true) (hy : pairFlag s Fld.FLT_PAIR_STAT.YIELDED = false) :
    pairYield cause s = acts [eff (yieldEffects cause s), flushMirror, swapAbort] s := by
  simp only [pairYield, h, hy, Bool.not_true, Bool.false_eq_true, or_self, if_false]
  rfl

theorem run_pairYield {cause : Nat} {s : State} (h : pairActive s = true) (hy : pairFlag s Fld.FLT_PAIR_STAT.YIELDED = false)
    (hmirror : s.flt.mirror = []) (hwarm : s.flt.warm = none) (hswap : s.flt.swap = none) :
    let t := (pairYield cause).run s
    pairActive t = false ∧ pairFlag t Fld.FLT_PAIR_STAT.YIELDED = true ∧ pairProtected t = false ∧
      t.pn Prm.FLT_YIELDS = satAdd 0xFFFFFFFF (s.pn Prm.FLT_YIELDS) 1 ∧ sameStores s t := by
  dsimp only
  rw [run_congr (pairYield_of_active h hy), run_flush_abort rfl hmirror hwarm hswap]
  have hrest := agree_applyAll noneWait (applyAll (yieldEffects cause s) s)
  refine ⟨?_, ?_, ?_, ?_, sameStores_trans (applyAll_sameStores rfl s) (hrest.sameStores rfl rfl rfl rfl rfl rfl)⟩
  · have hactive : pairFlag (applyAll (yieldEffects cause s) s) Fld.FLT_PAIR_STAT.ACTIVE = false :=
      flag_applyAll_of_fld pairField_active rfl [_] 0 (post := [_, _, _, _]) rfl s
    rw [pairActive_of_regs (hrest.regs rfl), pairActive, hactive, Bool.and_false]
  · rw [pairFlag_of_regs (hrest.regs rfl)]
    exact flag_applyAll_of_fld pairField_yielded rfl [] 1 (post := [_, _, _, _, _]) rfl s
  · rw [pairProtected, pairFlag_of_regs (hrest.regs rfl)]
    exact flag_applyAll_of_fld pairField_protected rfl [_, _] 0 (post := [_, _, _]) rfl s
  · rw [pn_applyAll_of_spares plain_yields (es := noneWait) rfl]
    show (applyAll ((yieldEffects cause s).take 3 ++ .count Prm.FLT_YIELDS 1 :: (yieldEffects cause s).drop 4) s).pn Prm.FLT_YIELDS = _
    rw [applyAll_append, applyAll_cons, pn_applyAll_of_spares plain_yields (es := (yieldEffects cause s).drop 4) rfl,
      pn_count_same plain_yields, pn_congr plain_yields ((agree_applyAll ((yieldEffects cause s).take 3) s).prms rfl)]

/-! ### A takeover (R723) -/

/-- The parts that a takeover reaches. -/
def takeoverParts : List StatePart := [.regs, .prms, .out, .flt, .wall, .lib, .tlk, .nvs]

/-- The effect clears no event, leaves FLT_PAIR_STAT and the count of takeovers, and reaches no memory. -/
def apartFromPair (e : Eff) : Bool :=
  keepsEvt e && reaches takeoverParts e && sparesReg Reg.FLT_PAIR_STAT e && sparesPrm Prm.FLT_TAKEOVERS e

theorem keepsEvt_of_apartFromPair {e : Eff} (h : apartFromPair e = true) : keepsEvt e = true := by
  simp only [apartFromPair, Bool.and_eq_true] at h
  exact h.1.1.1

theorem reaches_of_apartFromPair {e : Eff} (h : apartFromPair e = true) : reaches takeoverParts e = true := by
  simp only [apartFromPair, Bool.and_eq_true] at h
  exact h.1.1.2

theorem sparesStat_of_apartFromPair {e : Eff} (h : apartFromPair e = true) : sparesReg Reg.FLT_PAIR_STAT e = true := by
  simp only [apartFromPair, Bool.and_eq_true] at h
  exact h.1.2

theorem sparesTakeovers_of_apartFromPair {e : Eff} (h : apartFromPair e = true) : sparesPrm Prm.FLT_TAKEOVERS e = true := by
  simp only [apartFromPair, Bool.and_eq_true] at h
  exact h.2

/-- A property of single effects that another implies. -/
theorem Every.imp {p q : Eff → Bool} (h : ∀ {e}, p e = true → q e = true) {a : Act} (ha : Every p a) : Every q a := fun s =>
  List.all_eq_true.mpr fun e he => h (List.all_eq_true.mp (ha s) e he)

theorem apartFromPair_rebind (cold : Bool) : Every apartFromPair (rebind cold) := fun s => by
  unfold rebind
  split <;> rfl

theorem apartFromPair_takeSeqs (g : Nat) : Every apartFromPair (takeSeqs g) := fun s => by
  unfold takeSeqs
  split
  · rfl
  · exact all_map_of_forall fun _ _ => rfl

theorem apartFromPair_restoreCkpt {g : Nat} (hg : g < 4) : Every apartFromPair (restoreCkpt g) := fun s => by
  unfold restoreCkpt
  split
  · rfl
  · refine Every.cons (.eff ?_) (.cons (apartFromPair_takeSeqs g) (.nil _)) s
    have hlo : Prm.GRP_FRAME_LO g ≠ Prm.FLT_TAKEOVERS := by unfold Prm.GRP_FRAME_LO Prm.FLT_TAKEOVERS; omega
    have hhi : Prm.GRP_FRAME_HI g ≠ Prm.FLT_TAKEOVERS := by unfold Prm.GRP_FRAME_HI Prm.FLT_TAKEOVERS; omega
    simp only [List.all_append, Bool.and_eq_true]
    refine ⟨⟨?_, all_map_of_forall fun _ _ => rfl⟩, by split <;> rfl⟩
    simp [apartFromPair, keepsEvt, reaches, partsOf, takeoverParts, sparesReg, sparesPrm, hlo, hhi]

/-- The layers of the new active show their cameras' next frames. -/
def showCameras : Act := fun s => (List.range 4).map (fun g => effGroup g fun x => { x with shown := match groupCameras s g with
  | y :: _ => sensorFrame s (geo s (lyIndex y.2)).sensor
  | [] => none })

theorem apartFromPair_showCameras : Every apartFromPair showCameras := fun _ => all_map_of_forall fun _ _ => rfl

theorem apartFromPair_nvsRecord (kind : Nat) (data : Bytes) : Every apartFromPair (nvsRecord kind data) := fun _ => rfl

theorem apartFromPair_discoverB (l : Nat) : Every apartFromPair (discoverB l) := fun s => by
  unfold discoverB
  split <;> rfl

/-- What the new active shows. -/
def takeoverEffects (us most ends : Nat) : List Eff :=
  [pairFld Fld.FLT_PAIR_STAT.ACTIVE 1, pairFld Fld.FLT_PAIR_STAT.PROTECTED 0, pairFld Fld.FLT_PAIR_STAT.WARM 0,
    pairFld Fld.FLT_PAIR_STAT.SWAP_PENDING 0, pairFld Fld.FLT_PAIR_STAT.LAST_EVENT 1, pairFld Fld.FLT_PAIR_STAT.TAKEOVER_US (min 65535 us),
    .prm Prm.FLT_PAIR_TAKEOVER_US_MAX (w32 most), .count Prm.FLT_TAKEOVERS 1, .prm Prm.FLT_PAIR_BENDS_SERVED (w32 ends), .raise 247,
    .flt fun x => { x with declared := false, warm := none, swap := none, healthy := none }]

/-- What a takeover does before and after it shows itself. -/
def beforeTakeover : Act := acts [rebind false, actsFor (List.range 4) restoreCkpt, showCameras]
def afterTakeover (us : Nat) (links : List Nat) : Act := acts [nvsRecord 7 (leBytes 4 us), actsFor links discoverB]

theorem apartFromPair_beforeTakeover : Every apartFromPair beforeTakeover :=
  .cons (apartFromPair_rebind false) (.cons (.actsFor fun _ hg => apartFromPair_restoreCkpt (List.mem_range.mp hg))
    (.cons apartFromPair_showCameras (.nil _)))

theorem apartFromPair_afterTakeover (us : Nat) (links : List Nat) : Every apartFromPair (afterTakeover us links) :=
  .cons (apartFromPair_nvsRecord _ _) (.cons (.actsFor fun l _ => apartFromPair_discoverB l) (.nil _))

theorem run_pairTakeover_eq {us : Nat} {s : State} (h : isStandby s = true) (hy : pairFlag s Fld.FLT_PAIR_STAT.YIELDED = false)
    (hdecl : s.flt.declared = true) : (actPairTakeover us).run s = (afterTakeover us (pairedLinks s)).run (applyAll
      (takeoverEffects us (max (s.pn Prm.FLT_PAIR_TAKEOVER_US_MAX) us) (pairedLinks s).length) (beforeTakeover.run s)) := by
  have hact : actPairTakeover us s = acts [rebind false, actsFor (List.range 4) restoreCkpt, showCameras,
      eff (takeoverEffects us (max (s.pn Prm.FLT_PAIR_TAKEOVER_US_MAX) us) (pairedLinks s).length),
      nvsRecord 7 (leBytes 4 us), actsFor (pairedLinks s) discoverB] s := by
    simp only [actPairTakeover, h, hy, hdecl, Bool.not_true, Bool.false_eq_true, or_self, if_false]
    rfl
  rw [run_congr hact]
  simp only [beforeTakeover, afterTakeover, run_acts_cons, run_acts_nil, run_eff]

theorem run_pairTakeover {us : Nat} {s : State} (h : isStandby s = true) (hy : pairFlag s Fld.FLT_PAIR_STAT.YIELDED = false)
    (hdecl : s.flt.declared = true) :
    let t := (actPairTakeover us).run s
    pairActive t = true ∧ pairProtected t = false ∧ t.flt.declared = false ∧ t.evt 247 = true ∧
      t.fld Reg.FLT_PAIR_STAT Fld.FLT_PAIR_STAT.TAKEOVER_US = min 65535 us ∧ t.pn Prm.FLT_TAKEOVERS = satAdd 0xFFFFFFFF (s.pn Prm.FLT_TAKEOVERS) 1 ∧
      t.devMem = s.devMem ∧ t.hostMem = s.hostMem := by
  dsimp only
  rw [run_pairTakeover_eq h hy hdecl]
  generalize max (s.pn Prm.FLT_PAIR_TAKEOVER_US_MAX) us = most
  generalize pairedLinks s = links
  have hbefore := apartFromPair_beforeTakeover
  have hagree := (Every.imp reaches_of_apartFromPair hbefore).agree s
  have hstat := (Every.imp sparesStat_of_apartFromPair hbefore).rd s
  have hcount := (Every.imp sparesTakeovers_of_apartFromPair hbefore).pn plain_takeovers s
  generalize beforeTakeover.run s = u at hagree hstat hcount ⊢
  have hen : pairFlag (applyAll (takeoverEffects us most links.length) u) Fld.FLT_PAIR_STAT.EN = true := by
    rw [pairFlag, flag_applyAll_of_spares pairField_en (by rfl), flag_of_rd hstat]
    exact pairEn_of_standby h
  have hactive : pairFlag (applyAll (takeoverEffects us most links.length) u) Fld.FLT_PAIR_STAT.ACTIVE = true :=
    flag_applyAll_of_fld pairField_active rfl [] 1 (post := (takeoverEffects us most links.length).drop 1) rfl u
  have hprot : pairFlag (applyAll (takeoverEffects us most links.length) u) Fld.FLT_PAIR_STAT.PROTECTED = false :=
    flag_applyAll_of_fld pairField_protected rfl [_] 0 (post := (takeoverEffects us most links.length).drop 2) rfl u
  have htime : (applyAll (takeoverEffects us most links.length) u).fld Reg.FLT_PAIR_STAT Fld.FLT_PAIR_STAT.TAKEOVER_US = min 65535 us :=
    (fld_applyAll_of_fld pairField_takeover ((takeoverEffects us most links.length).take 5) _
      (post := (takeoverEffects us most links.length).drop 6) rfl u).trans (Nat.mod_eq_of_lt (by simp only [Fld.FLT_PAIR_STAT.TAKEOVER_US]; omega))
  have hevt : (applyAll (takeoverEffects us most links.length) u).evt 247 = true :=
    evt_applyAll_of_raise (by decide) rfl (by simp [takeoverEffects]) u
  have htakeovers : (applyAll (takeoverEffects us most links.length) u).pn Prm.FLT_TAKEOVERS = satAdd 0xFFFFFFFF (u.pn Prm.FLT_TAKEOVERS) 1 := by
    show (applyAll ((takeoverEffects us most links.length).take 7 ++ .count Prm.FLT_TAKEOVERS 1 ::
      (takeoverEffects us most links.length).drop 8) u).pn Prm.FLT_TAKEOVERS = _
    rw [applyAll_append, applyAll_cons, pn_applyAll_of_spares plain_takeovers (es := (takeoverEffects us most links.length).drop 8) rfl,
      pn_count_same plain_takeovers, pn_applyAll_of_spares plain_takeovers (es := (takeoverEffects us most links.length).take 7) rfl]
  have hdeclared : (applyAll (takeoverEffects us most links.length) u).flt.declared = false :=
    congrArg Flt.declared (flt_applyAll (pre := (takeoverEffects us most links.length).take 10) (post := []) rfl rfl
      (fun x => { x with declared := false, warm := none, swap := none, healthy := none }) u)
  have hstores := agree_applyAll (takeoverEffects us most links.length) u
  have hdev := (hstores.devMem rfl).trans (hagree.devMem rfl)
  have hhost := (hstores.hostMem rfl).trans (hagree.hostMem rfl)
  generalize applyAll (takeoverEffects us most links.length) u = v at hen hactive hprot htime hevt htakeovers hdeclared hdev hhost ⊢
  have hafter := apartFromPair_afterTakeover us links
  have hlast := (Every.imp reaches_of_apartFromPair hafter).agree v
  have hrest : Every (reaches [.nvs, .regs, .tlk, .out]) (afterTakeover us links) := .cons (fun _ => rfl) (.cons (.actsFor fun l _ => fun x => by
    unfold discoverB
    split <;> rfl) (.nil _))
  have hrd := (Every.imp sparesStat_of_apartFromPair hafter).rd v
  refine ⟨?_, ?_, ?_, (Every.imp keepsEvt_of_apartFromPair hafter).evt (by decide) hevt, ?_, ?_, (hlast.devMem rfl).trans hdev,
    (hlast.hostMem rfl).trans hhost⟩
  · rw [pairActive, pairEn, pairFlag, pairFlag, flag_of_rd hrd, flag_of_rd hrd]
    exact Bool.and_eq_true_iff.mpr ⟨hen, hactive⟩
  · rw [pairProtected, pairFlag, flag_of_rd hrd]
    exact hprot
  · rw [(hrest.agree v).flt rfl, hdeclared]
  · rw [fld_of_rd hrd, htime]
  · rw [(Every.imp sparesTakeovers_of_apartFromPair hafter).pn plain_takeovers, htakeovers, hcount]

/-! ### The mirror (R719) -/

/-- The items of the partner's mirror item. -/
def mirrorItems (prms : List (Nat × Word)) (objs : List (Nat × Nat × Option Bytes)) : List Staged :=
  prms.map (fun x => Staged.prm x.1 x.2) ++ objs.map fun x => Staged.obj x.1 x.2.1 x.2.2

theorem actPairMirrorItem_of_good {seq f : Nat} {p : Fin 96} {group : Fin 4} {prms : List (Nat × Word)} {objs : List (Nat × Nat × Option Bytes)}
    {s : State} (h : isStandby s = true) (hgood : (verdict p (mirrorItems prms objs) none s).1 = none) :
    actPairMirrorItem seq p group (some f) prms objs s = [.arm (fun a => { a with
        clock := a.clock + 1,
        commits := a.commits.put (128 * (1 + seq) + p)
          ⟨0, true, group, f, false, false, mirrorItems prms objs, some 0, a.clock + 1⟩ }), pairSend 8 (leBytes 4 seq) s] := by
  have hgood' : (verdict p (prms.map (fun x => Staged.prm x.1 x.2) ++ objs.map fun x => Staged.obj x.1 x.2.1 x.2.2) none s).1 = none := hgood
  simp only [actPairMirrorItem, h, hgood', Option.isSome_none, Bool.not_true, Bool.false_eq_true, if_false]
  rfl

theorem run_pairMirrorItem_of_good {seq f : Nat} {p : Fin 96} {group : Fin 4} {prms : List (Nat × Word)}
    {objs : List (Nat × Nat × Option Bytes)} {s : State} (h : isStandby s = true)
    (hgood : (verdict p (mirrorItems prms objs) none s).1 = none) :
    let t := (actPairMirrorItem seq p group (some f) prms objs).run s
    t.arm.commits.find (128 * (1 + seq) + p) = some ⟨0, true, group, f, false, false, mirrorItems prms objs, some 0, s.arm.clock + 1⟩ ∧
      t.regs = s.regs ∧ t.prms = s.prms ∧ t.objs = s.objs ∧ sameStores s t := by
  dsimp only
  rw [Act.run_eq, actPairMirrorItem_of_good h hgood]
  generalize mirrorItems prms objs = items
  have hes := agree_applyAll [.arm (fun a => { a with
      clock := a.clock + 1,
      commits := a.commits.put (128 * (1 + seq) + p) ⟨0, true, group, f, false, false, items, some 0, a.clock + 1⟩ }),
    pairSend 8 (leBytes 4 seq) s] s
  refine ⟨?_, hes.regs rfl, hes.prms rfl, hes.objs rfl, hes.sameStores rfl rfl rfl rfl rfl rfl⟩
  rw [applyAll_cons, (agree_applyAll [_] _).arm rfl]
  exact FMap.find_put_same ..

theorem actPairMirrorItem_of_bad {seq f : Nat} {p : Fin 96} {group : Fin 4} {prms : List (Nat × Word)} {objs : List (Nat × Nat × Option Bytes)}
    {s : State} (h : isStandby s = true) (hbad : (verdict p (mirrorItems prms objs) none s).1.isSome = true) :
    actPairMirrorItem seq p group (some f) prms objs s = [] := by
  have hbad' : (verdict p (prms.map (fun x => Staged.prm x.1 x.2) ++ objs.map fun x => Staged.obj x.1 x.2.1 x.2.2) none s).1.isSome = true := hbad
  simp only [actPairMirrorItem, h, hbad', Bool.not_true, Bool.false_eq_true, if_false, if_true]

/-- The rights that a mirror item takes from the principals. -/
def changedRights (s : State) : Act := fun s' =>
  actsFor ((List.range 63).filter fun i => s'.prm (Prm.PRN_RIGHTS_1 i) != s.prm (Prm.PRN_RIGHTS_1 i)) (fun i => acts [
    eff [.raise 94], newRights (i + 1) (s.pn (Prm.PRN_RIGHTS_1 i)) (s'.pn (Prm.PRN_RIGHTS_1 i))]) s'

theorem actPairMirrorItem_of_change {seq idx : Nat} {b : Bytes} {p : Fin 96} {group : Fin 4} {s : State} (h : isStandby s = true) :
    actPairMirrorItem seq p group none [] [(K_SCOPE, idx, some b)] s =
      acts [acts [eff [.obj K_SCOPE idx (some b)], triadClaims p [.obj K_SCOPE idx (some b)]], changedRights s, requestSave,
        eff [pairSend 8 (leBytes 4 seq) s]] s := by
  simp only [actPairMirrorItem, h, Bool.not_true, Bool.false_eq_true, if_false]
  rfl

theorem changedRights_of_same {s u : State} (hregs : u.regs = s.regs) (hprms : u.prms = s.prms) : changedRights s u = [] := by
  have hprm (id : Nat) : u.prm id = s.prm id := by simp only [State.prm, State.rd, State.fld, hregs, hprms]
  have hnone : ((List.range 63).filter fun i => u.prm (Prm.PRN_RIGHTS_1 i) != s.prm (Prm.PRN_RIGHTS_1 i)) = [] :=
    List.filter_eq_nil_iff.mpr fun i _ => by simp [hprm]
  simp only [changedRights, hnone]
  rfl

theorem reaches_requestSave : Every (reaches [.nvs, .regs, .cst]) requestSave := fun s => by
  unfold requestSave
  split
  · rfl
  · simp only [startBankWrite, List.all_append, Bool.and_eq_true]
    exact ⟨rfl, by split <;> rfl⟩

theorem run_pairMirrorItem_of_change {seq idx : Nat} {b : Bytes} {p : Fin 96} {group : Fin 4} {s : State} (h : isStandby s = true) :
    let t := (actPairMirrorItem seq p group none [] [(K_SCOPE, idx, some b)]).run s
    t.obj K_SCOPE idx = some b ∧ t.devMem = s.devMem ∧ t.hostMem = s.hostMem := by
  have hclaims (u : State) : triadClaims p [.obj K_SCOPE idx (some b)] u = [] := rfl
  dsimp only
  rw [run_congr (actPairMirrorItem_of_change h), run_acts_cons, run_acts_cons, run_acts_cons, run_acts_cons, run_acts_nil, run_acts_cons,
    run_acts_cons, run_acts_nil, run_eff, run_eff, applyAll_cons, applyAll_nil, applyAll_cons, applyAll_nil, Act.run_eq (triadClaims p _), hclaims,
    applyAll_nil, Act.run_eq (changedRights s), changedRights_of_same (s := s) (u := (Eff.obj K_SCOPE idx (some b)).apply s) rfl rfl, applyAll_nil]
  have hobj := EffectReads.obj_obj_same K_SCOPE idx (some b) s
  have hu := agree_apply (.obj K_SCOPE idx (some b)) s
  generalize (Eff.obj K_SCOPE idx (some b)).apply s = u at hobj hu ⊢
  have hsave := reaches_requestSave.agree u
  generalize requestSave.run u = v at hsave ⊢
  have hack := agree_apply (pairSend 8 (leBytes 4 seq) s) v
  refine ⟨?_, (hack.devMem rfl).trans ((hsave.devMem rfl).trans (hu.devMem rfl)),
    (hack.hostMem rfl).trans ((hsave.hostMem rfl).trans (hu.hostMem rfl))⟩
  rw [obj_of_objs (hack.objs rfl), obj_of_objs (hsave.objs rfl), hobj]

/-- What the acknowledgement of an item shows. -/
def ackEffects (rest : List (Nat × Nat)) : List Eff :=
  [.flt (fun x => { x with mirror := rest }), .prm Prm.FLT_PAIR_MIRROR_PENDING (w32 rest.length), pairFld Fld.FLT_PAIR_STAT.PROTECTED 1]

theorem actPairMirrorAck_of_commit {seq p : Nat} {rest : List (Nat × Nat)} {s : State} (hmirror : s.flt.mirror = (seq, p) :: rest)
    (hrest : ∀ e ∈ rest, e.1 ≠ seq) (hp : p < 128) : ∃ late : Bool, actPairMirrorAck seq s =
      acts [eff (ackEffects rest ++ if p < 128 ∧ late = true then [.count Prm.FLT_PAIR_MIRROR_LATE 1] else []), armCommit p] s := by
  have hfind : (s.flt.mirror.find? (·.1 == seq)) = some (seq, p) := by simp [hmirror]
  have hfilter : (s.flt.mirror.filter (·.1 != seq)) = rest := by
    rw [hmirror, List.filter_cons_of_neg (by simp), List.filter_eq_self]
    exact fun e he => bne_iff_ne.mpr (hrest e he)
  refine ⟨match s.arm.commits.find p with
    | some c => !c.next && decide (frameAhead s c.group c.requested ≤ 0)
    | none => false, ?_⟩
  simp only [actPairMirrorAck, hfind, hfilter, hp, if_true]
  rfl

theorem run_pairMirrorAck {seq p : Nat} {c : Commit} {rest : List (Nat × Nat)} {s : State} (hmirror : s.flt.mirror = (seq, p) :: rest)
    (hrest : ∀ e ∈ rest, e.1 ≠ seq) (hp : p < 128) (hc : s.arm.commits.find p = some c) :
    let t := (actPairMirrorAck seq).run s
    t.flt.mirror = rest ∧ t.arm.commits.find p = some { c with armed := some s.uptime } ∧
      t.pn Prm.FLT_PAIR_MIRROR_PENDING = rest.length % 2 ^ 32 ∧ pairProtected t = true ∧ sameStores s t := by
  obtain ⟨late, hact⟩ := actPairMirrorAck_of_commit hmirror hrest hp
  dsimp only
  rw [run_congr hact, run_acts_cons, run_acts_cons, run_acts_nil, run_eff, applyAll_append]
  have hmir : (applyAll (ackEffects rest) s).flt.mirror = rest :=
    congrArg Flt.mirror (flt_applyAll (pre := []) (post := [_, _]) rfl rfl (fun x => { x with mirror := rest }) s)
  have hpend : (applyAll (ackEffects rest) s).pn Prm.FLT_PAIR_MIRROR_PENDING = rest.length % 2 ^ 32 := by
    rw [ackEffects, applyAll_cons, applyAll_cons, pn_congr plain_mirrorPending ((agree_applyAll [_] _).prms rfl),
      pn_prm_same plain_mirrorPending, w32, BitVec.toNat_ofNat]
  have hprot : pairProtected (applyAll (ackEffects rest) s) = true :=
    flag_applyAll_of_fld pairField_protected rfl [_, _] 1 (post := []) rfl s
  have hfirst := agree_applyAll (ackEffects rest) s
  have harm := hfirst.arm rfl
  have htime := hfirst.uptime rfl
  have hstores := hfirst.sameStores rfl rfl rfl rfl rfl rfl
  generalize applyAll (ackEffects rest) s = u at hmir hpend hprot harm htime hstores ⊢
  have hlate : (if p < 128 ∧ late = true then [Eff.count Prm.FLT_PAIR_MIRROR_LATE 1] else []).all (reaches [.prms]) = true ∧
      (if p < 128 ∧ late = true then [Eff.count Prm.FLT_PAIR_MIRROR_LATE 1] else []).all (sparesPrm Prm.FLT_PAIR_MIRROR_PENDING) = true := by
    split
    · exact ⟨rfl, rfl⟩
    · exact ⟨rfl, rfl⟩
  have hv := agree_of_reaches hlate.1 u
  have hkept := pn_applyAll_of_spares plain_mirrorPending hlate.2 u
  generalize applyAll (if p < 128 ∧ late = true then [Eff.count Prm.FLT_PAIR_MIRROR_LATE 1] else []) u = v at hv hkept ⊢
  have hcommit : armCommit p v = [.arm (fun a => { a with commits := a.commits.put p { c with armed := some s.uptime } }), passTicket p c.ticket] := by
    rw [armCommit, hv.arm rfl, harm, hc, hv.uptime rfl, htime]
  rw [Act.run_eq, hcommit]
  have hlast := agree_applyAll [.arm (fun a => { a with commits := a.commits.put p { c with armed := some s.uptime } }), passTicket p c.ticket] v
  refine ⟨?_, ?_, ?_, ?_, sameStores_trans hstores (sameStores_trans (hv.sameStores rfl rfl rfl rfl rfl rfl)
    (hlast.sameStores rfl rfl rfl rfl rfl rfl))⟩
  · rw [hlast.flt rfl, hv.flt rfl, hmir]
  · exact FMap.find_put_same v.arm.commits p { c with armed := some s.uptime }
  · rw [pn_congr plain_mirrorPending (hlast.prms rfl), hkept, hpend]
  · rw [pairProtected, pairFlag_of_regs (hlast.regs rfl), pairFlag_of_regs (hv.regs rfl)]
    exact hprot

theorem actPairMirrorAck_of_unknown {seq : Nat} {s : State} (h : ∀ e ∈ s.flt.mirror, e.1 ≠ seq) : actPairMirrorAck seq s = [] := by
  have hfind : (s.flt.mirror.find? (·.1 == seq)) = none := List.find?_eq_none.mpr fun e he => by simpa using h e he
  simp only [actPairMirrorAck, hfind]

/-! ### Checkpoints (R720) -/

/-- The effect leaves the checkpoints that the standby keeps. -/
def KeepsCheckpoints (e : Eff) : Prop := ∀ s : State, (e.apply s).flt.checkpoints = s.flt.checkpoints

theorem keepsCheckpoints_of_all {es : List Eff} (h : (es.all fun e => !touches e .flt) = true) : ∀ e ∈ es, KeepsCheckpoints e := fun e he s =>
  congrArg Flt.checkpoints ((agree_apply e s).flt (by simpa using List.all_eq_true.mp h e he))

theorem keepsCheckpoints_flt {g : Flt → Flt} (h : ∀ f, (g f).checkpoints = f.checkpoints) : KeepsCheckpoints (.flt g) := fun s => h s.flt

theorem keepsCheckpoints_rebind (cold : Bool) : Only KeepsCheckpoints (rebind cold) := fun s => by
  unfold rebind
  split
  · exact List.forall_mem_cons.mpr ⟨keepsCheckpoints_flt fun _ => rfl, fun _ h => nomatch h⟩
  · exact fun _ h => nomatch h

theorem keepsCheckpoints_completeTicket (f id st : Nat) (bs : Bytes) : Only KeepsCheckpoints (completeTicket f id st bs) := fun s e he u =>
  congrArg Flt.checkpoints ((agree_apply e u).flt (by
    have hparts := List.all_eq_true.mp (reaches_completeTicket f id st bs s) e he
    cases htouch : touches e .flt with
    | false => rfl
    | true => exact absurd (List.all_eq_true.mp hparts _ (mem_partsOf htouch)) (by decide)))

theorem keepsCheckpoints_swapAbort : Only KeepsCheckpoints swapAbort := fun s => by
  unfold swapAbort
  split
  · exact fun _ h => nomatch h
  · refine Only.cons (fun u => ?_) (.cons (.ite (fun _ _ h => nomatch h) (keepsCheckpoints_rebind true)) (.cons (fun u => ?_) .nil)) s
    · refine mem_append_of (a := [_, _, _, _]) (keepsCheckpoints_of_all rfl) (b := [_, _, _]) ?_
      exact List.forall_mem_cons.mpr ⟨keepsCheckpoints_flt fun _ => rfl, keepsCheckpoints_of_all rfl⟩
    · unfold swapTicketDone
      split
      · refine Only.cons (fun _ => ?_) (.cons (keepsCheckpoints_completeTicket _ _ _ _) .nil) u
        exact List.forall_mem_cons.mpr ⟨keepsCheckpoints_flt fun _ => rfl, fun _ h => nomatch h⟩
      · exact fun _ h => nomatch h

theorem sparesPrm_completeTicket (id f n st : Nat) (bs : Bytes) : Every (sparesPrm id) (completeTicket f n st bs) := fun s =>
  List.all_eq_true.mpr fun e he => by
    have hparts := List.all_eq_true.mp (reaches_completeTicket f n st bs s) e he
    cases e
    case prm | count | count64 => cases hparts
    case powerOn | packageReset => cases hparts
    all_goals rfl

/-- An aborted swap counts itself, and no other parameter changes. -/
theorem sparesPrm_swapAbort {id : Nat} (h : id ≠ Prm.FLT_SWAP_ABORTS) : Every (sparesPrm id) swapAbort := fun s => by
  unfold swapAbort
  split
  · rfl
  · refine Every.cons (fun u => ?_) (.cons (.ite (fun _ => rfl) fun u => ?_) (.cons (fun u => ?_) (.nil _))) s
    · simp [eff, sparesPrm, pairFld, pairSend, Ne.symm h]
    · unfold rebind
      split <;> rfl
    · unfold swapTicketDone
      split
      · exact Every.cons (fun _ => rfl) (.cons (sparesPrm_completeTicket _ _ _ _ _) (.nil _)) u
      · rfl

/-- What the standby notes of a checkpoint, beside what it missed. -/
def ckptNotes (c : Checkpoint) (kept : List Checkpoint) : List Eff :=
  [.flt (fun x => { x with checkpoints := x.checkpoints.filter (·.group != c.group) ++ kept }),
    .prm Prm.FLT_CKPT_SEQ_LO (w32 c.seq), .prm Prm.FLT_CKPT_SEQ_HI (w32 (c.seq / 2 ^ 32)), .prm Prm.FLT_CKPT_BYTES (w32 c.content.length)]

/-- What follows leaves the notes of a checkpoint. -/
structure LeavesNotes (a : Act) : Prop where
  stores : Every (reaches (.prms :: faultParts)) a
  checkpoints : Only KeepsCheckpoints a
  low : Every (sparesPrm Prm.FLT_CKPT_SEQ_LO) a
  high : Every (sparesPrm (Prm.FLT_CKPT_SEQ_LO + 1)) a

theorem leavesNotes_nil : LeavesNotes (eff []) := ⟨fun _ => rfl, (fun _ _ h => nomatch h), fun _ => rfl, fun _ => rfl⟩

theorem LeavesNotes.cons {a : Act} {t : List Act} (ha : LeavesNotes a) (ht : LeavesNotes (acts t)) : LeavesNotes (acts (a :: t)) :=
  ⟨.cons ha.stores ht.stores, .cons ha.checkpoints ht.checkpoints, .cons ha.low ht.low, .cons ha.high ht.high⟩

theorem LeavesNotes.ite {P : Prop} [Decidable P] {a b : Act} (ha : LeavesNotes a) (hb : LeavesNotes b) : LeavesNotes (if P then a else b) :=
  ⟨.ite ha.stores hb.stores, .ite ha.checkpoints hb.checkpoints, .ite ha.low hb.low, .ite ha.high hb.high⟩

theorem leavesNotes_swapAbort : LeavesNotes swapAbort :=
  ⟨fun s => reaches_of_subset (by decide) (reaches_of_apart (apart_swapAbort s)), keepsCheckpoints_swapAbort, sparesPrm_swapAbort (by decide),
    sparesPrm_swapAbort (by decide)⟩

theorem keepCheckpoint_eq (c : Checkpoint) (s : State) : ∃ (kept : List Checkpoint) (gap : List Eff) (rest : Act), c ∈ kept ∧
    keepCheckpoint c s = acts [eff (ckptNotes c kept ++ gap), rest] s ∧ LeavesNotes (eff gap) ∧ LeavesNotes rest := by
  have hmem (l : List Checkpoint) : c ∈ (l ++ [c]).drop (l.length + 1 - 2) := by
    rw [List.drop_append_of_le_length (by omega)]
    exact List.mem_append_right _ (List.mem_singleton.mpr rfl)
  refine ⟨_, _, _, hmem (s.flt.checkpoints.filter (·.group == c.group)), rfl, ?_, ?_⟩
  · split
    · exact ⟨fun _ => rfl, fun _ => keepsCheckpoints_of_all rfl, fun _ => rfl, fun _ => rfl⟩
    · exact leavesNotes_nil
  · refine .ite (.cons ⟨fun _ => rfl, fun _ => keepsCheckpoints_of_all rfl, fun _ => rfl, fun _ => rfl⟩ (.cons leavesNotes_swapAbort ?_)) leavesNotes_nil
    exact ⟨fun _ => rfl, (fun _ _ h => nomatch h), fun _ => rfl, fun _ => rfl⟩

theorem pn64_ckptNotes (c : Checkpoint) (kept : List Checkpoint) (s : State) :
    (applyAll (ckptNotes c kept) s).pn Prm.FLT_CKPT_SEQ_LO = c.seq % 2 ^ 32 ∧
      (applyAll (ckptNotes c kept) s).pn (Prm.FLT_CKPT_SEQ_LO + 1) = c.seq / 2 ^ 32 % 2 ^ 32 := by
  constructor
  · rw [ckptNotes, applyAll_cons, applyAll_cons, applyAll_cons, applyAll_cons, applyAll_nil, pn_prm_ne (by decide), pn_prm_ne (by decide),
      pn_prm_same plain_ckptLow, w32, BitVec.toNat_ofNat]
  · rw [ckptNotes, applyAll_cons, applyAll_cons, applyAll_cons, applyAll_cons, applyAll_nil, pn_prm_ne (by decide)]
    exact (pn_prm_same plain_ckptHigh (w32 (c.seq / 2 ^ 32)) _).trans (BitVec.toNat_ofNat ..)

/-- The standby hears the active from now on. -/
def markHealthy (now : Nat) (x : Flt) : Flt := { x with healthy := match x.healthy with | some t => some t | none => some now }

theorem actPairCheckpoint_of_standby {seq frame : Nat} {group : Fin 4} {content : Bytes} {s : State} (h : isStandby s = true) :
    actPairCheckpoint seq group frame content s = acts [keepCheckpoint ⟨seq, group, frame, content⟩,
      eff [pairFld Fld.FLT_PAIR_STAT.PROTECTED 1, .flt (markHealthy s.uptime)]] s := by
  simp only [actPairCheckpoint, h, Bool.not_true, Bool.false_eq_true, if_false] <;> rfl

theorem run_pairCheckpoint {seq frame : Nat} {group : Fin 4} {content : Bytes} {s : State} (h : isStandby s = true) :
    let t := (actPairCheckpoint seq group frame content).run s
    pairProtected t = true ∧ ⟨seq, group, frame, content⟩ ∈ t.flt.checkpoints ∧ t.pn64 Prm.FLT_CKPT_SEQ_LO = seq % 2 ^ 64 ∧ sameStores s t := by
  obtain ⟨kept, gap, rest, hmem, hkeep, hgap, hrest⟩ := keepCheckpoint_eq ⟨seq, group, frame, content⟩ s
  have hrun : (actPairCheckpoint seq group frame content).run s = applyAll [pairFld Fld.FLT_PAIR_STAT.PROTECTED 1,
      .flt (markHealthy s.uptime)]
      ((acts [eff gap, rest]).run (applyAll (ckptNotes ⟨seq, group, frame, content⟩ kept) s)) := by
    rw [run_congr (actPairCheckpoint_of_standby h), run_acts_cons, run_congr hkeep]
    simp only [run_acts_cons, run_acts_nil, run_eff, applyAll_append]
  have htail : LeavesNotes (acts [eff gap, rest]) :=
    hgap.cons (hrest.cons ⟨fun _ => rfl, (fun _ _ h => nomatch h), fun _ => rfl, fun _ => rfl⟩)
  obtain ⟨hlow, hhigh⟩ := pn64_ckptNotes ⟨seq, group, frame, content⟩ kept s
  have hckpt : (applyAll (ckptNotes ⟨seq, group, frame, content⟩ kept) s).flt.checkpoints =
      s.flt.checkpoints.filter (·.group != group.val) ++ kept :=
    congrArg Flt.checkpoints (flt_applyAll (pre := []) (post := [_, _, _]) rfl rfl
      (fun x => { x with checkpoints := x.checkpoints.filter (·.group != group.val) ++ kept }) s)
  have hnotes : sameStores s (applyAll (ckptNotes ⟨seq, group, frame, content⟩ kept) s) := applyAll_sameStores rfl s
  dsimp only
  rw [hrun]
  generalize applyAll (ckptNotes ⟨seq, group, frame, content⟩ kept) s = u at hlow hhigh hckpt hnotes ⊢
  have hstores := (htail.stores.agree u).sameStores rfl rfl rfl rfl rfl rfl
  have hchecks : ((acts [eff gap, rest]).run u).flt.checkpoints = u.flt.checkpoints :=
    applyAll_keeps_of_mem (·.flt.checkpoints) (fun e he v => htail.checkpoints u e he v) u
  have hlow' := htail.low.pn plain_ckptLow u
  have hhigh' := htail.high.pn plain_ckptHigh u
  generalize (acts [eff gap, rest]).run u = v at hstores hchecks hlow' hhigh' ⊢
  have hlast := agree_applyAll [pairFld Fld.FLT_PAIR_STAT.PROTECTED 1,
    .flt (markHealthy s.uptime)] v
  refine ⟨flag_applyAll_of_fld pairField_protected rfl [] 1 (post := [_]) rfl v, ?_, ?_,
    sameStores_trans hnotes (sameStores_trans hstores (hlast.sameStores rfl rfl rfl rfl rfl rfl))⟩
  · have hflt := congrArg Flt.checkpoints (flt_applyAll (pre := [pairFld Fld.FLT_PAIR_STAT.PROTECTED 1]) (post := []) rfl rfl
      (markHealthy s.uptime) v)
    rw [List.singleton_append] at hflt
    rw [hflt]
    show _ ∈ v.flt.checkpoints
    rw [hchecks, hckpt]
    exact List.mem_append_right _ hmem
  · rw [State.pn64, pn_congr plain_ckptLow (hlast.prms rfl), pn_congr plain_ckptHigh (hlast.prms rfl), hlow', hhigh', hlow, hhigh]
    show seq % 2 ^ 32 + 2 ^ 32 * (seq / 2 ^ 32 % 2 ^ 32) = seq % 2 ^ 64
    omega

/-! ### Planned swaps (R726, R727) -/

theorem swapStart_of_active {s : State} (h : pairActive s = true) (hwarm : s.flt.warm = none) (hswap : s.flt.swap = none) : swapStart s =
    acts [eff [.flt (fun x => { x with warm := some (s.pn Prm.FLT_PAIR_WARM_FRAMES) }), pairSend 3 [] s], eff []] s := by
  simp only [swapStart, h, hwarm, hswap, Option.isSome_none, Bool.false_eq_true, or_self, if_false, if_true]

theorem swapStart_of_standby {s : State} (h : pairActive s = false) (hwarm : s.flt.warm = none) (hswap : s.flt.swap = none) : swapStart s =
    acts [eff [.flt (fun x => { x with warm := some (s.pn Prm.FLT_PAIR_WARM_FRAMES) }), pairSend 3 [] s],
      acts [eff [pairFld Fld.FLT_PAIR_STAT.WARM 1], rebind false]] s := by
  simp only [swapStart, h, hwarm, hswap, Option.isSome_none, Bool.false_eq_true, or_self, if_false]

theorem run_pairSwapTimer {s : State} (h : pairActive s = true) (hprot : pairProtected s = true) (hper : s.pn Prm.FLT_PAIR_SWAP_S ≠ 0)
    (hwarm : s.flt.warm = none) (hswap : s.flt.swap = none) :
    let t := actPairSwapTimer.run s
    t.flt.warm = some (s.pn Prm.FLT_PAIR_WARM_FRAMES) ∧ t.regs = s.regs ∧ sameStores s t := by
  have hact : actPairSwapTimer s = swapStart s := by simp [actPairSwapTimer, h, hprot, hper]
  dsimp only
  rw [run_congr hact, run_congr (swapStart_of_active h hwarm hswap), run_acts_cons, run_acts_cons, run_acts_nil, run_eff, run_eff, applyAll_nil]
  have hes := agree_applyAll [.flt (fun x => { x with warm := some (s.pn Prm.FLT_PAIR_WARM_FRAMES) }), pairSend 3 [] s] s
  exact ⟨(congrArg Flt.warm (flt_applyAll (pre := []) (post := [pairSend 3 [] s]) rfl rfl
    (fun x => { x with warm := some (s.pn Prm.FLT_PAIR_WARM_FRAMES) }) s) :), hes.regs rfl, hes.sameStores rfl rfl rfl rfl rfl rfl⟩

theorem warm_rebind (cold : Bool) (s : State) : ((rebind cold).run s).flt.warm = s.flt.warm := by
  rw [Act.run_eq]
  unfold rebind
  split <;> rfl

theorem reaches_rebind (cold : Bool) : Every (reaches [.flt]) (rebind cold) := fun s => by
  unfold rebind
  split <;> rfl

theorem run_pairRevert {h : Nat} {s : State} (hstandby : isStandby s = true) (hpref : bitOf (s.pn Prm.FLT_PAIR_CFG) 0 = true)
    (hper : s.pn Prm.FLT_PAIR_REVERT_S ≠ 0) (hhealthy : s.flt.healthy = some h) (hdue : h + s.pn Prm.FLT_PAIR_REVERT_S * secTicks ≤ s.uptime)
    (hboot : s.fld Reg.HUB_BOOT Fld.HUB_BOOT.STATE = 6) (hwarm : s.flt.warm = none) (hswap : s.flt.swap = none) :
    let t := actPairRevert.run s
    t.flt.warm = some (s.pn Prm.FLT_PAIR_WARM_FRAMES) ∧ pairFlag t Fld.FLT_PAIR_STAT.WARM = true ∧ sameStores s t := by
  have hact : actPairRevert s = swapStart s := by simp [actPairRevert, hstandby, hpref, hper, hhealthy, hdue, hboot]
  dsimp only
  rw [run_congr hact, run_congr (swapStart_of_standby (pairActive_of_standby hstandby) hwarm hswap), run_acts_cons, run_acts_cons, run_acts_nil,
    run_eff, run_acts_cons, run_acts_cons, run_acts_nil, run_eff]
  have hfirst := applyAll_sameStores (es := [.flt (fun x => { x with warm := some (s.pn Prm.FLT_PAIR_WARM_FRAMES) }), pairSend 3 [] s]) rfl s
  have hset : (applyAll [.flt (fun x => { x with warm := some (s.pn Prm.FLT_PAIR_WARM_FRAMES) }), pairSend 3 [] s] s).flt.warm =
      some (s.pn Prm.FLT_PAIR_WARM_FRAMES) := (congrArg Flt.warm (flt_applyAll (pre := []) (post := [pairSend 3 [] s]) rfl rfl
    (fun x => { x with warm := some (s.pn Prm.FLT_PAIR_WARM_FRAMES) }) s) :)
  generalize applyAll [.flt (fun x => { x with warm := some (s.pn Prm.FLT_PAIR_WARM_FRAMES) }), pairSend 3 [] s] s = u at hfirst hset ⊢
  have hflag : pairFlag (applyAll [pairFld Fld.FLT_PAIR_STAT.WARM 1] u) Fld.FLT_PAIR_STAT.WARM = true :=
    flag_applyAll_of_fld pairField_warm rfl [] 1 (post := []) rfl u
  have hv := agree_applyAll [pairFld Fld.FLT_PAIR_STAT.WARM 1] u
  generalize applyAll [pairFld Fld.FLT_PAIR_STAT.WARM 1] u = v at hflag hv ⊢
  have hbind := (reaches_rebind false).agree v
  refine ⟨?_, ?_, sameStores_trans hfirst (sameStores_trans (hv.sameStores rfl rfl rfl rfl rfl rfl) (hbind.sameStores rfl rfl rfl rfl rfl rfl))⟩
  · rw [warm_rebind, hv.flt rfl, hset]
  · rw [pairFlag_of_regs (hbind.regs rfl), hflag]

/-! ### Commands (R730) -/

theorem hFltPairSwap_of_ready {k : Svc} {s : State} (hf : k.f = 0) (hlen : k.cmd.len = 0) (h : pairActive s = true)
    (hprot : pairProtected s = true) (hwarm : s.flt.warm = none) (hswap : s.flt.swap = none) : hFltPairSwap k s =
      .pending (acts [eff [.flt fun x => { x with swapTicket := some (k.f, ticketId k.f (s.mbx k.f).nextTicket) }], swapStart]) := by
  simp only [hFltPairSwap, checks_cons, checks_nil, badLen_fst, hlen, notF0_fst hf, h, hprot, hwarm, hswap, Option.isSome_none,
    bne_self_eq_false, Bool.not_true, Bool.or_self, Bool.false_eq_true, if_false]

theorem hFltPairSwap_of_inactive {k : Svc} {s : State} (hf : k.f = 0) (hlen : k.cmd.len = 0) (h : pairActive s = false) :
    hFltPairSwap k s = .refuse ST_CONFLICT := by
  simp only [hFltPairSwap, checks_cons, badLen_fst, hlen, notF0_fst hf, h, bne_self_eq_false, Bool.not_false, Bool.true_or,
    Bool.false_eq_true, if_false, if_true]

theorem hFltPairInfo_of_len {k : Svc} {s : State} (hf : k.f = 0) (hlen : k.cmd.len = 0) : hFltPairInfo k s =
    .ok (leBytes 4 (s.rd Reg.FLT_PAIR_STAT).toNat ++ leBytes 8 (s.pn64 Prm.FLT_CKPT_SEQ_LO) ++ leBytes 8 (s.pn64 Prm.FLT_PAIR_SWAP_FRAME_LO) ++
      leBytes 4 (s.pn Prm.FLT_PAIR_MIRROR_PENDING)) (eff []) := by
  simp only [hFltPairInfo, checks_cons, checks_nil, badLen_fst, hlen, notF0_fst hf, bne_self_eq_false, Bool.false_eq_true, if_false, eff_nil]

/-- A row that does nothing leaves the state. -/
theorem outcome_of_nothing {a : Act} {s : State} (h : a s = []) : a.outcome s = .next s :=
  congrArg Host.Outcome.next ((run_congr (h.trans (acts_nil _).symm)).trans (run_acts_nil s))

/-- Settles O48. -/
theorem packagePairs : Obligations.PackagePairs := by
  refine ⟨fun k s hs hf hlen h hprot hwarm hswap ht =>
      outcome_turn_of_pending (h := hFltPairSwap) hs (hFltPairSwap_of_ready hf hlen h hprot hwarm hswap) ht,
    fun k s hs hf hlen h => outcome_turn_of_refuse (h := hFltPairSwap) hs (hFltPairSwap_of_inactive hf hlen h) (by decide),
    fun k s hs hf hlen => outcome_turn_of_ok (h := hFltPairInfo) hs (hFltPairInfo_of_len hf hlen),
    fun s hen hfree htrip => ⟨_, rfl, run_pairHeartbeat_of_free hen hfree htrip⟩, fun n s hen hheld => ?_, fun s h => ?_,
    fun s h => ⟨_, rfl, run_pairDetectTimeout_of_standby h⟩,
    fun ring s h hmirror hwarm hswap => ⟨_, rfl, run_pairDetectTimeout_of_active h hmirror hwarm hswap⟩,
    fun cause s h hy hmirror hwarm hswap => ⟨_, rfl, run_pairYield h hy hmirror hwarm hswap⟩,
    fun us s h hy hdecl => ⟨_, rfl, run_pairTakeover h hy hdecl⟩, fun us s hdecl => ?_,
    fun seq f p group prms objs s h hgood => ⟨_, rfl, run_pairMirrorItem_of_good h hgood⟩,
    fun seq f p group prms objs s h hbad => outcome_of_nothing (actPairMirrorItem_of_bad h hbad),
    fun seq idx b p group s h => ⟨_, rfl, run_pairMirrorItem_of_change h⟩, fun seq frame group content s h => ⟨_, rfl, run_pairCheckpoint h⟩,
    fun s h hprot hper hwarm hswap => ⟨_, rfl, run_pairSwapTimer h hprot hper hwarm hswap⟩, fun s hper => ?_,
    fun h s hstandby hpref hper hhealthy hdue hboot hwarm hswap =>
      ⟨_, rfl, run_pairRevert hstandby hpref hper hhealthy hdue hboot hwarm hswap⟩,
    fun seq p c rest s hmirror hrest hp hc => ⟨_, rfl, run_pairMirrorAck hmirror hrest hp hc⟩,
    fun seq s h => outcome_of_nothing (actPairMirrorAck_of_unknown h)⟩
  · refine ⟨actPairHeartbeat.run s, rfl, ?_⟩
    rw [Act.run_eq, actPairHeartbeat_of_held hen hheld, applyAll_cons, applyAll_nil]
    refine ⟨?_, rfl, rfl, rfl, (agree_apply (.flt _) s).sameStores rfl rfl rfl rfl rfl rfl⟩
    show s.flt.beatHold - 1 = n
    rw [hheld, Nat.add_sub_cancel]
  · refine ⟨(actPairDetectTimeout true).run s, rfl, ?_⟩
    rw [Act.run_eq, actPairDetectTimeout_of_ring h, applyAll_cons, applyAll_cons, applyAll_nil]
    refine ⟨rfl, rfl, applyAll_sameStores (es := [.count Prm.FLT_PAIR_HB_LOST 1, .flt fun x => { x with declared := true }]) rfl s, ?_⟩
    rw [pn_congr plain_hbLost (prms_apply rfl _), pn_count_same plain_hbLost]
  · exact outcome_of_nothing (by simp [actPairTakeover, hdecl])
  · exact outcome_of_nothing (by simp [actPairSwapTimer, hper])

end Sys2Proof.PairedPackages
end

section
/-! Resets of the package (chapter 23): a package reset clears the reserved bits of HUB_LOCK. -/
open Sys2Proof Sys2Proof.Machine Sys2Proof.Reads Sys2Proof.Spans

-- Proofs that wait side by side for the kernel would not fit into the memory of one compile.
set_option Elab.async false

namespace Sys2Proof.PackageReset

/-- A state in TRAIN with power, whose register file is not in canonical form: reserved bits of HUB_LOCK hold 1. -/
def reservedLock : State :=
  { State.reset with
    regs := (FMap.empty.put Reg.HUB_LOCK (BitVec.allOnes 32)).put Reg.HUB_BOOT 0x60000000#32,
    pins := { State.reset.pins with sysPwrok := true, pkgResetN := true } }

/-- Every package reset loads HUB_LOCK anew, through its mask. -/
theorem rd_lock_reservedLock : ((actPkgResetN false).run reservedLock).rd Reg.HUB_LOCK = 1#32 ∧
    reservedLock.rd Reg.HUB_LOCK = BitVec.allOnes 32 := by
  decide +kernel

/-- Refutes O49: its clause on PKG_RESET_N asks that HUB_LOCK reads the same after a package reset from every state, also from one whose
register file holds 1 in reserved bits of HUB_LOCK, and a package reset writes the register back through its mask, so that these bits
read 0. -/
theorem not_bootAndResets : ¬ Obligations.BootAndResets := by
  intro ⟨_, _, _, hreset, _⟩
  obtain ⟨t, hexec, -, -, -, -, -, hlock, -⟩ := hreset reservedLock (by decide +kernel) (by decide +kernel) (by decide +kernel)
  have ht : t = (actPkgResetN false).run reservedLock := (Host.Outcome.next.inj hexec).symm
  obtain ⟨hafter, hbefore⟩ := rd_lock_reservedLock
  rw [ht, hafter, hbefore] at hlock
  exact absurd hlock (by decide)

end Sys2Proof.PackageReset
end

section
/-! The work of tickets and what acts by time: a self-test that ends (R650), a time acquisition that gives up (R522), samples of an input
port (R555 to R557), and the reset of a drive that does not answer an Abort (R580). -/
open Sys2Proof Sys2Proof.Machine Sys2Proof.Reads Sys2Proof.Spans Sys2Proof.Tickets Sys2Proof.Wall Sys2Proof.Tiles Sys2Proof.TaskRows
open Sys2Proof.AudioRows Sys2Proof.PairedPackages Sys2Proof.FieldReads Sys2Proof.RecoveryRows Sys2Proof.ServiceTurn

-- Proofs that wait side by side for the kernel would not fit into the memory of one compile.
set_option Elab.async false

namespace Sys2Proof.WorkRows

/-! ### The work of a ticket -/

theorem ticket_of_arm {s t : State} (h : t.arm = s.arm) (f id : Nat) : t.ticket f id = s.ticket f id := by
  rw [State.ticket, State.mbx, h, State.ticket, State.mbx]

/-- R103: what a part's work does comes before its ticket shows it done. -/
theorem actTicketedWorkComplete_of_work {f : Fin 96} {ticket status : Nat} {data : Bytes} {k : Ticket} {r : Reply} {s : State}
    (hk : s.ticket f ticket = some k) (hopen : k.done = false) (hrun : ¬ (s.arm.halted = true ∧ (!armless k.opcode) = true))
    (hdisc : k.opcode ≠ 0xB00) (hswap : k.opcode ≠ 0x1303) (hr : ticketWork f status data k s = some r) :
    actTicketedWorkComplete f ticket status data s = acts [r.act, completeTicket f ticket r.status r.payload] s := by
  simp only [actTicketedWorkComplete, hk, hopen, hrun, hdisc, hswap, hr, Bool.false_eq_true, or_self, if_false]

theorem outcome_ticketedWorkComplete {f : Fin 96} {ticket status : Nat} {data : Bytes} {k : Ticket} {r : Reply} {s : State}
    (hk : s.ticket f ticket = some k) (hopen : k.done = false) (hrun : ¬ (s.arm.halted = true ∧ (!armless k.opcode) = true))
    (hdisc : k.opcode ≠ 0xB00) (hswap : k.opcode ≠ 0x1303) (hr : ticketWork f status data k s = some r) :
    exec (.ticketedWorkComplete f ticket status data) s = .next ((completeTicket f ticket r.status r.payload).run (r.act.run s)) := by
  have hact := actTicketedWorkComplete_of_work hk hopen hrun hdisc hswap hr
  refine congrArg Host.Outcome.next ((run_congr hact).trans ?_)
  rw [run_acts_cons, run_acts_cons, run_acts_nil]

/-! ### A self-test that ends (R650) -/

theorem reaches_barCtx (i : Nat) : Every (reaches [.str, .regs, .out]) (barCtx i) := fun s => by
  unfold barCtx
  split <;> rfl

/-- What follows a self-test that found a fault: its count, E249, and the sealed contexts barred. -/
theorem reaches_selftestFault (n : Nat) : Every (reaches [.str, .regs, .prms, .out]) (if n = 0 then eff [] else acts [
    eff [.count Prm.SEC_SELFTEST_FAILS 1, .raise 249], fun s => actsFor (sealedCtxs s) barCtx s]) :=
  .ite (.eff rfl) (.cons (.eff rfl) (.cons (fun s => Every.actsFor (fun i _ t => reaches_of_subset (by decide) (reaches_barCtx i t)) s) (.nil _)))

theorem run_selftestDone (n : Nat) (s : State) :
    let t := (selftestDone n).run s
    t.sec.testResult = n ∧ t.arm = s.arm ∧ sameStores s t := by
  dsimp only
  rw [selftestDone, run_acts_cons, run_acts_cons, run_acts_cons, run_acts_nil, run_eff]
  generalize hu : applyAll _ s = u
  have hresult : u.sec.testResult = n := by
    rw [← hu, applyAll_cons, applyAll_cons, applyAll_cons, (agree_applyAll [_] _).sec rfl]
    rfl
  have hfirst : u.arm = s.arm ∧ sameStores s u := by
    rw [← hu]
    exact ⟨(agree_applyAll _ s).arm rfl, applyAll_sameStores rfl s⟩
  obtain ⟨harm, hsame⟩ := hfirst
  have hfault := (reaches_selftestFault n).agree u
  generalize Act.run _ u = w at hfault
  have hlast := agree_applyAll (syncApproved w) w
  refine ⟨?_, (hlast.arm rfl).trans ((hfault.arm rfl).trans harm),
    sameStores_trans hsame (sameStores_trans (hfault.sameStores rfl rfl rfl rfl rfl rfl) (hlast.sameStores rfl rfl rfl rfl rfl rfl))⟩
  rw [Act.run_eq, hlast.sec rfl, hfault.sec rfl, hresult]

theorem leNat_lt (bs : Bytes) : leNat bs < 256 ^ bs.length := by
  induction bs with
  | nil => exact Nat.one_pos
  | cons b t ih =>
    have hb := b.isLt
    rw [leNat, List.length_cons, Nat.pow_succ]
    omega

theorem fieldN_lt (bs : Bytes) (o n : Nat) : fieldN bs o n < 256 ^ n := by
  refine Nat.lt_of_lt_of_eq (leNat_lt _) ?_
  rw [field_length]

/-- R650: the ticket of SEC_SELFTEST shows which test failed. -/
theorem run_selftestWork {f : Nat} (hf : f < 64) {ticket n : Nat} {k : Ticket} {s : State} (hn : n < 65536) (hk : s.ticket f ticket = some k)
    (hopen : k.done = false) (hpoll : k.poll = false) :
    let t := (completeTicket f ticket (workSelftest n).status (workSelftest n).payload).run ((workSelftest n).act.run s)
    ∃ k', t.ticket f ticket = some k' ∧ k'.done = true ∧ k'.status = ST_OK ∧ k'.result = leBytes 2 n ++ [0, 0] ∧ t.sec.testResult = n ∧
      t.evt f = true ∧ sameStores s t := by
  obtain ⟨hresult, harm, hsame⟩ := run_selftestDone (n % 65536) s
  have hk' := (ticket_of_arm harm f ticket).trans hk
  have hdone := (reaches_completeTicket f ticket ST_OK (leBytes 2 n ++ [0, 0])).agree ((selftestDone (n % 65536)).run s)
  refine ⟨_, ticket_run_completeTicket_same hk' hopen ST_OK _, rfl, rfl, rfl, ?_, evt_run_completeTicket hf hk' hopen hpoll ST_OK _,
    sameStores_trans hsame (hdone.sameStores rfl rfl rfl rfl rfl rfl)⟩
  exact (congrArg Sec.testResult (hdone.sec rfl)).trans (hresult.trans (Nat.mod_eq_of_lt hn))

/-! ### A time acquisition that gives up (R522) -/

theorem run_acquireDone_of_one {f ticket : Nat} {k : Ticket} {s : State} (hone : s.tim.acquire = [(f, ticket)])
    (hk : s.ticket f ticket = some k) (hopen : k.done = false) (status : Nat) :
    let t := (acquireDone status).run s
    t.tim.acquire = [] ∧ (∃ k', t.ticket f ticket = some k' ∧ k'.done = true ∧ k'.status = status) ∧ sameStores s t := by
  have hact : acquireDone status s = acts [completeTicket f ticket status [], eff [.tim fun t => { t with acquire := [] }]] s := by
    simp only [acquireDone, hone, actsFor, List.map_cons, List.map_nil, acts, Act.seq, List.append_nil, eff]
  dsimp only
  rw [run_congr hact, run_acts_cons, run_acts_cons, run_acts_nil, run_eff, applyAll_cons, applyAll_nil]
  exact ⟨rfl, ⟨_, ticket_run_completeTicket_same hk hopen status [], rfl, rfl⟩,
    sameStores_trans (sameStores_run_completeTicket f ticket status [] s) (sameStores_refl _)⟩

/-! ### Samples of an input port (R555 to R557) -/

/-- A parameter of a port by which a sample's place is found, other than the delay that the port shows. -/
theorem pn_audCross {id p : Nat} (hc : copyFind id prmCopies = none) (hne : Prm.AUD_DELAY_IN_FORCE p ≠ id) (a b : Int) (s : State) :
    ((audCross p a b).run s).pn id = s.pn id :=
  Every.pn hc (fun s => Every.cons (p := sparesPrm id) (fun _ => rfl) (.cons (every_audSync (fun _ => rfl) (fun _ => rfl) (fun _ => rfl) fun _ =>
    show sparesPrm id (.prm _ _) = true from bne_iff_ne.mpr hne) (.cons (fun _ => rfl) (.nil _))) s) s

theorem pn_port_audCross (p : Fin 8) (a b : Int) (s : State) :
    let t := (audCross p a b).run s
    t.pn (Prm.AUD_CFG p) = s.pn (Prm.AUD_CFG p) ∧ t.pn (Prm.AUD_PACK p) = s.pn (Prm.AUD_PACK p) ∧
      t.pn (Prm.AUD_RING_FRAMES p) = s.pn (Prm.AUD_RING_FRAMES p) ∧ t.pn64 (Prm.AUD_RING_ADDR_LO p) = s.pn64 (Prm.AUD_RING_ADDR_LO p) := by
  have hcfg : copyFind (Prm.AUD_CFG p) prmCopies = none := plain_prm (b := 0xD00) (st := 32) (c := 8) (by decide +kernel) p.isLt
  have hpack : copyFind (Prm.AUD_PACK p) prmCopies = none := plain_prm (b := 0xD05) (st := 32) (c := 8) (by decide +kernel) p.isLt
  have hframes : copyFind (Prm.AUD_RING_FRAMES p) prmCopies = none := plain_prm (b := 0xD04) (st := 32) (c := 8) (by decide +kernel) p.isLt
  have hlow : copyFind (Prm.AUD_RING_ADDR_LO p) prmCopies = none := plain_prm (b := 0xD02) (st := 32) (c := 8) (by decide +kernel) p.isLt
  have hhigh : copyFind (Prm.AUD_RING_ADDR_LO p + 1) prmCopies = none := by
    have h : copyFind (0xD03 + 32 * p.val) prmCopies = none := plain_prm (b := 0xD03) (st := 32) (c := 8) (by decide +kernel) p.isLt
    rwa [show Prm.AUD_RING_ADDR_LO p + 1 = 0xD03 + 32 * p.val by unfold Prm.AUD_RING_ADDR_LO; omega]
  refine ⟨pn_audCross hcfg ?_ a b s, pn_audCross hpack ?_ a b s, pn_audCross hframes ?_ a b s, ?_⟩
  · unfold Prm.AUD_DELAY_IN_FORCE Prm.AUD_CFG; omega
  · unfold Prm.AUD_DELAY_IN_FORCE Prm.AUD_PACK; omega
  · unfold Prm.AUD_DELAY_IN_FORCE Prm.AUD_RING_FRAMES; omega
  · rw [State.pn64, pn_audCross hlow (by unfold Prm.AUD_DELAY_IN_FORCE Prm.AUD_RING_ADDR_LO; omega),
      pn_audCross hhigh (by unfold Prm.AUD_DELAY_IN_FORCE Prm.AUD_RING_ADDR_LO; omega), State.pn64]

/-- What a sample k of an input port in device memory leaves: its frame at address a, the index behind it, and the peaks. -/
def sampleEffects (p k a : Nat) (frame : Bytes) (peakA peakB : Word) : List Eff :=
  [.dev a frame, .reg (Reg.AUD_RING_PROD p) (w32 (k + 1)), .prm (Prm.AUD_LAST_K p) (w32 k), .prm (Prm.AUD_PEAK_A p) peakA,
    .prm (Prm.AUD_PEAK_B p) peakB]

/-- The write of a sample k to the ring of a port (R556, R557). -/
def putSample (p k : Nat) (a b : BitVec 24) : Act := fun u =>
  if !audEn u p ∧ !(u.audPort p).a.run ∧ !(u.audPort p).b.run then [] else
  [ringWrite (ringFrame u p k) (packSample (u.pn (Prm.AUD_PACK p)) (audPass (u.audPort p).a a.toInt) ++
      packSample (u.pn (Prm.AUD_PACK p)) (audPass (u.audPort p).b b.toInt)),
    .reg (Reg.AUD_RING_PROD p) (w32 (k + 1)), .prm (Prm.AUD_LAST_K p) (w32 k), peakUp u (Prm.AUD_PEAK_A p) a.toInt.natAbs,
    peakUp u (Prm.AUD_PEAK_B p) b.toInt.natAbs]

theorem putSample_of_on {p k : Nat} {s : State} (hen : audEn s p = true) (hdev : ringFrame s p k < 2 ^ 63) (a b : BitVec 24) :
    ∃ peakA peakB, putSample p k a b s = sampleEffects p k (ringFrame s p k) (packSample (s.pn (Prm.AUD_PACK p))
      (audPass (s.audPort p).a a.toInt) ++ packSample (s.pn (Prm.AUD_PACK p)) (audPass (s.audPort p).b b.toInt)) peakA peakB := by
  simp only [putSample, hen, ringWrite, Nat.not_le.mpr hdev, Bool.not_true, Bool.false_eq_true, false_and, if_false]
  exact ⟨_, _, rfl⟩

/-- A sample of an input port with no fault of its line. -/
theorem actAudInputSample_of_good {p : Fin 8} {s : State} (hin : audOut s p = false) (a b : BitVec 24) :
    actAudInputSample p a b true true true s = acts [eff [], audCross p a.toInt b.toInt, putSample p (sampleAt s s.vis) a b,
      Act.when (fun s => audEn s p) (audOverrun p (sampleAt s s.vis + 1))] s := by
  simp only [actAudInputSample, hin, Bool.false_eq_true, if_false, if_true, List.append_nil]
  rfl

theorem regMask_audProd (p : Fin 8) : regMask (Reg.AUD_RING_PROD p) = 0xFFFFFFFF :=
  regMask_word (b := 0xE0008) (st := 0x20) (c := 8) (by decide +kernel) p.isLt

theorem eventWord_audProd (p : Nat) : eventWord (Reg.AUD_RING_PROD p) = false := eventWord_of_gt (by unfold Reg.AUD_RING_PROD; omega)

/-- What the check for an overrun leaves, beside the counts of overruns and E221. -/
theorem every_audOverrun {P : Eff → Bool} (hcount : ∀ id n, P (.count id n) = true) (hraise : P (.raise 221) = true)
    (haud : ∀ g, P (.aud g) = true) (p prod : Nat) : Every P (audOverrun p prod) := fun s => by
  simp only [audOverrun, List.all_append, all_raiseIf hraise, effAud, List.all_cons, List.all_nil, haud, Bool.and_true]
  split
  · simp only [List.all_cons, List.all_nil, hcount, Bool.and_self]
  · rfl

theorem every_when {P : Eff → Bool} {c : State → Bool} {a : Act} (h : Every P a) : Every P (Act.when c a) := fun s => by
  unfold Act.when
  split
  · exact h s
  · rfl

/-- R556, R557: the ring of the port holds the sample, and its index the sample behind it. -/
theorem run_audInputSample {p : Fin 8} {s : State} (hin : audOut s p = false) (hen : audEn s p = true)
    (hdev : ringFrame s p (sampleAt s s.vis) < 2 ^ 63) (a b : BitVec 24) :
    let t := (actAudInputSample p a b true true true).run s
    t.rd (Reg.AUD_RING_PROD p) = w32 (sampleAt s s.vis + 1) ∧
      (∃ x y, t.devMem = memWriteBytes s.devMem (ringFrame s p (sampleAt s s.vis))
        (packSample (s.pn (Prm.AUD_PACK p)) x ++ packSample (s.pn (Prm.AUD_PACK p)) y)) ∧
      t.hostMem = s.hostMem ∧ t.pageMem = s.pageMem := by
  obtain ⟨hcfg, hpack, hframes, hbase⟩ := pn_port_audCross p a.toInt b.toInt s
  have hcross := (reaches_audCross p a.toInt b.toInt).agree s
  dsimp only
  rw [run_congr (actAudInputSample_of_good hin a b), run_acts_cons, run_acts_cons, run_acts_cons, run_acts_cons, run_acts_nil, run_eff, applyAll_nil,
    Act.run_eq (putSample p _ a b)]
  generalize (audCross p a.toInt b.toInt).run s = u at hcfg hpack hframes hbase hcross
  have hframe : ringFrame u p (sampleAt s s.vis) = ringFrame s p (sampleAt s s.vis) := by
    rw [ringFrame, hpack, hframes, hbase, ringFrame]
  obtain ⟨peakA, peakB, hput⟩ := putSample_of_on (by rw [audEn, hcfg]; exact hen) (hframe ▸ hdev) a b
  rw [hput, hframe, hpack]
  have hrest := (every_when (c := fun s => audEn s p) (every_audOverrun (P := reaches [.aud, .regs, .prms, .out]) (fun _ _ => rfl) rfl
    (fun _ => rfl) p (sampleAt s s.vis + 1))).agree
  have hprod := (every_when (c := fun s => audEn s p) (every_audOverrun (P := sparesReg (Reg.AUD_RING_PROD p)) (fun _ _ => rfl)
    (by simp [sparesReg, eventWord_audProd]) (fun _ => rfl) p (sampleAt s s.vis + 1))).rd
  refine ⟨?_, ⟨audPass (u.audPort p).a a.toInt, audPass (u.audPort p).b b.toInt, ?_⟩, ?_, ?_⟩
  · rw [hprod, sampleEffects]
    refine (rd_applyAll_of_reg [_] _ rfl u).trans ?_
    rw [regMask_audProd]
    exact BitVec.and_allOnes
  · rw [(hrest _).devMem rfl, sampleEffects, applyAll_cons, (agree_applyAll _ _).devMem rfl, ← hcross.devMem rfl]
    rfl
  · rw [(hrest _).hostMem rfl, (agree_applyAll _ u).hostMem rfl, hcross.hostMem rfl]
  · rw [(hrest _).pageMem rfl, (agree_applyAll _ u).pageMem rfl, hcross.pageMem rfl]

/-! ### The reset of a drive (R580) -/

theorem plain_drvResets (d : Fin 8) : copyFind (Prm.DRV_RESETS d) prmCopies = none :=
  plain_prm (b := 0xE28) (st := 16) (c := 8) (by decide +kernel) d.isLt

theorem drvResets_issuePieces (d : Fin 8) (s : State) : (issuePieces.run s).pn (Prm.DRV_RESETS d) = s.pn (Prm.DRV_RESETS d) :=
  (every_issuePieces (p := sparesPrm (Prm.DRV_RESETS d)) fun e he => by
    cases he with
    | exits => simp only [sparesPrm, Prm.CST_PS_EXITS, Prm.DRV_RESETS, bne_iff_ne]; omega
    | delayed => simp only [sparesPrm, Prm.CST_DELAYED_REPLIES, Prm.DRV_RESETS, bne_iff_ne]; omega
    | drive x v => simp only [sparesPrm, Prm.DRV_STATE, Prm.DRV_RESETS, bne_iff_ne]; omega
    | _ => rfl).pn (plain_drvResets d) s

/-- The effect changes nothing but the tasks of the clip store. -/
def TaskEff (e : Eff) : Prop :=
  reaches [.cst] e = true ∧ ∀ s : State, (e.apply s).cst.disk = s.cst.disk ∧ (e.apply s).cst.aborting = s.cst.aborting

theorem only_endPiece_of_failed {st : Nat} (hst : st ≠ ST_OK) (f lba : Nat) : Only TaskEff (endPiece f lba st) := fun s e he => by
  unfold endPiece at he
  split at he
  · cases he
  · split at he
    · cases he
    · simp only [hst, false_and, if_false, List.nil_append] at he
      obtain rfl := List.mem_singleton.mp he
      exact ⟨rfl, fun _ => ⟨rfl, rfl⟩⟩

/-- The pieces outstanding on a drive. -/
def outstanding (s : State) (d : Nat) : List (Nat × Nat) :=
  s.cst.tasks.entries.flatMap fun e =>
    (e.2.pieces.filter fun p => p.issued && (e.2.op == OP_FLUSH || s.driveOf p.lba == d)).map fun p => (e.1, p.lba)

theorem actNvmeAbortTimeout_of_aborting {d : Fin 8} {s : State} (h : s.cst.aborting = [d.val]) : actNvmeAbortTimeout d s =
    acts [actsFor (outstanding s d) (fun x => endPiece x.1 x.2 ST_TIMEOUT),
      eff [.count (Prm.DRV_RESETS d) 1, effCst fun c => { c with aborting := c.aborting.filter (· != d.val) }], issuePieces] s := by
  simp only [actNvmeAbortTimeout, h, List.contains_cons, beq_self_eq_true, Bool.true_or, Bool.not_true, Bool.false_eq_true, if_false, outstanding]

theorem run_nvmeAbortTimeout {d : Fin 8} {s : State} (h : s.cst.aborting = [d.val]) :
    let t := (actNvmeAbortTimeout d).run s
    t.cst.aborting = [] ∧ t.pn (Prm.DRV_RESETS d) = satAdd 0xFFFFFFFF (s.pn (Prm.DRV_RESETS d)) 1 ∧ t.cst.disk = s.cst.disk ∧
      t.devMem = s.devMem ∧ t.hostMem = s.hostMem := by
  dsimp only
  rw [run_congr (actNvmeAbortTimeout_of_aborting h), run_acts_cons, run_acts_cons, run_acts_cons, run_acts_nil, run_eff]
  have hfail : Only TaskEff (actsFor (outstanding s d) fun x => endPiece x.1 x.2 ST_TIMEOUT) :=
    .actsFor fun x => only_endPiece_of_failed (by decide) x.1 x.2
  have hreach := agree_of_reaches (List.all_eq_true.mpr fun e he => (hfail s e he).1) s
  have hdisk := applyAll_keeps_of_mem (fun t => t.cst.disk) (fun e he t => ((hfail s e he).2 t).1) s
  have habort := applyAll_keeps_of_mem (fun t => t.cst.aborting) (fun e he t => ((hfail s e he).2 t).2) s
  rw [Act.run_eq (actsFor _ _)]
  generalize applyAll _ s = u at hreach hdisk habort
  generalize hv : applyAll _ u = v
  have hcount : v.pn (Prm.DRV_RESETS d) = satAdd 0xFFFFFFFF (u.pn (Prm.DRV_RESETS d)) 1 := by
    rw [← hv, applyAll_cons, applyAll_cons, applyAll_nil, pn_apply rfl rfl, pn_count_same (plain_drvResets d)]
  have hcst : v.cst = { u.cst with aborting := u.cst.aborting.filter (· != d.val) } := by
    rw [← hv, applyAll_cons, ← (agree_apply (.count (Prm.DRV_RESETS d) 1) u).cst rfl]
    rfl
  have hmid : v.devMem = u.devMem ∧ v.hostMem = u.hostMem := by
    rw [← hv]
    exact ⟨(agree_applyAll _ u).devMem rfl, (agree_applyAll _ u).hostMem rfl⟩
  obtain ⟨hdisk', habort', -⟩ := issues_issuePieces v
  have hissue := reaches_issuePieces.agree v
  obtain ⟨hdev, hhost⟩ := hmid
  refine ⟨?_, ?_, ?_, ?_, ?_⟩
  · rw [habort', hcst, habort, h]
    simp
  · rw [drvResets_issuePieces, hcount, pn_congr (plain_drvResets d) (hreach.prms rfl)]
  · rw [hdisk', hcst, hdisk]
  · rw [hissue.devMem rfl, hdev, hreach.devMem rfl]
  · rw [hissue.hostMem rfl, hhost, hreach.hostMem rfl]

/-- Settles O50: a ticket's work by what it answers, each row by its branch. -/
theorem workAndTimers : Obligations.WorkAndTimers := by
  refine ⟨fun f ticket status data k r s hk hopen hhalt hdisc hswap hr => ?_, fun f ticket status data k s hk hopen hop hpoll => ?_,
    fun f ticket status data s hnone => outcome_of_nothing (by simp [actTicketedWorkComplete, hnone]),
    fun f ticket k s hone hk hopen => ?_, fun p a b s hin hen hdev => ?_,
    fun p a b valid parityOk biphaseOk s hout => outcome_of_nothing (by simp [actAudInputSample, hout]),
    fun d s h => ⟨_, rfl, run_nvmeAbortTimeout h⟩⟩
  · exact outcome_ticketedWorkComplete hk hopen (by simp [hhalt]) hdisc hswap hr
  · obtain ⟨k', hwork⟩ := run_selftestWork f.isLt (fieldN_lt data 0 2) hk hopen hpoll
    refine ⟨_, k', outcome_ticketedWorkComplete (f := ⟨f, Nat.lt_trans f.isLt (by decide)⟩) hk hopen ?_ ?_ ?_ ?_, hwork⟩
    · simp [hop, show armless 0x1104 = true by decide]
    · rw [hop]; decide
    · rw [hop]; decide
    · simp only [ticketWork, hop]
  · obtain ⟨hnone, ⟨k', hticket, hdone, hstatus⟩, hsame⟩ := run_acquireDone_of_one hone hk hopen ST_TIMEOUT
    exact ⟨_, k', rfl, hnone, hticket, hdone, hstatus, hsame⟩
  · obtain ⟨hprod, ⟨x, y, hmem⟩, hkept⟩ := run_audInputSample hin hen hdev a b
    exact ⟨_, x, y, rfl, hprod, hmem, hkept⟩

end Sys2Proof.WorkRows
end
